-- ==== Sys2Proof/Word.lean ====
section
/-! DEFINITION. The byte, and nothing else: registers and fields are natural numbers below a stated width. -/
namespace Sys2Proof

/-- One byte, as the bytes of a packet, a record or a memory are counted (00 R5). -/
abbrev Byte := BitVec 8

end Sys2Proof
end

