-- ==== Sys2Proof/Machine/Shared.lean ====
section
/-! DEFINITION. The records that commands carry as operands: packet headers, frames, what is measured and observed, and
the records two chips of a pair exchange. -/
namespace Sys2Proof

/-- The header of a Brixrum packet, field by field (02 Table 02-1). -/
structure Hdr where
  verFlags : Nat
  opcode : Nat
  len : Nat
  tag : Nat
  dest : Nat
  src : Nat
  flowFn : Nat
  seq : Nat
  deriving DecidableEq, Repr

/-- The two chain ports (03, R84). -/
inductive Port where | u | d
  deriving DecidableEq, Repr

/-- The two flash channels (13 R432). -/
inductive Chan where | c0 | c1
  deriving DecidableEq, Repr

/-- The modulator bits of one set of metrology samples: the fabric cycles after the beat boundary at which the set came out
of the decimation, and for each of the eight channels the 1,024 bits taken, the first the least significant (11 R369, R370).
-/
structure SampleSet where
  after : Nat
  bits : List Nat
  deriving DecidableEq, Repr

/-- What one beat brings from outside: TH_0 to TH_5 in °C, the samples of HOLDUP_SENSE in µV at the sense pin, and the
sample sets that came out of metrology's decimation in the beat that ends (01 R23, R27; 11 R370). -/
structure BeatIn where
  temps : List Int
  sense : List Nat
  sets : List SampleSet := []
  deriving DecidableEq, Repr


/-- A received link data frame: FCS verdict, EtherType, the fields of the link header and the bytes after it
(03 Tables 03-1, 03-2). -/
structure LinkFrame where
  fcsOk : Bool
  etherType : Nat
  lseq : Nat
  lack : Nat
  credit : Nat
  addr : Nat
  packet : List Byte
  deriving DecidableEq, Repr

/-- A received link frame of KIND 0x02 to 0x05: LACK, CREDIT and ADDR of its link header (03 Table 03-2). -/
structure LinkCtl where
  lack : Nat
  credit : Nat
  addr : Nat
  deriving DecidableEq, Repr

/-- A Sync received on U: domain, twoStepFlag, origin, correctionField in 2^-16 ns, reception in ns after the last beat
boundary, and the residence time to its departure on D in 2^-16 ns (03 R103 to R110). -/
structure SyncMsg where
  domain : Nat
  twoStep : Bool
  originSec : Nat
  originNs : Nat
  corr : Int
  rxNs : Nat
  residence : Nat
  deriving DecidableEq, Repr

/-- What start-up finds outside the model's own stored state: DRAM found by training in GiB and whether every rank is of ×4
devices; flash page data size, pages per block, spare bytes, dies of each channel and blocks of a die; whether every anchor
block is erased, an anchor reads, and the key store reads; the nanoseconds the battery counter ran meanwhile; which
of the five components' images verify; the slots whose records fail their unwrap check; and the mapped copies, by channel,
partition and page, that read as erased or carry another tag (17 Table 17-4; 13 R431, R436, R450; 12 R420). -/
structure BootIn where
  ch0Gib : Nat
  ch1Gib : Nat
  widthOk : Bool
  pageSize : Nat
  pagesPerBlock : Nat
  spareBytes : Nat
  dies0 : Nat
  dies1 : Nat
  blocksPerDie : Nat
  anchorsErased : Bool
  anchorReadable : Bool
  keysReadable : Bool
  battElapsed : Nat
  images : List Bool
  badKeys : List Nat := []
  badCopies : List (Chan × (Nat × Nat)) := []
  deriving DecidableEq, Repr

/-- How a lane job ended (12 R409). -/
inductive JobStatus where | ok | authFail | keyAbsent | keyDenied | limit | aborted
  deriving DecidableEq, Repr

/-- One decoded reading: channel, interval end in legal seconds, value and interval length in seconds. -/
structure Rdg where
  ch : Nat
  tend : Nat
  value : Int
  len : Nat
  deriving DecidableEq, Repr

/-- When a frame arrived: at the chain time in ns of the start of its reception, or at the legal second that an ingest item
states (04 R129, Table 04-2). -/
inductive Arr where
  | legal (sec : Nat)
  | chain (ns : Int)
  deriving DecidableEq, Repr

/-- What firmware returns through EF_0 for a slow-path frame (04 R143). -/
structure SlowRet where
  mix : Nat
  rdgs : List Rdg
  src : Nat
  ic : Nat
  fseq : Nat
  mstatus : Nat
  lastEnd : Nat
  arrival : Nat
  unsealed : Bool
  deriving DecidableEq, Repr

/-- A legal authority block beside a field write: its count, and whether its signature verifies (02 R69). -/
structure AuthBlk where
  count : Nat
  sigOk : Bool
  deriving DecidableEq, Repr

/-- TZ_MIN and the DST fields of page 0x31 as one write (11 R405); TZ_MIN is signed. -/
structure TzDst where
  tzMin : Int
  delta : Nat
  startMonth : Nat
  startWeek : Nat
  startDay : Nat
  startHour : Nat
  endMonth : Nat
  endWeek : Nat
  endDay : Nat
  endHour : Nat
  deriving DecidableEq, Repr

/-- A page read by the flash store: channel, die, block, page within it, and the most bits corrected in one codeword, or none
when a codeword was uncorrectable (13 R443). -/
structure PageRead where
  chan : Chan
  die : Nat
  blk : Nat
  page : Nat
  bits : Option Nat
  deriving DecidableEq, Repr

/-- Who posts a lane job (12, "Jobs"). -/
inductive Poster where | infeed | thread | legal | boot | imageCommit | downlink
  deriving DecidableEq, Repr

/-- A lane job's descriptor, and the number of 16-byte blocks it works on (12 Table 12-2). -/
structure LaneJob where
  poster : Poster
  mode : Nat
  keySrc : Nat
  tagLen : Nat
  slot : Nat
  mix : Nat
  level : Nat
  keyGen : Nat
  tag : Nat
  aadLen : Nat
  dataLen : Nat
  iv : List Byte
  src : Nat
  dst : Nat
  deriving DecidableEq, Repr

/-- What consumed a poisoned line: a core running a function, a lane job, an item of work, a DMA copy, state the device
rebuilds from flash, at an address, or a packet in a FIFO bank (14 R466, R467, R480, Table 14-2). -/
inductive Consumer where
  | core (n : Fin 16) (fn : Nat)
  | lane (n : Fin 8)
  | dma
  | rebuilt (addr : Nat)
  | fifo (ef : Fin 32)
  deriving DecidableEq, Repr

/-- A memory array that errors are counted for (14 R464). -/
inductive MemArray where | dram0 | dram1 | sram
  deriving DecidableEq, Repr

/-- A received MAC frame (08 R253, R263, R265): FCS verdict, kind 0 data, 1 MAC command, 2 Enh-Ack; security level, key
identifier mode and index, frame counter and the integrity verdict; the sender's extended address if carried, its short
address; whether it is addressed to the channel and asks for an acknowledgement; payload and levels, and the jitter in ms that a relay
of it would draw (08 R281). -/
structure RadioRx where
  fcsOk : Bool
  kind : Nat
  level : Nat
  keyMode : Nat
  keyIndex : Nat
  fc : Nat
  micOk : Bool
  ext : Option Nat
  short : Nat
  toUs : Bool
  ackReq : Bool
  payload : List Byte
  rssi : Int
  lqi : Nat
  jitter : Nat
  deriving DecidableEq, Repr

/-- A beacon or coordinator realignment heard in member mode (08 R259, R261, R270). -/
structure BeaconIn where
  fromParent : Bool
  realign : Bool
  panId : Nat
  payload : List Byte
  sfd : Int
  deriving DecidableEq, Repr

/-- What a join found: the parent's addresses, PAN, beacon payload, own short address and SFD of its beacon (08 R261). -/
structure JoinIn where
  ext : Nat
  short : Nat
  panId : Nat
  own : Nat
  payload : List Byte
  sfd : Int
  deriving DecidableEq, Repr

/-- A slot agreement from a meter (08 Table 08-6): title, period, cell, drift bound and flags. -/
structure SlotIn where
  ext : Nat
  period : Nat
  cell : Nat
  drift : Nat
  flags : Nat
  deriving DecidableEq, Repr

/-- What the detector, the channel sense and the transmitter show at a crossing: how long the input stays high in ns, the
RMS voltages of the cycle's halves in mV, whether a preamble was heard in the previous cycle and its in-band energy in dB
above the noise floor, the random cycles of a backoff, and for each half-cycle of that cycle the sum of the squared DAC
samples its frame called for, in 2^-30 of full scale squared (09 R298, R306, R319). -/
structure Crossing where
  high : Nat
  half1 : Nat
  half2 : Nat
  preamble : Bool
  energy : Nat
  draw : Nat
  inj : List Nat
  deriving DecidableEq, Repr

/-- An access by CSMA-CA: its backoffs in unit periods, and whether the last sense found the channel clear (08 R259). -/
structure Access where
  draws : List Nat
  clear : Bool
  deriving DecidableEq, Repr

/-- A powerline frame header (09 Table 09-3). -/
structure PlcHdr where
  ctrl : Nat
  mapSeq : Nat
  dest : Nat
  src : Nat
  len : Nat
  lseq : Nat
  deriving DecidableEq, Repr

/-- What the receiver saw of a segment in a half-cycle of a frame, counted from its first: whether the ADC clipped, and the
rise of the energy outside the tones above the noise floor in dB (09 R304). -/
structure Impulse where
  half : Nat
  seg : Nat
  clip : Bool
  rise : Nat
  deriving DecidableEq, Repr

/-- The payload of a powerline frame as heard: the tone index of each slot, none where none was heard, and the impulses the
receiver saw (09 R297, R304). -/
structure PlcHeard where
  tones : List (Option Nat)
  marks : List Impulse
  deriving DecidableEq, Repr

/-- What was measured of a link direction in a TM_PERIOD: neighbour, and by segment and tone the mean SNR in dB, none for a
tone that carried nothing (09 R311). -/
structure ToneMeas where
  addr : Nat
  snr : List (List (Option Int))
  deriving DecidableEq, Repr

/-- What the legal pair computes over one legal second (11 R372, R373): per phase the active and reactive energy in 2^-32 Wh and varh
and the product of RMS voltage and current in 2^-32 VAh, and the registers 0x0101 to 0x0119. -/
structure LegalSecIn where
  e : List Int
  q : List Int
  va : List Nat
  inst : List Int
  deriving DecidableEq, Repr

end Sys2Proof

namespace Sys2Proof.Machine

/-! Records that State holds and that the chips of a pair transfer. -/

/-- A final reply that is held: sequence, CRC of its command, status, detail, data, and whether the ledger holds it
(02 R50, R54, R64). -/
structure Held where
  seq : Nat
  crc : Nat
  hdr : Hdr
  status : Nat
  detail : Nat
  data : List Byte
  durable : Bool
  deriving DecidableEq, Repr

/-- A command in a reorder buffer, with the tick it arrived at (02 R51). -/
structure Early where
  hdr : Hdr
  data : List Byte
  at_ : Nat
  deriving DecidableEq, Repr

/-- Session states (02, "Sessions and sequence numbers"). -/
inductive SessSt where | closed | opened | resume
  deriving DecidableEq, Repr

/-- One session: state, next sequence, reorder buffer and held replies (02 R50 to R58). -/
structure Sess where
  st : SessSt := .closed
  n : Nat := 0
  early : List Early := []
  held : List Held := []
  deriving DecidableEq, Repr

/-- The meter state record (05 Table 05-1), field by field. -/
structure Meter where
  title : Nat
  mix : Nat
  rstate : Nat := 1
  key : Nat
  keyGen : Nat
  keygenAt : Nat := 0
  icHigh : Nat := 0
  icMap : Nat := 0
  wrapped : List Byte := []
  group : Nat
  chEnable : Nat
  template : Nat
  profile : Nat := 0
  mstatus : Nat := 0
  lastFrameEnd : Nat := 0
  lastArrival : Nat := 0
  lastFseq : Nat := 0
  clockOffset : Int := 0
  tamperAt : Nat := 0
  authFails : Nat := 0
  authHour : Nat := 0
  authLogged : Bool := false
  spikeCount : Nat := 0
  rolloverCount : Nat := 0
  nonmonoCount : Nat := 0
  estCount : Nat := 0
  deriving DecidableEq, Repr

/-- A profile template (04 Tables 04-9, 04-10): identifier, interval code, flags, and steps OP, A, B, C, D. -/
structure Template where
  id : Nat
  interval : Nat
  flags : Nat
  steps : List (Nat × Nat × Nat × Nat × Nat)
  deriving DecidableEq, Repr

/-- Presence slot states (04 R151). -/
inductive Slot where | absent | pend | estimated | actual
  deriving DecidableEq, Repr

/-- A channel's presence map: high-water slot, the states of h, h − 1, …, what each PENDING slot held before, and the map
as the accepted records leave it, from which start-up rebuilds (04 R151, R154; 17 R535). -/
structure Presence where
  h : Nat
  slots : List Slot
  before : List (Nat × Slot) := []
  solid : Option (Nat × List Slot) := none
  deriving DecidableEq, Repr

/-- A rule row (05 Table 05-3). -/
structure Row where
  kind : Nat := 0
  interval : Nat := 4
  rollDigits : Nat := 0
  rollWindow : Nat := 10
  flags : Nat := 4
  gapEst : Nat := 4
  spikeFactor : Nat := 40
  spikeConfirm : Nat := 3
  spikeMax : Nat := 0
  spikeMin : Nat := 10
  revTol : Nat := 0
  rangeLo : Int := 0
  rangeHi : Int := 0
  deriving DecidableEq, Repr

/-- A channel tail (05 Table 05-2). -/
structure Tail where
  lastValue : Int := 0
  ref : Int := 0
  lastEnd : Nat := 0
  hasLast : Bool := false
  spikeRun : Nat := 0
  nmRun : Nat := 0
  deriving DecidableEq, Repr

/-- A balance group definition (07 Table 07-2). -/
structure GroupDef where
  feed : Nat := 0
  interval : Nat := 4
  importCh : Nat := 0
  exportCh : Nat := 0xFF
  voltCh : Nat := 0xFF
  iphCh : Nat := 0xFF
  ineuCh : Nat := 0xFF
  flags : Nat := 1
  feedMix : Nat := 0
  feedCh : Nat := 0
  zeroRun : Nat := 16
  reverseRun : Nat := 2
  neutralRun : Nat := 4
  pFix : Nat := 0
  loadPpm : Nat := 0
  pRated : Nat := 100000
  tolAbs : Nat := 100
  tolPpm : Nat := 10000
  missW : Nat := 500
  coverMin : Nat := 9800
  anomClear : Nat := 16
  vPresent : Int := 0
  neutralPpm : Nat := 100000
  neutralMin : Nat := 1
  deriving DecidableEq, Repr

/-- A balance group's state: its definitions in order, each with the instant from which intervals begin under it; windows,
alarms, last closed interval and results (07 R226, R230 to R233, R245). -/
structure GroupSt where
  defs : List (Nat × GroupDef) := []
  lossWin : Nat := 0
  negWin : Nat := 0
  loss : Bool := false
  neg : Bool := false
  lastT : Nat := 0
  lastRes : Int := 0
  lastRatio : Int := 0
  lastFlags : Nat := 0
  closes : Nat := 0
  notCounted : Nat := 0
  deriving DecidableEq, Repr

/-- A member's anomaly state: runs of rules 1 to 3, runs without the condition, active and THEFT rules, each
rule's interval of raising, and the interval of the newest entry (07 R234, R235). -/
structure Anom where
  runs : List Nat := [0, 0, 0]
  clear : List Nat := [0, 0, 0]
  active : Nat := 0
  theft : Nat := 0
  raised : List Nat := [0, 0, 0]
  entryT : Nat := 0
  deriving DecidableEq, Repr

/-- An export stream: whether it is open, and whether it only takes sequences yet, since the group of its EXPORT_OPEN
entry is sealed and its effect does not stand; filter, epoch, next sequence to assign, acknowledgement point (06 R205 to
R209). -/
structure ExpStream where
  isOpen : Bool := false
  opening : Bool := false
  kinds : Nat := 0
  chMask : Nat := 0
  mixLo : Nat := 0
  mixHi : Nat := 0
  epoch : Nat := 0
  next : Nat := 1
  acked : Nat := 0
  deriving DecidableEq, Repr

/-- A Scribe reference (07 Table 07-6). -/
structure ScribeRef where
  type : Nat := 0
  phaseTag : Nat := 0
  groupTag : Nat := 0xFFFF
  source : Nat := 0
  channel : Nat := 0
  deriving DecidableEq, Repr

/-- The origin of a key (12 R423). -/
inductive Origin where | none | plain | wrapped | generated | agreed | fused
  deriving DecidableEq, Repr

/-- A key slot: attribute header fields, whether it holds a key, the key's bytes, origin, SLOT_GEN, legal seconds of the
fill, jobs that have used it (12 R415, R419, R423). -/
structure KeySlot where
  attr : Nat := 0
  type : Nat := 0
  modes : Nat := 0
  persist : Bool := false
  loaded : Bool := false
  key : List Byte := []
  origin : Origin := .none
  gen : Nat := 0
  filledAt : Nat := 0
  jobs : Nat := 0
  deriving DecidableEq, Repr

/-- What a downlink item came from (10 R328). -/
inductive Owner where
  | host
  | push (no : Nat)
  | campaign (no : Nat)
  deriving DecidableEq, Repr

/-- A downlink item (10 R328, R341): the model's number, the identifier once it is sealed, meter, urgency, command, way
asked for, expiry, most transmissions, host reference, body, state of Table 10-1 (0 before its QUEUED entry is released),
the subkind of an entry posted and not released, counter, way code of the last SENT entry, generation, the 16-byte header
and the sealed body, transmissions made, tick of the last, result, detail, sequences of the SENT and of the final entry,
and where it came from. -/
structure DlItem where
  no : Nat
  id : Nat := 0
  mix : Nat
  urgent : Bool := false
  cmd : Nat
  way : Nat := 0
  expiry : Nat
  max : Nat
  hostRef : Nat := 0
  body : List Byte := []
  st : Nat := 0
  posted : Nat := 1
  dlc : Nat := 0
  wayCode : Nat := 0
  keyGen : Nat := 0
  head : List Byte := []
  sealed_ : List Byte := []
  made : Nat := 0
  lastTx : Option Nat := none
  result : Nat := 0
  detail : Nat := 0
  sentSeq : Nat := 0
  finalSeq : Nat := 0
  owner : Owner := .host
  deriving DecidableEq, Repr

/-- A LEGAL entry the pair keeps: LEGAL_NO, subkind, head bytes 3 to 19, body, and whether it is posted (11 R396). -/
structure LegalEnt where
  no : Nat
  sub : Nat
  mid : List Byte
  body : List Byte := []
  posted : Bool := false
  deriving DecidableEq, Repr

/-- The running profile interval: start, the registers at its start, sums and number of the per-second RMS voltages, and
the flags POWER_DOWN and CAL_CHANGED (11 R387). -/
structure ProfRun where
  start : Nat := 0
  base : List Nat := List.replicate 29 0
  volts : List Nat := [0, 0, 0]
  n : Nat := 0
  powerDown : Bool := false
  calChanged : Bool := false
  deriving DecidableEq, Repr

/-- The running demand interval or subinterval: start, A+ total at its start in 2^-32 Wh, the energies of the
subintervals ended since the last split, newest first, and POWER_DOWN (11 R388). -/
structure DemRun where
  start : Nat := 0
  base : Nat := 0
  subs : List Nat := []
  powerDown : Bool := false
  deriving DecidableEq, Repr

/-- The working state of the legal pair that its snapshots and checkpoints hold (11 R376, R396; 15 R500): the 29 energy
accumulators of 0x0001 to 0x000D and 0x0011 to 0x0020 in 2^-32 units, the nine maximum demands with their times, the last
demand, power failures, LEGAL_NO, entries not accepted, running intervals, profile period code in force, net energy by
phase of the running profile period, the latest legal second a profile entry covers, and the legal second up to which
scheduled closures have been dealt with. -/
structure LegalCore where
  acc : List Nat := List.replicate 29 0
  maxD : List (Nat × Nat) := List.replicate 9 (0, 0)
  lastDemand : Nat := 0
  failures : Nat := 0
  nextNo : Nat := 1
  queue : List LegalEnt := []
  prof : ProfRun := {}
  dem : DemRun := {}
  period : Nat := 4
  net : List Int := [0, 0, 0]
  covered : Nat := 0
  schedFrom : Nat := 0
  deriving DecidableEq, Repr

/-- A billing set (11 R390): closure number, scheduled instant or 0, executed instant, cause, flags, and the 320 bytes of
Table 11-6. -/
structure BillSet where
  no : Nat
  sched : Nat
  exec_ : Nat
  cause : Nat
  flags : Nat
  data : List Byte
  deriving DecidableEq, Repr

/-- The nominal calibration set: unit gains, zero offsets, zero phases (11 R380). -/
def nominalCal : List Byte := (List.replicate 8 ([0, 0, 0x40, 0] : List Byte)).flatten ++ List.replicate 22 0

/-- A set of metrology samples (11 R370): its stamp, the chain time of the middle of its window in 2^-16 ns, the beat and the
legal second it is assigned to, its weight, the period on chain time in 2^-16 ns, and the samples of the eight channels. -/
structure MetSet where
  stamp : Int
  beat : Int
  sec : Nat
  weight : Nat
  smp : List (BitVec 24)
  deriving DecidableEq, Repr

/-- The legal pair and its partition (11): working state, newest snapshot, whether a mains loss was declared after it,
whether the pair waits for RUN after a power-on reset, accumulators of the last
checkpoint, calibration set of 54 bytes, and one that is accepted, with the legal second of its release, calendars, billing sets (newest first), legal
log (LOG_SEQ and 28 bytes, oldest first), instantaneous registers 0x0101 to 0x0119, the last legal second ended, the
minute of the last evaluation, the change of local time whose repeated span runs (instant and local time reached), start
of an outage, whether LEGAL_QUEUE_FULL is logged, the ticks of lockstep mismatches, the sample sets of the running legal second, and the sums of the last 64 seconds,
each with whether a checkpoint holds it. -/
structure LegalSt where
  core : LegalCore := {}
  snap : LegalCore := {}
  lossSince : Bool := false
  restore : Bool := true
  check : List Nat := List.replicate 29 0
  calSet : List Byte := nominalCal
  calNext : Option (Option Nat × List Byte) := none
  active : List Byte := []
  passive : List Byte := []
  bills : List BillSet := []
  log : List (Nat × List Byte) := []
  inst : List Int := List.replicate 25 0
  lastSec : Nat := 0
  evalAt : Nat := 0
  again : Option (Nat × Int) := none
  outage : Option Nat := none
  fullLogged : Bool := false
  mismatches : List Nat := []
  sets : List MetSet := []
  sums : List (Bool × LegalSecIn) := []
  deriving DecidableEq, Repr

/-! What the two chips of a Dovetail pair tell one another (15). -/

/-- A beat frame's body (15 Table 15-2): beat, digest, flags, packets received, highest complete group, e_disc, l, m and
the offset of legal time in ns. -/
structure BeatFrame where
  beat : Nat
  digest : Nat
  flags : Nat
  admitCount : Nat
  complete : Nat
  eDisc : Nat
  limitL : Nat
  limitM : Nat
  deltaL : Int
  deriving DecidableEq, Repr

/-- What the partner of a join answers on the pair port (15 R485, R487): the check value of its slot 0, its die serial number,
whether it is in hub role and which subsystems it has enabled, its active firmware versions, its pair's state and number,
LEGAL_COMMISSIONED and CLOSURES, whether an export stream is open, a key loaded in slots 1 to 511 and debug enabled, its beat
number, and whether it is LOCKED. -/
structure PartnerIn where
  check : Nat
  serial : Nat
  hub : Bool
  radio : Bool
  plc : Bool
  metro : Bool
  versions : List Nat
  state : Nat
  pairId : Nat
  commissioned : Bool
  closures : Nat
  streams : Bool
  keys : Bool
  debug : Bool
  beat : Nat
  locked : Bool
  deriving DecidableEq, Repr

/-- What the primary of a join transfers (15 R488): the addresses, the pair's number, the PAIR command with its reply
data, the next group number and ledger sequence, the last group both chips released, settings of classes N and L by key,
what the settings store holds beside the pages, meters, presence maps and tails, sessions, export streams, open downlink
items with the downlink counters, key slots, and the legal partition. -/
structure PairXfer where
  primary : Nat
  id : Nat
  hdr : Hdr
  data : List Byte
  reply : List Byte
  nextGroup : Nat
  nextLseq : Nat
  lastBoth : Nat
  settings : List (Nat × Nat)
  templates : List Template
  rows : List (Nat × Row)
  profiles : List (Nat × List Nat)
  groups : List (Nat × GroupSt)
  anoms : List (Nat × Anom)
  refSets : List (Nat × List ScribeRef)
  meters : List Meter
  presence : List ((Nat × Nat) × Presence)
  tails : List ((Nat × Nat) × Tail)
  sess : List Sess
  streams : List ExpStream
  items : List DlItem
  dlc : List (Nat × Nat)
  keys : List (Nat × KeySlot)
  legal : LegalSt
  deriving DecidableEq, Repr

/-- How a chip starts at beat Z (15 R488): the primary learns the partner's next group number and ledger sequence, the
partner what was transferred. -/
inductive PairStart where
  | primary (nextGroup nextLseq : Nat)
  | shadow (x : PairXfer)
  deriving DecidableEq, Repr

end Sys2Proof.Machine
end

