-- ==== Sys2Proof/Syntax.lean ====
section
/-! DEFINITION. The commands: one constructor for every row of spec/opcode_table.json, with what its sender or the
environment supplies. Host commands carry a packet header and the payload bytes; field writes a header and the value;
events what is observed at that event. -/
namespace Sys2Proof

/-- The commands the device takes, in the table's order. -/
inductive Instr where
  /-- Host command that returns its payload unchanged with DONE (R71). -/
  | nop (h : Hdr) (p : List Byte)
  /-- Opens a session at START_SEQ, or resumes a session in RESUME when the resume flag is set (R56). -/
  | openSession (h : Hdr) (p : List Byte)
  /-- Sets the session CLOSED at the first beat boundary after its ACCEPTED reply is recorded (R58). -/
  | closeSession (h : Hdr) (p : List Byte)
  /-- Reports the state, N, held replies and reorder-buffer use of the named session (R58). -/
  | getSession (h : Hdr) (p : List Byte)
  /-- Returns the die serial number, IDCODE, role, chain address, key check value and firmware component versions (R59). -/
  | getIdentity (h : Hdr) (p : List Byte)
  /-- Returns the power state, last reset cause, flags, beat number and other status captured at one beat boundary (R60). -/
  | getStatus (h : Hdr) (p : List Byte)
  /-- Resets one named function, discarding its unaccepted work and ending its open commands ABORTED (R80). -/
  | funcReset (h : Hdr) (p : List Byte)
  /-- With the confirm word, records DONE and then starts a device reset within 1 ms (R81). -/
  | devReset (h : Hdr) (p : List Byte)
  /-- With the confirm word, completes the hold-up flush and then drives PWR_REQ_N low until main power is lost (R81). -/
  | pwrCycleReq (h : Hdr) (p : List Byte)
  /-- Assigns a chain address to the nearest unaddressed chip, or reports the chip's state as a census (R96). -/
  | enumerate (h : Hdr) (p : List Byte)
  /-- Returns the state, neighbour, credit, delay and counters of ports U and D (R98). -/
  | getLinkStatus (h : Hdr) (p : List Byte)
  /-- Under legal authority, steps legal time to a new offset from chain time when commissioning, diverged or invalid (R116). -/
  | setLegalTime (h : Hdr) (p : List Byte) (sigOk : Bool)
  /-- Steps slot time once and sets SLOT_STEPPED (R117). -/
  | setSlotTime (h : Hdr) (p : List Byte)
  /-- Returns chain, legal and slot time, the Plumb state, flags and the last offset (R120). -/
  | getTime (h : Hdr) (p : List Byte)
  /-- Returns a whole parameter page as it stood at one beat boundary (R76). -/
  | getParam (h : Hdr) (p : List Byte)
  /-- Validates a masked write to a parameter page as a whole and writes fields that have no behaviour of their own (R75). -/
  | setParam (h : Hdr) (p : List Byte) (sigOk : Bool)
  /-- Returns the reset value of every field of a page (R77). -/
  | getParamDefaults (h : Hdr) (p : List Byte)
  /-- Writes the reset value to every RW field of a page, excluding RWL, L and B fields (R77). -/
  | restoreDefaults (h : Hdr) (p : List Byte)
  /-- Checks and holds one part of a host batch, and starts processing once every byte of the batch is held (R158). -/
  | ingestBatch (h : Hdr) (p : List Byte)
  /-- Reports the state, bytes held, lowest missing offset and remaining time of a batch (R160). -/
  | getBatchStatus (h : Hdr) (p : List Byte)
  /-- Enrols a meter title under a MIX, or raises its key generation (R131). -/
  | enrolMeter (h : Hdr) (p : List Byte)
  /-- Retires a MIX so that frames from its title are treated as coming from an unknown title (R133). -/
  | retireMeter (h : Hdr) (p : List Byte)
  /-- Checks and loads a DLMS profile template into an index (R141). -/
  | loadProfileTemplate (h : Hdr) (p : List Byte)
  /-- Opens a stream port, resetting its packet numbering and granting credit (R474). -/
  | streamOpen (h : Hdr) (p : List Byte)
  /-- Drops any packet in progress and sets the stream port closing (R474). -/
  | streamClose (h : Hdr) (p : List Byte)
  /-- Unsequenced fragment of a stream packet, handled by the fragment table (R475). -/
  | streamData (h : Hdr) (p : List Byte)
  /-- Returns the 128-byte meter state record of a MIX (R166). -/
  | getMeter (h : Hdr) (p : List Byte)
  /-- Validates and loads rule rows, profiles or profile assignments as a whole (R170). -/
  | setRules (h : Hdr) (p : List Byte)
  /-- Writes an edited replacement record for one key in the meter's atomic flow (R187). -/
  | editReading (h : Hdr) (p : List Byte)
  /-- Opens an export stream with a filter and a new epoch, or returns the current values of an open stream (R206). -/
  | exportOpen (h : Hdr) (p : List Byte)
  /-- Returns whole entries of an export stream from FROM_XSEQ (R207). -/
  | exportRead (h : Hdr) (p : List Byte)
  /-- Moves a stream's acknowledgement point cumulatively to ACK_XSEQ (R208). -/
  | exportAck (h : Hdr) (p : List Byte)
  /-- Closes an export stream from the release of its entry (R209). -/
  | exportClose (h : Hdr) (p : List Byte)
  /-- Returns accepted entries selected by key and end range or by ledger sequence (R210). -/
  | ledgerQuery (h : Hdr) (p : List Byte)
  /-- Returns the ledger sequences, segment counts, in-flight data and state bits (R211). -/
  | ledgerStatus (h : Hdr) (p : List Byte)
  /-- Admits a non-urgent downlink item for a meter as QUEUED (R329). -/
  | dlQueue (h : Hdr) (p : List Byte)
  /-- Admits an urgent downlink item whose COMMAND, QUEUED and SENT entries share one group (R340). -/
  | dlUrgent (h : Hdr) (p : List Byte)
  /-- Reports the state of a downlink item or a tariff push (R341). -/
  | dlStatus (h : Hdr) (p : List Byte)
  /-- Cancels a QUEUED item, or stops a push and cancels its queued items (R342). -/
  | dlCancel (h : Hdr) (p : List Byte)
  /-- Checks a tariff table and compiles it into a push of parts for the selected meters (R344). -/
  | tariffPush (h : Hdr) (p : List Byte)
  /-- Checks and creates a meter firmware campaign, generating its campaign key (R348). -/
  | campaignCreate (h : Hdr) (p : List Byte)
  /-- Resumes, pauses, aborts or activates a firmware campaign (R353). -/
  | campaignControl (h : Hdr) (p : List Byte)
  /-- Returns a campaign header and its per-meter records (R354). -/
  | campaignStatus (h : Hdr) (p : List Byte)
  /-- Validates and loads group definitions, membership moves or Scribe reference sets (R224). -/
  | balanceGroupSet (h : Hdr) (p : List Byte)
  /-- Starts or stops a Scribe phase-correlation campaign (R240). -/
  | scribeCampaign (h : Hdr) (p : List Byte)
  /-- Reads group state, a group's active anomalies or campaign status (R245). -/
  | tallyQuery (h : Hdr) (p : List Byte)
  /-- Returns entries of the radio neighbour table (R285). -/
  | radioNeighbours (h : Hdr) (p : List Byte)
  /-- Returns entries of a phase's powerline route table (R321). -/
  | plcRoutes (h : Hdr) (p : List Byte)
  /-- Imports a plaintext or wrapped key into a slot, or a wrapped meter key into a state record (R422). -/
  | keyImport (h : Hdr) (p data : List Byte)
  /-- Generates a key from the DRBG into a slot (R423). -/
  | keyGenerate (h : Hdr) (p : List Byte)
  /-- Zeroises a slot's key, and also clears its attribute with RELEASE (R423). -/
  | keyZeroise (h : Hdr) (p : List Byte)
  /-- Returns a slot's state, origin, attribute header, generation and check value (R423). -/
  | keyInfo (h : Hdr) (p : List Byte)
  /-- Returns the public key of an AGREE slot (R423). -/
  | pubkeyExport (h : Hdr) (p : List Byte)
  /-- Performs ECDH with a peer point and places the derived key in a target slot (R423). -/
  | keyAgree (h : Hdr) (p : List Byte) (onCurve : Bool)
  /-- Opens an update of a firmware component's inactive slot (R357). -/
  | imageBegin (h : Hdr) (p : List Byte)
  /-- Programs and verifies one block of an open update (R358). -/
  | imageBlock (h : Hdr) (p : List Byte)
  /-- Verifies an update's signature and marks the slot COMMITTED (R359). -/
  | imageCommit (h : Hdr) (p : List Byte) (sigOk : Bool)
  /-- Makes a consistent set of committed slots pending for the next reset (R361). -/
  | imageActivate (h : Hdr) (p : List Byte)
  /-- Returns the slot states and versions of every firmware component (R365). -/
  | imageStatus (h : Hdr) (p : List Byte)
  /-- Writes one block of a meter image into an image number (R347). -/
  | meterImageLoad (h : Hdr) (p : List Byte)
  /-- Returns event records from the cache and ring at or above a severity (R510). -/
  | eventRead (h : Hdr) (p : List Byte)
  /-- Returns the counter snapshot layout captured at one beat boundary (R516). -/
  | counterRead (h : Hdr) (p : List Byte)
  /-- Validates and applies the configuration of programmable counters at one beat boundary (R516). -/
  | counterConfig (h : Hdr) (p : List Byte)
  /-- Reads a range of memory for diagnosis, masking poison and key fields (R468). -/
  | memRead (h : Hdr) (p : List Byte)
  /-- Queues a run of a host DMA channel from a copy of its descriptor (R469). -/
  | dmaStart (h : Hdr) (p : List Byte)
  /-- Runs the self-tests of the named function without touching live state (R518). -/
  | selfTest (h : Hdr) (p : List Byte)
  /-- Returns flash capacity, spares, wear and flags (R455). -/
  | ftlStatus (h : Hdr) (p : List Byte)
  /-- Checks a partner and joins the two chips as a Dovetail pair (R487). -/
  | pair (h : Hdr) (p : List Byte) (x : Option Machine.PartnerIn)
  /-- Makes the primary UNPAIRED and the shadow LAPSED (R497). -/
  | unpair (h : Hdr) (p : List Byte)
  /-- Returns the pair state, partner, release and divergence figures (R503). -/
  | pairStatus (h : Hdr) (p : List Byte)
  /-- Makes a halted chip SOLO with keep, or YIELDED with yield (R495). -/
  | resolveDivergence (h : Hdr) (p : List Byte)
  /-- Exchanges primary and shadow roles at the boundary after release (R497). -/
  | promote (h : Hdr) (p : List Byte)
  /-- Returns metrology register records from a first id (R375). -/
  | readRegisters (h : Hdr) (p : List Byte)
  /-- Returns one of the 15 held billing sets (R390). -/
  | readBillingSet (h : Hdr) (p : List Byte)
  /-- Checks calendar data and writes it as the passive calendar (R386). -/
  | calendarLoad (h : Hdr) (p : List Byte) (sigOk : Bool)
  /-- Schedules activation of the passive calendar at an instant or at release (R386). -/
  | calendarActivate (h : Hdr) (p : List Byte) (sigOk : Bool)
  /-- Under legal authority, changes masked calibration coefficients from the next legal second (R380). -/
  | calibrate (h : Hdr) (p : List Byte) (sigOk : Bool)
  /-- Performs a billing closure by command when the expected closure count matches (R389). -/
  | billingClose (h : Hdr) (p : List Byte) (sigOk : Bool)
  /-- Loads the automatic or the button display list (R399). -/
  | displayList (h : Hdr) (p : List Byte)
  /-- Sets OUT_CMD bits for outputs in command mode (R401). -/
  | outputControl (h : Hdr) (p : List Byte)
  /-- Returns legal log records from FROM_SEQ (R379). -/
  | legalLogRead (h : Hdr) (p : List Byte)
  /-- Stores a new provisioned role, which takes effect at the next device reset (R2). -/
  | roleWrite (h : Hdr) (v : Nat)
  /-- Powers the radio subsystem on or off in hub role, raising the cap to the role minimum if needed (R3). -/
  | radioEnWrite (h : Hdr) (v : Bool)
  /-- Powers the powerline subsystem on or off in hub role, raising the cap to the role minimum if needed (R3). -/
  | plcEnWrite (h : Hdr) (v : Bool)
  /-- Powers metrology on or off in hub role, raising the cap to the role minimum if needed (R3). -/
  | metroEnWrite (h : Hdr) (v : Bool)
  /-- Sets the power cap, and refuses a value below the role minimum (R21). -/
  | powerCapWrite (h : Hdr) (v : Nat)
  /-- Sets the end-of-life hold-up capacitance; 0 returns the node to not configured and closes acceptance (R32). -/
  | holdCWrite (h : Hdr) (v : Nat)
  /-- Sets the sense divider ratio; 0 returns the node to not configured and closes acceptance (R32). -/
  | holdDivWrite (h : Hdr) (v : Nat)
  /-- A host write of 0 clears the measured capacitance (R34). -/
  | cMeasClear (h : Hdr)
  /-- Changes the Brixrum EtherType on both ports at once (R123). -/
  | ethertypeWrite (h : Hdr) (v : Nat)
  /-- Enables a radio channel after the checks of R251, or stops it at the next beat boundary (R290). -/
  | radioChannelEnWrite (h : Hdr) (ch : Fin 16) (v : Bool)
  /-- Enables a powerline phase after its checks, or stops it at the next beat boundary (R326). -/
  | plcPhaseEnWrite (h : Hdr) (ph : Fin 3) (v : Bool)
  /-- Sets seal mode for LEGAL updates only with SEAL_N asserted before commissioning; 0 is always allowed (R364). -/
  | legalUpdModeWrite (h : Hdr) (v : Bool) (a : Option AuthBlk)
  /-- Selects the PB-2600 calibration lock, settable to 1 only with SEAL_N asserted before commissioning (R381). -/
  | sealCalWrite (h : Hdr) (v : Bool) (a : Option AuthBlk)
  /-- Installs or changes the legal authority key under the rules for first installation and change (R377). -/
  | legalKeyWrite (h : Hdr) (v : Nat) (a : Option AuthBlk)
  /-- Allows or forbids plaintext key import; a write of 1 while it is 0 is refused (R428). -/
  | plainImportWrite (h : Hdr) (v : Bool)
  /-- A write of 1 clears the TAMPER_SEEN bit (R424). -/
  | tamperSeenClear (h : Hdr)
  /-- A write of 1 clears a counter's sticky WRAP bit (R514). -/
  | wrapClear (h : Hdr) (mask : Nat)
  /-- Changes the profile period from the first multiple of the new period at or after the running interval's end (R387). -/
  | profilePeriodWrite (h : Hdr) (v : Nat) (a : Option AuthBlk)
  /-- A change of demand method, period or subintervals splits the running demand interval (R388). -/
  | demandSettingWrite (h : Hdr) (method period subs : Nat) (a : Option AuthBlk)
  /-- A change of TZ_MIN or of the DST fields is handled as a DST change (R405). -/
  | tzDstWrite (h : Hdr) (z : TzDst) (a : Option AuthBlk)
  /-- A beat ends and the next begins under the trim that keeps the beat on chain time (R9). -/
  | beatBoundary (i : BeatIn)
  /-- An excluded sensor returns after 8,000 consecutive valid beats (R23). -/
  | denSensorRestored (n : Fin 6)
  /-- After 8 consecutive beats at or above 110 °C, the hold-up flush starts as on mains loss (R25). -/
  | denThermalTrip
  /-- An item deferred for energy in 8 beats of one run becomes owed and blocks lower levels (R37). -/
  | itemOwed
  /-- HOLD is asserted on an engine FIFO at the next beat boundary after its source queue reaches 384 (R41). -/
  | holdAssert (ef : Fin 32)
  /-- HOLD is released at the beat boundary after the source queue falls to 256 (R41). -/
  | holdRelease (ef : Fin 32)
  /-- A buffered command held for GAP_LIMIT without its predecessor is discarded without reply (R51). -/
  | reorderGapExpire (sess : Fin 16) (seq : Nat)
  /-- Each REPLY_LIMIT an open command receives a PENDING interim reply (R65). -/
  | pendingReply (sess : Fin 16) (seq : Nat) (percent : Nat)
  /-- A received link data frame is accepted in LSEQ order, acknowledged, then forwarded or executed (R88). -/
  | linkDataFrame (port : Port) (f : LinkFrame)
  /-- An acknowledgement frame releases outstanding data frames up to LACK (R89). -/
  | linkAck (port : Port) (c : LinkCtl)
  /-- A negative acknowledgement triggers go-back-N retransmission from the oldest unacknowledged frame (R90). -/
  | linkNack (port : Port) (c : LinkCtl)
  /-- LINK_RTO without progress triggers retransmission, and after LINK_RETRY_MAX the port is declared down (R90). -/
  | linkRtoExpire (port : Port)
  /-- A received probe keeps the port up and triggers the neighbour address check (R98). -/
  | linkProbe (port : Port) (c : LinkCtl)
  /-- A port that sent nothing for PROBE_MS sends a probe (R92). -/
  | linkProbeSend (port : Port)
  /-- On port up, a resynchronisation frame restarts LSEQ and LACK and resends held frames (R91). -/
  | linkResync (port : Port) (c : LinkCtl)
  /-- Frames outstanding on a port that stayed down for LINK_HOLD are discarded and counted (R91). -/
  | linkHoldExpire (port : Port)
  /-- A port with block lock that receives a frame or probe comes up and logs LINK_UP (R85). -/
  | linkUp (port : Port) (addr : Nat)
  /-- A port losing block lock or silent for LINK_DEAD goes down and logs LINK_DOWN (R85). -/
  | linkDown (port : Port) (lockLost : Bool)
  /-- A received PAUSE frame is dropped and counted (R84). -/
  | pauseFrameDrop (port : Port)
  /-- An accepted one-step Sync updates the servo and Plumb state and is forwarded with a corrected correctionField (R110). -/
  | sync (m : SyncMsg)
  /-- No valid Sync for SYNC_LOSS intervals while LOCKED moves Plumb to HOLDOVER (R110). -/
  | syncLossExpire
  /-- With PLUMB_FREE and no Sync within START_WAIT, Plumb enters FREE and loads chain time from legal time (R111). -/
  | startWaitExpire
  /-- Each port sends Pdelay_Req once per second (R108). -/
  | pdelayReqSend (port : Port)
  /-- A received Pdelay_Req is answered with a one-step Pdelay_Resp (R108). -/
  | pdelayReq (port : Port) (domain : Nat) (turnaround : Int)
  /-- A received Pdelay_Resp updates the mean link delay or is rejected (R108). -/
  | pdelayResp (port : Port) (domain : Nat) (trip : Int)
  /-- Announce and Signaling messages from U are forwarded unchanged on D (R106). -/
  | announceForward (message : List Byte)
  /-- An accepted legal-time step takes effect at the first beat boundary after its reply is recorded (R116). -/
  | legalTimeStepped
  /-- A PPS_IN rising edge is timestamped and may discipline the servo in HOLDOVER or FREE (R121). -/
  | ppsInEdge (sinceBeat : Nat)
  /-- PPS_OUT rises at each whole second of chain or legal time for PPS_OUT_WIDTH (R122). -/
  | ppsOutPulse
  /-- Sixteen hold-up samples below V_DETECT declare mains loss and start the hold-up flush (R33). -/
  | mainsLost (samples : List Nat)
  /-- When the flush's last commit is verified, DRAM self-refreshes, cores halt and outputs are released (R529). -/
  | flushEnd
  /-- After the flush, without power loss, the device drives PWR_REQ_N low with its cause (R531). -/
  | pwrReq
  /-- RESET_N low is handled as mains loss, then a power-on reset held until it is high and the flush ended (R524). -/
  | resetNLow (low : Bool)
  /-- A monitored rail below its falling threshold causes a power-on reset (R544). -/
  | supplyMonitorTrip
  /-- Release of the supply monitor and RESET_N moves the device into START (R528). -/
  | powerOnReset
  /-- Main power is lost in HOLDUP and the device enters DORMANT or OFF (R528). -/
  | mainPowerLost
  /-- VBAT rising into range moves the device from OFF to DORMANT (R528). -/
  | vbatRise
  /-- VBAT below 2.5 V in DORMANT moves the device to OFF and loses class B content (R528). -/
  | vbatFall
  /-- Start-up runs the ten steps of Table 17-4 until Plumb lock enters RUN (R533). -/
  | startUp (b : BootIn)
  /-- Presence maps and tails are checkpointed to the settings partition at least every 120 s (R535). -/
  | presenceCheckpoint
  /-- A core not back in the Sett within 8 beats is reset alone and its function fails (R525). -/
  | coreWatchdog (core : Fin 16) (fn : Nat)
  /-- A third core watchdog within 60 s or a missing kernel heartbeat causes a device reset (R525). -/
  | kernelHeartbeatMissing
  /-- In the beat after closing, a group receives sequences, CRCs and descriptors and its pages start programming (R196). -/
  | ledgerGroupSeal
  /-- A die reports the end of a page program and read-back starts (R198). -/
  | pageProgramDone (group page : Nat) (chan : Chan) (ok : Bool)
  /-- A page copy whose read-back passes is counted verified at the next beat boundary (R198). -/
  | copyVerified (group page : Nat) (chan : Chan) (bits : Nat) (same : Bool)
  /-- A complete group whose predecessors are accepted becomes accepted at a beat boundary (R200). -/
  | groupAccept
  /-- In the next beat the effects of acceptance are released: slots, replies, acknowledgements and export (R200). -/
  | groupRelease
  /-- A segment whose entries are all accepted, acknowledged and aged is reclaimed after preservation (R212). -/
  | segmentReclaim (seg : Nat)
  /-- When capacity would fall below the over-provisioning floor, Ledger sets WORN permanently (R215). -/
  | ledgerWorn
  /-- A lost die sets SINGLE_COPY and starts re-replication of its ledger pages (R216). -/
  | ledgerDieLost (chan : Chan) (die : Fin 16)
  /-- SINGLE_COPY clears when the last re-replicated copy is verified (R216). -/
  | rereplicationDone
  /-- Firmware returns decoded readings through EF_0 to the counter check and de-duplication (R143). -/
  | slowPathReturn (r : SlowRet)
  /-- An unsealing job completes; the frame is authenticated, counter-checked and de-duplicated (R148). -/
  | unsealComplete (job : Nat) (st : JobStatus)
  /-- BATCH_HOLD without a part ends the held parts with NO_RESOURCE and discards the batch (R159). -/
  | batchExpired (id : Nat)
  /-- A balance interval closes when all members report or CLOSE_WAIT passes, and its balance is computed (R230). -/
  | intervalClose (group : Nat)
  /-- A meter whose window is filled or timed out receives its PHASE decision (R241). -/
  | scribeEvaluate (campaign mix : Nat)
  /-- A received MAC frame is checked, acknowledged if stored, and dispatched by its first payload byte (R265). -/
  | radioFrameReceived (ch : Fin 16) (f : RadioRx)
  /-- After its jitter, a pending relay is sent with HOPS raised (R281). -/
  | floodRelay (origin seq : Nat)
  /-- A seen-cache entry expires SEEN_HOLD after insertion (R282). -/
  | seenEntryExpire (origin seq : Nat)
  /-- A coordinator channel admits or refuses a meter's association (R260). -/
  | associationRequest (ch : Fin 16) (ext : Nat) (rxOnIdle : Bool)
  /-- A sleepy meter's poll triggers indirect delivery of queued frames (R273). -/
  | dataRequest (ch : Fin 16) (ext : Nat)
  /-- A meter's slot agreement request is granted or refused (R272). -/
  | slotRequest (ch : Fin 16) (r : SlotIn)
  /-- A slot agreement is released by either side (R272). -/
  | slotRelease (ch : Fin 16) (ext : Nat)
  /-- A received orphan notification is never accepted as a way for unknown titles to join (R271). -/
  | orphanNotification (ch : Fin 16) (ext : Nat)
  /-- A coordinator channel sends its beacon at each multiple of BI (R259). -/
  | beaconTransmit (ch : Fin 16) (sinceBeat : Nat)
  /-- A member channel receives its parent's beacon and restores membership if lost (R270). -/
  | beaconReceived (ch : Fin 16) (b : BeaconIn)
  /-- A member channel's missed beacon window counts toward loss of parent (R270). -/
  | radioParentLost (ch : Fin 16)
  /-- After eight further misses, or every 60 s, the channel sends orphan notifications (R270). -/
  | radioOrphanScan (ch : Fin 16)
  /-- After ORPHAN_HOLD the channel releases its address and joins afresh (R270). -/
  | orphanHoldExpire (ch : Fin 16)
  /-- A member channel joins by active scan and takes its parent's depth plus 1 (R261). -/
  | radioJoin (ch : Fin 16) (found : Option JoinIn)
  /-- A wake-slot window closes without a frame from the meter (R276). -/
  | slotMissed (ch : Fin 16) (ext instant : Nat)
  /-- After ADDR_HOLD since its last frame, a meter's short address is released and its entry removed (R279). -/
  | shortAddrReleased (ch : Fin 16) (short : Nat)
  /-- At each rendezvous start the channel sends a marker and listens for the slot (R278). -/
  | rendezvousSlot (ch : Fin 16) (sinceBeat psdu : Nat)
  /-- A queued frame starts transmission after class arbitration and CSMA-CA (R257). -/
  | radioTransmit (ch : Fin 16) (psdu : Nat) (a : Access)
  /-- A deglitched rising edge within the window is accepted as a crossing and stamped (R298). -/
  | zeroCrossing (ph : Fin 3) (sinceBeat : Nat) (x : Crossing)
  /-- A cycle with no accepted edge takes the predicted instant (R298). -/
  | flywheelCycle (ph : Fin 3) (x : Crossing)
  /-- A powerline frame is decoded, checked, acknowledged if stored and handled by type (R302). -/
  | plcFrameReceived (ph : Fin 3) (x : PlcHeard)
  /-- No acknowledgement within 2 cycles resends the frame or counts LINK_FAILS (R307). -/
  | plcLinkAckTimeout (ph : Fin 3)
  /-- At each TM_PERIOD boundary, tone maps are proposed and link costs recomputed (R314). -/
  | tmPeriodBoundary (ph : Fin 3) (m : List ToneMeas)
  /-- A blanked segment without impulsive marks for TM_BLANK_HOLD may return (R312). -/
  | tmBlankHoldExpire (ph : Fin 3) (addr : Nat) (seg : Fin 8)
  /-- The device sends a route advertisement on each running phase every ADV_PERIOD (R316). -/
  | routeAdvertisement (ph : Fin 3)
  /-- An alternate path older than ROUTE_AGE is dropped (R317). -/
  | routeAgeExpire (ph : Fin 3) (title : Nat)
  /-- A retired meter's held powerline address is released after ADDR_HOLD (R315). -/
  | plcAddrHoldExpire (ph : Fin 3) (short : Nat)
  /-- A line-current trip aborts the frame at the next symbol boundary (R320). -/
  | txAbortImpedance (ph : Fin 3)
  /-- After a random 1 to 4 half-cycles, an aborted frame is started again (R320). -/
  | tripRetryExpire (ph : Fin 3)
  /-- A suspended phase resumes when TRIP_BACKOFF has passed (R320). -/
  | tripBackoffExpire (ph : Fin 3)
  /-- A meter's next downlink item gets a DLC, is sealed and recorded SENT (R330). -/
  | dlDispatch (mix : Nat) (urgent : Bool)
  /-- Without an accepted response after DL_RESEND, the sealed frame is sent again or the item expires (R335). -/
  | dlResendExpire (item : Nat)
  /-- An item reaching EXPIRY becomes EXPIRED (R328). -/
  | dlExpiry (item : Nat)
  /-- A multicast round sends missing blocks at BLOCK_RATE and then queries the meters (R350). -/
  | campaignRound (campaign : Nat)
  /-- ROUND_WAIT after the last block starts the next round (R350). -/
  | roundWaitExpire (campaign : Nat)
  /-- At DEADLINE every meter not DONE expires and the campaign ends (R352). -/
  | campaignEnded (campaign : Nat)
  /-- A component not running within BOOT_WINDOW fails the boot, and the third failure rolls back (R362). -/
  | bootWindowExpire (component : Fin 5)
  /-- After CONFIRM_S in RUN the trial set is confirmed (R362). -/
  | updateConfirmed
  /-- The legal pair updates energy registers and makes its checkpoint at the end of each legal second (R372). -/
  | legalSecondEnd (sec : Nat)
  /-- A PROFILE entry is recorded at each multiple of PROFILE_PERIOD (R387). -/
  | profileIntervalEnd
  /-- A DEMAND entry is recorded and maximum demands updated (R388). -/
  | demandIntervalEnd
  /-- A scheduled billing closure above LAST_SCHED_AT copies the billing set and resets the maximum demands (R389). -/
  | scheduledClosure
  /-- The rate and output pattern are evaluated at each whole local minute (R385). -/
  | calendarMinute
  /-- At its instant the passive calendar is copied to the active calendar (R386). -/
  | calendarActivation
  /-- At a DST change the demand interval closes and skipped instants execute (R395). -/
  | dstChange
  /-- A lockstep mismatch stops, resets and restores the legal pair, and the third in 24 h freezes it (R501). -/
  | legalLockstep
  /-- A debounced change of SEAL_N is logged in the legal log and the event recorder (R381). -/
  | sealNChange (asserted : Bool)
  /-- A debounced press shows the next item of the button list (R399). -/
  | buttonPress
  /-- The automatic list advances every SCROLL_S (R399). -/
  | scrollExpire
  /-- DISP_TIMEOUT without a press returns the display to the automatic list (R399). -/
  | dispTimeoutExpire
  /-- The display frame is written over I2C at each item change and each second (R398). -/
  | displayRefresh (ack : Bool)
  /-- A pulse-mode output pulses for PULSE_MS per metered energy quantum (R400). -/
  | outputPulse (n : Fin 8)
  /-- A posted lane job starts on a free lane in level order (R411). -/
  | laneJobPost (j : LaneJob)
  /-- A lane job writes its completion record with its status (R409). -/
  | laneJobComplete (lane : Fin 8) (st : JobStatus) (cycles : Nat)
  /-- A failed entropy health test clears ENTROPY_OK (R414). -/
  | entropyFail
  /-- TAMPER_N low with main power zeroises all key slots and erases the store header (R424). -/
  | zeroisedTamper
  /-- TAMPER_N low on battery alone latches TAMPER_SEEN for action at the next power-on (R424). -/
  | tamperLatch
  /-- ENABLE_DEBUG over JTAG zeroises keys and replaces the device root with the test root (R425). -/
  | debugEnabled
  /-- Pending map records are written as a commit of record pages and a commit page (R439). -/
  | journalCommit
  /-- The FTL commits at least every JOURNAL_MS (R440). -/
  | journalMsExpire
  /-- After SNAP_PAGES journal pages, the tables are snapshot and the anchor updated (R441). -/
  | ftlSnapshot
  /-- A block whose erase fails is retired (R443). -/
  | eraseFail (chan : Chan) (die blk : Nat)
  /-- A read with many corrections or an uncorrectable codeword rewrites the copy (R443). -/
  | readRefresh (r : PageRead)
  /-- Every programmed page is read once per PATROL_DAYS (R444). -/
  | patrolRead (r : PageRead)
  /-- A die busy beyond 20 ms or with too many retirements is declared lost (R445). -/
  | flashDieLost (chan : Chan) (die : Fin 16) (busy : Bool)
  /-- Garbage collection is posted at a level set by the partition's free blocks (R446). -/
  | gcPost (part : Nat) (chan : Chan)
  /-- A victim block's erase completes and its ERASED record enters the next commit (R447). -/
  | eraseDone (chan : Chan) (die blk : Nat)
  /-- When the erase-count spread exceeds WL_SPREAD, the lowest-count block is moved (R449). -/
  | wearLevelMove (chan : Chan)
  /-- A correctable memory error is corrected in flight and counted (R464). -/
  | memCorrected (array : MemArray)
  /-- An uncorrectable error poisons the line and is logged (R465). -/
  | memUncorrectable (addr : Nat)
  /-- A consumer reading a poisoned line faults, fails its job or copies the poison (R466). -/
  | poisonConsumed (c : Consumer)
  /-- The patrol scrubber reads every DRAM codeword once per SCRUB_HOURS (R462). -/
  | dramPatrolScrub (addr : Nat) (corrected uncorrectable live : Bool)
  /-- Each protected SRAM array is read and rewritten once per SRAM_SCRUB_MS (R463). -/
  | sramScrub (corrected : Nat)
  /-- The next queued DMA run starts at a segment boundary (R470). -/
  | dmaRunStart
  /-- A run ends and writes its completion record (R470). -/
  | dmaRunComplete
  /-- An engine FIFO bank closes with its end mark and the other bank opens (R472). -/
  | fifoBankClose (ef : Fin 32)
  /-- A packet stalled for STALL_BEATS is dropped as a whole (R477). -/
  | streamDrop (port : Fin 8)
  /-- A progress notice is sent when credit or completions advance enough (R478). -/
  | streamProgress (port : Fin 8)
  /-- A partner's beat frame arrives and its digest is compared (R489). -/
  | beatFrameReceived (port : Port) (f : Machine.BeatFrame)
  /-- A partner frame missing after DIGEST_WAIT counts as absent (R493). -/
  | digestWaitExpire
  /-- Eight consecutive absent frames make the chip SOLO (R496). -/
  | dovetailPromoted
  /-- A join not drained within JOIN_LIMIT fails (R488). -/
  | joinLimitExpire
  /-- At beat Z both chips start as PRIMARY and SHADOW (R488). -/
  | pairJoinStart (x : Machine.PairStart)
  /-- Pending event records are written to flash at 128 pending or after EVENT_FLUSH_MS (R508). -/
  | eventFlush
  /-- At each multiple of BW_WINDOW, window and peak counters latch (R515). -/
  | counterWindowEnd
  /-- At each multiple of SNAP_PERIOD, a snapshot record is written to the ring (R517). -/
  | snapshotWrite
  /-- OP_HOURS rises and is stored at each 3,600 s with main power (R505). -/
  | opHoursTick
  /-- A unicast radio frame sent with Enh-Ack requested gets no Enh-Ack in time and is retried, up to MAX_RETRIES, and then given up (R268). -/
  | enhAckWaitExpire (ch : Fin 16)
  /-- A radio receiver detects an SFD and decodes the PHR, timestamps the SFD and reserves an engine-FIFO place, and the port counts as receiving (R266). -/
  | phrDecoded (ch : Fin 16) (psdu : Nat) (modeSwitch : Bool) (sfd : Int)
  /-- A powerline receiver accepts an aligned preamble and decodes the header of a frame addressed to the device, reserving an engine-FIFO place or withholding the acknowledgement (R308). -/
  | plcHeaderDecoded (ph : Fin 3) (tones : List (Option Nat)) (offset start : Int)
  /-- 1 ms after the ACCEPTED reply of an IMAGE_ACTIVATE with RESET_NOW is sent, the device starts a device reset by itself (R361). -/
  | resetNow
  /-- The reset function is running again, or an outstanding rewrite has been verified, and the DONE reply of FUNC_RESET is sent (R80). -/
  | funcResetComplete (fn : Nat)
  deriving DecidableEq, Repr

end Sys2Proof
end

