-- ==== Sys2Proof/Machine/Bits.lean ====
section
/-! DEFINITION. Byte order, bit fields, sign and CRC-32C: the helpers every payload and record is read and built with. -/
namespace Sys2Proof.Machine

/-- The unsigned value of bytes stored least significant first (00 R5). -/
def ofLE : List Byte → Nat
  | [] => 0
  | b :: bs => b.toNat + 256 * ofLE bs

/-- `n` bytes of a value, least significant first (00 R5). -/
def leB : Nat → Nat → List Byte
  | 0, _ => []
  | n + 1, v => BitVec.ofNat 8 v :: leB n (v / 256)

/-- The unsigned value of bytes stored most significant first, as the published standards store theirs (00 R5). -/
def ofBE (bs : List Byte) : Nat := bs.foldl (fun a b => a * 256 + b.toNat) 0

/-- `n` bytes of a value, most significant first. -/
def beB (n v : Nat) : List Byte := (leB n v).reverse

/-- Byte `i` of a byte string as a number, 0 past its end. -/
def byteAt (p : List Byte) (i : Nat) : Nat := (p.getD i 0).toNat

/-- The little-endian value of the `n` bytes from offset `off`; bytes past the end count as 0. -/
def leAt (p : List Byte) (off n : Nat) : Nat := ofLE ((p.drop off).take n)

/-- The big-endian value of the `n` bytes from offset `off`. -/
def beAt (p : List Byte) (off n : Nat) : Nat := ofBE ((p.drop off).take n)

/-- The `n` bytes from offset `off`. -/
def sliceB (p : List Byte) (off n : Nat) : List Byte := (p.drop off).take n

/-- `n` zero bytes: reserved bytes of a reply (00 R6). -/
def zeros (n : Nat) : List Byte := List.replicate n 0

/-- A byte string cut or filled with zero bytes to `n` bytes. -/
def padTo (n : Nat) (p : List Byte) : List Byte := p.take n ++ zeros (n - p.length)

/-- Bits `[lo + w - 1 : lo]` of a value. -/
def bitsAt (v lo w : Nat) : Nat := v / 2 ^ lo % 2 ^ w

/-- Bit `i` of a value. -/
def bitAt (v i : Nat) : Bool := v / 2 ^ i % 2 == 1

/-- A value with bits `[lo + w - 1 : lo]` replaced. -/
def setBits (v lo w x : Nat) : Nat :=
  v - bitsAt v lo w * 2 ^ lo + x % 2 ^ w * 2 ^ lo

/-- A flag as a bit. -/
def b2n (b : Bool) : Nat := if b then 1 else 0

/-- The value of a two's-complement field of `w` bits. -/
def toS (w v : Nat) : Int := if v % 2 ^ w < 2 ^ (w - 1) then (v % 2 ^ w : Nat) else (v % 2 ^ w : Nat) - (2 ^ w : Nat)

/-- The two's-complement field of `w` bits that holds a value. -/
def ofS (w : Nat) (i : Int) : Nat := (i % (2 ^ w : Nat)).toNat

/-- A value held between two bounds. -/
def clampI (lo hi i : Int) : Int := max lo (min hi i)

/-- A counter that stops at its maximum of `w` bits. -/
def satAdd (w a b : Nat) : Nat := min (a + b) (2 ^ w - 1)

/-- The quotient rounded up. -/
def ceilDiv (a b : Nat) : Nat := (a + b - 1) / b

/-- One bit step of the reflected Castagnoli polynomial (02 R46). -/
def crcBit (c : Nat) : Nat := if c % 2 == 1 then Nat.xor (c / 2) 0x82F63B78 else c / 2

/-- One byte of CRC-32C. -/
def crcByte (c : Nat) (b : Byte) : Nat :=
  crcBit (crcBit (crcBit (crcBit (crcBit (crcBit (crcBit (crcBit (Nat.xor c b.toNat))))))))

/-- CRC-32C of a byte string: reflected 0x1EDC6F41, initial value and final exclusive-or 0xFFFFFFFF (02 R46). -/
def crc32c (p : List Byte) : Nat := Nat.xor (p.foldl crcByte 0xFFFFFFFF) 0xFFFFFFFF

/-- The element of an association list under a key. -/
def assocGet {α β : Type} [DecidableEq α] (k : α) : List (α × β) → Option β
  | [] => none
  | (k', v) :: l => if k = k' then some v else assocGet k l

/-- An association list with the element under a key replaced, or added at the end. -/
def assocSet {α β : Type} [DecidableEq α] (k : α) (v : β) : List (α × β) → List (α × β)
  | [] => [(k, v)]
  | (k', v') :: l => if k = k' then (k, v) :: l else (k', v') :: assocSet k v l

/-- An association list without the element under a key. -/
def assocDel {α β : Type} [DecidableEq α] (k : α) (l : List (α × β)) : List (α × β) := l.filter (fun x => x.1 ≠ k)

/-- The element under a key after a change, with a value to start from when there is none. -/
def assocMod {α β : Type} [DecidableEq α] (k : α) (dflt : β) (f : β → β) (l : List (α × β)) : List (α × β) :=
  assocSet k (f ((assocGet k l).getD dflt)) l

/-- A list with the elements that meet a test changed. -/
def mapIf {α : Type} (p : α → Bool) (f : α → α) (l : List α) : List α := l.map (fun x => if p x then f x else x)

/-- A number put into an ascending list. -/
def insI (x : Int) : List Int → List Int
  | [] => [x]
  | y :: l => if x ≤ y then x :: y :: l else y :: insI x l

/-- A list in ascending order. -/
def sortI : List Int → List Int
  | [] => []
  | x :: l => insI x (sortI l)

/-- The median of a list: the mean, rounded down, of the two middle elements when their number is even, as with the six
sensors of 01 R23, whose rule does not say which (log 113, DESIGN CHOICE). -/
def medianI (l : List Int) : Int :=
  let s := sortI l
  let n := s.length
  if n = 0 then 0 else if n % 2 = 1 then s.getD (n / 2) 0 else (s.getD (n / 2 - 1) 0 + s.getD (n / 2) 0) / 2

end Sys2Proof.Machine
end

