-- ==== Sys2Proof/Config.lean ====
section
/-! DEFINITION. What manufacture fuses and what the spec leaves to published standards: constants and functions without
a body, so that no proof can see a value of theirs. -/
namespace Sys2Proof.Config

/-- The die serial number, fused (02 R59). -/
opaque dieSerial : Nat
/-- The device's extended address, fused (08 Table 08-11, DEV_EXT). -/
opaque devExt : Nat

/-- The energy class of a firmware thread by its kind, 0 to 7: fixed in the signed image, and not given by the spec (01 R22). -/
opaque threadClass : Nat → Nat

/-- The feed energy a BALANCE entry of an interval without feed carries, drawn afresh each time (07 R231, Table 07-5). -/
opaque noFeed : Nat → Int

/-- The core cycles a firmware thread runs in its beat before it yields, drawn afresh each time (16 Table 16-3, event
0x14). -/
opaque threadCycles : Nat → Nat

/-- The octets of a beacon's PSDU: the 20-byte payload with the MAC header, fields and FCS of IEEE 802.15.4-2020 (08 R259). -/
opaque beaconPsdu : Nat
/-- What a signed 64-bit field holds of a number outside its range, which the spec does not state (04 Table 04-6; 05 R177). -/
opaque wide64 : Int → Nat

/-- The 64-byte IMAGE_BEGIN header of the image a component leaves manufacture with: its version, interface and accepted
ranges (10 R356, R360). -/
opaque factoryImage : Nat → List Byte

/-- The random bit generator's output bytes, by draw and index within it (12 R413). -/
opaque random : Nat → Nat → Byte

/-- Bytes of the public key, X then Y, of a private key (12 R423). -/
opaque publicKey : List Byte → Nat → Byte
/-- The device root's bytes, fused (12 R418). -/
opaque fusedRoot : Nat → Byte
/-- The product image key's bytes, fused (12 R418). -/
opaque imageKey : Nat → Byte
/-- Bytes of the x-coordinate shared by a private key and a peer's public key, X then Y (12 R423). -/
opaque ecdh : List Byte → List Byte → Nat → Byte

/-- A byte of memory whose layout the spec does not give, as a read finds it: draw, address (14 R461, R468). -/
opaque memByte : Nat → Nat → Byte
/-- The tests a function's self-test runs (16 Table 16-5). -/
opaque selfTestRun : Nat → Nat
/-- Byte of a channel's 40-byte presence map, from its high-water slot and the codes of its slot states: 04 R151 gives the
size, not the layout. -/
opaque presenceMap : Nat → List Nat → Nat → Byte
/-- The 16 bytes of an output record of a beat's digest: its values are given, their layout is not (15 R492). -/
opaque outputRecord : List Nat → Nat → Byte
/-- What a self-test finds: draw, then 0 how many tests fail, 1 the first that fails, 2 the duration in µs (16 R518). -/
opaque selfTestFinds : Nat → Nat → Nat

/-- The fault code of a function whose thread read a poisoned line, drawn afresh each time (02 Table 02-5; 14 R466). -/
opaque poisonFault : Nat → Nat
/-- The status other than OK of a lane job that read a poisoned line, as a number taken modulo the failing statuses, drawn
afresh each time (12 R409; 14 R466). -/
opaque poisonStatus : Nat → Nat
/-- The cipher cycles used by a lane job that was broken off, drawn afresh each time (12 R409). -/
opaque laneCycles : Nat → Nat

/-- Byte of the parity of a flash codeword: the code's polynomials are not given (13 R433). -/
opaque bchParity : List Byte → Nat → Byte

/-- The 24-bit sample the decimation makes of a window of 1,024 modulator bits: the filter is not given (11 R370). -/
opaque decimated : Nat → BitVec 24
/-- The decimation delay, from the middle of a set's window to the set, in 2^-16 ns (11 R370). -/
opaque setDelay : Nat
/-- A channel's sample after gain, offset and phase, in 2^-16 sample LSB, from the second's samples of the channel and the
place of the sample among them: the spec gives the coefficients, not the arithmetic (11 R371, R380). -/
opaque calibrated (gain : Nat) (offset phase : Int) : List Int → Nat → Int
/-- The voltage samples of a second shifted by 90 degrees: the filter is not given (11 R372). -/
opaque shifted : List Int → Nat → Int
/-- The voltage-to-current angle in 0.01 degrees of a phase's active and reactive power: its sign and rounding are not given
(11 R373). -/
opaque angle : Int → Int → Int
/-- The power factor register of a second without apparent power, which the spec does not state (11 R373). -/
opaque idleFactor : Int
/-- The frequency register of a second with fewer than two rising crossings of L1, which the spec does not state (11 R373). -/
opaque idleFrequency : Int

end Sys2Proof.Config
end

