-- ==== Sys2Proof/Machine/Pages.lean ====
section
/-! DEFINITION. Every field of every parameter page, from the tables of the chapters: its page, lowest bit, width,
access, retention class, reset value and the range a write must keep. -/
namespace Sys2Proof.Machine

/-- Access codes (00 Table 00-3). -/
inductive Acc where | ro | rw | wo | w1c | rwl
  deriving DecidableEq, Repr

/-- Retention classes (00 Table 00-4). -/
inductive Cls where | v | w | n | l | b
  deriving DecidableEq, Repr

/-- The range of values a field takes. -/
inductive Rng where
  | any
  | btw (lo hi : Int)
  | only (l : List Int)
  | zeroOr (lo hi : Int)
  | step (lo hi by_ : Int)
  | etherType
  deriving DecidableEq, Repr

/-- One field of a parameter page. -/
structure Fld where
  page : Nat
  lo : Nat
  width : Nat
  acc : Acc
  cls : Cls
  reset : Nat
  signed : Bool
  rng : Rng
  deriving DecidableEq, Repr

/-! Page 0x01, device and role (02 R78). -/
def P01.ROLE : Fld := ⟨0x01, 0, 8, .rw, .n, 1, false, .only [1, 2]⟩
def P01.RADIO_EN : Fld := ⟨0x01, 8, 1, .rw, .n, 0, false, .any⟩
def P01.PLC_EN : Fld := ⟨0x01, 9, 1, .rw, .n, 0, false, .any⟩
def P01.METRO_EN : Fld := ⟨0x01, 10, 1, .rw, .n, 0, false, .any⟩
def P01.ROLE_ACTIVE : Fld := ⟨0x01, 16, 8, .ro, .v, 1, false, .any⟩
def P01.REPLY_LIMIT : Fld := ⟨0x01, 32, 16, .rw, .n, 200, false, .btw 20 2000⟩
def P01.GAP_LIMIT : Fld := ⟨0x01, 48, 16, .rw, .n, 100, false, .btw 10 1000⟩
def P01.DRAM_FOUND : Fld := ⟨0x01, 64, 16, .ro, .w, 0, false, .any⟩
/-! Page 0x02, chain (03 R123). -/
def P02.ETHERTYPE : Fld := ⟨0x02, 0, 16, .rw, .n, 34997, false, .etherType⟩
def P02.CHAIN_ADDR : Fld := ⟨0x02, 16, 8, .ro, .w, 0, false, .any⟩
def P02.NEIGHBOUR_U : Fld := ⟨0x02, 24, 8, .ro, .v, 255, false, .any⟩
def P02.NEIGHBOUR_D : Fld := ⟨0x02, 32, 8, .ro, .v, 255, false, .any⟩
def P02.LINK_RTO : Fld := ⟨0x02, 40, 16, .rw, .n, 100, false, .btw 20 1000⟩
def P02.LINK_RETRY_MAX : Fld := ⟨0x02, 56, 8, .rw, .n, 16, false, .btw 4 64⟩
def P02.LINK_HOLD : Fld := ⟨0x02, 64, 16, .rw, .n, 1000, false, .btw 100 10000⟩
def P02.LINK_DEAD : Fld := ⟨0x02, 80, 8, .rw, .n, 8, false, .btw 2 100⟩
def P02.PROBE_MS : Fld := ⟨0x02, 88, 8, .rw, .n, 1, false, .btw 1 10⟩
def P02.U_UP : Fld := ⟨0x02, 96, 1, .ro, .v, 0, false, .any⟩
def P02.D_UP : Fld := ⟨0x02, 97, 1, .ro, .v, 0, false, .any⟩
/-! Page 0x03, Plumb (03 R124). -/
def P03.PTP_DOMAIN : Fld := ⟨0x03, 0, 8, .rw, .n, 0, false, .btw 0 127⟩
def P03.SYNC_LOG : Fld := ⟨0x03, 8, 8, .rw, .n, 253, true, .btw (-7) 0⟩
def P03.SERVO_KP : Fld := ⟨0x03, 16, 16, .rw, .n, 1024, false, .btw 1 16384⟩
def P03.SERVO_KI : Fld := ⟨0x03, 32, 16, .rw, .n, 128, false, .btw 0 4096⟩
def P03.LOCK_NS : Fld := ⟨0x03, 48, 16, .rw, .n, 100, false, .btw 10 10000⟩
def P03.SYNC_LOSS : Fld := ⟨0x03, 64, 8, .rw, .n, 24, false, .btw 4 255⟩
def P03.PLUMB_FREE : Fld := ⟨0x03, 72, 1, .rw, .n, 0, false, .any⟩
def P03.START_WAIT : Fld := ⟨0x03, 80, 8, .rw, .n, 10, false, .btw 1 255⟩
def P03.U_RX_ADJ : Fld := ⟨0x03, 88, 16, .rw, .n, 0, true, .btw (-32767) 32767⟩
def P03.U_TX_ADJ : Fld := ⟨0x03, 104, 16, .rw, .n, 0, true, .btw (-32767) 32767⟩
def P03.D_RX_ADJ : Fld := ⟨0x03, 120, 16, .rw, .n, 0, true, .btw (-32767) 32767⟩
def P03.D_TX_ADJ : Fld := ⟨0x03, 136, 16, .rw, .n, 0, true, .btw (-32767) 32767⟩
def P03.ADJ_LIMIT : Fld := ⟨0x03, 152, 8, .rwl, .l, 5, false, .btw 1 60⟩
def P03.LEGAL_SLEW : Fld := ⟨0x03, 160, 16, .rwl, .l, 100, false, .btw 1 500⟩
def P03.SLOT_SLEW : Fld := ⟨0x03, 176, 16, .rw, .n, 1, false, .btw 1 500⟩
def P03.PPS_IN_EN : Fld := ⟨0x03, 192, 1, .rw, .n, 0, false, .any⟩
def P03.PPS_IN_DISC : Fld := ⟨0x03, 193, 1, .rw, .n, 0, false, .any⟩
def P03.PPS_OUT_EN : Fld := ⟨0x03, 194, 1, .rw, .n, 0, false, .any⟩
def P03.PPS_OUT_LEGAL : Fld := ⟨0x03, 195, 1, .rw, .n, 0, false, .any⟩
def P03.PPS_OUT_FREE : Fld := ⟨0x03, 196, 1, .rw, .n, 0, false, .any⟩
def P03.PPS_OUT_WIDTH : Fld := ⟨0x03, 200, 16, .rw, .n, 100, false, .btw 1 900⟩
def P03.PPS_OUT_ADJ : Fld := ⟨0x03, 216, 16, .rw, .n, 0, true, .btw (-32767) 32767⟩
def P03.PLUMB_STATE : Fld := ⟨0x03, 240, 3, .ro, .v, 0, false, .any⟩
def P03.BEAT_DETACHED : Fld := ⟨0x03, 243, 1, .ro, .v, 0, false, .any⟩
def P03.LEGAL_DIVERGED : Fld := ⟨0x03, 244, 1, .ro, .v, 0, false, .any⟩
def P03.LEGAL_COMMISSIONED : Fld := ⟨0x03, 245, 1, .ro, .l, 0, false, .any⟩
def P03.LEGAL_INVALID : Fld := ⟨0x03, 246, 1, .ro, .w, 0, false, .any⟩
def P03.SLOT_STEPPED : Fld := ⟨0x03, 247, 1, .ro, .b, 0, false, .any⟩
def P03.SLOT_DIVERGED : Fld := ⟨0x03, 248, 1, .ro, .v, 0, false, .any⟩
def P03.OFFSET_NS : Fld := ⟨0x03, 256, 32, .ro, .v, 0, true, .any⟩
def P03.PPS_IN_OFFSET : Fld := ⟨0x03, 288, 32, .ro, .v, 0, true, .any⟩
def P03.RATE_PPB : Fld := ⟨0x03, 320, 32, .ro, .v, 0, true, .any⟩
/-! Page 0x04, Den (01 R43). -/
def P04.POWER_CAP : Fld := ⟨0x04, 0, 16, .rw, .n, 80, false, .btw 20 80⟩
def P04.T_KNEE : Fld := ⟨0x04, 16, 8, .rw, .n, 100, false, .btw 85 105⟩
def P04.HOLD_C : Fld := ⟨0x04, 32, 16, .rw, .n, 0, false, .any⟩
def P04.HOLD_VMIN : Fld := ⟨0x04, 48, 16, .rw, .n, 0, false, .any⟩
def P04.HOLD_DIV : Fld := ⟨0x04, 64, 16, .rw, .n, 0, false, .zeroOr 256 16384⟩
def P04.E_FIXED : Fld := ⟨0x04, 80, 16, .rw, .n, 200, false, .btw 50 1000⟩
def P04.E_PAGE : Fld := ⟨0x04, 96, 16, .rw, .n, 2500, false, .btw 500 20000⟩
def P04.MARGIN : Fld := ⟨0x04, 112, 8, .rw, .n, 15, false, .btw 10 50⟩
def P04.MAP_SHARE : Fld := ⟨0x04, 120, 8, .rw, .n, 3, false, .btw 2 8⟩
def P04.C_MEAS : Fld := ⟨0x04, 128, 16, .rw, .n, 0, false, .only [0]⟩
def P04.E_HOLD : Fld := ⟨0x04, 144, 16, .ro, .v, 0, false, .any⟩
def P04.LIMIT_L : Fld := ⟨0x04, 160, 16, .ro, .v, 0, false, .any⟩
def P04.LIMIT_M : Fld := ⟨0x04, 176, 16, .ro, .v, 0, false, .any⟩
def P04.HOLDUP_MODE : Fld := ⟨0x04, 192, 1, .ro, .v, 0, false, .any⟩
def P04.TRIM_THERMAL : Fld := ⟨0x04, 193, 1, .ro, .v, 0, false, .any⟩
def P04.TRIM_HOLDUP : Fld := ⟨0x04, 194, 1, .ro, .v, 0, false, .any⟩
def P04.ACCEPT_STOPPED : Fld := ⟨0x04, 195, 1, .ro, .v, 1, false, .any⟩
def P04.TH_VALID : Fld := ⟨0x04, 200, 6, .ro, .v, 0, false, .any⟩
def P04.T_HOT : Fld := ⟨0x04, 208, 8, .ro, .v, 0, true, .any⟩
def P04.V_DETECT : Fld := ⟨0x04, 216, 8, .rw, .n, 95, false, .btw 80 98⟩
/-! Page 0x10, Infeed (04 R163). -/
def P10.SLOW_RATE : Fld := ⟨0x10, 0, 16, .rw, .n, 20000, false, .btw 1000 20000⟩
def P10.SLOW_BURST : Fld := ⟨0x10, 16, 16, .rw, .n, 2500, false, .btw 100 20000⟩
def P10.BATCH_HOLD : Fld := ⟨0x10, 32, 8, .rw, .n, 10, false, .btw 1 60⟩
def P10.FUTURE_LIMIT : Fld := ⟨0x10, 40, 16, .rw, .n, 900, false, .btw 60 3600⟩
def P10.KEYGEN_OVERLAP : Fld := ⟨0x10, 56, 8, .rw, .n, 24, false, .btw 0 168⟩
def P10.AUTH_FAIL_LIMIT : Fld := ⟨0x10, 64, 8, .rw, .n, 16, false, .btw 1 255⟩
def P10.UTC_TAI : Fld := ⟨0x10, 72, 8, .rw, .n, 37, false, .btw 0 255⟩
def P10.DEFAULT_DEVIATION : Fld := ⟨0x10, 80, 16, .rw, .n, 0, true, .btw (-720) 840⟩
def P10.ALLOW_CLEAR : Fld := ⟨0x10, 96, 1, .rw, .n, 0, false, .any⟩
def P10.DLMS_EN : Fld := ⟨0x10, 97, 1, .rw, .n, 1, false, .any⟩
def P10.TEMPLATES_LOADED : Fld := ⟨0x10, 128, 64, .ro, .n, 0, false, .any⟩
def P10.METERS_ENROLLED : Fld := ⟨0x10, 192, 21, .ro, .n, 0, false, .any⟩
def P10.ENROL_LIMIT : Fld := ⟨0x10, 224, 21, .ro, .v, 16384, false, .any⟩
def P10.SLOW_DROPS : Fld := ⟨0x10, 256, 32, .ro, .v, 0, false, .any⟩
def P10.AUTH_FAILS : Fld := ⟨0x10, 288, 32, .ro, .v, 0, false, .any⟩
def P10.REPLAYS : Fld := ⟨0x10, 320, 32, .ro, .v, 0, false, .any⟩
def P10.DUPS_SUPPRESSED : Fld := ⟨0x10, 352, 32, .ro, .v, 0, false, .any⟩
def P10.STALE_SUPPRESSED : Fld := ⟨0x10, 384, 32, .ro, .v, 0, false, .any⟩
def P10.FUTURE_REFUSED : Fld := ⟨0x10, 416, 32, .ro, .v, 0, false, .any⟩
def P10.UNKNOWN_TITLE : Fld := ⟨0x10, 448, 32, .ro, .v, 0, false, .any⟩
def P10.DUP_CONFLICTS : Fld := ⟨0x10, 480, 32, .ro, .v, 0, false, .any⟩
def P10.CLEAR_DROPPED : Fld := ⟨0x10, 512, 32, .ro, .v, 0, false, .any⟩
/-! Page 0x11, Grade (05 R190). -/
def P11.CLOCK_TOL : Fld := ⟨0x11, 0, 16, .rw, .n, 60, false, .btw 10 900⟩
def P11.ALIGN_TOL : Fld := ⟨0x11, 16, 16, .rw, .n, 10, false, .btw 0 3600⟩
def P11.TAMPER_HOLD : Fld := ⟨0x11, 32, 8, .rw, .n, 24, false, .btw 1 168⟩
def P11.LEGAL_SUSPECT : Fld := ⟨0x11, 40, 1, .rw, .n, 1, false, .any⟩
def P11.SPIKES : Fld := ⟨0x11, 64, 32, .ro, .v, 0, false, .any⟩
def P11.ROLLOVERS : Fld := ⟨0x11, 96, 32, .ro, .v, 0, false, .any⟩
def P11.NON_MONOTONIC : Fld := ⟨0x11, 128, 32, .ro, .v, 0, false, .any⟩
def P11.CLOCK_SUSPECTS : Fld := ⟨0x11, 160, 32, .ro, .v, 0, false, .any⟩
def P11.ESTIMATES : Fld := ⟨0x11, 192, 32, .ro, .v, 0, false, .any⟩
def P11.GAPS_LEFT : Fld := ⟨0x11, 224, 32, .ro, .v, 0, false, .any⟩
def P11.OUTAGE_MARKS : Fld := ⟨0x11, 256, 32, .ro, .v, 0, false, .any⟩
def P11.EDITS : Fld := ⟨0x11, 288, 32, .ro, .v, 0, false, .any⟩
def P11.REBASES : Fld := ⟨0x11, 320, 32, .ro, .v, 0, false, .any⟩
/-! Page 0x12, Ledger and export (06 R221). -/
def P12.RETAIN_DAYS : Fld := ⟨0x12, 0, 16, .rw, .n, 35, false, .btw 2 3650⟩
def P12.VERIFY_BITS : Fld := ⟨0x12, 16, 8, .rw, .n, 40, false, .btw 8 80⟩
def P12.RESERVE_SEGS : Fld := ⟨0x12, 24, 8, .rw, .n, 1, false, .btw 1 8⟩
def P12.READONLY : Fld := ⟨0x12, 72, 1, .ro, .v, 0, false, .any⟩
def P12.NO_DIE_PAIR : Fld := ⟨0x12, 73, 1, .ro, .v, 0, false, .any⟩
def P12.SINGLE_COPY : Fld := ⟨0x12, 74, 1, .ro, .v, 0, false, .any⟩
def P12.WORN : Fld := ⟨0x12, 75, 1, .ro, .v, 0, false, .any⟩
def P12.STREAMS_OPEN : Fld := ⟨0x12, 80, 8, .ro, .n, 0, false, .any⟩
def P12.DIE_PAIRS : Fld := ⟨0x12, 88, 8, .ro, .v, 0, false, .any⟩
def P12.REREPLICATE : Fld := ⟨0x12, 96, 32, .ro, .v, 0, false, .any⟩
def P12.GROUPS_DISCARDED : Fld := ⟨0x12, 128, 32, .ro, .v, 0, false, .any⟩
def P12.REWRITES : Fld := ⟨0x12, 160, 32, .ro, .v, 0, false, .any⟩
def P12.LAST_GROUP : Fld := ⟨0x12, 192, 64, .ro, .n, 0, false, .any⟩
def P12.NEXT_LSEQ : Fld := ⟨0x12, 256, 64, .ro, .n, 1, false, .any⟩
/-! Page 0x13, Tally and Scribe (07 R248). -/
def P13.PERSIST_ON : Fld := ⟨0x13, 0, 8, .rw, .n, 8, false, .btw 1 64⟩
def P13.PERSIST_WIN : Fld := ⟨0x13, 8, 8, .rw, .n, 12, false, .btw 1 64⟩
def P13.PERSIST_OFF : Fld := ⟨0x13, 16, 8, .rw, .n, 16, false, .btw 1 64⟩
def P13.RHO_MIN : Fld := ⟨0x13, 24, 8, .rw, .n, 80, false, .btw 50 99⟩
def P13.RHO_GAP : Fld := ⟨0x13, 32, 8, .rw, .n, 15, false, .btw 5 50⟩
def P13.N_MIN_PCT : Fld := ⟨0x13, 40, 8, .rw, .n, 50, false, .btw 25 100⟩
def P13.SCRIBE_WAIT : Fld := ⟨0x13, 48, 16, .rw, .n, 120, false, .btw 15 1440⟩
def P13.CLOSE_WAIT : Fld := ⟨0x13, 64, 16, .rw, .n, 120, false, .btw 15 1440⟩
def P13.CAMPAIGNS_RUNNING : Fld := ⟨0x13, 128, 4, .ro, .v, 0, false, .any⟩
def P13.ZC_METRO : Fld := ⟨0x13, 132, 3, .ro, .v, 0, false, .any⟩
def P13.INTERVALS_CLOSED : Fld := ⟨0x13, 160, 32, .ro, .v, 0, false, .any⟩
def P13.NOT_COUNTED : Fld := ⟨0x13, 192, 32, .ro, .v, 0, false, .any⟩
def P13.LATE_VALUES : Fld := ⟨0x13, 224, 32, .ro, .v, 0, false, .any⟩
def P13.GROUPS_IN_LOSS : Fld := ⟨0x13, 256, 32, .ro, .v, 0, false, .any⟩
def P13.GROUPS_NEGATIVE : Fld := ⟨0x13, 288, 32, .ro, .v, 0, false, .any⟩
def P13.ANOMALIES_ACTIVE : Fld := ⟨0x13, 320, 32, .ro, .v, 0, false, .any⟩
def P13.METERS_DECIDED : Fld := ⟨0x13, 352, 32, .ro, .v, 0, false, .any⟩
def P13.METERS_UNDECIDED : Fld := ⟨0x13, 384, 32, .ro, .v, 0, false, .any⟩
/-! Page 0x20, radio (08 R289). -/
def P20.EN : Fld := ⟨0x20, 0, 1, .rw, .n, 0, false, .any⟩
def P20.ROLE : Fld := ⟨0x20, 1, 1, .rw, .n, 0, false, .any⟩
def P20.PORT : Fld := ⟨0x20, 2, 1, .rw, .n, 0, false, .any⟩
def P20.MOD : Fld := ⟨0x20, 3, 1, .rw, .n, 0, false, .any⟩
def P20.RATE : Fld := ⟨0x20, 4, 2, .rw, .n, 0, false, .any⟩
def P20.SPACING : Fld := ⟨0x20, 6, 1, .rw, .n, 0, false, .any⟩
def P20.CHAN_NUM : Fld := ⟨0x20, 8, 16, .rw, .n, 0, false, .any⟩
def P20.CH0_KHZ : Fld := ⟨0x20, 24, 32, .rw, .n, 0, false, .zeroOr 150000 2500000⟩
def P20.PAN_ID : Fld := ⟨0x20, 56, 16, .rw, .n, 1, false, .btw 0 65534⟩
def P20.BO : Fld := ⟨0x20, 72, 4, .rw, .n, 10, false, .btw 6 14⟩
def P20.SO : Fld := ⟨0x20, 76, 4, .rw, .n, 10, false, .btw 0 14⟩
def P20.MIN_BE : Fld := ⟨0x20, 80, 4, .rw, .n, 3, false, .btw 0 8⟩
def P20.MAX_BE : Fld := ⟨0x20, 84, 4, .rw, .n, 5, false, .btw 3 8⟩
def P20.MAX_BACKOFFS : Fld := ⟨0x20, 88, 4, .rw, .n, 4, false, .btw 0 5⟩
def P20.MAX_RETRIES : Fld := ⟨0x20, 92, 4, .rw, .n, 3, false, .btw 0 7⟩
def P20.SEC_LEVEL : Fld := ⟨0x20, 96, 3, .rw, .n, 6, false, .only [0, 5, 6]⟩
def P20.MAC_KEY_SLOT : Fld := ⟨0x20, 104, 9, .rw, .n, 0, false, .btw 0 511⟩
def P20.TX_LEVEL : Fld := ⟨0x20, 120, 8, .rw, .n, 250, true, .btw (-30) (-3)⟩
def P20.HOP_LIMIT : Fld := ⟨0x20, 128, 4, .rw, .n, 4, false, .btw 1 15⟩
def P20.SUPPRESS_K : Fld := ⟨0x20, 132, 4, .rw, .n, 3, false, .btw 1 15⟩
def P20.RELAY_JITTER : Fld := ⟨0x20, 136, 8, .rw, .n, 40, false, .btw 1 255⟩
def P20.SEEN_HOLD : Fld := ⟨0x20, 144, 8, .rw, .n, 60, false, .btw 10 255⟩
def P20.RELAY_LIST : Fld := ⟨0x20, 152, 64, .rw, .n, 18446744073709551615, false, .any⟩
def P20.G0 : Fld := ⟨0x20, 216, 8, .rw, .n, 2, false, .btw 1 16⟩
def P20.GMAX : Fld := ⟨0x20, 224, 8, .rw, .n, 64, false, .btw 8 255⟩
def P20.DRIFT_METER : Fld := ⟨0x20, 232, 8, .rw, .n, 40, false, .btw 1 100⟩
def P20.CELL_MS : Fld := ⟨0x20, 240, 8, .rw, .n, 25, false, .btw 10 100⟩
def P20.ORPHAN_HOLD : Fld := ⟨0x20, 248, 8, .rw, .n, 10, false, .btw 1 255⟩
def P20.ADDR_HOLD : Fld := ⟨0x20, 256, 16, .rw, .n, 72, false, .btw 1 720⟩
def P20.ORPHAN_MASK : Fld := ⟨0x20, 272, 16, .rw, .n, 0, false, .any⟩
def P20.ORPHAN_BASE : Fld := ⟨0x20, 288, 16, .rw, .n, 0, false, .any⟩
def P20.NET_ID : Fld := ⟨0x20, 304, 16, .rw, .n, 0, false, .any⟩
def P20.DEV_EXT : Fld := ⟨0x20, 336, 64, .ro, .v, Config.devExt, false, .any⟩
def P20.DRIFT_DEV : Fld := ⟨0x20, 400, 8, .rw, .n, 2, false, .btw 2 20⟩
def P20.IQ_RATE : Fld := ⟨0x20, 408, 2, .rw, .n, 2, false, .btw 0 2⟩
def P20.PORT_TX_MAX : Fld := ⟨0x20, 410, 3, .rw, .n, 1, false, .btw 1 4⟩
def P20.PORT_KHZ : Fld := ⟨0x20, 416, 32, .rw, .n, 0, false, .any⟩
def P20.STATE : Fld := ⟨0x20, 480, 3, .ro, .v, 0, false, .any⟩
def P20.DEPTH : Fld := ⟨0x20, 488, 8, .ro, .v, 0, false, .any⟩
def P20.NEIGHBOURS : Fld := ⟨0x20, 496, 16, .ro, .v, 0, false, .any⟩
def P20.OUT_FC : Fld := ⟨0x20, 512, 32, .ro, .n, 0, false, .any⟩
def P20.RX_FRAMES : Fld := ⟨0x20, 544, 32, .ro, .v, 0, false, .any⟩
def P20.RX_FCS_ERR : Fld := ⟨0x20, 576, 32, .ro, .v, 0, false, .any⟩
def P20.RX_SEC_FAIL : Fld := ⟨0x20, 608, 32, .ro, .v, 0, false, .any⟩
def P20.RX_CUT : Fld := ⟨0x20, 640, 32, .ro, .v, 0, false, .any⟩
def P20.ACK_WITHHELD : Fld := ⟨0x20, 672, 32, .ro, .v, 0, false, .any⟩
def P20.TX_FRAMES : Fld := ⟨0x20, 704, 32, .ro, .v, 0, false, .any⟩
def P20.CCA_FAIL : Fld := ⟨0x20, 736, 32, .ro, .v, 0, false, .any⟩
def P20.RELAYED : Fld := ⟨0x20, 768, 32, .ro, .v, 0, false, .any⟩
def P20.RELAY_SUPPRESSED : Fld := ⟨0x20, 800, 32, .ro, .v, 0, false, .any⟩
def P20.SEEN_FULL : Fld := ⟨0x20, 832, 32, .ro, .v, 0, false, .any⟩
def P20.MISSED_SLOTS : Fld := ⟨0x20, 864, 32, .ro, .v, 0, false, .any⟩
def P20.ADRIFT_NOW : Fld := ⟨0x20, 896, 16, .ro, .v, 0, false, .any⟩
def P20.SLOTS_ASSIGNED : Fld := ⟨0x20, 912, 16, .ro, .v, 0, false, .any⟩
/-! Page 0x21, powerline (09 R325). -/
def P21.EN : Fld := ⟨0x21, 0, 1, .rw, .n, 0, false, .any⟩
def P21.MAINS_HZ : Fld := ⟨0x21, 1, 1, .rw, .n, 0, false, .any⟩
def P21.BAUD : Fld := ⟨0x21, 2, 1, .rw, .n, 0, false, .any⟩
def P21.KEYING : Fld := ⟨0x21, 3, 1, .rw, .n, 1, false, .any⟩
def P21.INJ_LEVEL : Fld := ⟨0x21, 8, 8, .rw, .n, 6, false, .btw 0 30⟩
def P21.INJ_CEIL : Fld := ⟨0x21, 16, 8, .rw, .n, 0, false, .any⟩
def P21.AFE_VFS : Fld := ⟨0x21, 24, 16, .rw, .n, 0, false, .any⟩
def P21.ZLINE_MIN : Fld := ⟨0x21, 40, 16, .rw, .n, 100, false, .btw 10 10000⟩
def P21.COMMON_MAP : Fld := ⟨0x21, 64, 64, .rw, .n, 18446744073709551615, false, .any⟩
def P21.ZC_ADJ : Fld := ⟨0x21, 128, 16, .rw, .n, 0, true, .btw (-500) 500⟩
def P21.ZC_TOL : Fld := ⟨0x21, 144, 16, .rw, .n, 500, false, .btw 50 2000⟩
def P21.ZC_WINDOW : Fld := ⟨0x21, 160, 16, .rw, .n, 400, false, .btw 100 2000⟩
def P21.ZC_FLY : Fld := ⟨0x21, 176, 8, .rw, .n, 8, false, .btw 1 50⟩
def P21.ZC_DEGLITCH : Fld := ⟨0x21, 184, 8, .rw, .n, 50, false, .btw 10 200⟩
def P21.TM_PERIOD : Fld := ⟨0x21, 192, 16, .rw, .n, 120, false, .btw 30 3600⟩
def P21.TM_SNR : Fld := ⟨0x21, 208, 8, .rw, .n, 6, false, .btw 3 20⟩
def P21.TM_BLANK_HOLD : Fld := ⟨0x21, 216, 8, .rw, .n, 15, false, .btw 1 255⟩
def P21.IMPULSE_DB : Fld := ⟨0x21, 224, 8, .rw, .n, 15, false, .btw 6 40⟩
def P21.CS_DB : Fld := ⟨0x21, 232, 8, .rw, .n, 10, false, .btw 3 30⟩
def P21.MIN_BE : Fld := ⟨0x21, 240, 4, .rw, .n, 2, false, .btw 0 8⟩
def P21.MAX_BE : Fld := ⟨0x21, 244, 4, .rw, .n, 5, false, .btw 2 8⟩
def P21.LINK_RETRIES : Fld := ⟨0x21, 248, 4, .rw, .n, 3, false, .btw 0 7⟩
def P21.TRIP_LIMIT : Fld := ⟨0x21, 256, 8, .rw, .n, 8, false, .btw 1 64⟩
def P21.TRIP_BACKOFF : Fld := ⟨0x21, 264, 8, .rw, .n, 10, false, .btw 1 255⟩
def P21.ADV_PERIOD : Fld := ⟨0x21, 272, 16, .rw, .n, 600, false, .btw 60 3600⟩
def P21.REG_PERIOD : Fld := ⟨0x21, 288, 16, .rw, .n, 60, false, .btw 10 1440⟩
def P21.ROUTE_HYST : Fld := ⟨0x21, 304, 8, .rw, .n, 25, false, .btw 5 75⟩
def P21.ROUTE_HOLD : Fld := ⟨0x21, 312, 8, .rw, .n, 10, false, .btw 1 255⟩
def P21.ROUTE_AGE : Fld := ⟨0x21, 320, 16, .rw, .n, 120, false, .btw 10 1440⟩
def P21.COST_HOP : Fld := ⟨0x21, 336, 16, .rw, .n, 64, false, .btw 0 1024⟩
def P21.ADDR_HOLD : Fld := ⟨0x21, 352, 16, .rw, .n, 72, false, .btw 1 720⟩
def P21.PLC_KEY_SLOT : Fld := ⟨0x21, 368, 9, .rw, .n, 0, false, .btw 0 511⟩
def P21.OUT_FC : Fld := ⟨0x21, 512, 32, .ro, .n, 0, false, .any⟩
def P21.MAINS_PERIOD : Fld := ⟨0x21, 544, 32, .ro, .v, 0, false, .any⟩
def P21.METERS_JOINED : Fld := ⟨0x21, 576, 11, .ro, .v, 0, false, .any⟩
def P21.STATE : Fld := ⟨0x21, 587, 3, .ro, .v, 0, false, .any⟩
def P21.RX_FRAMES : Fld := ⟨0x21, 608, 32, .ro, .v, 0, false, .any⟩
def P21.RX_RECOVERED : Fld := ⟨0x21, 640, 32, .ro, .v, 0, false, .any⟩
def P21.RX_CRC_FAIL : Fld := ⟨0x21, 672, 32, .ro, .v, 0, false, .any⟩
def P21.RX_MISALIGNED : Fld := ⟨0x21, 704, 32, .ro, .v, 0, false, .any⟩
def P21.ACK_WITHHELD : Fld := ⟨0x21, 736, 32, .ro, .v, 0, false, .any⟩
def P21.TX_FRAMES : Fld := ⟨0x21, 768, 32, .ro, .v, 0, false, .any⟩
def P21.TX_ABORTS : Fld := ⟨0x21, 800, 32, .ro, .v, 0, false, .any⟩
def P21.INJ_CEIL_HITS : Fld := ⟨0x21, 832, 32, .ro, .v, 0, false, .any⟩
def P21.ZC_FLYWHEEL : Fld := ⟨0x21, 864, 32, .ro, .v, 0, false, .any⟩
def P21.LINK_FAILS : Fld := ⟨0x21, 896, 32, .ro, .v, 0, false, .any⟩
def P21.ROUTE_ERRS : Fld := ⟨0x21, 928, 32, .ro, .v, 0, false, .any⟩
def P21.BLANKS_PROPOSED : Fld := ⟨0x21, 960, 32, .ro, .v, 0, false, .any⟩
/-! Page 0x30, metrology (11 R404). -/
def P30.PROFILE_PERIOD : Fld := ⟨0x30, 0, 8, .rwl, .l, 4, false, .btw 2 6⟩
def P30.DEMAND_METHOD : Fld := ⟨0x30, 8, 1, .rwl, .l, 0, false, .any⟩
def P30.DEMAND_PERIOD : Fld := ⟨0x30, 16, 8, .rwl, .l, 15, false, .only [5, 6, 10, 12, 15, 20, 30, 60]⟩
def P30.DEMAND_SUBS : Fld := ⟨0x30, 24, 4, .rwl, .l, 3, false, .btw 2 15⟩
def P30.SEAL_CAL : Fld := ⟨0x30, 28, 1, .rwl, .l, 0, false, .any⟩
def P30.VFS_MV : Fld := ⟨0x30, 32, 32, .rwl, .l, 0, false, .any⟩
def P30.IFS_MA : Fld := ⟨0x30, 64, 32, .rwl, .l, 0, false, .any⟩
def P30.INFS_MA : Fld := ⟨0x30, 96, 32, .rwl, .l, 0, false, .any⟩
def P30.P_CREEP : Fld := ⟨0x30, 128, 16, .rwl, .l, 10, false, .any⟩
def P30.CAL_CRC : Fld := ⟨0x30, 160, 32, .ro, .l, 0x48ff865b, false, .any⟩
def P30.CAL_COUNT : Fld := ⟨0x30, 192, 32, .ro, .l, 0, false, .any⟩
def P30.LOG_NEXT : Fld := ⟨0x30, 224, 32, .ro, .l, 1, false, .any⟩
def P30.LOG_OVERWRITTEN : Fld := ⟨0x30, 256, 32, .ro, .l, 0, false, .any⟩
def P30.AUTH_COUNT : Fld := ⟨0x30, 288, 64, .ro, .l, 0, false, .any⟩
def P30.SEAL_STATE : Fld := ⟨0x30, 353, 1, .ro, .v, 0, false, .any⟩
def P30.METRO_RUN : Fld := ⟨0x30, 354, 1, .ro, .v, 0, false, .any⟩
def P30.LEGAL_KEY_SET : Fld := ⟨0x30, 355, 1, .ro, .l, 0, false, .any⟩
def P30.LEGAL_KEY : Fld := ⟨0x30, 384, 512, .rwl, .l, 0, false, .any⟩
/-! Page 0x31, tariff calendar (11 R405). -/
def P31.DEFAULT_RATE : Fld := ⟨0x31, 0, 8, .rwl, .l, 1, false, .btw 1 8⟩
def P31.CLOSE_DAY : Fld := ⟨0x31, 8, 8, .rwl, .l, 1, false, .only ((List.range 29).map Int.ofNat ++ [31])⟩
def P31.CLOSE_HOUR : Fld := ⟨0x31, 16, 8, .rwl, .l, 0, false, .btw 0 23⟩
def P31.CLOSE_MIN : Fld := ⟨0x31, 24, 8, .rwl, .l, 0, false, .btw 0 59⟩
def P31.TZ_MIN : Fld := ⟨0x31, 32, 16, .rwl, .l, 0, true, .step (-720) 840 15⟩
def P31.DST_DELTA : Fld := ⟨0x31, 48, 8, .rwl, .l, 60, false, .step 15 120 15⟩
def P31.DST_START_MONTH : Fld := ⟨0x31, 56, 8, .rwl, .l, 0, false, .btw 0 12⟩
def P31.DST_START_WEEK : Fld := ⟨0x31, 64, 8, .rwl, .l, 5, false, .btw 1 5⟩
def P31.DST_START_DAY : Fld := ⟨0x31, 72, 8, .rwl, .l, 7, false, .btw 1 7⟩
def P31.DST_START_HOUR : Fld := ⟨0x31, 80, 8, .rwl, .l, 0, false, .btw 0 23⟩
def P31.DST_END_MONTH : Fld := ⟨0x31, 88, 8, .rwl, .l, 0, false, .btw 1 12⟩
def P31.DST_END_WEEK : Fld := ⟨0x31, 96, 8, .rwl, .l, 5, false, .btw 1 5⟩
def P31.DST_END_DAY : Fld := ⟨0x31, 104, 8, .rwl, .l, 7, false, .btw 1 7⟩
def P31.DST_END_HOUR : Fld := ⟨0x31, 112, 8, .rwl, .l, 0, false, .btw 0 23⟩
def P31.ACTIVE_CAL_ID : Fld := ⟨0x31, 128, 32, .ro, .l, 0, false, .any⟩
def P31.PASSIVE_CAL_ID : Fld := ⟨0x31, 160, 32, .ro, .l, 0, false, .any⟩
def P31.PENDING_AT : Fld := ⟨0x31, 192, 40, .ro, .l, 0, false, .any⟩
def P31.LAST_SCHED_AT : Fld := ⟨0x31, 240, 40, .ro, .l, 0, false, .any⟩
def P31.CLOSURES : Fld := ⟨0x31, 288, 32, .ro, .l, 0, false, .any⟩
def P31.RATE_NOW : Fld := ⟨0x31, 320, 4, .ro, .v, 1, false, .any⟩
def P31.DST_ON : Fld := ⟨0x31, 324, 1, .ro, .v, 0, false, .any⟩
def P31.CAL_WAITING : Fld := ⟨0x31, 325, 1, .ro, .v, 1, false, .any⟩
def P31.PATTERN_NOW : Fld := ⟨0x31, 328, 8, .ro, .v, 0, false, .any⟩
/-! Page 0x32, display and outputs (11 R406). -/
def P32.DISP_EN : Fld := ⟨0x32, 0, 1, .rw, .n, 0, false, .any⟩
def P32.DISP_ADDR : Fld := ⟨0x32, 1, 7, .rw, .n, 56, false, .btw 8 119⟩
def P32.SCROLL_S : Fld := ⟨0x32, 8, 8, .rw, .n, 8, false, .btw 2 60⟩
def P32.DISP_TIMEOUT : Fld := ⟨0x32, 16, 8, .rw, .n, 60, false, .btw 10 255⟩
def P32.OUT_MODE : Fld := ⟨0x32, 32, 16, .rw, .n, 0, false, .any⟩
def P32.OUT_CMD : Fld := ⟨0x32, 48, 8, .ro, .n, 0, false, .any⟩
def P32.OUT_STATE : Fld := ⟨0x32, 56, 8, .ro, .v, 0, false, .any⟩
def P32.PULSE_IMP_KWH : Fld := ⟨0x32, 64, 32, .rw, .n, 1000, false, .btw 1 100000⟩
def P32.PULSE_MS : Fld := ⟨0x32, 96, 8, .rw, .n, 30, false, .btw 2 100⟩
def P32.AUTO_COUNT : Fld := ⟨0x32, 128, 8, .ro, .n, 0, false, .any⟩
def P32.BUTTON_COUNT : Fld := ⟨0x32, 136, 8, .ro, .n, 0, false, .any⟩
def P32.DISP_ERRS : Fld := ⟨0x32, 144, 32, .ro, .v, 0, false, .any⟩
/-! Page 0x40, keys and cipher (12 R428). -/
def P40.PLAIN_IMPORT : Fld := ⟨0x40, 0, 1, .rw, .n, 1, false, .any⟩
def P40.STORE_LOST : Fld := ⟨0x40, 1, 1, .ro, .v, 0, false, .any⟩
def P40.DEBUG_ACTIVE : Fld := ⟨0x40, 2, 1, .ro, .v, 0, false, .any⟩
def P40.ENTROPY_OK : Fld := ⟨0x40, 3, 1, .ro, .v, 0, false, .any⟩
def P40.TAMPER_SEEN : Fld := ⟨0x40, 4, 1, .w1c, .b, 0, false, .any⟩
def P40.SLOTS_LOADED : Fld := ⟨0x40, 64, 10, .ro, .v, 1, false, .any⟩
def P40.SLOTS_PERSISTED : Fld := ⟨0x40, 80, 9, .ro, .n, 0, false, .any⟩
def P40.ZEROISATIONS : Fld := ⟨0x40, 96, 32, .ro, .n, 0, false, .any⟩
def P40.LANE_JOBS : Fld := ⟨0x40, 128, 32, .ro, .v, 0, false, .any⟩
def P40.PREEMPTIONS : Fld := ⟨0x40, 160, 32, .ro, .v, 0, false, .any⟩
def P40.AUTH_FAIL_JOBS : Fld := ⟨0x40, 192, 32, .ro, .v, 0, false, .any⟩
/-! Page 0x41, FTL (13 R456). -/
def P41.GC_START : Fld := ⟨0x41, 0, 8, .rw, .n, 8, false, .btw 4 64⟩
def P41.GC_LOW : Fld := ⟨0x41, 8, 8, .rw, .n, 4, false, .btw 2 63⟩
def P41.REFRESH_BITS : Fld := ⟨0x41, 16, 8, .rw, .n, 60, false, .btw 41 96⟩
def P41.WL_SPREAD : Fld := ⟨0x41, 24, 16, .rw, .n, 500, false, .btw 100 10000⟩
def P41.SNAP_PAGES : Fld := ⟨0x41, 40, 16, .rw, .n, 4096, false, .btw 256 65535⟩
def P41.JOURNAL_MS : Fld := ⟨0x41, 56, 16, .rw, .n, 100, false, .btw 10 1000⟩
def P41.PATROL_DAYS : Fld := ⟨0x41, 72, 16, .rw, .n, 30, false, .btw 1 365⟩
def P41.DIE_FAIL_PCT : Fld := ⟨0x41, 88, 8, .rw, .n, 10, false, .btw 2 50⟩
def P41.ENDURANCE : Fld := ⟨0x41, 96, 32, .rw, .n, 3000, false, .btw 100 100000⟩
def P41.FORMATTED : Fld := ⟨0x41, 128, 1, .ro, .n, 0, false, .any⟩
def P41.WORN : Fld := ⟨0x41, 129, 1, .ro, .v, 0, false, .any⟩
def P41.MAP_SINGLE : Fld := ⟨0x41, 130, 1, .ro, .v, 0, false, .any⟩
def P41.REPLAY_REPAIRED : Fld := ⟨0x41, 131, 1, .ro, .v, 0, false, .any⟩
def P41.MAP_PENDING : Fld := ⟨0x41, 144, 16, .ro, .v, 0, false, .any⟩
def P41.ERASE_MIN : Fld := ⟨0x41, 160, 24, .ro, .v, 0, false, .any⟩
def P41.ERASE_MAX : Fld := ⟨0x41, 184, 24, .ro, .v, 0, false, .any⟩
def P41.GROWN_BAD : Fld := ⟨0x41, 208, 32, .ro, .n, 0, false, .any⟩
def P41.GC_COPIES : Fld := ⟨0x41, 240, 32, .ro, .v, 0, false, .any⟩
def P41.WL_MOVES : Fld := ⟨0x41, 272, 32, .ro, .v, 0, false, .any⟩
def P41.REFRESHES : Fld := ⟨0x41, 304, 32, .ro, .v, 0, false, .any⟩
def P41.UNCORR_RECOVERED : Fld := ⟨0x41, 336, 32, .ro, .v, 0, false, .any⟩
def P41.LOST_COPIES : Fld := ⟨0x41, 368, 32, .ro, .v, 0, false, .any⟩
/-! Page 0x42, memory and scrub (14 R481). -/
def P42.SCRUB_HOURS : Fld := ⟨0x42, 0, 8, .rw, .n, 24, false, .btw 1 168⟩
def P42.CE_EVENT_LIMIT : Fld := ⟨0x42, 24, 8, .rw, .n, 16, false, .btw 1 255⟩
def P42.SRAM_SCRUB_MS : Fld := ⟨0x42, 32, 16, .rw, .n, 1000, false, .btw 100 10000⟩
def P42.CH0_GIB : Fld := ⟨0x42, 56, 8, .ro, .v, 0, false, .any⟩
def P42.CH1_GIB : Fld := ⟨0x42, 64, 8, .ro, .v, 0, false, .any⟩
def P42.RETIRED_PAGES : Fld := ⟨0x42, 72, 8, .ro, .w, 0, false, .any⟩
def P42.UE_COUNT : Fld := ⟨0x42, 80, 16, .ro, .v, 0, false, .any⟩
def P42.DRAM_CE_0 : Fld := ⟨0x42, 96, 32, .ro, .v, 0, false, .any⟩
def P42.DRAM_CE_1 : Fld := ⟨0x42, 128, 32, .ro, .v, 0, false, .any⟩
def P42.SRAM_CE : Fld := ⟨0x42, 160, 32, .ro, .v, 0, false, .any⟩
def P42.LAST_UE_ADDR : Fld := ⟨0x42, 192, 64, .ro, .v, 0, false, .any⟩
/-! Page 0x43, DMA (14 R482). -/
def P43.DESC_12 : Fld := ⟨0x43, 0, 256, .rw, .v, 0, false, .any⟩
def P43.DESC_13 : Fld := ⟨0x43, 256, 256, .rw, .v, 0, false, .any⟩
def P43.DESC_14 : Fld := ⟨0x43, 512, 256, .rw, .v, 0, false, .any⟩
def P43.DESC_15 : Fld := ⟨0x43, 768, 256, .rw, .v, 0, false, .any⟩
def P43.CQ_SEQ : Fld := ⟨0x43, 1024, 32, .ro, .v, 0, false, .any⟩
def P43.RUNS_DONE : Fld := ⟨0x43, 1056, 32, .ro, .v, 0, false, .any⟩
def P43.CHAN_BUSY : Fld := ⟨0x43, 1088, 16, .ro, .v, 0, false, .any⟩
def P43.RUNNING : Fld := ⟨0x43, 1104, 8, .ro, .v, 255, false, .any⟩
/-! Page 0x44, stream ports (14 R483). -/
def P44.STALL_BEATS : Fld := ⟨0x44, 16, 16, .rw, .n, 64, false, .btw 8 8000⟩
def P44.NOTICE_WORDS : Fld := ⟨0x44, 32, 16, .rw, .n, 512, false, .zeroOr 16 16384⟩
def P44.STATE : Fld := ⟨0x44, 48, 2, .ro, .v, 0, false, .any⟩
def P44.PKT_NEXT : Fld := ⟨0x44, 64, 32, .ro, .v, 0, false, .any⟩
def P44.WORDS_IN : Fld := ⟨0x44, 96, 32, .ro, .v, 0, false, .any⟩
def P44.CREDIT_END : Fld := ⟨0x44, 128, 32, .ro, .v, 0, false, .any⟩
def P44.DONE_THRU : Fld := ⟨0x44, 160, 32, .ro, .v, 0, false, .any⟩
def P44.LAST_DROPPED : Fld := ⟨0x44, 192, 32, .ro, .v, 0, false, .any⟩
def P44.DROP_FROM : Fld := ⟨0x44, 224, 32, .ro, .v, 0, false, .any⟩
def P44.DROPPED : Fld := ⟨0x44, 256, 32, .ro, .v, 0, false, .any⟩
def P44.OVERRUN : Fld := ⟨0x44, 288, 32, .ro, .v, 0, false, .any⟩
def P44.DISCARDED : Fld := ⟨0x44, 320, 32, .ro, .v, 0, false, .any⟩
/-! Page 0x50, Dovetail (15 R503). -/
def P50.DIGEST_WAIT : Fld := ⟨0x50, 0, 8, .rw, .n, 40, false, .btw 10 100⟩
def P50.JOIN_LIMIT : Fld := ⟨0x50, 8, 8, .rw, .n, 60, false, .btw 6 255⟩
def P50.PAIR_PORT_D : Fld := ⟨0x50, 16, 1, .ro, .v, 0, false, .any⟩
def P50.PAIR_STATE : Fld := ⟨0x50, 20, 4, .ro, .v, 0, false, .any⟩
def P50.PARTNER_ADDR : Fld := ⟨0x50, 24, 8, .ro, .w, 0, false, .any⟩
def P50.PAIR_ID : Fld := ⟨0x50, 32, 32, .ro, .n, 0, false, .any⟩
def P50.LOCKSTEP_MISMATCHES : Fld := ⟨0x50, 64, 16, .ro, .v, 0, false, .any⟩
def P50.LATE_FRAMES : Fld := ⟨0x50, 80, 16, .ro, .v, 0, false, .any⟩
def P50.MISMATCHES : Fld := ⟨0x50, 96, 32, .ro, .v, 0, false, .any⟩
def P50.DIVERGED_BEAT : Fld := ⟨0x50, 128, 64, .ro, .v, 0, false, .any⟩
def P50.LAST_RELEASED : Fld := ⟨0x50, 192, 64, .ro, .v, 0, false, .any⟩
/-! Page 0x51, event recorder (16 R521). -/
def P51.NOTICE_SEV_MIN : Fld := ⟨0x51, 0, 2, .rw, .n, 1, false, .any⟩
def P51.EVENT_FLUSH_MS : Fld := ⟨0x51, 16, 16, .rw, .n, 1000, false, .btw 10 10000⟩
def P51.NOTICE_CODES : Fld := ⟨0x51, 32, 128, .rw, .n, 0, false, .any⟩
def P51.POWER_CYCLES : Fld := ⟨0x51, 160, 16, .ro, .n, 0, false, .any⟩
def P51.OP_HOURS : Fld := ⟨0x51, 176, 32, .ro, .n, 0, false, .any⟩
def P51.CACHE_PENDING : Fld := ⟨0x51, 208, 16, .ro, .v, 0, false, .any⟩
def P51.OLDEST_SEQ : Fld := ⟨0x51, 224, 32, .ro, .v, 0, false, .any⟩
def P51.NEXT_SEQ : Fld := ⟨0x51, 256, 32, .ro, .v, 0, false, .any⟩
def P51.EVENTS_LOST : Fld := ⟨0x51, 288, 32, .ro, .v, 0, false, .any⟩
/-! Page 0x52, counters (16 R522). -/
def P52.CYCLES : Fld := ⟨0x52, 0, 64, .ro, .w, 0, false, .any⟩
def P52.PC_0 : Fld := ⟨0x52, 64, 48, .ro, .v, 0, false, .any⟩
def P52.PC_1 : Fld := ⟨0x52, 112, 48, .ro, .v, 0, false, .any⟩
def P52.PC_2 : Fld := ⟨0x52, 160, 48, .ro, .v, 0, false, .any⟩
def P52.PC_3 : Fld := ⟨0x52, 208, 48, .ro, .v, 0, false, .any⟩
def P52.PC_4 : Fld := ⟨0x52, 256, 48, .ro, .v, 0, false, .any⟩
def P52.PC_5 : Fld := ⟨0x52, 304, 48, .ro, .v, 0, false, .any⟩
def P52.PC_6 : Fld := ⟨0x52, 352, 48, .ro, .v, 0, false, .any⟩
def P52.PC_7 : Fld := ⟨0x52, 400, 48, .ro, .v, 0, false, .any⟩
def P52.CFG_0 : Fld := ⟨0x52, 448, 19, .rw, .v, 0, false, .any⟩
def P52.CFG_1 : Fld := ⟨0x52, 480, 19, .rw, .v, 0, false, .any⟩
def P52.CFG_2 : Fld := ⟨0x52, 512, 19, .rw, .v, 0, false, .any⟩
def P52.CFG_3 : Fld := ⟨0x52, 544, 19, .rw, .v, 0, false, .any⟩
def P52.CFG_4 : Fld := ⟨0x52, 576, 19, .rw, .v, 0, false, .any⟩
def P52.CFG_5 : Fld := ⟨0x52, 608, 19, .rw, .v, 0, false, .any⟩
def P52.CFG_6 : Fld := ⟨0x52, 640, 19, .rw, .v, 0, false, .any⟩
def P52.CFG_7 : Fld := ⟨0x52, 672, 19, .rw, .v, 0, false, .any⟩
def P52.WRAP : Fld := ⟨0x52, 704, 8, .w1c, .v, 0, false, .any⟩
def P52.BW_WINDOW : Fld := ⟨0x52, 720, 16, .rw, .n, 8000, false, .btw 8 65535⟩
def P52.SNAP_PERIOD : Fld := ⟨0x52, 736, 16, .rw, .n, 0, false, .zeroOr 8 65535⟩
def P52.SNAP_SEQ : Fld := ⟨0x52, 768, 64, .ro, .v, 0, false, .any⟩
/-! Page 0x60, update (10 R368). -/
def P60.DL_LIFE : Fld := ⟨0x60, 0, 16, .rw, .n, 72, false, .btw 1 720⟩
def P60.DL_PER_METER : Fld := ⟨0x60, 16, 8, .rw, .n, 16, false, .btw 9 64⟩
def P60.DL_ATTEMPTS : Fld := ⟨0x60, 24, 8, .rw, .n, 8, false, .btw 1 255⟩
def P60.DL_RESEND : Fld := ⟨0x60, 32, 16, .rw, .n, 30, false, .btw 1 3600⟩
def P60.TARIFF_PARALLEL : Fld := ⟨0x60, 48, 16, .rw, .n, 256, false, .btw 1 4096⟩
def P60.BLOCK_RATE : Fld := ⟨0x60, 64, 8, .rw, .n, 20, false, .btw 1 255⟩
def P60.SLEEPY_BLOCKS : Fld := ⟨0x60, 72, 8, .rw, .n, 4, false, .btw 1 16⟩
def P60.BOOT_WINDOW : Fld := ⟨0x60, 80, 16, .rw, .n, 60, false, .btw 10 600⟩
def P60.CONFIRM_S : Fld := ⟨0x60, 96, 16, .rw, .n, 600, false, .btw 60 65535⟩
def P60.LEGAL_UPD_MODE : Fld := ⟨0x60, 112, 1, .rwl, .l, 0, false, .any⟩
def P60.BOOT_TRIES : Fld := ⟨0x60, 116, 2, .ro, .n, 0, false, .any⟩
def P60.CAMPAIGNS_RUNNING : Fld := ⟨0x60, 120, 3, .ro, .v, 0, false, .any⟩
def P60.ROUND_WAIT : Fld := ⟨0x60, 128, 16, .rw, .n, 30, false, .btw 1 1440⟩
def P60.DL_OPEN : Fld := ⟨0x60, 144, 32, .ro, .v, 0, false, .any⟩
def P60.DL_SENT_FRAMES : Fld := ⟨0x60, 176, 32, .ro, .v, 0, false, .any⟩
def P60.DL_CONCLUDED : Fld := ⟨0x60, 208, 32, .ro, .v, 0, false, .any⟩
def P60.DL_EXPIRED : Fld := ⟨0x60, 240, 32, .ro, .v, 0, false, .any⟩

/-- The fields of page 0x01, lowest bit first. -/
def fields01 : List Fld :=
  [P01.ROLE, P01.RADIO_EN, P01.PLC_EN, P01.METRO_EN, P01.ROLE_ACTIVE, P01.REPLY_LIMIT, P01.GAP_LIMIT, 
   P01.DRAM_FOUND]

/-- The fields of page 0x02, lowest bit first. -/
def fields02 : List Fld :=
  [P02.ETHERTYPE, P02.CHAIN_ADDR, P02.NEIGHBOUR_U, P02.NEIGHBOUR_D, P02.LINK_RTO, P02.LINK_RETRY_MAX, 
   P02.LINK_HOLD, P02.LINK_DEAD, P02.PROBE_MS, P02.U_UP, P02.D_UP]

/-- The fields of page 0x03, lowest bit first. -/
def fields03 : List Fld :=
  [P03.PTP_DOMAIN, P03.SYNC_LOG, P03.SERVO_KP, P03.SERVO_KI, P03.LOCK_NS, P03.SYNC_LOSS, P03.PLUMB_FREE, 
   P03.START_WAIT, P03.U_RX_ADJ, P03.U_TX_ADJ, P03.D_RX_ADJ, P03.D_TX_ADJ, P03.ADJ_LIMIT, P03.LEGAL_SLEW, 
   P03.SLOT_SLEW, P03.PPS_IN_EN, P03.PPS_IN_DISC, P03.PPS_OUT_EN, P03.PPS_OUT_LEGAL, P03.PPS_OUT_FREE, 
   P03.PPS_OUT_WIDTH, P03.PPS_OUT_ADJ, P03.PLUMB_STATE, P03.BEAT_DETACHED, P03.LEGAL_DIVERGED, 
   P03.LEGAL_COMMISSIONED, P03.LEGAL_INVALID, P03.SLOT_STEPPED, P03.SLOT_DIVERGED, P03.OFFSET_NS, 
   P03.PPS_IN_OFFSET, P03.RATE_PPB]

/-- The fields of page 0x04, lowest bit first. -/
def fields04 : List Fld :=
  [P04.POWER_CAP, P04.T_KNEE, P04.HOLD_C, P04.HOLD_VMIN, P04.HOLD_DIV, P04.E_FIXED, P04.E_PAGE, P04.MARGIN, 
   P04.MAP_SHARE, P04.C_MEAS, P04.E_HOLD, P04.LIMIT_L, P04.LIMIT_M, P04.HOLDUP_MODE, P04.TRIM_THERMAL, 
   P04.TRIM_HOLDUP, P04.ACCEPT_STOPPED, P04.TH_VALID, P04.T_HOT, P04.V_DETECT]

/-- The fields of page 0x10, lowest bit first. -/
def fields10 : List Fld :=
  [P10.SLOW_RATE, P10.SLOW_BURST, P10.BATCH_HOLD, P10.FUTURE_LIMIT, P10.KEYGEN_OVERLAP, P10.AUTH_FAIL_LIMIT, 
   P10.UTC_TAI, P10.DEFAULT_DEVIATION, P10.ALLOW_CLEAR, P10.DLMS_EN, P10.TEMPLATES_LOADED, P10.METERS_ENROLLED, 
   P10.ENROL_LIMIT, P10.SLOW_DROPS, P10.AUTH_FAILS, P10.REPLAYS, P10.DUPS_SUPPRESSED, P10.STALE_SUPPRESSED, 
   P10.FUTURE_REFUSED, P10.UNKNOWN_TITLE, P10.DUP_CONFLICTS, P10.CLEAR_DROPPED]

/-- The fields of page 0x11, lowest bit first. -/
def fields11 : List Fld :=
  [P11.CLOCK_TOL, P11.ALIGN_TOL, P11.TAMPER_HOLD, P11.LEGAL_SUSPECT, P11.SPIKES, P11.ROLLOVERS, 
   P11.NON_MONOTONIC, P11.CLOCK_SUSPECTS, P11.ESTIMATES, P11.GAPS_LEFT, P11.OUTAGE_MARKS, P11.EDITS, P11.REBASES]

/-- The fields of page 0x12, lowest bit first. -/
def fields12 : List Fld :=
  [P12.RETAIN_DAYS, P12.VERIFY_BITS, P12.RESERVE_SEGS, P12.READONLY, P12.NO_DIE_PAIR, P12.SINGLE_COPY, P12.WORN, 
   P12.STREAMS_OPEN, P12.DIE_PAIRS, P12.REREPLICATE, P12.GROUPS_DISCARDED, P12.REWRITES, P12.LAST_GROUP, 
   P12.NEXT_LSEQ]

/-- The fields of page 0x13, lowest bit first. -/
def fields13 : List Fld :=
  [P13.PERSIST_ON, P13.PERSIST_WIN, P13.PERSIST_OFF, P13.RHO_MIN, P13.RHO_GAP, P13.N_MIN_PCT, P13.SCRIBE_WAIT, 
   P13.CLOSE_WAIT, P13.CAMPAIGNS_RUNNING, P13.ZC_METRO, P13.INTERVALS_CLOSED, P13.NOT_COUNTED, P13.LATE_VALUES, 
   P13.GROUPS_IN_LOSS, P13.GROUPS_NEGATIVE, P13.ANOMALIES_ACTIVE, P13.METERS_DECIDED, P13.METERS_UNDECIDED]

/-- The fields of page 0x20, lowest bit first. -/
def fields20 : List Fld :=
  [P20.EN, P20.ROLE, P20.PORT, P20.MOD, P20.RATE, P20.SPACING, P20.CHAN_NUM, P20.CH0_KHZ, P20.PAN_ID, P20.BO, 
   P20.SO, P20.MIN_BE, P20.MAX_BE, P20.MAX_BACKOFFS, P20.MAX_RETRIES, P20.SEC_LEVEL, P20.MAC_KEY_SLOT, 
   P20.TX_LEVEL, P20.HOP_LIMIT, P20.SUPPRESS_K, P20.RELAY_JITTER, P20.SEEN_HOLD, P20.RELAY_LIST, P20.G0, 
   P20.GMAX, P20.DRIFT_METER, P20.CELL_MS, P20.ORPHAN_HOLD, P20.ADDR_HOLD, P20.ORPHAN_MASK, P20.ORPHAN_BASE, 
   P20.NET_ID, P20.DEV_EXT, P20.DRIFT_DEV, P20.IQ_RATE, P20.PORT_TX_MAX, P20.PORT_KHZ, P20.STATE, P20.DEPTH, 
   P20.NEIGHBOURS, P20.OUT_FC, P20.RX_FRAMES, P20.RX_FCS_ERR, P20.RX_SEC_FAIL, P20.RX_CUT, P20.ACK_WITHHELD, 
   P20.TX_FRAMES, P20.CCA_FAIL, P20.RELAYED, P20.RELAY_SUPPRESSED, P20.SEEN_FULL, P20.MISSED_SLOTS, 
   P20.ADRIFT_NOW, P20.SLOTS_ASSIGNED]

/-- The fields of page 0x21, lowest bit first. -/
def fields21 : List Fld :=
  [P21.EN, P21.MAINS_HZ, P21.BAUD, P21.KEYING, P21.INJ_LEVEL, P21.INJ_CEIL, P21.AFE_VFS, P21.ZLINE_MIN, 
   P21.COMMON_MAP, P21.ZC_ADJ, P21.ZC_TOL, P21.ZC_WINDOW, P21.ZC_FLY, P21.ZC_DEGLITCH, P21.TM_PERIOD, 
   P21.TM_SNR, P21.TM_BLANK_HOLD, P21.IMPULSE_DB, P21.CS_DB, P21.MIN_BE, P21.MAX_BE, P21.LINK_RETRIES, 
   P21.TRIP_LIMIT, P21.TRIP_BACKOFF, P21.ADV_PERIOD, P21.REG_PERIOD, P21.ROUTE_HYST, P21.ROUTE_HOLD, 
   P21.ROUTE_AGE, P21.COST_HOP, P21.ADDR_HOLD, P21.PLC_KEY_SLOT, P21.OUT_FC, P21.MAINS_PERIOD, 
   P21.METERS_JOINED, P21.STATE, P21.RX_FRAMES, P21.RX_RECOVERED, P21.RX_CRC_FAIL, P21.RX_MISALIGNED, 
   P21.ACK_WITHHELD, P21.TX_FRAMES, P21.TX_ABORTS, P21.INJ_CEIL_HITS, P21.ZC_FLYWHEEL, P21.LINK_FAILS, 
   P21.ROUTE_ERRS, P21.BLANKS_PROPOSED]

/-- The fields of page 0x30, lowest bit first. -/
def fields30 : List Fld :=
  [P30.PROFILE_PERIOD, P30.DEMAND_METHOD, P30.DEMAND_PERIOD, P30.DEMAND_SUBS, P30.SEAL_CAL, P30.VFS_MV, 
   P30.IFS_MA, P30.INFS_MA, P30.P_CREEP, P30.CAL_CRC, P30.CAL_COUNT, P30.LOG_NEXT, P30.LOG_OVERWRITTEN, 
   P30.AUTH_COUNT, P30.SEAL_STATE, P30.METRO_RUN, P30.LEGAL_KEY_SET, P30.LEGAL_KEY]

/-- The fields of page 0x31, lowest bit first. -/
def fields31 : List Fld :=
  [P31.DEFAULT_RATE, P31.CLOSE_DAY, P31.CLOSE_HOUR, P31.CLOSE_MIN, P31.TZ_MIN, P31.DST_DELTA, 
   P31.DST_START_MONTH, P31.DST_START_WEEK, P31.DST_START_DAY, P31.DST_START_HOUR, P31.DST_END_MONTH, 
   P31.DST_END_WEEK, P31.DST_END_DAY, P31.DST_END_HOUR, P31.ACTIVE_CAL_ID, P31.PASSIVE_CAL_ID, P31.PENDING_AT, 
   P31.LAST_SCHED_AT, P31.CLOSURES, P31.RATE_NOW, P31.DST_ON, P31.CAL_WAITING, P31.PATTERN_NOW]

/-- The fields of page 0x32, lowest bit first. -/
def fields32 : List Fld :=
  [P32.DISP_EN, P32.DISP_ADDR, P32.SCROLL_S, P32.DISP_TIMEOUT, P32.OUT_MODE, P32.OUT_CMD, P32.OUT_STATE, 
   P32.PULSE_IMP_KWH, P32.PULSE_MS, P32.AUTO_COUNT, P32.BUTTON_COUNT, P32.DISP_ERRS]

/-- The fields of page 0x40, lowest bit first. -/
def fields40 : List Fld :=
  [P40.PLAIN_IMPORT, P40.STORE_LOST, P40.DEBUG_ACTIVE, P40.ENTROPY_OK, P40.TAMPER_SEEN, P40.SLOTS_LOADED, 
   P40.SLOTS_PERSISTED, P40.ZEROISATIONS, P40.LANE_JOBS, P40.PREEMPTIONS, P40.AUTH_FAIL_JOBS]

/-- The fields of page 0x41, lowest bit first. -/
def fields41 : List Fld :=
  [P41.GC_START, P41.GC_LOW, P41.REFRESH_BITS, P41.WL_SPREAD, P41.SNAP_PAGES, P41.JOURNAL_MS, P41.PATROL_DAYS, 
   P41.DIE_FAIL_PCT, P41.ENDURANCE, P41.FORMATTED, P41.WORN, P41.MAP_SINGLE, P41.REPLAY_REPAIRED, 
   P41.MAP_PENDING, P41.ERASE_MIN, P41.ERASE_MAX, P41.GROWN_BAD, P41.GC_COPIES, P41.WL_MOVES, P41.REFRESHES, 
   P41.UNCORR_RECOVERED, P41.LOST_COPIES]

/-- The fields of page 0x42, lowest bit first. -/
def fields42 : List Fld :=
  [P42.SCRUB_HOURS, P42.CE_EVENT_LIMIT, P42.SRAM_SCRUB_MS, P42.CH0_GIB, P42.CH1_GIB, P42.RETIRED_PAGES, 
   P42.UE_COUNT, P42.DRAM_CE_0, P42.DRAM_CE_1, P42.SRAM_CE, P42.LAST_UE_ADDR]

/-- The fields of page 0x43, lowest bit first. -/
def fields43 : List Fld :=
  [P43.DESC_12, P43.DESC_13, P43.DESC_14, P43.DESC_15, P43.CQ_SEQ, P43.RUNS_DONE, P43.CHAN_BUSY, P43.RUNNING]

/-- The fields of page 0x44, lowest bit first. -/
def fields44 : List Fld :=
  [P44.STALL_BEATS, P44.NOTICE_WORDS, P44.STATE, P44.PKT_NEXT, P44.WORDS_IN, P44.CREDIT_END, P44.DONE_THRU, 
   P44.LAST_DROPPED, P44.DROP_FROM, P44.DROPPED, P44.OVERRUN, P44.DISCARDED]

/-- The fields of page 0x50, lowest bit first. -/
def fields50 : List Fld :=
  [P50.DIGEST_WAIT, P50.JOIN_LIMIT, P50.PAIR_PORT_D, P50.PAIR_STATE, P50.PARTNER_ADDR, P50.PAIR_ID, 
   P50.LOCKSTEP_MISMATCHES, P50.LATE_FRAMES, P50.MISMATCHES, P50.DIVERGED_BEAT, P50.LAST_RELEASED]

/-- The fields of page 0x51, lowest bit first. -/
def fields51 : List Fld :=
  [P51.NOTICE_SEV_MIN, P51.EVENT_FLUSH_MS, P51.NOTICE_CODES, P51.POWER_CYCLES, P51.OP_HOURS, P51.CACHE_PENDING, 
   P51.OLDEST_SEQ, P51.NEXT_SEQ, P51.EVENTS_LOST]

/-- The fields of page 0x52, lowest bit first. -/
def fields52 : List Fld :=
  [P52.CYCLES, P52.PC_0, P52.PC_1, P52.PC_2, P52.PC_3, P52.PC_4, P52.PC_5, P52.PC_6, P52.PC_7, P52.CFG_0, 
   P52.CFG_1, P52.CFG_2, P52.CFG_3, P52.CFG_4, P52.CFG_5, P52.CFG_6, P52.CFG_7, P52.WRAP, P52.BW_WINDOW, 
   P52.SNAP_PERIOD, P52.SNAP_SEQ]

/-- The fields of page 0x60, lowest bit first. -/
def fields60 : List Fld :=
  [P60.DL_LIFE, P60.DL_PER_METER, P60.DL_ATTEMPTS, P60.DL_RESEND, P60.TARIFF_PARALLEL, P60.BLOCK_RATE, 
   P60.SLEEPY_BLOCKS, P60.BOOT_WINDOW, P60.CONFIRM_S, P60.LEGAL_UPD_MODE, P60.BOOT_TRIES, P60.CAMPAIGNS_RUNNING, 
   P60.ROUND_WAIT, P60.DL_OPEN, P60.DL_SENT_FRAMES, P60.DL_CONCLUDED, P60.DL_EXPIRED]

/-- The fields of a page, by its number (02 Table 02-8); none for a page the table does not have. -/
def pageFields : Nat → List Fld
  | 0x01 => fields01
  | 0x02 => fields02
  | 0x03 => fields03
  | 0x04 => fields04
  | 0x10 => fields10
  | 0x11 => fields11
  | 0x12 => fields12
  | 0x13 => fields13
  | 0x20 => fields20
  | 0x21 => fields21
  | 0x30 => fields30
  | 0x31 => fields31
  | 0x32 => fields32
  | 0x40 => fields40
  | 0x41 => fields41
  | 0x42 => fields42
  | 0x43 => fields43
  | 0x44 => fields44
  | 0x50 => fields50
  | 0x51 => fields51
  | 0x52 => fields52
  | 0x60 => fields60
  | _ => []

/-- The page numbers of Table 02-8 (02 R74). -/
def pageNumbers : List Nat :=
  [0x01, 0x02, 0x03, 0x04, 0x10, 0x11, 0x12, 0x13, 0x20, 0x21, 0x30, 0x31, 0x32, 0x40, 0x41, 0x42, 0x43, 0x44, 0x50, 0x51, 0x52, 0x60]

end Sys2Proof.Machine
end

