-- ==== Sys2Proof/Machine/Records.lean ====
section
/-! DEFINITION. The records State is made of, for the beat, the commands, the chain, the ledger, Infeed, Grade, Tally
and the flash store. All are plain data. -/
namespace Sys2Proof.Machine

/-! The beat, the Den and the Sett (01). -/

/-- Beat number, provisional count and trim (01 R9, R10, R562; 03 R113). `ticks` is the model's clock in beats. -/
structure BeatSt where
  loaded : Bool := false
  number : Nat := 0
  prov : Nat := 0
  ticks : Nat := 0
  trim : Int := 0
  err : Int := 0
  deriving DecidableEq, Repr

/-- The Den's results and runs (01 R15, R23 to R34). Energies in µJ, stop energy in mJ × 20,000,000. -/
structure DenSt where
  eBeat : Nat := 0
  eDisc : Nat := 0
  eThermal : Nat := 0
  derating : Bool := false
  tHot : Option Int := none
  excluded : List Bool := [false, false, false, false, false, false]
  validRun : List Nat := [0, 0, 0, 0, 0, 0]
  sensorsLost : Bool := false
  hotRun : Nat := 0
  everOpened : Bool := false
  stop20 : Nat := 0
  e20 : Nat := 0
  pairsP : Nat := 0
  nodeAvg : List Nat := []
  epStart : Nat := 0
  epEnergy : Nat := 0
  exceeded : Bool := false
  demand : Bool := false
  deriving DecidableEq, Repr

/-- The work of firmware threads that a command row then carries out: journal commits and snapshots of the flash map, the
hold-up flush, ledger copies after a die loss, urgent and queued downlink, segment reclaim, wear levelling, campaigns and the
patrol (01 R35, Table 01-6). -/
inductive Task where
  | journal | ftlSnap | flush | ledgerCopies | dlUrgent | dlQueued | reclaim | wear | campaign | patrol
  deriving DecidableEq, Repr

/-- The work a dispatched Sett item does (01 R12, R35). -/
inductive Work where
  | infeed | grade | tally | scribe | p256 | dma
  | lane (n : Nat)
  | commit
  | eventFlush | selfTest (h : Hdr)
  | gc (part : Nat) (chan : Chan)
  | rereplicate
  | slow (id : Nat)
  | task (t : Task)
  deriving DecidableEq, Repr

/-- A queued Sett item: level, flow if bound, whether it is a firmware thread, charge in µJ, run of deferrals, the owed mark,
and whether it keeps its flow in service since it has been dispatched and has not completed (01 R22, R36 to R38). -/
structure SettItem where
  level : Nat
  flow : Option Nat
  thread : Bool
  charge : Nat
  work : Work
  run : Nat := 0
  owed : Bool := false
  holds : Bool := false
  deriving DecidableEq, Repr

/-- The Sett: queued items by level and posting order, flows in service, the items dispatched in this beat, HOLD of each
engine FIFO, energy that lapsed, and the tasks whose thread has been serviced and whose row may act (01 R36 to R41). -/
structure SettSt where
  queue : List SettItem := []
  inService : List Nat := []
  running : List SettItem := []
  hold : List Bool := List.replicate 32 false
  lapsed : Nat := 0
  granted : List Task := []
  deriving DecidableEq, Repr

/-! Commands (02). -/

/-- An effect to be applied: the command and the values fixed when it was accepted. -/
structure Eff where
  cmd : Option Instr := none
  args : List Nat := []
  data : List Byte := []
  deriving DecidableEq, Repr

/-- An admitted command that is not final: header, CRC, payload, tick of admission and of the last PENDING. -/
structure OpenCmd where
  hdr : Hdr
  crc : Nat
  data : List Byte
  at_ : Nat
  lastPending : Nat
  deriving DecidableEq, Repr

/-- A DONE write waiting for the beat boundary at which effect and reply are recorded together, and the earlier writes of
its page that must be applied before it (02 R52, R62, R76). -/
structure DueDone where
  hdr : Hdr
  eff : Eff
  after : List Hdr := []
  deriving DecidableEq, Repr

/-- Sessions, open commands, effects and replies waiting for a boundary, and counts of drops (02). -/
structure CmdSt where
  sess : List Sess := List.replicate 16 {}
  openC : List OpenCmd := []
  dueDone : List DueDone := []
  due : List Eff := []
  noticeCounter : Nat := 0
  dropFcs : Nat := 0
  dropBroadcast : List (Nat × Nat) := []
  dropRepeat : Nat := 0
  dropGap : Nat := 0
  retries : Nat := 0
  funcReset : List (Nat × Hdr) := []
  funcFailed : List (Nat × Nat) := []
  notReady : List Nat := []
  deriving DecidableEq, Repr

/-! The chain and Plumb (03). -/

/-- Port states (03 Table 03-5). -/
inductive PortSt where | down | resync | up
  deriving DecidableEq, Repr

/-- A Brixrum packet to be sent on a port, and whether it is forwarded or the chip's own (03 R94). -/
structure LinkPkt where
  fwd : Bool
  pkt : List Byte
  deriving DecidableEq, Repr

/-- One chain port: link sequences, credit, outstanding, queued and held frames, times and counters (03 R84 to R94, R98,
R108). -/
structure PortState where
  st : PortSt := .down
  txNext : Nat := 0
  rxNext : Nat := 0
  credit : Nat := 0
  outst : List (Nat × LinkPkt) := []
  queue : List LinkPkt := []
  heldFrames : List LinkPkt := []
  nacked : Bool := false
  retries : Nat := 0
  lastRx : Nat := 0
  lastTx : Nat := 0
  lastProgress : Nat := 0
  lastPdelay : Option Nat := none
  downAt : Nat := 0
  neigh : Nat := 0xFF
  delays : List Nat := []
  delayRej : Nat := 0
  sent : Nat := 0
  recv : Nat := 0
  retrans : Nat := 0
  fcsErr : Nat := 0
  downs : Nat := 0
  pauses : Nat := 0
  etherDrops : Nat := 0
  holdDrops : Nat := 0
  deriving DecidableEq, Repr

/-- Both ports, the address that takes effect at the next boundary, the drops of Table 03-3, and the address that port U's
neighbour had before its present one (03 R93, R96, R98). -/
structure ChainSt where
  u : PortState := {}
  d : PortState := {}
  nextAddr : Option Nat := none
  fwdDrops : Nat := 0
  oldNeighU : Nat := 0xFF
  deriving DecidableEq, Repr

/-- Plumb: chain time in 2^-16 ns, servo, whether the two offsets have been set from the battery counter (R119), the
offsets in ns, the steps that wait for a boundary, and counts (03 R102 to R122). -/
structure PlumbSt where
  chain : Int := 0
  integ : Int := 0
  rate : Int := 0
  lockRun : Nat := 0
  stepped : Bool := false
  largeEp : Bool := false
  lastSync : Nat := 0
  startAt : Nat := 0
  est : Bool := false
  theta : Int := 0
  deltaL : Int := 0
  deltaS : Int := 0
  slewL : Int := 0
  slewS : Int := 0
  legalDue : Option Int := none
  slotDue : Option Int := none
  legalReplayed : Option Int := none
  twoStep : Nat := 0
  otherDomain : Nat := 0
  lateSync : Nat := 0
  ppsRejected : Nat := 0
  ppsOut : Bool := false
  ppsAt : Option Nat := none
  ppsFall : Nat := 0
  deriving DecidableEq, Repr

/-- The battery domain: validity mark, legal and slot time in ns as its counter holds them (03 R119, 17 R532). -/
structure BattSt where
  valid : Bool := false
  legal : Int := 0
  slot : Int := 0
  vbat : Bool := true
  deriving DecidableEq, Repr

/-! Infeed (04) and Grade (05). -/

/-- How an item came in: a radio channel, a powerline phase, an ingest batch, a stream port, or the slow path. -/
inductive Way where
  | radio (n : Nat) | plc (n : Nat) | batch (id : Nat) | stream (n pkt : Nat) | slow
  deriving DecidableEq, Repr

/-- One packet of an engine FIFO: its way in, source field, arrival, format and frame bytes (04 R127 to R130); in EF_0 the
normalised readings that firmware returns, and the way in of their frame (04 R143). -/
structure FifoItem where
  way : Way
  src : Nat
  arrival : Arr
  format : Nat
  frame : List Byte
  norm : Option (SlowRet × Way) := none
  deriving DecidableEq, Repr

/-- A frame that firmware works on, and whether its thread has been serviced (04 R142, R143; 01 R38). -/
structure SlowItem where
  id : Nat := 0
  item : FifoItem
  mix : Option Nat := none
  served : Bool := false
  deriving DecidableEq, Repr

/-- The outcome of one reading of a frame: waiting in Grade, released to Ledger, then the outcomes of R155 (04 R155). -/
inductive ROut where | waiting | released | accepted | linked | dup | stale | future | shape
  deriving DecidableEq, Repr

/-- A frame being handled: meter, counter, key generation, sequence, way and source field, acknowledgement request, whether
a copy of it has completed, its readings' channel, slot and outcome, times, meter status, and whether it came through EF_0
(04 R148 to R156). -/
structure FrameRec where
  id : Nat
  mix : Nat
  ic : Nat
  keyGen : Nat
  fseq : Nat
  way : Way
  src : Nat := 0
  ackReq : Bool
  again : Bool := false
  rdgs : List (Nat × Nat × ROut)
  frameEnd : Nat
  arrival : Arr
  mstatus : Nat
  slow : Bool := false
  counterPosted : Bool := false
  deriving DecidableEq, Repr

/-- What an item in a meter's flow waits for: a lane, or its turn as a clear frame or as normalised readings (04 R128). -/
inductive FlowWork where
  | lane
  | clear
  | norm (r : SlowRet)
  deriving DecidableEq, Repr

/-- An item in its meter's flow (04 R128, R144): the meter, the parsed header's fields and the frame. `dlms` tells the two
formats apart, `retry` that the previous key generation is being tried (R146), `tpls` the templates when it was parsed,
`res` is what its lane job came to. -/
structure UnsealJob where
  id : Nat
  mix : Nat
  item : FifoItem
  dlms : Bool
  ic : Nat
  keyGen : Nat
  retry : Bool
  tpls : List Template := []
  work : FlowWork := .lane
  res : Option (JobStatus × List Byte) := none
  deriving DecidableEq, Repr

/-- An unsealed frame of TYPE 1 or 2 handed to firmware: meter, type, counter, key generation, frame sequence, way,
acknowledgement request, arrival, the plaintext body, and the source field (04 R137). -/
structure Handed where
  mix : Nat
  type : Nat
  ic : Nat
  keyGen : Nat
  fseq : Nat
  way : Way
  ackReq : Bool
  arrival : Arr
  body : List Byte
  src : Nat
  deriving DecidableEq, Repr

/-- One ingest batch: its number among batches processed, total, bytes held by offset, the commands that wait, last part's tick, state 1 holding,
2 processing, 3 completed, the items still to be parsed, the counts of Table 04-16, and whether its BATCH_CLOSE entry is
posted (04 R158 to R160). -/
structure Batch where
  id : Nat
  no : Nat := 0
  total : Nat
  parts : List (Nat × List Byte)
  waiting : List (Hdr × List Byte)
  lastAt : Nat
  st : Nat
  items : List FifoItem := []
  accepted : Nat := 0
  suppressed : Nat := 0
  refused : Nat := 0
  counted : Nat := 0
  closed : Bool := false
  deriving DecidableEq, Repr

/-- Infeed (04). -/
structure InfeedSt where
  meters : List Meter := []
  templates : List Template := []
  tokens : Nat := 2500
  tokenFrac : Nat := 0
  rr : Nat := 31
  titleLogAt : Option Nat := none
  malformed : Nat := 0
  jobs : List UnsealJob := []
  nextJob : Nat := 0
  frames : List FrameRec := []
  nextFrame : Nat := 0
  batches : List Batch := []
  slowQ : List SlowItem := []
  nextSlow : Nat := 0
  handed : List Handed := []
  presence : List ((Nat × Nat) × Presence) := []
  deriving DecidableEq, Repr

/-- A reading on its way to Grade: frame, reading, meter status, times and source, and the rule row in force when Grade
took the frame's first reading (05 R171, R174). -/
structure GradeIn where
  frame : Nat
  mix : Nat
  rdg : Rdg
  mstatus : Nat
  frameEnd : Nat
  arrival : Arr
  src : Nat
  fseq : Nat
  way : Way
  row : Option Row := none
  deriving DecidableEq, Repr

/-- Grade: rule rows and profiles that differ from the defaults, tails, the readings that wait, and what the boundary
that opened the slot found: how many waited, whether legal time was invalid or diverged, and the offset of legal from chain time (05 R167 to R189). -/
structure GradeSt where
  rows : List (Nat × Row) := []
  profiles : List (Nat × List Nat) := []
  tails : List ((Nat × Nat) × Tail) := []
  queue : List GradeIn := []
  avail : Nat := 0
  suspect : Bool := false
  off : Int := 0
  deriving DecidableEq, Repr

/-! The ledger (06). -/


/-- What the release of an accepted entry does beyond being counted (06 Table 06-5). -/
inductive Act where
  | none
  | command (h : Hdr) (crc : Nat) (status detail : Nat) (data : List Byte) (eff : Eff)
  | reading (frame : Option Nat) (estimate : Bool)
  | counter (frame ic : Nat) (bit : Bool)
  | batchClose (id : Nat)
  | dl (no sub : Nat) (near : Bool)
  | step (no : Nat)
  | campaign (no mix : Nat)
  | legal (no : Nat)
  | balance (group : Nat) (st : GroupSt)
  | anomaly (mix : Nat) (st : Anom)
  deriving DecidableEq, Repr

/-- A ledger entry: kind 0 is a reading record, others those of Table 06-2; bytes 2 to 23 of its head (0 to 23 of a
reading record), body, sequences, whether provisional and its batch, whether written by command of which function,
the page of its group, the slots of the entries that must follow it in its group, and, when not 0, how far below the
sequence is that its reply data gives (06 R192 to R196, R201, R217). -/
structure Entry where
  kind : Nat
  head : List Byte
  body : List Byte := []
  lseq : Nat := 0
  xseq : List Nat := []
  prov : Bool := false
  batch : Nat := 0
  fn : Nat := 0
  act : Act := .none
  carry : Bool := false
  page : Nat := 0
  more : Nat := 0
  fill : Nat := 0
  deriving DecidableEq, Repr

/-- The state of one copy of a page (06 R198, R199). -/
inductive CopySt where | programming | readBack | verified | missing
  deriving DecidableEq, Repr

/-- One page of a group: slots used, its segment, for each channel the die and state of its copy, what is written: the
page descriptor of its spare area and its bytes, unused slots 0xFF, its page within the segment, the segment and page
of a copy that was written again elsewhere, and its write sequence (06 R196, R197, R199, Table 06-4; 13 R434, R437). -/
structure PageRec where
  slots : Nat
  seg : Nat
  die0 : Nat
  st0 : CopySt
  die1 : Nat
  st1 : CopySt
  desc : List Byte := []
  data : List Byte := []
  at_ : Nat := 0
  moved : List (Chan × (Nat × Nat)) := []
  wseq : Nat := 0
  deriving DecidableEq, Repr

/-- A sealed ledger group: number, entries, pages, seal time, horizon, replay base, boot count, whether accepted and
released, and the beat of its release (06 R196 to R203). -/
structure Group where
  no : Nat
  entries : List Entry
  pages : List PageRec
  sealTime : Nat
  horizon : Nat
  replayBase : Nat
  bootCount : Nat
  accepted : Bool := false
  released : Bool := false
  relTick : Nat := 0
  deriving DecidableEq, Repr

/-- The reclaim of a segment under way: its carry pages, as a group of its own that no acceptance counts (06 R213). -/
structure CarryJob where
  seg : Nat
  group : Group
  deriving DecidableEq, Repr

/-- Ledger and export (06). `resGroup`: the open group draws on the reserve segments (R214); `carryNo` counts carry groups;
`ckpt` holds the control entries of reclaimed segments, as the settings store checkpoints them (R213); `rewriting` names the copies a rewrite of R199 has not verified yet. -/
structure LedgerSt where
  openE : List Entry := []
  openSlots : Nat := 0
  resGroup : Bool := false
  beatCtl : Nat := 0
  waiting : List Entry := []
  toSeal : List (List Entry) := []
  groups : List Group := []
  nextGroup : Nat := 1
  replayBase : Nat := 0
  horizon : Nat := 0
  bootCount : Nat := 0
  rotation : Nat := 0
  sealFrame : Option (Bool × Nat) := none
  streams : List ExpStream := List.replicate 8 {}
  rerep : Nat := 0
  rewriting : List (Nat × Nat × Chan) := []
  carry : Option CarryJob := none
  carryNo : Nat := 0
  ckpt : List Entry := []
  abandoned : List Nat := []
  closedBatches : List Nat := []
  nextBatch : Nat := 1
  provFirst : List (Nat × Nat) := []
  reclaimed : List (Nat × Nat × Nat) := []
  cutSeq : Nat := 0
  secAt : Nat := 0
  secCount : Nat := 0
  secAccepted : Nat := 0
  deriving DecidableEq, Repr

/-! Scribe (07). -/

/-- The result of one meter of a Scribe campaign (07 R243, R245). -/
structure ScribeRes where
  mix : Nat
  decision : Nat
  chosen : Nat
  phaseTag : Nat
  groupTag : Nat
  rho1 : Int
  pairs : Nat
  deriving DecidableEq, Repr

/-- A totalizer reference being sampled: the step, whether its first crossing has come, the sum and number of half-cycles,
and whether no crossing was late (07 R238). -/
structure RefAcc where
  step : Nat := 0
  started : Bool := false
  sum : Nat := 0
  n : Nat := 0
  ok : Bool := true
  deriving DecidableEq, Repr

/-- A Scribe campaign (07 R240 to R244): `blocks` counts the series blocks done of the meter being evaluated. -/
structure ScribeCamp where
  no : Nat
  refSet : Nat
  voltCh : Nat
  step : Nat
  first : Nat
  len : Nat
  selected : List Nat
  results : List ScribeRes := []
  st : Nat := 1
  blocks : List (Nat × Nat) := []
  refSamples : List ((Nat × Nat) × Option Int) := []
  refAcc : List (Nat × RefAcc) := []
  deriving DecidableEq, Repr

/-- Tally and Scribe (07): groups and anomalies as they stand and as the newest accepted entries hold them, legal ns around
steps, reference sets, campaigns, zero-crossing counts and stamps in 2^-16 ns, the totalizer's net energy by phase and
interval end, profile periods in seconds with the instant each came into force, and the accepted values whose slots Tally
has not been granted yet. -/
structure TallySt where
  groups : List (Nat × GroupSt) := []
  anoms : List (Nat × Anom) := []
  durG : List (Nat × GroupSt) := []
  durA : List (Nat × Anom) := []
  stepped : List Int := []
  refSets : List (Nat × List ScribeRef) := []
  campaigns : List ScribeCamp := []
  nextCampaign : Nat := 1
  zc : List Nat := [0, 0, 0]
  zcAt : List Int := [0, 0, 0]
  feedE : List ((Nat × Nat) × Int) := []
  periods : List (Nat × Nat) := []
  toCount : Nat := 0
  deriving DecidableEq, Repr

/-! The flash store (13). -/

/-- States of an erase block (13 R437). -/
inductive BlkSt where | free | opened | closed | pendingErase | spare | factoryBad | retired
  deriving DecidableEq, Repr

/-- One erase block that has left its first state: channel, die, block, partition, erase count, state, valid pages,
the next page to program and uncorrectable reads seen (13 R437, R443). -/
structure Blk where
  chan : Chan
  die : Nat
  blk : Nat
  part : Nat
  erases : Nat
  st : BlkSt
  valid : Nat
  next : Nat := 0
  uncorr : Nat := 0
  deriving DecidableEq, Repr

/-- States of a ledger segment (13 R437). -/
inductive SegSt where | free | opened | closed | reclaiming
  deriving DecidableEq, Repr

/-- A journal record (13 Table 13-4): OP, partition, channel and three operands. -/
structure JRec where
  op : Nat
  part : Nat
  chan : Chan
  a : Nat
  b : Nat := 0
  c : Nat := 0
  deriving DecidableEq, Repr

/-- A journal commit (13 R439). -/
structure Commit where
  no : Nat
  recs : List JRec
  pages : Nat
  deriving DecidableEq, Repr

/-- The flash store (13): geometry, per-channel capacities, blocks, segments, page map, journal and its commits,
snapshots, dies lost. `map` gives (partition, page) its two addresses,
`openSegs` each die pair's open segment and the pages it holds, `segs` the segments that are not free, `segBlks` their
blocks on channels 0 and 1, as die and block. -/
structure FtlSt where
  pageSize : Nat := 16384
  pagesPerBlock : Nat := 1024
  dies : List Nat := [0, 0]
  blocksPerDie : Nat := 0
  usable : List Nat := [0, 0]
  spares : List Nat := [0, 0]
  fixed : Nat := 0
  ledgerBlks : List Nat := [0, 0]
  retiredDie : List ((Chan × Nat) × Nat) := []
  dieLost : List (Chan × Nat) := []
  blks : List Blk := []
  segs : List (Nat × SegSt) := []
  openSegs : List ((Nat × Nat) × (Nat × Nat)) := []
  segBlks : List (Nat × ((Nat × Nat) × (Nat × Nat))) := []
  map : List ((Nat × Nat) × (Nat × Nat)) := []
  pendRecs : List JRec := []
  commits : List Commit := []
  commitNo : Nat := 0
  sinceSnap : Nat := 0
  snapNo : Nat := 0
  snapCommit : Nat := 0
  anchorSeq : Nat := 0
  wseq : Nat := 0
  lastCommitAt : Nat := 0
  gcPosted : List (Nat × Chan) := []
  shutdown : Option (Nat × Nat) := none
  lastPatrol : Nat := 0
  levelling : List Chan := []
  deriving DecidableEq, Repr

/-! Events and counters (16), power (17). -/

/-- An event record (16 Table 16-1). -/
structure EvRec where
  seq : Nat
  timeS : Nat
  timeUs : Nat
  code : Nat
  flags : Nat
  opHours : Nat
  cycles : Nat
  detail : List Byte
  deriving DecidableEq, Repr

/-- The event recorder (16 R504 to R511): written ring, pending records, notices still to be sent, notices sent in this
beat, EVENTS_DROPPED owed and last logged, tick of the oldest pending record, beats of the running hour. -/
structure EvSt where
  ring : List EvRec := []
  pend : List EvRec := []
  noticeQ : List EvRec := []
  sentBeat : Nat := 0
  dropOwed : Bool := false
  dropAt : Option Nat := none
  pendAt : Nat := 0
  hourPart : Nat := 0
  flushPosted : Bool := false
  deriving DecidableEq, Repr

/-- Counter windows, the period fields of Table 16-4, the self-test that runs, the beat numbers of the last window end and
snapshot, and the counters and WRAP bits as they stood before a COUNTER_CONFIG of a beat (16 R513 to R520). -/
structure CtrSt where
  win : List Nat := List.replicate 8 0
  perDeferred : Nat := 0
  perHold : Nat := 0
  perAccepted : Nat := 0
  selfTest : Option Hdr := none
  lastWin : Nat := 0
  lastSnap : Nat := 0
  before : Option (Nat × (List Nat × Nat)) := none
  deriving DecidableEq, Repr

/-- Power states (17 Table 17-2). -/
inductive PwrMode where | off | dormant | start | run | trim | holdup
  deriving DecidableEq, Repr

/-- What started the hold-up flush (17 R529, R531). -/
inductive FlushCause where | mains | resetN | thermal | pwrCycle
  deriving DecidableEq, Repr

/-- Power and reset state (17): mode, cause of the last reset, last start-up step, held out of RUN, the flush, the cause
of PWR_REQ and whether PWR_REQ_N is low, RESET_N, core watchdog times, a command that waits for its DONE to leave (1 DEV_RESET, 2 PWR_CYCLE_REQ), and whether the
last power episode ended with a SHUTDOWN record. -/
structure PwrSt where
  mode : PwrMode := .start
  cause : Nat := 1
  step : Nat := 0
  held : Bool := false
  flush : Option FlushCause := none
  flushEnded : Bool := false
  pwrReq : Option Nat := none
  reqDriven : Bool := false
  resetN : Bool := false
  wdTimes : List Nat := []
  resetDue : Nat := 0
  dramRetired65 : Bool := false
  shutdownSeen : Bool := false
  selfRefresh : Bool := false
  deriving DecidableEq, Repr

end Sys2Proof.Machine
end

