-- ==== Sys2Proof/Machine/Outputs.lean ====
section
/-! DEFINITION. What the device sends and drives, as the model records it in State's field `out` (assumption log 3). -/
namespace Sys2Proof.Machine

/-- One thing the device sends: a Brixrum reply, a notice, link frames, IEEE 1588 messages, and what later chapters send
by radio, powerline, display and pins. -/
inductive Out where
  | reply (h : Hdr) (status detail : Nat) (data : List Byte)
  | notice (counter : Nat) (e : EvRec)
  | linkData (port : Port) (lseq lack credit : Nat) (packet : List Byte)
  | linkCtl (port : Port) (kind lseq lack credit : Nat)
  | sync (corr : Int)
  | pdelayReq (port : Port)
  | pdelayResp (port : Port) (corr : Int)
  | ptpForward (message : List Byte)
  | radio (ch cls : Nat) (level : Int) (num : Option Nat) (dest : Nat) (cmd ackReq : Bool) (fc : Option Nat) (payload : List Byte)
  | enhAck (ch : Nat) (level : Int) (ext : Option Nat) (short : Nat) (pend : Bool) (fc : Option Nat)
  | plc (ph level : Nat) (header payload : List Byte) (slots : List (Option Nat))
  | outputs (asserted : Nat)
  | pulse (n ms : Nat)
  | display (addr : Nat) (frame : List Byte)
  | laneDone (tag status cycles : Nat)
  | beatFrame (port : Port) (f : BeatFrame)
  | pwrReq (cause : Nat)
  | program (chan : Chan) (addr : Nat) (page : List Byte)
  deriving DecidableEq, Repr

end Sys2Proof.Machine
end

