-- ==== Sys2Proof/Machine/Records2.lean ====
section
/-! DEFINITION. The records State is made of, for memory, DMA, engine FIFOs and streams (14), and keys and lanes (12). -/
namespace Sys2Proof.Machine

/-! Engine FIFOs and stream ports (14). -/

/-- One bank of an engine FIFO: its packets, the words they take, whether it is closed (14 R471, R472). -/
structure Bank where
  items : List FifoItem := []
  used : Nat := 0
  closed : Bool := false
  deriving DecidableEq, Repr

/-- An engine FIFO: the bank that is open, then the closed banks in the order they closed (14 R471 to R473). -/
structure Fifo where
  opened : Option Bank := some {}
  closedB : List Bank := []
  deriving DecidableEq, Repr

/-- Stream port states (14 R483); HOLD is read from the Sett. -/
inductive PortOpen where | closed | opened | closing
  deriving DecidableEq, Repr

/-- What is held of a packet in progress: its words and bytes, and the ticks since its last word (14 R475, R477). -/
structure Partial where
  words : Nat
  data : List Byte
  lastAt : Nat
  deriving DecidableEq, Repr

/-- A stream port beside its page: state, packet in progress, packets not yet complete or dropped, whether a drop run is
open, and the values of the last notice (14 R474 to R478). -/
structure Stream where
  st : PortOpen := .closed
  part : Option Partial := none
  partWords : Nat := 0
  waiting : List Nat := []
  runOpen : Bool := false
  seenCredit : Nat := 0
  seenDone : Nat := 0
  noticedAt : Nat := 0
  deriving DecidableEq, Repr

/-! Memory and DMA (14). -/

/-- A DMA run: channel, descriptor as it stood when it was queued, whether it met poison, the segments done, and the running
CRC of a CRC run (14 R469, R470). -/
structure DmaRun where
  chan : Nat
  desc : List Byte
  poison : Bool := false
  done : Nat := 0
  crc : Nat := 0xFFFFFFFF
  deriving DecidableEq, Repr

/-- Memory (14): queued runs, the first of which runs when `dmaOn` is set; poisoned lines, retired pages, the
MEM_CORRECTED events of the running hour, FIFOs, stream ports, and the tick of the last SRAM scrub. -/
structure MemSt where
  runs : List DmaRun := []
  dmaOn : Bool := false
  poisoned : List Nat := []
  retired : List Nat := []
  ceHour : Nat := 0
  ceEvents : Nat := 0
  fifos : List Fifo := List.replicate 32 {}
  streams : List Stream := List.replicate 8 {}
  scrubAt : Nat := 0
  deriving DecidableEq, Repr

/-! Keys and lanes (12). -/

/-- A job on a lane: its descriptor, the keys the lane obtained for it, and the block operations left (12 R407, R410). -/
structure RunJob where
  job : LaneJob
  key : List Byte
  ak : List Byte
  left : Nat
  deriving DecidableEq, Repr

/-- A lane: the job it runs, the jobs suspended on it, newest first, and the block operations left of the slot it was
granted in this beat (12 R407, R411, R412; 01 R11). -/
structure Lane where
  job : Option RunJob := none
  suspended : List RunJob := []
  budget : Nat := 0
  deriving DecidableEq, Repr

/-- The key store and the lanes (12): slots that are not free, persisted records, whether a store header is written,
lanes, queued jobs, steps left of the P-256 jobs, and for each fill whose command is not accepted the record it replaced
(R419). -/
structure KeySt where
  slots : List (Nat × KeySlot) := []
  store : List (Nat × KeySlot) := []
  storeWritten : Bool := false
  lanes : List Lane := List.replicate 8 {}
  queue : List LaneJob := []
  p256 : List (Nat × Nat) := []
  replaced : List (Nat × Hdr × Option KeySlot) := []
  entropyBad : Bool := false
  tamperWait : Bool := false
  deriving DecidableEq, Repr

end Sys2Proof.Machine
end

