-- ==== Sys2Proof/Machine/Records3.lean ====
section
/-! DEFINITION. The records State is made of, for the radio channels (08) and the powerline phases (09). -/
namespace Sys2Proof.Machine

/-- What a queued transmission carries to a meter: acknowledgements of one meter that became due in one beat (frame
sequence, counter, disposition), a fragment of a downlink item, a block of a campaign, or anything else (08 R268; 10
R333, R350). -/
inductive Cargo where
  | acks (mix tick : Nat) (l : List (Nat × Nat × Nat))
  | item (no frag : Nat)
  | block (campaign index : Nat)
  | other
  deriving DecidableEq, Repr

/-! The radio (08). -/

/-- A frame queued on a channel: transmit class, target title if it goes to one meter, short address, MAC payload,
whether it is a MAC command, asks for an Enh-Ack, is held for the meter's poll, the slot time up to which the meter that
polled listens, its flood type and hop limit when it is flooded, the tick before which it must not go, a channel number
other than the own, and attempts made (08 R257, R268, R273). -/
structure RadTx where
  ch : Nat
  cls : Nat
  ext : Option Nat
  dest : Nat
  payload : List Byte
  cmd : Bool := false
  ackReq : Bool := true
  indirect : Bool := false
  readyTo : Option Int := none
  flood : Option (Nat × Nat) := none
  at_ : Nat := 0
  num : Option Nat := none
  tries : Nat := 0
  cargo : Cargo := .other
  deriving DecidableEq, Repr

/-- A reception in progress: PSDU octets, SFD instant in ns of slot time and of chain time, and whether a place in the
engine FIFO is reserved (08 R256, R266). -/
structure RadRx where
  psdu : Nat
  slot : Int
  chain : Int
  reserved : Bool
  deriving DecidableEq, Repr

/-- What a member channel holds of its parent: addresses, own short address, depth, relay list, slot time in
ns of the last beacon and of the next one expected, misses, half-width of the last window in ns, tick the orphan scan
began (08 R261, R270). -/
structure Parent where
  ext : Nat
  short : Nat
  own : Nat
  depth : Nat
  relays : List Nat
  lastBeacon : Int
  expect : Int := 0
  missed : Nat := 0
  half : Int := 0
  scanBegan : Nat := 0
  deriving DecidableEq, Repr

/-- One channel: reception, end of the last frame heard, transmissions of the last seconds and the end of the last one (slot
time in ns), the frame that waits for an Enh-Ack, the last beacon instant in µs and that beacon's end in ns, end of the
rendezvous slot, since when the channel runs, addresses held without an entry with the title and the tick of holding,
the stored frame counter, whether exhaustion is logged, its parent in member mode, and the tick of its last scan. -/
structure RadChan where
  rx : Option RadRx := none
  rxUntil : Int := 0
  txs : List (Int × Int) := []
  txUntil : Int := 0
  flight : Option RadTx := none
  beaconAt : Int := 0
  beaconUntil : Int := 0
  rdvUntil : Int := 0
  upSince : Int := 0
  heldAddr : List (Nat × Nat × Nat) := []
  fcStored : Nat := 0
  fcLogged : Bool := false
  parent : Option Parent := none
  lastScan : Option Nat := none
  deriving DecidableEq, Repr

/-- A neighbour (08 Table 08-9): title, short address, channel, state code, depth, misses, levels, slot agreement and
the one before it, offset in ns and rate in 10^-12, SFD of its last direct frame on slot and chain time, last frame's
slot time in ns and tick, end of that frame on slot time, incoming counter, whether the guard is GMAX until it is heard,
and the last slot instant accounted for in ms. -/
structure Neigh where
  ext : Nat
  short : Nat
  ch : Nat
  st : Nat
  depth : Nat := 0
  missed : Nat := 0
  rssi : Int := 0
  lqi : Nat := 0
  period : Nat := 0
  cell : Nat := 0
  drift : Nat := 40
  beaconSync : Bool := false
  ackWin : Bool := false
  from_ : Nat := 0
  prev : Option (Nat × Nat) := none
  offset : Int := 0
  rate : Int := 0
  sfdSlot : Int := 0
  sfdChain : Int := 0
  heard : Int := 0
  heardTick : Nat := 0
  frameEnd : Int := 0
  fc : Option Nat := none
  wide : Bool := true
  slotDone : Nat := 0
  deriving DecidableEq, Repr

/-- An entry of the seen-cache: origin, flood sequence, tick of insertion, copies heard, and a relay that is scheduled
on a channel with the tick at which its jitter ends (08 R281, R282). -/
structure Seen where
  origin : Nat
  seq : Nat
  at_ : Nat
  heard : Nat := 1
  relay : Option (Nat × List Byte × Nat) := none
  deriving DecidableEq, Repr

/-- The radio (08): channels, neighbours in index order, seen-cache, queues, flood sequence and the ticks of the device's
own floods, and the slot time in ns at which it last was out of RUN. -/
structure RadioSt where
  chans : List RadChan := List.replicate 16 {}
  neigh : List Neigh := []
  seen : List Seen := []
  txq : List RadTx := []
  floodSeq : Nat := 0
  floodAt : List Nat := []
  quietAt : Int := 0
  deriving DecidableEq, Repr

/-! Powerline (09). -/

/-- A tone map: sequence, four-tone keying, masks of TS_0 to TS_7 (09 Table 09-6). -/
structure ToneMap where
  seq : Nat := 0
  four : Bool := true
  masks : List Nat := List.replicate 8 0xFF
  deriving DecidableEq, Repr

/-- A frame queued on a phase: queue place, type, link receiver, inner payload with its mesh header fields, link
sequence, bytes, MAP_SEQ and map once it has been started, attempts made, the chain time in ns before which it must not start, its
frame counter, and the map that a link acknowledgement adopts (09 R306, R307, R313). -/
structure PlcTx where
  place : Nat
  type : Nat
  dest : Nat
  routing : Nat := 2
  final : Nat := 0
  path : List Nat := []
  inner : List Byte := []
  ackReq : Bool := false
  lseq : Option Nat := none
  bytes : List Byte := []
  map : Nat := 0
  tone : ToneMap := {}
  tries : Nat := 0
  notBefore : Int := 0
  fc : Nat := 0
  adopt : Option (Nat × ToneMap) := none
  cargo : Cargo := .other
  title : Option Nat := none
  deriving DecidableEq, Repr

/-- A frame header as received (09 Table 09-3), the chain time in ns of its first slot, and whether a place in the engine
FIFO is reserved (09 R308). -/
structure PlcRx where
  hdr : PlcHdr
  chain : Int
  reserved : Bool
  deriving DecidableEq, Repr

/-- What the device keeps of a neighbour on a phase: maps it proposed for receiving (newest, the one before, chain tick
of the proposal), the map it sends under, last LSEQ accepted and next to send, the last 16 data frames' missing
acknowledgements, failures by segment, segments held blank with the tick of their last impulse, whether each map was in
force for the whole period, and the costs (09 R307, R311 to R314). -/
structure PlcLink where
  addr : Nat
  rx : ToneMap := {}
  rxPrev : Option ToneMap := none
  rxAt : Nat := 0
  tx : ToneMap := {}
  lastSeq : Option Nat := none
  nextSeq : Nat := 0
  unacked : List Bool := []
  fails : List (Nat × Nat) := []
  blanks : List (Nat × Nat) := []
  usable : List Nat := List.replicate 8 0xFF
  wholeTx : Bool := false
  wholeRx : Bool := false
  costTx : Nat := 0
  costRx : Nat := 0
  deriving DecidableEq, Repr

/-- One path of a route: forwarders device side first, cost reported, tick of the registration, broken (09 R317). -/
structure PlcPath where
  hops : List Nat
  cost : Nat
  at_ : Nat
  broken : Bool := false
  deriving DecidableEq, Repr

/-- A route entry (09 R317, Table 09-8). -/
structure PlcRoute where
  title : Nat
  short : Nat
  primary : Option PlcPath := none
  alternate : Option PlcPath := none
  deriving DecidableEq, Repr

/-- One phase: filtered period in 2^-16 ns, chain time of the last crossing in ns, flywheel run, candidates, joined
titles with their addresses, held addresses, routes, links, incoming counters by originator, queues, the frame on the
line with the cycles it still takes, the frame that waits for its link acknowledgement, busy exponent and cycles of
backoff left, aborts, the chain time up to which an aborted frame waits, and suspension, advertisement sequence and tick, stored counter and the tick of the last
PLC_INJ_CEILING (09). -/
structure PlcPhase where
  period : Int := 0
  lastX : Int := 0
  fly : Nat := 0
  cand : Nat := 0
  joined : List (Nat × Nat) := []
  held : List (Nat × Nat) := []
  routes : List PlcRoute := []
  links : List PlcLink := []
  inFc : List (Nat × Nat) := []
  rx : Option PlcRx := none
  txq : List PlcTx := []
  line : Option (PlcTx × Nat) := none
  await : Option PlcTx := none
  awaitAt : Int := 0
  be : Option Nat := none
  backoff : Nat := 0
  recent : List (Nat × PlcTx) := []
  tmAt : Nat := 0
  aborts : Nat := 0
  retryHold : Option Int := none
  suspended : Option Nat := none
  advSeq : Nat := 0
  advAt : Option Nat := none
  fcStored : Nat := 0
  fcLogged : Bool := false
  ceilAt : Option Nat := none
  deriving DecidableEq, Repr

/-- The three phases. -/
structure PlcSt where
  phases : List PlcPhase := List.replicate 3 {}
  deriving DecidableEq, Repr

end Sys2Proof.Machine
end

