-- ==== Sys2Proof/Machine/Records4.lean ====
section
/-! DEFINITION. The records State is made of, for downlink items, tariff pushes, campaigns and firmware updates (10). -/
namespace Sys2Proof.Machine

/-- A tariff push (10 R344 to R346): number, identifier, its TABLE and header fields, whether the TARIFF entry is released,
whether creation is stopped, and each selected meter's progress: 1 waiting, 2 in progress, 3 done, 4 expired, 5 failed. -/
structure Push where
  no : Nat
  id : Nat := 0
  activate : Nat
  format : Nat
  table : List Byte
  live : Bool := false
  cancelled : Bool := false
  meters : List (Nat × Nat)
  deriving DecidableEq, Repr

/-- A meter of a campaign (10 R349, R354): state, blocks held as a bit map, last RESULT, legal seconds of the last query,
and the next block of a unicast pass. -/
structure CampMeter where
  mix : Nat
  st : Nat := 1
  held : Nat := 0
  result : Nat := 0
  queryAt : Nat := 0
  pos : Nat := 0
  deriving DecidableEq, Repr

/-- A firmware campaign (10 R348 to R355): Table 10-9's fields, the image's length, CRC and block count, state of R354,
round, meters, the instant of activation once it is given, whether a round is sending, the tick its last block was sent,
and whether CREATED is released. -/
structure Camp where
  no : Nat
  image : Nat
  unicast : Bool
  blockSize : Nat
  start : Nat
  deadline : Nat
  activateAt : Nat
  keySlot : Nat
  maxRounds : Nat
  meterType : Nat
  version : Nat
  length : Nat
  crc : Nat
  count : Nat
  st : Nat := 0
  round : Nat := 0
  meters : List CampMeter
  instant : Option Nat := none
  sending : Bool := false
  lastBlock : Option Nat := none
  deriving DecidableEq, Repr

/-- A stored meter image: total length, CRC, blocks by offset (10 R347). -/
structure MeterImage where
  total : Nat
  crc : Nat
  blocks : List (Nat × List Byte)
  deriving DecidableEq, Repr

/-- One firmware slot: state (0 empty, 1 receiving, 2 committed, 3 pending, 4 trial, 5 failed), MAJOR, MINOR, PATCH and
IFACE as 8 header bytes, ranges accepted, the IMAGE_BEGIN bytes, and the blocks held (10 R357, R358, R365). -/
structure FwSlot where
  st : Nat := 0
  begin_ : List Byte := []
  blocks : List (Nat × List Byte) := []
  deriving DecidableEq, Repr

/-- A component: its active slot, both slots, and its open UPDATE_ID (10 R356, R357). -/
structure FwComp where
  active : Nat := 0
  slots : List FwSlot := [{}, {}]
  openId : Nat := 0
  deriving DecidableEq, Repr

/-- Downlink, pushes, campaigns, images and updates (10). `hourly` gives the legal hour of each meter's last
DL_STRAY_RESPONSE, `newest` each meter's way of the first copy of its newest completed uplink frame. -/
structure DlSt where
  items : List DlItem := []
  nextItem : Nat := 1
  dlc : List (Nat × Nat) := []
  newest : List (Nat × Way × Nat) := []
  hourly : List (Nat × Nat) := []
  pushes : List Push := []
  nextPush : Nat := 1
  camps : List Camp := []
  nextCamp : Nat := 1
  images : List (Nat × MeterImage) := []
  comps : List FwComp := List.replicate 5 {}
  nextUpdate : Nat := 1
  pendingMask : Nat := 0
  trialMask : Nat := 0
  rolledBack : Bool := false
  bootAt : Option Nat := none
  runAt : Option Nat := none
  resetNowAt : Option Nat := none
  deriving DecidableEq, Repr

end Sys2Proof.Machine
end

