-- ==== Sys2Proof/Machine/Records5.lean ====
section
/-! DEFINITION. The records State is made of, for the totalizer, the legal partition, the display and the outputs (11). -/
namespace Sys2Proof.Machine

/-- A display list entry: register, format, code (11 R399). -/
structure DispItem where
  id : Nat
  format : Nat
  code : Nat
  deriving DecidableEq, Repr

/-- A pulse output: energy in 2^-32 Wh times PULSE_IMP_KWH not yet a pulse, pulses that are due, ticks of the last pulse's
start and end (11 R400). -/
structure PulseSt where
  acc : Nat := 0
  backlog : Nat := 0
  from_ : Option Nat := none
  until_ : Nat := 0
  deriving DecidableEq, Repr

/-- Display and outputs (11 R398 to R402): both lists, whether the button list shows, the positions in them, ticks of the
last advance and press, whether outputs are released until RUN, the levels
last driven at the output pins, the pulse outputs, and the item and tick of the last frame written to the display. -/
structure DispSt where
  auto : List DispItem := []
  button : List DispItem := []
  onButton : Bool := false
  autoAt : Nat := 0
  buttonAt : Nat := 0
  autoTick : Nat := 0
  pressTick : Nat := 0
  released : Bool := true
  driven : Nat := 0
  pulses : List PulseSt := List.replicate 8 {}
  shown : Option (Option DispItem × Nat) := none
  deriving DecidableEq, Repr

/-! The Dovetail pair (15). -/

/-- A reply that waits for its beat's digest agreement: header, status, detail, data (15 R493). -/
structure HeldOut where
  hdr : Hdr
  status : Nat
  detail : Nat
  data : List Byte
  deriving DecidableEq, Repr

/-- An ended beat of the chip's own: its frame, as it was sent, the replies it holds, the outputs as one byte and the cause
of PWR_REQ_N when it is low (15 R489, R492, R493). -/
structure OwnBeat where
  frame : BeatFrame
  replies : List HeldOut
  pins : Nat := 0
  req : Option Nat := none
  deriving DecidableEq, Repr

/-- What both chips work from: the lower e_disc, l and m, acceptance closed or store read-only in either, and the lower
COMPLETE (15 R491). -/
structure Agreed where
  eDisc : Nat
  limitL : Nat
  limitM : Nat
  stopped : Bool
  readonly : Bool
  complete : Nat
  deriving DecidableEq, Repr

/-- A join under way on the primary: the PAIR command, the tick it began, the state before it, the partner's address, the
pair's number, and whether beat Z has passed (15 R488). -/
structure Joining where
  hdr : Hdr
  data : List Byte
  began : Nat
  prev : Nat
  id : Nat
  started : Bool := false
  deriving DecidableEq, Repr

/-- Dovetail (15): the join under way, output records and replies of the running beat, own beats and partner frames not
yet compared, compared beats not yet used, what is used, packets received by beat and copies held, partner counts not yet
posted, absent frames in a row, whether the last beat's frame came, the beat whose wait ended, the tick of the last event
of fault severity, the state that follows at a boundary, and the chip's own e_disc, l and m. -/
structure PairSt where
  join : Option Joining := none
  recs : List (List Nat) := []
  replies : List HeldOut := []
  own : List OwnBeat := []
  theirs : List BeatFrame := []
  compared : List (BeatFrame × BeatFrame) := []
  used : Option Agreed := none
  inputs : List (Nat × List Byte) := []
  copies : List (List Byte) := []
  admits : List (Nat × Nat) := []
  absent : Nat := 0
  present : Bool := false
  waited : Option Nat := none
  faultAt : Option Nat := none
  next : Option (Nat × Nat) := none
  ownDen : Nat × Nat × Nat := (0, 0, 0)
  deriving DecidableEq, Repr

end Sys2Proof.Machine
end

