-- ==== Sys2Proof/Machine/State.lean ====
section
/-! DEFINITION. The machine's state: every register page, buffer, queue, counter, mode and pin of the spec, the model's
own fields `out` and `free`, and the queue of waiting commands. -/
namespace Sys2Proof.Machine

/-- Why a command stops the model. No rule of the spec stops the device, so no meaning raises one: safe. -/
inductive Fault where
  /-- Raised by no command; it stands for an access to an address that does not exist, which the spec answers with a
  status instead: safe. -/
  | noSuchAddress
  deriving DecidableEq, Repr

/-- Why a command has no outcome. -/
inductive Refusal where
  /-- The command has no meaning yet; raised by the dispatch alone: safe. -/
  | notModelled (mnemonic : String)
  deriving DecidableEq, Repr

/-- The state. `regs` holds the fields of the parameter pages that differ from their reset values, by rising key;
`mem` the bytes of the addressed memory that differ from 0, by rising address. -/
structure State where
  regs : List (Nat × Nat)
  mem : List Host.Cell
  beat : BeatSt
  den : DenSt
  sett : SettSt
  cmd : CmdSt
  chain : ChainSt
  plumb : PlumbSt
  batt : BattSt
  infeed : InfeedSt
  grade : GradeSt
  ledger : LedgerSt
  tally : TallySt
  ftl : FtlSt
  memory : MemSt
  keys : KeySt
  radio : RadioSt
  plc : PlcSt
  dl : DlSt
  legal : LegalSt
  disp : DispSt
  ev : EvSt
  ctr : CtrSt
  pair : PairSt
  pwr : PwrSt
  out : List Out
  free : Nat
  pending : List Instr
  deriving DecidableEq, Repr

/-- The machine right after a power-on reset with nothing stored: power state START before its first step (17 R523,
R527), every register at its reset value, sessions closed, nothing enrolled, ledger sequence 1 (06 R193). -/
def State.reset : State where
  regs := []
  mem := []
  beat := {}
  den := {}
  sett := {}
  cmd := {}
  chain := {}
  plumb := {}
  batt := {}
  infeed := {}
  grade := {}
  ledger := {}
  tally := {}
  ftl := {}
  memory := {}
  keys := {}
  radio := {}
  plc := {}
  dl := {}
  legal := {}
  disp := {}
  ev := {}
  ctr := {}
  pair := {}
  pwr := {}
  out := []
  free := 0
  pending := []

end Sys2Proof.Machine
end

