-- ==== Sys2Proof/Machine/Ops.lean ====
section
/-! DEFINITION. The named operations every meaning is built from: canonical lists, register fields, memory bytes, time,
the state of subsystems, and the record of what is sent. -/
namespace Sys2Proof.Machine

/-! Canonical lists: keys strictly rising, no entry equal to what an unlisted key reads as. -/

/-- The entry under a key. -/
def cGet {α : Type} (k : Nat) : List (Nat × α) → Option α
  | [] => none
  | (k', v) :: l => if k = k' then some v else if k < k' then none else cGet k l

/-- A canonical list after a write of `v` under `k`, where an unlisted `k` reads as `d`. -/
def cPut {α : Type} [DecidableEq α] (k : Nat) (v d : α) : List (Nat × α) → List (Nat × α)
  | [] => if v = d then [] else [(k, v)]
  | (k', v') :: l =>
    if k < k' then (if v = d then (k', v') :: l else (k, v) :: (k', v') :: l)
    else if k = k' then (if v = d then l else (k, v) :: l)
    else (k', v') :: cPut k v d l

/-- Every key of a list lies above a bound, and the keys rise strictly. -/
def rising {α : Type} : Option Nat → List (Nat × α) → Bool
  | _, [] => true
  | none, (k, _) :: l => rising (some k) l
  | some b, (k, _) :: l => decide (b < k) && rising (some k) l

/-! Register fields. -/

/-- The key of a field in an instance of its page. -/
def fkey (f : Fld) (i : Nat) : Nat := (f.page * 16 + i % 16) * 2048 + f.lo

/-- The field of a key. -/
def fieldOfKey (k : Nat) : Option Fld := (pageFields (k / 2048 / 16)).find? (fun f => f.lo == k % 2048)

/-- The value of a field in instance `i` of its page. -/
def rdI (s : State) (f : Fld) (i : Nat) : Nat := (cGet (fkey f i) s.regs).getD f.reset

/-- The value of a field of a page with one instance. -/
def rd (s : State) (f : Fld) : Nat := rdI s f 0

/-- The value of a signed field. -/
def rdS (s : State) (f : Fld) (i : Nat) : Int := toS f.width (rdI s f i)

/-- A field read as a flag. -/
def rdB (s : State) (f : Fld) : Bool := rd s f != 0

/-- A field of instance `i` written, cut to its width. -/
def wrI (f : Fld) (i v : Nat) (s : State) : State :=
  { s with regs := cPut (fkey f i) (v % 2 ^ f.width) f.reset s.regs }

/-- A field of a page with one instance written. -/
def wr (f : Fld) (v : Nat) (s : State) : State := wrI f 0 v s

/-- A signed field written. -/
def wrS (f : Fld) (v : Int) (s : State) : State := wr f (ofS f.width v) s

/-- A flag written. -/
def wrB (f : Fld) (b : Bool) (s : State) : State := wr f (b2n b) s

/-- A status counter raised; it stops at its maximum (the notes above each page table). -/
def bumpI (f : Fld) (i n : Nat) (s : State) : State := wrI f i (satAdd f.width (rdI s f i) n) s

/-- A status counter of a page with one instance raised by 1. -/
def bump (f : Fld) (s : State) : State := bumpI f 0 1 s

/-- The register list is canonical: keys rise strictly, each names a field, and no value equals the reset value. -/
def regsWf (l : List (Nat × Nat)) : Bool :=
  rising none l && l.all (fun x => match fieldOfKey x.1 with
    | some f => x.2 != f.reset
    | none => false)

/-! Memory bytes (14 Table 14-1); an unlisted byte reads 0 (assumption log 2). -/

/-- One byte of memory. -/
def rdMem (s : State) (a : Nat) : Byte := (cGet a s.mem).getD 0

/-- One byte of memory written. -/
def wrMem (a : Nat) (b : Byte) (s : State) : State := { s with mem := cPut a b 0 s.mem }

/-- Bytes written from an address upward. -/
def wrMems : Nat → List Byte → State → State
  | _, [], s => s
  | a, b :: bs, s => wrMems (a + 1) bs (wrMem a b s)

/-- `n` bytes read from an address upward. -/
def rdMems (s : State) (a : Nat) : Nat → List Byte
  | 0 => []
  | n + 1 => rdMem s a :: rdMems s (a + 1) n

/-- Memory is in its canonical form. -/
def Memory.wf (l : List Host.Cell) : Bool := rising none l && l.all (fun c => c.2 != 0)

/-! What is sent. -/

/-- One more thing sent. -/
def emit (o : Out) (s : State) : State := { s with out := s.out ++ [o] }

/-- A free value drawn: the counter advances (assumption log 4). -/
def drawn (s : State) : State := { s with free := s.free + 1 }

/-! Time (03 R102, R114). -/

/-- Chain time in nanoseconds. -/
def chainNs (s : State) : Int := s.plumb.chain / 65536

/-- Legal time in nanoseconds; until the offsets are set it is the battery counter's (03 R119). -/
def legalNs (s : State) : Int := if s.plumb.est then chainNs s + s.plumb.deltaL else s.batt.legal

/-- Slot time in nanoseconds; until the offsets are set it is the battery counter's (03 R119). -/
def slotNs (s : State) : Int := if s.plumb.est then chainNs s + s.plumb.deltaS else s.batt.slot

/-- Whole seconds of chain time. -/
def chainSec (s : State) : Nat := (chainNs s / 1000000000).toNat

/-- Whole seconds of legal time. -/
def legalSec (s : State) : Nat := (legalNs s / 1000000000).toNat

/-- Legal time less chain time, ns. -/
def legalOff (s : State) : Int := legalNs s - chainNs s

/-- The legal second of an arrival under an offset of legal from chain time (03 R102; 04 R129). -/
def arrAt (off : Int) : Arr → Nat
  | .legal n => n
  | .chain ns => ((ns + off) / 1000000000).toNat % 2 ^ 40

/-- The legal second of an arrival as legal time stands. -/
def arrSec (s : State) (a : Arr) : Nat := arrAt (legalOff s) a

/-- The 14-byte timestamp of a time in 2^-16 ns (03 Table 03-6). -/
def stamp (t : Int) : List Byte :=
  let ns := t / 65536
  leB 8 (ns / 1000000000).toNat ++ leB 4 (ns % 1000000000).toNat ++ leB 2 (t % 65536).toNat

/-- Milliseconds as beats (00: a beat is 125 µs). -/
def msBeats (n : Nat) : Nat := n * 8

/-- Seconds as beats (01 R9). -/
def secBeats (n : Nat) : Nat := n * 8000

/-- At least `n` beats have passed since tick `t`. -/
def passed (s : State) (t n : Nat) : Bool := decide (t + n ≤ s.beat.ticks)

/-! Plumb states (03 Table 03-11) and power states (17 Table 17-2). -/

/-- Plumb is LOCKED. -/
def locked (s : State) : Bool := rd s P03.PLUMB_STATE == 2

/-- Plumb is LOCKED or FREE. -/
def lockedOrFree (s : State) : Bool := rd s P03.PLUMB_STATE == 2 || rd s P03.PLUMB_STATE == 4

/-- The code of a power state (17 Table 17-2); OFF has none and reads 0. -/
def pwrCode : PwrMode → Nat
  | .off => 0
  | .dormant => 1
  | .start => 2
  | .run => 3
  | .trim => 4
  | .holdup => 5

/-- The device is in RUN or TRIM. -/
def running (s : State) : Bool := s.pwr.mode == .run || s.pwr.mode == .trim

/-- Mains loss has been declared or main power is gone: nothing is acknowledged (17 R530). -/
def silent (s : State) : Bool := s.pwr.mode == .holdup || s.pwr.mode == .dormant || s.pwr.mode == .off

/-! Dovetail (15 Table 15-1, R485). -/

/-- PAIR_STATE: 0 UNPAIRED, 1 JOINING, 2 PRIMARY, 3 SHADOW, 4 SOLO, 5 HALTED_DIVERGED, 6 YIELDED, 7 LAPSED. -/
def pairState (s : State) : Nat := rd s P50.PAIR_STATE

/-- The chip is PRIMARY or SHADOW: its outputs are compared. -/
def paired (s : State) : Bool := pairState s == 2 || pairState s == 3

/-- The port that faces the partner. -/
def pairPort (s : State) : Port := if rdB s P50.PAIR_PORT_D then .d else .u

/-- An output record of the running beat: kind 1 a reply, 2 a sealed group, 3 an acceptance, 4 pins, and its values (15
R492). -/
def addRec (r : List Nat) (s : State) : State :=
  if paired s then { s with pair := { s.pair with recs := s.pair.recs ++ [r] } } else s

/-! Subsystem power (00 R3). -/

/-- The device works in hub role. -/
def hubRole (s : State) : Bool := rd s P01.ROLE_ACTIVE == 2

/-- The radio subsystem is powered. -/
def radioOn (s : State) : Bool := !hubRole s || rdB s P01.RADIO_EN

/-- The powerline subsystem is powered. -/
def plcOn (s : State) : Bool := !hubRole s || rdB s P01.PLC_EN

/-- The metrology subsystem is powered. -/
def metroOn (s : State) : Bool := !hubRole s || rdB s P01.METRO_EN

/-- Base loads of powered subsystems in µJ (01 Table 01-4). -/
def baseLoads (s : State) : Nat :=
  40 + 24 * (b2n (rd s P42.CH0_GIB != 0) + b2n (rd s P42.CH1_GIB != 0)) + 8
    + (if radioOn s then 24 else 0) + (if plcOn s then 12 else 0) + (if metroOn s then 8 else 0)

/-- e_min: static at 110 °C, base loads, commit reserve and one grant of class E4 (01 R21). -/
def eMin (s : State) : Nat := 108 + baseLoads s + 24 + 16

/-- The role minimum of the power cap, in 0.1 W: e_min / 125 µs rounded up (01 R21). -/
def roleMinimum (s : State) : Nat := ceilDiv (eMin s * 10) 125

/-- A job posted for the P-256 unit: it takes its steps at level 18 (12 R413, Table 12-3; 01 Table 01-2). -/
def postP256 (steps : Nat) (s : State) : State := { s with keys := { s.keys with p256 := s.keys.p256 ++ [(18, steps)] } }

/-! The Sett's queue (01 R22, R35 to R38). -/

/-- The charge of an energy class in µJ (01 Table 01-5). -/
def classCharge (c : Nat) : Nat := ([0, 4, 8, 12, 16, 24, 32, 48] : List Nat).getD (c % 8) 0

/-- Work queued at a Sett level, behind what waits there (01 R35, R36). -/
def postItem (i : SettItem) (s : State) : State :=
  let q := s.sett.queue
  { s with sett := { s.sett with queue := q.filter (fun x => decide (x.level ≤ i.level)) ++ [i]
                                          ++ q.filter (fun x => decide (i.level < x.level)) } }

/-- Items of a function that a reset takes out of their queues, with the flows they keep in service (01 R41). -/
def dropItems (p : SettItem → Bool) (s : State) : State :=
  let gone := s.sett.running.filter p ++ s.sett.queue.filter (fun i => p i && i.holds)
  { s with sett := { s.sett with queue := s.sett.queue.filter (fun i => !p i),
                                 running := s.sett.running.filter (fun i => !p i),
                                 inService := (gone.filterMap SettItem.flow).foldl List.erase s.sett.inService } }

/-- A firmware thread as a Sett item; its class is fixed in the signed image (01 R22). -/
def threadItem (level : Nat) (flow : Option Nat) (kind : Nat) (w : Work) : SettItem :=
  { level := level, flow := flow, thread := true, charge := classCharge (Config.threadClass kind), work := w }

/-- The thread of a task has been serviced, so that its row may act (01 R36). -/
def granted (s : State) (t : Task) : Bool := s.sett.granted.contains t

/-- A serviced task used up by its row. -/
def spend (t : Task) (s : State) : State :=
  { s with sett := { s.sett with granted := s.sett.granted.filter (fun x => x != t) } }

/-- The number that frames beats: the beat number, or the provisional count before it is loaded (01 R13, R562). -/
def frameCount (s : State) : Nat := if s.beat.loaded then s.beat.number else s.beat.prov

end Sys2Proof.Machine
end

