-- ==== Sys2Proof/Machine/Counters.lean ====
section
/-! DEFINITION. The performance counters (16 R513, R514, R516): configurations, qualifiers and counting. -/
namespace Sys2Proof.Machine

/-! Counters (16 R513, R514). -/

/-- Configuration of counter n (16 R522). -/
def cfgFld : Nat → Fld
  | 0 => P52.CFG_0
  | 1 => P52.CFG_1
  | 2 => P52.CFG_2
  | 3 => P52.CFG_3
  | 4 => P52.CFG_4
  | 5 => P52.CFG_5
  | 6 => P52.CFG_6
  | _ => P52.CFG_7

/-- Counter n (16 R522). -/
def pcFld : Nat → Fld
  | 0 => P52.PC_0
  | 1 => P52.PC_1
  | 2 => P52.PC_2
  | 3 => P52.PC_3
  | 4 => P52.PC_4
  | 5 => P52.PC_5
  | 6 => P52.PC_6
  | _ => P52.PC_7

/-- The qualifiers an event has, as least and greatest; none for an event without one (16 Table 16-3). -/
def qualRange (ev : Nat) : Option (Nat × Nat) :=
  match ev with
  | 0x01 => some (0, 63)
  | 0x03 => some (0, 31)
  | 0x04 => some (0, 31)
  | 0x05 => some (0, 1)
  | 0x07 => some (0, 1)
  | 0x08 => some (0, 7)
  | 0x09 => some (0, 7)
  | 0x0B => some (0, 1)
  | 0x0C => some (0, 1)
  | 0x0D => some (0, 1)
  | 0x0E => some (0, 7)
  | 0x0F => some (0, 15)
  | 0x10 => some (0, 15)
  | 0x11 => some (1, 3)
  | 0x12 => some (1, 3)
  | 0x13 => some (0, 2)
  | 0x14 => some (0, 15)
  | 0x16 => some (0, 3)
  | _ => none

/-- A qualifier may go with an event; 0xFF selects every instance (16 R513). -/
def qualOk (ev q : Nat) : Bool :=
  q == 0xFF || (match qualRange ev with
    | some (lo, hi) => decide (lo ≤ q) && decide (q ≤ hi)
    | none => q == 0)

/-- The place within a configuration of the first value that is reserved or out of range (16 R516). -/
def cfgBad (ev q mode : Nat) : Option Nat :=
  if 0x16 < ev then some 0 else if qualOk ev q = false then some 8 else if mode = 3 then some 16 else none

/-- A configuration counts event `ev` for the qualifiers that meet `ok`: QUAL 0xFF selects every instance (16 R513). -/
def pcMatches (cfg ev : Nat) (ok : Nat → Bool) : Bool :=
  bitsAt cfg 0 8 == ev && ev != 0 && (bitsAt cfg 8 8 == 0xFF || ok (bitsAt cfg 8 8))

/-- Counter `n` advanced by `k`: wrap or saturation in mode 0, the window count in modes 1 and 2 (16 R513, R514). -/
def pcAdd (n k : Nat) (s : State) : State :=
  let cfg := rd s (cfgFld n)
  if bitsAt cfg 16 2 = 0 then
    let v := rd s (pcFld n) + k
    if v < 2 ^ 48 then wr (pcFld n) v s
    else wr P52.WRAP (Nat.lor (rd s P52.WRAP) (2 ^ n))
      (wr (pcFld n) (if bitAt cfg 18 then 2 ^ 48 - 1 else v) s)
  else
    let v := s.ctr.win.getD n 0 + k
    let t := { s with ctr := { s.ctr with win := s.ctr.win.set n (min v (2 ^ 48 - 1)) } }
    if v < 2 ^ 48 then t else wr P52.WRAP (Nat.lor (rd s P52.WRAP) (2 ^ n)) t

/-- An occurrence of a counter event, `k` times, for the qualifiers that meet `ok` (16 Table 16-3). -/
def countIf (ev : Nat) (ok : Nat → Bool) (k : Nat) (s : State) : State :=
  (List.range 8).foldl (fun t n => if pcMatches (rd t (cfgFld n)) ev ok then pcAdd n k t else t) s

/-- An occurrence of a counter event with its qualifier; events without one are counted with qualifier 0. -/
def count (ev q k : Nat) (s : State) : State := countIf ev (fun x => x == q) k s

end Sys2Proof.Machine
end

