-- ==== Sys2Proof/Machine/Joist.lean ====
section
/-! DEFINITION. The chain's link layer as a sender uses it (03 R86 to R94): packets, the two ports, queued data frames. -/
namespace Sys2Proof.Machine

/-- The number of a port in counters and events: 0 U, 1 D (16 Table 16-3). -/
def portNo : Port → Nat
  | .u => 0
  | .d => 1

/-- The state of a port. -/
def portOf (s : State) : Port → PortState
  | .u => s.chain.u
  | .d => s.chain.d

/-- The state of a port replaced. -/
def setPort (p : Port) (x : PortState) (s : State) : State :=
  match p with
  | .u => { s with chain := { s.chain with u := x } }
  | .d => { s with chain := { s.chain with d := x } }

/-- The other port. -/
def otherPort : Port → Port
  | .u => .d
  | .d => .u

/-- The 16 bytes of a header (02 Table 02-1). -/
def hdrBytes (h : Hdr) : List Byte :=
  leB 1 h.verFlags ++ leB 1 h.opcode ++ leB 2 h.len ++ leB 2 h.tag ++ leB 1 h.dest ++ leB 1 h.src ++ leB 4 h.flowFn
    ++ leB 4 h.seq

/-- The header in the first 16 bytes of a packet (02 Table 02-1). -/
def parseHdr (p : List Byte) : Hdr :=
  { verFlags := leAt p 0 1, opcode := leAt p 1 1, len := leAt p 2 2, tag := leAt p 4 2, dest := leAt p 6 1,
    src := leAt p 7 1, flowFn := leAt p 8 4, seq := leAt p 12 4 }

/-- A whole packet: header, payload and CRC-32C trailer (02 R45, R46). -/
def packet (h : Hdr) (p : List Byte) : List Byte := hdrBytes h ++ p ++ leB 4 (crc32c (hdrBytes h ++ p))

/-- The bytes of a link frame that carries a packet (03 Table 03-1). -/
def frameBytes (pkt : List Byte) : Nat := pkt.length + 26

/-- The use of a port's 1 MiB buffer: the frames of forwarded packets that are queued, outstanding or held (03 R94). -/
def bufUsed (x : PortState) : Nat :=
  ((x.queue ++ x.outst.map Prod.snd ++ x.heldFrames).map (fun f => if f.fwd then frameBytes f.pkt else 0)).sum

/-- The CREDIT the device advertises on a port: 0 while the buffer toward the other port cannot hold a further frame of
8,238 bytes, else 64 (03 R94, Table 03-2). -/
def ownCredit (s : State) (p : Port) : Nat :=
  if bufUsed (portOf s (otherPort p)) + 8238 > 1048576 then 0 else 64

/-- The bytes of a link frame that carries no packet, from destination MAC to FCS; no padding is counted (03 Table 03-1). -/
def ctlBytes : Nat := 26

/-- The bytes of a beat frame: a link frame with the body of Table 15-2 (15 R489). -/
def beatFrameBytes : Nat := ctlBytes + 48

/-- The bytes of a plain Ethernet frame that carries a message of `n` bytes: 44 for a Sync, 54 for the messages of peer delay, as
IEEE 1588 lays them out (03 R106, R108; PRESUMED, log 109). -/
def ptpBytes (n : Nat) : Nat := 18 + n

/-- A port sends a frame of any kind, of `n` bytes (03 R92; 16 Table 16-3). -/
def sentOn (p : Port) (n : Nat) (s : State) : State :=
  count 0x0C (portNo p) n (setPort p { portOf s p with lastTx := s.beat.ticks } s)

/-- A port receives a frame of any kind, of `n` bytes (03 R85; 16 Table 16-3). -/
def heardOn (p : Port) (n : Nat) (s : State) : State :=
  count 0x0B (portNo p) n (setPort p { portOf s p with lastRx := s.beat.ticks } s)

/-- One data frame sent: it takes the next LSEQ and is kept until acknowledged; progress is counted from the first that is
outstanding (03 R88 to R90). -/
def sendFrame (p : Port) (f : LinkPkt) (s : State) : State :=
  let x := portOf s p
  let s1 := setPort p { x with txNext := (x.txNext + 1) % 65536, outst := x.outst ++ [(x.txNext, f)], sent := x.sent + 1,
                               lastProgress := if x.outst.isEmpty then s.beat.ticks else x.lastProgress } s
  emit (.linkData p x.txNext x.rxNext (ownCredit s p) f.pkt) (sentOn p (frameBytes f.pkt) s1)

/-- How many queued frames may go now: the last CREDIT received and 64 bound what is outstanding (03 R89). -/
def mayGo (x : PortState) : Nat :=
  if x.st = .up then min x.queue.length (min x.credit 64 - x.outst.length) else 0

/-- Queued data frames sent in order while credit lasts (03 R89, R94). -/
def pump (p : Port) (s : State) : State :=
  let x := portOf s p
  let n := mayGo x
  (x.queue.take n).foldl (fun t f => sendFrame p f t) (setPort p { x with queue := x.queue.drop n } s)

/-- A packet put on a port's data queue (03 R94). -/
def queuePkt (p : Port) (f : LinkPkt) (s : State) : State :=
  let x := portOf s p
  pump p (setPort p { x with queue := x.queue ++ [f] } s)

/-- A packet of the chip's own put on a port's data queue. -/
def linkSend (p : Port) (pkt : List Byte) (s : State) : State := queuePkt p ⟨false, pkt⟩ s

/-- A forwarded packet put on a port's data queue (03 R94). -/
def linkForward (p : Port) (pkt : List Byte) (s : State) : State := queuePkt p ⟨true, pkt⟩ s

/-- A link frame of KIND 0x02 to 0x05 sent (03 Table 03-2, R94). -/
def sendCtl (p : Port) (kind : Nat) (s : State) : State :=
  emit (.linkCtl p kind 0 (portOf s p).rxNext (ownCredit s p)) (sentOn p ctlBytes s)

end Sys2Proof.Machine
end

