-- ==== Sys2Proof/Machine/Events.lean ====
section
/-! DEFINITION. The event recorder and the performance counters (16): codes, severities, logging, notices, counting. -/
namespace Sys2Proof.Machine

/-! Event codes of Table 16-2 (16 R507): within each function, from 0x01 in the order listed. -/
def evResetDone : Nat := 0x0101
def evDramShort : Nat := 0x0102
def evVbatLost : Nat := 0x0103
def evMainsLost : Nat := 0x0104
def evPwrReq : Nat := 0x0105
def evThreadOverrun : Nat := 0x0106
def evLinkUp : Nat := 0x0201
def evLinkDown : Nat := 0x0202
def evAddrReleased : Nat := 0x0203
def evChainOffsetLarge : Nat := 0x0301
def evBeatDetached : Nat := 0x0302
def evLegalDiverged : Nat := 0x0303
def evLegalTimeLost : Nat := 0x0304
def evLegalTimeStepped : Nat := 0x0305
def evSlotDiverged : Nat := 0x0306
def evDenCapRaised : Nat := 0x0401
def evDenSensorExcluded : Nat := 0x0402
def evDenSensorsLost : Nat := 0x0403
def evHoldupLow : Nat := 0x0404
def evHoldupDerated : Nat := 0x0405
def evDenThermalTrip : Nat := 0x0406
def evNewTitleSeen : Nat := 0x1001
def evMeterAuthFail : Nat := 0x1002
def evIcExhausting : Nat := 0x1003
def evDupConflict : Nat := 0x1004
def evBatchExpired : Nat := 0x1005
def evMeterTamper : Nat := 0x1101
def evMeterRebased : Nat := 0x1102
def evLedgerReadonly : Nat := 0x1201
def evLedgerWritable : Nat := 0x1202
def evLedgerDieLost : Nat := 0x1203
def evDlStrayResponse : Nat := 0x1204
def evGroupReset : Nat := 0x1301
def evGroupLossOn : Nat := 0x1302
def evGroupLossOff : Nat := 0x1303
def evGroupNegativeOn : Nat := 0x1304
def evGroupNegativeOff : Nat := 0x1305
def evMeterAnomaly : Nat := 0x1306
def evTheftSuspect : Nat := 0x1307
def evScribeMismatch : Nat := 0x1308
def evScribeDone : Nat := 0x1309
def evCampaignStopped : Nat := 0x130A
def evScribeRestarted : Nat := 0x130B
def evRadioParentLost : Nat := 0x2001
def evRadioOrphanScan : Nat := 0x2002
def evRadioParentFound : Nat := 0x2003
def evMacFcExhausted : Nat := 0x2004
def evMeterAdrift : Nat := 0x2005
def evWakeSlotFreed : Nat := 0x2006
def evShortAddrReleased : Nat := 0x2007
def evPlcZcLost : Nat := 0x2101
def evPlcZcFound : Nat := 0x2102
def evPlcFcExhausted : Nat := 0x2103
def evPlcSegmentBlanked : Nat := 0x2104
def evPlcRouteBroken : Nat := 0x2105
def evPlcInjCeiling : Nat := 0x2106
def evPlcLowImpedance : Nat := 0x2107
def evSealAsserted : Nat := 0x3001
def evSealReleased : Nat := 0x3002
def evRegistersOlder : Nat := 0x3003
def evLegalQueueFull : Nat := 0x3004
def evLegalLockstep : Nat := 0x3005
def evLegalFrozen : Nat := 0x3006
def evEntropyFail : Nat := 0x4001
def evKeyRecordBad : Nat := 0x4002
def evZeroisedTamper : Nat := 0x4003
def evDebugEnabled : Nat := 0x4004
def evFlashGeometry : Nat := 0x4101
def evFlashFormatted : Nat := 0x4102
def evStoreUnreadable : Nat := 0x4103
def evFlashDieLost : Nat := 0x4104
def evFlashCapacityShrink : Nat := 0x4105
def evFlashCopyRestored : Nat := 0x4106
def evDramWidth : Nat := 0x4201
def evMemCorrected : Nat := 0x4202
def evMemUncorrectable : Nat := 0x4203
def evMemReset : Nat := 0x4204
def evStreamDrop : Nat := 0x4401
def evStreamProgress : Nat := 0x4402
def evDovetailInputLate : Nat := 0x5001
def evDovetailDiverged : Nat := 0x5002
def evDovetailPromoted : Nat := 0x5003
def evDovetailPartnerLost : Nat := 0x5004
def evDovetailThreadLate : Nat := 0x5005
def evEventsDropped : Nat := 0x5101
def evSelfTestFailed : Nat := 0x5102
def evUpdateAbandoned : Nat := 0x6001
def evUpdateConfirmed : Nat := 0x6002
def evUpdateRollback : Nat := 0x6003
def evCampaignEnded : Nat := 0x6004

/-- The severity of a code, 0 INFO, 1 WARN, 2 FAULT, 3 FATAL (16 Table 16-2). -/
def severity (code : Nat) : Nat :=
  if [0x0102, 0x0406, 0x4101, 0x4103, 0x4201, 0x4204].contains code then 3
  else if [0x0106, 0x1203, 0x3003, 0x3005, 0x3006, 0x4001, 0x4002, 0x4003, 0x4004, 0x4104, 0x4203, 0x5001, 0x5002, 0x5005].contains code then 2
  else if [0x0101, 0x0201, 0x0305, 0x0401, 0x1001, 0x1202, 0x1204, 0x1301, 0x1303, 0x1305, 0x1308, 0x1309, 0x130A, 0x130B, 0x2003, 0x2005, 0x2007, 0x2102, 0x2104, 0x3001, 0x3002, 0x4102, 0x4202, 0x4402, 0x6001, 0x6002, 0x6004].contains code then 0
  else 1

/-! Logging (16 R504 to R508). -/

/-- The reserve places in use: pending records beyond 256 (16 R508). -/
def reserveUsed (s : State) : Nat := s.ev.pend.length - 256

/-- An event may be recorded: a free place, or a reserve place for fault severity, MAINS_LOST and EVENTS_DROPPED
(16 R508). -/
def canRecord (code : Nat) (s : State) : Bool :=
  decide (s.ev.pend.length < 256) ||
    (decide (reserveUsed s < 16) && (decide (2 ≤ severity code) || code == evMainsLost || code == evEventsDropped))

/-- An event is sent as a notice: by severity, by code, or because it always is; never by a chip with address 0x00
(16 R511). -/
def notifies (code : Nat) (s : State) : Bool :=
  let listed := (List.range 8).any (fun k => bitsAt (rd s P51.NOTICE_CODES) (16 * k) 16 == code)
  rd s P02.CHAIN_ADDR != 0 &&
    (listed || (code != evStreamProgress &&
      (decide (rd s P51.NOTICE_SEV_MIN ≤ severity code) ||
        [evLinkUp, evLinkDown, evMainsLost, evDenThermalTrip, evPwrReq, evDovetailPromoted].contains code)))

/-- The record of an event logged now (16 Table 16-1). -/
def mkEvent (code : Nat) (detail : List Byte) (s : State) : EvRec :=
  { seq := rd s P51.NEXT_SEQ
    timeS := chainSec s % 2 ^ 40
    timeUs := (chainNs s % 1000000000 / 1000).toNat
    code := code
    flags := severity code + (if notifies code s then 4 else 0) + (if lockedOrFree s then 0 else 8)
    opHours := rd s P51.OP_HOURS
    cycles := rd s P51.POWER_CYCLES
    detail := padTo 10 detail }

/-- The 32 bytes of an event record (16 Table 16-1). -/
def evBytes (e : EvRec) : List Byte :=
  leB 4 e.seq ++ leB 5 e.timeS ++ leB 3 e.timeUs ++ leB 2 e.code ++ leB 2 e.flags ++ leB 4 e.opHours ++ leB 2 e.cycles
    ++ e.detail

/-- The header of a notice: NOTICE set, REPLY clear, DEST 0x3E, OPCODE 0x0E, the originating function, flow identifier and TAG
0, the counter in SEQ (02 R67). -/
def noticeHdr (s : State) (n : Nat) (e : EvRec) : Hdr :=
  { verFlags := 0x12, opcode := 0x0E, len := 32, tag := 0, dest := 0x3E, src := rd s P02.CHAIN_ADDR,
    flowFn := e.code / 256 % 256 * 2 ^ 24, seq := n }

/-- One notice sent on port U: the counter rises first, and the notice carries the raised value (02 R67). -/
def sendNotice (e : EvRec) (s : State) : State :=
  let n := (s.cmd.noticeCounter + 1) % 2 ^ 32
  linkSend .u (packet (noticeHdr s n e) (evBytes e)) (emit (.notice n e)
    { s with cmd := { s.cmd with noticeCounter := n }, ev := { s.ev with sentBeat := s.ev.sentBeat + 1 } })

/-- The notice of a record: at once while fewer than 64 went out in this beat and none waits, else queued (16 R511). -/
def postNotice (e : EvRec) (s : State) : State :=
  if s.ev.noticeQ.isEmpty && decide (s.ev.sentBeat < 64) then sendNotice e s
  else { s with ev := { s.ev with noticeQ := s.ev.noticeQ ++ [e] } }

/-- The status fields of page 0x51 brought up to date (16 R509, R521). -/
def evFields (s : State) : State :=
  wr P51.CACHE_PENDING s.ev.pend.length
    (wr P51.OLDEST_SEQ (((s.ev.ring ++ s.ev.pend).head?.map EvRec.seq).getD (rd s P51.NEXT_SEQ)) s)

/-- A record taken into the cache: it takes the next sequence, becomes pending, and is sent as a notice (16 R508). -/
def record (code : Nat) (detail : List Byte) (s : State) : State :=
  let e := mkEvent code detail s
  let s1 := { s with ev := { s.ev with pend := s.ev.pend ++ [e],
                                       pendAt := if s.ev.pend.isEmpty then s.beat.ticks else s.ev.pendAt } }
  let s2 := evFields (wr P51.NEXT_SEQ (e.seq + 1) s1)
  let s3 := countIf 0x16 (fun q => decide (q ≤ severity code)) 1 s2
  if notifies code s then postNotice e s3 else s3

/-- EVENTS_DROPPED, at most once per minute while EVENTS_LOST rises, as soon as a place is free (16 R508). -/
def logDropped (s : State) : State :=
  let due := s.ev.dropOwed && (match s.ev.dropAt with
    | none => true
    | some t => passed s t (secBeats 60))
  if due && canRecord evEventsDropped s then
    record evEventsDropped (leB 4 (rd s P51.EVENTS_LOST))
      { s with ev := { s.ev with dropOwed := false, dropAt := some s.beat.ticks } }
  else s

/-- An event logged: recorded, or counted in EVENTS_LOST when no place is free (16 R508). One of fault severity marks the
chip's beat frames with FAULT (15 R489). -/
def logEv (code : Nat) (detail : List Byte) (s0 : State) : State :=
  let s := if 2 ≤ severity code then { s0 with pair := { s0.pair with faultAt := some s0.beat.ticks } } else s0
  if canRecord code s then record code detail s
  else logDropped { bump P51.EVENTS_LOST s with ev := { s.ev with dropOwed := true } }

/-- Every pending record written to the flash ring of 65,536 (16 R508, R509). -/
def flushEvents (s : State) : State :=
  let l := s.ev.ring ++ s.ev.pend
  logDropped (evFields { s with ev := { s.ev with ring := l.drop (l.length - 65536), pend := [], flushPosted := false } })

/-- MIX operand of an event (16 R506). -/
def dMix (mix : Nat) : List Byte := leB 3 (mix % 2 ^ 20)

end Sys2Proof.Machine
end

