-- ==== Sys2Proof/Machine/Ledger.lean ====
section
/-! DEFINITION. Ledger entries and the open group (06 R192 to R196, R211, R214; 01 R28, R30). -/
namespace Sys2Proof.Machine

/-- The slots an entry takes: a reading record one, a control entry its head and body slots, the body with its 4-byte
CRC (06 R194). -/
def entrySlots (e : Entry) : Nat :=
  if e.kind = 0 then 1 else 1 + (if e.body.isEmpty then 0 else ceilDiv (e.body.length + 4) 32)

/-- Slots of one page: 32 bytes each (06 R194). -/
def pageSlots (s : State) : Nat := s.ftl.pageSize / 32

/-- The slots used of each page when entries of these sizes are laid out: an entry that does not fit in what remains
starts on the next page, and one longer than a page runs over the following pages (06 R194). -/
def layPages (per : Nat) : Nat → List Nat → List Nat
  | used, [] => if used = 0 then [] else [used]
  | used, n :: l =>
    if used + n ≤ per then layPages per (used + n) l
    else
      (if used = 0 then [] else [used]) ++ List.replicate ((n - 1) / per) per ++ layPages per ((n - 1) % per + 1) l

/-- The pages a list of entries fills. -/
def pagesOf (s : State) (l : List Entry) : List Nat := layPages (pageSlots s) 0 (l.map entrySlots)

/-- The pages of a sealed group that are not verified on both channels. -/
def unverified (g : Group) : Nat := (g.pages.filter (fun p => !(p.st0 == .verified && p.st1 == .verified))).length

/-- Ledger in-flight data in page pairs: open, closed and sealed groups whose copies are not verified (01 R30). -/
def inFlight (s : State) : Nat :=
  (pagesOf s s.ledger.openE).length + (s.ledger.toSeal.map (fun l => (pagesOf s l).length)).sum
    + (s.ledger.groups.map unverified).sum

/-- The slot after an entry of `n` slots put at slot `pos` of a group, with what it leaves unused at the end of a page of
`per` slots (06 R194, R195). -/
def placeSlots (per pos n : Nat) : Nat :=
  if pos % per = 0 ∨ pos % per + n ≤ per then pos + n else (pos / per + 1) * per + n

/-- The slots of entries laid out from the start of a group, unused ones at page ends included (06 R195). -/
def slotsOf (s : State) (l : List Entry) : Nat := (l.map entrySlots).foldl (placeSlots (pageSlots s)) 0

/-- The chip's own hold-up state closes acceptance: under R28, or while the node is not configured (01 R28, R32). -/
def ownClosed (s : State) : Bool := rdB s P04.ACCEPT_STOPPED || rd s P04.HOLD_C == 0 || rd s P04.HOLD_DIV == 0

/-- Acceptance is closed: by the own hold-up state, in a pair by that of either chip, or while a pair is joining (01 R28,
R32; 15 Table 15-1, R491). -/
def acceptClosed (s : State) : Bool :=
  pairState s == 1 || (match s.pair.used with
    | some u => u.stopped
    | none => ownClosed s)

/-- The chip's own ledger is read-only (06 R214 to R216). -/
def ownFull (s : State) : Bool := rdB s P12.READONLY || rdB s P12.WORN || rdB s P12.NO_DIE_PAIR

/-- The ledger is read-only; in a pair, when either chip's is (06 R214 to R216; 15 R491). -/
def storeFull (s : State) : Bool :=
  match s.pair.used with
  | some u => u.readonly
  | none => ownFull s

/-- Entries of these sizes find room in the open group, and the limit l admits them (06 R195; 01 R30). -/
def fitsRoom (s : State) (sizes : List Nat) : Bool :=
  let e := sizes.foldl (placeSlots (pageSlots s)) s.ledger.openSlots
  decide (e ≤ 1536) &&
    decide (inFlight s - (pagesOf s s.ledger.openE).length + ceilDiv e (pageSlots s) ≤ rd s P04.LIMIT_L)

/-- Ledger takes ordinary entries: it opens a group only while the store is not full, and what was opened on the reserve
segments holds nothing else (06 R214). -/
def spaceOk (s : State) : Bool := if s.ledger.openE.isEmpty then !storeFull s else !s.ledger.resGroup

/-- Entries of these sizes may join the open group (06 R195, R214; 01 R30). -/
def fits (s : State) (sizes : List Nat) : Bool := spaceOk s && fitsRoom s sizes

/-- An entry that draws on the reserve segments: those of EXPORT_ACK and EXPORT_CLOSE, PRESENCE, and REPLAY, which waits
for the limit l alone (06 R202, R214). -/
def onReserve (e : Entry) : Bool :=
  e.kind == 8 || e.kind == 9 || (match e.act with
    | .command h _ _ _ _ _ => h.opcode == 0x42 || h.opcode == 0x43
    | _ => false)

/-- An entry put at the end of the open group, which it may open. -/
def appendEntry (e : Entry) (s : State) : State :=
  { s with ledger := { s.ledger with openE := s.ledger.openE ++ [e],
                                     openSlots := placeSlots (pageSlots s) s.ledger.openSlots (entrySlots e),
                                     resGroup := if s.ledger.openE.isEmpty then storeFull s else s.ledger.resGroup,
                                     beatCtl := s.ledger.beatCtl + (if e.kind = 0 then 0 else entrySlots e) } }

/-- An entry of the reserve that may pass what waits for space. -/
def passes (s : State) (e : Entry) : Bool := !spaceOk s && onReserve e && fitsRoom s [entrySlots e]

/-- A control entry posted: appended, or kept for the next group ahead of newer control entries (06 R195); while the store is
full an entry of the reserve passes those (06 R214). -/
def postEntry (e : Entry) (s : State) : State :=
  if passes s e || (s.ledger.waiting.isEmpty && fits s [entrySlots e]) then appendEntry e s
  else { s with ledger := { s.ledger with waiting := s.ledger.waiting ++ [e] } }

/-- The sizes an entry needs in its group: its own and that of the entries that must follow it there (06 after Table
06-2). -/
def needSlots (e : Entry) : List Nat := [entrySlots e, e.more]

/-- Entries that must share a group, in order: appended, or kept together for the next group (06 R195, after Table
06-2). -/
def postGroup : List Entry → State → State
  | [], s => s
  | e :: l, s =>
    let e1 := { e with more := (l.map entrySlots).sum }
    if s.ledger.waiting.isEmpty && fits s (needSlots e1) then l.foldl (fun t x => appendEntry x t) (appendEntry e1 s)
    else { s with ledger := { s.ledger with waiting := s.ledger.waiting ++ e1 :: l } }

/-- The waiting entries of the reserve, taken while the store is full (06 R214). -/
def takeReserve : List Entry → State → State
  | [], s => s
  | e :: l, s =>
    if passes s e then takeReserve l (appendEntry e { s with ledger := { s.ledger with waiting := s.ledger.waiting.erase e } })
    else takeReserve l s

/-- The waiting control entries, taken in order while they fit (06 R195). -/
def takeWaiting : List Entry → State → State
  | [], s => s
  | e :: l, s =>
    if fits s (needSlots e) then takeWaiting l (appendEntry e { s with ledger := { s.ledger with waiting := l } })
    else takeReserve (e :: l) s

/-- A control entry of a kind with its head bytes 2 to 23 (06 Table 06-2). -/
def ctlEntry (kind : Nat) (head body : List Byte) (act : Act) (fn : Nat) : Entry :=
  { kind := kind, head := padTo 22 head, body := body, act := act, fn := fn }

/-- The entries that are not accepted yet, oldest first. -/
def unreleased (s : State) : List Entry :=
  ((s.ledger.groups.filter (fun g => !g.released)).map Group.entries).flatten ++ s.ledger.toSeal.flatten
    ++ s.ledger.openE ++ s.ledger.waiting

/-- Every entry of every accepted and released group, in ledger order. -/
def acceptedEntries (s : State) : List Entry :=
  ((s.ledger.groups.filter Group.released).map Group.entries).flatten

/-- A provisional entry whose batch is not accepted does not count (06 R201). -/
def entryLive (s : State) (e : Entry) : Bool := !e.prov || s.ledger.closedBatches.contains e.batch

/-- MIX and channel of a reading record's KEY (06 Table 06-1). -/
def recMix (e : Entry) : Nat := leAt e.head 5 3 % 2 ^ 20

/-- The channel of a reading record. -/
def recCh (e : Entry) : Nat := leAt e.head 5 3 / 2 ^ 20

/-- The interval end of a reading record. -/
def recEnd (e : Entry) : Nat := leAt e.head 0 5

/-- The value of a reading record. -/
def recVal (e : Entry) : Int := toS 64 (leAt e.head 8 8)

/-- The quality code of a reading record. -/
def recQ (e : Entry) : Nat := leAt e.head 16 2

/-- The accepted reading records of a key, in ledger order. -/
def accRecords (s : State) (mix ch : Nat) : List Entry :=
  (acceptedEntries s).filter (fun e => e.kind == 0 && recMix e == mix && recCh e == ch && entryLive s e)

/-- The newest accepted record of a key and interval end (06 R210). -/
def newestRec (s : State) (mix ch tend : Nat) : Option Entry :=
  ((accRecords s mix ch).filter (fun e => recEnd e == tend)).getLast?

end Sys2Proof.Machine
end

