-- ==== Sys2Proof/Machine/Flash.lean ====
section
/-! DEFINITION. The flash store's tables (13 R432 to R456): dies and pairs, journal records and commits, block
allocation, mapped writes and moves, retirement and capacity, ledger segments. -/
namespace Sys2Proof.Machine

/-- The number of a flash channel. -/
def chNo : Chan → Nat
  | .c0 => 0
  | .c1 => 1

/-- The other channel. -/
def otherChan : Chan → Chan
  | .c0 => .c1
  | .c1 => .c0

/-- Partition codes (13 Table 13-3). -/
def ptSystem : Nat := 1
def ptKeys : Nat := 2
def ptLegal : Nat := 3
def ptSettings : Nat := 4
def ptEvents : Nat := 5
def ptImages : Nat := 6
def ptLedger : Nat := 7

/-- The logical size of a partition in bytes; the ledger takes what remains (13 Table 13-3). -/
def partBytes : Nat → Nat
  | 1 => 256 * 1048576
  | 2 => 4 * 1048576
  | 3 => 32 * 1048576
  | 4 => 1536 * 1048576
  | 5 => 8 * 1048576
  | 6 => 192 * 1048576
  | _ => 0

/-- Bytes of an erase block. -/
def blockBytes (s : State) : Nat := s.ftl.pageSize * s.ftl.pagesPerBlock

/-- The blocks a mapped partition receives on each channel: 1.25 times its size (13 R435). -/
def partBlocks (s : State) (part : Nat) : Nat := ceilDiv (partBytes part * 5 / 4) (blockBytes s)

/-- The usable dies of a channel in ascending order (13 R432). -/
def usableDies (s : State) (c : Chan) : List Nat :=
  (List.range (s.ftl.dies.getD (chNo c) 0)).filter (fun d => !s.ftl.dieLost.contains (c, d))

/-- The usable die pairs (13 R432). -/
def diePairs (s : State) : List (Nat × Nat) := (usableDies s .c0).zip (usableDies s .c1)

/-! Blocks (13 R437, R446, R449). -/

/-- A block of the table. -/
def isBlk (c : Chan) (die blk : Nat) (b : Blk) : Bool := b.chan == c && b.die == die && b.blk == blk

/-- The operand 'die and block' of a journal record: the die above the block (13 Table 13-4). -/
def dieBlk (die blk : Nat) : Nat := die * 2 ^ 27 + blk

/-- The first block of a die that the anchor does not hold (13 R436). -/
def firstBlk (die : Nat) : Nat := if die = 0 then 2 else 0

/-- A block of a die that no work has touched yet: never erased, so it comes before every other free block. -/
def freshBlk (s : State) (c : Chan) (die : Nat) : Option Nat :=
  let used := (s.ftl.blks.filter (fun b => b.chan == c && b.die == die)).map Blk.blk
  ((List.range (used.length + 1)).map (fun i => firstBlk die + i)).find?
    (fun b => !used.contains b && decide (b < s.ftl.blocksPerDie))

/-- The fresh block of the lowest die that has one. -/
def freshOn (s : State) (c : Chan) : List Nat → Option (Nat × Nat)
  | [] => none
  | d :: l => match freshBlk s c d with
    | some b => some (d, b)
    | none => freshOn s c l

/-- Of free blocks, the one with the lowest erase count; ties go to the lowest die and block (13 R449; assumption log
11). -/
def lowestErased : List Blk → Option Blk
  | [] => none
  | b :: l => match lowestErased l with
    | none => some b
    | some x => if x.erases < b.erases then some x else some b

/-- The free blocks of a channel that were erased before. -/
def erasedFree (s : State) (c : Chan) : List Blk :=
  s.ftl.blks.filter (fun b => b.chan == c && b.st == .free && (usableDies s c).contains b.die)

/-- A block that no work has touched opened for a partition. -/
def openFresh (c : Chan) (part die blk : Nat) (s : State) : State :=
  { s with ftl := { s.ftl with blks := s.ftl.blks ++ [{ chan := c, die := die, blk := blk, part := part, erases := 0,
                                                        st := .opened, valid := 0 }] } }

/-- A free block opened again for a partition. -/
def openAgain (c : Chan) (part : Nat) (x : Blk) (s : State) : State :=
  let again := fun (b : Blk) => { b with part := part, st := .opened, valid := 0, next := 0 }
  let l := mapIf (isBlk c x.die x.blk) again s.ftl.blks
  { s with ftl := { s.ftl with blks := l } }

/-- A block opened for a partition on a channel (13 R449). -/
def openBlk (c : Chan) (part : Nat) (s : State) : State :=
  match freshOn s c (usableDies s c) with
  | some (d, b) => openFresh c part d b s
  | none => match lowestErased (erasedFree s c) with
    | some x => openAgain c part x s
    | none => s

/-- A partition's open block on a channel, on a usable die. -/
def openOf (s : State) (c : Chan) (part : Nat) : Option Blk :=
  s.ftl.blks.find? (fun b => b.chan == c && b.part == part && b.st == .opened && (usableDies s c).contains b.die)

/-- The address of a page (13 R437). -/
def pageAddr (s : State) (b : Blk) : Nat := 2 ^ 31 + b.die * 2 ^ 27 + b.blk * s.ftl.pagesPerBlock + b.next

/-- The die of an address. -/
def addrDie (a : Nat) : Nat := bitsAt a 27 4

/-- The block of an address within its die. -/
def addrBlk (s : State) (a : Nat) : Nat := bitsAt a 0 27 / s.ftl.pagesPerBlock

/-- The next page of an open block taken, with its address; a full block closes (13 R437). -/
def takeFrom (c : Chan) (b : Blk) (s : State) : State × Option Nat :=
  let b2 := { b with next := b.next + 1, valid := b.valid + 1,
                     st := if b.next + 1 ≥ s.ftl.pagesPerBlock then .closed else .opened }
  ({ s with ftl := { s.ftl with blks := mapIf (isBlk c b.die b.blk) (fun _ => b2) s.ftl.blks } }, some (pageAddr s b))

/-- The next page of a partition's open block taken (13 R437). -/
def takePage (c : Chan) (part : Nat) (s : State) : State × Option Nat :=
  let t := if (openOf s c part).isSome then s else openBlk c part s
  match openOf t c part with
  | none => (t, none)
  | some b => takeFrom c b t

/-! The journal (13 R438 to R441). -/

/-- Journal records of one record page (13 R439). -/
def recsPerPage (s : State) : Nat := s.ftl.pageSize / 16

/-- Map state in page pairs: the record pages of the pending records and the commit page (13 R440). -/
def mapState (s : State) : Nat := ceilDiv s.ftl.pendRecs.length (recsPerPage s) + 1

/-- A move's MAP record is dropped at its commit when the live mapping is no longer the move's own (13 R448). -/
def recStale (s : State) (r : JRec) : Bool :=
  r.op == 1 && (match assocGet (r.part, r.a) s.ftl.map with
    | some m => (if r.chan == .c0 then m.1 else m.2) != r.b
    | none => true)

/-- What a done commit changes: an ERASED block becomes free (13 R447). -/
def applyRec (r : JRec) (s : State) : State :=
  if r.op = 4 then
    let free := fun (b : Blk) => { b with st := .free, valid := 0, next := 0 }
    let l := mapIf (fun b => dieBlk b.die b.blk == r.a && b.chan == r.chan) free s.ftl.blks
    { s with ftl := { s.ftl with blks := l } }
  else s

/-- The page fields that report the tables (13 Table 13-6). -/
def ftlFields (s : State) : State :=
  let l := s.ftl.blks.map Blk.erases
  wr P41.ERASE_MAX (l.foldl max 0) (wr P41.ERASE_MIN (l.min?.getD 0)
    (wr P41.MAP_PENDING (min s.ftl.pendRecs.length 65535) s))

/-- The 16 bytes of a journal record (13 Table 13-4). -/
def jrecBytes (r : JRec) : List Byte := leB 1 r.op ++ leB 1 r.part ++ leB 1 (chNo r.chan) ++ zeros 1 ++ leB 4 r.a ++ leB 4 r.b ++ leB 4 r.c

/-- The FTL tag (13 Table 13-2). -/
def ftlTag (part pkind lpn wseq erases : Nat) : List Byte :=
  let b := leB 1 part ++ leB 1 pkind ++ zeros 2 ++ leB 4 lpn ++ leB 8 wseq ++ leB 4 erases ++ zeros 8
  b ++ leB 4 (crc32c b)

/-- A codeword: content and 188 bytes of parity (13 R433). -/
def codeword (d : List Byte) : List Byte := d ++ (List.range 188).map (Config.bchParity d)

/-- Bytes filled with 0xFF up to a length. -/
def padFF (n : Nat) (l : List Byte) : List Byte := l ++ List.replicate (n - l.length) 0xFF

/-- A physical page: a codeword for each 2,048 bytes of data, then the tag codeword with the owner area; the bytes after it are
0xFF (13 R433, Table 13-1). -/
def rawPage (size : Nat) (tag owner data : List Byte) : List Byte :=
  let d := padFF size data
  ((List.range (size / 2048)).map (fun i => codeword ((d.drop (2048 * i)).take 2048))).flatten
    ++ codeword (tag ++ padFF 256 owner)

/-- The erase count of a block. -/
def erasesOf (s : State) (c : Chan) (die blk : Nat) : Nat := ((s.ftl.blks.find? (isBlk c die blk)).map Blk.erases).getD 0

/-- A page programmed on a channel under a tag (13 R433, R434). -/
def program (c : Chan) (part pkind lpn wseq addr : Nat) (owner data : List Byte) (s : State) : State :=
  emit (.program c addr (rawPage s.ftl.pageSize (ftlTag part pkind lpn wseq (erasesOf s c (addrDie addr) (addrBlk s addr)))
    owner data)) s

/-- Page pairs of SYSTEM taken, one page on each channel (13 R435). -/
def takeSystem (n : Nat) (s : State) : State :=
  (List.range n).foldl (fun t _ => (takePage .c1 ptSystem (takePage .c0 ptSystem t).1).1) s

/-- A journal page written on one channel; its LPN is its write sequence (13 R434, R439; assumption log 121). -/
def journalCopy (c : Chan) (pkind wseq : Nat) (owner data : List Byte) (s : State) : State :=
  match takePage c ptSystem s with
  | (t, some a) => program c ptSystem pkind (wseq % 2 ^ 32) wseq a owner data t
  | (t, none) => t

/-- The pages of a commit: the record pages, then the commit page, whose owner area holds the commit number, the record page
count and the CRC-32C of each record page (13 R439; assumption log 121). -/
def commitPages (s : State) (n : Nat) (rs : List JRec) : List (Nat × (List Byte × List Byte)) :=
  let per := recsPerPage s
  let recs := (List.range (ceilDiv rs.length per)).map (fun i =>
    padFF s.ftl.pageSize (((rs.drop (per * i)).take per).map jrecBytes).flatten)
  recs.map (fun d => (2, ([], d))) ++
    [(3, (leB 8 n ++ leB 4 recs.length ++ (recs.map (fun d => leB 4 (crc32c d))).flatten, []))]

/-- The pages of a commit written as page pairs (13 R439). -/
def writeCommit (l : List (Nat × (Nat × (List Byte × List Byte)))) (s : State) : State :=
  l.foldl (fun t x => journalCopy .c1 x.2.1 x.1 x.2.2.1 x.2.2.2 (journalCopy .c0 x.2.1 x.1 x.2.2.1 x.2.2.2 t)) s

/-- Every pending record written as one commit that is done (13 R439). -/
def commitPending (s : State) : State :=
  if s.ftl.pendRecs.isEmpty then { s with ftl := { s.ftl with lastCommitAt := s.beat.ticks } }
  else
    let rs := s.ftl.pendRecs.filter (fun r => !recStale s r)
    let n := s.ftl.commitNo + 1
    let l := commitPages s n rs
    let pages := l.length
    let s1 := { s with ftl := { s.ftl with commits := s.ftl.commits ++ [⟨n, rs, pages⟩], commitNo := n, pendRecs := [],
                                           sinceSnap := s.ftl.sinceSnap + pages, wseq := s.ftl.wseq + pages,
                                           lastCommitAt := s.beat.ticks } }
    ftlFields (rs.foldl (fun t r => applyRec r t) (count 0x07 1 pages (count 0x07 0 pages
      (writeCommit (((List.range pages).map (fun i => s.ftl.wseq + 1 + i)).zip l) s1))))

/-- A record posted; every pending record is committed first when it would raise map state above m (13 R440). -/
def postRec (r : JRec) (s : State) : State :=
  let excess := ceilDiv (s.ftl.pendRecs.length + 1) (recsPerPage s) + 1 > max 2 (rd s P04.LIMIT_M)
  let t := if excess then commitPending s else s
  ftlFields { t with ftl := { t.ftl with pendRecs := t.ftl.pendRecs ++ [r] } }

/-! Mapped pages (13 R438, R447, R448). -/

/-- One page fewer is valid in the block of an address. -/
def dropValid (c : Chan) (a : Nat) (s : State) : State :=
  let l := mapIf (isBlk c (addrDie a) (addrBlk s a)) (fun b => { b with valid := b.valid - 1 }) s.ftl.blks
  { s with ftl := { s.ftl with blks := l } }

/-- One copy of a mapped page written to a page taken for it: its MAP record, the old page no longer valid (13 R438,
R448). -/
def copyTo (c : Chan) (part lpn : Nat) (at_ : Option Nat) (t : State) : State :=
  match at_ with
  | none => t
  | some a =>
    let old := (assocGet (part, lpn) t.ftl.map).getD (0, 0)
    let oldA := match c with
      | .c0 => old.1
      | .c1 => old.2
    let new := match c with
      | .c0 => (a, old.2)
      | .c1 => (old.1, a)
    let t1 := { t with ftl := { t.ftl with map := assocSet (part, lpn) new t.ftl.map } }
    let t2 := if oldA = 0 then t1 else dropValid c oldA t1
    postRec ⟨1, part, c, lpn, a, oldA⟩ (count 0x07 (chNo c) 1 t2)

/-- One copy of a mapped page written on a channel. -/
def writeCopy (c : Chan) (part lpn : Nat) (s : State) : State :=
  match takePage c part s with
  | (t, a) => copyTo c part lpn a t

/-- A mapped page written on both channels under one write sequence (13 R434, R435). -/
def writePage2 (part lpn : Nat) (s : State) : State :=
  writeCopy .c1 part lpn (writeCopy .c0 part lpn { s with ftl := { s.ftl with wseq := s.ftl.wseq + 1 } })

/-- Several consecutive mapped pages written. -/
def writePages (part lpn n : Nat) (s : State) : State :=
  (List.range n).foldl (fun t i => writePage2 part (lpn + i) t) s

/-- The logical pages whose copy on a channel lies in a block. -/
def pagesIn (s : State) (c : Chan) (die blk : Nat) : List (Nat × Nat) :=
  (s.ftl.map.filter (fun m =>
    let a := if c == .c0 then m.2.1 else m.2.2
    a != 0 && addrDie a == die && addrBlk s a == blk)).map Prod.fst

/-- Every valid page of a block copied elsewhere on its channel (13 R447 steps 1 and 2). -/
def relocate (c : Chan) (die blk : Nat) (s : State) : State :=
  (pagesIn s c die blk).foldl (fun t k => bump P41.GC_COPIES (writeCopy c k.1 k.2 t)) s

/-- A block's state replaced, entering the table when it was not listed. -/
def setBlkSt (c : Chan) (die blk part : Nat) (st : BlkSt) (s : State) : State :=
  if s.ftl.blks.any (isBlk c die blk) then
    { s with ftl := { s.ftl with blks := mapIf (isBlk c die blk) (fun b => { b with st := st }) s.ftl.blks } }
  else { s with ftl := { s.ftl with blks := s.ftl.blks ++ [{ chan := c, die := die, blk := blk, part := part,
                                                             erases := 0, st := st, valid := 0 }] } }

/-! Capacity (13 R453, R454). -/

/-- The segments advertised to Ledger: the lower of the two channels' ledger blocks (13 R453). -/
def advertised (s : State) : Nat := (s.ftl.ledgerBlks.min?).getD 0

/-- The free segments (13 R437). -/
def freeSegs (s : State) : Nat := advertised s - s.ftl.segs.length

/-- The held-back blocks of a channel, U − F − A (13 R453). -/
def heldBack (s : State) (c : Chan) : Nat :=
  s.ftl.usable.getD (chNo c) 0 - s.ftl.fixed - s.ftl.ledgerBlks.getD (chNo c) 0

/-- WORN is set when the held-back share would fall below 5 % on either channel (13 R453). -/
def checkWorn (s : State) : State :=
  let low := fun c => decide (heldBack s c * 20 < s.ftl.usable.getD (chNo c) 0)
  if low .c0 || low .c1 then wr P41.WORN 1 s else s

/-- One more retired block is absorbed: by a spare, by a free ledger block, or by the held-back share (13 R453). -/
def shrink (c : Chan) (s : State) : State :=
  let i := chNo c
  let s1 := { s with ftl := { s.ftl with usable := s.ftl.usable.set i (s.ftl.usable.getD i 0 - 1) } }
  if 0 < s.ftl.spares.getD i 0 then
    { s1 with ftl := { s1.ftl with spares := s1.ftl.spares.set i (s1.ftl.spares.getD i 0 - 1) } }
  else if 0 < freeSegs s then
    logEv evFlashCapacityShrink []
      { s1 with ftl := { s1.ftl with ledgerBlks := s1.ftl.ledgerBlks.set i (s1.ftl.ledgerBlks.getD i 0 - 1) } }
  else s1

/-- A block retired with a cause, once: 1 program, 2 erase, 3 read, 4 die lost (13 R442, R443, Table 13-4). -/
def retireBlk (c : Chan) (die blk cause : Nat) (s : State) : State :=
  if s.ftl.blks.any (fun b => isBlk c die blk b && b.st == .retired) then s
  else
    let s1 := setBlkSt c die blk ptLedger .retired s
    let s2 := { s1 with ftl := { s1.ftl with retiredDie := assocMod (c, die) 0 (fun n => n + 1) s1.ftl.retiredDie } }
    checkWorn (shrink c (postRec ⟨5, 0, c, dieBlk die blk, cause, 0⟩ (bump P41.GROWN_BAD s2)))

/-- A block that failed: its valid pages are relocated and it is retired (13 R442, R443). -/
def failBlk (c : Chan) (die blk cause : Nat) (s : State) : State := retireBlk c die blk cause (relocate c die blk s)

/-! Ledger segments (13 R437, R453, R454). -/

/-- The lowest free segment. -/
def freeSeg (s : State) : Option Nat :=
  (List.range (advertised s)).find? (fun n => (assocGet n s.ftl.segs).isNone)

/-- A free block of one die opened for a partition: one that no work has touched, else the one with the lowest count (13
R449). -/
def blkOn (c : Chan) (part die : Nat) (s : State) : State × Option Nat :=
  match freshBlk s c die with
  | some b => (openFresh c part die b s, some b)
  | none => match lowestErased ((erasedFree s c).filter (fun b => b.die == die)) with
    | some x => (openAgain c part x s, some x.blk)
    | none => (s, none)

/-- A segment's block on a channel, as die and block. -/
def segBlk (s : State) (c : Chan) (g : Nat) : Option (Nat × Nat) :=
  (assocGet g s.ftl.segBlks).map (fun x => if c == .c0 then x.1 else x.2)

/-- A block closed, with the pages it holds. -/
def closeBlk (c : Chan) (at_ : Nat × Nat) (n : Nat) (s : State) : State :=
  { s with ftl := { s.ftl with
    blks := mapIf (fun b => isBlk c at_.1 at_.2 b && b.st == .opened) (fun b => { b with st := .closed, valid := n }) s.ftl.blks } }

/-- The open segment of a die pair closed, its blocks with it (13 R437). -/
def closeSeg (pr : Nat × Nat) (s : State) : State :=
  match assocGet pr s.ftl.openSegs with
  | some (g, used) =>
    let x := (assocGet g s.ftl.segBlks).getD (pr, pr)
    closeBlk .c1 x.2 used (closeBlk .c0 x.1 used
      { s with ftl := { s.ftl with segs := assocSet g .closed s.ftl.segs, openSegs := assocDel pr s.ftl.openSegs } })
  | none => s

/-- A free segment opened on a die pair: a block of each die, opened together (13 R437, Table 13-4). -/
def openSeg (pr : Nat × Nat) (n : Nat) (s : State) : State × Option (Nat × Nat) :=
  match blkOn .c0 ptLedger pr.1 s with
  | (s1, some b0) =>
    (match blkOn .c1 ptLedger pr.2 s1 with
      | (s2, some b1) =>
        (postRec ⟨6, ptLedger, .c0, n, dieBlk pr.1 b0, dieBlk pr.2 b1⟩
          { s2 with ftl := { s2.ftl with segs := assocSet n .opened s2.ftl.segs,
                                         openSegs := assocSet pr (n, 1) s2.ftl.openSegs,
                                         segBlks := assocSet n ((pr.1, b0), (pr.2, b1)) s2.ftl.segBlks } }, some (n, 0))
      | _ => (s, none))
  | _ => (s, none)

/-- The next page of a die pair's open segment, as segment and page; a full segment closes and a free one opens (13 R437). -/
def segFor (pr : Nat × Nat) (s : State) : State × Option (Nat × Nat) :=
  match assocGet pr s.ftl.openSegs with
  | some (g, used) =>
    if used < s.ftl.pagesPerBlock then
      ({ s with ftl := { s.ftl with openSegs := assocSet pr (g, used + 1) s.ftl.openSegs } }, some (g, used))
    else
      let s1 := closeSeg pr s
      match freeSeg s1 with
      | some n => openSeg pr n s1
      | none => (s1, none)
  | none =>
    match freeSeg s with
    | some n => openSeg pr n s
    | none => (s, none)

/-- The pages that free segments and open segments still hold. -/
def freePages (s : State) : Nat :=
  freeSegs s * s.ftl.pagesPerBlock + (s.ftl.openSegs.map (fun x => s.ftl.pagesPerBlock - x.2.2)).sum

/-- The pages of the largest group, L_MIN (01 R28). -/
def lMin (s : State) : Nat := 49152 / s.ftl.pageSize

/-- The free pages a group needs before it may open (06 R214). -/
def openNeed (s : State) : Nat :=
  lMin s + rd s P04.LIMIT_L + rd s P04.LIMIT_M + rd s P12.RESERVE_SEGS * s.ftl.pagesPerBlock

end Sys2Proof.Machine
end

