-- ==== Sys2Proof/Machine/Command.lean ====
section
/-! DEFINITION. Host commands (02): status codes, the opcode catalogue, replies, what a command is refused for in each
state, and the one driver that executes every host command. -/
namespace Sys2Proof.Machine

/-! Status codes (02 Table 02-5). -/
def stAccepted : Nat := 0x0000
def stDone : Nat := 0x0001
def stHeld : Nat := 0x0002
def stPending : Nat := 0x0003
def stBusy : Nat := 0x0100
def stBackpressure : Nat := 0x0101
def stAcceptClosed : Nat := 0x0102
def stNotReady : Nat := 0x0103
def stBadCrc : Nat := 0x0200
def stBadLength : Nat := 0x0201
def stBadVersion : Nat := 0x0202
def stBadOpcode : Nat := 0x0203
def stBadFunction : Nat := 0x0204
def stStoreFull : Nat := 0x0300
def stNoResource : Nat := 0x0301
def stRadioOff : Nat := 0x0302
def stPlcOff : Nat := 0x0303
def stMetrologyOff : Nat := 0x0304
def stRestricted : Nat := 0x0305
def stDeniedLegal : Nat := 0x0400
def stDeniedSeal : Nat := 0x0401
def stDeniedState : Nat := 0x0402
def stOutOfRange : Nat := 0x0500
def stBadPayload : Nat := 0x0501
def stUnknownPage : Nat := 0x0502
def stUnknownObject : Nat := 0x0503
def stSeqOutOfWindow : Nat := 0x0600
def stSessionClosed : Nat := 0x0601
def stReplyExpired : Nat := 0x0602
def stResumeRequired : Nat := 0x0603
def stSeqConflict : Nat := 0x0604
def stFuncFailed : Nat := 0x0700
def stHaltedDiverged : Nat := 0x0701
def stAborted : Nat := 0x0702
def stAuthFailed : Nat := 0x0800

/-- A row of the opcode catalogue: least and greatest payload length, the function number it needs (none: the header
names it), and whether it always creates accepted work (02 Table 02-6). -/
structure OpRow where
  lo : Nat
  hi : Nat
  fn : Option Nat
  acc : Bool
  deriving DecidableEq, Repr

/-- The first part of Table 02-6: device, chain, parameter, ingest, ledger and downlink opcodes. -/
def opTableA : List (Nat × OpRow) := [
  (0x00, ⟨0, 8188, some 0x01, false⟩),
  (0x01, ⟨8, 8, some 0x01, false⟩),
  (0x02, ⟨0, 0, some 0x01, true⟩),
  (0x03, ⟨0, 0, some 0x01, false⟩),
  (0x04, ⟨0, 0, some 0x01, false⟩),
  (0x05, ⟨0, 0, some 0x01, false⟩),
  (0x06, ⟨0, 0, none, false⟩),
  (0x07, ⟨4, 4, some 0x01, false⟩),
  (0x08, ⟨4, 4, some 0x01, false⟩),
  (0x10, ⟨4, 4, some 0x02, false⟩),
  (0x11, ⟨0, 0, some 0x02, false⟩),
  (0x12, ⟨88, 88, some 0x03, true⟩),
  (0x13, ⟨16, 16, some 0x03, true⟩),
  (0x14, ⟨0, 0, some 0x03, false⟩),
  (0x20, ⟨4, 4, none, false⟩),
  (0x21, ⟨516, 588, none, false⟩),
  (0x22, ⟨4, 4, none, false⟩),
  (0x23, ⟨4, 4, none, false⟩),
  (0x30, ⟨16, 8192, some 0x10, true⟩),
  (0x31, ⟨8, 8, some 0x10, false⟩),
  (0x32, ⟨32, 32, some 0x10, true⟩),
  (0x33, ⟨8, 8, some 0x10, true⟩),
  (0x34, ⟨16, 2048, some 0x10, true⟩),
  (0x35, ⟨8, 8, some 0x44, false⟩),
  (0x36, ⟨4, 4, some 0x44, false⟩),
  (0x37, ⟨8, 8192, some 0x44, false⟩),
  (0x38, ⟨4, 4, some 0x11, false⟩),
  (0x39, ⟨8, 4096, some 0x11, true⟩),
  (0x3A, ⟨40, 40, some 0x11, true⟩),
  (0x40, ⟨16, 16, some 0x12, true⟩),
  (0x41, ⟨16, 16, some 0x12, false⟩),
  (0x42, ⟨16, 16, some 0x12, true⟩),
  (0x43, ⟨4, 4, some 0x12, true⟩),
  (0x44, ⟨32, 32, some 0x12, false⟩),
  (0x45, ⟨0, 0, some 0x12, false⟩),
  (0x50, ⟨24, 1024, some 0x12, true⟩),
  (0x51, ⟨24, 256, some 0x12, true⟩),
  (0x52, ⟨8, 8, some 0x12, false⟩),
  (0x53, ⟨8, 8, some 0x12, true⟩),
  (0x54, ⟨16, 8192, some 0x12, true⟩),
  (0x55, ⟨64, 64, some 0x60, true⟩),
  (0x56, ⟨16, 16, some 0x60, true⟩),
  (0x57, ⟨8, 8, some 0x60, false⟩),
  (0x58, ⟨16, 8192, some 0x13, true⟩),
  (0x59, ⟨16, 16, some 0x13, true⟩)]

/-- The rest of Table 02-6: keys, images, diagnostics, Dovetail and legal opcodes. -/
def opTableB : List (Nat × OpRow) := [
  (0x5A, ⟨16, 16, some 0x13, false⟩),
  (0x5B, ⟨4, 4, some 0x20, false⟩),
  (0x5C, ⟨4, 4, some 0x21, false⟩),
  (0x60, ⟨40, 200, some 0x40, true⟩),
  (0x61, ⟨8, 8, some 0x40, true⟩),
  (0x62, ⟨4, 4, some 0x40, true⟩),
  (0x63, ⟨4, 4, some 0x40, false⟩),
  (0x64, ⟨4, 4, some 0x40, false⟩),
  (0x65, ⟨72, 72, some 0x40, true⟩),
  (0x70, ⟨64, 64, some 0x60, true⟩),
  (0x71, ⟨4112, 4112, some 0x60, true⟩),
  (0x72, ⟨72, 72, some 0x60, true⟩),
  (0x73, ⟨8, 8, some 0x60, true⟩),
  (0x74, ⟨0, 0, some 0x60, false⟩),
  (0x75, ⟨16, 4112, some 0x60, true⟩),
  (0x80, ⟨8, 8, some 0x51, false⟩),
  (0x81, ⟨0, 0, some 0x52, false⟩),
  (0x82, ⟨64, 64, some 0x52, false⟩),
  (0x83, ⟨12, 12, some 0x42, false⟩),
  (0x84, ⟨8, 8, some 0x43, false⟩),
  (0x85, ⟨4, 4, none, false⟩),
  (0x86, ⟨0, 0, some 0x41, false⟩),
  (0x90, ⟨8, 8, some 0x50, true⟩),
  (0x91, ⟨4, 4, some 0x50, true⟩),
  (0x92, ⟨0, 0, some 0x50, false⟩),
  (0x93, ⟨8, 8, some 0x50, true⟩),
  (0x94, ⟨4, 4, some 0x50, true⟩),
  (0xA0, ⟨4, 4, some 0x30, false⟩),
  (0xA1, ⟨4, 4, some 0x30, false⟩),
  (0xA2, ⟨88, 8192, some 0x31, true⟩),
  (0xA3, ⟨88, 88, some 0x31, true⟩),
  (0xA4, ⟨136, 136, some 0x30, true⟩),
  (0xA5, ⟨80, 80, some 0x30, true⟩),
  (0xA6, ⟨16, 512, some 0x32, true⟩),
  (0xA7, ⟨8, 8, some 0x32, true⟩),
  (0xA8, ⟨8, 8, some 0x30, false⟩)]

/-- The catalogue's row of an opcode; none for an opcode that is not listed (02 R71). NOTICE is not a host opcode
(02 R67). -/
def opRow (op : Nat) : Option OpRow :=
  match assocGet op opTableA with
  | some r => some r
  | none => assocGet op opTableB

/-- The function number of a command (02 Table 02-1). -/
def fnOf (h : Hdr) : Nat := h.flowFn / 2 ^ 24 % 256

/-- The session number of a command (02 Table 02-1). -/
def sessOf (h : Hdr) : Nat := h.flowFn / 2 ^ 20 % 16

/-- The atomic flow a command is bound to (01 R38). -/
def flowOf (h : Hdr) : Nat := h.flowFn % 1024

/-- The function number is one the opcode allows: the one of its row, or any that has a page for a T row (02 R68). -/
def fnAllowed (op fn : Nat) : Bool :=
  match opRow op with
  | some r => (match r.fn with
    | some f => f == fn
    | none => pageNumbers.contains fn)
  | none => false

/-- The CRC the device keeps of a command, RETRY and TAG ignored (02 R54). -/
def cmdCrc (h : Hdr) (p : List Byte) : Nat :=
  crc32c (hdrBytes { h with tag := 0, verFlags := setBits h.verFlags 2 1 0 } ++ p)

/-! Replies (02 R49, R53, R64). -/

/-- The header of a reply: REPLY set, DEST and SRC exchanged, the reply's length, the reserved flag 0; a broadcast is
answered with the chip's own address (02 R48, R49; 00 R6). -/
def replyHdr (s : State) (h : Hdr) (n : Nat) : Hdr :=
  { h with verFlags := setBits (setBits h.verFlags 3 1 1) 0 1 0, len := n, dest := h.src,
           src := if h.dest = 0x3F then rd s P02.CHAIN_ADDR else h.dest }

/-- A reply put on port U. -/
def sendReplyNow (h : Hdr) (status detail : Nat) (data : List Byte) (s : State) : State :=
  let rh := replyHdr s h (4 + data.length)
  linkSend .u (packet rh (leB 2 status ++ leB 2 detail ++ data)) (emit (.reply rh status detail data) s)

/-- The pair states in which a chip releases nothing: SHADOW, HALTED_DIVERGED, YIELDED, LAPSED (15 Table 15-1). -/
def pairMute (s : State) : Bool := [3, 5, 6, 7].contains (pairState s)

/-- Session 15 is local to a chip of a pair (15 R490). -/
def localCmd (s : State) (h : Hdr) : Bool := pairState s != 0 && sessOf h == 15

/-- The opcodes a local packet may carry; their reply data is not digested (15 R490, R492). -/
def localOp (op : Nat) : Bool :=
  [0x03, 0x04, 0x05, 0x07, 0x08, 0x10, 0x11, 0x14, 0x20, 0x22, 0x45, 0x92, 0x93].contains op ||
    (decide (0x80 ≤ op) && decide (op ≤ 0x86))

/-- A reply held until the partner's digest of its beat agrees (15 R492, R493). -/
def holdOut (h : Hdr) (status detail : Nat) (data : List Byte) (s : State) : State :=
  let crc := if localOp h.opcode then 0 else crc32c data
  let s1 := addRec [1, h.opcode, status, detail, h.flowFn, h.seq, crc] s
  { s1 with pair := { s1.pair with replies := s1.pair.replies ++ [⟨h, status, detail, data⟩] } }

/-- A reply sent, unless mains loss has been declared; in a pair it is held for its beat's digest, and a YIELDED or LAPSED
chip sends none. A halted chip answers under R73 but releases no ACCEPTED reply (17 R530; 15 Table 15-1, R493, R494). -/
def sendReply (h : Hdr) (status detail : Nat) (data : List Byte) (s : State) : State :=
  if silent s then s
  else if localCmd s h then sendReplyNow h status detail data s
  else if paired s || (pairState s == 5 && status == stAccepted) then holdOut h status detail data s
  else if pairState s == 6 || pairState s == 7 then s
  else sendReplyNow h status detail data s

/-- A session. -/
def sessAt (s : State) (n : Nat) : Sess := s.cmd.sess.getD n {}

/-- A session replaced. -/
def setSess (n : Nat) (x : Sess) (s : State) : State := { s with cmd := { s.cmd with sess := s.cmd.sess.set n x } }

/-- The distance from `a` to `b` in sequence arithmetic modulo 2^32. -/
def seqDist (a b : Nat) : Nat := (b + 2 ^ 32 - a % 2 ^ 32) % 2 ^ 32

/-- A final reply held for its session, for the last 256 admitted sequences (02 R50, R64). -/
def hold (x : Held) (s : State) : State :=
  let n := sessOf x.hdr
  let y := sessAt s n
  let l := (y.held.filter (fun z => z.seq ≠ x.seq)) ++ [x]
  setSess n { y with held := l.filter (fun z => seqDist z.seq y.n ≤ 256) } s

/-- Commands exempt from the session rules: broadcasts, ENUMERATE to 0x00, GET_SESSION, OPEN_SESSION with RESUME, and in a
pair session 15 (02 R48, R56, R58; 03 R97; 15 R490). -/
def exempt (s : State) (h : Hdr) (p : List Byte) : Bool :=
  h.dest == 0x3F || localCmd s h || (h.opcode == 0x10 && h.dest == 0) || h.opcode == 0x03 ||
    (h.opcode == 0x01 && (bitAt (byteAt p 4) 0 || p.length != 8))

/-- An admitted command that is no longer open. -/
def closeCmd (h : Hdr) (s : State) : State :=
  let others := s.cmd.openC.filter (fun o => !(sessOf o.hdr == sessOf h && o.hdr.seq == h.seq))
  { s with cmd := { s.cmd with openC := others } }

/-- The final reply of a command: held (durably when ACCEPTED) unless it is exempt from the session rules, and sent
(02 R53, R64). -/
def finish (h : Hdr) (p : List Byte) (status detail : Nat) (data : List Byte) (s : State) : State :=
  let s1 := if exempt s h p then s else
    hold ⟨h.seq, cmdCrc h p, h, status, detail, data, status == stAccepted⟩ (closeCmd h s)
  sendReply h status detail data s1

/-! States in which commands are refused (00 R4; 02 R73, R80; 17 R533, R534). -/

/-- What a state lets become of a command before it executes. -/
inductive Gate where
  | pass
  | noAnswer
  | fail (status detail : Nat)
  deriving DecidableEq, Repr

/-- Opcodes admitted while the device is held under R4 (02 R73). -/
def r4Admits (op : Nat) : Bool :=
  decide (op ≤ 0x0F) || op == 0x10 || op == 0x11 || op == 0x14 || (decide (0x20 ≤ op) && decide (op ≤ 0x2F)) ||
    (decide (0x70 ≤ op) && decide (op ≤ 0x8F)) || op == 0x92

/-- Opcodes admitted while the pair is HALTED_DIVERGED (02 R73). -/
def haltAdmits (op : Nat) : Bool :=
  decide (op ≤ 0x2F) || (decide (0x80 ≤ op) && decide (op ≤ 0x9F))

/-- The broadcast set of R48. -/
def broadcastSet (op : Nat) : Bool := [0x00, 0x04, 0x05, 0x10, 0x14].contains op

/-- What the power state and the start-up step let become of a command (17 Table 17-4, R533, R534). `acc`: it creates
accepted work. -/
def startGate (s : State) (op fn : Nat) (acc : Bool) : Gate :=
  match s.pwr.mode with
  | .run => .pass
  | .trim => .pass
  | .start =>
    if s.pwr.step < 5 then
      (if op = 0x10 || (broadcastSet op && rd s P02.CHAIN_ADDR != 0) then .pass else .noAnswer)
    else if s.pwr.step < 8 then .fail stNotReady 0x01
    else if s.pwr.step < 9 then .fail stNotReady fn
    else if acc && !s.pwr.held then .fail stNotReady 0x03
    else .pass
  | _ => .noAnswer

/-- What R3 answers to a command of an unpowered subsystem (00 R3; 02 R73). -/
def powerGate (s : State) (fn : Nat) : Gate :=
  if fn = 0x20 ∧ radioOn s = false then .fail stRadioOff 0
  else if fn = 0x21 ∧ plcOn s = false then .fail stPlcOff 0
  else if fn = 0x30 ∧ metroOn s = false then .fail stMetrologyOff 0
  else .pass

/-- The checks of the states in which a command is refused, in the order RESTRICTED, NOT_READY, subsystem power,
what a local packet may be, HALTED_DIVERGED, what a pair cannot replicate (15 R490), FUNC_FAILED, BUSY (assumption log
6). -/
def stateGate (s : State) (h : Hdr) (acc : Bool) : Gate :=
  let fn := fnOf h
  if s.pwr.held ∧ r4Admits h.opcode = false then .fail stRestricted 0
  else match startGate s h.opcode fn acc with
    | .pass => match powerGate s fn with
      | .pass =>
        if localCmd s h = true ∧ localOp h.opcode = false then .fail stDeniedState 0
        else if pairState s = 5 ∧ haltAdmits h.opcode = false then .fail stHaltedDiverged 0
        else if paired s = true ∧ localCmd s h = false ∧ [0x55, 0x61, 0x65].contains h.opcode = true then
          .fail stDeniedState 0
        else if [0x06, 0x07, 0x08].contains h.opcode = false ∧ (assocGet fn s.cmd.funcFailed).isSome then
          .fail stFuncFailed ((assocGet fn s.cmd.funcFailed).getD 0)
        else if (assocGet fn s.cmd.funcReset).isSome then .fail stBusy 0
        else .pass
      | g => g
    | g => g

/-- A payload of a length its row does not allow: BAD_PAYLOAD with the first missing byte, or the first byte past the
longest payload (02 R71; assumption log 7). -/
def lenGate (op n : Nat) : Gate :=
  match opRow op with
  | some r =>
    if n < r.lo then .fail stBadPayload n
    else if n > r.hi then .fail stBadPayload r.hi
    else if op = 0x21 ∧ n ≠ 516 ∧ n ≠ 588 then .fail stBadPayload 516
    else .pass
  | none => .pass

/-- Accepted work while acceptance is closed or the ledger read-only (02 R73; 06 R214). EXPORT_ACK and EXPORT_CLOSE
continue on the reserve segments until those are used up, without a die pair too (06 R216). -/
def accGate (s : State) (op : Nat) : Gate :=
  if acceptClosed s then .fail stAcceptClosed 0
  else if storeFull s ∧ ¬ ((op = 0x42 ∨ op = 0x43) ∧ 0 < freePages s) then .fail stStoreFull 0
  else .pass

/-! The driver. -/

/-- What a command's own checks and effect come to: a failure that changes nothing, a
refusal that is not held, a completed command with its reply
data, a write that takes effect with its reply at the next beat boundary (R62, R76), accepted work, or a command that
stays open. -/
inductive Ans where
  | fail (status detail : Nat)
  | refuse (status detail : Nat)
  | done (data : List Byte) (s : State)
  | doneAtBeat (eff : Eff) (s : State)
  | accept (data : List Byte) (effBytes : List Byte) (eff : Eff) (s : State)
  | stays (s : State)

/-- The COMMAND entry of a command answered ACCEPTED: its head, reply data padded to a multiple of 32 bytes, then the
effect (06 Table 06-2). -/
def commandEntry (h : Hdr) (p : List Byte) (data effBytes : List Byte) (eff : Eff) : Entry :=
  ctlEntry 0x01
    (leB 1 h.opcode ++ leB 1 data.length ++ leB 4 h.flowFn ++ leB 4 h.seq ++ leB 4 (cmdCrc h p) ++ leB 2 stAccepted
      ++ leB 2 0)
    (padTo (32 * ceilDiv data.length 32) data ++ effBytes)
    (.command h (cmdCrc h p) stAccepted 0 data eff) (fnOf h)

/-- The page and instance that an effect writes: SET_PARAM and RESTORE_DEFAULTS name them first (02 R75, R77). -/
def targetOf (e : Eff) : Option (Nat × Nat) :=
  match e.cmd with
  | some (.setParam _ p _) => some (byteAt p 0, byteAt p 1)
  | some (.restoreDefaults _ p) => some (byteAt p 0, byteAt p 1)
  | _ => none

/-- The header of a command that writes a page. -/
def writerOf (e : Eff) : Option Hdr :=
  match e.cmd with
  | some (.setParam h _ _) => some h
  | some (.restoreDefaults h _) => some h
  | _ => none

/-- The effects of accepted commands that have not been applied: their entries not released yet, then those released and
due. -/
def pendingEffs (s : State) : List Eff :=
  (unreleased s).filterMap (fun e => match e.act with
    | .command _ _ _ _ _ eff => some eff
    | _ => none) ++ s.cmd.due

/-- The writes of the same page admitted before a write and not applied yet: it waits for them (02 R52). -/
def writesBefore (e : Eff) (s : State) : List Hdr :=
  ((pendingEffs s).filter (fun x => targetOf x == targetOf e)).filterMap writerOf

/-- A command answered by its own checks and effect. -/
def answer (h : Hdr) (p : List Byte) (a : Ans) (s : State) : State :=
  match a with
  | .fail st d => finish h p st d [] s
  | .refuse st d => sendReply h st d [] s
  | .done data t => finish h p stDone 0 data t
  | .doneAtBeat eff t => { t with cmd := { t.cmd with dueDone := t.cmd.dueDone ++ [⟨h, { eff with data := p }, writesBefore eff t⟩] } }
  | .accept data eb eff t => postEntry (commandEntry h p data eb { eff with data := p }) t
  | .stays t => t

/-- A host command executed: the state it finds the device in, the length of its payload, accepted work while none may
be taken on, then the command's own checks and effect. -/
def runCmd (h : Hdr) (p : List Byte) (acc : Bool) (body : State → Ans) (s : State) : State :=
  match stateGate s h acc with
  | .noAnswer => s
  | .fail st d => finish h p st d [] s
  | .pass =>
    match lenGate h.opcode p.length with
    | .fail st d => finish h p st d [] s
    | _ =>
      if acc then
        match accGate s h.opcode with
        | .fail st d => finish h p st d [] s
        | _ => answer h p (body s) s
      else answer h p (body s) s

end Sys2Proof.Machine
end

