-- ==== Sys2Proof/Machine/Param.lean ====
section
/-! DEFINITION. Parameter pages (02 R74 to R78): reading a page, validating a write, writing its fields. -/
namespace Sys2Proof.Machine

/-- An instance a page has (02 Table 02-8). -/
def instOk (page i : Nat) : Bool :=
  if page = 0x20 then decide (i < 16)
  else if page = 0x21 then decide (1 ≤ i) && decide (i ≤ 3)
  else if page = 0x44 then decide (i < 8)
  else i == 0

/-- A page and instance a command names, and the power of its subsystem (02 R73, R74). -/
def pageGate (s : State) (page i : Nat) : Option (Nat × Nat) :=
  if pageNumbers.contains page = false then some (stUnknownPage, 0)
  else if instOk page i = false then some (stOutOfRange, 0xFFFF)
  else match powerGate s page with
    | .fail st d => some (st, d)
    | _ => none

/-- Fields of page 0x20 that exist only in instance 0, or in instances 0 and 1 for the two ports (08 R289). -/
def fldExists (f : Fld) (i : Nat) : Bool :=
  if f = P20.DRIFT_DEV ∨ f = P20.DEV_EXT ∨ f = P20.SEEN_FULL then i == 0
  else if f = P20.PORT_KHZ ∨ f = P20.PORT_TX_MAX ∨ f = P20.IQ_RATE then decide (i ≤ 1)
  else true

/-- The 2,048 bits of a page as one number: every field at its place, reserved bits 0 (00 R6). -/
def pageValue (s : State) (page i : Nat) : Nat :=
  ((pageFields page).map (fun f => if fldExists f i then rdI s f i * 2 ^ f.lo else 0)).sum

/-- The reset values of a page as one number (02 R77). -/
def pageDefaults (page : Nat) : Nat := ((pageFields page).map (fun f => f.reset * 2 ^ f.lo)).sum

/-- A field the host can write: RW, RWL or W1C (02 R75). -/
def writable (f : Fld) : Bool := f.acc == .rw || f.acc == .rwl || f.acc == .w1c || f.acc == .wo

/-- A write: page, instance, data and mask of the whole page. -/
structure PWrite where
  page : Nat
  inst : Nat
  data : Nat
  mask : Nat
  deriving DecidableEq, Repr

/-- The write a SET_PARAM payload carries (02, after R74). -/
def parseWrite (p : List Byte) : PWrite := ⟨byteAt p 0, byteAt p 1, leAt p 4 256, leAt p 260 256⟩

/-- The write of one field with one value. -/
def fieldWrite (f : Fld) (i v : Nat) : PWrite :=
  ⟨f.page, i, v % 2 ^ f.width * 2 ^ f.lo, (2 ^ f.width - 1) * 2 ^ f.lo⟩

/-- Two writes of one page as one. -/
def PWrite.also (a b : PWrite) : PWrite := ⟨a.page, a.inst, a.data + b.data, a.mask + b.mask⟩

/-- The payload of a SET_PARAM that carries a write. -/
def PWrite.payload (w : PWrite) : List Byte := leB 1 w.page ++ leB 1 w.inst ++ leB 2 0 ++ leB 256 w.data ++ leB 256 w.mask

/-- The write covers a field whole. -/
def covers (w : PWrite) (f : Fld) : Bool := bitsAt w.mask f.lo f.width == 2 ^ f.width - 1

/-- The write touches a field. -/
def touches (w : PWrite) (f : Fld) : Bool := bitsAt w.mask f.lo f.width != 0

/-- The value a field would have after the write. -/
def after (s : State) (w : PWrite) (f : Fld) : Nat :=
  if f.page = w.page ∧ writable f = true ∧ covers w f = true then bitsAt w.data f.lo f.width else rdI s f w.inst

/-- The signed value a field would have after the write. -/
def afterS (s : State) (w : PWrite) (f : Fld) : Int := toS f.width (after s w f)

/-- A value lies in a range (the range columns of the page tables). -/
def inRng (r : Rng) (v : Int) : Bool :=
  match r with
  | .any => true
  | .btw lo hi => decide (lo ≤ v) && decide (v ≤ hi)
  | .only l => l.contains v
  | .zeroOr lo hi => v == 0 || (decide (lo ≤ v) && decide (v ≤ hi))
  | .step lo hi n => decide (lo ≤ v) && decide (v ≤ hi) && (v - lo) % n == 0
  | .etherType => decide (0x0600 ≤ v) && v != 0x88F7 && v != 0x8100 && v != 0x88A8

/-- The new value of a field lies in its own range. -/
def valueOk (s : State) (w : PWrite) (f : Fld) : Bool :=
  inRng f.rng (if f.signed then afterS s w f else (after s w f : Int))

/-- Ranges that tie fields together: the fields concerned, and whether their new values stand
(01 R21; 03 R92; 07 R248; 08 Table 08-10; 09 R325; 11 R388; 13 R456; 16 R516). -/
def crossRules (s : State) (w : PWrite) : List (List Fld × Bool) :=
  let a := fun f => after s w f
  match w.page with
  | 0x02 => [([P02.LINK_DEAD, P02.PROBE_MS], decide (2 * a P02.PROBE_MS ≤ a P02.LINK_DEAD))]
  | 0x04 => [([P04.POWER_CAP], decide (roleMinimum s ≤ a P04.POWER_CAP))]
  | 0x13 => [([P13.PERSIST_WIN, P13.PERSIST_ON], decide (a P13.PERSIST_ON ≤ a P13.PERSIST_WIN))]
  | 0x20 => [([P20.G0, P20.GMAX], decide (a P20.G0 < a P20.GMAX)),
             ([P20.SO, P20.BO], decide (a P20.SO ≤ a P20.BO)),
             ([P20.MIN_BE, P20.MAX_BE], decide (a P20.MIN_BE ≤ a P20.MAX_BE)),
             ([P20.DRIFT_DEV], decide (rd s P03.SLOT_SLEW + 1 ≤ a P20.DRIFT_DEV))]
  | 0x21 => [([P21.MIN_BE, P21.MAX_BE], decide (a P21.MIN_BE ≤ a P21.MAX_BE))]
  | 0x52 => (List.range 8).map (fun n =>
      ([cfgFld n], (cfgBad (bitsAt (a (cfgFld n)) 0 8) (bitsAt (a (cfgFld n)) 8 8) (bitsAt (a (cfgFld n)) 16 2)).isNone))
  | 0x30 => [([P30.DEMAND_PERIOD, P30.DEMAND_SUBS], 60 * a P30.DEMAND_PERIOD % a P30.DEMAND_SUBS == 0)]
  | 0x41 => [([P41.GC_LOW, P41.GC_START], decide (a P41.GC_LOW < a P41.GC_START)),
             ([P41.REFRESH_BITS], decide (rd s P12.VERIFY_BITS < a P41.REFRESH_BITS))]
  | _ => []

/-- The lowest bit of the first field of a page the write covers only in part (02 R75, first check). -/
def partialAt (w : PWrite) : Option Nat :=
  ((pageFields w.page).find? (fun f => writable f && touches w f && !covers w f)).map Fld.lo

/-- The write touches a field under legal authority (02 R75, second check). -/
def needsLegal (w : PWrite) : Bool := (pageFields w.page).any (fun f => f.acc == .rwl && touches w f)

/-- The lowest bit of the first field whose new value is out of range (02 R75, third check). -/
def rangeAt (s : State) (w : PWrite) : Option Nat :=
  let bad := fun f => writable f && f.acc != .w1c && covers w f && (!valueOk s w f || !fldExists f w.inst)
  let own := ((pageFields w.page).filter bad).map Fld.lo
  let tied := (((crossRules s w).filter (fun r => !r.2 && r.1.any (fun f => touches w f))).map
    (fun r => ((r.1.filter (fun f => touches w f)).map Fld.lo))).flatten
  (own ++ tied).min?

/-- The write changes at least one field of class N or L, so it is accepted work (02 R63). -/
def writesNL (w : PWrite) : Bool :=
  (pageFields w.page).any (fun f => writable f && touches w f && (f.cls == .n || f.cls == .l))

/-- The value of a field with its reserved bits 0: a DMA descriptor's bytes 1 to 3 (14 Table 14-3; 00 R6). -/
def fieldBits (f : Fld) (v : Nat) : Nat :=
  if f.page = 0x43 ∧ f.width = 256 then setBits v 8 24 0 else v

/-- One field of a write applied: W1C clears the bits written 1 (00 Table 00-3; 02 R75). -/
def applyField (w : PWrite) (f : Fld) (s : State) : State :=
  if writable f && covers w f then
    let v := fieldBits f (bitsAt w.data f.lo f.width)
    if f.acc = .w1c then wrI f w.inst (rdI s f w.inst - Nat.land (rdI s f w.inst) v) s else wrI f w.inst v s
  else s

/-- Every covered writable field of the page written; all other bits are ignored (02 R75). -/
def writePage (w : PWrite) (s : State) : State := (pageFields w.page).foldl (fun t f => applyField w f t) s

/-- The write that RESTORE_DEFAULTS makes: the reset value into every RW field that is not of class L or B (02 R77). -/
def defaultsWrite (page i : Nat) : PWrite :=
  (((pageFields page).filter (fun f => f.acc == .rw && f.cls != .l && f.cls != .b && fldExists f i)).map
    (fun f => fieldWrite f i f.reset)).foldl PWrite.also ⟨page, i, 0, 0⟩

/-- The authority counts of accepted commands that have not taken effect (02 R69): the first of their fixed values. -/
def pendingAuth (s : State) : List Nat :=
  (pendingEffs s).filterMap (fun e => match e.cmd with
    | some (.setParam _ _ _) => e.args.head?
    | some (.setLegalTime _ _ _) => e.args.head?
    | some (.calibrate _ _ _) => e.args.head?
    | some (.calendarLoad _ _ _) => e.args.head?
    | some (.calendarActivate _ _ _) => e.args.head?
    | some (.billingClose _ _ _) => e.args.head?
    | _ => none)

/-- The authority count that a command must exceed: the stored one, or that of a command accepted and not applied yet, which
is stored in the record already written for it (02 R69). -/
def authFloor (s : State) : Nat := (pendingAuth s).foldl max (rd s P30.AUTH_COUNT)

/-- A legal authority block counts: its signature verifies under the installed key and AUTH_COUNT exceeds the last
accepted (02 R69). -/
def authOk (s : State) (count : Nat) (sigOk : Bool) : Bool :=
  sigOk && rdB s P30.LEGAL_KEY_SET && decide (authFloor s < count)

/-- AUTH_COUNT of the authority block that ends a payload (02 Table 02-4). -/
def authCount (p : List Byte) : Nat := leAt p (p.length - 72) 8

/-- Powering a subsystem or changing the role with the cap below the new role minimum raises it and logs
DEN_CAP_RAISED (01 R21). -/
def raiseCap (s : State) : State :=
  if rd s P04.POWER_CAP < roleMinimum s then logEv evDenCapRaised [] (wr P04.POWER_CAP (roleMinimum s) s) else s

end Sys2Proof.Machine
end

