-- ==== Sys2Proof/Machine/Brixrum.lean ====
section
/-! DEFINITION. Session and device commands that act on no other subsystem (02 R51, R55 to R65). -/
namespace Sys2Proof.Machine

/-- NOP returns its payload (02, "Session and device commands"). -/
def execNop (h : Hdr) (p : List Byte) (s : State) : Host.Outcome State Fault Refusal :=
  .next (runCmd h p false (fun t => .done p t) s)

/-- The code of a session state (02 R57). -/
def sessCode : SessSt → Nat
  | .closed => 0
  | .opened => 1
  | .resume => 2

/-- OPEN_SESSION admitted on a closed session: replies still held are discarded and N is one past START_SEQ (02 R56). -/
def openAdmit (h : Hdr) (s : State) : State :=
  setSess (sessOf h) { sessAt s (sessOf h) with n := (h.seq + 1) % 2 ^ 32, held := [] } s

/-- The reply data of OPEN_SESSION: N after the command and the state before it (02 R57). -/
def openData (n : Nat) (st : SessSt) : List Byte := leB 4 n ++ leB 1 (sessCode st) ++ zeros 3

/-- What keeps OPEN_SESSION, admitted, from being accepted: the device's state, then closed acceptance (02 R56, R73). -/
def openGate (h : Hdr) (s : State) : Gate :=
  match stateGate s h true with
  | .pass => accGate s 0x01
  | g => g

/-- OPEN_SESSION by session state and RESUME flag. A retry and a session state that does not admit it are answered first;
then the device's state is looked at, and only what is recorded in the ledger is accepted work (02 R53, R56, R57). -/
def openSession (h : Hdr) (p : List Byte) (s : State) : State :=
  let x := sessAt s (sessOf h)
  if p.length ≠ 8 then sendReply h stBadPayload 0 [] s
  else if bitAt (byteAt p 4) 0 then
    match x.st with
    | .closed => sendReply h stSessionClosed 0 [] s
    | .opened => match stateGate s h false with
      | .pass => sendReply h stDone 0 (openData x.n .opened) s
      | .fail st d => sendReply h st d [] s
      | .noAnswer => s
    | .resume => match openGate h s with
      | .pass => answer h p (.accept (openData x.n .resume) [] { cmd := some (.openSession h p) } s) s
      | .fail st d => sendReply h st d [] s
      | .noAnswer => s
  else
    match x.st with
    | .opened => sendReply h stSeqConflict 0 [] s
    | .resume => sendReply h stResumeRequired 0 [] s
    | .closed =>
      if h.seq ≠ leAt p 0 4 then sendReply h stSeqConflict 0 [] s
      else match openGate h s with
        | .pass => answer h p (.accept (openData ((h.seq + 1) % 2 ^ 32) .closed) [] { cmd := some (.openSession h p) }
            (openAdmit h s)) s
        | .fail st d => finish h p st d [] (openAdmit h s)
        | .noAnswer => s

/-- OPEN_SESSION; a payload that is not 8 bytes is refused BAD_PAYLOAD with detail 0 in every session state; a chip that
answers no command yet answers none of these either (02 R56, R57; 17 R533). -/
def execOpenSession (h : Hdr) (p : List Byte) (s : State) : Host.Outcome State Fault Refusal :=
  .next (if stateGate s h true = .noAnswer then s else openSession h p s)

/-- The effect of OPEN_SESSION: the session is OPEN (02 R56). -/
def effOpenSession (h : Hdr) (s : State) : State := setSess (sessOf h) { sessAt s (sessOf h) with st := .opened } s

/-- CLOSE_SESSION (02 R58). -/
def execCloseSession (h : Hdr) (p : List Byte) (s : State) : Host.Outcome State Fault Refusal :=
  .next (runCmd h p true (fun t => .accept [] [] { cmd := some (.closeSession h p) } t) s)

/-- The effect of CLOSE_SESSION: the session is CLOSED, its held replies stay (02 R58). -/
def effCloseSession (h : Hdr) (s : State) : State := setSess (sessOf h) { sessAt s (sessOf h) with st := .closed } s

/-- The lowest sequence of a session whose reply is held, or N (02 R58). -/
def lowestHeld (x : Sess) : Nat :=
  (x.held.foldl (fun b z => if seqDist b x.n < seqDist z.seq x.n then z.seq else b) x.n)

/-- GET_SESSION reports the session its header names (02 R58). -/
def execGetSession (h : Hdr) (p : List Byte) (s : State) : Host.Outcome State Fault Refusal :=
  .next (runCmd h p false (fun t =>
    let n := sessOf h
    let x := sessAt t n
    let o := (t.cmd.openC.filter (fun c => sessOf c.hdr == n)).length
    .done (leB 1 (sessCode x.st) ++ leB 1 n ++ leB 2 o ++ leB 4 x.n ++ leB 4 (lowestHeld x) ++ leB 1 x.early.length
      ++ zeros 3) t) s)

/-- The flags of GET_STATUS byte 3 (02 R60). -/
def statusFlags (s : State) : Nat :=
  rd s P04.ACCEPT_STOPPED + 2 * rd s P04.TRIM_THERMAL + 4 * rd s P04.TRIM_HOLDUP + 8 * rd s P12.READONLY
    + 16 * b2n s.pwr.held + 32 * rd s P03.LEGAL_DIVERGED + 64 * rd s P03.LEGAL_INVALID + 128 * rd s P03.BEAT_DETACHED

/-- The last start-up step completed: start-up waits in steps 4 and 7, and waits for step 10 after step 9 (02 R60; 17 Table
17-4). -/
def stepDone (s : State) : Nat :=
  if s.pwr.step = 4 then 3
  else if s.pwr.step = 7 then 6
  else max 2 s.pwr.step

/-- The 32 bytes of the GET_STATUS reply (02 R60). -/
def statusData (s : State) : List Byte :=
  leB 1 (pwrCode s.pwr.mode) ++ leB 1 s.pwr.cause ++ leB 1 (rd s P03.PLUMB_STATE) ++ leB 1 (statusFlags s)
    ++ leB 1 (pairState s) ++ leB 1 ((s.cmd.sess.filter (fun x => x.st == .opened)).length) ++ leB 1 (stepDone s)
    ++ leB 1 0 ++ leB 8 (if s.beat.loaded then s.beat.number else 0) ++ leB 4 (rd s P51.NEXT_SEQ)
    ++ leB 4 (rd s P51.OP_HOURS) ++ leB 2 (rd s P04.E_HOLD) ++ leB 1 (rd s P04.T_HOT) ++ leB 1 0
    ++ leB 4 s.cmd.noticeCounter

/-- GET_STATUS (02 R60). -/
def execGetStatus (h : Hdr) (p : List Byte) (s : State) : Host.Outcome State Fault Refusal :=
  .next (runCmd h p false (fun t => .done (statusData t) t) s)

/-- An open command that has had no reply for REPLY_LIMIT is sent PENDING with its percentage, or 0xFFFF when unknown
(02 R65). -/
def execPendingReply (sess : Fin 16) (seq percent : Nat) (s : State) : Host.Outcome State Fault Refusal :=
  match s.cmd.openC.find? (fun o => sessOf o.hdr == sess.val && o.hdr.seq == seq) with
  | none => .next s
  | some o =>
    if passed s (max o.at_ o.lastPending) (msBeats (rd s P01.REPLY_LIMIT)) then
      let l := mapIf (fun c => c.hdr == o.hdr) (fun c => { c with lastPending := s.beat.ticks }) s.cmd.openC
      .next (sendReply o.hdr stPending (if percent ≤ 100 then percent else 0xFFFF) []
        { s with cmd := { s.cmd with openC := l } })
    else .next s

/-- A buffered command held for GAP_LIMIT is discarded without a reply, and counted (02 R51). -/
def execReorderGapExpire (sess : Fin 16) (seq : Nat) (s : State) : Host.Outcome State Fault Refusal :=
  let x := sessAt s sess.val
  let gone := fun (e : Early) => e.hdr.seq == seq && passed s e.at_ (msBeats (rd s P01.GAP_LIMIT))
  if x.early.any gone then
    .next (setSess sess.val { x with early := x.early.filter (fun e => !gone e) }
      { s with cmd := { s.cmd with dropGap := s.cmd.dropGap + 1 } })
  else .next s

end Sys2Proof.Machine
end

