-- ==== Sys2Proof/Machine/Chain.lean ====
section
/-! DEFINITION. The Joist chain (03 R84 to R101; 02 R45 to R55): link frames received, forwarding, the checks of a packet,
the session rules, enumeration and link status. -/
namespace Sys2Proof.Machine

/-- The page field that tells a port is up. -/
def upFld : Port → Fld
  | .u => P02.U_UP
  | .d => P02.D_UP

/-- The page field of a port's neighbour. -/
def neighFld : Port → Fld
  | .u => P02.NEIGHBOUR_U
  | .d => P02.NEIGHBOUR_D

/-- The chip's own chain address. -/
def ownAddr (s : State) : Nat := rd s P02.CHAIN_ADDR

/-- An upstream neighbour's address, the host counting as 0x00 (03 R96). -/
def hostAs0 (u : Nat) : Nat := if u = 0x3E then 0 else u

/-- A sequence released by LACK, modulo 2^16 (03 R88, R89). -/
def ackedBy (lack lseq : Nat) : Bool := decide ((lack + 65536 - 1 - lseq % 65536) % 65536 < 32768)

/-- A port's neighbour address received; the one port U had before it changed stays known (03 R98). -/
def setNeigh (p : Port) (a : Nat) (s : State) : State :=
  let old := rd s P02.NEIGHBOUR_U
  wr (neighFld p) a
    (if p = .u ∧ old ≠ a then { s with chain := { s.chain with oldNeighU := old } } else s)

/-- What every received link frame, of `n` bytes, does: it keeps the port alive, names the neighbour, restates the credit and releases
frames up to LACK (03 R85, R89, Table 03-2). -/
def hear (p : Port) (n : Nat) (c : LinkCtl) (s0 : State) : State :=
  let s := heardOn p n s0
  let x := portOf s p
  let left := x.outst.filter (fun f => !ackedBy c.lack f.1)
  let moved := left.length != x.outst.length
  let y := { x with neigh := c.addr, credit := c.credit, outst := left,
                    retries := if moved then 0 else x.retries,
                    lastProgress := if moved then s.beat.ticks else x.lastProgress }
  pump p (setNeigh p c.addr (setPort p y s))

/-- A port goes down: frames outstanding are kept, the change is logged (03 R85, R91). -/
def portDown (p : Port) (s : State) : State :=
  let x := portOf s p
  let y := { x with st := .down, outst := [], heldFrames := x.heldFrames ++ x.outst.map Prod.snd,
                    downAt := s.beat.ticks, downs := satAdd 16 x.downs 1, nacked := false, retries := 0 }
  logEv evLinkDown (leB 1 (portNo p)) (wr (upFld p) 0 (setPort p y s))

/-- One outstanding frame sent again. -/
def resendFrame (p : Port) (f : Nat × LinkPkt) (s : State) : State :=
  let x := portOf s p
  let s1 := sentOn p (frameBytes f.2.pkt) (setPort p { x with retrans := satAdd 32 x.retrans 1 } s)
  count 0x0D (portNo p) 1 (emit (.linkData p f.1 x.rxNext (ownCredit s p) f.2.pkt) s1)

/-- Go-back-N from the oldest unacknowledged frame, or the port down after LINK_RETRY_MAX without progress; LINK_RTO runs anew
(03 R90). -/
def retransmit (p : Port) (s : State) : State :=
  let x := portOf s p
  if x.outst.isEmpty then s
  else if x.retries ≥ rd s P02.LINK_RETRY_MAX then portDown p s
  else x.outst.foldl (fun t f => resendFrame p f t)
    (setPort p { x with retries := x.retries + 1, lastProgress := s.beat.ticks } s)

/-- LINK_RTO has passed since the last progress in LACK: the model's clock counts beats of 125 µs, so within the running beat
(03 R90; assumption log 114). -/
def rtoPassed (s : State) (x : PortState) : Bool :=
  decide (rd s P02.LINK_RTO ≤ (s.beat.ticks + 1 - x.lastProgress) * 125)

/-- An acknowledgement frame (03 R89). -/
def execLinkAck (p : Port) (c : LinkCtl) (s : State) : Host.Outcome State Fault Refusal :=
  .next (if (portOf s p).st = .up then hear p ctlBytes c s else s)

/-- A negative acknowledgement (03 R90). -/
def execLinkNack (p : Port) (c : LinkCtl) (s : State) : Host.Outcome State Fault Refusal :=
  .next (if (portOf s p).st = .up then retransmit p (hear p ctlBytes c s) else s)

/-- LINK_RTO without progress (03 R90). -/
def execLinkRtoExpire (p : Port) (s : State) : Host.Outcome State Fault Refusal :=
  .next (if (portOf s p).st = .up ∧ rtoPassed s (portOf s p) = true then retransmit p s else s)

/-- The neighbour address check: an address that does not follow the upstream neighbour's is cleared at the next beat
boundary, and the old and new neighbour addresses are logged; the old one is NEIGHBOUR_U as it stood before the first frame
that carried the new one (03 R98). -/
def checkNeighbour (u : Nat) (s : State) : State :=
  if u ≠ 0 ∧ ownAddr s ≠ 0 ∧ ownAddr s ≠ hostAs0 u + 1 ∧ s.chain.nextAddr ≠ some 0 then
    logEv evAddrReleased (leB 1 s.chain.oldNeighU ++ leB 1 u) { s with chain := { s.chain with nextAddr := some 0 } }
  else s

/-- A probe received: it keeps the port alive and names the neighbour; an end that still waits for the neighbour's frame of KIND
0x05 sends its own again, so that one lost on the way ends nothing (03 R91, R98; DESIGN CHOICE, log 114). -/
def execLinkProbe (p : Port) (c : LinkCtl) (s : State) : Host.Outcome State Fault Refusal :=
  let t0 := hear p ctlBytes c s
  let t := if (portOf s p).st = .resync then sendCtl p 5 t0 else t0
  .next (if p = .u then checkNeighbour c.addr t else t)

/-- A probe sent when the port sent nothing for PROBE_MS (03 R92). -/
def execLinkProbeSend (p : Port) (s : State) : Host.Outcome State Fault Refusal :=
  .next (if passed s (portOf s p).lastTx (msBeats (rd s P02.PROBE_MS)) then sendCtl p 4 s else s)

/-- A port comes up on its first frame or probe: it sends its resynchronisation frame, and the change is logged; frames kept
past LINK_HOLD are discarded and counted (03 R85, R91, R99). -/
def execLinkUp (p : Port) (addr : Nat) (s : State) : Host.Outcome State Fault Refusal :=
  let x := portOf s p
  if x.st = .down then
    let kept := if passed s x.downAt (msBeats (rd s P02.LINK_HOLD)) then [] else x.heldFrames
    let y := { x with st := .resync, txNext := 0, rxNext := 0, credit := 0, lastRx := s.beat.ticks, neigh := addr,
                      nacked := false, retries := 0, heldFrames := kept,
                      holdDrops := x.holdDrops + (x.heldFrames.length - kept.length) }
    .next (sendCtl p 5 (logEv evLinkUp (leB 1 (portNo p)) (setNeigh p addr (wr (upFld p) 1 (setPort p y s)))))
  else .next s

/-- A resynchronisation frame: LSEQ and LACK restart from 0, CREDIT is restated, and the frames kept are sent again under new
link sequences; a port that was up already sends its own once more (03 R91). -/
def execLinkResync (p : Port) (c : LinkCtl) (s : State) : Host.Outcome State Fault Refusal :=
  let x := portOf s p
  if x.st = .down then .next s
  else
    let y := { x with st := .up, txNext := 0, rxNext := 0, credit := c.credit, neigh := c.addr, outst := [],
                      queue := x.heldFrames ++ x.outst.map Prod.snd ++ x.queue, heldFrames := [], nacked := false,
                      retries := 0, lastProgress := s.beat.ticks }
    let t := setNeigh p c.addr (heardOn p ctlBytes (setPort p y s))
    .next (pump p (if x.st = .up then sendCtl p 5 t else t))

/-- Frames kept of a port that stayed down for LINK_HOLD are discarded and counted (03 R91). -/
def execLinkHoldExpire (p : Port) (s : State) : Host.Outcome State Fault Refusal :=
  let x := portOf s p
  if x.st = .down ∧ passed s x.downAt (msBeats (rd s P02.LINK_HOLD)) = true then
    .next (setPort p { x with heldFrames := [], holdDrops := x.holdDrops + x.heldFrames.length } s)
  else .next s

/-- A port without block lock, or silent for LINK_DEAD, goes down (03 R85). -/
def execLinkDown (p : Port) (lockLost : Bool) (s : State) : Host.Outcome State Fault Refusal :=
  let x := portOf s p
  if x.st ≠ .down ∧ (lockLost || passed s x.lastRx (msBeats (rd s P02.LINK_DEAD))) = true then .next (portDown p s)
  else .next s

/-- A PAUSE frame is dropped and counted (03 R84). -/
def execPauseFrameDrop (p : Port) (s : State) : Host.Outcome State Fault Refusal :=
  let x := portOf s p
  .next (heardOn p 64 (setPort p { x with pauses := x.pauses + 1 } s))

/-! A packet for this chip (02 R47 to R55). -/

/-- A held reply sent again; a chip that releases nothing but held replies is a SHADOW (02 R50; 15 Table 15-1). -/
def sendHeld (x : Held) (s : State) : State :=
  if silent s || [5, 6, 7].contains (pairState s) then s
  else sendReplyNow x.hdr x.status x.detail x.data s

/-- A command admitted: it takes its sequence and is open until its final reply (02 R50, R52 to R54). -/
def admitCmd (h : Hdr) (p : List Byte) (s : State) : State :=
  let n := sessOf h
  let s1 := setSess n { sessAt s n with n := (h.seq + 1) % 2 ^ 32 } s
  { s1 with cmd := { s1.cmd with openC := s1.cmd.openC ++ [⟨h, cmdCrc h p, p, s.beat.ticks, s.beat.ticks⟩] } }

/-- Buffered successors admitted in turn (02 Table 02-3). -/
def admitEarly (n : Nat) : Nat → State → State
  | 0, s => s
  | k + 1, s =>
    let x := sessAt s n
    match x.early.find? (fun e => e.hdr.seq == x.n) with
    | some e =>
      admitEarly n k (admitCmd e.hdr e.data
        (setSess n { x with early := x.early.filter (fun z => z.hdr.seq ≠ e.hdr.seq) } s))
    | none => s

/-- A retry of a sequence whose reply is held: the held reply, or SEQ_CONFLICT when the command differs (02 R50, R54). -/
def answerHeld (h : Hdr) (p : List Byte) (x : Held) (s : State) : State :=
  if cmdCrc h p = x.crc then sendHeld x s else sendReply h stSeqConflict 0 [] s

/-- A retry of a command that is still open: PENDING, or SEQ_CONFLICT when the command differs (02 R54, Table 02-3). -/
def answerOpen (h : Hdr) (p : List Byte) (o : OpenCmd) (s : State) : State :=
  if cmdCrc h p = o.crc then sendReply h stPending 0xFFFF [] s else sendReply h stSeqConflict 0 [] s

/-- The session rules (02 R50 to R56). -/
def sessionRules (h : Hdr) (p : List Byte) (s : State) : State :=
  let n := sessOf h
  let x := sessAt s n
  let kept := x.held.find? (fun z => z.seq == h.seq)
  let pending := s.cmd.openC.find? (fun o => sessOf o.hdr == n && o.hdr.seq == h.seq)
  match x.st with
  | .closed =>
    match kept with
    | some z => answerHeld h p z s
    | none =>
      if h.opcode ≠ 0x01 then sendReply h stSessionClosed 0 [] s
      else match pending with
        | some o => answerOpen h p o s
        | none => if h.seq = leAt p 0 4 then admitCmd h p (openAdmit h s) else sendReply h stSeqConflict 0 [] s
  | .resume =>
    match x.held.find? (fun z => z.seq == h.seq && z.durable) with
    | some z => answerHeld h p z s
    | none => sendReply h stResumeRequired 0 [] s
  | .opened =>
    let d := seqDist x.n h.seq
    if h.opcode = 0x01 ∧ d < 2 ^ 32 - 256 then sendReply h stSeqConflict 0 [] s
    else if d = 0 then admitEarly n 31 (admitCmd h p s)
    else if d ≤ 31 then
      if x.early.any (fun e => e.hdr.seq == h.seq) then
        { s with cmd := { s.cmd with dropRepeat := s.cmd.dropRepeat + 1 } }
      else setSess n { x with early := x.early ++ [⟨h, p, s.beat.ticks⟩] } s
    else if 2 ^ 32 - 256 ≤ d then
      match kept with
      | some z => answerHeld h p z s
      | none =>
        match pending with
        | some o => answerOpen h p o s
        | none => if h.opcode = 0x01 then sendReply h stSeqConflict 0 [] s else sendReply h stReplyExpired 0 [] s
    else sendReply h stSeqOutOfWindow 0 [] s

/-- The first of the checks 2 to 6 of R47 that a packet fails: its number and status. -/
def packetFault (h : Hdr) (pkt : List Byte) : Option (Nat × Nat) :=
  if h.len > 8192 ∨ pkt.length < 20 + h.len then some (2, stBadLength)
  else if leAt pkt (16 + h.len) 4 ≠ crc32c (pkt.take (16 + h.len)) then some (3, stBadCrc)
  else if h.verFlags / 16 ≠ 1 then some (4, stBadVersion)
  else if (opRow h.opcode).isNone ∨ bitAt h.verFlags 1 = true then some (5, stBadOpcode)
  else if fnAllowed h.opcode (fnOf h) = false then some (6, stBadFunction)
  else none

/-- A broadcast dropped, counted under the check it failed; 7 is the opcode filter (02 R48). -/
def dropBroadcast (check : Nat) (s : State) : State :=
  { s with cmd := { s.cmd with dropBroadcast := assocMod check 0 (fun n => n + 1) s.cmd.dropBroadcast } }

/-- A packet the chip executes: the checks of R47, the rules of broadcasts, then admission under the session rules. An
admitted command then executes as its own row; commands exempt from the session rules execute as their row at once
(assumption log 8). -/
def takePacket (pkt : List Byte) (s : State) : State :=
  let h := parseHdr pkt
  let p := sliceB pkt 16 h.len
  let s := if bitAt h.verFlags 2 then { s with cmd := { s.cmd with retries := s.cmd.retries + 1 } } else s
  match startGate s h.opcode (fnOf h) false with
  | .noAnswer => s
  | _ =>
    match packetFault h pkt with
    | some (k, st) => if h.dest = 0x3F then dropBroadcast k s else sendReply h st 0 [] s
    | none =>
      if h.dest = 0x3F then (if broadcastSet h.opcode then s else dropBroadcast 7 s)
      else if exempt s h p || h.opcode == 0x37 then s
      else sessionRules h p s

/-- A packet dropped by the forwarding rules is counted (03 Table 03-3). -/
def dropFwd (s : State) : State := { s with chain := { s.chain with fwdDrops := s.chain.fwdDrops + 1 } }

/-- A packet sent on by port D, dropped and counted while D is down; Table 03-3 says so of DEST 0x01 to 0x20, and the model does
the same with DEST 0x00 (03 R93; DESIGN CHOICE, log 114). -/
def fwdDown (pkt : List Byte) (s : State) : State := if s.chain.d.st = .down then dropFwd s else linkForward .d pkt s

/-- A packet to this chip: a PRIMARY copies it to the shadow and posts it two boundaries later, a SHADOW answers
DENIED_STATE; local packets and those of other chips are taken at once (15 R490). -/
def toThisChip (pkt : List Byte) (s : State) : State :=
  let h := parseHdr pkt
  if localCmd s h then takePacket pkt s
  else if pairState s = 2 then
    linkSend (pairPort s) pkt { s with pair := { s.pair with inputs := s.pair.inputs ++ [(s.beat.number, pkt)] } }
  else if pairState s = 3 then (if silent s then s else sendReplyNow h stDeniedState 0 [] s)
  else takePacket pkt s

/-- A copy that the primary sent to its shadow (15 R490). -/
def isCopy (s : State) (p : Port) (h : Hdr) : Bool := pairState s == 3 && p == pairPort s && h.dest == rd s P50.PARTNER_ADDR

/-- Forwarding by DEST (03 Table 03-3); a shadow keeps the copies from its primary (15 R490). -/
def forward (p : Port) (pkt : List Byte) (s : State) : State :=
  let h := parseHdr pkt
  let a := ownAddr s
  if isCopy s p h then { s with pair := { s.pair with copies := s.pair.copies ++ [pkt] } }
  else if a = 0 then
    (if p = .u ∧ (h.dest = 0 ∨ h.dest = 0x3F) ∧ h.opcode = 0x10 then takePacket pkt s else dropFwd s)
  else match p with
    | .u =>
      if h.dest = a then toThisChip pkt s
      else if h.dest = 0 then fwdDown pkt s
      else if h.dest = 0x3F then (fun t => if t.chain.d.st = .down then t else linkForward .d pkt t) (takePacket pkt s)
      else if h.dest ≤ 0x20 ∧ h.dest > a then fwdDown pkt s
      else dropFwd s
    | .d => if h.dest = 0x3E then linkForward .u pkt s else dropFwd s

/-- A received link data frame: FCS, EtherType, link sequence, acknowledgement, then forwarding. A frame of 0x88F7 is an IEEE 1588
message, which has rows of its own; it keeps the port alive (02 R47; 03 R85, R86, R88, R93). -/
def execLinkDataFrame (p : Port) (f : LinkFrame) (s : State) : Host.Outcome State Fault Refusal :=
  let x := portOf s p
  if s.pwr.mode = .off ∨ s.pwr.mode = .dormant then .next s
  else if f.fcsOk = false then .next (setPort p { x with fcsErr := satAdd 16 x.fcsErr 1 } s)
  else if f.etherType = 0x88F7 then .next (heardOn p (frameBytes f.packet) s)
  else if f.etherType ≠ rd s P02.ETHERTYPE then .next (heardOn p (frameBytes f.packet) (setPort p { x with etherDrops := x.etherDrops + 1 } s))
  else if x.st ≠ .up then .next (heardOn p (frameBytes f.packet) s)
  else
    let s1 := hear p (frameBytes f.packet) ⟨f.lack, f.credit, f.addr⟩ s
    let y := portOf s1 p
    if f.lseq = y.rxNext then
      let s2 := setPort p { y with rxNext := (y.rxNext + 1) % 65536, recv := y.recv + 1, nacked := false } s1
      .next (forward p f.packet (sendCtl p 2 s2))
    else if (y.rxNext + 65536 - f.lseq % 65536) % 65536 ≤ 32768 then .next (sendCtl p 2 s1)
    else if y.nacked then .next s1
    else .next (setPort p { portOf (sendCtl p 3 s1) p with nacked := true } (sendCtl p 3 s1))

/-! Enumeration and link status (03 R96 to R98). -/

/-- The reply data of ENUMERATE; a port D that is still resynchronising reads down (03 Table 03-4; DESIGN CHOICE, log 114). -/
def enumData (addr : Nat) (s : State) : List Byte :=
  leB 1 addr ++ leB 1 (b2n (s.chain.d.st == .up)) ++ leB 1 (rd s P02.NEIGHBOUR_D) ++ leB 1 (rd s P01.ROLE_ACTIVE)
    ++ leB 4 (Config.dieSerial % 2 ^ 32)

/-- ENUMERATE by DEST and payload byte 0 (03 R96, R97). -/
def enumBody (h : Hdr) (p : List Byte) (s : State) : Ans :=
  let v := byteAt p 0
  if h.dest = 0x3F then (if v = 0 then .done (enumData (ownAddr s) s) s else .fail stBadPayload 0)
  else if h.dest = 0 then
    if v = hostAs0 (rd s P02.NEIGHBOUR_U) + 1 ∧ v ≤ 0x20 then
      .done (enumData v s) { s with chain := { s.chain with nextAddr := some v } }
    else .fail stOutOfRange 0
  else if v = 0 ∨ v = ownAddr s then .done (enumData (ownAddr s) s) s
  else .fail stOutOfRange 0

/-- ENUMERATE; one sent to DEST 0x00 reaches only a chip without an address (03 R96, R97). -/
def execEnumerate (h : Hdr) (p : List Byte) (s : State) : Host.Outcome State Fault Refusal :=
  if h.dest = 0 ∧ ownAddr s ≠ 0 then .next s else .next (runCmd h p false (fun t => enumBody h p t) s)

/-- The mean of the last valid link delays, ns (03 R108). -/
def meanDelay (x : PortState) : Nat := if x.delays.isEmpty then 0 else x.delays.sum / x.delays.length

/-- The code of a port state (03 Table 03-5). -/
def portCode : PortSt → Nat
  | .down => 0
  | .resync => 1
  | .up => 2

/-- The 32 bytes of one port in GET_LINK_STATUS (03 Table 03-5). -/
def linkStatus (x : PortState) : List Byte :=
  leB 1 (portCode x.st) ++ leB 1 x.neigh ++ leB 2 x.credit ++ leB 4 (meanDelay x) ++ leB 8 x.sent ++ leB 8 x.recv
    ++ leB 4 x.retrans ++ leB 2 x.fcsErr ++ leB 2 x.downs

/-- GET_LINK_STATUS (03 R98). -/
def execGetLinkStatus (h : Hdr) (p : List Byte) (s : State) : Host.Outcome State Fault Refusal :=
  .next (runCmd h p false (fun t => .done (linkStatus t.chain.u ++ linkStatus t.chain.d) t) s)

/-! Peer delay and forwarding of IEEE 1588 messages (03 R106, R108). -/

/-- Picoseconds in 2^-16 ns. -/
def psU (n : Int) : Int := Int.tdiv (n * 65536) 1000

/-- The correction of a reception on a port: less 58.2 ns, plus the board adjustment (03 R104, Table 03-7; log 114). -/
def rxCorr (s : State) : Port → Int
  | .u => -3814195 + psU (rdS s P03.U_RX_ADJ 0)
  | .d => -3814195 + psU (rdS s P03.D_RX_ADJ 0)

/-- The correction of a departure on a port: plus 41.6 ns and the board adjustment (03 R104, Table 03-7; log 114). -/
def txCorr (s : State) : Port → Int
  | .u => 2726298 + psU (rdS s P03.U_TX_ADJ 0)
  | .d => 2726298 + psU (rdS s P03.D_TX_ADJ 0)

/-- Pdelay_Req sent once per second (03 R108). -/
def execPdelayReqSend (p : Port) (s : State) : Host.Outcome State Fault Refusal :=
  let x := portOf s p
  let due := match x.lastPdelay with
    | some t => passed s t (secBeats 1)
    | none => true
  .next (if x.st = .down ∨ due = false then s
    else emit (.pdelayReq p) (sentOn p (ptpBytes 54) (setPort p { x with lastPdelay := some s.beat.ticks } s)))

/-- A peer-delay message of another domain is dropped and counted (03 R106). -/
def otherDomain (s : State) : State := { s with plumb := { s.plumb with otherDomain := s.plumb.otherDomain + 1 } }

/-- A Pdelay_Req answered with its turnaround time in the correctionField, both timestamps corrected: `turnaround` is from
reception to departure as the port stamps them, 2^-16 ns (03 R104, R108). -/
def execPdelayReq (p : Port) (domain : Nat) (turnaround : Int) (s : State) : Host.Outcome State Fault Refusal :=
  .next (if domain ≠ rd s P03.PTP_DOMAIN then otherDomain (heardOn p (ptpBytes 54) s)
    else emit (.pdelayResp p (turnaround + txCorr s p - rxCorr s p)) (sentOn p (ptpBytes 54) (heardOn p (ptpBytes 54) s)))

/-- The link delay an exchange shows, ns: half of what request and response took without the peer's turnaround, with the port's
own timestamps corrected (03 R104, R108). -/
def exchangeDelay (s : State) (p : Port) (trip : Int) : Int := (trip + rxCorr s p - txCorr s p) / 2 / 65536

/-- A Pdelay_Resp: `trip` is from the request's departure to the response's reception as the port stamps them, less the peer's
turnaround, 2^-16 ns. Its delay joins the last 8 valid ones, or is rejected and counted above 10 µs or below 0 (03 R108). -/
def execPdelayResp (p : Port) (domain : Nat) (trip : Int) (s : State) : Host.Outcome State Fault Refusal :=
  let t := heardOn p (ptpBytes 54) s
  let x := portOf t p
  let d := exchangeDelay s p trip
  if domain ≠ rd s P03.PTP_DOMAIN then .next (otherDomain t)
  else if d < 0 ∨ 10000 < d then .next (setPort p { x with delayRej := x.delayRej + 1 } t)
  else
    let l := x.delays ++ [d.toNat]
    .next (setPort p { x with delays := l.drop (l.length - 8) } t)

/-- Announce and Signaling messages from U go to D unchanged (03 R106). -/
def execAnnounceForward (message : List Byte) (s : State) : Host.Outcome State Fault Refusal :=
  let n := ptpBytes message.length
  .next (if s.chain.d.st = .down then heardOn .u n s else emit (.ptpForward message) (sentOn .d n (heardOn .u n s)))

end Sys2Proof.Machine
end

