-- ==== Sys2Proof/Machine/Plumb.lean ====
section
/-! DEFINITION. Plumb (03 R102 to R122): the chain-time servo, the beat number, legal and slot time, GET_TIME and the
PPS pins. -/
namespace Sys2Proof.Machine

/-- One nanosecond in the units of chain time, 2^-16 ns. -/
def nsU : Int := 65536

/-- Seconds of 48 bits from the wire, widened to the value nearest the chip's own chain-time seconds (03 R103). -/
def widen (c64 s48 : Nat) : Nat :=
  let cand := c64 - c64 % 2 ^ 48 + s48
  let c1 := if cand > c64 + 2 ^ 47 then cand - 2 ^ 48 else cand
  if c1 + 2 ^ 47 < c64 then c1 + 2 ^ 48 else c1

/-- The servo's rate limit, ppb (03 R110). -/
def rateLimit : Int := 200000

/-- The integrator clamped so that its own share stays within the rate limit (03 R110). -/
def clampInteg (ki : Nat) (x : Int) : Int :=
  if ki = 0 then x else clampI (-(rateLimit * 256 / ki)) (rateLimit * 256 / ki) x

/-- The servo's rate; the division truncates (03 R110; assumption log 9). -/
def servoRate (kp ki : Nat) (theta integ : Int) : Int :=
  clampI (-rateLimit) rateLimit (Int.tdiv (-(kp * theta + ki * integ)) 256)

/-- One offset taken by the servo: integrator, rate and the read-only fields that report them (03 R110, R124). -/
def servo (theta : Int) (s : State) : State :=
  let ki := rd s P03.SERVO_KI
  let integ := clampInteg ki (s.plumb.integ + theta)
  let rate := servoRate (rd s P03.SERVO_KP) ki theta integ
  wrS P03.RATE_PPB rate (wrS P03.OFFSET_NS (clampI (-(2 ^ 31 - 1)) (2 ^ 31 - 1) theta)
    { s with plumb := { s.plumb with integ := integ, rate := rate, theta := theta } })

/-- CHAIN_OFFSET_LARGE once per episode of offsets beyond 1 ms (03 R111). -/
def offsetEpisode (theta : Int) (s : State) : State :=
  let big := decide (theta.natAbs > 1000000)
  let t := { s with plumb := { s.plumb with largeEp := big } }
  if big && !s.plumb.largeEp then logEv evChainOffsetLarge (leB 8 (ofS 64 theta)) t else t

/-- A time of the battery counter: whole units of 1/32,768 s (03 R119). -/
def battUnits (ns : Int) : Int := ns * 32768 / 1000000000 * 1000000000 / 32768

/-- Legal and slot time become offsets from chain time once Plumb is LOCKED or FREE (03 R119). -/
def establish (s : State) : State :=
  if s.plumb.est then s
  else { s with plumb := { s.plumb with est := true, deltaL := s.batt.legal - chainNs s,
                                        deltaS := s.batt.slot - chainNs s } }

/-- The condition of R26 that TRIM names. -/
def trimBits (s : State) : Bool := rdB s P04.TRIM_THERMAL || rdB s P04.TRIM_HOLDUP

/-- RUN or TRIM entered once start-up is complete and the beat number is loaded; RESET_DONE then names the cause of the
reset (03 R112; 17 R523, R528). -/
def tryRun (s : State) : State :=
  if s.pwr.mode = .start ∧ 9 ≤ s.pwr.step ∧ s.pwr.held = false ∧ s.beat.loaded = true then
    logEv evResetDone (leB 1 s.pwr.cause)
      { s with pwr := { s.pwr with mode := if trimBits s then .trim else .run, step := 10 } }
  else s

/-- The open ledger group closes; a group without entries is not kept (01 R13; 06 R192). -/
def closeOpen (s : State) : State :=
  if s.ledger.openE.isEmpty then takeWaiting s.ledger.waiting s
  else
    let t := { s with ledger := { s.ledger with toSeal := s.ledger.toSeal ++ [s.ledger.openE], openE := [],
                                                openSlots := 0, resGroup := false } }
    takeWaiting t.ledger.waiting t

/-- The beat number loaded once from chain time: the beat whose instant is nearest the running beat's start; the open
ledger group closes (01 R10, R562; 03 R112; assumption log 10). -/
def loadBeat (s : State) : State :=
  if s.beat.loaded then s
  else
    let n := ((s.plumb.chain + 62500 * nsU) / (125000 * nsU)).toNat
    tryRun (closeOpen { s with beat := { s.beat with loaded := true, number := n,
                                                     err := s.plumb.chain - n * 125000 * nsU } })

/-- LEGAL_DIVERGED and SLOT_DIVERGED kept, each logged when it becomes set (03 R115). -/
def checkDiverged (s : State) : State :=
  let lim := rd s P03.ADJ_LIMIT * 1000000000
  let l := decide (s.plumb.deltaL.natAbs > lim)
  let d := decide (s.plumb.deltaS.natAbs > lim)
  let s1 := if l && !rdB s P03.LEGAL_DIVERGED then
    logEv evLegalDiverged (leB 8 (ofS 64 s.plumb.deltaL)) (wrB P03.LEGAL_DIVERGED true s)
    else wrB P03.LEGAL_DIVERGED l s
  if d && !rdB s P03.SLOT_DIVERGED then logEv evSlotDiverged [] (wrB P03.SLOT_DIVERGED true s1)
  else wrB P03.SLOT_DIVERGED d s1

/-- A step of slot time by `d` ns: every sleepy meter's offset is 0 and its guard GMAX until it is heard; what the timers
hold in slot time moves with it (08 R288). -/
def radioSlotStep (d : Int) (s : State) : State :=
  let ch := fun (c : RadChan) => { c with
    rx := c.rx.map (fun r => { r with slot := r.slot + d }), rxUntil := c.rxUntil + d, txUntil := c.txUntil + d,
    txs := c.txs.map (fun x => (x.1 + d, x.2 + d)), rdvUntil := c.rdvUntil + d, upSince := c.upSince + d,
    beaconUntil := c.beaconUntil + d,
    parent := c.parent.map (fun p => { p with lastBeacon := p.lastBeacon + d, expect := p.expect + d }) }
  { s with radio := { s.radio with
    chans := s.radio.chans.map ch, quietAt := s.radio.quietAt + d,
    txq := s.radio.txq.map (fun x => { x with readyTo := x.readyTo.map (fun t => t + d) }),
    neigh := s.radio.neigh.map (fun n =>
      if n.st = 1 then { n with frameEnd := n.frameEnd + d }
      else { n with offset := 0, wide := true, frameEnd := n.frameEnd + d }) } }

/-- The step of slot time, and what it means to sleepy meters (03 R117; 08 R288). -/
def stepSlot (off : Int) (s : State) : State :=
  let t := checkDiverged (wr P03.SLOT_STEPPED 1
    { establish s with plumb := { (establish s).plumb with deltaS := off, slotDue := none, slewS := 0 } })
  radioSlotStep (slotNs t - slotNs s) t

/-- A step of slot time that was accepted only by replay waits for Plumb (03 R117; assumption log 32). -/
def slotStepDue (s : State) : State :=
  match s.plumb.slotDue with
  | some off => stepSlot off s
  | none => s

/-- Plumb reaches LOCKED or FREE (03 R112, R119). -/
def plumbReached (code : Nat) (s : State) : State := loadBeat (slotStepDue (establish (wr P03.PLUMB_STATE code s)))

/-- The first Sync out of UNLOCKED steps chain time to t_master and serves the step alone (03 R111). -/
def stepChain (off : Int) (s : State) : State :=
  wr P03.PLUMB_STATE 1
    { s with plumb := { s.plumb with chain := s.plumb.chain - off, stepped := true, integ := 0, rate := 0,
                                     lockRun := 0 } }

/-- Lock counting of a Sync in LOCKING: LOCKED after 16 consecutive offsets within LOCK_NS (03 Table 03-8). -/
def lockCount (theta : Int) (s : State) : State :=
  let run := if theta.natAbs ≤ rd s P03.LOCK_NS then s.plumb.lockRun + 1 else 0
  let t := { s with plumb := { s.plumb with lockRun := run } }
  if 16 ≤ run then plumbReached 2 t else t

/-- The servo and the Plumb state after an accepted Sync of offset `off`, in 2^-16 ns; θ is cut to whole ns toward zero (03
R110, R111, R124; DESIGN CHOICE, log 9). -/
def takeOffset (off : Int) (s : State) : State :=
  let theta := Int.tdiv off 65536
  let s0 := { s with plumb := { s.plumb with lastSync := s.beat.ticks } }
  match rd s P03.PLUMB_STATE with
  | 0 => stepChain off s0
  | 2 => offsetEpisode theta (servo theta s0)
  | 1 => lockCount theta (offsetEpisode theta (servo theta s0))
  | _ => lockCount theta (offsetEpisode theta (servo theta
      (wr P03.PLUMB_STATE 1 { s0 with plumb := { s0.plumb with lockRun := 0 } })))

/-- The residence time of a Sync, from U receive to D transmit with both timestamps corrected, 2^-16 ns (03 R104, R109). -/
def residence (m : SyncMsg) (s : State) : Int := m.residence + txCorr s .d - rxCorr s .u

/-- A Sync forwarded on D with residence time and link delay added, or dropped and counted when it would leave more than
1 ms after it arrived (03 R109). -/
def forwardSync (m : SyncMsg) (s : State) : State :=
  if s.chain.d.st = .down then s
  else if residence m s > 1000000 * 65536 then { s with plumb := { s.plumb with lateSync := s.plumb.lateSync + 1 } }
  else emit (.sync (m.corr + residence m s + meanDelay s.chain.u * 65536)) (sentOn .d (ptpBytes 44) s)

/-- The reception of a Sync on chain time, as the port stamps it and corrected (03 R104). -/
def syncRx (m : SyncMsg) (s : State) : Int := s.plumb.chain + m.rxNs * nsU + rxCorr s .u

/-- t_master of a Sync (03 R110). -/
def syncMaster (m : SyncMsg) (s : State) : Int :=
  (widen (chainSec s) m.originSec * 1000000000 + m.originNs + meanDelay s.chain.u : Nat) * nsU + m.corr

/-- A Sync received on U: one of another domain is forwarded and counted, a two-step one dropped and counted, any other
forwarded and taken by the servo. A two-step Sync of another domain is forwarded: the domain is tested first (03 R106 to R111;
DESIGN CHOICE, log 114). -/
def execSync (m : SyncMsg) (s0 : State) : Host.Outcome State Fault Refusal :=
  let s := heardOn .u (ptpBytes 44) s0
  if m.domain ≠ rd s P03.PTP_DOMAIN then .next (otherDomain (forwardSync m s))
  else if m.twoStep then .next { s with plumb := { s.plumb with twoStep := s.plumb.twoStep + 1 } }
  else .next (takeOffset (syncRx m s - syncMaster m s) (forwardSync m s))

/-- SYNC_LOSS Sync intervals of 2^SYNC_LOG s in beats (03 Table 03-8). -/
def syncLossBeats (s : State) : Nat := rd s P03.SYNC_LOSS * 8000 / 2 ^ (-rdS s P03.SYNC_LOG 0).toNat

/-- No Sync for SYNC_LOSS intervals while LOCKED: HOLDOVER at the last integral rate (03 Table 03-8). -/
def execSyncLossExpire (s : State) : Host.Outcome State Fault Refusal :=
  if locked s = true ∧ passed s s.plumb.lastSync (syncLossBeats s) = true then
    let rate := servoRate 0 (rd s P03.SERVO_KI) 0 s.plumb.integ
    .next (wrS P03.RATE_PPB rate (wr P03.PLUMB_STATE 3 { s with plumb := { s.plumb with rate := rate } }))
  else .next s

/-- START_WAIT without Sync and PLUMB_FREE set: chain time loaded once from legal time, FREE (03 Table 03-8, R111). -/
def execStartWaitExpire (s : State) : Host.Outcome State Fault Refusal :=
  if rd s P03.PLUMB_STATE = 0 ∧ rdB s P03.PLUMB_FREE = true
      ∧ passed s s.plumb.startAt (secBeats (rd s P03.START_WAIT)) = true then
    .next (plumbReached 4 { s with plumb := { s.plumb with chain := legalNs s * nsU, stepped := true, integ := 0,
                                                           rate := 0 } })
  else .next s

/-! Legal and slot time (03 R114 to R117). -/

/-- The step of legal time: Δ_L becomes the offset given, LEGAL_COMMISSIONED is set, LEGAL_INVALID and LEGAL_DIVERGED
clear, and the times just before and after are logged (03 R116). -/
def stepLegal (off : Int) (s : State) : State :=
  let before := legalSec s
  let t := wr P03.LEGAL_COMMISSIONED 1 (wr P03.LEGAL_INVALID 0 (wr P03.LEGAL_DIVERGED 0
    { establish s with plumb := { (establish s).plumb with deltaL := off, legalDue := none, slewL := 0 } }))
  checkDiverged (logEv evLegalTimeStepped (leB 5 before ++ leB 5 (legalSec t)) t)

/-- The fraction of a nanosecond of chain time, which an offset in whole ns leaves as it is (03 R102). -/
def onScale (s : State) (ns : Int) : Int := ns * nsU + s.plumb.chain % nsU

/-- The 32 bytes of reply data of SET_LEGAL_TIME and SET_SLOT_TIME: the time just before and just after the step, as they stand
when the command executes (03 Table 03-9; DESIGN CHOICE, log 114: the reply is recorded before the boundary of the step). -/
def stepData (s : State) (before after : Int) : List Byte :=
  stamp (onScale s before) ++ zeros 2 ++ stamp (onScale s after) ++ zeros 2

/-- The new offset of SET_LEGAL_TIME and SET_SLOT_TIME (03 Table 03-9). -/
def newOffset (p : List Byte) : Int := toS 64 (leAt p 0 8)

/-- SET_LEGAL_TIME: legal authority, then one of the three cases in which legal time may be stepped (03 R116). -/
def legalTimeBody (p : List Byte) (c : Instr) (sigOk : Bool) (s : State) : Ans :=
  if authOk s (authCount p) sigOk = false then .fail stDeniedLegal 0
  else if rdB s P03.LEGAL_COMMISSIONED = true ∧ rdB s P03.LEGAL_DIVERGED = false ∧ rdB s P03.LEGAL_INVALID = false then
    .fail stDeniedState 0
  else .accept (stepData s (legalNs s) (chainNs s + newOffset p)) p { cmd := some c, args := [authCount p] } s

/-- SET_LEGAL_TIME (03 R116). -/
def execSetLegalTime (h : Hdr) (p : List Byte) (sigOk : Bool) (s : State) : Host.Outcome State Fault Refusal :=
  .next (runCmd h p true (fun t => legalTimeBody p (.setLegalTime h p sigOk) sigOk t) s)

/-- The effect of SET_LEGAL_TIME: the step waits for the first beat boundary after the reply is recorded; AUTH_COUNT is
stored (02 R69; 03 R116). -/
def effSetLegalTime (e : Eff) (s : State) : State :=
  wr P30.AUTH_COUNT (e.args.getD 0 0) { s with plumb := { s.plumb with legalDue := some (newOffset e.data) } }

/-- An effect steps slot time. -/
def isSlotStep (e : Eff) : Bool :=
  match e.cmd with
  | some (.setSlotTime _ _) => true
  | _ => false

/-- A step of slot time is recorded, or waits for its boundary or for Plumb: it is the one that R117 permits. -/
def slotStepOpen (s : State) : Bool :=
  s.plumb.slotDue.isSome || s.cmd.due.any isSlotStep || (unreleased s).any (fun e => match e.act with
    | .command _ _ _ _ _ eff => isSlotStep eff
    | _ => false)

/-- SET_SLOT_TIME steps slot time once (03 R117). -/
def execSetSlotTime (h : Hdr) (p : List Byte) (s : State) : Host.Outcome State Fault Refusal :=
  .next (runCmd h p true (fun t =>
    if rdB t P03.SLOT_STEPPED || slotStepOpen t then .fail stDeniedState 0
    else .accept (stepData t (slotNs t) (chainNs t + newOffset p)) p { cmd := some (.setSlotTime h p) } t) s)

/-- The effect of SET_SLOT_TIME; one that replay accepts waits until Plumb has locked again (03 R117; assumption log 32). -/
def effSetSlotTime (e : Eff) (s : State) : State :=
  if rdB s P03.SLOT_STEPPED then s
  else if s.plumb.est = true ∧ s.pwr.mode ≠ .start then stepSlot (newOffset e.data) s
  else { s with plumb := { s.plumb with slotDue := some (newOffset e.data) } }

/-- The flags of GET_TIME: page 0x03 bits 248 down to 243 from bit 5 down to bit 0 (03 R120). -/
def timeFlags (s : State) : Nat :=
  rd s P03.BEAT_DETACHED + 2 * rd s P03.LEGAL_DIVERGED + 4 * rd s P03.LEGAL_COMMISSIONED + 8 * rd s P03.LEGAL_INVALID
    + 16 * rd s P03.SLOT_STEPPED + 32 * rd s P03.SLOT_DIVERGED

/-- The 48 bytes of the GET_TIME reply (03 R120). -/
def timeData (s : State) : List Byte :=
  stamp s.plumb.chain ++ stamp (onScale s (legalNs s)) ++ stamp (onScale s (slotNs s)) ++ leB 1 (rd s P03.PLUMB_STATE)
    ++ leB 1 (timeFlags s) ++ leB 4 (ofS 32 (clampI (-(2 ^ 31 - 1)) (2 ^ 31 - 1) s.plumb.theta))

/-- GET_TIME (03 R120). -/
def execGetTime (h : Hdr) (p : List Byte) (s : State) : Host.Outcome State Fault Refusal :=
  .next (runCmd h p false (fun t => .done (timeData t) t) s)

/-! Beats on chain time (01 R9, R10; 03 R110, R113, R114). -/

/-- One fabric cycle of 600 MHz in 2^-16 ns: 109,226.67, counted as 109,227 (01 Table 01-1; assumption log 10). -/
def fabricCycle : Int := 109227

/-- The length of a beat under a trim, in 2^-16 ns of the reference clock (01 R9, R10). -/
def beatLen (trim : Int) : Int := 125000 * nsU + trim * fabricCycle

/-- Chain time, the battery counter and the beat number at the end of a beat: chain time advances at the reference rate
scaled by the servo's rate (03 R110). -/
def advanceBeat (s : State) : State :=
  let len := beatLen s.beat.trim
  let chain := s.plumb.chain + len + len * s.plumb.rate / 1000000000
  let n := s.beat.number + 1
  { s with
    plumb := { s.plumb with chain := chain }
    batt := { s.batt with legal := s.batt.legal + 125000, slot := s.batt.slot + 125000 }
    beat := if s.beat.loaded then { s.beat with number := n, ticks := s.beat.ticks + 1,
                                                err := chain - n * 125000 * nsU }
            else { s.beat with prov := s.beat.prov + 1, ticks := s.beat.ticks + 1 } }

/-- The trim of the next beat: whole fabric cycles toward chain time, at most 15 (01 R10; assumption log 10). -/
def trimFor (err : Int) : Int := clampI (-15) 15 (Int.tdiv (-err) fabricCycle)

/-- The beat detaches beyond ±62.5 µs, with the trim frozen, and reattaches within ±31.25 µs (03 R113). -/
def trimBeat (s : State) : State :=
  if s.beat.loaded = false then s
  else if rdB s P03.BEAT_DETACHED then
    (if s.beat.err.natAbs ≤ 31250 * 65536 then
      wr P03.BEAT_DETACHED 0 { s with beat := { s.beat with trim := trimFor s.beat.err } }
    else s)
  else if s.beat.err.natAbs > 62500 * 65536 then logEv evBeatDetached [] (wr P03.BEAT_DETACHED 1 s)
  else { s with beat := { s.beat with trim := trimFor s.beat.err } }

/-- An offset moved toward 0 by at most `move`, never past it (03 R114). -/
def toward0 (move d : Int) : Int := if d > 0 then max 0 (d - move) else min 0 (d + move)

/-- The slews of one beat while LOCKED; Δ_L stands still while LEGAL_DIVERGED is set. Movement below 1 ns is carried (03
R114, R115). -/
def slew (s : State) : State :=
  if locked s = false then s
  else
    let l := s.plumb.slewL + 125000 * (rd s P03.LEGAL_SLEW : Int)
    let d := s.plumb.slewS + 125000 * (rd s P03.SLOT_SLEW : Int)
    let moveL := if rdB s P03.LEGAL_DIVERGED then 0 else l / 1000000
    { s with plumb := { s.plumb with
        deltaL := toward0 moveL s.plumb.deltaL
        slewL := if rdB s P03.LEGAL_DIVERGED || s.plumb.deltaL == 0 then 0 else l % 1000000
        deltaS := toward0 (d / 1000000) s.plumb.deltaS
        slewS := if s.plumb.deltaS = 0 then 0 else d % 1000000 } }

/-! Pulses (03 R121, R122). -/

/-- The offset of an instant of chain time from the nearest whole second, ns. -/
def secOffset (ns : Int) : Int := if ns % 1000000000 ≤ 500000000 then ns % 1000000000 else ns % 1000000000 - 1000000000

/-- An edge on PPS_IN, `sinceBeat` fabric cycles after the beat boundary: reported, or rejected and counted beyond 1 ms; with
PPS_IN_DISC it drives the servo in HOLDOVER and FREE (03 R121). -/
def execPpsInEdge (sinceBeat : Nat) (s : State) : Host.Outcome State Fault Refusal :=
  if rdB s P03.PPS_IN_EN = false then .next s
  else
    let off := secOffset ((s.plumb.chain + sinceBeat * fabricCycle) / nsU)
    if off.natAbs > 1000000 then .next { s with plumb := { s.plumb with ppsRejected := s.plumb.ppsRejected + 1 } }
    else
      let t := wrS P03.PPS_IN_OFFSET off s
      .next (if rdB s P03.PPS_IN_DISC && (rd s P03.PLUMB_STATE == 3 || rd s P03.PLUMB_STATE == 4) then servo off t
             else t)

/-- PPS_OUT may be driven in this Plumb state (03 R122). -/
def ppsAllowed (s : State) : Bool :=
  rdB s P03.PPS_OUT_EN && (match rd s P03.PLUMB_STATE with
    | 2 => true
    | 4 => true
    | 3 => rdB s P03.PPS_OUT_FREE
    | _ => false)

/-- The timescale of PPS_OUT at the boundary of the running beat, 2^-16 ns (03 R122). -/
def ppsScale (s : State) : Int := if rdB s P03.PPS_OUT_LEGAL then onScale s (legalNs s) else s.plumb.chain

/-- A whole second of the pulse's timescale, shifted by PPS_OUT_ADJ, falls into the running beat (03 R122). -/
def ppsDue (s : State) : Bool :=
  let t := ppsScale s - psU (rdS s P03.PPS_OUT_ADJ 0)
  let sec := 1000000000 * nsU
  decide ((t - 1) / sec < (t + beatLen s.beat.trim - 1) / sec)

/-- PPS_OUT rises at a whole second and stays high for PPS_OUT_WIDTH (03 R122). -/
def execPpsOutPulse (s : State) : Host.Outcome State Fault Refusal :=
  if ppsAllowed s = true ∧ ppsDue s = true ∧ s.plumb.ppsAt ≠ some s.beat.ticks then
    .next { s with plumb := { s.plumb with ppsOut := true, ppsAt := some s.beat.ticks,
                                           ppsFall := s.beat.ticks + msBeats (rd s P03.PPS_OUT_WIDTH) } }
  else .next s

/-- PPS_OUT falls at the end of its width, and is low where it may not be driven (03 R122). -/
def ppsFalls (s : State) : State :=
  if s.plumb.ppsOut && (decide (s.plumb.ppsFall ≤ s.beat.ticks) || !ppsAllowed s) then
    { s with plumb := { s.plumb with ppsOut := false } }
  else s

end Sys2Proof.Machine
end

