-- ==== Sys2Proof/Machine/LedgerRows.lean ====
section
/-! DEFINITION. Ledger commits, export and queries (06): sealing, page copies, acceptance, the export streams,
LEDGER_QUERY and LEDGER_STATUS. -/
namespace Sys2Proof.Machine

/-! Entries as stored (06 R192, R194). -/

/-- BODY: the body slots of a control entry (06 R194). -/
def bodySlots (e : Entry) : Nat := if e.body.isEmpty then 0 else ceilDiv (e.body.length + 4) 32

/-- The bytes of a sealed entry: a reading record, or a head slot and body slots with their CRCs (06 Table 06-1, R194). -/
def entryBytes (e : Entry) : List Byte :=
  let h := (if e.kind = 0 then padTo 24 e.head else leB 1 e.kind ++ leB 1 (bodySlots e) ++ padTo 22 e.head)
    ++ leB 4 (e.lseq % 2 ^ 32)
  let b := padTo (32 * bodySlots e - 4) e.body
  h ++ leB 4 (crc32c h) ++ (if e.body.isEmpty then [] else b ++ leB 4 (crc32c b))

/-- The MIX of an entry; control entries that carry none give none (06 R205). -/
def entryMix (e : Entry) : Option Nat :=
  if e.kind = 0 then some (recMix e)
  else if e.kind = 3 ∨ e.kind = 8 then some (leAt e.head 0 3 % 2 ^ 20)
  else if e.kind = 4 ∧ byteAt e.head 0 ≠ 7 then some (leAt e.head 1 3 % 2 ^ 20)
  else if e.kind = 5 ∧ byteAt e.head 0 = 3 then some (leAt e.head 1 3 % 2 ^ 20)
  else if e.kind = 7 ∧ (byteAt e.head 0 = 2 ∨ byteAt e.head 0 = 3) then some (leAt e.head 3 3 % 2 ^ 20)
  else none

/-- The PATH nibble of a reading record's source field (04 Table 04-3). -/
def recPath (e : Entry) : Nat := leAt e.head 20 2 / 4096

/-- A stream's filter takes an entry (06 R205). -/
def matchesStream (x : ExpStream) (e : Entry) : Bool :=
  let kindOk := if e.kind = 0 then (if recPath e < 6 then bitAt x.kinds 0 else bitAt x.kinds 1) else bitAt x.kinds 2
  let mixOk := match entryMix e with
    | some m => decide (x.mixLo ≤ m) && decide (m ≤ x.mixHi)
    | none => x.mixLo == 0 && x.mixHi == 0xFFFFF
  let chOk := if e.kind = 0 then bitAt x.chMask (recCh e)
    else if e.kind = 8 then bitAt x.chMask (leAt e.head 0 3 / 2 ^ 20) else true
  (x.isOpen || x.opening) && !e.carry && kindOk && mixOk && chOk

/-! Sealing (06 R193 to R197, R205). -/

/-- The page of each entry of a group, for entries laid out from a page and a used count (06 R194). -/
def entryPages (per : Nat) : Nat → Nat → List Nat → List Nat
  | _, _, [] => []
  | page, used, n :: l =>
    if used + n ≤ per then page :: entryPages per page (used + n) l
    else
      let start := if used = 0 then page else page + 1
      start :: entryPages per (start + (n - 1) / per) ((n - 1) % per + 1) l

/-- What depends on the sealing of the entry's own group is filled: the sequence of the entry that follows a COMMAND
entry, the item identifier of a SENT entry that follows its QUEUED entry, and the sequence of a batch's first provisional
record (06 R194, Table 06-2; 05 R187; 10 R329, R340). -/
def fillSeq (s : State) (e : Entry) (lseq : Nat) : Entry :=
  match e.act with
  | .batchClose n => { e with head := padTo 22 (e.head.take 12 ++ leB 8 ((assocGet n s.ledger.provFirst).getD 0)) }
  | .dl _ 2 true => { e with head := e.head.take 4 ++ leB 8 (lseq - 1) ++ e.head.drop 12 }
  | .command h c st d data eff =>
    if e.fill = 0 then e
    else
      let data2 := leB 8 (lseq + e.fill) ++ data.drop 8
      { e with body := padTo (32 * ceilDiv data2.length 32) data2 ++ e.body.drop (32 * ceilDiv data2.length 32),
               act := .command h c st d data2 eff }
  | _ => e

/-- An entry takes the next ledger sequence and the next export sequence of every stream it matches (06 R193, R205). -/
def sealEntry (e : Entry) (page : Nat) (s : State) : State × Entry :=
  let n := rd s P12.NEXT_LSEQ
  let xs := s.ledger.streams.map (fun x => if matchesStream x e then x.next else 0)
  let ss := s.ledger.streams.map (fun x => if matchesStream x e then { x with next := x.next + 1 } else x)
  let pf := if e.prov && e.kind == 0 && (assocGet e.batch s.ledger.provFirst).isNone then s.ledger.provFirst ++ [(e.batch, n)]
    else s.ledger.provFirst
  (wr P12.NEXT_LSEQ (n + 1) { s with ledger := { s.ledger with streams := ss, provFirst := pf } },
    { fillSeq s e n with lseq := n, xseq := xs, page := page })

/-- The entries of a group sealed in order. -/
def sealEntries : List (Entry × Nat) → State → State × List Entry
  | [], s => (s, [])
  | (e, p) :: l, s =>
    let (s1, e1) := sealEntry e p s
    let (s2, l2) := sealEntries l s1
    (s2, e1 :: l2)

/-- A die pair can take a page: its open segment has room, or a segment is free for it with a block on each die (13 R437). -/
def pairRoom (s : State) (pr : Nat × Nat) : Bool :=
  (match assocGet pr s.ftl.openSegs with
    | some x => decide (x.2 < s.ftl.pagesPerBlock)
    | none => false) ||
    ((freeSeg s).isSome && (blkOn .c0 ptLedger pr.1 s).2.isSome && (blkOn .c1 ptLedger pr.2 s).2.isSome)

/-- The next die pair of the rotation that can take a page, and its place among the pairs (06 R197). -/
def nextPair (s : State) : Option (Nat × (Nat × Nat)) :=
  let n := (diePairs s).length
  ((List.range n).map (fun i => (s.ledger.rotation + i) % n)).findSome? (fun k =>
    match (diePairs s)[k]? with
    | some pr => if pairRoom s pr then some (k, pr) else none
    | none => none)

/-- Pages given to successive die pairs of the rotation, each in its pair's open segment, while there is room (06 R197). -/
def placePages : List Nat → State → State × List PageRec
  | [], s => (s, [])
  | n :: l, s =>
    match nextPair s with
    | none => (s, [])
    | some (k, pr) =>
      let (s1, g) := segFor pr { s with ledger := { s.ledger with rotation := k + 1 } }
      let x := g.getD (0, 0)
      let (s2, l2) := placePages l s1
      (s2, { slots := n, seg := x.1, die0 := pr.1, st0 := .programming, die1 := pr.2, st1 := .programming, at_ := x.2 } :: l2)

/-- The pages of these entries find room. -/
def pagesFit (s : State) (l : List Entry) : Bool :=
  (placePages (pagesOf s l) s).2.length == (pagesOf s l).length

/-! Page contents (06 R194, R196, Table 06-4). -/

/-- What a slot of a group holds: the entry, by its place in the group, and whether the slot is its first; none for a slot
left unused at the end of a page. -/
abbrev SlotUse := Option (Nat × Bool)

/-- The slots of entries laid out from slot `pos`: `i` numbers the entries (06 R194). -/
def layUses (per : Nat) : Nat → Nat → List Entry → List SlotUse
  | _, _, [] => []
  | pos, i, e :: l =>
    let n := entrySlots e
    let gap := placeSlots per pos n - n - pos
    List.replicate gap none ++ (some (i, true) :: List.replicate (n - 1) (some (i, false)))
      ++ layUses per (pos + gap + n) (i + 1) l

/-- The bytes of entries laid out from slot `pos`, unused slots at page ends 0xFF (06 R194, R196). -/
def layBytes (per : Nat) : Nat → List Entry → List Byte
  | _, [] => []
  | pos, e :: l =>
    let n := entrySlots e
    let gap := placeSlots per pos n - n - pos
    List.replicate (32 * gap) 0xFF ++ entryBytes e ++ layBytes per (pos + gap + n) l

/-- A list filled up to a length. -/
def fillTo {α : Type} (n : Nat) (x : α) (l : List α) : List α := l ++ List.replicate (n - l.length) x

/-- Bit n set for each slot of a list that meets `f` (06 Table 06-4). -/
def slotMap (f : SlotUse → Bool) (l : List SlotUse) : Nat :=
  (((List.range l.length).zip l).map (fun x => if f x.2 then 2 ^ x.1 else 0)).sum

/-- The descriptor of page `i` of a group that holds these uses of its slots (06 Table 06-4). `ids` gives the BATCH_ID of a
batch, `open_` the streams that are open. -/
def pageDesc (g : Group) (no i pages slots : Nat) (uses : List SlotUse) (ids : List (Nat × Nat)) (open_ : List Bool) :
    List Byte :=
  let ent := fun (u : SlotUse) => u.bind (fun x => g.entries[x.1]?)
  let is := fun (f : Entry → Bool) (u : SlotUse) => ((ent u).map f).getD false
  let here := (uses.filterMap ent).eraseDups
  let begun := (uses.filter (fun u => (u.map Prod.snd).getD false)).filterMap ent
  let first := match begun.head? with
    | some e => e.lseq
    | none => (here.head?.map Entry.lseq).getD 0
  let cont := match uses.head? with
    | some (some (_, false)) => true
    | _ => false
  let prov := here.filter Entry.prov
  let xs := (List.range 8).map (fun k => if open_.getD k false then
    ((begun.find? (fun e => e.xseq.getD k 0 != 0)).map (fun e => e.xseq.getD k 0)).getD 0 else 0)
  let b := leB 2 0x4C47 ++ leB 1 1
    ++ leB 1 (b2n (g.entries.any Entry.carry) + 2 * b2n (i + 1 == pages) + 4 * b2n (!prov.isEmpty) + 8 * b2n cont)
    ++ leB 8 no ++ leB 1 i ++ leB 1 pages ++ leB 2 slots ++ leB 8 first ++ leB 8 g.horizon ++ leB 8 g.replayBase
    ++ leB 8 g.sealTime ++ leB 8 ((prov.head?.bind (fun e => assocGet e.batch ids)).getD 0)
    ++ (xs.map (leB 8)).flatten
    ++ leB 64 (slotMap (is (fun e => e.kind != 0)) uses) ++ leB 64 (slotMap (is Entry.prov) uses) ++ leB 4 g.bootCount
  b ++ leB 4 (crc32c b)

/-- A group with its pages written: descriptors, and entries with 0xFF in unused slots (06 R196). `no` is the GROUP_NO of
the descriptors. -/
def writeGroup (no : Nat) (s : State) (g : Group) : Group :=
  let per := pageSlots s
  let uses := fillTo (per * g.pages.length) none (layUses per 0 0 g.entries)
  let data := fillTo (32 * per * g.pages.length) 0xFF (layBytes per 0 g.entries)
  let ids := s.infeed.batches.map (fun b => (b.no, b.id))
  let open_ := s.ledger.streams.map (fun x => x.isOpen || x.opening)
  { g with pages := (g.pages.zip (List.range g.pages.length)).map (fun x =>
      { x.1 with
        desc := pageDesc g no x.2 g.pages.length x.1.slots ((uses.drop (per * x.2)).take per) ids open_
        data := (data.drop (32 * per * x.2)).take (32 * per)
        wseq := s.ftl.wseq + 1 + x.2 }) }

/-- Where one copy of a page lies: segment and page (13 R437). -/
def copyAt (c : Chan) (p : PageRec) : Nat × Nat := (assocGet c p.moved).getD (p.seg, p.at_)

/-- The block of one copy, as die and block. -/
def copyBlk (s : State) (c : Chan) (p : PageRec) : Option (Nat × Nat) := segBlk s c (copyAt c p).1

/-- One copy of a ledger page programmed where it lies (06 R197; 13 R433, R434). -/
def programCopy (c : Chan) (p : PageRec) (s : State) : State :=
  match copyBlk s c p with
  | some b => program c ptLedger 5 (copyAt c p).1 p.wseq (2 ^ 31 + dieBlk b.1 0 + b.2 * s.ftl.pagesPerBlock + (copyAt c p).2)
      p.desc p.data s
  | none => s

/-- The pages of a group programmed on both channels (06 R197). -/
def programGroup (g : Group) (s : State) : State :=
  g.pages.foldl (fun t p => programCopy .c1 p (programCopy .c0 p t)) s

/-- The numbers of batches whose BATCH_CLOSE entry is in a list of entries. -/
def batchesClosedIn (l : List Entry) : List Nat :=
  l.filterMap (fun e => match e.act with
    | .batchClose n => some n
    | _ => none)

/-- READONLY follows the free space: set when a group could not open, cleared when space exceeds that by one segment and
the store is not worn (06 R214, R215). -/
def checkSpace (s : State) : State :=
  if rdB s P12.READONLY = false ∧ freePages s < openNeed s then logEv evLedgerReadonly [] (wr P12.READONLY 1 s)
  else if rdB s P12.READONLY = true ∧ rdB s P12.WORN = false ∧ openNeed s + s.ftl.pagesPerBlock < freePages s then
    logEv evLedgerWritable [] (wr P12.READONLY 0 s)
  else s

/-- The filter of an EXPORT_OPEN payload (06 Table 06-7). -/
def openFilter (p : List Byte) (x : ExpStream) : ExpStream :=
  { x with kinds := byteAt p 1 % 8, chMask := leAt p 4 2, mixLo := leAt p 8 4 % 2 ^ 20, mixHi := leAt p 12 4 % 2 ^ 20 }

/-- Entries that an earlier opening of a stream numbered, which the present one does not (06 R206). -/
def forgetXseq (k : Nat) (s : State) : State :=
  let f := fun (g : Group) => { g with entries := g.entries.map (fun e => { e with xseq := e.xseq.set k 0 }) }
  { s with ledger := { s.ledger with groups := s.ledger.groups.map f } }

/-- A stream takes sequences, from 1, with the group that holds its EXPORT_OPEN entry (06 R205; assumption log 103). -/
def openAtSeal (p : List Byte) (s : State) : State :=
  let k := byteAt p 0
  let x := s.ledger.streams.getD k {}
  if x.isOpen || x.opening then s
  else
    let y := { openFilter p x with opening := true, next := 1 }
    forgetXseq k { s with ledger := { s.ledger with streams := s.ledger.streams.set k y } }

/-- The payload of an EXPORT_OPEN that opens a stream, if an entry is its COMMAND entry. -/
def opensStream (e : Entry) : Option (List Byte) :=
  match e.act with
  | .command _ _ _ _ _ eff => (match eff.cmd with
    | some (.exportOpen _ _) => some eff.data
    | _ => none)
  | _ => none

/-- The streams that a group about to be sealed opens. -/
def sealOpens (l : List Entry) (s : State) : State := (l.filterMap opensStream).foldl (fun t p => openAtSeal p t) s

/-- A closed group sealed: sequences, pages and descriptors, and its pages start programming (06 R196, R197). -/
def sealGroup (l : List Entry) (s : State) : State :=
  let pages := entryPages (pageSlots s) 0 0 (l.map entrySlots)
  let (s1, es) := sealEntries (l.zip pages) (sealOpens l s)
  let (s2, ps) := placePages (pagesOf s l) s1
  let g : Group := { no := s.ledger.nextGroup, entries := es, pages := ps, sealTime := chainSec s,
                     horizon := s.ledger.horizon, replayBase := s.ledger.replayBase, bootCount := s.ledger.bootCount }
  let w := writeGroup g.no s2 g
  addRec [2, g.no, es.length] (programGroup w { s2 with
    ledger := { s2.ledger with groups := s2.ledger.groups ++ [w], nextGroup := s.ledger.nextGroup + 1 },
    ftl := { s2.ftl with wseq := s2.ftl.wseq + ps.length } })

/-- The frame of a beat, by the count that frames it (01 R9, R562). -/
def frameNo (s : State) : Bool × Nat := (s.beat.loaded, frameCount s / 8)

/-- In the beat after closing, a group is sealed, one in a frame; without a die pair Ledger stops sealing, and a group drawn
from reserve segments that are used up waits (01 R12; 06 R196, R214, R216). The hold-up flush is not bound to frames (17
R529). -/
def execLedgerGroupSeal (s : State) : Host.Outcome State Fault Refusal :=
  match s.ledger.toSeal with
  | [] => .next s
  | l :: rest =>
    if rdB s P12.NO_DIE_PAIR = true ∨ pagesFit s l = false ∨ (s.ledger.sealFrame = some (frameNo s) ∧ s.pwr.mode ≠ .holdup) then .next s
    else .next (checkSpace (sealGroup l { s with ledger := { s.ledger with toSeal := rest, sealFrame := some (frameNo s) } }))

/-! Page copies (06 R198, R199, R216). -/

/-- The numbers under which the model names carry groups: above every group number (assumption log 116). -/
def carryBase : Nat := 2 ^ 64

/-- The groups of the ledger and the carry group being written. -/
def allGroups (s : State) : List Group := s.ledger.groups ++ (s.ledger.carry.map CarryJob.group).toList

/-- Every group changed, the carry group being written too. -/
def mapGroups (f : Group → Group) (s : State) : State :=
  { s with ledger := { s.ledger with groups := s.ledger.groups.map f,
                                     carry := s.ledger.carry.map (fun j => { j with group := f j.group }) } }

/-- A group changed. -/
def modGroup (no : Nat) (f : Group → Group) (s : State) : State := mapGroups (fun g => if g.no = no then f g else g) s

/-- One copy of a page with a new die and state. -/
def setCopy (c : Chan) (die : Nat) (st : CopySt) (p : PageRec) : PageRec :=
  match c with
  | .c0 => { p with die0 := die, st0 := st }
  | .c1 => { p with die1 := die, st1 := st }

/-- The die of one copy. -/
def copyDie (c : Chan) (p : PageRec) : Nat :=
  match c with
  | .c0 => p.die0
  | .c1 => p.die1

/-- The state of one copy. -/
def copySt (c : Chan) (p : PageRec) : CopySt :=
  match c with
  | .c0 => p.st0
  | .c1 => p.st1

/-- A page of a group. -/
def pageOf (s : State) (no page : Nat) : Option PageRec :=
  match (allGroups s).find? (fun g => g.no == no) with
  | some g => g.pages[page]?
  | none => none

/-- One copy of a page of a group changed. -/
def modCopy (no page : Nat) (c : Chan) (die : Nat) (st : CopySt) (s : State) : State :=
  modGroup no (fun g => { g with pages := g.pages.modify page (setCopy c die st) }) s

/-- The dies of a channel that the rotation runs over; its usable dies while there is no pair (06 R197; 13 R432). -/
def rotaDies (s : State) (c : Chan) : List Nat :=
  if (diePairs s).isEmpty then usableDies s c else (diePairs s).map (fun x => if c == .c0 then x.1 else x.2)

/-- The next usable die of a channel in the rotation after a die. -/
def nextDie (s : State) (c : Chan) (die : Nat) : Option Nat :=
  let l := rotaDies s c
  match l.find? (fun d => decide (die < d)) with
  | some d => some d
  | none => l.head?

/-- A page has a copy in a segment: a rewrite leaves its two copies in two segments (13 R437). -/
def pageInSeg (seg : Nat) (p : PageRec) : Bool := (copyAt .c0 p).1 == seg || (copyAt .c1 p).1 == seg

/-- One copy of a page begun in the open segment of a die of its channel (06 R199; 13 R437). -/
def placeCopy (no page : Nat) (c : Chan) (die : Nat) (st : CopySt) (s : State) : State :=
  match (diePairs s).find? (fun x => (if c == .c0 then x.1 else x.2) == die) with
  | none => modCopy no page c die st s
  | some pr => match segFor pr s with
    | (t, some x) =>
      let put := fun (p : PageRec) => setCopy c die st { p with moved := assocSet c x p.moved }
      let u := modGroup no (fun g => { g with pages := g.pages.modify page put }) t
      (match pageOf u no page with
        | some p => programCopy c p u
        | none => u)
    | (t, none) => modCopy no page c die st t

/-- The copies of pages that a test picks, as group, page and state. -/
def copiesOf (s : State) (c : Chan) (f : Group → PageRec → Bool) : List (Nat × (Nat × CopySt)) :=
  (allGroups s).flatMap (fun g => ((g.pages.zip (List.range g.pages.length)).filter (fun x => f g x.1)).map
    (fun x => (g.no, (x.2, copySt c x.1))))

/-- The copies moved, unchanged and in the state they have, to the next die after one of their channel. -/
def moveCopies (c : Chan) (die : Nat) (l : List (Nat × (Nat × CopySt))) (s : State) : State :=
  l.foldl (fun t x => match nextDie t c die with
    | some d => placeCopy x.1 x.2.1 c d x.2.2 t
    | none => t) s

/-- A ledger block that failed: its segment takes no more pages, the copies in it are written again, and it is retired (06
R199; 13 R442, R443). -/
def failLedger (c : Chan) (die blk cause : Nat) (s : State) : State :=
  let prs := (s.ftl.openSegs.filter (fun x => segBlk s c x.2.1 == some (die, blk))).map Prod.fst
  let t := prs.foldl (fun u pr => closeSeg pr u) s
  let l := copiesOf t c (fun _ p => copyBlk t c p == some (die, blk) && copySt c p != .missing)
  retireBlk c die blk cause (moveCopies c die l t)

/-- Pages of accepted groups that wait for a second copy (06 R216). -/
def toReplicate (s : State) : Nat :=
  ((s.ledger.groups.filter Group.accepted).map unverified).sum

/-- REREPLICATE brought up to date. -/
def repFields (s : State) : State :=
  wr P12.DIE_PAIRS (diePairs s).length (wr P12.REREPLICATE (toReplicate s) { s with ledger := { s.ledger with
    rerep := toReplicate s } })

/-- A copy that failed is written again, unchanged, to the next usable die of its channel, and its block is retired;
with none left no die pair remains (06 R199, R216; 13 R442). -/
def rewriteCopy (no page : Nat) (c : Chan) (p : PageRec) (s : State) : State :=
  let s1 := bump P12.REWRITES s
  match nextDie s c (copyDie c p) with
  | some d =>
    let l := s1.ledger.rewriting.filter (fun x => x != (no, page, c)) ++ [(no, page, c)]
    let s2 := { s1 with ledger := { s1.ledger with rewriting := l } }
    (match copyBlk s c p with
      | some b =>
        modGroup no (fun g => { g with pages := g.pages.modify page (fun q => setCopy c (copyDie c q) .programming q) })
          (failLedger c b.1 b.2 1 s2)
      | none => placeCopy no page c d .programming s2)
  | none =>
    let s2 := match copyBlk s c p with
      | some b => retireBlk c b.1 b.2 1 s1
      | none => s1
    wr P12.NO_DIE_PAIR 1 (modCopy no page c (copyDie c p) .missing s2)

/-- A die reports the end of a page program (06 R198, R199). -/
def execPageProgramDone (group page : Nat) (chan : Chan) (ok : Bool) (s : State) : Host.Outcome State Fault Refusal :=
  match pageOf s group page with
  | some p =>
    if copySt chan p = .programming then
      let t := count 0x07 (chNo chan) 1 s
      .next (if ok then modCopy group page chan (copyDie chan p) .readBack t else rewriteCopy group page chan p t)
    else .next s
  | none => .next s

/-- A read-back passes when no codeword needed more than VERIFY_BITS corrections and the data and CRCs are right (06
R198). -/
def copyPasses (s : State) (bits : Nat) (same : Bool) : Bool := same && decide (bits ≤ rd s P12.VERIFY_BITS)

/-- A copy counts as verified, or is rewritten (06 R198, R199). -/
def execCopyVerified (group page : Nat) (chan : Chan) (bits : Nat) (same : Bool) (s : State) :
    Host.Outcome State Fault Refusal :=
  match pageOf s group page with
  | some p =>
    if copySt chan p = .readBack then
      (if copyPasses s bits same then
        let l := s.ledger.rewriting.filter (fun x => x != (group, page, chan))
        .next (repFields (modCopy group page chan (copyDie chan p) .verified { s with ledger := { s.ledger with rewriting := l } }))
       else .next (rewriteCopy group page chan p s))
    else .next s
  | none => .next s

/-- A group is complete: every page is verified on both channels (06 R198). -/
def Group.complete (g : Group) : Bool := g.pages.all (fun p => p.st0 == .verified && p.st1 == .verified)

/-- The lowest group not yet accepted. -/
def nextToAccept (s : State) : Option Group := s.ledger.groups.find? (fun g => !g.accepted)

/-- In a pair a group counts as complete when it lies at or below both COMPLETE values (15 R491). -/
def pairComplete (s : State) (no : Nat) : Bool :=
  match s.pair.used with
  | some u => decide (no ≤ u.complete)
  | none => true

/-- The output record of an acceptance: the highest group accepted at the boundary (15 R492). -/
def accRec (no : Nat) (s : State) : State :=
  if paired s = false then s
  else if s.pair.recs.any (fun r => r.head? == some 3) then
    { s with pair := { s.pair with recs := mapIf (fun r => r.head? == some 3) (fun _ => [3, no]) s.pair.recs } }
  else addRec [3, no] s

/-- A complete group is accepted when every lower one is; none is after mains loss has been declared (06 R200; 17
R530). -/
def execGroupAccept (s : State) : Host.Outcome State Fault Refusal :=
  match nextToAccept s with
  | some g =>
    if g.complete = true ∧ silent s = false ∧ pairComplete s g.no = true then
      .next (accRec g.no (wr P12.LAST_GROUP g.no (modGroup g.no (fun x => { x with accepted := true })
        { s with ledger := { s.ledger with horizon := max s.ledger.horizon g.no } })))
    else .next s
  | none => .next s

/-- A die of ledger pages becomes unusable: a commit under way goes on with another die of its channel, and an accepted page
waits for its copy (06 R199, R216). -/
def loseCopies (c : Chan) (die : Nat) (s : State) : State :=
  let re := fun (p : PageRec) => if copyDie c p = die then setCopy c die .missing p else p
  let l := copiesOf s c (fun g p => copyDie c p == die && !g.accepted)
  let prs := (s.ftl.openSegs.filter (fun x => (if c == .c0 then x.1.1 else x.1.2) == die)).map Prod.fst
  moveCopies c die (l.map (fun x => (x.1, (x.2.1, .programming))))
    (prs.foldl (fun u pr => closeSeg pr u) (mapGroups (fun g => { g with pages := g.pages.map re }) s))

/-- The missing copies of a channel that a usable die could take. -/
def copiesLost (s : State) (c : Chan) : List (Nat × (Nat × CopySt)) :=
  if (rotaDies s c).isEmpty then [] else
    (copiesOf s c (fun g p => copySt c p == .missing && decide (s.ledger.groups.any (fun x => x.no == g.no)))).map
      (fun x => (x.1, (x.2.1, .programming)))

/-- The work at level 7: every missing copy begins on a usable die of its channel (06 R216). -/
def replaceCopies (s : State) : State :=
  let begin_ := fun (c : Chan) (t : State) => (copiesLost t c).foldl (fun u x => match (rotaDies u c).head? with
    | some d => placeCopy x.1 x.2.1 c d x.2.2 u
    | none => u) t
  begin_ .c1 (begin_ .c0 s)

/-- A copy is missing that a usable die could take. -/
def copiesMissing (s : State) : Bool := !(copiesLost s .c0).isEmpty || !(copiesLost s .c1).isEmpty

/-- The copies of a commit under way that a lost die held: each is rewritten on another die of its channel (06 R199,
R220). -/
def lostCommits (c : Chan) (die : Nat) (s : State) : List (Nat × Nat × Chan) :=
  if (usableDies s c).all (fun d => d == die) then []
  else (((allGroups s).filter (fun g => !g.accepted)).map (fun g =>
    ((g.pages.zip (List.range g.pages.length)).filter (fun x =>
      copyDie c x.1 == die && (copySt c x.1 == .programming || copySt c x.1 == .readBack))).map
        (fun x => (g.no, x.2, c)))).flatten

/-- Those rewrites counted and outstanding (06 R199, R218). -/
def noteRewrites (l : List (Nat × Nat × Chan)) (s : State) : State :=
  bumpI P12.REWRITES 0 l.length { s with ledger := { s.ledger with
    rewriting := s.ledger.rewriting.filter (fun x => !l.contains x) ++ l } }

/-- LEDGER_DIE_LOST: single copies are copied again; without a die pair Ledger stops (06 R216). -/
def execLedgerDieLost (chan : Chan) (die : Fin 16) (s : State) : Host.Outcome State Fault Refusal :=
  let s1 := if s.ftl.dieLost.contains (chan, die.val) then s
    else { s with ftl := { s.ftl with dieLost := s.ftl.dieLost ++ [(chan, die.val)] } }
  let s2 := repFields (loseCopies chan die.val (noteRewrites (lostCommits chan die.val s1) (wr P12.SINGLE_COPY 1 (logEv evLedgerDieLost (leB 1 die.val) s1))))
  .next (if (diePairs s2).isEmpty then wr P12.NO_DIE_PAIR 1 s2 else s2)

/-- SINGLE_COPY clears when the last copy is verified (06 R216). -/
def execRereplicationDone (s : State) : Host.Outcome State Fault Refusal :=
  .next (if toReplicate s = 0 then repFields (wr P12.SINGLE_COPY 0 s) else s)

/-- WORN: advertised capacity would fall below the floor (06 R215). -/
def execLedgerWorn (s : State) : Host.Outcome State Fault Refusal :=
  if rdB s P41.WORN = true ∧ rdB s P12.WORN = false then
    .next (let t := wr P12.WORN 1 s
           if rdB t P12.READONLY then t else logEv evLedgerReadonly [] (wr P12.READONLY 1 t))
  else .next s

/-! Export (06 R205 to R209). -/

/-- A stream of a number. -/
def streamAt (s : State) (k : Nat) : ExpStream := s.ledger.streams.getD k {}

/-- A stream replaced, and STREAMS_OPEN brought up to date. -/
def setStream (k : Nat) (x : ExpStream) (s : State) : State :=
  let l := s.ledger.streams.set k x
  wr P12.STREAMS_OPEN (((List.range 8).map (fun n => if (l.getD n {}).isOpen then 2 ^ n else 0)).sum)
    { s with ledger := { s.ledger with streams := l } }

/-- The export sequence of an entry on a stream, 0 for none. -/
def xseqOf (k : Nat) (e : Entry) : Nat := e.xseq.getD k 0

/-- The readable entries of a stream in order: released, up to the first provisional record of a batch still open;
those of an abandoned batch are gaps (06 R205). -/
def readable (s : State) (k : Nat) : List Entry :=
  let l := (acceptedEntries s).filter (fun e => xseqOf k e != 0)
  (l.takeWhile (fun e => entryLive s e || s.ledger.abandoned.contains e.batch)).filter (fun e => entryLive s e)

/-- The highest readable sequence of a stream (06 R207). -/
def highReadable (s : State) (k : Nat) : Nat :=
  max (streamAt s k).acked (((readable s k).getLast?.map (xseqOf k)).getD 0)

/-- The reply data of EXPORT_OPEN (06 Table 06-7). -/
def openReply (x : ExpStream) : List Byte := leB 4 x.epoch ++ zeros 4 ++ leB 8 x.acked

/-- EXPORT_OPEN (06 R206). -/
def exportOpenBody (h : Hdr) (p : List Byte) (s : State) : Ans :=
  let k := byteAt p 0
  let x := streamAt s k
  let y := openFilter p x
  if k > 7 then .fail stOutOfRange 0
  else if y.kinds = 0 then .fail stBadPayload 1
  else if y.mixLo > y.mixHi then .fail stBadPayload 8
  else if x.isOpen then
    (if y = x then .accept (openReply x) (openReply x) {} s else .fail stDeniedState 0)
  else
    let z := { y with epoch := x.epoch + 1, acked := 0 }
    .accept (openReply z) (openReply z) { cmd := some (.exportOpen h p), args := [z.epoch] } s

/-- EXPORT_OPEN (06 R206). -/
def execExportOpen (h : Hdr) (p : List Byte) (s : State) : Host.Outcome State Fault Refusal :=
  .next (runCmd h p true (exportOpenBody h p) s)

/-- The effect of EXPORT_OPEN: the stream is open with a new epoch and nothing acknowledged (06 R205, R206). -/
def effExportOpen (e : Eff) (s : State) : State :=
  let k := byteAt e.data 0
  let x := streamAt s k
  if x.isOpen then s
  else setStream k { openFilter e.data x with isOpen := true, opening := false, epoch := e.args.getD 0 0, acked := 0 } s

/-- Entries with consecutive sequences from the first, while a count and a number of bytes last (06 R207). -/
def takeRun (k : Nat) : Nat → Nat → Nat → List Entry → List Entry
  | _, 0, _, _ => []
  | _, _, _, [] => []
  | expect, n + 1, room, e :: l =>
    if xseqOf k e = expect ∧ (entryBytes e).length ≤ room then
      e :: takeRun k (expect + 1) n (room - (entryBytes e).length) l
    else []

/-- Entries while a count and a number of bytes last. -/
def takeFit : Nat → Nat → List Entry → List Entry
  | 0, _, _ => []
  | _, _, [] => []
  | n + 1, room, e :: l =>
    if (entryBytes e).length ≤ room then e :: takeFit n (room - (entryBytes e).length) l else []

/-- The 32-byte entry map: bit n set for a control entry (06 R207). -/
def entryMap (l : List Entry) : List Byte :=
  leB 32 (((List.range l.length).map (fun n => if ((l[n]?.map Entry.kind).getD 0) = 0 then 0 else 2 ^ n)).sum)

/-- The entries of a reply, and whether the map is omitted for a single long entry (06 R207). -/
def pickEntries (mapOn : Bool) (f : Nat → List Entry) (first : Option Entry) : List Entry × Bool :=
  let l := f (8188 - 16 - (if mapOn then 32 else 0))
  match l, first with
  | [], some e => if mapOn && decide ((entryBytes e).length ≤ 8172) then ([e], true) else ([], false)
  | l, _ => (l, false)

/-- The reply data of EXPORT_READ (06 R207). -/
def exportData (s : State) (k max from_ : Nat) : List Byte :=
  let x := streamAt s k
  let l := (readable s k).dropWhile (fun e => decide (xseqOf k e < from_))
  let first := (l.head?.map (xseqOf k)).getD from_
  let mapOn := bitAt x.kinds 2
  let (es, noMap) := pickEntries mapOn (fun room => takeRun k first max room l) l.head?
  let more := decide (first + es.length ≤ highReadable s k)
  leB 8 first ++ leB 2 es.length ++ leB 1 k ++ leB 1 (b2n more + 2 * b2n noMap) ++ leB 4 x.epoch
    ++ (if mapOn && !noMap then entryMap es else []) ++ (es.map entryBytes).flatten

/-- The oldest retained export sequence of a stream; an abandoned batch's entries are retained until reclaim (06 R205,
R207). -/
def oldestX (s : State) (k : Nat) : Nat :=
  (((acceptedEntries s).find? (fun e => xseqOf k e != 0)).map (xseqOf k)).getD (highReadable s k + 1)

/-- EXPORT_READ with its checks in order (06 R207). -/
def exportReadBody (p : List Byte) (s : State) : Ans :=
  let k := byteAt p 0
  let n := leAt p 2 2
  let f := leAt p 8 8
  if k > 7 then .fail stOutOfRange 0
  else if n = 0 ∨ n > 255 then .fail stOutOfRange 16
  else if (streamAt s k).isOpen = false then .fail stUnknownObject 0
  else if leAt p 4 4 ≠ (streamAt s k).epoch then .fail stDeniedState 0
  else if f > highReadable s k + 1 ∨ f < oldestX s k then .fail stOutOfRange 64
  else .done (exportData s k n f) s

/-- EXPORT_READ (06 R207). -/
def execExportRead (h : Hdr) (p : List Byte) (s : State) : Host.Outcome State Fault Refusal :=
  .next (runCmd h p false (exportReadBody p) s)

/-- EXPORT_ACK with its checks (06 R208). -/
def exportAckBody (h : Hdr) (p : List Byte) (s : State) : Ans :=
  let k := byteAt p 0
  let a := leAt p 8 8
  if k > 7 then .fail stOutOfRange 0
  else if (streamAt s k).isOpen = false then .fail stUnknownObject 0
  else if leAt p 4 4 ≠ (streamAt s k).epoch then .fail stDeniedState 0
  else if a > highReadable s k then .fail stOutOfRange 64
  else .accept (leB 8 (max (streamAt s k).acked a) ++ leB 8 (highReadable s k)) p { cmd := some (.exportAck h p) } s

/-- EXPORT_ACK (06 R208). -/
def execExportAck (h : Hdr) (p : List Byte) (s : State) : Host.Outcome State Fault Refusal :=
  .next (runCmd h p true (exportAckBody h p) s)

/-- The effect of EXPORT_ACK: the point becomes max(ACKED, ACK_XSEQ) of the same epoch (06 R208). -/
def effExportAck (e : Eff) (s : State) : State :=
  let k := byteAt e.data 0
  let x := streamAt s k
  if x.isOpen && x.epoch == leAt e.data 4 4 then setStream k { x with acked := max x.acked (leAt e.data 8 8) } s else s

/-- EXPORT_CLOSE (06 R209). -/
def execExportClose (h : Hdr) (p : List Byte) (s : State) : Host.Outcome State Fault Refusal :=
  .next (runCmd h p true (fun t =>
    if byteAt p 0 > 7 then .fail stOutOfRange 0 else .accept [] p { cmd := some (.exportClose h p) } t) s)

/-- The effect of EXPORT_CLOSE: the stream assigns nothing and holds nothing back (06 R209). -/
def effExportClose (e : Eff) (s : State) : State :=
  setStream (byteAt e.data 0) { streamAt s (byteAt e.data 0) with isOpen := false } s

/-! LEDGER_QUERY and LEDGER_STATUS (06 R210, R211). -/

/-- An entry put in its place by ledger sequence; of copies on carry pages the newest stays. -/
def insertSeq (e : Entry) : List Entry → List Entry
  | [] => [e]
  | x :: l => if e.lseq < x.lseq then e :: x :: l else if e.lseq = x.lseq then x :: l else x :: insertSeq e l

/-- The retained entries that a query may see, by ledger sequence. -/
def queryable (s : State) : List Entry :=
  ((acceptedEntries s).filter (fun e => entryLive s e)).foldr insertSeq []

/-- The oldest retained ledger sequence (06 R211). -/
def oldestSeq (s : State) : Nat :=
  (acceptedEntries s).foldl (fun a e => min a e.lseq) (rd s P12.NEXT_LSEQ)

/-- The reply of a query: header, map in mode 2, entries (06 R210). -/
def queryData (p : List Byte) (s : State) : List Byte :=
  let byKey := byteAt p 0 == 1
  let mix := leAt p 4 3 % 2 ^ 20
  let ch := leAt p 4 3 / 2 ^ 20
  let lo := leAt p 8 5
  let hi := leAt p 16 5
  let from_ := leAt p 24 8
  let l := if byKey then (accRecords s mix ch).filter (fun e => decide (lo ≤ recEnd e) && decide (recEnd e ≤ hi))
    else (queryable s).filter (fun e => decide (from_ ≤ e.lseq))
  let (es, noMap) := pickEntries (!byKey) (fun room => takeFit (byteAt p 1) room l) l.head?
  let cut := if byKey then
      s.ledger.reclaimed.any (fun r => r.1 == mix && r.2.1 == ch && decide (lo ≤ r.2.2) && decide (r.2.2 ≤ hi))
    else decide (from_ ≤ s.ledger.cutSeq) && s.ledger.cutSeq != 0
  leB 4 (((es.head?.map Entry.lseq).getD 0) / 2 ^ 32) ++ leB 2 es.length ++ leB 1 (b2n cut + 2 * b2n noMap) ++ zeros 1
    ++ leB 8 (if byKey then ((newestRec s mix ch hi).map Entry.lseq).getD 0 else 0)
    ++ (if byKey || noMap then [] else entryMap es) ++ (es.map entryBytes).flatten

/-- LEDGER_QUERY (06 R210). -/
def execLedgerQuery (h : Hdr) (p : List Byte) (s : State) : Host.Outcome State Fault Refusal :=
  .next (runCmd h p false (fun t =>
    if byteAt p 0 ≠ 1 ∧ byteAt p 0 ≠ 2 then .fail stBadPayload 0
    else if byteAt p 1 = 0 then .fail stOutOfRange 8
    else .done (queryData p t) t) s)

/-- The count of entries of the last whole second (06 R211). -/
def rollSec (s : State) : State :=
  if s.ledger.secAt = chainSec s then s
  else { s with ledger := { s.ledger with
    secAccepted := if s.ledger.secAt + 1 = chainSec s then s.ledger.secCount else 0
    secCount := 0
    secAt := chainSec s } }

/-- A batch is open in Ledger: provisional records without an accepted closing entry (06 R201, R211). -/
def batchOpen (s : State) : Bool := s.infeed.batches.any (fun b => b.st == 2)

/-- The entries whose page waits for a second copy (06 R211). -/
def entriesToReplicate (s : State) : Nat :=
  ((s.ledger.groups.filter Group.accepted).map (fun g => (g.entries.filter (fun e =>
    match g.pages[e.page]? with
    | some q => !(q.st0 == .verified && q.st1 == .verified)
    | none => false)).length)).sum

/-- The 64 bytes of LEDGER_STATUS (06 R211). -/
def ledgerStatus (s0 : State) : List Byte :=
  let s := rollSec s0
  leB 8 (rd s P12.NEXT_LSEQ) ++ leB 8 (rd s P12.LAST_GROUP)
    ++ leB 8 (oldestSeq s)
    ++ leB 4 s.ftl.segs.length ++ leB 4 (freeSegs s) ++ leB 4 s.ledger.secAccepted ++ leB 4 (inFlight s)
    ++ leB 8 (entriesToReplicate s) ++ leB 1 (diePairs s).length ++ leB 1 (rd s P12.STREAMS_OPEN)
    ++ leB 1 (rd s P12.READONLY + 2 * rd s P12.NO_DIE_PAIR + 4 * rd s P12.SINGLE_COPY + 8 * rd s P12.WORN)
    ++ leB 1 (b2n (batchOpen s)) ++ zeros 12

/-- LEDGER_STATUS (06 R211). -/
def execLedgerStatus (h : Hdr) (p : List Byte) (s : State) : Host.Outcome State Fault Refusal :=
  .next (runCmd h p false (fun t => .done (ledgerStatus t) t) s)

end Sys2Proof.Machine
end

