-- ==== Sys2Proof/Machine/Ftl.lean ====
section
/-! DEFINITION. The flash store's events and FTL_STATUS (13 R439 to R455). -/
namespace Sys2Proof.Machine

/-- JOURNAL_COMMIT: pending map records are written as a commit, once the journal thread has been serviced (01 R20, R36; 13
R439). -/
def execJournalCommit (s : State) : Host.Outcome State Fault Refusal :=
  .next (if granted s .journal then commitPending (spend .journal s) else s)

/-- JOURNAL_MS has passed since the last commit (01 R20; 13 R440). -/
def execJournalMsExpire (s : State) : Host.Outcome State Fault Refusal :=
  .next (if granted s .journal = true ∧ passed s s.ftl.lastCommitAt (msBeats (rd s P41.JOURNAL_MS)) = true then
      commitPending (spend .journal s)
    else s)

/-- The page pairs of a snapshot: an entry of 8 bytes for each logical page of the mapped partitions, each segment and each
block (13 R437, R441; assumption log 121). -/
def snapPages (s : State) : Nat :=
  let pages := ((List.range 5).map (fun i => partBytes (i + 2) / s.ftl.pageSize)).sum
  ceilDiv (8 * (pages + advertised s + s.ftl.dies.sum * s.ftl.blocksPerDie)) s.ftl.pageSize

/-- The SYSTEM block that the next page goes into, as an operand of a journal record. -/
def systemBlk (s : State) : Nat :=
  match openOf s .c0 ptSystem with
  | some b => dieBlk b.die b.blk
  | none => 0

/-- Blocks of SYSTEM that hold only older journal and snapshot pages wait for their erase (13 R441, R446). -/
def releaseSystem (l : List Blk) (s : State) : State :=
  l.foldl (fun t b => postRec ⟨3, ptSystem, b.chan, dieBlk b.die b.blk, b.erases, 0⟩
    (setBlkSt b.chan b.die b.blk ptSystem .pendingErase t)) s

/-- After SNAP_PAGES journal pages: a snapshot, its SNAPSHOT record committed, and an anchor page; older pages are released
(01 R20; 13 R441, R446). -/
def execFtlSnapshot (s : State) : Host.Outcome State Fault Refusal :=
  if s.ftl.sinceSnap < rd s P41.SNAP_PAGES ∨ granted s .ftlSnap = false then .next s
  else
    let n := s.ftl.snapNo + 1
    let old := s.ftl.blks.filter (fun b => b.part == ptSystem && b.st == .closed)
    let s1 := takeSystem (snapPages s) (spend .ftlSnap s)
    let t := commitPending (postRec ⟨10, ptSystem, .c0, n, systemBlk s, snapPages s⟩ s1)
    .next (releaseSystem old { t with ftl := { t.ftl with snapNo := n, snapCommit := t.ftl.commitNo, sinceSnap := 0,
                                                          commits := [], anchorSeq := t.ftl.anchorSeq + 1 } })

/-- A block waits for its erase: its ERASED record is not posted yet. -/
def waitsErase (s : State) (c : Chan) (die blk : Nat) : Bool :=
  s.ftl.blks.any (fun b => isBlk c die blk b && b.st == .pendingErase)
    && !s.ftl.pendRecs.any (fun r => r.op == 4 && r.chan == c && r.a == dieBlk die blk)

/-- A failed erase retires the block (13 R443). -/
def execEraseFail (chan : Chan) (die blk : Nat) (s : State) : Host.Outcome State Fault Refusal :=
  .next (if waitsErase s chan die blk then retireBlk chan die blk 2 s else s)

/-- A block erased: its count rises and its ERASED record enters the next commit; it becomes free when that is done
(13 R447 step 4). -/
def execEraseDone (chan : Chan) (die blk : Nat) (s : State) : Host.Outcome State Fault Refusal :=
  match s.ftl.blks.find? (isBlk chan die blk) with
  | some b =>
    if waitsErase s chan die blk then
      let l := mapIf (isBlk chan die blk) (fun x => { x with erases := x.erases + 1 }) s.ftl.blks
      .next (postRec ⟨4, b.part, chan, dieBlk die blk, b.erases + 1, 0⟩ { s with ftl := { s.ftl with blks := l } })
    else .next s
  | none => .next s

/-- The address of the page that was read (13 R437). -/
def readAddr (s : State) (r : PageRead) : Nat := 2 ^ 31 + r.die * 2 ^ 27 + r.blk * s.ftl.pagesPerBlock + r.page

/-- The mapped page whose copy was read. -/
def mappedAt (s : State) (r : PageRead) : Option (Nat × Nat) :=
  (s.ftl.map.find? (fun m => (if r.chan == .c0 then m.2.1 else m.2.2) == readAddr s r)).map Prod.fst

/-- The ledger copies that were read: at most one. -/
def ledgerAt (s : State) (r : PageRead) : List (Nat × (Nat × CopySt)) :=
  copiesOf s r.chan (fun _ p => copyBlk s r.chan p == some (r.die, r.blk) && (copyAt r.chan p).2 == r.page)

/-- The copy that was read written to another block of its channel, from the other channel's when it is bad (13 R443). -/
def rewriteRead (r : PageRead) (s : State) : State :=
  match mappedAt s r with
  | some k => writeCopy r.chan k.1 k.2 s
  | none => moveCopies r.chan r.die (ledgerAt s r) s

/-- A block that failed in reading, of the ledger or of another partition. -/
def failRead (r : PageRead) (s : State) : State :=
  if s.ftl.blks.any (fun b => isBlk r.chan r.die r.blk b && b.part == ptLedger) then failLedger r.chan r.die r.blk 3 s
  else failBlk r.chan r.die r.blk 3 s

/-- What a page read leads to: a refresh above REFRESH_BITS, recovery from the other channel when uncorrectable, and
retirement at a block's second uncorrectable read (13 R443). -/
def afterRead (r : PageRead) (s : State) : State :=
  match r.bits with
  | some n => if rd s P41.REFRESH_BITS < n then bump P41.REFRESHES (rewriteRead r s) else s
  | none =>
    let s1 := bump P41.UNCORR_RECOVERED (rewriteRead r s)
    let seen := s1.ftl.blks.any (fun b => isBlk r.chan r.die r.blk b && decide (1 ≤ b.uncorr))
    let l := mapIf (isBlk r.chan r.die r.blk) (fun b => { b with uncorr := b.uncorr + 1 }) s1.ftl.blks
    let s2 := { s1 with ftl := { s1.ftl with blks := l } }
    if seen then failRead r s2 else s2

/-- A read that corrected more than REFRESH_BITS bits, or met an uncorrectable codeword (13 R443). -/
def execReadRefresh (r : PageRead) (s : State) : Host.Outcome State Fault Refusal := .next (afterRead r s)

/-- A page read by the patrol, whose thread at level 56 has been serviced (01 R35; 13 R444). -/
def execPatrolRead (r : PageRead) (s : State) : Host.Outcome State Fault Refusal :=
  .next (if granted s .patrol then
      afterRead r (spend .patrol { s with ftl := { s.ftl with lastPatrol := s.beat.ticks } })
    else s)

/-- A die is lost by staying busy, or by its grown retirements (13 R445). -/
def dieFails (s : State) (c : Chan) (die : Nat) : Bool :=
  decide (s.ftl.blocksPerDie * rd s P41.DIE_FAIL_PCT < ((assocGet (c, die) s.ftl.retiredDie).getD 0) * 100)

/-- FLASH_DIE_LOST: the record is committed, and every mapped copy of the die is written again at level 7 (13 R445). -/
def execFlashDieLost (chan : Chan) (die : Fin 16) (busy : Bool) (s : State) : Host.Outcome State Fault Refusal :=
  if (busy || dieFails s chan die.val) = true ∧ s.ftl.dieLost.contains (chan, die.val) = false then
    let s1 := { s with ftl := { s.ftl with dieLost := s.ftl.dieLost ++ [(chan, die.val)] } }
    let s2 := logEv evFlashDieLost [] (commitPending (postRec ⟨9, 0, chan, die.val, 0, 0⟩ s1))
    .next (postItem (threadItem 7 none 0 .rereplicate) (wr P41.MAP_SINGLE 1 s2))
  else .next s

/-- The mapped copies that lie on a lost die of a channel with a usable one. -/
def lostCopies (s : State) (c : Chan) : List (Nat × Nat) :=
  if (usableDies s c).isEmpty then []
  else (s.ftl.map.filter (fun m =>
    let a := if c == .c0 then m.2.1 else m.2.2
    a != 0 && s.ftl.dieLost.contains (c, addrDie a))).map Prod.fst

/-- The copies of a lost die written again; MAP_SINGLE clears with the last, while both channels have a usable die (13
R445). -/
def rereplicate (s : State) : State :=
  let s1 := (lostCopies s .c0).foldl (fun t k => writeCopy .c0 k.1 k.2 t) s
  let s2 := (lostCopies s1 .c1).foldl (fun t k => writeCopy .c1 k.1 k.2 t) s1
  if (usableDies s2 .c0).isEmpty || (usableDies s2 .c1).isEmpty then s2 else wr P41.MAP_SINGLE 0 s2

/-! Garbage collection and wear levelling (13 R446 to R449). -/

/-- The free blocks of a mapped partition on a channel (13 R446). -/
def freeBlks (s : State) (part : Nat) (c : Chan) : Nat :=
  partBlocks s part - (s.ftl.blks.filter (fun b => b.chan == c && b.part == part
    && (b.st == .opened || b.st == .closed || b.st == .pendingErase))).length

/-- The Sett level garbage collection of a mapped partition is posted at, if it is; the ledger and SYSTEM have none (13 R446).
-/
def gcLevel (s : State) (part : Nat) (c : Chan) : Option Nat :=
  let n := freeBlks s part c
  if part < 2 ∨ 6 < part then none
  else if n < 2 then some 20
  else if n < rd s P41.GC_LOW then some 36
  else if n < rd s P41.GC_START then some 50
  else none

/-- A collection of a partition and channel is queued at a level or a higher one. -/
def gcQueued (s : State) (part : Nat) (c : Chan) (l : Nat) : Bool :=
  s.sett.queue.any (fun x => x.work == .gc part c && decide (x.level ≤ l))

/-- A collection as a Sett item; an item queued at a higher number keeps its place (13 R446; 01 R41, Table 01-10). -/
def postGc (part : Nat) (c : Chan) (l : Nat) (s : State) : State :=
  if gcQueued s part c l then s
  else postItem { level := l, flow := none, thread := true, charge := 48, work := .gc part c }
    { s with ftl := { s.ftl with gcPosted := (part, c) :: s.ftl.gcPosted.filter (fun x => x != (part, c)) } }

/-- GC_POST: garbage collection posted at the level the free blocks give (13 R446; 01 R35). -/
def execGcPost (part : Nat) (chan : Chan) (s : State) : Host.Outcome State Fault Refusal :=
  .next (match gcLevel s part chan with
    | some l => postGc part chan l s
    | none => s)

/-- A block that is to be chosen before another: fewer valid pages, then fewer erases, then the lower die and block
(13 R447). -/
def chosenBefore (a b : Blk) : Bool :=
  decide (a.valid < b.valid) || (a.valid == b.valid && (decide (a.erases < b.erases) ||
    (a.erases == b.erases && (decide (a.die < b.die) || (a.die == b.die && decide (a.blk < b.blk))))))

/-- The victim of a collection (13 R447). -/
def victim (s : State) (part : Nat) (c : Chan) : Option Blk :=
  (s.ftl.blks.filter (fun b => b.chan == c && b.part == part && b.st == .closed)).foldl
    (fun m b => match m with
      | none => some b
      | some x => if chosenBefore b x then some b else some x) none

/-- A block whose pages were moved: PENDING_ERASE committed with the MAP records, then the erase waits (13 R447). -/
def pendErase (b : Blk) (s : State) : State :=
  commitPending (postRec ⟨3, b.part, b.chan, dieBlk b.die b.blk, b.erases, 0⟩
    (setBlkSt b.chan b.die b.blk b.part .pendingErase s))

/-- A block emptied: valid pages copied and verified, then its erase (13 R447). -/
def emptyBlk (b : Blk) (s : State) : State := pendErase b (relocate b.chan b.die b.blk s)

/-- One collection; the work is posted again while free blocks are below GC_START, and stops there (13 R446, R447). -/
def gcCollect (part : Nat) (c : Chan) (s : State) : State :=
  let s0 := { s with ftl := { s.ftl with gcPosted := s.ftl.gcPosted.filter (fun x => x != (part, c)) } }
  match gcLevel s0 part c, victim s part c with
  | some _, some b =>
    let s1 := emptyBlk b s0
    (match gcLevel s1 part c with
      | some l => postGc part c l s1
      | none => s1)
  | _, _ => s0

/-- The erase counts of the usable blocks of a channel; a block that no work has touched counts 0. -/
def eraseCounts (s : State) (c : Chan) : List Nat :=
  (if (freshOn s c (usableDies s c)).isSome then [0] else [])
    ++ (s.ftl.blks.filter (fun b => b.chan == c && b.st != .retired && b.st != .factoryBad)).map Blk.erases

/-- The difference between the highest and the lowest erase count of a channel (13 R449). -/
def wearSpread (s : State) (c : Chan) : Nat := (eraseCounts s c).foldl max 0 - ((eraseCounts s c).min?).getD 0

/-- Wear levelling is due: it begins beyond WL_SPREAD and ends at half of it (13 R449). -/
def levelDue (s : State) (c : Chan) : Bool :=
  decide (rd s P41.WL_SPREAD < wearSpread s c)
    || (s.ftl.levelling.contains c && decide (rd s P41.WL_SPREAD / 2 < wearSpread s c))

/-- Of free blocks, the one with the highest erase count; ties go to the lowest die and block. -/
def highestErased : List Blk → Option Blk
  | [] => none
  | b :: l => match highestErased l with
    | none => some b
    | some x => if b.erases < x.erases then some x else some b

/-- A free block with the highest count opened for a partition, and its die and block (13 R449). -/
def openWarm (c : Chan) (part : Nat) (s : State) : State × Option (Nat × Nat) :=
  match highestErased (erasedFree s c) with
  | some x => (openAgain c part x s, some (x.die, x.blk))
  | none => match freshOn s c (usableDies s c) with
    | some (d, b) => (openFresh c part d b s, some (d, b))
    | none => (s, none)

/-- The next page of one block taken. -/
def takeIn (c : Chan) (at_ : Nat × Nat) (s : State) : State × Option Nat :=
  match s.ftl.blks.find? (isBlk c at_.1 at_.2) with
  | some b => takeFrom c b s
  | none => (s, none)

/-- One copy of a mapped page moved into a block. -/
def moveCopy (c : Chan) (at_ : Nat × Nat) (part lpn : Nat) (s : State) : State :=
  match takeIn c at_ s with
  | (t, a) => copyTo c part lpn a t

/-- A segment's block on one channel is another one: its pages keep their places (13 R449). -/
def moveSeg (c : Chan) (g : Nat) (at_ : Nat × Nat) (s : State) : State :=
  let x := (assocGet g s.ftl.segBlks).getD (at_, at_)
  let y := if c == .c0 then (at_, x.2) else (x.1, at_)
  let re := fun (p : PageRec) => if (copyAt c p).1 = g then setCopy c at_.1 (copySt c p) p else p
  let t := mapGroups (fun gr => { gr with pages := gr.pages.map re }) { s with ftl := { s.ftl with segBlks := assocSet g y s.ftl.segBlks } }
  postRec ⟨6, ptLedger, .c0, g, dieBlk y.1.1 y.1.2, dieBlk y.2.1 y.2.2⟩ t

/-- The content of a block moved into a free block with the highest count; segments move by their pages (13 R449). -/
def levelBlk (b : Blk) (s : State) : State :=
  match openWarm b.chan b.part s with
  | (t, some d) =>
    let seg := (t.ftl.segBlks.find? (fun x => segBlk t b.chan x.1 == some (b.die, b.blk))).map Prod.fst
    let u := match seg with
      | some g => if b.part = ptLedger then closeBlk b.chan d b.valid (moveSeg b.chan g d t) else t
      | none => t
    bump P41.WL_MOVES (pendErase b ((pagesIn t b.chan b.die b.blk).foldl (fun u k =>
      moveCopy b.chan d k.1 k.2 u) u))
  | (t, none) => t

/-- Wear levelling, once its thread at level 52 has been serviced: the closed block with the lowest count moves to a free block
with the highest (13 R449). -/
def execWearLevelMove (chan : Chan) (s : State) : Host.Outcome State Fault Refusal :=
  let cold := s.ftl.blks.filter (fun b => b.chan == chan && b.st == .closed)
  let others := s.ftl.levelling.filter (fun c => c != chan)
  .next (if levelDue s chan = false then { s with ftl := { s.ftl with levelling := others } }
    else if granted s .wear = false then s
    else match lowestErased cold with
      | some b => levelBlk b (spend .wear { s with ftl := { s.ftl with levelling := chan :: others } })
      | none => s)

/-- The wear figure (13 R455). -/
def wearFigure (s : State) : Nat :=
  min 255 ((s.ftl.blks.map Blk.erases).foldl max 0 * 100 / max 1 (rd s P41.ENDURANCE))

/-- The 64 bytes of FTL_STATUS (13 R455). -/
def ftlStatus (s : State) : List Byte :=
  let u := fun i => s.ftl.usable.getD i 0
  let share := fun c i => if u i = 0 then 0 else heldBack s c * 10000 / u i
  leB 4 (u 0) ++ leB 4 (u 1) ++ leB 4 (s.ftl.spares.getD 0 0) ++ leB 4 (s.ftl.spares.getD 1 0) ++ leB 4 (advertised s)
    ++ leB 4 (freeSegs s) ++ leB 2 (share .c0 0) ++ leB 2 (share .c1 1) ++ leB 1 (usableDies s .c0).length
    ++ leB 1 (usableDies s .c1).length
    ++ leB 1 (rd s P41.WORN + 2 * rd s P41.MAP_SINGLE + 4 * rd s P12.NO_DIE_PAIR + 8 * rd s P41.REPLAY_REPAIRED)
    ++ leB 1 (wearFigure s) ++ leB 4 ((s.ftl.blks.map Blk.erases).foldl max 0)
    ++ leB 4 (((s.ftl.blks.map Blk.erases).min?).getD 0) ++ leB 4 s.ftl.pendRecs.length
    ++ leB 4 s.ftl.commits.length ++ leB 8 (s.ftl.wseq + 1) ++ leB 4 (rd s P41.GROWN_BAD) ++ leB 4 (rd s P41.LOST_COPIES)

/-- FTL_STATUS (13 R455). -/
def execFtlStatus (h : Hdr) (p : List Byte) (s : State) : Host.Outcome State Fault Refusal :=
  .next (runCmd h p false (fun t => .done (ftlStatus t) t) s)

end Sys2Proof.Machine
end

