-- ==== Sys2Proof/Machine/Den.lean ====
section
/-! DEFINITION. The Den governor (01 R15 to R34): sensors, the thermal limit, the energy budget, the hold-up energy and
acceptance. -/
namespace Sys2Proof.Machine

/-! Sensors (01 R23). -/

/-- A reading within −55 to +150 °C and within 15 °C of the median of the six (01 R23). -/
def readingOk (med t : Int) : Bool := decide (-55 ≤ t) && decide (t ≤ 150) && decide ((t - med).natAbs ≤ 15)

/-- One sensor after a reading: an invalid one is left out and logged; a left-out one counts valid beats (01 R23). -/
def senseOne (med : Int) (n : Nat) (t : Int) (s : State) : State :=
  let ok := readingOk med t
  let out := s.den.excluded.getD n false
  let run := if ok then s.den.validRun.getD n 0 + 1 else 0
  let s1 := { s with den := { s.den with validRun := s.den.validRun.set n run } }
  if ok || out then s1
  else logEv evDenSensorExcluded (leB 1 n) { s1 with den := { s1.den with excluded := s1.den.excluded.set n true } }

/-- The six readings of a beat (01 R23). -/
def senseAll (temps : List Int) (s : State) : State :=
  let med := medianI (temps.take 6)
  (List.range 6).foldl (fun t n => senseOne med n (temps.getD n 0) t) s

/-- The hottest reading of a sensor that is not left out (01 R23). -/
def tHot (temps : List Int) (s : State) : Option Int :=
  (((List.range 6).filter (fun n => !s.den.excluded.getD n false)).map (fun n => temps.getD n 0)).max?

/-- How many sensors are valid. -/
def validSensors (s : State) : Nat := (s.den.excluded.filter (fun x => !x)).length

/-- TH_VALID: bit n set when TH_n is valid (01 Table 01-9). -/
def thValid (s : State) : Nat :=
  ((List.range 6).map (fun n => if s.den.excluded.getD n false then 0 else 2 ^ n)).sum

/-- A left-out sensor that has read valid for 8,000 consecutive beats is used again (01 R23). -/
def execDenSensorRestored (n : Fin 6) (s : State) : Host.Outcome State Fault Refusal :=
  if s.den.excluded.getD n.val false = true ∧ 8000 ≤ s.den.validRun.getD n.val 0 then
    .next { s with den := { s.den with excluded := s.den.excluded.set n.val false } }
  else .next s

/-! Budget (01 R15 to R20, R24). -/

/-- A segment of Table 01-3, interpolated and rounded up to a whole µJ. -/
def segUp (t t0 e0 t1 e1 : Int) : Nat := (e0 + ((e1 - e0) * (t - t0) + (t1 - t0) - 1) / (t1 - t0)).toNat

/-- The static estimate by t_hot; 108 µJ when no sensor is valid (01 R18, R23, Table 01-3). -/
def eStatic : Option Int → Nat
  | none => 108
  | some t =>
    if t ≤ -40 then 8
    else if t ≤ 25 then segUp t (-40) 8 25 24
    else if t ≤ 85 then segUp t 25 24 85 60
    else if t ≤ 105 then segUp t 85 60 105 96
    else if t ≤ 110 then segUp t 105 96 110 108
    else (108 + ((t - 110) * 12 + 4) / 5).toNat

/-- e_cap: the power cap over one beat, µJ (01 R15). -/
def eCap (s : State) : Nat := rd s P04.POWER_CAP * 25 / 2

/-- The derating curve: from e_cap at T_KNEE to e_min at 108 °C (01 R24). -/
def curve (s : State) (t : Int) : Nat :=
  let knee : Int := rd s P04.T_KNEE
  if t ≤ knee then eCap s
  else if 108 ≤ t then eMin s
  else eCap s - ((eCap s - eMin s) * (t - knee).toNat + (108 - knee).toNat - 1) / (108 - knee).toNat

/-- e_thermal: it follows the curve downward, does not rise within the derating range, and returns to e_cap below
T_KNEE − 3 °C; e_min with fewer than four valid sensors (01 R24). -/
def eThermal (s : State) (hot : Option Int) : Nat :=
  if validSensors s < 4 then eMin s
  else match hot with
    | none => eMin s
    | some t =>
      if t < (rd s P04.T_KNEE : Int) - 3 then eCap s
      else if s.den.derating then min s.den.eThermal (min (eCap s) (curve s t))
      else min (eCap s) (curve s t)

/-- e_disc of R15, 0 while t_hot is above 110 °C (01 R15, R18). -/
def eDisc (s : State) (hot : Option Int) (eBeat : Nat) : Nat :=
  match hot with
  | some t => if t > 110 then 0 else eBeat - eStatic hot - baseLoads s - 24
  | none => eBeat - eStatic hot - baseLoads s - 24

/-- DEN_SENSORS_LOST, once when fewer than four sensors become valid (01 R24). -/
def sensorsLost (s : State) : State :=
  if validSensors s < 4 then
    (if s.den.sensorsLost then s
     else logEv evDenSensorsLost [] { s with den := { s.den with sensorsLost := true } })
  else { s with den := { s.den with sensorsLost := false } }

/-- The Den's budget for the next beat (01 R15, R23 to R26). -/
def denBudget (temps : List Int) (s0 : State) : State :=
  let s := sensorsLost (senseAll temps s0)
  let hot := tHot temps s
  let th := eThermal s hot
  let eb := min (eCap s) th
  let low := decide (th < eCap s)
  let hotRun := match hot with
    | some t => if 110 ≤ t then s.den.hotRun + 1 else 0
    | none => 0
  wrB P04.TRIM_THERMAL low (wr P04.TH_VALID (thValid s) (wrS P04.T_HOT (hot.getD 0)
    { s with den := { s.den with eBeat := eb, eDisc := eDisc s hot eb, eThermal := th, derating := low, tHot := hot,
                                 hotRun := hotRun } }))

/-! Hold-up energy and acceptance (01 R27 to R32). -/

/-- The node voltage in mV of a sample in µV at the sense pin, rounded down to whole mV before it is squared: the rule
states no rounding (01 R27; log 113, DESIGN CHOICE). -/
def nodeMv (s : State) (sample : Nat) : Nat := sample * rd s P04.HOLD_DIV / 256 / 1000

/-- c_eff in units of 100 µF (01 R27). -/
def cEff (s : State) : Nat :=
  if rd s P04.C_MEAS = 0 then rd s P04.HOLD_C else min (rd s P04.HOLD_C) (rd s P04.C_MEAS)

/-- The unit in which the model holds hold-up energies: 1 mJ is 20,000,000 of c·Δ(v²) (01 R27). -/
def mJ20 : Nat := 20000000

/-- e_hold from the lowest sample of the beat, never above 2.000 J (01 R27). -/
def eHold20 (s : State) (lowest : Nat) : Nat :=
  let v := nodeMv s lowest
  let vm := rd s P04.HOLD_VMIN
  if v ≤ vm then 0 else min (cEff s * (v * v - vm * vm)) (2000 * mJ20)

/-- e_avail in mJ (01 R27). -/
def eAvail (s : State) (e20 : Nat) : Nat := e20 * (100 - rd s P04.MARGIN) / (100 * mJ20)

/-- p, the page pairs the node can flush (01 R27). -/
def pagePairs (s : State) (avail : Nat) : Nat := (avail - rd s P04.E_FIXED) * 1000 / (2 * rd s P04.E_PAGE)

/-- The least p that opens acceptance, L_MIN + 2 (01 R28). -/
def pNeed (s : State) : Nat := lMin s + 2

/-- The stated minimum hold-up energy, whole mJ (01 R28). -/
def statedMin (s : State) : Nat :=
  ceilDiv ((rd s P04.E_FIXED + ceilDiv (pNeed s * 2 * rd s P04.E_PAGE) 1000) * 100) (100 - rd s P04.MARGIN)

/-- The energy at which acceptance stopped; the stated minimum before it first opened (01 R28). -/
def stopLevel (s : State) : Nat := if s.den.everOpened then s.den.stop20 else statedMin s * mJ20

/-- The hold-up node counts as absent (01 R32). -/
def nodeAbsent (s : State) : Bool := rd s P04.HOLD_C == 0 || rd s P04.HOLD_DIV == 0

/-- Acceptance stops below L_MIN + 2 page pairs, and opens again with 10 % more energy than when it stopped. The page pairs
alone decide, also where the map share or the page size makes l fall below L_MIN with p at L_MIN + 2 or above: the rule
states the two as one condition (01 R28; log 113, DESIGN CHOICE). -/
def holdAccept (p e20 : Nat) (s : State) : State :=
  if rdB s P04.ACCEPT_STOPPED then
    (if nodeAbsent s = false ∧ pNeed s ≤ p ∧ stopLevel s * 11 ≤ e20 * 10 then
      wr P04.ACCEPT_STOPPED 0 { s with den := { s.den with everOpened := true } }
    else s)
  else if p < pNeed s ∨ nodeAbsent s = true then
    logEv evHoldupLow [] (wr P04.ACCEPT_STOPPED 1 { s with den := { s.den with stop20 := e20 } })
  else s

/-- TRIM_HOLDUP (01 R26). -/
def trimHoldup (s : State) : Bool :=
  s.pwr.mode != .holdup && (rdB s P04.ACCEPT_STOPPED || decide (rd s P04.LIMIT_L ≤ inFlight s)
    || decide (rd s P04.LIMIT_M ≤ mapState s))

/-- RUN and TRIM follow the two bits (01 R26; 17 R528). -/
def trimMode (s : State) : State :=
  if running s then { s with pwr := { s.pwr with mode := if trimBits s then .trim else .run } } else s

/-- The Den's hold-up results of a beat, from the lowest of its samples (01 R26 to R30). -/
def denHoldup (sense : List Nat) (s : State) : State :=
  let e20 := eHold20 s ((sense.min?).getD 0)
  let p := pagePairs s (eAvail s e20)
  let m := max 2 (p / max 1 (rd s P04.MAP_SHARE))
  let avg := (s.den.nodeAvg ++ [if sense.isEmpty then 0 else sense.sum / sense.length])
  let s1 := wr P04.LIMIT_M m (wr P04.LIMIT_L (p - m) (wr P04.E_HOLD (e20 / mJ20)
    { s with den := { s.den with e20 := e20, pairsP := p, nodeAvg := avg.drop (avg.length - 8) } }))
  let s2 := holdAccept p e20 s1
  trimMode (wrB P04.TRIM_HOLDUP (trimHoldup s2) s2)

/-- A limit below the state that exists stops its growth and demands a map checkpoint from the FTL; HOLDUP_LOW records that
it came so (01 R29; assumption log 106). -/
def demandCheckpoint (s : State) : State :=
  if rd s P04.LIMIT_M < mapState s ∨ rd s P04.LIMIT_L < inFlight s then
    let t := { s with den := { s.den with demand := true, exceeded := true } }
    if s.den.exceeded then t else logEv evHoldupLow [] t
  else { s with den := { s.den with exceeded := false } }

/-- The average sample of the previous 8 beats (01 R33). -/
def nodeAverage (s : State) : Nat := if s.den.nodeAvg.isEmpty then 0 else s.den.nodeAvg.sum / s.den.nodeAvg.length

/-- A sample is below V_DETECT percent of the averaged node voltage (01 R33). -/
def belowDetect (s : State) (sample : Nat) : Bool :=
  decide (sample * 100 < nodeAverage s * rd s P04.V_DETECT)

end Sys2Proof.Machine
end

