-- ==== Sys2Proof/Machine/Sett.lean ====
section
/-! DEFINITION. The Sett dispatcher (01 R35 to R42): one dispatch pass, owed items, and HOLD. -/
namespace Sys2Proof.Machine

/-- A dispatch pass under way: energy and commit reserve left, free cores, flows in service, the level whose rest waits,
the level of an owed item that waits, what was dispatched and what stays queued, and the levels of items deferred. -/
structure Pass where
  remaining : Nat
  reserve : Nat
  cores : Nat
  flows : List Nat
  waits : Option Nat
  owedAt : Option Nat
  out : List SettItem
  kept : List SettItem
  deferred : List Nat
  deriving DecidableEq, Repr

/-- An item stays in its queue; an owed one blocks the lower levels (01 R37). -/
def Pass.keep (x : Pass) (i : SettItem) : Pass :=
  { x with kept := x.kept ++ [i], owedAt := if i.owed && x.owedAt.isNone then some i.level else x.owedAt }

/-- An item is dispatched: levels 0 to 3 draw the commit reserve first (01 R20, R36); its run and owed mark end. -/
def Pass.take (x : Pass) (i : SettItem) : Pass :=
  let fromReserve := if i.level < 4 then min i.charge x.reserve else 0
  { x with out := x.out ++ [{ i with run := 0, owed := false, holds := false }], reserve := x.reserve - fromReserve,
           remaining := x.remaining - (i.charge - fromReserve),
           cores := if i.thread then x.cores - 1 else x.cores,
           flows := match i.flow with
             | some f => if i.holds then x.flows else x.flows ++ [f]
             | none => x.flows }

/-- An item's flow is in service by another item; one that did not complete keeps its own flow (01 R38). -/
def Pass.busy (x : Pass) (i : SettItem) : Bool :=
  match i.flow with
  | some f => x.flows.contains f && !i.holds
  | none => false

/-- One item of the pass of R36. -/
def Pass.step (x : Pass) (i : SettItem) : Pass :=
  let blocked := decide (4 ≤ i.level) && (match x.owedAt with
    | some l => decide (l < i.level)
    | none => false)
  if x.busy i || blocked || x.waits == some i.level then x.keep i
  else if i.thread && x.cores == 0 then { x.keep i with waits := some i.level }
  else if x.remaining + (if i.level < 4 then x.reserve else 0) < i.charge then
    { x.keep { i with run := i.run + 1 } with waits := some i.level, deferred := x.deferred ++ [i.level] }
  else x.take i

/-- The whole pass over the queue, in level and posting order (01 R36). -/
def Pass.run (x : Pass) (q : List SettItem) : Pass := q.foldl Pass.step x

/-- The flows whose unsealing job is on a lane: the lane services the item of the flow (01 R38; 04 R128). -/
def laneFlows (s : State) : List Nat :=
  (s.keys.lanes.flatMap (fun l => l.job.toList ++ l.suspended)).filterMap (fun r =>
    if r.job.poster = .infeed then some (r.job.mix % 1024) else none)

/-- The items that the pass considers: all, but after mains loss the hold-up flush, with the commits and journal that it
writes (01 R33). -/
def mayRun (s : State) (i : SettItem) : Bool :=
  s.pwr.mode != .holdup || i.work == .commit || i.work == .task .flush || i.work == .task .journal

/-- The pass of a beat: e_disc, the commit reserve and 16 cores (01 R20, R36). -/
def settPass (s : State) : Pass :=
  Pass.run { remaining := s.den.eDisc, reserve := 24, cores := 16, flows := s.sett.inService ++ laneFlows s, waits := none,
             owedAt := none, out := [], kept := [], deferred := [] } (s.sett.queue.filter (mayRun s))

/-- What the pass left in the queue, with what it did not consider, by level. -/
def keptQueue (s : State) (x : Pass) : List SettItem :=
  if s.pwr.mode = .holdup then
    (List.range 64).flatMap (fun l => x.kept.filter (fun i => i.level == l)
      ++ s.sett.queue.filter (fun i => i.level == l && !mayRun s i))
  else x.kept

/-- Deferrals counted by level and in the period field (16 Tables 16-3, 16-4). -/
def countDeferred (l : List Nat) (s : State) : State :=
  l.foldl (fun t v => count 0x01 v 1 t)
    { s with ctr := { s.ctr with perDeferred := satAdd 32 s.ctr.perDeferred l.length } }

/-- The dispatch of a beat before the dispatched work runs: the queue keeps what was not dispatched, energy left lapses,
and the beats with an owed item, with HOLD and with deferrals are counted (01 R16, R36, R37; 16 Table 16-3). -/
def settDispatch (s : State) : State × List SettItem :=
  let x := settPass s
  let owed := s.sett.queue.any (fun i => i.owed)
  let held := s.sett.hold.contains true
  let s1 := countDeferred x.deferred
    { s with sett := { s.sett with queue := keptQueue s x, inService := s.sett.inService ++ x.flows.drop (s.sett.inService.length + (laneFlows s).length),
                                   lapsed := x.remaining } }
  let s2 := if owed then count 0x02 0 1 s1 else s1
  let s3 := (List.range 32).foldl (fun t n => if s.sett.hold.getD n false then count 0x03 n 1 t else t) s2
  let s4 := { s3 with ctr := { s3.ctr with perHold := satAdd 32 s3.ctr.perHold (b2n held) } }
  (count 0x15 0 x.remaining s4, x.out)

/-- An item deferred for energy in 8 beats of one run becomes owed; a mark clears only when its item is dispatched (01 R37). Of
the items that reach 8 beats, those of the highest level are marked. -/
def execItemOwed (s : State) : Host.Outcome State Fault Refusal :=
  let l := (s.sett.queue.filter (fun i => decide (8 ≤ i.run))).map SettItem.level
  match l.min? with
  | some v =>
    let mark := fun (i : SettItem) => { i with owed := i.owed || (decide (i.level = v) && decide (8 ≤ i.run)) }
    .next { s with sett := { s.sett with queue := s.sett.queue.map mark } }
  | none => .next s

end Sys2Proof.Machine
end

