-- ==== Sys2Proof/Machine/Fifo.lean ====
section
/-! DEFINITION. Engine FIFOs (04 R127; 14 R471 to R473), source queues and HOLD (01 R41, R42). -/
namespace Sys2Proof.Machine

/-- The engine FIFO of a way in (04 Table 04-1). -/
def efOf : Way → Nat
  | .slow => 0
  | .batch _ => 1
  | .radio n => n + 2
  | .plc n => n + 17
  | .stream n _ => n + 21

/-- The 16-byte words of a packet: a header word and the frame (14 R471). -/
def itemWords (it : FifoItem) : Nat := 1 + ceilDiv it.frame.length 16

/-- An engine FIFO. -/
def fifoAt (s : State) (n : Nat) : Fifo := s.memory.fifos.getD n {}

/-- An engine FIFO replaced. -/
def setFifo (n : Nat) (f : Fifo) (s : State) : State :=
  { s with memory := { s.memory with fifos := s.memory.fifos.set n f } }

/-- The packets that an engine FIFO holds, oldest first. -/
def fifoItems (s : State) (n : Nat) : List FifoItem :=
  ((fifoAt s n).closedB.map Bank.items).flatten ++ (((fifoAt s n).opened.map Bank.items).getD [])

/-- The words left in the open bank (14 R476). -/
def bankRoom (f : Fifo) : Nat :=
  match f.opened with
  | some b => 512 - b.used
  | none => 0

/-- The other bank is free: the open bank and at most one closed bank exist (14 R471, R472). -/
def otherFree (f : Fifo) : Bool :=
  match f.opened with
  | some _ => f.closedB.isEmpty
  | none => decide (f.closedB.length < 2)

/-- The open bank closed after its last complete packet; the other bank opens if it is free (14 R472). -/
def closeBank (f : Fifo) : Fifo :=
  match f.opened with
  | some b =>
    if b.items.isEmpty then f
    else { opened := if f.closedB.isEmpty then some {} else none, closedB := f.closedB ++ [{ b with closed := true }] }
  | none => f

/-- A packet written into the open bank. -/
def Bank.put (b : Bank) (it : FifoItem) (w : Nat) : Bank := { b with items := b.items ++ [it], used := b.used + w }

/-- A packet of `w` words written: into the open bank, or into the other bank once the open one has closed; none when
neither has room; a bank that is full closes (14 R472). -/
def putItemW (n : Nat) (it : FifoItem) (w : Nat) (s : State) : Option State :=
  let f := if bankRoom (fifoAt s n) < w then closeBank (fifoAt s n) else fifoAt s n
  match f.opened with
  | some b =>
    let g := { f with opened := some (b.put it w) }
    if b.used + w ≤ 512 then some (setFifo n (if b.used + w = 512 then closeBank g else g) s) else none
  | none => none

/-- A packet written: a header word and its frame. -/
def putItem (n : Nat) (it : FifoItem) (s : State) : Option State := putItemW n it (itemWords it) s

/-- There is room for a packet of so many words. -/
def hasRoom (s : State) (n w : Nat) : Bool :=
  decide (w ≤ bankRoom (fifoAt s n)) || (otherFree (fifoAt s n) && decide (w ≤ 512))

/-- A FIFO is under HOLD (01 R41). -/
def underHold (s : State) (n : Nat) : Bool := s.sett.hold.getD n false

/-- A producer may put a packet: room in a bank; a FIFO under HOLD still fills its banks (01 R42). -/
def efTakes (s : State) (n w : Nat) : Bool := hasRoom s n w

/-- Packets taken from the closed banks in the order they closed; a bank whose last packet is read returns to its
producer (14 R473). -/
def takeClosed : Nat → Fifo → List FifoItem × Fifo
  | 0, f => ([], f)
  | k + 1, f =>
    match f.closedB with
    | [] => ([], f)
    | b :: l =>
      match b.items with
      | [] => takeClosed k { opened := if f.opened.isNone then some {} else f.opened, closedB := l }
      | it :: rest =>
        let g : Fifo := if rest.isEmpty then { opened := if f.opened.isNone then some {} else f.opened, closedB := l }
          else { f with closedB := { b with items := rest } :: l }
        let (its, h) := takeClosed k g
        (it :: its, h)

/-- The open bank of a FIFO closes at a beat boundary with a complete packet and none in progress: a frame of a radio
channel or a phase with a reserved place is one in progress (08 R266; 09 R308; 14 R472). -/
def execFifoBankClose (ef : Fin 32) (s : State) : Host.Outcome State Fault Refusal :=
  let inProgress := decide (21 ≤ ef.val) && decide (ef.val ≤ 28)
    && ((s.memory.streams.getD (ef.val - 21) {}).part).isSome
    || decide (2 ≤ ef.val) && decide (ef.val ≤ 17) && (s.radio.chans.getD (ef.val - 2) {}).rx.any RadRx.reserved
    || decide (18 ≤ ef.val) && decide (ef.val ≤ 20) && (s.plc.phases.getD (ef.val - 18) {}).rx.any PlcRx.reserved
  .next (if inProgress then s else setFifo ef.val (closeBank (fifoAt s ef.val)) s)

/-- The items of a FIFO that Infeed has taken and Grade has not yet finished: its source queue (01 R41). -/
def sourceQueue (s : State) (n : Nat) : Nat :=
  let job := fun (j : UnsealJob) => match j.work with
    | .norm _ => 0
    | _ => efOf j.item.way
  let frame := fun (f : FrameRec) => if f.slow then 0 else efOf f.way
  (s.infeed.jobs.filter (fun j => job j == n)).length
    + (s.infeed.frames.filter (fun f => frame f == n && s.grade.queue.any (fun g => g.frame == f.id))).length

/-- HOLD asserted at 384 items (01 R41). -/
def execHoldAssert (ef : Fin 32) (s : State) : Host.Outcome State Fault Refusal :=
  .next (if 384 ≤ sourceQueue s ef.val then { s with sett := { s.sett with hold := s.sett.hold.set ef.val true } } else s)

/-- HOLD released once the queue has fallen to 256 items (01 R41). -/
def execHoldRelease (ef : Fin 32) (s : State) : Host.Outcome State Fault Refusal :=
  .next (if sourceQueue s ef.val ≤ 256 then { s with sett := { s.sett with hold := s.sett.hold.set ef.val false } }
         else s)

end Sys2Proof.Machine
end

