-- ==== Sys2Proof/Machine/Cif.lean ====
section
/-! DEFINITION. Meter frames decoded (04 R135 to R141): the Compact Interval Frame, the DLMS wrapper, COSEM dates and
profile templates. -/
namespace Sys2Proof.Machine

/-- The interval of a code in seconds, 0 for a reserved code (04 Table 04-7). -/
def intervalSec : Nat → Nat
  | 1 => 60
  | 2 => 300
  | 3 => 600
  | 4 => 900
  | 5 => 1800
  | 6 => 3600
  | 7 => 86400
  | _ => 0

/-! The Compact Interval Frame (04 Tables 04-5, 04-6). -/

/-- A signed little-endian value of `n` bytes at the front of a byte string. -/
def takeS (n : Nat) (l : List Byte) : Option (Int × List Byte) :=
  if l.length < n then none else some (toS (8 * n) (ofLE (l.take n)), l.drop n)

/-- A value in the signed 64-bit range. -/
def inS64 (v : Int) : Bool := decide (-(2 ^ 63) ≤ v) && decide (v < 2 ^ 63)

/-- A value as a field of 64 bits holds it; what it holds beyond that range is free (05 Table 05-2; log 111). -/
def cut64 (v : Int) : Int := if inS64 v then v else toS 64 (Config.wide64 v)

/-- The further values of a channel block: absolute, or differences from the value before (04 Table 04-6). -/
def moreValues (aw dw : Nat) (prev : Int) : Nat → List Byte → Option (List Int × List Byte)
  | 0, l => some ([], l)
  | n + 1, l =>
    match takeS (if dw = 0 then aw else dw) l with
    | some (x, l1) =>
      let v := if dw = 0 then x else cut64 (prev + x)
      match moreValues aw dw v n l1 with
      | some (vs, l2) => some (v :: vs, l2)
      | none => none
    | none => none

/-- One channel block of `n` values: encoding byte, oldest value, the rest (04, after Table 04-6; R135). -/
def cifBlock (n : Nat) (l : List Byte) : Option (List Int × List Byte) :=
  let aw := byteAt l 0 / 16
  let dw := byteAt l 0 % 16
  if l.isEmpty || aw == 0 || decide (8 < aw) || decide (4 < dw) then none
  else match takeS aw (l.drop 1) with
    | some (v, l1) => match moreValues aw dw v (n - 1) l1 with
      | some (vs, l2) => some (v :: vs, l2)
      | none => none
    | none => none

/-- The readings of one block: value j of n ends (n − 1 − j) intervals before LAST_END. -/
def blockRdgs (ch lastEnd len n : Nat) (vs : List Int) : List Rdg :=
  (vs.zip (List.range n)).map (fun x => ⟨ch, lastEnd - (n - 1 - x.2) * len, x.1, len⟩)

/-- The blocks of the channels of CH_MASK in ascending order; they end exactly at the end of the body (04 R135). -/
def cifBlocks (lastEnd len n : Nat) : List Nat → List Byte → Option (List Rdg)
  | [], l => if l.isEmpty then some [] else none
  | ch :: chs, l =>
    match cifBlock n l with
    | some (vs, l1) => match cifBlocks lastEnd len n chs l1 with
      | some rs => some (blockRdgs ch lastEnd len n vs ++ rs)
      | none => none
    | none => none

/-- The channels of a mask in ascending order. -/
def maskChans (m : Nat) : List Nat := (List.range 16).filter (fun c => bitAt m c)

/-- The readings, meter status and LAST_END of a CIF body; none for a malformed one (04 Table 04-6, R135). -/
def cifBody (b : List Byte) : Option (List Rdg × Nat × Nat) :=
  let len := intervalSec (byteAt b 5 / 16)
  let n := byteAt b 5 % 16 + 1
  let mask := leAt b 6 2
  if b.length < 10 ∨ len = 0 ∨ mask = 0 then none
  else match cifBlocks (leAt b 0 5) len n (maskChans mask) (b.drop 10) with
    | some rs => some (rs, leAt b 8 2, leAt b 0 5)
    | none => none

/-- A CIF frame is well formed before unsealing: VERSION, TYPE, length (04 R135). -/
def cifHeaderOk (f : List Byte) : Bool :=
  byteAt f 0 / 32 == 1 && byteAt f 0 % 4 != 3 && decide (f.length ≤ 1024)
    && decide ((if bitAt (byteAt f 0) 4 then 27 else 15) ≤ f.length)

/-! The DLMS wrapper (04 R138). -/

/-- A length in A-XDR form, and the bytes after it. -/
def axdrLen (l : List Byte) : Option (Nat × List Byte) :=
  let b := byteAt l 0
  if l.isEmpty then none
  else if b < 128 then some (b, l.drop 1)
  else if l.length < 1 + (b - 128) ∨ b - 128 > 4 then none
  else some (beAt l 1 (b - 128), l.drop (1 + (b - 128)))

/-- The security control byte and invocation counter of a general-glo-ciphering APDU the hardware path takes (04
R138). -/
def dlmsWrapper (f : List Byte) : Option (Nat × Nat) :=
  if byteAt f 0 ≠ 0xDB ∨ byteAt f 1 ≠ 8 then none
  else match axdrLen (f.drop 10) with
    | some (n, l) =>
      if l.length = n ∧ 17 ≤ n ∧ (byteAt l 0 = 0x30 ∨ byteAt l 0 = 0x10) then some (byteAt l 0, beAt l 1 4) else none
    | none => none

/-! COSEM date-times (04 R140). -/

/-- Days from 1970-01-01 to a date of the proleptic Gregorian calendar. -/
def civilDays (y m d : Nat) : Int :=
  let y' : Int := if m ≤ 2 then (y : Int) - 1 else y
  let era := y' / 400
  let yoe := y' - era * 400
  let mp : Int := if m > 2 then (m : Int) - 3 else (m : Int) + 9
  let doy := (153 * mp + 2) / 5 + (d : Int) - 1
  era * 146097 + (yoe * 365 + yoe / 4 - yoe / 100 + doy) - 719468

/-- What a COSEM date-time gives: malformed, or legal seconds and whether its clock is untrusted (04 R140). A year is
malformed when either of its two bytes is 0xFF (DESIGN CHOICE, log 110). -/
def cosemTime (s : State) (devInvert : Bool) (b : List Byte) : Option (Int × Bool) :=
  let y := beAt b 0 2
  let mo := byteAt b 2
  let d := byteAt b 3
  let hh := byteAt b 5
  let mi := byteAt b 6
  let ss := byteAt b 7
  if b.length < 12 ∨ y = 0xFFFF ∨ byteAt b 0 = 0xFF ∨ byteAt b 1 = 0xFF ∨ mo = 0xFF ∨ d = 0xFF ∨ hh = 0xFF ∨ mi = 0xFF
      ∨ ss = 0xFF then none
  else
    let raw := beAt b 9 2
    let dev : Int := if raw = 0x8000 then rdS s P10.DEFAULT_DEVIATION 0
      else if devInvert then -(toS 16 raw) else toS 16 raw
    let loc := civilDays y mo d * 86400 + hh * 3600 + mi * 60 + ss
    some (loc - dev * 60 + rd s P10.UTC_TAI, bitAt (byteAt b 11) 0 || bitAt (byteAt b 11) 1)

/-! Profile templates (04 Tables 04-9, 04-10, R141). -/

/-- A-XDR data elements skipped: so many elements are still to come (assumption log 12 for the tags). -/
def skipData : Nat → Nat → List Byte → Option (List Byte)
  | _, 0, l => some l
  | 0, _, _ => none
  | fuel + 1, k + 1, l =>
    let fixed := fun n => if l.length < 1 + n then none else skipData fuel k (l.drop (1 + n))
    match byteAt l 0 with
    | 0x00 => if l.isEmpty then none else fixed 0
    | 0x01 => match axdrLen (l.drop 1) with
      | some (n, l1) => skipData fuel (k + n) l1
      | none => none
    | 0x02 => match axdrLen (l.drop 1) with
      | some (n, l1) => skipData fuel (k + n) l1
      | none => none
    | 0x03 => fixed 1
    | 0x04 => match axdrLen (l.drop 1) with
      | some (n, l1) => if l1.length < ceilDiv n 8 then none else skipData fuel k (l1.drop (ceilDiv n 8))
      | none => none
    | 0x05 => fixed 4
    | 0x06 => fixed 4
    | 0x09 => match axdrLen (l.drop 1) with
      | some (n, l1) => if l1.length < n then none else skipData fuel k (l1.drop n)
      | none => none
    | 0x0A => match axdrLen (l.drop 1) with
      | some (n, l1) => if l1.length < n then none else skipData fuel k (l1.drop n)
      | none => none
    | 0x0C => match axdrLen (l.drop 1) with
      | some (n, l1) => if l1.length < n then none else skipData fuel k (l1.drop n)
      | none => none
    | 0x0D => fixed 1
    | 0x0F => fixed 1
    | 0x10 => fixed 2
    | 0x11 => fixed 1
    | 0x12 => fixed 2
    | 0x14 => fixed 8
    | 0x15 => fixed 8
    | 0x16 => fixed 1
    | 0x17 => fixed 4
    | 0x18 => fixed 8
    | 0x19 => fixed 12
    | 0x1A => fixed 5
    | 0x1B => fixed 4
    | _ => none

/-- One integer element: signedness and width by tag, and the value; `none` when the tag is no integer (04 Table
04-10, VALUE). -/
def axdrInt (l : List Byte) : Option (Int × List Byte) :=
  let go := fun n signed => if l.length < 1 + n then none
    else some ((if signed then toS (8 * n) (beAt l 1 n) else (beAt l 1 n : Int)), l.drop (1 + n))
  match byteAt l 0 with
  | 0x0F => go 1 true
  | 0x10 => go 2 true
  | 0x11 => go 1 false
  | 0x12 => go 2 false
  | 0x05 => go 4 true
  | 0x06 => go 4 false
  | 0x14 => go 8 true
  | 0x15 => go 8 false
  | _ => none

/-- A row being built: its end when a TIME step gave one, and its values. -/
structure TplRow where
  time : Option Int := none
  vals : List (Nat × Int) := []
  deriving DecidableEq, Repr

/-- A template being run over an APDU: bytes left, the current row, meter status, and whether the frame is malformed. -/
structure TplRun where
  left : List Byte
  row : TplRow := {}
  mstatus : Nat := 0
  bad : Bool := false
  deriving DecidableEq, Repr

/-- The status bits a STATUS step maps: source bit k becomes the meter status bit of nibble k, 0xF ignores it. -/
def mapStatus (d src : Nat) : Nat :=
  (List.range 8).foldl (fun a k =>
    let n := d / 16 ^ k % 16
    if bitAt src k && n != 15 then Nat.lor a (2 ^ n) else a) 0

/-- One step of a template outside its array marks; none when the frame does not match (04 Table 04-10). -/
def tplStep (s : State) (devInvert : Bool) (st : Nat × Nat × Nat × Nat × Nat) (x : TplRun) : Option TplRun :=
  let (op, a, b, _, d) := st
  match op with
  | 0x00 => if x.left.isEmpty then some x else none
  | 0x01 => if x.left.length < a ∨ leAt x.left 0 a ≠ d % 256 ^ a then none else some { x with left := x.left.drop a }
  | 0x02 => if x.left.length < a then none else some { x with left := x.left.drop a }
  | 0x03 => match skipData 4096 1 x.left with
    | some l => some { x with left := l }
    | none => none
  | 0x04 =>
    let n := if byteAt x.left 0 = 0x09 ∧ byteAt x.left 1 = 0x0C then 2 else if byteAt x.left 0 = 0x19 then 1 else 0
    if n = 0 ∨ x.left.length < n + 12 then none
    else match cosemTime s devInvert (sliceB x.left n 12) with
      | some (t, inv) => some { x with left := x.left.drop (n + 12), row := { x.row with time := some t },
                                       mstatus := if inv then Nat.lor x.mstatus 1 else x.mstatus }
      | none => some { x with bad := true, left := x.left.drop (n + 12) }
  | 0x05 => match axdrInt x.left with
    | some (v, l) =>
      let w := v * (10 : Int) ^ b
      some { x with left := l, row := { x.row with vals := x.row.vals ++ [(a, w)] },
                    bad := x.bad || !inS64 v || !inS64 w }
    | none => none
  | 0x06 =>
    if byteAt x.left 0 = 0x11 ∧ 2 ≤ x.left.length then
      some { x with left := x.left.drop 2, mstatus := Nat.lor x.mstatus (mapStatus d (byteAt x.left 1)) }
    else if byteAt x.left 0 = 0x12 ∧ 3 ≤ x.left.length then
      some { x with left := x.left.drop 3, mstatus := Nat.lor x.mstatus (mapStatus d (byteAt x.left 2)) }
    else none
  | 0x09 => if byteAt x.left 0 = 0x02 ∧ byteAt x.left 1 = a ∧ 2 ≤ x.left.length then
      some { x with left := x.left.drop 2 } else none
  | _ => some x

/-- Steps run in order. -/
def tplSteps (s : State) (devInvert : Bool) : List (Nat × Nat × Nat × Nat × Nat) → TplRun → Option TplRun
  | [], x => some x
  | st :: l, x => match tplStep s devInvert st x with
    | some y => tplSteps s devInvert l y
    | none => none

/-- The elements of an array, each one row (04 Table 04-10, ARRAY_BEGIN). -/
def tplArray (s : State) (devInvert : Bool) (body : List (Nat × Nat × Nat × Nat × Nat)) :
    Nat → TplRun → Option (TplRun × List TplRow)
  | 0, x => some (x, [])
  | n + 1, x => match tplSteps s devInvert body { x with row := {} } with
    | some y => match tplArray s devInvert body n y with
      | some (z, rows) => some (z, y.row :: rows)
      | none => none
    | none => none

/-- What trying a template comes to (04 R139, R141). -/
inductive TplRes where
  | noMatch
  | malformed
  | took (rdgs : List Rdg) (mstatus lastEnd : Nat)
  deriving DecidableEq, Repr

/-- The ends of rows, from the last: a row without TIME ends one interval before the row after it, the last one at the
frame's date-time (04 R141). -/
def rowEnds (len : Nat) (final : Option Int) : List TplRow → Option (List (Int × TplRow))
  | [] => some []
  | r :: l =>
    match rowEnds len final l with
    | some ends =>
      let after : Option Int := match ends with
        | [] => final
        | e :: _ => some (e.1 - len)
      match r.time, after with
      | some t, _ => some ((t, r) :: ends)
      | none, some t => some ((t, r) :: ends)
      | none, none => none
    | none => none

/-- Times rise strictly. -/
def strictUp : List Int → Bool
  | a :: b :: l => decide (a < b) && strictUp (b :: l)
  | _ => true

/-- The readings of rows with their ends. -/
def rowRdgs (len : Nat) (l : List (Int × TplRow)) : List Rdg :=
  (l.map (fun x => x.2.vals.map (fun v => (⟨v.1, x.1.toNat, v.2, len⟩ : Rdg)))).flatten

/-- The steps of a template run over an APDU: arrays in their order, each with the rows it gives (04 R141). -/
def tplRun (s : State) (inv : Bool) : Nat → List (Nat × Nat × Nat × Nat × Nat) → TplRun → Option (TplRun × List (List TplRow))
  | 0, _, x => some (x, [])
  | _, [], x => some (x, [])
  | fuel + 1, st :: l, x =>
    if st.1 = 0x07 then
      match axdrLen (x.left.drop 1) with
      | some (n, r) =>
        if byteAt x.left 0 = 0x01 ∧ 1 ≤ n ∧ n ≤ 16 then
          match tplArray s inv (l.takeWhile (fun y => y.1 != 0x08)) n { x with left := r } with
          | some (y, rows) =>
            (match tplRun s inv fuel ((l.dropWhile (fun z => z.1 != 0x08)).drop 1) { y with row := x.row } with
              | some (z, more) => some (z, rows :: more)
              | none => none)
          | none => none
        else none
      | none => none
    else match tplStep s inv st x with
      | some y => tplRun s inv fuel l y
      | none => none

/-- Every array's rows with their ends; none when a row is unusable. -/
def allEnds (len : Nat) (date : Option Int) : List (List TplRow) → Option (List (List (Int × TplRow)))
  | [] => some []
  | a :: l => match rowEnds len date a, allEnds len date l with
    | some x, some y => some (x :: y)
    | _, _ => none

/-- A template tried on a notification body; the rows of each array rise by themselves (04 R139, R141; DEDUCED, log 110). -/
def tplTry (s : State) (t : Template) (date : Option Int) (body : List Byte) : TplRes :=
  let len := intervalSec t.interval
  match tplRun s (bitAt t.flags 1) (t.steps.length + 1) t.steps { left := body } with
  | none => .noMatch
  | some (z, arrays) =>
    let outer := if z.row.vals.isEmpty then [] else [z.row]
    if z.bad then .malformed
    else match allEnds len date (arrays ++ [outer]) with
      | some rs =>
        let all := rs.flatten
        if !(rs.all (fun r => strictUp (r.map Prod.fst))) || all.any (fun e => decide (e.1 < 0)) then .malformed
        else .took (rowRdgs len all) z.mstatus ((all.map (fun e => e.1.toNat)).foldl max 0)
      | none => if bitAt t.flags 0 then .noMatch else .malformed

/-- A template tried with the frame's own date-time, if it has one (04 R139 to R141). -/
def tplDated (s : State) (t : Template) (date : Option (List Byte)) (body : List Byte) : TplRes :=
  match date with
  | none => tplTry s t none body
  | some b => match cosemTime s (bitAt t.flags 1) b with
    | some (d, bad) => match tplTry s t (some d) body with
      | .took r m e => .took r (if bad then Nat.lor m 1 else m) e
      | r => r
    | none => .malformed

/-- The first of several templates that matches (04 R139). -/
def tplFirst (s : State) (date : Option (List Byte)) (body : List Byte) : List Template → TplRes
  | [] => .noMatch
  | t :: l => match tplDated s t date body with
    | .noMatch => tplFirst s date body l
    | r => r

/-- A data-notification cut short inside its date-time is malformed (DESIGN CHOICE, log 110). A data-notification decoded: invoke id, optional date-time, body against the meter's template or every loaded one in
index order (04 R139). -/
def dlmsBody (s : State) (template : Nat) (p : List Byte) : TplRes :=
  let ts := if template = 0xFF then
      (List.range 64).filterMap (fun k => s.infeed.templates.find? (fun t => t.id == k))
    else s.infeed.templates.filter (fun t => t.id == template)
  if byteAt p 0 ≠ 0x0F ∨ p.length < 6 then .noMatch
  else if byteAt p 5 = 0 then tplFirst s none (p.drop 6) ts
  else if byteAt p 5 = 0x0C then
    (if p.length < 18 then .malformed else tplFirst s (some (sliceB p 6 12)) (p.drop 18) ts)
  else .noMatch

end Sys2Proof.Machine
end

