-- ==== Sys2Proof/Machine/Presence.lean ====
section
/-! DEFINITION. Meters, rule rows and presence maps (04 R131, R150 to R155; 05 R165 to R171), as Infeed and Grade share
them. -/
namespace Sys2Proof.Machine

/-- The record of an enrolled meter. -/
def meterAt (s : State) (mix : Nat) : Option Meter := s.infeed.meters.find? (fun m => m.mix == mix && m.rstate == 1)

/-- The record of a meter, retired ones included (05 R166). -/
def recordAt (s : State) (mix : Nat) : Option Meter := s.infeed.meters.find? (fun m => m.mix == mix)

/-- The enrolled meter of a system title (04, "Meter enrolment"). -/
def meterOfTitle (s : State) (title : Nat) : Option Meter :=
  s.infeed.meters.find? (fun m => m.title == title && m.rstate == 1)

/-- A meter's record changed. -/
def modMeter (mix : Nat) (f : Meter → Meter) (s : State) : State :=
  { s with infeed := { s.infeed with meters := mapIf (fun m => m.mix == mix) f s.infeed.meters } }

/-- A rule row; rows not loaded hold the defaults (05 R169). -/
def ruleRow (s : State) (n : Nat) : Row := (assocGet n s.grade.rows).getD {}

/-- The row index a profile maps a channel to; row 0 at first (05 R169). -/
def profileRow (s : State) (profile ch : Nat) : Nat := ((assocGet profile s.grade.profiles).getD []).getD ch 0

/-- The rule row bound to a channel of a meter (05, "Rules, profiles and kinds"). -/
def rowOf (s : State) (m : Meter) (ch : Nat) : Row := ruleRow s (profileRow s m.profile ch)

/-- The channel interval L in seconds (05, after Table 05-3). -/
def chanLen (s : State) (m : Meter) (ch : Nat) : Nat := intervalSec (rowOf s m ch).interval

/-- The slot of an interval end (04 R150). -/
def slotOf (len tend : Nat) : Nat := if len = 0 then 0 else ceilDiv tend len

/-- The presence map of a channel. -/
def presAt (s : State) (mix ch : Nat) : Option Presence := assocGet (mix, ch) s.infeed.presence

/-- The state of a slot; ABSENT within the window when it was never written, none outside the window (04 R151). -/
def Presence.at_ (p : Presence) (k : Nat) : Option Slot :=
  if p.h < k ∨ k + 127 < p.h then none else some (p.slots.getD (p.h - k) .absent)

/-- The state of a slot of a channel. -/
def slotAt (s : State) (mix ch k : Nat) : Option Slot :=
  match presAt s mix ch with
  | some p => p.at_ k
  | none => none

/-- A slot of the window set. -/
def Presence.set_ (p : Presence) (k : Nat) (v : Slot) : Presence :=
  { p with slots := (p.slots ++ List.replicate (128 - p.slots.length) Slot.absent).set (p.h - k) v }

/-- The high-water slot moved up to k: older slots shift out of the window of 128 (04 R153). -/
def Presence.raise (p : Presence) (k : Nat) : Presence :=
  { p with h := k, slots := (List.replicate (min 128 (k - p.h)) Slot.absent ++ p.slots).take 128,
           before := p.before.filter (fun b => decide (k ≤ b.1 + 127)) }

/-- A channel's presence map after a change. -/
def setPres (mix ch : Nat) (p : Presence) (s : State) : State :=
  { s with infeed := { s.infeed with presence := assocSet (mix, ch) p s.infeed.presence } }

/-- A slot marked PENDING, with what it held before (04 R153, R154). -/
def markPending (mix ch k : Nat) (s : State) : State :=
  match presAt s mix ch with
  | none => setPres mix ch { h := k, slots := [.pend], before := [(k, .absent)] } s
  | some p =>
    if p.h < k then setPres mix ch { ((p.raise k).set_ k .pend) with before := (p.raise k).before ++ [(k, .absent)] } s
    else
      let prev := (p.at_ k).getD .absent
      setPres mix ch { (p.set_ k .pend) with before := assocSet k prev p.before } s

/-- A slot recorded in the map as the accepted records leave it: an estimate does not replace an actual reading (04 R151,
R154). -/
def solidAfter (k : Nat) (estimate : Bool) (m : Option (Nat × List Slot)) : Option (Nat × List Slot) :=
  let v := if estimate then Slot.estimated else .actual
  match m with
  | none => some (k, [v])
  | some (h, l) =>
    if h < k then some (k, v :: ((List.replicate (min 127 (k - h - 1)) Slot.absent ++ l).take 127))
    else if k + 127 < h then m
    else if estimate && l.getD (h - k) .absent == .actual then m
    else some (h, (l ++ List.replicate (128 - l.length) Slot.absent).set (h - k) v)

/-- A slot's state after its record is accepted: ACTUAL for a reading, ESTIMATED for an estimate, marker or edit of an
ABSENT slot; a slot held PENDING by a reading stays so (04 R154; 05 R184, R187). -/
def acceptSlot (mix ch k : Nat) (estimate : Bool) (s : State) : State :=
  match presAt s mix ch with
  | none =>
    setPres mix ch { h := k, slots := [if estimate then .estimated else .actual], solid := solidAfter k estimate none } s
  | some p1 =>
    let p0 := { p1 with solid := solidAfter k estimate p1.solid }
    let p := if p0.h < k then p0.raise k else p0
    match p.at_ k with
    | none => setPres mix ch p s
    | some cur =>
      if estimate then
        (match cur with
          | .pend =>
            let l := mapIf (fun b => b.1 == k && b.2 == .absent) (fun b => (b.1, Slot.estimated)) p.before
            setPres mix ch { p with before := l } s
          | .absent => setPres mix ch (p.set_ k .estimated) s
          | _ => setPres mix ch p s)
      else setPres mix ch { (p.set_ k .actual) with before := assocDel k p.before } s

/-- A PENDING slot whose reading is discarded returns to what it held before (04 R154). -/
def revertSlot (mix ch k : Nat) (s : State) : State :=
  match presAt s mix ch with
  | none => s
  | some p =>
    if p.at_ k = some .pend then
      setPres mix ch { (p.set_ k ((assocGet k p.before).getD .absent)) with before := assocDel k p.before } s
    else s

/-- The batch a way belongs to. -/
def batchOf : Way → Option Nat
  | .batch n => some n
  | _ => none

/-- A frame that came by a local path is acknowledged to its meter (04 R156). -/
def localWay : Way → Bool
  | .radio _ => true
  | .plc _ => true
  | _ => false

/-- A frame record changed. -/
def modFrame (id : Nat) (f : FrameRec → FrameRec) (s : State) : State :=
  { s with infeed := { s.infeed with frames := mapIf (fun x => x.id == id) f s.infeed.frames } }

/-- A batch being processed changed. -/
def modBatch (no : Nat) (f : Batch → Batch) (s : State) : State :=
  { s with infeed := { s.infeed with batches := mapIf (fun b => b.no == no && b.st == 2) f s.infeed.batches } }

/-- Counts of an item or reading of a batch (04 Table 04-16). -/
def countBatch (w : Way) (suppressed refused : Nat) (s : State) : State :=
  match w with
  | .batch n => modBatch n (fun b => { b with suppressed := b.suppressed + suppressed, refused := b.refused + refused }) s
  | _ => s

/-! Counters (04 R148, R149). -/

/-- IC_HIGH and IC_MAP after a frame of counter `c` completes; its bit is set unless the disposition is FUTURE or SHAPE
(04 R149). -/
def icAfter (high map c : Nat) (setBit : Bool) : Nat × Nat :=
  if high < c then
    let m := if c - high < 32 then map * 2 ^ (c - high) % 2 ^ 32 else 0
    (c, if setBit then Nat.lor m 1 else m)
  else if c + 31 < high then (high, map)
  else (high, if setBit then Nat.lor map (2 ^ (high - c)) else map)

/-- IC_HIGH, IC_MAP and KEY_GEN that a COUNTER entry's head carries (06 Table 06-2). -/
def counterHead (mix high map keyGen : Nat) : List Byte := leB 3 mix ++ leB 4 high ++ leB 4 map ++ leB 2 keyGen

/-- A frame's counter taken into IC_HIGH and IC_MAP by the entry that records it (04 R149). -/
def counterStep (e : Entry) (x : Nat × Nat) : Nat × Nat :=
  match e.act with
  | .counter _ c bit => icAfter x.1 x.2 c bit
  | _ => x

/-- The COUNTER entries of a meter and key generation that are not accepted yet and that an entry of a batch, or of none,
builds on: provisional ones only within their own batch (04 R149). -/
def openCounters (s : State) (mix keyGen batch : Nat) : List Entry :=
  (unreleased s).filter (fun e => e.kind == 3 && leAt e.head 0 3 % 2 ^ 20 == mix && leAt e.head 11 2 == keyGen
    && (!e.prov || e.batch == batch))

/-- The counter state that a further COUNTER entry of a meter starts from. -/
def projectedIc (s : State) (m : Meter) (batch : Nat) : Nat × Nat :=
  (openCounters s m.mix m.keyGen batch).foldl (fun x e => counterStep e x) (m.icHigh, m.icMap)

/-- A linked reading still waits for its first copy: it is in Grade, or it is a batch's that has not been accepted
while the frame is not of that batch (04 R153, R155; 06 R201). -/
def linkWaits (s : State) (f : FrameRec) (r : Nat × Nat × ROut) : Bool :=
  s.grade.queue.any (fun g => g.mix == f.mix && g.rdg.ch == r.1 && slotOf g.rdg.len g.rdg.tend == r.2.1)
    || s.infeed.frames.any (fun g => g.mix == f.mix && (batchOf g.way).isSome && batchOf g.way != batchOf f.way
        && g.rdgs.any (fun q => q.1 == r.1 && q.2.1 == r.2.1 && q.2.2 == .released))

/-- The outcomes that leave a frame without a reading still to be released (04 R155). -/
def rdgSettled (s : State) (f : FrameRec) (r : Nat × Nat × ROut) : Bool :=
  match r.2.2 with
  | .waiting => false
  | .linked => !linkWaits s f r
  | _ => true

/-- Every reading of a frame is released or has another outcome. -/
def frameSettled (s : State) (f : FrameRec) : Bool := f.rdgs.all (rdgSettled s f)

/-- A frame's disposition: the first code of Table 04-14 that applies (04 R155). -/
def disposition (f : FrameRec) : Nat :=
  if f.rdgs.any (fun r => r.2.2 == .future) then 3
  else if f.rdgs.any (fun r => r.2.2 == .shape) then 4
  else if f.rdgs.any (fun r => r.2.2 == .stale) then 2
  else 0

/-- The COUNTER entry of a frame whose readings are all released, in the group of its last reading or the next; a frame
of another key generation leaves the counters as they are (04 R149). A frame of a meter retired meanwhile completes all the
same (04 R133). -/
def postCounter (f : FrameRec) (s : State) : State :=
  match recordAt s f.mix with
  | none => modFrame f.id (fun x => { x with counterPosted := true }) s
  | some m =>
    let own := decide (f.keyGen = m.keyGen)
    let bit := own && decide (disposition f < 3)
    let c := if own then f.ic else 0
    let (hi, mp) := projectedIc s m ((batchOf f.way).getD 0)
    let (hi2, mp2) := icAfter hi mp c bit
    let e := ctlEntry 0x03 (counterHead f.mix hi2 mp2 m.keyGen) [] (.counter f.id c bit) 0
    let e2 := match batchOf f.way with
      | some n => { e with prov := true, batch := n }
      | none => e
    postEntry e2 (modFrame f.id (fun x => { x with counterPosted := true }) s)

/-- The COUNTER entries that are due. -/
def postCounters (s : State) : State :=
  (s.infeed.frames.filter (fun f => !f.counterPosted && frameSettled s f)).foldl (fun t f => postCounter f t) s

end Sys2Proof.Machine
end

