-- ==== Sys2Proof/Machine/Acks.lean ====
section
/-! DEFINITION. Application acknowledgements put on the queues of the radio and the powerline (04 R156; 08 R268; 09 R310). -/
namespace Sys2Proof.Machine

/-- A channel of the radio. -/
def chanAt (s : State) (n : Nat) : RadChan := s.radio.chans.getD n {}

/-- A channel changed. -/
def modChan (n : Nat) (f : RadChan → RadChan) (s : State) : State :=
  { s with radio := { s.radio with chans := s.radio.chans.set n (f (chanAt s n)) } }

/-- A phase of the powerline, 0 for PH_1. -/
def phaseAt (s : State) (n : Nat) : PlcPhase := s.plc.phases.getD n {}

/-- A phase changed. -/
def modPhase (n : Nat) (f : PlcPhase → PlcPhase) (s : State) : State :=
  { s with plc := { s.plc with phases := s.plc.phases.set n (f (phaseAt s n)) } }

/-- The neighbour of a title on a channel. -/
def neighOn (s : State) (ch ext : Nat) : Option Neigh := s.radio.neigh.find? (fun n => n.ch == ch && n.ext == ext)

/-- The neighbour of a title on any channel. -/
def neighOf (s : State) (ext : Nat) : Option Neigh := s.radio.neigh.find? (fun n => n.ext == ext)

/-- A neighbour that keeps its receiver off (08 Table 08-9). -/
def sleepy (n : Neigh) : Bool := n.st != 1

/-- A frame put at the end of the radio's queues. -/
def queueRadio (x : RadTx) (s : State) : State := { s with radio := { s.radio with txq := s.radio.txq ++ [x] } }

/-- A frame put at the end of a phase's queue. -/
def queuePlc (ph : Nat) (x : PlcTx) (s : State) : State := modPhase ph (fun p => { p with txq := p.txq ++ [x] }) s

/-- The title of a meter's record. -/
def titleOf (s : State) (mix : Nat) : Nat := ((recordAt s mix).map Meter.title).getD 0

/-- A cargo takes one more acknowledgement: the same meter, the same beat, fewer than 8 (08 R268, Table 08-5). -/
def joinsAck (mix tick : Nat) : Cargo → Bool
  | .acks m t l => m == mix && t == tick && decide (l.length < 8)
  | _ => false

/-- A cargo with one more acknowledgement. -/
def addAck (x : Nat × Nat × Nat) : Cargo → Cargo
  | .acks m t l => .acks m t (l ++ [x])
  | c => c

/-- The frame of an acknowledgement by radio: the first copy direct to an awake or a sleepy meter, or flooded down when
that copy was relayed (08 R268). -/
def ackFrame (ch mix src : Nat) (x : Nat × Nat × Nat) (s : State) : RadTx :=
  let ext := titleOf s mix
  let c : Cargo := .acks mix s.beat.ticks [x]
  if 1 ≤ src / 4096 then
    { ch := ch, cls := 6, ext := some ext, dest := 0xFFFF, payload := [], ackReq := false,
      flood := some (1, min 15 (src / 256 % 16 + 1)), cargo := c }
  else match neighOn s ch ext with
    | some n => { ch := ch, cls := if sleepy n then 4 else 6, ext := some ext, dest := n.short, payload := [],
                  indirect := sleepy n, cargo := c }
    | none => { ch := ch, cls := 6, ext := some ext, dest := 0xFFFE, payload := [], cargo := c }

/-- An acknowledgement queued on the path of the first copy; those that become due for one meter in one beat share a
frame (08 R268; 09 R310). -/
def queueAck (way : Way) (src mix : Nat) (x : Nat × Nat × Nat) (s : State) : State :=
  match way with
  | .radio n =>
    let joins := fun (t : RadTx) => t.ch == n && joinsAck mix s.beat.ticks t.cargo
      && (t.flood.isSome == decide (1 ≤ src / 4096))
    if s.radio.txq.any joins then
      { s with radio := { s.radio with txq := mapIf joins (fun t => { t with cargo := addAck x t.cargo }) s.radio.txq } }
    else queueRadio (ackFrame n mix src x s) s
  | .plc n =>
    let joins := fun (t : PlcTx) => joinsAck mix s.beat.ticks t.cargo
    if (phaseAt s (n - 1)).txq.any joins then
      modPhase (n - 1) (fun p => { p with txq := mapIf joins (fun t => { t with cargo := addAck x t.cargo }) p.txq }) s
    else queuePlc (n - 1) { place := 4, type := 0, dest := 0xFFFF, routing := 1, ackReq := true,
                            title := some (titleOf s mix), cargo := .acks mix s.beat.ticks [x] } s
  | _ => s

/-- The bytes of an application acknowledgement (08 Table 08-5). -/
def ackBytes (l : List (Nat × Nat × Nat)) : List Byte :=
  leB 1 0xE1 ++ leB 1 l.length ++ (l.map (fun x => leB 2 x.1 ++ leB 4 x.2.1 ++ leB 1 x.2.2 ++ zeros 1)).flatten

/-- The application acknowledgement of a frame that asked for one on a local path (04 R156). -/
def appAck (mix ic fseq : Nat) (way : Way) (src : Nat) (ackReq : Bool) (disp : Nat) (s : State) : State :=
  if ackReq && localWay way && !silent s && !pairMute s then queueAck way src mix (fseq, ic, disp) s else s

end Sys2Proof.Machine
end

