-- ==== Sys2Proof/Machine/Stream.lean ====
section
/-! DEFINITION. The stream ports (14 R474 to R478), and the ingest items their packets hold (04 R129, R130). -/
namespace Sys2Proof.Machine

/-! Ingest items (04 Table 04-2). -/

/-- The format of an item whose frame is not held: its length was out of range or it overran (04 R129). -/
def fmtMalformed : Nat := 0x100

/-- The source field of an ingest item: local path codes become forwarded ones, codes above 5 become 5 (04 R130). -/
def ingestSrc (pathHops port : Nat) : Nat :=
  let p := pathHops / 16
  let q := if p = 0 ∨ p = 1 then 3 else if p = 2 then 4 else if 5 < p then 5 else p
  q * 4096 + pathHops % 16 * 256 + port

/-- The item at the front of ingest bytes (04 R129). -/
def ingestItem (w : Way) (b : List Byte) : FifoItem :=
  let n := leAt b 0 2
  if b.length < 16 ∨ n < 16 ∨ 2047 < n ∨ b.length < 16 + n then
    { way := w, src := 0, arrival := .legal 0, format := fmtMalformed, frame := [] }
  else { way := w, src := ingestSrc (byteAt b 3) (byteAt b 11), arrival := .legal (leAt b 4 5), format := byteAt b 2,
         frame := sliceB b 16 n }

/-- The items of a batch's data: a malformed one is passed over to the next 4-byte boundary after its stated length
(04 R129). -/
def batchItems (no : Nat) : Nat → List Byte → List FifoItem
  | 0, _ => []
  | fuel + 1, b =>
    if b.isEmpty then []
    else ingestItem (.batch no) b :: batchItems no fuel (b.drop (4 * ceilDiv (16 + leAt b 0 2) 4))

/-! Ports. -/

/-- A stream port. -/
def strAt (s : State) (n : Nat) : Stream := s.memory.streams.getD n {}

/-- A stream port replaced. -/
def setStr (n : Nat) (x : Stream) (s : State) : State :=
  { s with memory := { s.memory with streams := s.memory.streams.set n x } }

/-- The engine FIFO of a stream port (04 Table 04-1). -/
def strEf (n : Nat) : Nat := n + 21

/-- STATE of page 0x44: 2 is an open port under HOLD (14 Table 14-9). -/
def strCode (s : State) (n : Nat) : Nat :=
  match (strAt s n).st with
  | .closed => 0
  | .opened => if underHold s (strEf n) then 2 else 1
  | .closing => 3

/-- DONE_THRU: every packet up to it is dropped or complete (14 R478). -/
def doneThru (s : State) (n : Nat) : Nat :=
  match (strAt s n).waiting with
  | p :: _ => (p + 2 ^ 32 - 1) % 2 ^ 32
  | [] => (rdI s P44.PKT_NEXT n + 2 ^ 32 - 1) % 2 ^ 32

/-- A closing port with every packet done becomes closed (14 R474). -/
def closeDone (n : Nat) (s : State) : State :=
  if (strAt s n).st = .closing ∧ (strAt s n).waiting.isEmpty then setStr n { strAt s n with st := .closed } s else s

/-- The page's STATE and DONE_THRU brought up to date; DONE_THRU of a closed port stays as it was. -/
def strFields (n : Nat) (s : State) : State :=
  let t := if (strAt s n).st = .closed then s else wrI P44.DONE_THRU n (doneThru s n) s
  let u := closeDone n t
  wrI P44.STATE n (strCode u n) u

/-- The fields of every port. -/
def strFieldsAll (s : State) : State := (List.range 8).foldl (fun t n => strFields n t) s

/-- The credit of a port: words in, plus what both banks still hold, less the worst slack; it never falls, and does not
rise under HOLD or after mains loss (14 R476). -/
def credit (n : Nat) (s : State) : State :=
  let f := fifoAt s (strEf n)
  let held := match (strAt s n).part with
    | some x => x.words
    | none => 0
  let free := bankRoom f - held + (if otherFree f then 512 else 0)
  let c := (rdI s P44.WORDS_IN n + free + 2 ^ 32 - 128) % 2 ^ 32
  if (strAt s n).st ≠ .opened ∨ underHold s (strEf n) = true ∨ silent s = true then s
  else if seqDist (rdI s P44.CREDIT_END n) c < 2 ^ 31 then wrI P44.CREDIT_END n c s
  else s

/-- The credits recomputed at a beat boundary (14 R476). -/
def creditAll (s : State) : State := strFieldsAll ((List.range 8).foldl (fun t n => credit n t) s)

/-- A packet dropped whole: its words are released, PKT_NEXT passes it, and STREAM_DROP is logged (14 R477). -/
def dropPacket (n p : Nat) (s : State) : State :=
  let x := strAt s n
  let s1 := if x.runOpen then s else wrI P44.DROP_FROM n p s
  let s2 := wrI P44.LAST_DROPPED n p (bumpI P44.DROPPED n 1 s1)
  let s3 := setStr n { x with part := none, runOpen := true } (wrI P44.PKT_NEXT n ((p + 1) % 2 ^ 32) s2)
  logEv evStreamDrop (leB 1 n ++ leB 4 (rdI s3 P44.DROP_FROM n) ++ leB 4 p) (strFields n s3)

/-- The completion of a packet's item is reported to its port (04 R157; 14 R478). -/
def streamDone (w : Way) (s : State) : State :=
  match w with
  | .stream n p => strFields n (setStr n { strAt s n with waiting := (strAt s n).waiting.filter (fun q => q ≠ p) } s)
  | _ => s

/-- A port opened (14 R474). -/
def openPort (n : Nat) (s : State) : State :=
  let s1 := setStr n { st := .opened } s
  strFields n (credit n (wrI P44.CREDIT_END n 0 (wrI P44.WORDS_IN n 0 (wrI P44.DONE_THRU n 0 (wrI P44.PKT_NEXT n 1 s1)))))

/-- Reply data of STREAM_OPEN (14 R474). -/
def openPortData (n : Nat) (s : State) : List Byte := leB 4 (rdI s P44.PKT_NEXT n) ++ leB 4 (rdI s P44.CREDIT_END n)

/-- STREAM_OPEN (14 R474). -/
def execStreamOpen (h : Hdr) (p : List Byte) (s : State) : Host.Outcome State Fault Refusal :=
  .next (runCmd h p false (fun t =>
    let n := byteAt p 0
    if 7 < n then .fail stOutOfRange 0
    else match (strAt t n).st with
      | .closing => .fail stBusy 0
      | .opened => .done (openPortData n t) t
      | .closed =>
        if underHold t (strEf n) then .fail stBackpressure 0
        else .done (openPortData n (openPort n t)) (openPort n t)) s)

/-- A port closed: the packet in progress is dropped, the port is closing until its packets are done (14 R474). -/
def closePort (n : Nat) (s : State) : State :=
  if (strAt s n).st = .opened then
    let t := if (strAt s n).part.isSome then dropPacket n (rdI s P44.PKT_NEXT n) s else s
    strFields n (setStr n { strAt t n with st := .closing } t)
  else s

/-- STREAM_CLOSE: it applies at the beat boundary (14 R474, R480; 02 R62). -/
def execStreamClose (h : Hdr) (p : List Byte) (s : State) : Host.Outcome State Fault Refusal :=
  .next (runCmd h p false (fun t =>
    if 7 < byteAt p 0 then .fail stOutOfRange 0
    else .doneAtBeat { cmd := some (.streamClose h p), args := [byteAt p 0] } t) s)

/-- The effect of STREAM_CLOSE. -/
def effStreamClose (e : Eff) (s : State) : State := closePort (e.args.getD 0 0) s

/-- Words discarded are counted (14 Table 14-6). -/
def discardWords (n k : Nat) (s : State) : State := bumpI P44.DISCARDED n k s

/-- Words stored of the packet in progress; the packet that becomes complete goes into the engine FIFO and PKT_NEXT
rises (14 R475). -/
def storeWords (n p pktWords : Nat) (x : Partial) (s : State) : State :=
  if x.words < pktWords then setStr n { strAt s n with part := some x, partWords := pktWords } s
  else
    let y := strAt s n
    let s1 := wrI P44.PKT_NEXT n ((p + 1) % 2 ^ 32)
      (setStr n { y with part := none, partWords := 0, waiting := y.waiting ++ [p], runOpen := false } s)
    strFields n ((putItemW (strEf n) (ingestItem (.stream n p) x.data) pktWords s1).getD s1)

/-- A packet starts: in the open bank if it fits there, else in the other bank once the open one has closed (14 R472). -/
def startPacket (n p pktWords k : Nat) (data : List Byte) (s : State) : State :=
  let f := fifoAt s (strEf n)
  let g := if bankRoom f < pktWords then closeBank f else f
  let t := setFifo (strEf n) g s
  if pktWords ≤ bankRoom g then storeWords n p pktWords ⟨k, data, s.beat.ticks⟩ t else discardWords n k t

/-- A fragment for an open port: the first row of Table 14-6 that applies (14 R475). -/
def fragment (n p : Nat) (b : List Byte) (s : State) : State :=
  let x := strAt s n
  let e := rdI s P44.PKT_NEXT n
  let k := (b.length - 8) / 16
  let off := leAt b 2 2
  let pw := leAt b 4 2
  let inProg := x.part.isSome && p == e
  let held := match x.part with
    | some y => y.words
    | none => 0
  let s1 := wrI P44.WORDS_IN n ((rdI s P44.WORDS_IN n + k) % 2 ^ 32) s
  let excess := seqDist (rdI s1 P44.CREDIT_END n) (rdI s1 P44.WORDS_IN n)
  if 0 < excess ∧ excess < 2 ^ 31 then
    let s2 := bumpI P44.OVERRUN n (min k excess) s1
    if p = e then dropPacket n p s2 else s2
  else if b.length % 16 ≠ 8 ∨ pw = 0 ∨ 129 < pw ∨ (inProg = true ∧ pw ≠ x.partWords) ∨ pw < off + k then
    (if inProg then dropPacket n p s1 else discardWords n k s1)
  else if bitAt (byteAt b 1) 0 ∧ inProg then dropPacket n p s1
  else if p ≠ e ∧ seqDist p e < 2 ^ 31 then discardWords n k s1
  else if p = e ∧ inProg = false ∧ off = 0 then startPacket n p pw k (b.drop 8) s1
  else match x.part with
    | some y =>
      if p = e ∧ off = held then storeWords n p pw ⟨held + k, y.data ++ b.drop 8, s.beat.ticks⟩ s1
      else if p = e ∧ off < held then
        discardWords n k (setStr n { strAt s1 n with part := some { y with lastAt := s.beat.ticks } } s1)
      else if p = e then dropPacket n p s1
      else discardWords n k s1
    | none => discardWords n k s1

/-- STREAM_DATA: no session rule applies and no reply is sent (02 R72; 14 R475). -/
def execStreamData (h : Hdr) (p : List Byte) (s : State) : Host.Outcome State Fault Refusal :=
  .next (match stateGate s h false with
    | .pass =>
      let n := byteAt p 0
      let k := (p.length - 8) / 16
      if 7 < n then discardWords 0 k s
      else if (strAt s n).st ≠ .opened then discardWords n k s
      else count 0x0E n k (fragment n h.seq p s)
    | _ => s)

/-- STALL_BEATS boundaries pass without a word of the packet in progress (14 R477). -/
def execStreamDrop (port : Fin 8) (s : State) : Host.Outcome State Fault Refusal :=
  .next (match (strAt s port.val).part with
    | some x =>
      if passed s x.lastAt (rdI s P44.STALL_BEATS port.val) then dropPacket port.val (rdI s P44.PKT_NEXT port.val) s else s
    | none => s)

/-- A port's credit or completions have risen far enough for a notice, not more often than once per beat, and the code
is selected (14 R478). -/
def progressDue (s : State) (n : Nat) : Bool :=
  let x := strAt s n
  let nw := rdI s P44.NOTICE_WORDS n
  let words := seqDist x.seenCredit (rdI s P44.CREDIT_END n)
  let pkts := seqDist x.seenDone (rdI s P44.DONE_THRU n)
  notifies evStreamProgress s && passed s x.noticedAt 1 &&
    ((nw != 0 && decide (nw ≤ words)) || decide (64 ≤ pkts))

/-- STREAM_PROGRESS is sent with the port, CREDIT_END and DONE_THRU (14 R478). -/
def execStreamProgress (port : Fin 8) (s : State) : Host.Outcome State Fault Refusal :=
  let n := port.val
  .next (if progressDue s n then
    logEv evStreamProgress (leB 1 n ++ leB 4 (rdI s P44.CREDIT_END n) ++ leB 4 (rdI s P44.DONE_THRU n))
      (setStr n { strAt s n with seenCredit := rdI s P44.CREDIT_END n, seenDone := rdI s P44.DONE_THRU n,
                                 noticedAt := s.beat.ticks } s)
  else s)

/-- FUNC_RESET of 0x44: on each open port the packet in progress and the packets not yet taken by Infeed are dropped as
one run (14 R479). -/
def resetPort (n : Nat) (s : State) : State :=
  let x := strAt s n
  if x.st ≠ .opened then s
  else
    let f := fifoAt s (strEf n)
    let its := (f.closedB.map Bank.items).flatten ++ (match f.opened with
      | some b => b.items
      | none => [])
    let ps := its.filterMap (fun it => match it.way with
      | .stream _ p => some p
      | _ => none)
    let s1 := setFifo (strEf n) {} (setStr n { x with waiting := x.waiting.filter (fun q => !ps.contains q) } s)
    let e := rdI s P44.PKT_NEXT n
    match ps with
    | p :: _ =>
      let cnt := ps.length + b2n x.part.isSome
      let last := if x.part.isSome then e else (e + 2 ^ 32 - 1) % 2 ^ 32
      let s2 := bumpI P44.DROPPED n cnt (wrI P44.LAST_DROPPED n last (if x.runOpen then s1 else wrI P44.DROP_FROM n p s1))
      let s3 := setStr n { strAt s2 n with part := none, runOpen := true } (wrI P44.PKT_NEXT n ((last + 1) % 2 ^ 32) s2)
      logEv evStreamDrop (leB 1 n ++ leB 4 (rdI s3 P44.DROP_FROM n) ++ leB 4 last) (strFields n (credit n s3))
    | [] => credit n (if x.part.isSome then dropPacket n e s1 else s1)

/-- A packet of a closed bank with a poisoned word is dropped; the rest of the bank is read normally (14 R477, R480). -/
def dropBanked (n : Nat) (s : State) : State :=
  match takeClosed 1 (fifoAt s (strEf n)) with
  | (it :: _, f) =>
    match it.way with
    | .stream _ p =>
      let s1 := setFifo (strEf n) f s
      let x := strAt s1 n
      let s2 := setStr n { x with waiting := x.waiting.filter (fun q => q != p), runOpen := true } s1
      let s3 := if x.runOpen then s2 else wrI P44.DROP_FROM n p s2
      let s4 := wrI P44.LAST_DROPPED n p (bumpI P44.DROPPED n 1 s3)
      logEv evStreamDrop (leB 1 n ++ leB 4 (rdI s4 P44.DROP_FROM n) ++ leB 4 p) (strFields n s4)
    | _ => s
  | _ => s

end Sys2Proof.Machine
end

