-- ==== Sys2Proof/Machine/Discard.lean ====
section
/-! DEFINITION. Work given up before acceptance (04 R154, R159 to R161; 05 R168, R188; 06 R201): readings, frames,
batches, and the tails rebuilt from accepted records. -/
namespace Sys2Proof.Machine

/-! Channel tails (05 R167, R168). -/

/-- A channel's tail. -/
def tailAt (s : State) (mix ch : Nat) : Tail := (assocGet (mix, ch) s.grade.tails).getD {}

/-- A channel's tail replaced; an empty one takes no room. -/
def setTail (mix ch : Nat) (t : Tail) (s : State) : State :=
  let l := if t = {} then assocDel (mix, ch) s.grade.tails else assocSet (mix, ch) t s.grade.tails
  { s with grade := { s.grade with tails := l } }

/-- The newest slot of a channel that holds an accepted actual reading. -/
def newestActual (s : State) (mix ch : Nat) : Option Nat :=
  match presAt s mix ch with
  | some p => ((List.range 128).find? (fun i => p.slots.getD i .absent == .actual)).map (fun i => p.h - i)
  | none => none

/-- The interval length of a channel of a meter's record, retired ones included. -/
def lenOf (s : State) (mix ch : Nat) : Nat :=
  match recordAt s mix with
  | some m => chanLen s m ch
  | none => 0

/-- The record that a channel's newest PRESENCE entry carries for its tail: end and value (06 Table 06-2, R213). -/
def carriedRec (s : State) (mix ch : Nat) : Option (Nat × Int) :=
  let key := mix + ch * 2 ^ 20
  match ((acceptedEntries s).filter (fun e => e.kind == 8 && leAt e.head 0 3 == key)).getLast? with
  | some e => some (leAt e.body 40 5, toS 64 (leAt e.body 48 8))
  | none => none

/-- A tail rebuilt from the newest accepted record of the newest ACTUAL slot, which after a reclaim is the record of the
newest PRESENCE entry (05 R168; 06 R213). -/
def rebuildTail (mix ch : Nat) (s : State) : State :=
  match newestActual s mix ch with
  | none => setTail mix ch {} s
  | some k =>
    let e := k * lenOf s mix ch
    match newestRec s mix ch e with
    | some r => setTail mix ch { lastValue := recVal r, lastEnd := e, hasLast := true } s
    | none => match carriedRec s mix ch with
      | some (t, v) => if t = e then setTail mix ch { lastValue := v, lastEnd := e, hasLast := true } s else setTail mix ch {} s
      | none => setTail mix ch {} s

/-! Readings and frames given up. -/

/-- A reading of a meter and channel at a slot. -/
abbrev SlotKey := Nat × Nat × Nat

/-- The slot of a reading that waits in Grade. -/
def keyOfIn (g : GradeIn) : SlotKey := (g.mix, g.rdg.ch, slotOf g.rdg.len g.rdg.tend)

/-- The slot of a reading record. -/
def keyOfEntry (s : State) (e : Entry) : SlotKey := (recMix e, recCh e, slotOf (lenOf s (recMix e) (recCh e)) (recEnd e))

/-- The record of an actual reading, which holds its slot PENDING. -/
def holdsSlot (e : Entry) : Bool :=
  match e.act with
  | .reading (some _) false => true
  | _ => false

/-- Entries of no sealed group that are kept. -/
def keepEntries (keep : Entry → Bool) (s : State) : State :=
  let o := s.ledger.openE.filter keep
  { s with ledger := { s.ledger with openE := o, openSlots := slotsOf s o,
                                     waiting := s.ledger.waiting.filter keep,
                                     toSeal := (s.ledger.toSeal.map (fun l => l.filter keep)).filter
                                       (fun l => !l.isEmpty) } }

/-- The entries of no sealed group. -/
def unsealed (s : State) : List Entry := s.ledger.toSeal.flatten ++ s.ledger.openE ++ s.ledger.waiting

/-- Frames that can no longer complete, and their COUNTER entries that are in no sealed group (04 R154, R155). -/
def killFrames (dead : FrameRec → Bool) (s : State) : State :=
  let ids := (s.infeed.frames.filter dead).map FrameRec.id
  keepEntries (fun e => match e.act with
    | .counter i _ _ => !ids.contains i
    | _ => true) { s with infeed := { s.infeed with frames := s.infeed.frames.filter (fun f => !dead f) } }

/-- A frame holds a copy of one of these readings. -/
def touchesKey (l : List SlotKey) (f : FrameRec) : Bool :=
  f.rdgs.any (fun r => (r.2.2 == .waiting || r.2.2 == .released || r.2.2 == .linked) && l.contains (f.mix, r.1, r.2.1))

/-- Readings given up: their slots return to what they held, and every frame with a copy of one dies (04 R154). -/
def giveUp (l : List SlotKey) (s : State) : State :=
  killFrames (touchesKey l) (l.foldl (fun t k => revertSlot k.1 k.2.1 k.2.2 t) s)

/-- Channels without repeats. -/
def chansOf (l : List SlotKey) : List (Nat × Nat) := (l.map (fun k => (k.1, k.2.1))).eraseDups

/-- Tails of these channels rebuilt. -/
def rebuildTails (l : List (Nat × Nat)) (s : State) : State := l.foldl (fun t c => rebuildTail c.1 c.2 t) s

/-- The record of an edit, which goes with its COMMAND entry (05 R187). -/
def isEdit (e : Entry) : Bool := e.kind == 0 && e.fn == 0x11

/-- Readings of Grade's queue that meet `qp`, and reading records of no sealed group that meet `ep`, are given up; the
tails of their channels are rebuilt (04 R161; 05 R168, R188). -/
def discardWork (qp : GradeIn → Bool) (ep : Entry → Bool) (s : State) : State :=
  let es := (unsealed s).filter (fun e => e.kind == 0 && ep e)
  let keys := (s.grade.queue.filter qp).map keyOfIn ++ (es.filter holdsSlot).map (keyOfEntry s)
  let s1 := { s with grade := { s.grade with queue := s.grade.queue.filter (fun g => !qp g) } }
  rebuildTails (chansOf (es.map (keyOfEntry s))) (giveUp keys (keepEntries (fun e => !(e.kind == 0 && ep e)) s1))

/-! Batches (04 R158 to R160; 06 R201). -/

/-- An entry belongs to a batch being processed. -/
def ofBatch (no : Nat) (e : Entry) : Bool :=
  (e.prov && e.batch == no) || (match e.act with
    | .batchClose n => n == no
    | _ => false)

/-- A COMMAND entry of one of these commands. -/
def isCmdOf (hs : List Hdr) (e : Entry) : Bool :=
  match e.act with
  | .command h _ _ _ _ _ => hs.contains h
  | _ => false

/-- A batch abandoned before its BATCH_CLOSE entry is sealed: every part ends with a status, its readings are given up,
and what of it is in sealed groups never counts (04 R160; 06 R201). -/
def abandonBatch (no st detail : Nat) (s : State) : State :=
  match s.infeed.batches.find? (fun b => b.no == no && b.st == 2) with
  | none => s
  | some b =>
    let mine := fun (w : Way) => w == .batch no
    let hs := b.waiting.map Prod.fst
    let sealedE := ((s.ledger.groups.map Group.entries).flatten).filter (fun e => e.prov && e.batch == no)
    let keys := (s.grade.queue.filter (fun g => mine g.way)).map keyOfIn
      ++ ((unsealed s ++ sealedE).filter (fun e => e.kind == 0 && ofBatch no e && holdsSlot e)).map (keyOfEntry s)
    let inf := { s.infeed with batches := s.infeed.batches.filter (fun x => !(x.no == no && x.st == 2)),
                               jobs := s.infeed.jobs.filter (fun j => !mine j.item.way),
                               slowQ := s.infeed.slowQ.filter (fun i => !mine i.item.way) }
    let s1 := { s with infeed := inf, grade := { s.grade with queue := s.grade.queue.filter (fun g => !mine g.way) },
                       ledger := { s.ledger with abandoned := s.ledger.abandoned ++ [no] } }
    let s2 := keepEntries (fun e => !ofBatch no e && !isCmdOf hs e) s1
    let done := (unsealed s ++ sealedE).filter (fun e => e.kind == 0 && ofBatch no e)
    let s3 := rebuildTails (chansOf (done.map (keyOfEntry s))) (killFrames (fun f => mine f.way) (giveUp keys s2))
    b.waiting.foldl (fun t x => finish x.1 x.2 st detail [] t) s3

/-- A batch being processed whose BATCH_CLOSE entry is in no sealed group (06 R201). -/
def closeUnsealed (s : State) (b : Batch) : Bool :=
  b.st == 2 && !((s.ledger.groups.map Group.entries).flatten).any (fun e => match e.act with
    | .batchClose n => n == b.no
    | _ => false)

/-- The batch that Infeed passes through EF_1: one at a time, in the order of completion (06 R201). -/
def openBatch (s : State) : Option Batch :=
  (s.infeed.batches.filter (closeUnsealed s)).foldl (fun a b => match a with
    | some x => if b.no < x.no then some b else some x
    | none => some b) none

/-- Every batch being processed that is not yet sealed is abandoned. -/
def abandonAll (st detail : Nat) (s : State) : State :=
  (s.infeed.batches.filter (closeUnsealed s)).foldl (fun t b => abandonBatch b.no st detail t) s

end Sys2Proof.Machine
end

