-- ==== Sys2Proof/Machine/Crypto.lean ====
section
/-! DEFINITION. The algorithms that the manual names by their standards: AES (FIPS 197), AES-CMAC, the counter-mode KDF of NIST
SP 800-108 (04 R145, Table 04-11), GCM, AES key wrap (04 R144) and SHA-256 (12 R423). Blocks are numbers, first byte highest. -/
namespace Sys2Proof.Machine

/-! AES (12 R407; the standard's tables, assumption log 109). -/

/-- The substitution box, entry `x` at bits [8x + 7 : 8x]. -/
def sboxN : Nat :=
  0x16BB54B00F2D99416842E6BF0D89A18CDF2855CEE9871E9B948ED9691198F8E19E1DC186B95735610EF6034866B53E708A8BBD4B1F74DDE8C6B4A61C2E2578BA08AE7A65EAF4566CA94ED58D6D37C8E779E4959162ACD3C25C2406490A3A32E0DB0B5EDE14B8EE4688902A22DC4F816073195D643D7EA7C41744975FEC130CCDD2F3FF1021DAB6BCF5389D928F40A351A89F3C507F02F94585334D43FBAAEFD0CF584C4A39BECB6A5BB1FC20ED00D153842FE329B3D63B52A05A6E1B1A2C830975B227EBE28012079A059618C323C7041531D871F1E5A534CCF73F362693FDB7C072A49CAFA2D4ADF04759FA7DC982CA76ABD7FE2B670130C56F6BF27B777C63

/-- The inverse substitution box in the same form. -/
def isboxN : Nat :=
  0x7D0C2155631469E126D677BA7E042B17619953833CBBEBC8B0F52AAE4D3BE0A0EF9CC9939F7AE52D0D4AB519A97F51605FEC8027591012B131C7078833A8DD1FF45ACD78FEC0DB9A2079D2C64B3E56FC1BBE18AA0E62B76F89C5291D711AF1476EDF751CE837F9E28535ADE72274AC9673E6B4F0CECFF297EADC674F4111913A6B8A130103BDAFC1020F3FCA8F1E2CD00645B3B80558E4F70AD3BC8C00ABD890849D8DA75746155EDAB9EDFD5048706C92B6655DCC5CA4D41698688664F6F87225D18B6D49A25B76B224D92866A12E084EC3FA420B954CEE3D23C2A632947B54CBE9DEC444438E3487FF2F9B8239E37CFBD7F3819EA340BF38A53630D56A0952

/-- A byte substituted. -/
def subByte (x : Nat) : Nat := bitsAt sboxN (8 * x) 8

/-- A byte substituted back. -/
def isubByte (x : Nat) : Nat := bitsAt isboxN (8 * x) 8

/-- A byte times x in the field of AES. -/
def xtime (b : Nat) : Nat := if b < 128 then 2 * b else Nat.xor (2 * b) 0x11B

/-- A byte times a small constant in the field of AES. -/
def gfMul (c b : Nat) : Nat :=
  let b2 := xtime b
  let b4 := xtime b2
  let b8 := xtime b4
  let pick := fun (i v : Nat) => if bitAt c i then v else 0
  Nat.xor (Nat.xor (pick 0 b) (pick 1 b2)) (Nat.xor (pick 2 b4) (pick 3 b8))

/-- The 16 bytes of a block. -/
def aesBytes (x : Nat) : List Nat := (List.range 16).map (fun i => bitsAt x (120 - 8 * i) 8)

/-- The block of bytes, first byte highest. -/
def aesBlock (l : List Nat) : Nat := l.foldl (fun a b => a * 256 + b) 0

/-- The rows of a state rotated by their index. -/
def shiftRows (l : List Nat) : List Nat := (List.range 16).map (fun i => l.getD ((i + 4 * (i % 4)) % 16) 0)

/-- The rows rotated back. -/
def ishiftRows (l : List Nat) : List Nat := (List.range 16).map (fun i => l.getD ((i + 12 * (i % 4)) % 16) 0)

/-- Each column times a circulant matrix whose first row is given. -/
def mixCols (row l : List Nat) : List Nat :=
  (List.range 16).map (fun i => (List.range 4).foldl (fun a k =>
    Nat.xor a (gfMul (row.getD k 0) (l.getD (i / 4 * 4 + (i % 4 + k) % 4) 0))) 0)

/-- A 32-bit word with each byte substituted. -/
def subWord (w : Nat) : Nat :=
  ((subByte (w / 2 ^ 24 % 256) * 256 + subByte (w / 2 ^ 16 % 256)) * 256 + subByte (w / 2 ^ 8 % 256)) * 256 + subByte (w % 256)

/-- The round constants. -/
def rcon (i : Nat) : Nat := ([1, 2, 4, 8, 16, 32, 64, 128, 0x1B, 0x36] : List Nat).getD (i - 1) 0

/-- The key schedule continued, newest word first: `n` words more from index `i` on, for a key of `nk` words. -/
def expandKey (nk : Nat) : Nat → Nat → List Nat → List Nat
  | 0, _, l => l
  | n + 1, i, l =>
    let t := l.headD 0
    let u := if i % nk = 0 then Nat.xor (subWord (t % 2 ^ 24 * 256 + t / 2 ^ 24)) (rcon (i / nk) * 2 ^ 24)
      else if nk = 8 ∧ i % 8 = 4 then subWord t
      else t
    expandKey nk n (i + 1) (Nat.xor (l.getD (nk - 1) 0) u :: l)

/-- Four words make a round key. -/
def roundKeys : Nat → List Nat → List Nat
  | 0, _ => []
  | n + 1, l => (((l.getD 0 0 * 2 ^ 32 + l.getD 1 0) * 2 ^ 32 + l.getD 2 0) * 2 ^ 32 + l.getD 3 0) :: roundKeys n (l.drop 4)

/-- The round keys of a key of 16 or 32 bytes. -/
def aesKeys (key : List Byte) : List Nat :=
  let nk := key.length / 4
  let ws := (List.range nk).map (fun i => beAt key (4 * i) 4)
  roundKeys (nk + 7) (expandKey nk (4 * (nk + 7) - nk) nk ws.reverse).reverse

/-- The rounds of AES after the first key; the last one mixes no columns. -/
def aesRounds : List Nat → Nat → Nat
  | [], x => x
  | [k], x => Nat.xor k (aesBlock (shiftRows ((aesBytes x).map subByte)))
  | k :: ks, x => aesRounds ks (Nat.xor k (aesBlock (mixCols [2, 3, 1, 1] (shiftRows ((aesBytes x).map subByte)))))

/-- One block enciphered under round keys. -/
def aesWith (ks : List Nat) (x : Nat) : Nat := aesRounds (ks.drop 1) (Nat.xor (ks.headD 0) x)

/-- One block enciphered (12 R407). -/
def aesEnc (key : List Byte) (x : Nat) : Nat := aesWith (aesKeys key) x

/-- The inverse rounds, round keys last first. -/
def iaesRounds : List Nat → Nat → Nat
  | [], x => x
  | [k], x => Nat.xor k x
  | k :: ks, x =>
    let y := mixCols [14, 11, 13, 9] (aesBytes (Nat.xor k x))
    iaesRounds ks (aesBlock ((ishiftRows y).map isubByte))

/-- One block deciphered. -/
def aesDec (key : List Byte) (x : Nat) : Nat :=
  match (aesKeys key).reverse with
  | [] => x
  | k :: ks => iaesRounds ks (aesBlock ((ishiftRows (aesBytes (Nat.xor k x))).map isubByte))

/-! CMAC and the KDF (04 R145). -/

/-- A block doubled for a CMAC subkey. -/
def cmacDbl (x : Nat) : Nat := if x < 2 ^ 127 then 2 * x else Nat.xor (2 * x % 2 ^ 128) 0x87

/-- The blocks of a message chained; the last one takes a subkey, the second where it was filled up. -/
def cmacFold (ks : List Nat) (k1 k2 : Nat) : Nat → Nat → List Byte → Nat
  | 0, x, _ => x
  | n + 1, x, m =>
    if 16 < m.length then cmacFold ks k1 k2 n (aesWith ks (Nat.xor x (ofBE (m.take 16)))) (m.drop 16)
    else if m.length = 16 then aesWith ks (Nat.xor x (Nat.xor k1 (ofBE m)))
    else aesWith ks (Nat.xor x (Nat.xor k2 (ofBE (m ++ [0x80] ++ zeros (15 - m.length)))))

/-- AES-CMAC of a message. -/
def cmac (key m : List Byte) : Nat :=
  let ks := aesKeys key
  let k1 := cmacDbl (aesWith ks 0)
  cmacFold ks k1 (cmacDbl k1) (m.length / 16 + 1) 0 m

/-- The input of block `i` of the KDF: counter, label, separator, context and length in bits (04 Table 04-11; 12 R418). -/
def kdfInput (i : Nat) (label context : List Byte) (bits : Nat) : List Byte :=
  beB 4 i ++ label ++ [0] ++ context ++ beB 4 bits

/-- The counter-mode KDF with AES-CMAC: `bits` of output from blocks numbered from 1 (04 R145). -/
def kdf (key label context : List Byte) (bits : Nat) : List Byte :=
  ((List.range (ceilDiv bits 128)).map (fun i => beB 16 (cmac key (kdfInput (i + 1) label context bits)))).flatten

/-- The label "SC84-MK" (04 Table 04-11). -/
def labelMk : List Byte := [0x53, 0x43, 0x38, 0x34, 0x2D, 0x4D, 0x4B]

/-- EK and AK of a meter in derived mode: 256 bits from the master key, its title and key generation (04 R145). -/
def deriveKeys (master title : List Byte) (gen : Nat) : List Byte × List Byte :=
  let o := kdf master labelMk (title ++ beB 2 gen) 256
  (o.take 16, o.drop 16)

/-! GCM (04 R136, R138; 10 R332, R350). -/

/-- The product in the field of GCM: `n` bits of `x` still to take, highest first. -/
def ghashMul : Nat → Nat → Nat → Nat → Nat
  | 0, _, _, z => z
  | n + 1, x, v, z =>
    ghashMul n x (if v % 2 = 1 then Nat.xor (v / 2) (0xE1 * 2 ^ 120) else v / 2) (if bitAt x n then Nat.xor z v else z)

/-- The blocks of a byte string, the last one filled up with zeros. -/
def blocks16 : Nat → List Byte → List Nat
  | 0, _ => []
  | n + 1, m => if m.isEmpty then [] else ofBE (padTo 16 (m.take 16)) :: blocks16 n (m.drop 16)

/-- GHASH over additional data, ciphertext and their lengths. -/
def ghash (h : Nat) (aad ct : List Byte) : Nat :=
  (blocks16 (aad.length + 1) aad ++ blocks16 (ct.length + 1) ct ++ [aad.length * 8 * 2 ^ 64 + ct.length * 8]).foldl
    (fun y x => ghashMul 128 (Nat.xor y x) h 0) 0

/-- Bytes combined with a key stream of counter blocks from `c` on; the low 32 bits count. -/
def ctrStream (ks : List Nat) : Nat → Nat → List Byte → List Byte
  | 0, _, _ => []
  | n + 1, c, m =>
    if m.isEmpty then []
    else
      let s := beB 16 (aesWith ks c)
      (m.take 16).zipWith (fun a b => a ^^^ b) s
        ++ ctrStream ks n (c / 2 ^ 32 * 2 ^ 32 + (c % 2 ^ 32 + 1) % 2 ^ 32) (m.drop 16)

/-- AES-CTR from an initial counter block (12 Table 12-1). -/
def aesCtr (key : List Byte) (c : Nat) (m : List Byte) : List Byte := ctrStream (aesKeys key) (m.length + 1) c m

/-- The first counter block of a 12-byte IV. -/
def gcmJ0 (iv : List Byte) : Nat := ofBE iv * 2 ^ 32 + 1

/-- The tag over a ciphertext, all 16 bytes. -/
def gcmTag (key iv aad ct : List Byte) : List Byte :=
  let ks := aesKeys key
  beB 16 (Nat.xor (aesWith ks (gcmJ0 iv)) (ghash (aesWith ks 0) aad ct))

/-- GCM seal: ciphertext, then the tag cut to `t` bytes. -/
def gcmSeal (key iv aad plain : List Byte) (t : Nat) : List Byte :=
  let ct := aesCtr key (gcmJ0 iv + 1) plain
  ct ++ (gcmTag key iv aad ct).take t

/-- GCM open: the plaintext when the tag is right. -/
def gcmOpen (key iv aad ct tag : List Byte) : Option (List Byte) :=
  if (gcmTag key iv aad ct).take tag.length = tag then some (aesCtr key (gcmJ0 iv + 1) ct) else none

/-! CBC, CFB-128, OFB and CCM (12 Table 12-1; NIST SP 800-38A, 800-38C). -/

/-- CBC encryption of whole blocks. -/
def cbcEncFrom (ks : List Nat) : Nat → Nat → List Byte → List Byte
  | 0, _, _ => []
  | n + 1, c, m =>
    if m.isEmpty then []
    else
      let x := aesWith ks (Nat.xor c (ofBE (m.take 16)))
      beB 16 x ++ cbcEncFrom ks n x (m.drop 16)

/-- CBC encryption. -/
def cbcEnc (key iv m : List Byte) : List Byte := cbcEncFrom (aesKeys key) (m.length + 1) (ofBE iv) m

/-- CBC decryption of whole blocks. -/
def cbcDecFrom (key : List Byte) : Nat → Nat → List Byte → List Byte
  | 0, _, _ => []
  | n + 1, c, m =>
    if m.isEmpty then []
    else beB 16 (Nat.xor c (aesDec key (ofBE (m.take 16)))) ++ cbcDecFrom key n (ofBE (m.take 16)) (m.drop 16)

/-- CBC decryption. -/
def cbcDec (key iv m : List Byte) : List Byte := cbcDecFrom key (m.length + 1) (ofBE iv) m

/-- CFB-128; `dec` tells which of the two texts is fed back. -/
def cfbFrom (ks : List Nat) (dec : Bool) : Nat → Nat → List Byte → List Byte
  | 0, _, _ => []
  | n + 1, c, m =>
    if m.isEmpty then []
    else
      let o := (m.take 16).zipWith (fun a b => a ^^^ b) (beB 16 (aesWith ks c))
      o ++ cfbFrom ks dec n (ofBE (if dec then m.take 16 else o)) (m.drop 16)

/-- CFB-128 encryption. -/
def cfbEnc (key iv m : List Byte) : List Byte := cfbFrom (aesKeys key) false (m.length + 1) (ofBE iv) m

/-- CFB-128 decryption. -/
def cfbDec (key iv m : List Byte) : List Byte := cfbFrom (aesKeys key) true (m.length + 1) (ofBE iv) m

/-- OFB: the key stream feeds itself. -/
def ofbFrom (ks : List Nat) : Nat → Nat → List Byte → List Byte
  | 0, _, _ => []
  | n + 1, c, m =>
    if m.isEmpty then []
    else
      let x := aesWith ks c
      (m.take 16).zipWith (fun a b => a ^^^ b) (beB 16 x) ++ ofbFrom ks n x (m.drop 16)

/-- OFB. -/
def ofb (key iv m : List Byte) : List Byte := ofbFrom (aesKeys key) (m.length + 1) (ofBE iv) m

/-- The CCM tag before it is masked: CBC-MAC over the first block, the associated data and the message. -/
def ccmMac (ks : List Nat) (nonce aad m : List Byte) (t : Nat) : Nat :=
  let q := 15 - nonce.length
  let b0 := (if aad.isEmpty then 0 else 64) + (t - 2) / 2 * 8 + (q - 1)
  let head := if aad.isEmpty then [] else beB 2 aad.length ++ aad
  (ofBE (beB 1 b0 ++ nonce ++ beB q m.length) :: (blocks16 (head.length + 1) head ++ blocks16 (m.length + 1) m)).foldl
    (fun x b => aesWith ks (Nat.xor x b)) 0

/-- Counter block `i` of CCM. -/
def ccmCtr (nonce : List Byte) (i : Nat) : Nat :=
  let q := 15 - nonce.length
  ofBE (beB 1 (q - 1) ++ nonce ++ beB q i)

/-- The tag of CCM, cut to `t` bytes. -/
def ccmTag (ks : List Nat) (nonce aad m : List Byte) (t : Nat) : List Byte :=
  (beB 16 (Nat.xor (ccmMac ks nonce aad m t) (aesWith ks (ccmCtr nonce 0)))).take t

/-- The blocks of a message under CCM's counter. -/
def ccmStream (ks : List Nat) (nonce : List Byte) : Nat → Nat → List Byte → List Byte
  | 0, _, _ => []
  | n + 1, i, m =>
    if m.isEmpty then []
    else (m.take 16).zipWith (fun a b => a ^^^ b) (beB 16 (aesWith ks (ccmCtr nonce i))) ++ ccmStream ks nonce n (i + 1) (m.drop 16)

/-- CCM seal: ciphertext, then the tag. -/
def ccmSeal (key nonce aad m : List Byte) (t : Nat) : List Byte :=
  let ks := aesKeys key
  ccmStream ks nonce (m.length + 1) 1 m ++ ccmTag ks nonce aad m t

/-- CCM open: the plaintext when the tag is right. -/
def ccmOpen (key nonce aad ct tag : List Byte) : Option (List Byte) :=
  let ks := aesKeys key
  let m := ccmStream ks nonce (ct.length + 1) 1 ct
  if ccmTag ks nonce aad m tag.length = tag then some m else none

/-! AES key wrap (04 R144; 12 R410, R422). -/

/-- The 8-byte halves of wrapped data as numbers. -/
def halves8 : Nat → List Byte → List Nat
  | 0, _ => []
  | n + 1, m => ofBE (m.take 8) :: halves8 n (m.drop 8)

/-- The unwrapping steps, `t` of them to go. -/
def unwrapSteps (key : List Byte) (n : Nat) : Nat → Nat → List Nat → Nat × List Nat
  | 0, a, r => (a, r)
  | t + 1, a, r =>
    let i := t % n
    let b := aesDec key (Nat.xor a (t + 1) * 2 ^ 64 + r.getD i 0)
    unwrapSteps key n t (b / 2 ^ 64) (r.set i (b % 2 ^ 64))

/-- AES key unwrap with its integrity check; none where it fails. -/
def keyUnwrap (key w : List Byte) : Option (List Byte) :=
  let n := w.length / 8 - 1
  match halves8 (n + 1) w with
  | [] => none
  | a :: r =>
    let x := unwrapSteps key n (6 * n) a r
    if x.1 = 0xA6A6A6A6A6A6A6A6 then some ((x.2.map (beB 8)).flatten) else none

/-! SHA-256 (12 R413, R423). -/

/-- A 32-bit word rotated right. -/
def rotr (n x : Nat) : Nat := x / 2 ^ n + x % 2 ^ n * 2 ^ (32 - n)

/-- The round constants of SHA-256. -/
def shaK : List Nat :=
  [0x428a2f98, 0x71374491, 0xb5c0fbcf, 0xe9b5dba5, 0x3956c25b, 0x59f111f1, 0x923f82a4, 0xab1c5ed5,
   0xd807aa98, 0x12835b01, 0x243185be, 0x550c7dc3, 0x72be5d74, 0x80deb1fe, 0x9bdc06a7, 0xc19bf174,
   0xe49b69c1, 0xefbe4786, 0x0fc19dc6, 0x240ca1cc, 0x2de92c6f, 0x4a7484aa, 0x5cb0a9dc, 0x76f988da,
   0x983e5152, 0xa831c66d, 0xb00327c8, 0xbf597fc7, 0xc6e00bf3, 0xd5a79147, 0x06ca6351, 0x14292967]
  ++ [0x27b70a85, 0x2e1b2138, 0x4d2c6dfc, 0x53380d13, 0x650a7354, 0x766a0abb, 0x81c2c92e, 0x92722c85,
   0xa2bfe8a1, 0xa81a664b, 0xc24b8b70, 0xc76c51a3, 0xd192e819, 0xd6990624, 0xf40e3585, 0x106aa070,
   0x19a4c116, 0x1e376c08, 0x2748774c, 0x34b0bcb5, 0x391c0cb3, 0x4ed8aa4a, 0x5b9cca4f, 0x682e6ff3,
   0x748f82ee, 0x78a5636f, 0x84c87814, 0x8cc70208, 0x90befffa, 0xa4506ceb, 0xbef9a3f7, 0xc67178f2]

/-- The initial hash value. -/
def shaInit : List Nat :=
  [0x6a09e667, 0xbb67ae85, 0x3c6ef372, 0xa54ff53a, 0x510e527f, 0x9b05688c, 0x1f83d9ab, 0x5be0cd19]

/-- The message schedule, newest word first, `n` words more. -/
def shaSched : Nat → List Nat → List Nat
  | 0, l => l
  | n + 1, l =>
    let a := l.getD 1 0
    let b := l.getD 14 0
    let s1 := Nat.xor (Nat.xor (rotr 17 a) (rotr 19 a)) (a / 2 ^ 10)
    let s0 := Nat.xor (Nat.xor (rotr 7 b) (rotr 18 b)) (b / 2 ^ 3)
    shaSched n ((s1 + l.getD 6 0 + s0 + l.getD 15 0) % 2 ^ 32 :: l)

/-- One round on the eight working words. -/
def shaRound (v : List Nat) (kw : Nat) : List Nat :=
  match v with
  | [a, b, c, d, e, f, g, h] =>
    let s1 := Nat.xor (Nat.xor (rotr 6 e) (rotr 11 e)) (rotr 25 e)
    let ch := Nat.xor (Nat.land e f) (Nat.land (2 ^ 32 - 1 - e) g)
    let t1 := h + s1 + ch + kw
    let s0 := Nat.xor (Nat.xor (rotr 2 a) (rotr 13 a)) (rotr 22 a)
    let mj := Nat.xor (Nat.xor (Nat.land a b) (Nat.land a c)) (Nat.land b c)
    [(t1 + s0 + mj) % 2 ^ 32, a, b, c, (d + t1) % 2 ^ 32, e, f, g]
  | _ => v

/-- One 64-byte block. -/
def shaBlock (h : List Nat) (m : List Byte) : List Nat :=
  let w := (shaSched 48 ((List.range 16).map (fun i => beAt m (4 * i) 4)).reverse).reverse
  (h.zip ((w.zip shaK).foldl (fun v x => shaRound v (x.1 + x.2)) h)).map (fun x => (x.1 + x.2) % 2 ^ 32)

/-- The blocks of a padded message. -/
def shaBlocks : Nat → List Nat → List Byte → List Nat
  | 0, h, _ => h
  | n + 1, h, m => shaBlocks n (shaBlock h (m.take 64)) (m.drop 64)

/-- SHA-256 of a byte string. -/
def sha256 (m : List Byte) : List Byte :=
  let n := ceilDiv (m.length + 9) 64
  let p := m ++ [0x80] ++ zeros (64 * n - m.length - 9) ++ beB 8 (m.length * 8)
  ((shaBlocks n shaInit p).map (beB 4)).flatten

end Sys2Proof.Machine
end

