-- ==== Sys2Proof/Machine/LaneOps.lean ====
section
/-! DEFINITION. The jobs of the cipher lanes (12 R407 to R412): limits, keys, what a job computes, its operations and
cycles, and how queued jobs start. -/
namespace Sys2Proof.Machine

/-! Key slots as jobs read them (12 R415 to R418). -/

/-- A slot; a slot that is not listed is free (12 R415). -/
def keySlotAt (s : State) (n : Nat) : KeySlot := (assocGet n s.keys.slots).getD {}

/-- The device root, and under debug the test root 00, 01 … 1F (12 R418, R425). -/
def deviceRoot (debug : Bool) : List Byte := (List.range 32).map (fun i => if debug then BitVec.ofNat 8 i else Config.fusedRoot i)

/-- The order of P-256. -/
def p256Order : Nat := 0xFFFFFFFF00000000FFFFFFFFFFFFFFFFBCE6FAADA7179E84F3B9CAC2FC632551

/-- The label "SC84-ID" (12 R418). -/
def labelId : List Byte := [0x53, 0x43, 0x38, 0x34, 0x2D, 0x49, 0x44]

/-- The identity key derived from the root: 384 bits, reduced to 1 to n − 1 (12 R418). -/
def identityKey (debug : Bool) : List Byte :=
  beB 32 (ofBE (kdf (deviceRoot debug) labelId (zeros 8) 384) % (p256Order - 1) + 1)

/-- The identity key's slot (12 R417). -/
def identitySlot (s : State) : KeySlot :=
  { attr := 4, type := 3, loaded := true, key := identityKey (rdB s P40.DEBUG_ACTIVE), origin := .fused }

/-- A slot, slot 0 being the identity key. -/
def anySlot (s : State) (n : Nat) : KeySlot := if n = 0 then identitySlot s else keySlotAt s n

/-! Limits (12 Table 12-1). -/

/-- The completion code of a status (12 R409). -/
def jobCode : JobStatus → Nat
  | .ok => 0
  | .authFail => 1
  | .keyAbsent => 2
  | .keyDenied => 3
  | .limit => 4
  | .aborted => 5

/-- A job keeps the limits of its mode (12 Table 12-1). -/
def jobLimitsOk (j : LaneJob) : Bool :=
  let iv := j.iv.length
  let m := j.mode
  decide (j.dataLen ≤ 67108864) &&
    (if m = 1 ∨ m = 2 then iv == 16 && j.dataLen % 16 == 0
     else if m = 3 then iv == 16 && decide (ofBE (j.iv.drop 12) + ceilDiv j.dataLen 16 ≤ 2 ^ 32)
     else if m = 4 ∨ m = 5 ∨ m = 6 then iv == 16
     else if m = 7 ∨ m = 8 then iv == 12 && [4, 8, 12, 13, 14, 15, 16].contains j.tagLen && decide (j.aadLen ≤ 65535)
     else if m = 9 ∨ m = 10 then
       decide (7 ≤ iv) && decide (iv ≤ 13) && decide (4 ≤ j.tagLen) && decide (j.tagLen ≤ 16) && j.tagLen % 2 == 0
         && decide (j.aadLen ≤ 65279) && decide (j.dataLen < 2 ^ (8 * (15 - iv)))
     else if m = 11 ∨ m = 12 then decide (4 ≤ j.tagLen) && decide (j.tagLen ≤ 16)
     else false)

/-! Keys (12 R410; 04 R144). -/

/-- The bit of MODES that a mode needs (12 Tables 12-1, 12-4). -/
def modeBit (m : Nat) : Nat := ([0, 0, 0, 1, 2, 2, 3, 4, 4, 5, 5, 6, 6] : List Nat).getD m 8

/-- Why a job may not use its key: none when it may (12 R410). -/
def jobKeyBad (s : State) (j : LaneJob) : Option JobStatus :=
  let k := anySlot s j.slot
  let gcm := j.mode == 7 || j.mode == 8
  if j.keySrc = 6 then (if (j.poster = .boot ∨ j.poster = .imageCommit) ∧ j.mode = 3 then none else some .keyDenied)
  else if j.keySrc = 0 ∨ 6 < j.keySrc then some .keyDenied
  else if k.loaded = false then some .keyAbsent
  else if j.keySrc = 1 then
    (if k.attr = 3 ∧ bitAt k.modes (modeBit j.mode) = true ∧ bitAt k.modes 7 = false then none else some .keyDenied)
  else if gcm = true ∧ k.attr = (if j.keySrc ≤ 3 then 1 else 2) then none
  else some .keyDenied

/-- EK and AK of a meter under its slot: derived for a generation, or unwrapped, which may fail (04 R144, R145). -/
def meterKeys (s : State) (m : Meter) (gen : Nat) : Option (List Byte × List Byte) :=
  let k := (anySlot s (m.key % 512)).key
  if m.key / 2 ^ 14 = 1 then some (deriveKeys k (leB 8 m.title) gen)
  else (keyUnwrap k m.wrapped).map (fun x => (x.take 16, x.drop 16))

/-- The keys that a job obtains: its own or EK, and AK; none when the unwrap fails its check (12 R409, R410). -/
def jobKeys (s : State) (j : LaneJob) : Option (List Byte × List Byte) :=
  let k := (anySlot s j.slot).key
  let m := recordAt s j.mix
  if j.keySrc = 6 then some ((List.range 16).map Config.imageKey, [])
  else if j.keySrc = 1 then some (k, [])
  else if j.keySrc ≤ 3 then some (deriveKeys k (leB 8 ((m.map Meter.title).getD 0)) j.keyGen)
  else (keyUnwrap k ((m.map Meter.wrapped).getD [])).map (fun x => (x.take 16, x.drop 16))

/-! What a job computes (12 Table 12-1, R409). -/

/-- A job's output, or a tag that is wrong. -/
def runMode (j : LaneJob) (key aad data tag : List Byte) : JobStatus × List Byte :=
  let ok := fun (o : List Byte) => (JobStatus.ok, o)
  let opened := fun (o : Option (List Byte)) => match o with
    | some p => (JobStatus.ok, p)
    | none => (JobStatus.authFail, zeros data.length)
  let m := j.mode
  if m = 1 then ok (cbcEnc key j.iv data)
  else if m = 2 then ok (cbcDec key j.iv data)
  else if m = 3 then ok (aesCtr key (ofBE j.iv) data)
  else if m = 4 then ok (cfbEnc key j.iv data)
  else if m = 5 then ok (cfbDec key j.iv data)
  else if m = 6 then ok (ofb key j.iv data)
  else if m = 7 then ok (gcmSeal key j.iv aad data j.tagLen)
  else if m = 8 then opened (gcmOpen key j.iv aad data tag)
  else if m = 9 then ok (ccmSeal key j.iv aad data j.tagLen)
  else if m = 10 then opened (ccmOpen key j.iv aad data tag)
  else if m = 11 then ok ((beB 16 (cmac key data)).take j.tagLen)
  else if (beB 16 (cmac key data)).take j.tagLen = tag then ok [] else (.authFail, [])

/-- A job reads its data in memory: AAD, data, and the tag of an open or verify job (12 R409). -/
def runMemory (s : State) (j : LaneJob) (key : List Byte) : JobStatus × List Byte :=
  runMode j key (rdMems s j.src j.aadLen) (rdMems s (j.src + j.aadLen) j.dataLen)
    (rdMems s (j.src + j.aadLen + j.dataLen) j.tagLen)

/-- The frame of an unsealing job cut for its mode: associated data, ciphertext and tag (04 R136, R138). -/
def unsealParts (u : UnsealJob) (ak : List Byte) : List Byte × List Byte × List Byte :=
  let f := u.item.frame
  if u.dlms then
    match axdrLen (f.drop 10) with
    | some (_, l) =>
      let body := (l.drop 5).take (l.length - 17)
      let sc := l.take 1
      if byteAt l 0 = 0x30 then (sc ++ ak, body, l.drop (l.length - 12)) else (sc ++ ak ++ body, [], l.drop (l.length - 12))
    | none => ([], [], [])
  else (f.take 15, (f.drop 15).take (f.length - 27), f.drop (f.length - 12))

/-- The plaintext of a frame whose tag was right: an authenticated-only APDU is sent in the clear (04 R138). -/
def unsealPlain (u : UnsealJob) (out : List Byte) : List Byte :=
  let l := ((axdrLen (u.item.frame.drop 10)).map Prod.snd).getD []
  if u.dlms && byteAt l 0 == 0x10 then (l.drop 5).take (l.length - 17) else out

/-- The 12-byte IV of a frame: the system title, then the counter big-endian (04 R136, R138). -/
def unsealIv (u : UnsealJob) : List Byte :=
  (if u.dlms then (u.item.frame.drop 2).take 8 else (u.item.frame.drop 1).take 8) ++ beB 4 u.ic

/-- An unsealing job's result under EK and AK. -/
def runUnseal (u : UnsealJob) (ek ak : List Byte) : JobStatus × List Byte :=
  let x := unsealParts u ak
  match gcmOpen ek (unsealIv u) x.1 x.2.1 x.2.2 with
  | some p => (.ok, unsealPlain u p)
  | none => (.authFail, [])

/-- The descriptor of an unsealing job: GCM open with EK, for DLMS with EK and AK, at level 17 (04 R144; 12 Table 12-2; 01
Table 01-2). -/
def unsealJobDesc (m : Meter) (u : UnsealJob) : LaneJob :=
  let x := unsealParts u (zeros 16)
  { poster := .infeed, mode := 8, keySrc := (if m.key / 2 ^ 14 = 1 then 2 else 4) + b2n u.dlms, tagLen := 12,
    slot := m.key % 512, mix := u.mix, level := 17, keyGen := u.keyGen, tag := u.id % 2 ^ 32, aadLen := x.1.length,
    dataLen := x.2.1.length, iv := unsealIv u, src := 0, dst := 0 }

/-! Operations and cycles (12 R407, R410, Tables 12-1, 12-8). -/

/-- The block operations of a job: key, mode and data. -/
def jobOps (j : LaneJob) : Nat :=
  (if j.keySrc = 2 ∨ j.keySrc = 3 then 5 else if j.keySrc = 4 ∨ j.keySrc = 5 then 24 else 0)
    + (if j.mode = 7 ∨ j.mode = 8 then 2 else if j.mode = 11 ∨ j.mode = 12 then 1 else 0)
    + ceilDiv j.dataLen 16 * (if j.mode = 9 ∨ j.mode = 10 then 2 else 1)

/-- The cipher cycles a job uses: set-up, its operations, and the tag, as the example of Table 12-8 counts them. -/
def jobCycles (j : LaneJob) : Nat := 64 + 22 * jobOps j + (if 7 ≤ j.mode then 8 else 0)

/-! Completion. -/

/-- A job's completion record written: jobs and failures counted (12 R409, R428). -/
def jobDone (j : LaneJob) (st : JobStatus) (cycles : Nat) (s : State) : State :=
  bumpI P40.AUTH_FAIL_JOBS 0 (b2n (st == .authFail)) (bump P40.LANE_JOBS (emit (.laneDone j.tag (jobCode st) cycles) s))

/-- What an unsealing job came to, for Infeed. -/
def infeedTold (j : LaneJob) (st : JobStatus) (plain : List Byte) (s : State) : State :=
  let mine := fun (u : UnsealJob) => u.id % 2 ^ 32 == j.tag && u.res.isNone
  let l := mapIf mine (fun u => { u with res := some (st, plain) }) s.infeed.jobs
  if j.poster = .infeed then { s with infeed := { s.infeed with jobs := l } } else s

/-- The unsealing job of a lane job. -/
def infeedJob (s : State) (j : LaneJob) : Option UnsealJob :=
  if j.poster = .infeed then s.infeed.jobs.find? (fun u => u.id % 2 ^ 32 == j.tag && u.res.isNone) else none

/-- The output of an open job of memory is zeroed (12 R409). -/
def zeroOut (j : LaneJob) (s : State) : State :=
  if j.poster = .infeed ∨ j.poster = .downlink ∨ j.mode = 11 ∨ j.mode = 12 then s else wrMems j.dst (zeros j.dataLen) s

/-- A job broken off: ABORTED, after cycles that the spec does not give (12 R409, R427). -/
def abortJob (j : LaneJob) (s : State) : State :=
  infeedTold j .aborted [] (jobDone j .aborted (Config.laneCycles s.free) (zeroOut j (drawn s)))

/-! Lanes (12 R411). -/

/-- A lane. -/
def laneAt (s : State) (n : Nat) : Lane := s.keys.lanes.getD n {}

/-- A lane replaced. -/
def setLane (n : Nat) (l : Lane) (s : State) : State := { s with keys := { s.keys with lanes := s.keys.lanes.set n l } }

/-- The lowest free lane. -/
def freeLane (s : State) : Option Nat := (List.range 8).find? (fun n => (laneAt s n).job.isNone && (laneAt s n).suspended.isEmpty)

/-- The use of its slot's key counted (12 R423). -/
def countUse (j : LaneJob) (s : State) : State :=
  if j.keySrc = 6 then s
  else
    let ks := mapIf (fun (x : Nat × KeySlot) => x.1 == j.slot) (fun x => (x.1, { x.2 with jobs := satAdd 32 x.2.jobs 1 })) s.keys.slots
    { s with keys := { s.keys with slots := ks } }

/-- A job with the keys the lane has obtained, or the status it ends with at once (12 R409, R410). -/
def loadJob (s : State) (j : LaneJob) : RunJob ⊕ JobStatus :=
  match jobKeyBad s j with
  | some st => .inr st
  | none => match jobKeys s j with
    | some k => .inl ⟨j, k.1, k.2, jobOps j⟩
    | none => .inr .authFail

/-- A job that ends before it runs. -/
def failJob (j : LaneJob) (st : JobStatus) (s : State) : State := infeedTold j st [] (jobDone j st (jobCycles { j with dataLen := 0 }) s)

/-- A job begun on a lane, or completed at once when its key may not be used (12 R410). -/
def beginJob (n : Nat) (j : LaneJob) (s : State) : State :=
  match loadJob s j with
  | .inr st => failJob j st s
  | .inl r => countUse j (setLane n { laneAt s n with job := some r } s)

/-- A job put into the queue by level, after those of its level (12 R411). -/
def insJob (j : LaneJob) : List LaneJob → List LaneJob
  | [] => [j]
  | x :: l => if x.level ≤ j.level then x :: insJob j l else j :: x :: l

/-- An unsealing job waits while an older frame, or a thread, of its meter's flow is still being handled (01 R38; 04 R128). -/
def flowBusy (s : State) (j : LaneJob) : Bool :=
  match infeedJob s j with
  | some u => s.sett.inService.contains (u.mix % 1024) || (s.infeed.jobs.takeWhile (fun x => x.id != u.id)).any (fun x => x.mix % 1024 == u.mix % 1024)
  | none => false

/-- The first queued job that may start, and the others (12 R411). -/
def nextJob (s : State) : Option (LaneJob × List LaneJob) :=
  match s.keys.queue.find? (fun j => !flowBusy s j) with
  | some j => some (j, s.keys.queue.erase j)
  | none => none

/-- Queued jobs started on free lanes (12 R411). -/
def startJobs : Nat → State → State
  | 0, s => s
  | fuel + 1, s =>
    match nextJob s, freeLane s with
    | some (j, l), some n => startJobs fuel (beginJob n j { s with keys := { s.keys with queue := l } })
    | _, _ => s

/-- A job queued, and what can start started. -/
def queueJob (j : LaneJob) (s : State) : State :=
  startJobs (s.keys.queue.length + 9) { s with keys := { s.keys with queue := insJob j s.keys.queue } }

/-- The lane an urgent job pre-empts: the highest LEVEL number above its own and above 7, the lowest lane among equals, with
a free context (12 R412). -/
def victimLane (s : State) (level : Nat) : Option Nat :=
  let lev := fun n => (((laneAt s n).job).map (fun r => r.job.level)).getD 0
  let ok := (List.range 8).filter (fun n => (laneAt s n).job.isSome && decide (level < lev n) && decide (8 ≤ lev n)
    && decide ((laneAt s n).suspended.length < 8))
  ok.foldl (fun b n => match b with
    | none => some n
    | some m => if lev m < lev n then some n else some m) none

/-- An urgent job started on a lane whose job is suspended (12 R412). -/
def preempt (n : Nat) (j : LaneJob) (s : State) : State :=
  match loadJob s j with
  | .inr st => failJob j st s
  | .inl r =>
    let l := laneAt s n
    count 0x09 n 1 (bump P40.PREEMPTIONS (countUse j (setLane n { l with job := some r, suspended := l.job.toList ++ l.suspended } s)))

/-- A job within the limits of its mode posted (12 R411, R412). -/
def postJob (j : LaneJob) (s : State) : State :=
  if (freeLane s).isSome = true ∨ j.level < 8 ∨ 15 < j.level then queueJob j s
  else match victimLane s j.level with
    | some n => preempt n j s
    | none => { s with keys := { s.keys with queue := insJob j s.keys.queue } }

end Sys2Proof.Machine
end

