-- ==== Sys2Proof/Machine/Infeed.lean ====
section
/-! DEFINITION. Infeed (04): frames parsed in the slot, unsealing jobs, the slow path, the counter check and
de-duplication. -/
namespace Sys2Proof.Machine

/-! Frames refused before decoding. -/

/-- An item that comes to nothing: counted against its batch, reported to its stream port (04 R157, Table 04-16). -/
def refuseItem (w : Way) (s : State) : State := streamDone w (countBatch w 0 1 s)

/-- A malformed item is counted and dropped (04 R129, R135). -/
def dropMalformed (w : Way) (s : State) : State :=
  refuseItem w { s with infeed := { s.infeed with malformed := s.infeed.malformed + 1 } }

/-- A frame from an unknown title: dropped and counted; NEW_TITLE_SEEN at most once per second (04 R147). -/
def dropUnknown (title : Nat) (w : Way) (s : State) : State :=
  let s1 := refuseItem w (bump P10.UNKNOWN_TITLE s)
  let due := match s.infeed.titleLogAt with
    | none => true
    | some t => passed s t (secBeats 1)
  if due then logEv evNewTitleSeen (leB 8 title) { s1 with infeed := { s1.infeed with titleLogAt := some s.beat.ticks } }
  else s1

/-- A failed authentication: counted, and METER_AUTH_FAIL at the limit within one legal hour (04 R147). -/
def authFail (mix : Nat) (w : Way) (s : State) : State :=
  let hour := legalSec s / 3600 % 2 ^ 24
  let up := fun (m : Meter) =>
    let n := if m.authHour = hour then m.authFails else 0
    { m with authHour := hour, authFails := satAdd 8 n 1, authLogged := m.authHour == hour && m.authLogged }
  let s1 := modMeter mix up (refuseItem w (bump P10.AUTH_FAILS s))
  match meterAt s1 mix with
  | some m =>
    if rd s P10.AUTH_FAIL_LIMIT ≤ m.authFails ∧ m.authLogged = false then
      logEv evMeterAuthFail (dMix mix) (modMeter mix (fun x => { x with authLogged := true }) s1)
    else s1
  | none => s1

/-! The slow path (04 R142). -/

/-- Tokens credited once per beat, up to SLOW_BURST (04 R142). -/
def refillTokens (s : State) : State :=
  let f := s.infeed.tokenFrac + rd s P10.SLOW_RATE
  { s with infeed := { s.infeed with tokens := min (rd s P10.SLOW_BURST) (s.infeed.tokens + f / 8000),
                                     tokenFrac := f % 8000 } }

/-- The bucket full (04 R142). -/
def fillTokens (s : State) : State :=
  { s with infeed := { s.infeed with tokens := rd s P10.SLOW_BURST, tokenFrac := 0 } }

/-- A frame handed to firmware, or dropped on an empty bucket; its thread runs in the flow of its meter where that is known
(04 R128, R142). -/
def slowPath (it : FifoItem) (mix : Option Nat) (s : State) : State :=
  if s.infeed.tokens = 0 then refuseItem it.way (bump P10.SLOW_DROPS s)
  else
    let id := s.infeed.nextSlow
    let x : SlowItem := { id := id, item := it, mix := mix }
    postItem (threadItem 20 (mix.map (fun m => m % 1024)) 1 (.slow id))
      { s with infeed := { s.infeed with tokens := s.infeed.tokens - 1, slowQ := s.infeed.slowQ ++ [x], nextSlow := id + 1 } }

/-- The thread that works on a frame has been serviced (04 R143; 01 R38). -/
def slowServed (id : Nat) (s : State) : State :=
  let l := mapIf (fun (x : SlowItem) => x.id == id) (fun x => { x with served := true }) s.infeed.slowQ
  { s with infeed := { s.infeed with slowQ := l } }

/-! De-duplication (04 R150 to R153). -/

/-- What every reading of a frame carries to Grade. -/
structure FrameIn where
  mix : Nat
  ic : Nat
  keyGen : Nat
  fseq : Nat
  way : Way
  src : Nat
  arrival : Arr
  ackReq : Bool
  mstatus : Nat
  lastEnd : Nat
  slow : Bool := false
  deriving DecidableEq, Repr

/-- A differing value at an ACTUAL slot is counted and logged (04 Table 04-13). -/
def dupConflict (mix : Nat) (r : Rdg) (s : State) : State :=
  match newestRec s mix r.ch (slotOf r.len r.tend * r.len) with
  | some e => if recVal e = r.value then s
    else logEv evDupConflict (dMix mix ++ leB 1 r.ch) (bump P10.DUP_CONFLICTS s)
  | none => s

/-- A reading passed to Grade. -/
def passReading (f : FrameIn) (id : Nat) (r : Rdg) (s : State) : State :=
  let g : GradeIn := { frame := id, mix := f.mix, rdg := r, mstatus := f.mstatus, frameEnd := f.lastEnd,
                       arrival := f.arrival, src := f.src, fseq := f.fseq, way := f.way }
  let s1 := markPending f.mix r.ch (slotOf r.len r.tend) s
  { s1 with grade := { s1.grade with queue := s1.grade.queue ++ [g] } }

/-- One reading checked against its meter's enrolment and presence map (04 R152, R153). -/
def dedupOne (m : Meter) (f : FrameIn) (id : Nat) (r : Rdg) (s : State) : State × ROut :=
  let k := slotOf r.len r.tend
  if bitAt m.chEnable r.ch = false ∨ r.len ≠ chanLen s m r.ch then (countBatch f.way 0 1 s, .shape)
  else if legalSec s + rd s P10.FUTURE_LIMIT < r.tend then (countBatch f.way 0 1 (bump P10.FUTURE_REFUSED s), .future)
  else
    let above := match presAt s f.mix r.ch with
      | none => true
      | some p => decide (p.h < k)
    if above then (passReading f id r s, .waiting)
    else match slotAt s f.mix r.ch k with
      | some .absent => (passReading f id r s, .waiting)
      | some .estimated => (passReading f id r s, .waiting)
      | some .pend => (countBatch f.way 1 0 (bump P10.DUPS_SUPPRESSED s), .linked)
      | some .actual => (countBatch f.way 1 0 (dupConflict f.mix r (bump P10.DUPS_SUPPRESSED s)), .dup)
      | none => (countBatch f.way 1 0 (bump P10.STALE_SUPPRESSED s), .stale)

/-- The readings of a frame in order. -/
def dedupAll (m : Meter) (f : FrameIn) (id : Nat) : List Rdg → State → State × List (Nat × Nat × ROut)
  | [], s => (s, [])
  | r :: l, s =>
    let (s1, o) := dedupOne m f id r s
    let (s2, os) := dedupAll m f id l s1
    (s2, (r.ch, slotOf r.len r.tend, o) :: os)

/-- Readings of a batch counted as they reach de-duplication; over 16,384 the batch is refused whole (04 R160). -/
def overBatch (w : Way) (n : Nat) (s : State) : Bool :=
  match w with
  | .batch no => s.infeed.batches.any (fun b => b.no == no && b.st == 2 && decide (16384 < b.counted + n))
  | _ => false

/-- A frame record with the outcomes of its readings. -/
def admitFrame (m : Meter) (f : FrameIn) (rs : List Rdg) (s : State) : State :=
  let id := s.infeed.nextFrame
  let again := s.infeed.frames.any (fun x => x.mix == f.mix && x.ic == f.ic && x.keyGen == f.keyGen && x.ackReq
    && localWay x.way)
  let (s1, outs) := dedupAll m f id rs { s with infeed := { s.infeed with nextFrame := id + 1 } }
  let x : FrameRec := { id := id, mix := f.mix, ic := f.ic, keyGen := f.keyGen, fseq := f.fseq, way := f.way, src := f.src,
                        ackReq := f.ackReq, again := again, rdgs := outs, frameEnd := f.lastEnd, arrival := f.arrival,
                        mstatus := f.mstatus, slow := f.slow }
  { s1 with infeed := { s1.infeed with frames := s1.infeed.frames ++ [x] } }

/-- The batch of an item is still being processed; one that was refused whole takes nothing more (04 R160). -/
def batchLive (s : State) (w : Way) : Bool :=
  match w with
  | .batch no => s.infeed.batches.any (fun b => b.no == no && b.st == 2)
  | _ => true

/-- A frame that passed the counter check goes to de-duplication; the readings of a batch are counted, and a batch with
too many is refused whole (04 R152, R153, R160). -/
def dedupFrame (m : Meter) (f : FrameIn) (rs : List Rdg) (s : State) : State :=
  match f.way with
  | .batch no =>
    if overBatch f.way rs.length s then abandonBatch no stNoResource 0x1005 s
    else admitFrame m f rs (modBatch no (fun b => { b with counted := b.counted + rs.length }) s)
  | _ => admitFrame m f rs s

/-! The counter check (04 R148). -/

/-- What Table 04-12 makes of a counter. -/
inductive IcRes where | pass | again | replay
  deriving DecidableEq, Repr

/-- The invocation counter check (04 Table 04-12). -/
def icCheck (m : Meter) (c : Nat) : IcRes :=
  if m.icHigh < c then .pass
  else if m.icHigh ≤ c + 31 then (if bitAt m.icMap (m.icHigh - c) then .again else .pass)
  else .replay

/-- An authenticated frame's counter handled, with `n` readings, then what the frame holds; a frame that came back from the
slow path passes below the window, whatever its way in (04 R148). -/
def afterCheck (m : Meter) (f : FrameIn) (n : Nat) (go : State → State) (s : State) : State :=
  match icCheck m f.ic with
  | .pass => go s
  | .again => streamDone f.way (countBatch f.way n 0 (appAck f.mix f.ic f.fseq f.way f.src f.ackReq 1 s))
  | .replay =>
    let s1 := bump P10.REPLAYS s
    if localWay f.way && !f.slow then s1 else go s1

/-! Decoding after authentication. -/

/-- The frame fields of an item. -/
def frameIn (m : Meter) (it : FifoItem) (ic keyGen fseq : Nat) (ackReq : Bool) (mstatus lastEnd : Nat) : FrameIn :=
  { mix := m.mix, ic := ic, keyGen := keyGen, fseq := fseq, way := it.way, src := it.src, arrival := it.arrival,
    ackReq := ackReq, mstatus := mstatus, lastEnd := lastEnd }

/-- An authenticated CIF body: interval data to de-duplication, TYPE 1 and 2 to firmware, unless
their counter passes only as a possible replay (04 R135 to R137; 10 R337). -/
def cifPlain (m : Meter) (it : FifoItem) (keyGen : Nat) (body : List Byte) (s : State) : State :=
  let ctrl := byteAt it.frame 0
  let ic := leAt it.frame 9 4
  let fseq := leAt it.frame 13 2
  let ack := bitAt ctrl 2
  if ctrl % 4 = 0 then
    match cifBody body with
    | some (rs, mst, last) =>
      let f := frameIn m it ic keyGen fseq ack mst last
      afterCheck m f rs.length (dedupFrame m f rs) s
    | none => dropMalformed it.way s
  else
    let x : Handed := ⟨m.mix, ctrl % 4, ic, keyGen, fseq, it.way, ack, it.arrival, body, it.src⟩
    if icCheck m ic = .replay then refuseItem it.way (bump P10.REPLAYS s)
    else afterCheck m (frameIn m it ic keyGen fseq ack 0 0) 0
      (fun t => { t with infeed := { t.infeed with handed := t.infeed.handed ++ [x] } }) s

/-- An authenticated DLMS APDU: a template's readings, malformed, or the slow path (04 R139). -/
def dlmsPlain (m : Meter) (j : UnsealJob) (plain : List Byte) (s : State) : State :=
  match dlmsBody { s with infeed := { s.infeed with templates := j.tpls } } m.template plain with
  | .took rs mst last =>
    let f := frameIn m j.item j.ic j.keyGen (j.ic % 65536) false mst last
    afterCheck m f rs.length (dedupFrame m f rs) s
  | .malformed => dropMalformed j.item.way s
  | .noMatch =>
    afterCheck m (frameIn m j.item j.ic j.keyGen (j.ic % 65536) false 0 0) 0
      (slowPath { j.item with frame := plain } (some m.mix)) s

/-! The flow of a meter (04 R128; 01 R38). -/

/-- Older work of a meter's flow is still being handled. -/
def flowWaits (s : State) (mix : Nat) : Bool := s.infeed.jobs.any (fun j => j.mix % 1024 == mix % 1024)

/-- Work put at the end of its meter's flow. -/
def joinFlow (j : UnsealJob) (s : State) : State :=
  { s with infeed := { s.infeed with jobs := s.infeed.jobs ++ [{ j with id := s.infeed.nextJob }],
                                     nextJob := s.infeed.nextJob + 1 } }

/-- Readings that firmware decoded: the counter check if firmware unsealed the frame, then de-duplication (04 R143). -/
def normItem (r : SlowRet) (w : Way) (s : State) : State :=
  match meterAt s r.mix with
  | none => refuseItem w s
  | some m =>
    let f : FrameIn := { mix := m.mix, ic := r.ic, keyGen := m.keyGen, fseq := r.fseq, way := w, src := r.src,
                         arrival := .legal r.arrival, ackReq := false, mstatus := r.mstatus, lastEnd := r.lastEnd,
                         slow := true }
    if r.unsealed then afterCheck m f r.rdgs.length (dedupFrame m f r.rdgs) s else dedupFrame m f r.rdgs s

/-- A clear frame or normalised readings handled in their turn. -/
def flowStep (j : UnsealJob) (s : State) : State :=
  match j.work with
  | .lane => s
  | .clear => (match meterAt s j.mix with
    | some m => cifPlain m j.item j.keyGen (j.item.frame.drop 15) s
    | none => dropUnknown (leAt j.item.frame 1 8) j.item.way s)
  | .norm r => normItem r j.item.way s

/-- The first work of a flow that needs no lane, when nothing of the flow is before it. -/
def flowHead (s : State) (mix : Nat) : Option UnsealJob :=
  match s.infeed.jobs.find? (fun j => j.mix % 1024 == mix % 1024) with
  | some j => if j.work = .lane then none else some j
  | none => none

/-- The work of a flow that needs no lane, up to the next unsealing job, in order. -/
def drainFlow (mix : Nat) : Nat → State → State
  | 0, s => s
  | fuel + 1, s =>
    match flowHead s mix with
    | some j =>
      drainFlow mix fuel (flowStep j { s with infeed := { s.infeed with jobs := s.infeed.jobs.filter (fun x => x.id != j.id) } })
    | none => s

/-- Work that needs no lane: handled at once, or in its turn behind older work of the flow. -/
def flowWork (j : UnsealJob) (s : State) : State :=
  if flowWaits s j.mix then joinFlow j s else flowStep j s

/-! Parsing (04 R128, R135 to R138, R146). -/

/-- The previous generation may still be used (04 R146). -/
def overlap (s : State) (m : Meter) : Bool :=
  decide (0 < m.keyGen) && decide (legalSec s < m.keygenAt + rd s P10.KEYGEN_OVERLAP * 3600)

/-- Derived mode (04 Table 04-4). -/
def derivedMode (m : Meter) : Bool := m.key / 2 ^ 14 == 1

/-- An unsealing job posted for the lanes in its meter's flow (04 R128, R144). -/
def startJob (m : Meter) (it : FifoItem) (dlms : Bool) (ic keyGen : Nat) (s : State) : State :=
  let j : UnsealJob := { id := s.infeed.nextJob, mix := m.mix, item := it, dlms := dlms, ic := ic, keyGen := keyGen,
                         retry := false, tpls := s.infeed.templates }
  queueJob (unsealJobDesc m j) (joinFlow j s)

/-- A secured frame: the generation it is unsealed with, or an authentication failure (04 R146). -/
def unsealIt (m : Meter) (it : FifoItem) (dlms : Bool) (ic : Nat) (kg : Option Bool) (s : State) : State :=
  if derivedMode m then
    match kg with
    | some b =>
      if b = bitAt m.keyGen 0 then startJob m it dlms ic m.keyGen s
      else if overlap s m then startJob m it dlms ic (m.keyGen - 1) s
      else authFail m.mix it.way s
    | none => startJob m it dlms ic m.keyGen s
  else if m.wrapped.isEmpty then authFail m.mix it.way s
  else startJob m it dlms ic m.keyGen s

/-- A CIF parsed (04 R135, R136). -/
def parseCif (it : FifoItem) (s : State) : State :=
  let f := it.frame
  if cifHeaderOk f = false then dropMalformed it.way s
  else match meterOfTitle s (leAt f 1 8) with
    | none => dropUnknown (leAt f 1 8) it.way s
    | some m =>
      if bitAt (byteAt f 0) 4 then unsealIt m it false (leAt f 9 4) (some (bitAt (byteAt f 0) 3)) s
      else if rdB s P10.ALLOW_CLEAR then
        flowWork { id := 0, mix := m.mix, item := it, dlms := false, ic := leAt f 9 4, keyGen := m.keyGen, retry := false,
                   work := .clear } s
      else refuseItem it.way (bump P10.CLEAR_DROPPED s)

/-- A DLMS frame parsed: hardware path, or the slow path (04 R138). -/
def parseDlms (it : FifoItem) (s : State) : State :=
  if rdB s P10.DLMS_EN = false then slowPath it none s
  else match dlmsWrapper it.frame with
    | none => slowPath it none s
    | some (_, ic) =>
      match meterOfTitle s (leAt it.frame 2 8) with
      | none => dropUnknown (leAt it.frame 2 8) it.way s
      | some m => unsealIt m it true ic none s

/-- One item parsed; what is left of a batch that was refused whole is passed over (04 R128, R129, R142, R143, R160). -/
def parseItem (it : FifoItem) (s : State) : State :=
  let s1 := count 0x04 (efOf it.way) 1 s
  if batchLive s it.way = false then s
  else match it.norm with
  | some (r, w) => flowWork { id := 0, mix := r.mix, item := { it with way := w }, dlms := false, ic := r.ic, keyGen := 0,
                              retry := false, work := .norm r } s1
  | none =>
    if it.format = fmtMalformed then dropMalformed it.way s1
    else if it.format = 1 then parseCif it s1
    else if it.format = 2 then parseDlms it s1
    else if it.format = 0 then (if byteAt it.frame 0 = 0xDB then parseDlms it s1 else parseCif it s1)
    else slowPath it none s1

/-- Items taken from one engine FIFO, at most `n`; EF_1 gives the items of the batch whose closing entry is in no sealed
group, so that one batch is open at a time (04 R127, R128; 06 R201). -/
def takeItems (ef n : Nat) (s : State) : List FifoItem × State :=
  if ef = 1 then
    match openBatch s with
    | some b => (b.items.take n, modBatch b.no (fun x => { x with items := x.items.drop n }) s)
    | none => ([], s)
  else
    let (its, f) := takeClosed (n + 2) (fifoAt s ef)
    if its.length ≤ n then (its, setFifo ef f s)
    else
      let (its1, f1) := takeClosed n (fifoAt s ef)
      (its1, setFifo ef f1 s)

/-- The engine FIFOs visited in turn from `ef`, with what is left of the slot's 256 items (04 R128; 01 R42). -/
def visit : List Nat → Nat → State → State
  | [], _, s => s
  | ef :: l, left, s =>
    if underHold s ef then visit l left s
    else
      let (its, s1) := takeItems ef (min 64 left) s
      visit l (left - its.length) (its.foldl (fun t it => parseItem it t) s1)

/-- One Infeed slot: round robin from one place after the last start (04 R128). -/
def infeedSlot (s : State) : State :=
  let st := (s.infeed.rr + 1) % 32
  visit ((List.range 32).rotateLeft st) 256 { s with infeed := { s.infeed with rr := st } }

/-! Events (04 R143, R146 to R149). -/

/-- The unsealing job of an identifier. -/
def jobOf (s : State) (id : Nat) : Option UnsealJob := s.infeed.jobs.find? (fun j => j.id == id)

/-- A job leaves its flow; what waited behind it goes on, and further jobs may start. -/
def leaveFlow (j : UnsealJob) (go : State → State) (s : State) : State :=
  let t := go { s with infeed := { s.infeed with jobs := s.infeed.jobs.filter (fun x => x.id != j.id) } }
  let u := drainFlow j.mix (t.infeed.jobs.length + 1) t
  startJobs (u.keys.queue.length + 8) u

/-- A DLMS frame is tried once more under the previous generation, at its place in the flow (04 R146). -/
def retryJob (m : Meter) (j : UnsealJob) (s : State) : State :=
  let j1 := { j with keyGen := j.keyGen - 1, retry := true, res := none }
  queueJob (unsealJobDesc m j1)
    { s with infeed := { s.infeed with jobs := mapIf (fun (x : UnsealJob) => x.id == j.id) (fun _ => j1) s.infeed.jobs } }

/-- A job that failed may be tried under the previous generation (04 R146). -/
def mayRetry (s : State) (m : Meter) (j : UnsealJob) : Bool :=
  j.dlms && !j.retry && derivedMode m && overlap s m && j.keyGen == m.keyGen

/-- What an unsealed frame, or one that failed, comes to (04 R144 to R149; 12 R427). -/
def unsealed_ (j : UnsealJob) (st : JobStatus) (plain : List Byte) (s : State) : State :=
  match meterAt s j.mix with
  | none => dropUnknown (((recordAt s j.mix).map Meter.title).getD 0) j.item.way s
  | some m =>
    match st with
    | .ok => if j.dlms then dlmsPlain m j plain s else cifPlain m j.item j.keyGen plain s
    | .aborted =>
      (match batchOf j.item.way with
        | some no => abandonBatch no stAborted 0 s
        | none => s)
    | _ => authFail j.mix j.item.way s

/-- The oldest job of its flow. -/
def firstOfFlow (s : State) (j : UnsealJob) : Bool :=
  ((s.infeed.jobs.find? (fun x => x.mix % 1024 == j.mix % 1024)).map UnsealJob.id) == some j.id

/-- A job that completed with this status taken by Infeed, the jobs of a flow in order: the authenticated plaintext is decoded; a DLMS frame that
failed is tried once more under the previous generation; any other failure drops the frame (04 R144 to R149; 12 R427). -/
def unsealDone (job : Nat) (was : JobStatus) (s : State) : State :=
  match jobOf s job with
  | none => s
  | some j =>
    match j.res with
    | none => s
    | some (st, plain) =>
      if firstOfFlow s j = false ∨ st ≠ was then s
      else match meterAt s j.mix with
      | some m =>
        if st = .authFail ∧ mayRetry s m j = true then retryJob m j s else leaveFlow j (unsealed_ j st plain) s
      | none => leaveFlow j (unsealed_ j st plain) s

/-- The first frame whose slow-path thread has been serviced. -/
def servedSlow (s : State) : Option SlowItem := s.infeed.slowQ.find? (fun x => x.served)

/-- The packet of normalised readings that enters EF_0 (04 Table 04-1). -/
def normPacket (r : SlowRet) (it : FifoItem) : FifoItem :=
  { way := .slow, src := r.src, arrival := .legal r.arrival, format := 0, frame := [], norm := some (r, it.way) }

/-- The 16-byte words of normalised readings: a header word and one word a reading (DESIGN CHOICE, log 110: the spec gives
no layout of an EF_0 item). -/
def normWords (r : SlowRet) : Nat := 1 + r.rdgs.length

/-- Firmware returns a slow-path frame's readings through EF_0, once its thread has been serviced and the FIFO has room (04
R143; 01 R38). -/
def slowReturn (r : SlowRet) (s : State) : State :=
  match servedSlow s with
  | none => s
  | some x =>
    match putItemW 0 (normPacket r x.item) (normWords r) s with
    | some t => { t with infeed := { t.infeed with slowQ := t.infeed.slowQ.erase x } }
    | none => s

/-- SLOW_PATH_RETURN (04 R143). -/
def execSlowPathReturn (r : SlowRet) (s : State) : Host.Outcome State Fault Refusal := .next (slowReturn r s)

end Sys2Proof.Machine
end

