-- ==== Sys2Proof/Machine/Enrol.lean ====
section
/-! DEFINITION. Meters, templates and ingest batches (04): ENROL_METER, RETIRE_METER, GET_METER, LOAD_PROFILE_TEMPLATE,
INGEST_BATCH, GET_BATCH_STATUS, BATCH_EXPIRED. -/
namespace Sys2Proof.Machine

/-! Enrolment (04 R131, R132). -/

/-- The attribute a slot holds, 0 for a free one; slot 0 holds AGREE (12 R415, R417). -/
def slotAttr (s : State) (n : Nat) : Nat := if n = 0 then 4 else ((assocGet n s.keys.slots).map KeySlot.attr).getD 0

/-- The MIX and title of enrolments that are accepted and not yet applied. -/
def pendingEnrols (s : State) : List (Nat × Nat) :=
  (pendingEffs s).filterMap (fun e => match e.cmd with
    | some (.enrolMeter _ _) => some (e.args.getD 0 0, leAt e.data 0 8)
    | _ => none)

/-- A retained ledger record carries a MIX (04 R133). -/
def mixRetained (s : State) (mix : Nat) : Bool :=
  ((s.ledger.groups.map Group.entries).flatten ++ unsealed s).any (fun e => e.kind == 0 && recMix e == mix)

/-- A MIX that cannot be assigned: enrolled, about to be, or retired with retained records (04 R133). -/
def mixTaken (s : State) (mix : Nat) : Bool :=
  (meterAt s mix).isSome || (pendingEnrols s).any (fun x => x.1 == mix)
    || ((recordAt s mix).isSome && mixRetained s mix)

/-- The lowest free MIX below a limit. -/
def freeMix (s : State) (limit : Nat) : Option Nat :=
  (List.range (min limit (s.infeed.meters.length + (pendingEnrols s).length + 1))).find? (fun n => !mixTaken s n)

/-- ENROL_LIMIT of the role in effect (04 R131). -/
def enrolLimit (s : State) : Nat := if hubRole s then 1048576 else 16384

/-- The fields of a payload that an enrolment stores: KEY_GEN, KEY, BALANCE_GROUP, CH_ENABLE, TEMPLATE. -/
def enrolFields (p : List Byte) : List Nat :=
  [leAt p 12 2, leAt p 14 2 / 2 ^ 14 * 2 ^ 14 + leAt p 14 2 % 512, leAt p 16 2, leAt p 18 2, byteAt p 20]

/-- The same fields of a record. -/
def meterFields (m : Meter) : List Nat := [m.keyGen, m.key, m.group, m.chEnable, m.template]

/-- Reply data of ENROL_METER: the MIX and the meters enrolled after the command. -/
def enrolData (mix n : Nat) : List Byte := leB 4 mix ++ leB 4 n

/-- Meters enrolled, counting those about to be; a generation about to be raised is no new meter. -/
def enrolledSoon (s : State) : Nat :=
  rd s P10.METERS_ENROLLED + ((pendingEnrols s).filter (fun x => (meterOfTitle s x.2).isNone)).length

/-- ENROL_METER for a title enrolled already (04 R132). -/
def reEnrol (h : Hdr) (p : List Byte) (m : Meter) (s : State) : Ans :=
  let req := leAt p 8 4 % 2 ^ 20
  if req ≠ 0xFFFFF ∧ req ≠ m.mix then .fail stDeniedState 0
  else if enrolFields p = meterFields m then .accept (enrolData m.mix (enrolledSoon s)) [] {} s
  else if (enrolFields p).drop 1 = (meterFields m).drop 1 ∧ m.keyGen < leAt p 12 2 then
    .accept (enrolData m.mix (enrolledSoon s)) p { cmd := some (.enrolMeter h p), args := [m.mix] } s
  else .fail stDeniedState 0

/-- ENROL_METER's checks (04 R131 to R133). A title whose first enrolment is accepted and not yet applied is answered
DENIED_STATE (DESIGN CHOICE, log 110: R132 speaks of titles already enrolled). -/
def enrolBody (h : Hdr) (p : List Byte) (s : State) : Ans :=
  let mode := leAt p 14 2 / 2 ^ 14
  let slot := leAt p 14 2 % 512
  let req := leAt p 8 4 % 2 ^ 20
  let title := leAt p 0 8
  let known := meterOfTitle s title
  let fresh := known.isNone
  if mode ≠ 1 ∧ mode ≠ 2 then .fail stBadPayload 14
  else if slotAttr s slot ≠ mode then .fail stBadPayload 14
  else if byteAt p 20 ≠ 0xFF ∧ (s.infeed.templates.any (fun t => t.id == byteAt p 20)) = false then .fail stUnknownObject 0
  else if hubRole s = false ∧ req ≠ 0xFFFFF ∧ 16383 < req then .fail stOutOfRange 64
  else if hubRole s = false ∧ fresh = true ∧ 16384 ≤ enrolledSoon s then .fail stOutOfRange 64
  else match known with
    | some m => reEnrol h p m s
    | none =>
      if (pendingEnrols s).any (fun x => x.2 == title) then .fail stDeniedState 0
      else if req = 0xFFFFF then
        (match freeMix s (enrolLimit s) with
          | some n => .accept (enrolData n (enrolledSoon s + 1)) p { cmd := some (.enrolMeter h p), args := [n] } s
          | none => .fail stNoResource 0x1001)
      else if mixTaken s req then .fail stDeniedState 0
      else .accept (enrolData req (enrolledSoon s + 1)) p { cmd := some (.enrolMeter h p), args := [req] } s

/-- ENROL_METER (04 R131, R132). -/
def execEnrolMeter (h : Hdr) (p : List Byte) (s : State) : Host.Outcome State Fault Refusal :=
  .next (runCmd h p true (enrolBody h p) s)

/-- METERS_ENROLLED counted. -/
def meterCount (s : State) : State :=
  wr P10.METERS_ENROLLED (s.infeed.meters.filter (fun m => m.rstate == 1)).length s

/-- A new record with every field as at enrolment (05 Table 05-1). -/
def newMeter (s : State) (mix : Nat) (p : List Byte) : Meter :=
  { title := leAt p 0 8, mix := mix, key := (enrolFields p).getD 1 0, keyGen := leAt p 12 2,
    keygenAt := legalSec s % 2 ^ 40, group := leAt p 16 2, chEnable := leAt p 18 2, template := byteAt p 20 }

/-- The effect of ENROL_METER: a raised generation clears the counters; a new record replaces a retired one of its MIX
or title, with its presence maps and tails (04 R132; 05 R165). -/
def effEnrolMeter (e : Eff) (s : State) : State :=
  let mix := e.args.getD 0 0
  let p := e.data
  match meterAt s mix with
  | some _ => modMeter mix (fun m => { m with keyGen := leAt p 12 2, keygenAt := legalSec s % 2 ^ 40, icHigh := 0,
                                              icMap := 0 }) s
  | none =>
    let l := s.infeed.meters.filter (fun m => m.mix != mix)
    let inf := { s.infeed with meters := l ++ [newMeter s mix p],
                               presence := s.infeed.presence.filter (fun x => x.1.1 != mix) }
    meterCount { s with infeed := inf,
                        grade := { s.grade with tails := s.grade.tails.filter (fun x => x.1.1 != mix) } }

/-- RETIRE_METER (04 R133). -/
def execRetireMeter (h : Hdr) (p : List Byte) (s : State) : Host.Outcome State Fault Refusal :=
  .next (runCmd h p true (fun t =>
    let mix := leAt p 0 4 % 2 ^ 20
    match meterAt t mix with
    | some _ => .accept [] p { cmd := some (.retireMeter h p), args := [mix] } t
    | none => .fail stUnknownObject 0) s)

/-- The record of a meter retired (04 R133). -/
def retireRecord (mix : Nat) (s : State) : State := meterCount (modMeter mix (fun m => { m with rstate := 2 }) s)

/-- The 128 bytes of a meter state record; WRAPPED_KEY reads as 0 (05 Table 05-1, R166). -/
def meterBytes (m : Meter) : List Byte :=
  leB 8 m.title ++ leB 3 m.mix ++ leB 1 m.rstate ++ leB 2 m.key ++ leB 2 m.keyGen ++ leB 5 m.keygenAt ++ zeros 3
    ++ leB 4 m.icHigh ++ leB 4 m.icMap ++ zeros 40 ++ leB 2 m.group ++ leB 2 m.chEnable ++ leB 1 m.template
    ++ leB 1 m.profile ++ leB 2 m.mstatus ++ leB 5 m.lastFrameEnd ++ leB 5 m.lastArrival ++ leB 2 m.lastFseq
    ++ leB 4 (ofS 32 m.clockOffset) ++ leB 4 m.tamperAt ++ leB 1 m.authFails ++ leB 3 m.authHour
    ++ leB 2 m.spikeCount ++ leB 2 m.rolloverCount ++ leB 2 m.nonmonoCount ++ leB 2 m.estCount ++ zeros 16

/-- GET_METER (05 R166). -/
def execGetMeter (h : Hdr) (p : List Byte) (s : State) : Host.Outcome State Fault Refusal :=
  .next (runCmd h p false (fun t =>
    match recordAt t (leAt p 0 4 % 2 ^ 20) with
    | some m => .done (meterBytes m) t
    | none => .fail stUnknownObject 0) s)

/-! Profile templates (04 R141). -/

/-- Step `k` of a template payload: OP, A, B, C, D. -/
def stepAt (p : List Byte) (k : Nat) : Nat × Nat × Nat × Nat × Nat :=
  let o := 16 + 8 * k
  (byteAt p o, byteAt p (o + 1), byteAt p (o + 2), byteAt p (o + 3), leAt p (o + 4) 4)

/-- A step's operation and operands are ones of Table 04-10. -/
def stepOk (st : Nat × Nat × Nat × Nat × Nat) : Bool :=
  match st.1 with
  | 0x01 => decide (1 ≤ st.2.1) && decide (st.2.1 ≤ 4)
  | 0x02 => decide (1 ≤ st.2.1)
  | 0x05 => decide (st.2.1 ≤ 15) && decide (st.2.2.1 ≤ 6)
  | n => decide (n ≤ 9)

/-- The channels of the VALUE steps inside arrays, and of those outside. -/
def valueChans : Bool → List (Nat × Nat × Nat × Nat × Nat) → List (Bool × Nat)
  | _, [] => []
  | inArr, st :: l =>
    if st.1 = 7 then valueChans true l
    else if st.1 = 8 then valueChans false l
    else if st.1 = 5 then (inArr, st.2.1) :: valueChans inArr l
    else valueChans inArr l

/-- The first step that R141 or Table 04-10 refuses, by index. -/
def badStep (inArr : Bool) (inside : List Nat) : Nat → List (Nat × Nat × Nat × Nat × Nat) → Option Nat
  | _, [] => none
  | k, st :: l =>
    let bad := !stepOk st || (st.1 == 7 && inArr) || (st.1 == 8 && !inArr) || (st.1 == 0 && !l.isEmpty)
      || (l.isEmpty && (st.1 != 0 || inArr)) || (st.1 == 5 && !inArr && inside.contains st.2.1)
    if bad then some k else badStep (if st.1 = 7 then true else if st.1 = 8 then false else inArr) inside (k + 1) l

/-- The template of a payload. -/
def templateOf (p : List Byte) : Template :=
  { id := byteAt p 0, interval := byteAt p 1, flags := byteAt p 3, steps := (List.range (byteAt p 2)).map (stepAt p) }

/-- LOAD_PROFILE_TEMPLATE's checks: header fields at their offsets, then the steps (04 Table 04-9, R141). -/
def templateBody (h : Hdr) (p : List Byte) (s : State) : Ans :=
  let t := templateOf p
  let inside := ((valueChans false t.steps).filter (fun x => x.1)).map Prod.snd
  if 63 < t.id then .fail stBadPayload 0
  else if intervalSec t.interval = 0 then .fail stBadPayload 1
  else if byteAt p 2 = 0 ∨ byteAt p 2 = 255 ∨ p.length ≠ 16 + 8 * byteAt p 2 then .fail stBadPayload 2
  else match badStep false inside 0 t.steps with
    | some k => .fail stBadPayload (16 + 8 * k)
    | none => .accept (leB 1 t.id ++ leB 1 (byteAt p 2) ++ zeros 2) p { cmd := some (.loadProfileTemplate h p) } s

/-- LOAD_PROFILE_TEMPLATE (04 R141). -/
def execLoadProfileTemplate (h : Hdr) (p : List Byte) (s : State) : Host.Outcome State Fault Refusal :=
  .next (runCmd h p true (templateBody h p) s)

/-- The effect of LOAD_PROFILE_TEMPLATE: the index holds the new template. -/
def effLoadProfileTemplate (e : Eff) (s : State) : State :=
  let t := templateOf e.data
  wr P10.TEMPLATES_LOADED (Nat.lor (rd s P10.TEMPLATES_LOADED) (2 ^ t.id))
    { s with infeed := { s.infeed with templates := s.infeed.templates.filter (fun x => x.id ≠ t.id) ++ [t] } }

/-! Batches (04 R158 to R160). -/

/-- A part put in order of its offset. -/
def insPart (x : Nat × List Byte) : List (Nat × List Byte) → List (Nat × List Byte)
  | [] => [x]
  | y :: l => if x.1 ≤ y.1 then x :: y :: l else y :: insPart x l

/-- Bytes held and the end of what is held, for parts in order from a position. -/
def heldFrom : Nat → List (Nat × List Byte) → Nat
  | _, [] => 0
  | pos, (o, d) :: l => (o + d.length - max pos o) + heldFrom (max pos (o + d.length)) l

/-- The lowest missing offset from a position. -/
def lowestMissing : Nat → List (Nat × List Byte) → Nat
  | pos, [] => pos
  | pos, (o, d) :: l => if o ≤ pos then lowestMissing (max pos (o + d.length)) l else pos

/-- The bytes of a batch with nothing missing. -/
def assemble : Nat → List (Nat × List Byte) → List Byte
  | _, [] => []
  | pos, (o, d) :: l => d.drop (pos - o) ++ assemble (max pos (o + d.length)) l

/-- The first index at which two byte strings differ. -/
def firstDiff : Nat → List Byte → List Byte → Option Nat
  | k, a :: l, b :: m => if a = b then firstDiff (k + 1) l m else some k
  | _, _, _ => none

/-- The first payload offset at which new data differs from bytes already held (04 R158). -/
def overlapDiff (off : Nat) (d : List Byte) (parts : List (Nat × List Byte)) : Option Nat :=
  (parts.filterMap (fun x =>
    let lo := max off x.1
    (firstDiff 0 (d.drop (lo - off)) (x.2.drop (lo - x.1))).map (fun k => 16 + (lo - off) + k))).min?

/-- The batch a part joins: one that holds, or one in process whose closing entry is not posted. -/
def joinable (id : Nat) (b : Batch) : Bool := b.id == id && (b.st == 1 || (b.st == 2 && !b.closed))

/-- A batch replaced. -/
def putBatch (b : Batch) (s : State) : State :=
  let others := s.infeed.batches.filter (fun x => !joinable b.id x)
  { s with infeed := { s.infeed with batches := others ++ [b] } }

/-- HELD reply data (04 Table 04-16). -/
def heldData (b : Batch) : List Byte :=
  leB 8 b.id ++ leB 4 (heldFrom 0 b.parts) ++ leB 4 (lowestMissing 0 b.parts)

/-- A part that passed every check: held with HELD, or the part that starts processing (04 R159, R160). -/
def holdPart (h : Hdr) (p : List Byte) (b : Batch) (s : State) : State :=
  let b1 := { b with parts := insPart (leAt p 8 4, p.drop 16) b.parts, waiting := b.waiting ++ [(h, p)],
                     lastAt := s.beat.ticks }
  if b.st = 2 then putBatch b1 s
  else if lowestMissing 0 b1.parts = b1.total then
    let no := s.ledger.nextBatch
    putBatch { b1 with st := 2, no := no, items := batchItems no 131072 (assemble 0 b1.parts) }
      { s with ledger := { s.ledger with nextBatch := no + 1 } }
  else sendReply h stHeld b1.waiting.length (heldData b1) (putBatch b1 s)

/-- INGEST_BATCH's checks in the order of R158; a batch input under HOLD is answered BACKPRESSURE (02 Table 02-5; 01
Table 01-7). -/
def ingestBody (h : Hdr) (p : List Byte) (s : State) : Ans :=
  let id := leAt p 0 8
  let off := leAt p 8 4
  let total := leAt p 12 4
  let d := p.drop 16
  let known := s.infeed.batches.find? (joinable id)
  let b := known.getD { id := id, total := total, parts := [], waiting := [], lastAt := s.beat.ticks, st := 1 }
  if underHold s 1 then .fail stBackpressure 0
  else if id = 0 then .fail stBadPayload 0
  else if total < 16 ∨ 130816 < total ∨ total ≠ b.total then .fail stBadPayload 12
  else if d.isEmpty then .fail stBadPayload 16
  else if total < off + d.length then .fail stBadPayload 8
  else match overlapDiff off d b.parts with
    | some k => .fail stBadPayload k
    | none =>
      if known.isNone ∧ 64 ≤ (s.infeed.batches.filter (fun x => x.st != 3)).length then .fail stNoResource 0x1002
      else if 16 ≤ b.waiting.length then .fail stNoResource 0x1004
      else .stays (holdPart h p b s)

/-- INGEST_BATCH (04 R158 to R160). -/
def execIngestBatch (h : Hdr) (p : List Byte) (s : State) : Host.Outcome State Fault Refusal :=
  .next (runCmd h p true (ingestBody h p) s)

/-- The time BATCH_HOLD leaves after a tick, in ms. -/
def holdLeft (s : State) (at_ : Nat) : Nat := (at_ + secBeats (rd s P10.BATCH_HOLD) - s.beat.ticks) / 8

/-- GET_BATCH_STATUS data of the newest batch of an identifier (04, after R160). -/
def batchStatus (s : State) (b : Batch) : List Byte :=
  leB 1 b.st ++ zeros 3 ++ leB 4 (heldFrom 0 b.parts) ++ leB 4 (lowestMissing 0 b.parts)
    ++ leB 4 (if b.st = 2 then 0 else holdLeft s b.lastAt)

/-- GET_BATCH_STATUS (04, after R160). -/
def execGetBatchStatus (h : Hdr) (p : List Byte) (s : State) : Host.Outcome State Fault Refusal :=
  .next (runCmd h p false (fun t =>
    match (t.infeed.batches.filter (fun b => b.id == leAt p 0 8
        && (b.st != 3 || decide (t.beat.ticks < b.lastAt + secBeats (rd t P10.BATCH_HOLD))))).getLast? with
    | some b => .done (batchStatus t b) t
    | none => .fail stUnknownObject 0) s)

/-- BATCH_HOLD seconds passed without a part: every held part ends NO_RESOURCE 0x1003 (04 R159). -/
def execBatchExpired (id : Nat) (s : State) : Host.Outcome State Fault Refusal :=
  .next (match s.infeed.batches.find? (fun b => b.id == id && b.st == 1) with
    | some b =>
      if passed s b.lastAt (secBeats (rd s P10.BATCH_HOLD)) then
        let s1 := { s with infeed := { s.infeed with batches := s.infeed.batches.filter (fun x => !(x.id == id && x.st == 1)) } }
        logEv evBatchExpired (leB 8 id) (b.waiting.foldl (fun t x => finish x.1 x.2 stNoResource 0x1003 [] t) s1)
      else s
    | none => s)

/-! The end of a batch (04 R159, R160). -/

/-- Everything of a batch is parsed, unsealed and graded, and its frames' COUNTER entries are posted. -/
def batchSettled (s : State) (b : Batch) : Bool :=
  let mine := fun (w : Way) => w == .batch b.no
  b.st == 2 && !b.closed && b.items.isEmpty && !s.infeed.jobs.any (fun j => mine j.item.way)
    && !s.infeed.slowQ.any (fun i => mine i.item.way)
    && !((fifoItems s 0).any (fun i => i.norm.any (fun x => mine x.2))) && !s.infeed.handed.any (fun x => mine x.way)
    && !s.grade.queue.any (fun g => mine g.way)
    && !s.infeed.frames.any (fun f => mine f.way && !f.counterPosted)

/-- The readings a batch has newly released. -/
def batchReleased (s : State) (b : Batch) : Nat :=
  ((s.infeed.frames.filter (fun f => f.way == .batch b.no)).map (fun f =>
    (f.rdgs.filter (fun r => r.2.2 == .released)).length)).sum

/-- A batch ends: the COMMAND entry of every part and its BATCH_CLOSE entry go into one group, or wait until they fit
(04 R159, R160; 06 Table 06-2). -/
def closeBatch (b : Batch) (s : State) : State :=
  let n := batchReleased s b
  let data := leB 8 b.id ++ leB 4 n ++ leB 2 b.suppressed ++ leB 2 b.refused
  let cmds := b.waiting.map (fun x => commandEntry x.1 x.2 data [] {})
  let es := cmds ++ [ctlEntry 0x02 (leB 8 b.id ++ leB 4 n ++ zeros 8) [] (.batchClose b.no) 0x10]
  if s.ledger.waiting.isEmpty && fits s (es.map entrySlots) then
    es.foldl (fun t e => appendEntry e t) (modBatch b.no (fun x => { x with closed := true, accepted := n }) s)
  else s

/-- Batches that can end. -/
def closeBatches (s : State) : State := (s.infeed.batches.filter (batchSettled s)).foldl (fun t b => closeBatch b t) s

/-- What a change of Infeed or Grade may have completed: COUNTER entries that are due, then batches. -/
def settleFrames (s : State) : State := closeBatches (postCounters s)

end Sys2Proof.Machine
end

