-- ==== Sys2Proof/Machine/RadioOps.lean ====
section
/-! DEFINITION. The radio's shared operations (08): modes, airtime, ports, secured sending, neighbours, guards and slot
agreements. -/
namespace Sys2Proof.Machine

/-- Nanoseconds in a second. -/
def nsSec : Int := 1000000000

/-! Channels and ports (08 R250 to R254). -/

/-- Data rate in bit/s (08 Table 08-10). -/
def dataRate (s : State) (ch : Nat) : Nat := (rdI s P20.RATE ch + 1) * 50000

/-- Symbol rate in symbols/s (08 Table 08-1). -/
def symRate (s : State) (ch : Nat) : Nat := dataRate s ch / (1 + rdI s P20.MOD ch)

/-- RATE, MOD and SPACING are in Table 08-1. -/
def modeOk (rate mod_ spacing : Nat) : Bool :=
  if mod_ = 0 then decide (rate ≤ 1) || spacing == 1 else rate == 1 || (decide (2 ≤ rate) && spacing == 1)

/-- The port of a channel. -/
def radPort (s : State) (ch : Nat) : Nat := rdI s P20.PORT ch

/-- The enabled channels of a port. -/
def portChans (s : State) (port : Nat) : List Nat :=
  (List.range 16).filter (fun n => rdI s P20.EN n == 1 && radPort s n == port)

/-- Spacing in kHz. -/
def spacingKhz (v : Nat) : Nat := 200 + 200 * v

/-- The centre of a channel in kHz (08 R251). -/
def centreKhz (s : State) (ch : Nat) : Nat :=
  rdI s P20.CH0_KHZ ch + rdI s P20.CHAN_NUM ch * spacingKhz (rdI s P20.SPACING ch)

/-- IQ_RATE in kHz. -/
def iqKhz (v : Nat) : Nat := if v = 0 then 5000 else if v = 1 then 10000 else 20000

/-- A key slot serves an inline unit: an AES-128 CIPHER key with INLINE and the unit's mode (12 R416). -/
def inlineOk (s : State) (slot bit : Nat) : Bool :=
  match assocGet slot s.keys.slots with
  | some k => k.attr == 3 && k.type == 1 && bitAt k.modes bit && bitAt k.modes 7
  | none => false

/-- The checks a channel must pass to be enabled (08 R251). -/
def radioEnableOk (s : State) (ch : Nat) : Bool :=
  let f := centreKhz s ch
  let p := radPort s ch
  let lo := rdI s P20.PORT_KHZ p
  let sp := spacingKhz (rdI s P20.SPACING ch)
  let away := (f - lo) + (lo - f)
  let near := (portChans s p).any (fun n => n != ch &&
    decide ((centreKhz s n - f) + (f - centreKhz s n) < max sp (spacingKhz (rdI s P20.SPACING n))))
  decide (10 * away + 5 * sp ≤ 4 * iqKhz (rdI s P20.IQ_RATE p)) && !near && rdI s P20.CH0_KHZ ch != 0 && lo != 0
    && modeOk (rdI s P20.RATE ch) (rdI s P20.MOD ch) (rdI s P20.SPACING ch)
    && (rdI s P20.SEC_LEVEL ch == 0 || inlineOk s (rdI s P20.MAC_KEY_SLOT ch) 5)

/-- Airtime in ns of a frame with a PSDU of `n` octets (08 R253). -/
def airtime (s : State) (ch n : Nat) : Int := ((12 + n) * 8 * 1000000000 / dataRate s ch : Nat)

/-- Time in ns from a frame's SFD to its end: the PHR and a PSDU of `n` octets (08 R253). -/
def psduNs (s : State) (ch n : Nat) : Int := ((2 + n) * 8 * 1000000000 / dataRate s ch : Nat)

/-- The channel works: enabled, powered, and the device has main power. -/
def radChanUp (s : State) (ch : Nat) : Bool :=
  radioOn s && !silent s && rdI s P20.EN ch == 1 && rdI s P20.STATE ch != 0 && rdI s P20.STATE ch != 1

/-- A coordinator channel at work (08 R259). -/
def coordUp (s : State) (ch : Nat) : Bool := radChanUp s ch && rdI s P20.STATE ch == 2

/-- The channels of a port that are transmitting at a slot time (08 R254). -/
def transmitting (s : State) (port : Nat) (t : Int) : Nat :=
  ((List.range 16).filter (fun n => radPort s n == port && decide (t < (chanAt s n).txUntil))).length

/-- A change of direction of a port takes 1,000 µs (08 R250). -/
def turnNs : Int := 1000000

/-- The transmissions of a port in the last seconds (08 R250, R276). -/
def portTxs (s : State) (port : Nat) : List (Int × Int) :=
  ((List.range 16).filter (fun n => radPort s n == port)).flatMap (fun n => (chanAt s n).txs)

/-- The port may transmit from a slot time on as far as its direction goes: it transmits already, or its last reception
ended 1,000 µs before (08 R250). -/
def turnedTx (s : State) (port : Nat) (t : Int) : Bool :=
  decide (0 < transmitting s port t)
    || (List.range 16).all (fun n => radPort s n != port || decide ((chanAt s n).rxUntil + turnNs ≤ t))

/-- The level of a channel's transmissions in 0.01 dBFS: TX_LEVEL less 20 log10(PORT_TX_MAX), to the nearest 0.01 dB (08
R254). -/
def txLevel (s : State) (ch : Nat) : Int :=
  100 * toS 8 (rdI s P20.TX_LEVEL ch)
    - ([0, 0, 602, 954, 1204] : List Int).getD (rdI s P20.PORT_TX_MAX (radPort s ch)) 0

/-- A channel of the port is receiving a frame (08 Table 08-2). -/
def portReceiving (s : State) (port : Nat) : Bool :=
  (List.range 16).any (fun n => radPort s n == port && (chanAt s n).rx.isSome)

/-- One more in a counter of a channel. -/
def bumpCh (f : Fld) (ch : Nat) (s : State) : State := bumpI f ch 1 s

/-- Receptions on the port are cut by a transmission of class 1 to 3: dropped, and counted on their channels (08 R257). -/
def cutRx (port : Nat) (s : State) : State :=
  (List.range 16).foldl (fun t n =>
    if radPort t n = port ∧ (chanAt t n).rx.isSome then
      bumpCh P20.RX_CUT n (modChan n (fun c => { c with rx := none }) t)
    else t) s

/-! Frame security (08 R263, R264). -/

/-- The channel secures its frames. -/
def secured (s : State) (ch : Nat) : Bool := rdI s P20.SEC_LEVEL ch != 0

/-- The frame counter of the next frame, when frames are secured. -/
def nextFc (s : State) (ch : Nat) : Option Nat := if secured s ch then some (rdI s P20.OUT_FC ch) else none

/-- The slot holds a key. -/
def slotLoaded (s : State) (slot : Nat) : Bool := ((assocGet slot s.keys.slots).map KeySlot.loaded).getD false

/-- The channel may send: it does not secure its frames, or it has a key and is not out of frame counters (08 R263,
R264). -/
def fcLeft (s : State) (ch : Nat) : Bool :=
  !secured s ch || (decide (rdI s P20.OUT_FC ch < 0xFFFFFFF0) && slotLoaded s (rdI s P20.MAC_KEY_SLOT ch))

/-- A frame counter spent: stored again after 65,536 frames; exhaustion is logged once (08 R264). -/
def spendFc (ch : Nat) (s : State) : State :=
  if secured s ch then
    let n := rdI s P20.OUT_FC ch + 1
    let c := chanAt s ch
    let s1 := modChan ch (fun x => { x with fcStored := if c.fcStored + 65536 ≤ n then n else c.fcStored,
                                            fcLogged := c.fcLogged || decide (0xFFFFFFF0 ≤ n) })
      (wrI P20.OUT_FC ch n s)
    if 0xFFFFFFF0 ≤ n ∧ c.fcLogged = false then logEv evMacFcExhausted (leB 1 ch) s1 else s1
  else s

/-- Every start advances OUT_FC by 65,536 over the stored value and stores it; a counter that this exhausts is logged (08
R264). -/
def startFc (ch : Nat) (s : State) : State :=
  let n := min ((chanAt s ch).fcStored + 65536) 0xFFFFFFFF
  let c := chanAt s ch
  let s1 := modChan ch (fun x => { x with fcStored := n, fcLogged := c.fcLogged || decide (0xFFFFFFF0 ≤ n) })
    (wrI P20.OUT_FC ch n s)
  if 0xFFFFFFF0 ≤ n ∧ c.fcLogged = false then logEv evMacFcExhausted (leB 1 ch) s1 else s1

/-- A frame sent: counted, its counter spent, and the channel busy for its airtime; the port's transmissions of the last 5
s are kept, longer than any window (08 R253, R264, R276). -/
def airOut (ch psdu : Nat) (t : Int) (o : Out) (s : State) : State :=
  spendFc ch (count 0x10 ch 1 (bumpCh P20.TX_FRAMES ch
    (modChan ch (fun c => { c with txs := c.txs.filter (fun x => decide (t - 5 * nsSec < x.2)) ++ [(t, t + airtime s ch psdu)],
                                   txUntil := t + airtime s ch psdu }) (emit o s))))

/-! Neighbours (08 R275, Table 08-9). -/

/-- A neighbour changed. -/
def modNeigh (ch ext : Nat) (f : Neigh → Neigh) (s : State) : State :=
  { s with radio := { s.radio with neigh := mapIf (fun n => n.ch == ch && n.ext == ext) f s.radio.neigh } }

/-- The counts of page 0x20 that follow from the neighbour table (08 Table 08-10). -/
def radCounts (ch : Nat) (s : State) : State :=
  let l := s.radio.neigh.filter (fun n => n.ch == ch)
  wrI P20.NEIGHBOURS ch l.length (wrI P20.ADRIFT_NOW ch (l.filter (fun n => n.st == 3)).length
    (wrI P20.SLOTS_ASSIGNED ch (l.filter (fun n => n.period != 0)).length s))

/-- Cell length in ns (08 Table 08-10). -/
def cellNs (s : State) (ch : Nat) : Int := (rdI s P20.CELL_MS ch * 10000000 : Nat)

/-- G0 and GMAX in ns. -/
def g0Ns (s : State) (ch : Nat) : Int := (rdI s P20.G0 ch * 1000000 : Nat)

/-- GMAX in ns. -/
def gMaxNs (s : State) (ch : Nat) : Int := (rdI s P20.GMAX ch * 1000000 : Nat)

/-- The beacon interval in ns (08 R259). -/
def biNs (s : State) (ch : Nat) : Int := (960 * 2 ^ rdI s P20.BO ch * 1000000000 / symRate s ch : Nat)

/-- The guard of R274 for a drift bound in ppm and a time since the last frame. -/
def guardNs (s : State) (ch drift : Nat) (dt : Int) : Int :=
  min (g0Ns s ch + 2 * ((drift + rd s P20.DRIFT_DEV : Nat) : Int) * dt / 1000000) (gMaxNs s ch)

/-- The slot instant nearest to a slot time, for a period in seconds and a cell (08, "Sleepy meters and wake slots"). -/
def nearestSlot (s : State) (ch period cell : Nat) (t : Int) : Int :=
  let p : Int := period * nsSec
  let c : Int := cell * cellNs s ch
  if period = 0 then t else (t - c + p / 2) / p * p + c

/-- The first slot instant after a slot time. -/
def nextSlotAt (s : State) (ch period cell : Nat) (t : Int) : Int :=
  let p : Int := period * nsSec
  let c : Int := cell * cellNs s ch
  if period = 0 then t else ((t - c) / p + 1) * p + c

/-- The period and cell that hold at a slot time: a grant replaces the slot before it from NEXT_S onward (08 R272). -/
def agreed (n : Neigh) (t : Int) : Nat × Nat :=
  match n.prev with
  | some x => if t < (n.from_ : Int) * 1000000 then x else (n.period, n.cell)
  | none => (n.period, n.cell)

/-- A frame without relay resynchronises its meter: offset from the nearest slot, rate from the frame before it, misses
and ADRIFT cleared (08 R275, R277). -/
def resync (s : State) (n : Neigh) (slot chain : Int) : Neigh :=
  let x := agreed n slot
  let o := if x.1 = 0 then 0 else slot - nearestSlot s n.ch x.1 x.2 slot
  let lim : Int := (n.drift + rd s P20.DRIFT_DEV : Nat) * 1000000
  let r := if n.wide || decide (slot ≤ n.sfdSlot) || x.1 == 0 then n.rate
    else clampI (-lim) lim ((o - n.offset) * 1000000000000 / (slot - n.sfdSlot))
  { n with offset := o, rate := r, sfdSlot := slot, sfdChain := chain, missed := 0, wide := false,
           st := if n.st = 3 then 2 else n.st }

/-- The predicted centre of the window of a slot instant (08 R274, R275). -/
def windowCentre (n : Neigh) (t : Int) : Int := t + n.offset + n.rate * (t - n.sfdSlot) / 1000000000000

/-- The half-width of a window before it is widened: GMAX until a first frame after a power-on or a step (08 R274, R286,
R288). -/
def windowHalf (s : State) (n : Neigh) (t : Int) : Int :=
  if n.wide then gMaxNs s n.ch else guardNs s n.ch n.drift (if n.beaconSync then biNs s n.ch else t - n.sfdSlot)

/-- The half-width with the growth of an ADRIFT meter (08 R277). -/
def windowWide (s : State) (n : Neigh) (t : Int) : Int :=
  if n.missed < 3 then windowHalf s n t else min (gMaxNs s n.ch * 2 ^ (n.missed - 2)) (8 * gMaxNs s n.ch)

/-- A window cut at another meter's window or an instant that must stay free (08 R277). -/
def cutWindow (c : Int) (w : Int × Int) (b : Int × Int) : Int × Int :=
  if c ≤ b.1 then (w.1, min w.2 b.1) else (max w.1 b.2, w.2)

/-- Multiples of a period before and after a time. -/
def around (p t : Int) : List Int := if p ≤ 0 then [] else [t / p * p, (t / p + 1) * p]

/-- The instants of class 1 to 3 transmissions of the port around a time: beacons and rendezvous markers (08 R277). -/
def portInstants (s : State) (port : Nat) (t : Int) : List Int :=
  ((portChans s port).filter (fun n => rdI s P20.STATE n == 2)).flatMap (fun n =>
    around (biNs s n) t ++ (around (900 * nsSec) (t - (n * 500000000 : Nat))).map (fun (x : Int) => x + (n * 500000000 : Nat)))

/-- The window of a slot instant: centre, half-width, and for a widened one the cuts (08 R274, R277). -/
def slotWindow (s : State) (n : Neigh) (t : Int) : Int × Int :=
  let c := windowCentre n t
  let g := windowWide s n t
  let w := (c - g, c + g)
  if n.missed < 3 then w
  else
    let others := (s.radio.neigh.filter (fun m => m.ch == n.ch && m.ext != n.ext && m.period != 0)).map (fun m =>
      let u := nearestSlot s m.ch m.period m.cell t
      (windowCentre m u - windowHalf s m u, windowCentre m u + windowHalf s m u))
    (others ++ (portInstants s (radPort s n.ch) c).map (fun x => (x, x))).foldl (fun v b => cutWindow c v b) w

/-! Slot agreements (08 R272), in units of 1/600,000 s: every period and airtime is a whole number of them. -/

/-- Two periodic intervals meet: starts, lengths and periods. -/
def periodicMeet (a la p b lb q : Nat) : Bool :=
  let g := Nat.gcd p q
  if g = 0 then true
  else
    let d := (b + g * (a / g + 1) - a) % g
    decide (d < la) || decide (g - d < lb)

/-- The window of a slot as start, length and period (08 R272). -/
def grantWindow (s : State) (ch period cell : Nat) : Nat × Nat × Nat :=
  let p := period * 600000
  let gm := rdI s P20.GMAX ch * 600
  let start := (cell * rdI s P20.CELL_MS ch * 6000 + p - gm) % p
  (start, 2 * gm + 1036 * 8 * 600000 / dataRate s ch, p)

/-- What no window of a channel may ever meet: other meters' windows, and the rendezvous on the port with 1,000 µs on
either side (08 R272, R278). -/
def occupied (s : State) (ch ext : Nat) : List (Nat × Nat × Nat) :=
  let meters := (s.radio.neigh.filter (fun m => m.ch == ch && m.ext != ext && m.period != 0)).map (fun m =>
    grantWindow s ch m.period m.cell)
  let coords := (portChans s (radPort s ch)).filter (fun n => rdI s P20.ROLE n == 0)
  meters ++ coords.map (fun n => ((n * 300000 + 540000000 - 600) % 540000000, 240000 + 1200, 540000000))

/-- The beacons on a channel's port with 1,000 µs on either side; channels beyond PORT_TX_MAX that share BO follow in
turn (08 R258, R259, R272). -/
def beaconWindows (s : State) (ch : Nat) : List (Nat × Nat × Nat) :=
  let coords := (portChans s (radPort s ch)).filter (fun n => rdI s P20.ROLE n == 0)
  let blen := fun n => (12 + Config.beaconPsdu) * 8 * 600000 / dataRate s n
  coords.map (fun n =>
    let same := coords.filter (fun k => rdI s P20.BO k == rdI s P20.BO n)
    let turn := (same.filter (fun k => decide (k < n))).length / rdI s P20.PORT_TX_MAX (radPort s ch)
    let bi := 960 * 2 ^ rdI s P20.BO n * (600000 / symRate s n)
    (bi - 600, turn * ((same.map blen).max?.getD 0) + blen n + 1200, bi))

/-- The window of the slot a grant names lies clear of the beacons; DEDUCED: of that slot alone (log 104) (08 R272). -/
def clearOfBeacons (s : State) (ch period cell : Nat) : Bool :=
  let next := (nextSlotAt s ch period cell (slotNs s) / 1000000).toNat * 600
  let gm := rdI s P20.GMAX ch * 600
  (beaconWindows s ch).all (fun o => !periodicMeet next (grantWindow s ch period cell).2.1 0 (o.1 + gm) o.2.1 o.2.2)

/-- A cell of a period is free. -/
def cellFree (s : State) (occ : List (Nat × Nat × Nat)) (ch period cell : Nat) : Bool :=
  let w := grantWindow s ch period cell
  occ.all (fun o => !periodicMeet w.1 w.2.1 w.2.2 o.1 o.2.1 o.2.2) && clearOfBeacons s ch period cell

/-- A slot agreement in bytes (08 Table 08-6). -/
def slotBytes (op period cell drift flags nextMs : Nat) : List Byte :=
  leB 1 0xE2 ++ leB 1 op ++ leB 4 period ++ leB 4 cell ++ leB 1 drift ++ leB 1 flags ++ leB 4 (nextMs / 1000)
    ++ leB 2 (nextMs % 1000)

/-! The seen-cache (08 R281, R282). -/

/-- An entry that has not expired. -/
def seenLive (s : State) (e : Seen) : Bool := !passed s e.at_ (secBeats (rd s P20.SEEN_HOLD))

/-- The live entry of a key. -/
def seenFind (s : State) (origin seq : Nat) : Option Seen :=
  s.radio.seen.find? (fun e => e.origin == origin && e.seq == seq && seenLive s e)

/-- An entry changed. -/
def modSeen (origin seq : Nat) (f : Seen → Seen) (s : State) : State :=
  { s with radio := { s.radio with seen := mapIf (fun e => e.origin == origin && e.seq == seq) f s.radio.seen } }

/-- An entry inserted: in a free place, or in place of the oldest expired one; none when the cache is full (08 R282). -/
def seenInsert (origin seq : Nat) (s : State) : Option State :=
  let e : Seen := { origin := origin, seq := seq, at_ := s.beat.ticks }
  if s.radio.seen.length < 4096 then some { s with radio := { s.radio with seen := s.radio.seen ++ [e] } }
  else match s.radio.seen.find? (fun x => !seenLive s x) with
    | some old => some { s with radio := { s.radio with seen := (s.radio.seen.erase old) ++ [e] } }
    | none => none

/-- The flood header of an origination (08 Table 08-8, R284). -/
def floodHeader (type hopLimit depth seq target : Nat) : List Byte :=
  leB 1 0xE0 ++ leB 1 (0x80 + type * 16) ++ leB 1 (hopLimit * 16) ++ leB 1 depth ++ leB 8 Config.devExt ++ leB 2 seq
    ++ leB 8 target

end Sys2Proof.Machine
end

