-- ==== Sys2Proof/Machine/Downlink.lean ====
section
/-! DEFINITION. Downlink items (10 R328 to R343): queueing, dispatch, the way, sending, responses, expiry, status and
cancellation. -/
namespace Sys2Proof.Machine

/-- An item by its identifier. -/
def itemOf (s : State) (id : Nat) : Option DlItem := s.dl.items.find? (fun i => i.id == id && id != 0)

/-- An item by the model's number. -/
def itemNo (s : State) (no : Nat) : Option DlItem := s.dl.items.find? (fun i => i.no == no)

/-- An item changed. -/
def modItem (no : Nat) (f : DlItem → DlItem) (s : State) : State :=
  { s with dl := { s.dl with items := mapIf (fun i => i.no == no) f s.dl.items } }

/-- An item that is not final (10 Table 10-1). -/
def itemOpen (i : DlItem) : Bool := decide (i.st ≤ 2)

/-- DL_OPEN: items QUEUED or SENT (10 R368). -/
def dlCount (s : State) : State :=
  wr P60.DL_OPEN (s.dl.items.filter (fun i => i.st == 1 || i.st == 2)).length s

/-- The open items of a meter. -/
def openItems (s : State) (mix : Nat) : Nat := (s.dl.items.filter (fun i => i.mix == mix && itemOpen i)).length

/-- A DOWNLINK entry (10 Table 10-5). -/
def dlEntry (sub mix item dlc cmd code detail keyGen : Nat) (body : List Byte) (no : Nat) (near : Bool) : Entry :=
  ctlEntry 0x04 (leB 1 sub ++ leB 3 mix ++ leB 8 item ++ leB 4 dlc ++ leB 1 cmd ++ leB 1 code ++ leB 2 detail
    ++ leB 2 keyGen) body (.dl no sub near) 0x12

/-! The way (10 R334). -/

/-- Where an item goes. -/
inductive DlWay where
  | direct (ch : Nat)
  | relayed (ch hops : Nat)
  | phase (ph : Nat)
  | host
  | none
  deriving DecidableEq, Repr

/-- The code of a way in SENT (10 Table 10-5). -/
def DlWay.code : DlWay → Nat
  | .direct _ => 0
  | .relayed _ _ => 1
  | .phase _ => 2
  | .host => 3
  | .none => 3

/-- The phase a title is joined on, 0 for PH_1. -/
def joinedOn (s : State) (title : Nat) : Option Nat :=
  (List.range 3).find? (fun k => (phaseAt s k).joined.any (fun x => x.1 == title))

/-- The local way of a meter: that of the first copy of its newest completed frame; one never heard is reached where it
is a neighbour or joined (10 R334). -/
def localWayOf (s : State) (mix : Nat) : DlWay :=
  match assocGet mix s.dl.newest with
  | some (.radio n, src) => if src / 4096 = 0 then .direct n else .relayed n (src / 256 % 16)
  | some (.plc n, _) => .phase (n - 1)
  | some _ => .none
  | Option.none =>
    match neighOf s (titleOf s mix) with
    | some n => .direct n.ch
    | Option.none => match joinedOn s (titleOf s mix) with
      | some k => .phase k
      | Option.none => .none

/-- The way of an item: WAY auto falls back to the host, local only does not (10 R334). -/
def wayFor (s : State) (way mix : Nat) : DlWay :=
  if way = 2 then .host
  else match localWayOf s mix with
    | .none => if way = 1 then .none else .host
    | w => w

/-! Sealing and sending (10 R332, R333). -/

/-- The largest fragment on a way (10 R333). -/
def fragSize : DlWay → Nat
  | .phase _ => 160
  | _ => 896

/-- Fragments of a sealed body. -/
def fragCount (w : DlWay) (n : Nat) : Nat := max 1 (ceilDiv n (fragSize w))

/-- The header of a downlink frame (10 Table 10-3). -/
def dlHead (urgent block : Bool) (frags : Nat) (target dlc cmd : Nat) : List Byte :=
  leB 1 0xE4 ++ leB 1 (0x40 + 32 * b2n urgent + 16 * b2n block + (frags - 1) % 16) ++ zeros 1 ++ leB 8 target ++ leB 4 dlc
    ++ leB 1 cmd

/-- Header bytes 0, 1 and 3 to 15: the associated data (10 R332). -/
def dlAad (h : List Byte) : List Byte := h.take 2 ++ h.drop 3

/-- The IV of a downlink frame: the title with byte 0 XORed with 0x80, then the counter big-endian (10 R332). -/
def dlIv (title dlc : Nat) : List Byte := leB 8 (Nat.xor title 0x80) ++ beB 4 dlc

/-- The sealed body and tag: AES-GCM under the meter's EK for its current KEY_GEN (10 R332). -/
def dlSeal (s : State) (m : Meter) (dlc : Nat) (aad plain : List Byte) : List Byte :=
  match meterKeys s m m.keyGen with
  | some k => gcmSeal k.1 (dlIv m.title dlc) aad plain 12
  | none => []

/-- The lane job that seals an item of `n` bytes: a GCM seal with EK at level 8 or 34 (10 R332, R340; 12 Table 12-2). -/
def sealJob (m : Meter) (no dlc n : Nat) (urgent : Bool) : LaneJob :=
  { poster := .downlink, mode := 7, keySrc := if m.key / 2 ^ 14 = 1 then 2 else 4, tagLen := 12, slot := m.key % 512,
    mix := m.mix, level := if urgent then 8 else 34, keyGen := m.keyGen, tag := no % 2 ^ 32, aadLen := 15, dataLen := n,
    iv := dlIv m.title dlc, src := 0, dst := 0 }

/-- The record of a meter that a lane can seal for: its slot may be used and its keys are obtained (04 R144 to R146; 10 R332).
An item whose frame cannot be sealed stays as it is (DESIGN CHOICE: assumption log 119). -/
def sealFor (s : State) (mix : Nat) : Option Meter :=
  (recordAt s mix).filter (fun m => (jobKeyBad s (sealJob m 0 0 0 false)).isNone && (meterKeys s m m.keyGen).isSome)

/-- Fragment `k` behind its header (10 R333). -/
def fragment10 (w : DlWay) (h sealed_ : List Byte) (k : Nat) : List Byte :=
  h.take 2 ++ leB 1 k ++ h.drop 3 ++ sliceB sealed_ (k * fragSize w) (fragSize w)

/-- The plaintext of an item: its body, and the campaign key in CAMPAIGN_START (10 Table 10-10). -/
def plainOf (s : State) (i : DlItem) : List Byte :=
  match i.owner with
  | .campaign no =>
    if i.cmd = 0xF1 then
      i.body ++ ((s.dl.camps.find? (fun c => c.no == no)).bind (fun c => assocGet c.keySlot s.keys.slots)
        |>.map (fun k => padTo 16 k.key)).getD (zeros 16)
    else i.body
  | _ => i.body

/-- The next downlink counter of a meter (10 R331). -/
def nextDlc (s : State) (mix : Nat) : Nat := (assocGet mix s.dl.dlc).getD 1

/-- An item sealed for a way under a counter: its SENT entry, and the item as it then stands (10 R331, R332, R339). -/
def sealItem (s : State) (m : Meter) (i : DlItem) (dlc : Nat) (near : Bool) : Entry × DlItem :=
  let w := wayFor s i.way i.mix
  let plain := plainOf s i
  let h := dlHead i.urgent false (if w = .host then 1 else fragCount w (plain.length + 12)) m.title dlc i.cmd
  let body := dlSeal s m dlc (dlAad h) plain
  (dlEntry 2 i.mix i.id dlc i.cmd w.code 0 m.keyGen (h ++ body) i.no near,
    { i with dlc := dlc, keyGen := m.keyGen, wayCode := w.code, head := h, sealed_ := body, posted := 2 })

/-- The seal takes a lane, an urgent one by pre-emption if need be (10 R332, R340; 12 R412). The sealed frame stands at once,
the lane's time runs beside it (DESIGN CHOICE: assumption log 119). -/
def takeLane (m : Meter) (i : DlItem) (s : State) : State :=
  postJob (sealJob m i.no i.dlc (plainOf s i).length i.urgent) s

/-- A counter taken. -/
def takeDlc (mix : Nat) (s : State) : State :=
  { s with dl := { s.dl with dlc := assocSet mix (nextDlc s mix + 1) s.dl.dlc } }

/-- A queued transmission carries a fragment of an item. -/
def carries (no : Nat) : Cargo → Bool
  | .item n _ => n == no
  | _ => false

/-- What is queued of an item is taken back. -/
def unqueueItem (no : Nat) (s : State) : State :=
  { s with radio := { s.radio with txq := s.radio.txq.filter (fun x => !carries no x.cargo) },
           plc := { s.plc with phases := s.plc.phases.map (fun p =>
             { p with txq := p.txq.filter (fun x => !carries no x.cargo) }) } }

/-- One fragment queued on a way (10 R334; 08 Table 08-2; 09 R306). -/
def queueFrag (i : DlItem) (w : DlWay) (k : Nat) (s : State) : State :=
  let p := fragment10 w i.head i.sealed_ k
  let title := titleOf s i.mix
  let cls := if i.urgent then 5 else 6
  match w with
  | .direct ch =>
    let n := neighOn s ch title
    let asleep := (n.map sleepy).getD false
    queueRadio { ch := ch, cls := if asleep then 4 else cls, ext := some title, dest := (n.map Neigh.short).getD 0xFFFE,
                 payload := p, indirect := asleep, cargo := .item i.no k } s
  | .relayed ch hops =>
    queueRadio { ch := ch, cls := cls, ext := some title, dest := 0xFFFF, payload := p, ackReq := false,
                 flood := some (1, min 15 (hops + 1)), cargo := .item i.no k } s
  | .phase ph =>
    queuePlc ph { place := if i.urgent then 2 else 4, type := 0, dest := 0xFFFF, routing := 1, ackReq := true,
                  title := some title, inner := p, cargo := .item i.no k } s
  | _ => s

/-- A sealed frame put on its way, unless it is queued already (10 R333 to R335). -/
def transmitItem (i : DlItem) (s : State) : State :=
  let w := wayFor s i.way i.mix
  let queued := s.radio.txq.any (fun x => carries i.no x.cargo)
    || s.plc.phases.any (fun p => p.txq.any (fun x => carries i.no x.cargo))
  if queued then s else (List.range (fragCount w i.sealed_.length)).foldl (fun t k => queueFrag i w k t) s

/-! Dispatch (10 R330, R331, R340). -/

/-- The next item of a meter and class: QUEUED, in order, while none of them is SENT (10 R330). -/
def nextItem (s : State) (mix : Nat) (urgent : Bool) : Option DlItem :=
  let l := s.dl.items.filter (fun i => i.mix == mix && i.urgent == urgent)
  if l.any (fun i => i.st == 2 || i.posted == 2) then none else l.find? (fun i => i.st == 1 && i.posted == 0)

/-- DL_DISPATCH, once the thread of its class has been serviced (01 R35; 10 R330, R331, R340). -/
def execDlDispatch (mix : Nat) (urgent : Bool) (s : State) : Host.Outcome State Fault Refusal :=
  let t := if urgent then Task.dlUrgent else .dlQueued
  .next (match nextItem s mix urgent, sealFor s mix with
    | some i, some m =>
      if (meterAt s mix).isNone ∨ granted s t = false then s
      else
        let (e, j) := sealItem s m i (nextDlc s mix) false
        postEntry e (modItem i.no (fun _ => j) (takeLane m j (takeDlc mix (spend t s))))
    | _, _ => s)

/-- An item put into the store with the next number. -/
def addItem (i : DlItem) (s : State) : State :=
  { s with dl := { s.dl with items := s.dl.items ++ [{ i with no := s.dl.nextItem }], nextItem := s.dl.nextItem + 1 } }

/-- The QUEUED entry of the next item. -/
def queuedEntry (i : DlItem) (no : Nat) (body : List Byte) : Entry := dlEntry 1 i.mix 0 0 i.cmd 0 0 0 body no false

/-- An item created by the device: its QUEUED entry is posted (10 R328, R346, R349). -/
def createItem (i : DlItem) (s : State) : State := postEntry (queuedEntry i s.dl.nextItem i.body) (addItem i s)

/-- An item of a campaign: WAY local only, EXPIRY at its DEADLINE (10 R349). -/
def campItem (s : State) (c : Camp) (mix cmd : Nat) (body : List Byte) : DlItem :=
  { no := 0, mix := mix, cmd := cmd, way := 1, expiry := c.deadline, max := rd s P60.DL_ATTEMPTS,
    body := leB 4 c.no ++ body, owner := .campaign c.no }

/-- A CAMPAIGN_QUERY from a block on (10 Table 10-10). -/
def queryMeter (c : Camp) (mix first : Nat) (s : State) : State := createItem (campItem s c mix 0xF3 (leB 2 first)) s

/-- A meter that blocks are multicast to: awake on a local way, and the campaign still multicasts (10 R350). -/
def awakeWay (s : State) (mix : Nat) : Option DlWay :=
  match localWayOf s mix with
  | .direct ch =>
    if ((neighOn s ch (titleOf s mix)).map sleepy).getD false then none else some (.direct ch)
  | .relayed ch h => some (.relayed ch h)
  | .phase k => some (.phase k)
  | _ => none

/-- A campaign serves a meter by multicast (10 R350). -/
def multicasts (s : State) (c : Camp) (m : CampMeter) : Bool :=
  m.st == 2 && !c.unicast && decide (c.round ≤ c.maxRounds) && (awakeWay s m.mix).isSome

/-- A campaign. -/
def fwCamp (s : State) (no : Nat) : Option Camp := s.dl.camps.find? (fun c => c.no == no)

/-- A campaign changed. -/
def modCampaign (no : Nat) (f : Camp → Camp) (s : State) : State :=
  { s with dl := { s.dl with camps := mapIf (fun c => c.no == no) f s.dl.camps } }

/-- A queued transmission carries a block of a campaign. -/
def blockOf (no : Nat) : Cargo → Bool
  | .block n _ => n == no
  | _ => false

/-- Blocks of a campaign are queued, for one title or for all. -/
def blocksLeft (s : State) (no : Nat) (title : Option Nat) : Bool :=
  s.radio.txq.any (fun x => blockOf no x.cargo && x.ext == title)
    || s.plc.phases.any (fun p => p.txq.any (fun x => blockOf no x.cargo && x.title == title))

/-- The last block of a pass went out: the meter, or every meter the round served, is queried (10 R350). -/
def passDone (no : Nat) (title : Option Nat) (s : State) : State :=
  match fwCamp s no with
  | none => s
  | some c =>
    if c.st ≠ 2 ∨ blocksLeft s no title = true then s
    else match title with
      | some t =>
        match (c.meters.filter (fun m => m.st == 2)).find? (fun m => titleOf s m.mix == t) with
        | some m => queryMeter c m.mix 0 s
        | none => s
      | none =>
        (c.meters.filter (multicasts s c)).foldl (fun u m => queryMeter c m.mix 0 u)
          (modCampaign no (fun x => { x with sending := false, lastBlock := some s.beat.ticks }) s)

/-- A transmission ended on its medium: the last fragment of an item makes its transmission, the last block of a pass is
followed by queries (10 R335, R350). -/
def noteSent (cargo : Cargo) (title : Option Nat) (s : State) : State :=
  match cargo with
  | .item no _ =>
    let more := s.radio.txq.any (fun x => carries no x.cargo)
      || s.plc.phases.any (fun p => p.txq.any (fun x => carries no x.cargo))
    if more then s
    else bump P60.DL_SENT_FRAMES (modItem no (fun i => { i with made := i.made + 1, lastTx := some s.beat.ticks }) s)
  | .block no _ => passDone no title s
  | _ => s

/-- The checks of DL_QUEUE and DL_URGENT, in order, then the COMMAND and QUEUED entries in one group; an urgent item that
may be dispatched has its SENT entry there too (10 R329, R340). -/
def dlQueueBody (urgent : Bool) (h : Hdr) (p : List Byte) (s : State) : Ans :=
  let mix := leAt p 0 4 % 2 ^ 20
  let now := legalSec s
  let exp := leAt p 8 5
  match meterAt s mix with
  | none => .fail stUnknownObject 0
  | some _ =>
    if 0xF0 ≤ byteAt p 4 then .fail stBadPayload 4
    else if byteAt p 5 % 4 = 3 then .fail stBadPayload 5
    else if exp ≠ 0 ∧ exp ≤ now then .fail stOutOfRange 64
    else if rd s P60.DL_PER_METER ≤ openItems s mix ∨ 65536 ≤ (s.dl.items.filter itemOpen).length then
      .fail stNoResource 0x1201
    else
      let i : DlItem := { no := s.dl.nextItem, mix := mix, urgent := urgent, cmd := byteAt p 4, way := byteAt p 5 % 4,
                          expiry := if exp = 0 then now + rd s P60.DL_LIFE * 3600 else exp,
                          max := if byteAt p 13 = 0 then rd s P60.DL_ATTEMPTS else byteAt p 13, hostRef := leAt p 16 8,
                          body := p.drop 24 }
      let cmdE := { commandEntry h p (zeros 8) [] { cmd := none, data := p } with fill := 1 }
      let qE := queuedEntry i i.no p
      let s1 := addItem i s
      let free := urgent && !(s.dl.items.any (fun x => x.mix == mix && x.urgent && itemOpen x))
      match sealFor s mix with
      | some m =>
        if free then
          let (sE, j) := sealItem s1 m i (nextDlc s mix) true
          .stays (postGroup [cmdE, qE, sE] (modItem i.no (fun _ => j) (takeLane m j (takeDlc mix s1))))
        else .stays (postGroup [cmdE, qE] s1)
      | none => .stays (postGroup [cmdE, qE] s1)

/-- DL_QUEUE (10 R329). -/
def execDlQueue (h : Hdr) (p : List Byte) (s : State) : Host.Outcome State Fault Refusal :=
  .next (runCmd h p true (dlQueueBody false h p) s)

/-- DL_URGENT (10 R329, R340). -/
def execDlUrgent (h : Hdr) (p : List Byte) (s : State) : Host.Outcome State Fault Refusal :=
  .next (runCmd h p true (dlQueueBody true h p) s)

/-! Ends of items (10 R328, R335, R342). -/

/-- A CANCELLED entry posted for an item (10 Table 10-5). -/
def cancelEntry (i : DlItem) (code : Nat) : Entry := dlEntry 4 i.mix i.id 0 i.cmd code 0 0 [] i.no false

/-- An item marked as leaving its state. -/
def markPosted (no sub : Nat) (s : State) : State := modItem no (fun i => { i with posted := sub }) s

/-- An item expires: by time or by its attempts (10 R335, R339). -/
def expireItem (i : DlItem) (code : Nat) (s : State) : State :=
  postEntry (dlEntry 5 i.mix i.id 0 i.cmd code i.made 0 [] i.no false)
    (markPosted i.no 5 (modItem i.no (fun x => { x with detail := i.made }) (unqueueItem i.no s)))

/-- DL_RESEND_EXPIRE: no response in time; sent again, for a sleepy meter at its next slot, or expired once the attempts
are used up (10 R335). -/
def execDlResendExpire (item : Nat) (s : State) : Host.Outcome State Fault Refusal :=
  .next (match itemOf s item with
    | none => s
    | some i =>
      let w := wayFor s i.way i.mix
      let asleep := match w with
        | .direct ch => ((neighOn s ch (titleOf s i.mix)).map sleepy).getD false
        | _ => false
      let due := match i.lastTx with
        | some t => asleep || passed s t (secBeats (rd s P60.DL_RESEND))
        | none => true
      if i.st ≠ 2 ∨ i.posted ≠ 0 ∨ w = .host ∨ due = false then s
      else if i.max ≤ i.made then expireItem i 2 s
      else transmitItem i s)

/-- DL_EXPIRY: legal time has reached EXPIRY (10 R328). -/
def execDlExpiry (item : Nat) (s : State) : Host.Outcome State Fault Refusal :=
  .next (match itemOf s item with
    | none => s
    | some i => if (i.st = 1 ∨ i.st = 2) ∧ i.posted = 0 ∧ i.expiry ≤ legalSec s then expireItem i 1 s else s)

/-- A push by its identifier. -/
def pushOf (s : State) (id : Nat) : Option Push := s.dl.pushes.find? (fun x => x.id == id && id != 0)

/-- The meters of a push in a progress state. -/
def pushCount (x : Push) (st : Nat) : Nat := (x.meters.filter (fun m => m.2 == st)).length

/-- Delivery of a push is running: meters wait, unless creation stopped, or are in progress (10 R341). -/
def pushRuns (x : Push) : Bool := (!x.cancelled && pushCount x 1 != 0) || pushCount x 2 != 0

/-- The state byte of an item (10 R341). -/
def itemBytes (i : DlItem) : List Byte :=
  leB 1 i.st ++ leB 1 i.result ++ leB 1 i.made ++ leB 1 i.wayCode ++ leB 4 i.mix ++ leB 4 i.dlc ++ leB 8 i.sentSeq
    ++ leB 8 i.finalSeq ++ leB 2 i.detail ++ leB 1 i.cmd ++ zeros 1

/-- DL_STATUS (10 R341). -/
def execDlStatus (h : Hdr) (p : List Byte) (s : State) : Host.Outcome State Fault Refusal :=
  .next (runCmd h p false (fun t =>
    match itemOf t (leAt p 0 8) with
    | some i => .done (itemBytes i) t
    | none => match pushOf t (leAt p 0 8) with
      | some x => .done (leB 1 (if pushRuns x then 0x10 else 0x11) ++ zeros 3 ++ leB 4 x.meters.length
          ++ leB 4 (pushCount x 3) ++ leB 4 (pushCount x 4) ++ leB 4 (pushCount x 5) ++ leB 4 (pushCount x 2) ++ zeros 8) t
      | none => .fail stUnknownObject 0) s)

/-- DL_CANCEL's checks: a QUEUED item or a push is cancelled in the group of the command (10 R342). -/
def dlCancelBody (h : Hdr) (p : List Byte) (s : State) : Ans :=
  let ce := fun (st : Nat) => commandEntry h p (leB 1 st ++ zeros 7) [] { cmd := none, data := p }
  match itemOf s (leAt p 0 8) with
  | some i =>
    if i.st = 2 ∨ i.posted = 2 then .fail stDeniedState 0
    else if i.st = 1 ∧ i.posted = 0 then .stays (postGroup [ce 4, cancelEntry i 1] (markPosted i.no 4 s))
    else .stays (postEntry (ce (if i.posted = 0 then i.st else i.posted)) s)
  | none => match pushOf s (leAt p 0 8) with
    | none => .fail stUnknownObject 0
    | some x =>
      let l := s.dl.items.filter (fun i => i.owner == .push x.no && i.st == 1 && i.posted == 0)
      let sent := s.dl.items.any (fun i => i.owner == .push x.no && (i.st == 2 || i.posted == 2))
      let mark := mapIf (fun (y : Push) => y.no == x.no) (fun y => { y with cancelled := true }) s.dl.pushes
      let s1 := l.foldl (fun t i => markPosted i.no 4 t) { s with dl := { s.dl with pushes := mark } }
      .stays (postGroup (ce (if sent then 0x10 else 0x11) :: l.map (fun i => cancelEntry i 3)) s1)

/-- DL_CANCEL (10 R342). -/
def execDlCancel (h : Hdr) (p : List Byte) (s : State) : Host.Outcome State Fault Refusal :=
  .next (runCmd h p true (dlCancelBody h p) s)

/-- A retired meter's open items become CANCELLED with code 2 (10 R367). -/
def dlRetire (mix : Nat) (s : State) : State :=
  (s.dl.items.filter (fun i => i.mix == mix && itemOpen i && i.posted != 4)).foldl (fun t i =>
    postEntry (cancelEntry i 2) (markPosted i.no 4 (unqueueItem i.no t))) s

/-- A raised KEY_GEN: each SENT item is sealed again with the same counter (10 R367). -/
def dlReseal (mix : Nat) (s : State) : State :=
  (s.dl.items.filter (fun i => i.mix == mix && i.st == 2)).foldl (fun t i =>
    match sealFor t mix with
    | some m =>
      let (e, j) := sealItem t m i i.dlc false
      postEntry e (modItem i.no (fun _ => j) (takeLane m j (unqueueItem i.no t)))
    | none => t) s

/-! Responses and events (10 R337, R338; 04 R137). -/

/-- A frame of TYPE 1 or 2 taken as a frame without readings: it completes when what was posted for it is accepted. -/
def handedFrame (x : Handed) (m : Meter) (s : State) : State :=
  admitFrame m { mix := x.mix, ic := x.ic, keyGen := x.keyGen, fseq := x.fseq, way := x.way, src := x.src,
                 arrival := x.arrival, ackReq := x.ackReq, mstatus := 0, lastEnd := 0 } [] s

/-- A response that concludes no item: logged at most once per meter and legal hour (10 R337). -/
def strayResponse (mix : Nat) (s : State) : State :=
  let hour := legalSec s / 3600
  if assocGet mix s.dl.hourly = some hour then s
  else logEv evDlStrayResponse (dMix mix) { s with dl := { s.dl with hourly := assocSet mix hour s.dl.hourly } }

/-- A response may conclude an item: it is SENT, or expired after it was SENT (10 R337, Table 10-1). -/
def concludes (mix dlc : Nat) (i : DlItem) : Bool :=
  i.mix == mix && i.dlc == dlc && i.sentSeq != 0 && i.posted != 3 && i.posted != 4 && (i.st == 2 || i.st == 5)

/-- DL_RESPONSE (10 R337). -/
def dlResponse (x : Handed) (m : Meter) (s : State) : State :=
  match s.dl.items.find? (concludes x.mix (leAt x.body 0 4)) with
  | some i =>
    let late := i.st == 5 || i.posted == 5
    let detail := Nat.lor (leAt x.body 6 2 % 2 ^ 15) (if late then 2 ^ 15 else bitsAt (leAt x.body 6 2) 15 1 * 2 ^ 15)
    let e := dlEntry 3 x.mix i.id i.dlc i.cmd (byteAt x.body 4) detail 0 (x.body.drop 8) i.no false
    handedFrame x m (postEntry e (modItem i.no (fun y =>
      { y with posted := 3, result := byteAt x.body 4, detail := detail }) (unqueueItem i.no s)))
  | none => handedFrame x m (strayResponse x.mix s)

/-- METER_EVENT_REPORT (10 R338). -/
def meterEvents (x : Handed) (m : Meter) (s : State) : State :=
  let n := byteAt x.body 0
  if n = 0 ∨ 32 < n ∨ x.body.length ≠ 2 + 8 * n then dropMalformed x.way s
  else handedFrame x m (postEntry (dlEntry 6 x.mix 0 x.ic 0 0 0 0 (x.body.drop 2) 0 false) s)

/-- One frame handed to firmware (04 R137; 10 R337, R338). -/
def handleOne (x : Handed) (s : State) : State :=
  match meterAt s x.mix with
  | none => dropUnknown (titleOf s x.mix) x.way s
  | some m =>
    if x.type = 1 then meterEvents x m s
    else if x.type = 2 ∧ 8 ≤ x.body.length ∧ x.body.length ≤ 968 then dlResponse x m s
    else dropMalformed x.way s

/-- Every frame handed to firmware. -/
def handleHanded (s : State) : State :=
  postCounters (s.infeed.handed.foldl (fun t x => handleOne x t) { s with infeed := { s.infeed with handed := [] } })

end Sys2Proof.Machine
end

