-- ==== Sys2Proof/Machine/Campaign.lean ====
section
/-! DEFINITION. What the release of DOWNLINK and CAMPAIGN_STEP entries does, tariff pushes under way, and meter firmware
campaigns (10 R344 to R355). -/
namespace Sys2Proof.Machine

/-! Campaign steps (10 Table 10-11). -/

/-- The blocks in a bit map. -/
def heldCount (held count : Nat) : Nat := ((List.range count).filter (fun k => bitAt held k)).length

/-- A CAMPAIGN_STEP entry. -/
def stepEntry (sub mix no value held round item : Nat) (body : List Byte) : Entry :=
  ctlEntry 0x05 (leB 1 sub ++ leB 3 mix ++ leB 4 no ++ leB 1 value ++ zeros 1 ++ leB 2 held ++ leB 2 round ++ leB 8 item)
    body (.step no) 0x60

/-- A meter's change of state recorded (10 R349). -/
def meterStep10 (c : Camp) (m : CampMeter) (st item : Nat) (body : List Byte) (s : State) : State :=
  postEntry (stepEntry 3 m.mix c.no st (heldCount m.held c.count) c.round item body) s

/-- A meter of a campaign changed. -/
def modCampMeter (no mix : Nat) (f : CampMeter → CampMeter) (s : State) : State :=
  let g := mapIf (fun (y : CampMeter) => y.mix == mix) f
  modCampaign no (fun x => { x with meters := g x.meters }) s

/-- A campaign state no meter leaves: DONE, FAILED, EXPIRED, ABORTED. -/
def meterOver (m : CampMeter) : Bool := decide (5 ≤ m.st)

/-- CAMPAIGNS_RUNNING (10 R368). -/
def fwCampFields (s : State) : State :=
  wr P60.CAMPAIGNS_RUNNING (s.dl.camps.filter (fun c => decide (1 ≤ c.st) && decide (c.st ≤ 3))).length s

/-- Queued blocks of a campaign are taken back. -/
def dropBlocks (no : Nat) (s : State) : State :=
  let f := fun (p : PlcPhase) => { p with txq := p.txq.filter (fun x => !blockOf no x.cargo) }
  { s with radio := { s.radio with txq := s.radio.txq.filter (fun x => !blockOf no x.cargo) },
           plc := { s.plc with phases := s.plc.phases.map f } }

/-- SLOTS_LOADED and SLOTS_PERSISTED (12 R428). -/
def keyFields (s : State) : State :=
  wr P40.SLOTS_LOADED (1 + (s.keys.slots.filter (fun x => x.2.loaded)).length)
    (wr P40.SLOTS_PERSISTED (s.keys.store.filter (fun x => x.2.loaded)).length s)

/-- A campaign ends: ENDED is recorded, the key slot zeroised, CAMPAIGN_ENDED logged (10 R349, R352). -/
def endCampaign (c : Camp) (final : Nat) (s : State) : State :=
  let clear := fun (k : KeySlot) => { k with loaded := false, key := [], origin := .none }
  let ks := mapIf (fun (x : Nat × KeySlot) => x.1 == c.keySlot) (fun x => (x.1, clear x.2)) s.keys.slots
  let st := if rdB s P40.DEBUG_ACTIVE then s.keys.store
    else mapIf (fun (x : Nat × KeySlot) => x.1 == c.keySlot) (fun x => (x.1, clear x.2)) s.keys.store
  let s1 := keyFields { s with keys := { s.keys with slots := ks, store := st } }
  let s2 := dropBlocks c.no s1
  logEv evCampaignEnded (leB 4 c.no) (fwCampFields (modCampaign c.no (fun x => { x with st := final, sending := false })
    (postEntry (stepEntry 5 0 c.no final 0 c.round 0 []) s2)))

/-- An aborted campaign's meter becomes ABORTED once its last item has ended (10 R353). -/
def abortMeter (c : Camp) (mix : Nat) (s : State) : State :=
  if s.dl.items.any (fun i => i.owner == .campaign c.no && i.mix == mix && itemOpen i && i.posted != 4) then s
  else match c.meters.find? (fun m => m.mix == mix) with
    | some m => if meterOver m then s else meterStep10 c m 8 0 [] s
    | none => s

/-- A COMPLETE meter receives its activation once the instant is known (10 R352). -/
def activateMeter (c : Camp) (mix : Nat) (s : State) : State :=
  let at_ := if c.activateAt = 0 then c.instant else some c.activateAt
  match at_ with
  | some t => createItem (campItem s c mix 0xF4 (leB 5 t)) s
  | none => s

/-- The newest item of a campaign's meter with a command. -/
def campItemOf (s : State) (no mix cmd : Nat) : Option DlItem :=
  (s.dl.items.filter (fun i => i.owner == .campaign no && i.mix == mix && i.cmd == cmd)).getLast?

/-- The body of CAMPAIGN_START (10 Table 10-10). -/
def startBody (c : Camp) : List Byte :=
  leB 2 c.blockSize ++ leB 2 c.count ++ leB 4 c.length ++ leB 4 c.crc ++ leB 4 c.meterType ++ leB 4 c.version

/-- A meter of a running campaign receives the item its state calls for, if it has none: CAMPAIGN_START, or its activation
(10 R349, R352, R353). -/
def wakeMeter (c : Camp) (s : State) (m : CampMeter) : State :=
  if m.st = 1 ∧ (campItemOf s c.no m.mix 0xF1).isNone then createItem (campItem s c m.mix 0xF1 (startBody c)) s
  else if m.st = 3 ∧ (campItemOf s c.no m.mix 0xF4).isNone then activateMeter c m.mix s
  else s

/-- Every meter of a running campaign receives the item its state calls for. -/
def wakeCampaign (c : Camp) (s : State) : State := c.meters.foldl (wakeMeter c) s

/-- A query's result DATA: first block, bit count, bits (10 Table 10-10). -/
def queryBits (d : List Byte) : Nat × Nat × Nat := (leAt d 0 2, leAt d 2 2, ofLE (d.drop 4) % 2 ^ leAt d 2 2)

/-- A campaign item CONCLUDED (10 R349 to R352). -/
def campConcluded (c : Camp) (i : DlItem) (data : List Byte) (s : State) : State :=
  match c.meters.find? (fun m => m.mix == i.mix) with
  | none => s
  | some m =>
    let ok := i.result == 0 || i.result == 1
    let s1 := modCampMeter c.no i.mix (fun y => { y with result := i.result }) s
    if meterOver m then s1
    else if i.cmd = 0xF1 then meterStep10 c m (if ok then 2 else 6) i.id [] s1
    else if i.cmd = 0xF4 then meterStep10 c m (if ok then 5 else 6) i.id [] s1
    else if i.cmd = 0xF3 ∧ ok = true then
      let (first, n, bits) := queryBits data
      let held := Nat.lor m.held (bits * 2 ^ first)
      let full := heldCount held c.count == c.count
      let s2 := modCampMeter c.no i.mix (fun y => { y with queryAt := legalSec s }) s1
      let s3 := meterStep10 c { m with held := held } (if full then 3 else m.st) i.id data s2
      if full = false ∧ first + n < c.count ∧ 0 < n ∧ c.st = 2 then queryMeter c i.mix (first + n) s3 else s3
    else s1

/-- A campaign item ended otherwise: START and ACTIVATE that expire end the meter; an abort may end it (10 R349, R353). -/
def campLeft (c : Camp) (i : DlItem) (expired : Bool) (s : State) : State :=
  match c.meters.find? (fun m => m.mix == i.mix) with
  | none => s
  | some m =>
    if meterOver m then s
    else if c.st = 5 then abortMeter c i.mix s
    else if expired ∧ i.cmd ≠ 0xF3 then meterStep10 c m 7 i.id [] s
    else s

/-- The state a resumed campaign is in: running from START on (10 R350, R353). -/
def resumedState (s : State) (c : Camp) : Nat := if c.start ≤ legalSec s then 2 else 1

/-- The release of a CAMPAIGN_STEP entry: the meter's or the campaign's new state is in force (10 R349, R352, R353). -/
def stepRelease (e : Entry) (s : State) : State :=
  let sub := byteAt e.head 0
  let mix := leAt e.head 1 3 % 2 ^ 20
  let v := byteAt e.head 8
  match fwCamp s (leAt e.head 4 4) with
  | none => s
  | some c =>
    if sub = 1 then
      if c.st ≠ 0 then s
      else
        let now := c.start == 0 || decide (c.start ≤ legalSec s)
        let kept := s.keys.replaced.filter (fun x => x.1 != c.keySlot)
        let s1 := fwCampFields (modCampaign c.no (fun x => { x with st := if now then 2 else 1 })
          { s with keys := { s.keys with replaced := kept } })
        if now then wakeCampaign c s1 else s1
    else if sub = 2 then
      if v = 1 then
        let s1 := modCampaign c.no (fun x => { x with st := resumedState s x }) s
        if resumedState s c = 2 then wakeCampaign c s1 else s1
      else if v = 2 then modCampaign c.no (fun x => { x with st := 3, sending := false }) (dropBlocks c.no s)
      else if v = 3 then
        let c5 := { c with st := 5 }
        c.meters.foldl (fun t m => abortMeter c5 m.mix t) (fwCampFields (modCampaign c.no (fun x => { x with st := 5, sending := false }) s))
      else
        let t0 := c.instant.getD (legalSec s)
        let c4 := { c with instant := some t0 }
        let s1 := modCampaign c.no (fun x => { x with instant := some t0 }) s
        if c.st = 2 ∧ c.activateAt = 0 ∧ c.instant = none then wakeCampaign c4 s1 else s1
    else if sub = 3 then
      let bits := if e.body.isEmpty then 0 else (queryBits e.body).2.2 * 2 ^ (queryBits e.body).1
      let s1 := modCampMeter c.no mix (fun y => { y with st := v, held := Nat.lor y.held bits }) s
      let was := ((c.meters.find? (fun m => m.mix == mix)).map CampMeter.st).getD 0
      if v = 3 ∧ was ≠ 3 ∧ c.st ≠ 5 ∧ c.st ≠ 3 then activateMeter c mix s1
      else if c.st = 5 ∧ ((fwCamp s1 c.no).map (fun x => x.meters.all meterOver)).getD false = true then endCampaign c 5 s1
      else s1
    else s

/-! Tariff pushes under way (10 R345, R346). -/

/-- A push changed. -/
def modPush (no : Nat) (f : Push → Push) (s : State) : State :=
  { s with dl := { s.dl with pushes := mapIf (fun x => x.no == no) f s.dl.pushes } }

/-- A meter's progress in a push. -/
def pushMeter (no mix v : Nat) (s : State) : State :=
  modPush no (fun x => { x with meters := x.meters.map (fun m => if m.1 = mix then (m.1, v) else m) }) s

/-- The parts of a TABLE (10 R345). -/
def pushParts (x : Push) : Nat := ceilDiv x.table.length 960

/-- A TARIFF_PART body (10 Table 10-8). -/
def partBody (x : Push) (k : Nat) : List Byte :=
  leB 4 (x.id % 2 ^ 32) ++ leB 1 k ++ leB 1 (pushParts x) ++ leB 1 x.format ++ zeros 1 ++ leB 5 x.activate ++ zeros 3
    ++ leB 4 (crc32c x.table) ++ leB 4 x.table.length ++ sliceB x.table (960 * k) 960

/-- A meter enters a push: its parts are queued (10 R346). -/
def enterMeter (x : Push) (mix : Nat) (s : State) : State :=
  (List.range (pushParts x)).foldl (fun t k =>
    createItem { no := 0, mix := mix, cmd := 0xF0, way := 0, expiry := x.activate, max := rd s P60.DL_ATTEMPTS,
                 body := partBody x k, owner := .push x.no } t)
    (pushMeter x.no mix 2 s)

/-- TARIFF_METER_ENTRY for one push: meters enter in MIX order while places remain; one retired meanwhile has failed (10
R346). -/
def enterMore (no : Nat) : Nat → State → State
  | 0, s => s
  | fuel + 1, s =>
    match s.dl.pushes.find? (fun x => x.no == no) with
    | none => s
    | some x =>
      if x.live = false ∨ x.cancelled = true ∨ rd s P60.TARIFF_PARALLEL ≤ pushCount x 2 then s
      else match x.meters.find? (fun m => m.2 == 1) with
        | none => s
        | some m =>
          if (meterAt s m.1).isNone then
            enterMore no fuel (pushMeter no m.1 5 s)
          else if openItems s m.1 + pushParts x ≤ rd s P60.DL_PER_METER then enterMore no fuel (enterMeter x m.1 s)
          else s

/-- TARIFF_METER_ENTRY for every push. -/
def tariffEntry (s : State) : State :=
  (s.dl.pushes.filter (fun x => x.live && !x.cancelled)).foldl (fun t x => enterMore x.no (x.meters.length + 1) t) s

/-- A part of a push ended: the meter is done, has failed or has expired once that is known (10 R346). -/
def pushProgress (no mix : Nat) (s : State) : State :=
  let l := s.dl.items.filter (fun i => i.owner == .push no && i.mix == mix)
  let bad := l.any (fun i => (i.st == 3 && decide (1 < i.result)) || i.st == 4)
  let excess := l.any (fun i => i.st == 5)
  let v := if bad then 5 else if excess then 4 else if l.all (fun i => i.st == 3) then 3 else 2
  let now := ((s.dl.pushes.find? (fun x => x.no == no)).bind (fun x => assocGet mix x.meters)).getD 0
  if now = 2 then pushMeter no mix v s else s

/-! The release of a DOWNLINK entry (10 R328). -/

/-- What an item's end means to what it came from. -/
def ownerEnded (i : DlItem) (data : List Byte) (s : State) : State :=
  match i.owner with
  | .host => s
  | .push no => pushProgress no i.mix s
  | .campaign no =>
    match fwCamp s no with
    | none => s
    | some c => if i.st = 3 then campConcluded c i data s else campLeft c i (i.st == 5) s

/-- A SENT item's release: it may be transmitted; a meter is ACTIVATING while its activation is SENT (10 R328, R352). -/
def sentReleased (i : DlItem) (s : State) : State :=
  let s1 := transmitItem i s
  match i.owner with
  | .campaign no =>
    if i.cmd = 0xF4 then
      match fwCamp s1 no with
      | some c => match c.meters.find? (fun m => m.mix == i.mix) with
        | some m => if m.st = 3 then meterStep10 c m 4 i.id [] s1 else s1
        | none => s1
      | none => s1
    else s1
  | _ => s1

/-- The release of a DOWNLINK entry: the transition takes effect (10 R328). -/
def dlRelease (e : Entry) (no sub : Nat) (s : State) : State :=
  if sub = 7 then tariffEntry (modPush no (fun x => { x with live := true, id := e.lseq }) s)
  else match itemNo s no with
    | none => s
    | some i =>
      let clear := fun (x : DlItem) => if x.posted = sub then 0 else x.posted
      if sub = 1 then dlCount (modItem no (fun x => { x with st := 1, id := e.lseq, posted := clear x }) s)
      else if sub = 2 then
        let s1 := dlCount (modItem no (fun x => { x with st := 2, sentSeq := e.lseq, posted := clear x }) s)
        (match itemNo s1 no with
          | some j => sentReleased j s1
          | none => s1)
      else if sub = 3 ∨ sub = 4 ∨ sub = 5 then
        let j := { i with st := sub, finalSeq := e.lseq, posted := clear i,
                          result := if sub = 3 then byteAt e.head 17 else i.result }
        let s1 := dlCount (modItem no (fun _ => j) s)
        let s2 := if sub = 3 then bump P60.DL_CONCLUDED s1 else if sub = 5 then bump P60.DL_EXPIRED s1 else s1
        tariffEntry (ownerEnded j e.body s2)
      else s

/-! Blocks and rounds (10 R350). -/

/-- The bytes of an image's block, the last one padded. -/
def imageBlock (s : State) (c : Camp) (k : Nat) : List Byte :=
  let all := ((assocGet c.image s.dl.images).map (fun m => assemble 0 m.blocks)).getD []
  padTo c.blockSize (sliceB all (k * c.blockSize) c.blockSize)

/-- The IV of a block: 00 00 00 00, the campaign number and the block index, big-endian (10 R350). -/
def blockIv (no k : Nat) : List Byte := zeros 4 ++ beB 4 no ++ beB 4 k

/-- The header and the sealed bytes of a block for a way: AES-GCM under CK (10 Table 10-3, R350). -/
def sealBlock (s : State) (c : Camp) (w : DlWay) (k : Nat) : List Byte × List Byte :=
  let h := dlHead false true (fragCount w (c.blockSize + 12)) (c.no + k * 2 ^ 32) 0 0xF2
  let ck := ((assocGet c.keySlot s.keys.slots).map KeySlot.key).getD []
  (h, gcmSeal ck (blockIv c.no k) (dlAad h) (imageBlock s c k) 12)

/-- A block queued on a way, for all meters or for one title, not before a number of beats from now (10 R350). -/
def queueBlock (c : Camp) (w : DlWay) (title : Option Nat) (k wait : Nat) (s : State) : State :=
  let (h, b) := sealBlock s c w k
  (List.range (fragCount w b.length)).foldl (fun t n =>
    let p := fragment10 w h b n
    match w with
    | .direct ch =>
      match title with
      | some x =>
        let nb := neighOn t ch x
        let asleep := (nb.map sleepy).getD false
        queueRadio { ch := ch, cls := if asleep then 4 else 6, ext := some x, dest := (nb.map Neigh.short).getD 0xFFFE,
                     payload := p, indirect := asleep, cargo := .block c.no k } t
      | none => queueRadio { ch := ch, cls := 6, ext := none, dest := 0xFFFF, payload := p, ackReq := false,
                             flood := some (3, rdI t P20.HOP_LIMIT ch), at_ := t.beat.ticks + wait,
                             cargo := .block c.no k } t
    | .relayed ch hops =>
      match title with
      | some x => queueRadio { ch := ch, cls := 6, ext := some x, dest := 0xFFFF, payload := p, ackReq := false,
                               flood := some (1, min 15 (hops + 1)), cargo := .block c.no k } t
      | none => t
    | .phase ph =>
      queuePlc ph { place := 4, type := 0, dest := 0xFFFF, final := 0xFFFF, routing := if title.isSome then 1 else 3,
                    ackReq := title.isSome, title := title, inner := p, cargo := .block c.no k,
                    notBefore := chainNs t + (wait * 125000 : Nat) } t
    | _ => t) s

/-- The media a round uses: each channel and phase with a meter to serve. -/
def mediumOf (w : DlWay) : DlWay :=
  match w with
  | .relayed ch _ => .direct ch
  | x => x

/-- The blocks that some meter of a medium lacks, in ascending index (10 R350). -/
def lackedOn (s : State) (c : Camp) (w : DlWay) : List Nat :=
  let ms := c.meters.filter (fun m => multicasts s c m && ((awakeWay s m.mix).map mediumOf) == some w)
  (List.range c.count).filter (fun k => ms.any (fun m => !bitAt m.held k))

/-- The multicast part of a round: every lacking block on every medium at BLOCK_RATE (10 R350). -/
def multicastRound (c : Camp) (s : State) : State :=
  let media := ((c.meters.filter (multicasts s c)).filterMap (fun m => (awakeWay s m.mix).map mediumOf)).eraseDups
  let gap := 480000 / rd s P60.BLOCK_RATE
  media.foldl (fun t w =>
    let l := lackedOn s c w
    ((List.range l.length).zip l).foldl (fun u x => queueBlock c w none x.2 (x.1 * gap) u) t) s

/-- The unicast part: each other RECEIVING meter with nothing queued and no query open gets its missing blocks (10 R350). -/
def unicastRound (c : Camp) (s : State) : State :=
  let idle := fun (t : State) (m : CampMeter) => !blocksLeft t c.no (some (titleOf t m.mix))
    && !t.dl.items.any (fun i => i.owner == .campaign c.no && i.mix == m.mix && itemOpen i)
  (c.meters.filter (fun m => m.st == 2 && !multicasts s c m && idle s m)).foldl (fun t m =>
    ((List.range c.count).filter (fun k => !bitAt m.held k)).foldl (fun u k =>
      queueBlock c (localWayOf u m.mix) (some (titleOf u m.mix)) k 0 u) t) s

/-- A round begins: it is recorded, and its blocks are queued. With no meter to multicast to, only the unicast passes go on
(10 R350). -/
def beginRound (c : Camp) (s : State) : State :=
  let any := c.meters.any (multicasts s c)
  let n := if any then c.round + 1 else c.round
  let c1 := { c with round := n, sending := any }
  let s1 := modCampaign c.no (fun x => { x with round := n, sending := any, lastBlock := none }) s
  let s2 := if any then postEntry (stepEntry 4 0 c.no 0 0 n 0 []) s1 else s1
  unicastRound c1 (if c1.round ≤ c1.maxRounds then multicastRound c1 s2 else s2)

/-- A campaign that waits starts at START: every meter is sent CAMPAIGN_START (10 R348, R349). -/
def startCampaign (c : Camp) (s : State) : State :=
  wakeCampaign c (modCampaign c.no (fun x => { x with st := 2 }) s)

/-- Queries of the last round are still open. -/
def queriesOpen (s : State) (c : Camp) : Bool :=
  s.dl.items.any (fun i => i.owner == .campaign c.no && i.cmd == 0xF3 && itemOpen i)

/-- CAMPAIGN_ROUND: a waiting campaign starts; a running one begins its next round once every query has ended (10 R350). -/
def execCampaignRound (campaign : Nat) (s : State) : Host.Outcome State Fault Refusal :=
  .next (match fwCamp s campaign with
    | none => s
    | some c =>
      if granted s .campaign = false then s
      else if c.st = 1 ∧ c.start ≤ legalSec s then startCampaign c (spend .campaign s)
      else if c.st ≠ 2 ∨ c.sending = true ∨ queriesOpen s c = true then s
      else beginRound c (spend .campaign s))

/-- ROUND_WAIT_EXPIRE: the next round begins ROUND_WAIT after the last block (10 R350). -/
def execRoundWaitExpire (campaign : Nat) (s : State) : Host.Outcome State Fault Refusal :=
  .next (match fwCamp s campaign with
    | none => s
    | some c =>
      match c.lastBlock with
      | none => s
      | some t =>
        if c.st = 2 ∧ c.sending = false ∧ granted s .campaign = true ∧ passed s t (secBeats (rd s P60.ROUND_WAIT * 60)) = true then
          beginRound c (spend .campaign s)
        else s)

/-- CAMPAIGN_ENDED: at DEADLINE every meter not DONE has expired and the campaign ends (10 R352). -/
def execCampaignEnded (campaign : Nat) (s : State) : Host.Outcome State Fault Refusal :=
  .next (match fwCamp s campaign with
    | none => s
    | some c =>
      if c.st = 0 ∨ 3 < c.st ∨ legalSec s < c.deadline then s
      else
        let s1 := (c.meters.filter (fun m => !meterOver m)).foldl (fun t m => meterStep10 c m 7 0 [] t) s
        endCampaign c 4 s1)

/-- A retired meter's campaign state becomes ABORTED (10 R367). -/
def campRetire (mix : Nat) (s : State) : State :=
  (s.dl.camps.filter (fun c => decide (c.st ≤ 3))).foldl (fun t c =>
    match c.meters.find? (fun m => m.mix == mix) with
    | some m => if meterOver m then t else meterStep10 c m 8 0 [] t
    | none => t) s

/-! Commands (10 R347, R348, R353, R354). -/

/-- Blocks held of a total, as bytes held and lowest missing offset. -/
def imageReply (m : MeterImage) : List Byte := leB 4 (heldFrom 0 m.blocks) ++ leB 4 (lowestMissing 0 m.blocks)

/-- A running campaign uses an image number (10 R347). -/
def imageBusy (s : State) (no : Nat) : Bool :=
  s.dl.camps.any (fun c => c.image == no && decide (c.st ≤ 3))

/-- METER_IMAGE_LOAD's checks and effect: the block is held before its entry is recorded; a completed image whose CRC is
wrong is emptied (10 R347). Offsets and sizes that do not fit are refused at their fields. -/
def imageLoadBody (h : Hdr) (p : List Byte) (s : State) : Ans :=
  let no := byteAt p 0
  let off := leAt p 4 4
  let total := leAt p 8 4
  let d := p.drop 16
  let first := bitAt (byteAt p 1) 0
  if 15 < no then .fail stOutOfRange 0
  else if total = 0 ∨ 4194304 < total then .fail stOutOfRange 64
  else if off % 4096 ≠ 0 ∨ total ≤ off then .fail stOutOfRange 32
  else if d.length ≠ min 4096 (total - off) then .fail stBadPayload (16 + min d.length (min 4096 (total - off)))
  else if imageBusy s no then .fail stDeniedState 0
  else
    let old := if first then none else assocGet no s.dl.images
    match old with
    | some m =>
      if m.total ≠ total then .fail stBadPayload 8
      else if (overlapDiff off d m.blocks).isSome then .fail stBadPayload 16
      else
        let m1 := { m with blocks := if m.blocks.any (fun b => b.1 == off) then m.blocks else insPart (off, d) m.blocks }
        let full := lowestMissing 0 m1.blocks == total
        if full ∧ crc32c (assemble 0 m1.blocks) ≠ leAt p 12 4 then
          .stays (finish h p stAuthFailed 0 [] { s with dl := { s.dl with images := assocDel no s.dl.images } })
        else .accept (imageReply m1) [] {} { s with dl := { s.dl with images := assocSet no m1 s.dl.images } }
    | none =>
      let m1 : MeterImage := { total := total, crc := leAt p 12 4, blocks := [(off, d)] }
      let full := lowestMissing 0 m1.blocks == total
      if full ∧ crc32c d ≠ leAt p 12 4 then
        .stays (finish h p stAuthFailed 0 [] { s with dl := { s.dl with images := assocDel no s.dl.images } })
      else .accept (imageReply m1) [] {} { s with dl := { s.dl with images := assocSet no m1 s.dl.images } }

/-- METER_IMAGE_LOAD (10 R347). -/
def execMeterImageLoad (h : Hdr) (p : List Byte) (s : State) : Host.Outcome State Fault Refusal :=
  .next (runCmd h p true (imageLoadBody h p) s)

/-- The enrolled meters of a selection, by balance group or by a range of MIX (10 Table 10-7). -/
def selected10 (s : State) (byGroup : Bool) (lo hi : Nat) : List Nat :=
  (s.infeed.meters.filter (fun m => m.rstate == 1 &&
    (if byGroup then m.group == lo % 65536
     else decide (lo % 2 ^ 20 ≤ m.mix) && decide (m.mix ≤ hi % 2 ^ 20)))).foldl (fun l m => insMix m.mix l) []
where
  /-- A MIX put into an ascending list. -/
  insMix (x : Nat) : List Nat → List Nat
    | [] => [x]
    | y :: l => if x ≤ y then x :: y :: l else y :: insMix x l

/-- A meter has a local way (10 R348). -/
def hasLocalWay (s : State) (mix : Nat) : Bool := localWayOf s mix != .none

/-- A slot holds the attribute of campaign keys: CIPHER, AES-128, MODES 0x0010, PERSIST (12 R416). -/
def campSlotOk (s : State) (slot : Nat) : Bool :=
  match assocGet slot s.keys.slots with
  | some k => k.attr == 3 && k.type == 1 && k.modes == 0x0010 && k.persist
  | none => false

/-- A key of 16 fresh random bytes (12 R413). -/
def freshKey (s : State) : List Byte := (List.range 16).map (Config.random s.free)

/-- CAMPAIGN_CREATE's checks, in order, and its effect (10 R348; 12 R414). -/
def campaignCreateBody (h : Hdr) (p : List Byte) (s : State) : Ans :=
  let img := byteAt p 0
  let size := leAt p 2 2
  let sel := (selected10 s (bitAt (byteAt p 1) 0) (leAt p 4 4) (leAt p 8 4)).filter (hasLocalWay s)
  let start := leAt p 12 5
  let dead := leAt p 17 5
  let slot := leAt p 28 2
  if s.keys.entropyBad then .fail stFuncFailed 0x0040
  else match (assocGet img s.dl.images).filter (fun m => lowestMissing 0 m.blocks == m.total) with
  | none => .fail stUnknownObject 0
  | some m =>
    if size < 128 ∨ 1024 < size ∨ size % 16 ≠ 0 then .fail stBadPayload 2
    else if 4096 < ceilDiv m.total size then .fail stOutOfRange 16
    else if dead ≤ start ∨ dead ≤ legalSec s then .fail stOutOfRange 136
    else if 4 ≤ (s.dl.camps.filter (fun c => decide (c.st ≤ 3))).length then .fail stNoResource 0x6001
    else if 65536 < sel.length then .fail stNoResource 0x6002
    else if sel.isEmpty then .fail stDeniedState 0
    else if campSlotOk s slot = false then .fail stBadPayload 28
    else if leAt p 30 2 = 0 ∨ 1000 < leAt p 30 2 then .fail stOutOfRange 240
    else
      let no := s.dl.nextCamp
      let c : Camp := { no := no, image := img, unicast := bitAt (byteAt p 1) 1, blockSize := size, start := start,
                        deadline := dead, activateAt := leAt p 22 5, keySlot := slot, maxRounds := leAt p 30 2,
                        meterType := leAt p 32 4, version := leAt p 36 4, length := m.total, crc := m.crc,
                        count := ceilDiv m.total size, meters := sel.map (fun x => { mix := x }) }
      let key := freshKey s
      let fill := fun (k : KeySlot) =>
        { k with loaded := true, key := key, origin := .generated, gen := (k.gen + 1) % 65536, filledAt := legalSec s, jobs := 0 }
      let s1 := drawn { s with dl := { s.dl with camps := s.dl.camps ++ [c], nextCamp := no + 1 } }
      let ks := mapIf (fun (x : Nat × KeySlot) => x.1 == slot) (fun x => (x.1, fill x.2)) s1.keys.slots
      let st := mapIf (fun (x : Nat × KeySlot) => x.1 == slot) (fun x => (x.1, fill x.2)) s1.keys.store
      let back := s1.keys.replaced ++ [(slot, h, assocGet slot s1.keys.store)]
      let s2 := keyFields { s1 with keys := { s1.keys with slots := ks, store := st, replaced := back } }
      .stays (postGroup [commandEntry h p (leB 4 no ++ leB 4 sel.length) [] { cmd := none, data := p },
        stepEntry 1 0 no 0 0 0 0 p] s2)

/-- CAMPAIGN_CREATE (10 R348). -/
def execCampaignCreate (h : Hdr) (p : List Byte) (s : State) : Host.Outcome State Fault Refusal :=
  .next (runCmd h p true (campaignCreateBody h p) s)

/-- The state a campaign control leads to. -/
def controlState (s : State) (c : Camp) (action : Nat) : Nat :=
  if action = 1 then resumedState s c else if action = 2 then 3 else if action = 3 then 5 else c.st

/-- A control is in force already (10 R353). -/
def controlHeld (c : Camp) (action : Nat) : Bool :=
  (action == 1 && (c.st == 1 || c.st == 2)) || (action == 2 && c.st == 3) || (action == 3 && c.st == 5) || (action == 4 && (c.instant.isSome || c.activateAt != 0))

/-- A campaign has ended; while it is being aborted it ends with its last meter (10 R352, R353). -/
def campEnded (c : Camp) : Bool := c.st == 4 || (c.st == 5 && c.meters.all meterOver)

/-- CAMPAIGN_CONTROL; a campaign being aborted takes no action but abort (10 R353). -/
def campaignControlBody (h : Hdr) (p : List Byte) (s : State) : Ans :=
  let action := byteAt p 4
  match fwCamp s (leAt p 0 4) with
  | none => .fail stUnknownObject 0
  | some c =>
    if campEnded c = true ∨ (c.st = 5 ∧ action ≠ 3) then .fail stDeniedState 0
    else if action = 0 ∨ 4 < action then .fail stOutOfRange 32
    else
      let data := leB 1 (if controlHeld c action then c.st else controlState s c action) ++ zeros 7
      let ce := commandEntry h p data [] { cmd := none, data := p }
      if controlHeld c action then .stays (postEntry ce s)
      else
        let l := if action = 3 then
            s.dl.items.filter (fun i => i.owner == .campaign c.no && i.st == 1 && i.posted == 0)
          else []
        .stays (postGroup (ce :: stepEntry 2 0 c.no action 0 c.round 0 [] :: l.map (fun i => cancelEntry i 3))
          (l.foldl (fun t i => markPosted i.no 4 t) s))

/-- CAMPAIGN_CONTROL (10 R353). -/
def execCampaignControl (h : Hdr) (p : List Byte) (s : State) : Host.Outcome State Fault Refusal :=
  .next (runCmd h p true (campaignControlBody h p) s)

/-- The 16 bytes of a meter record of CAMPAIGN_STATUS (10 R354). -/
def campMeterBytes (c : Camp) (m : CampMeter) : List Byte :=
  leB 4 m.mix ++ leB 1 m.st ++ leB 1 m.result ++ leB 2 (heldCount m.held c.count) ++ leB 4 (m.queryAt % 2 ^ 32) ++ zeros 4

/-- CAMPAIGN_STATUS: as many meter records as a reply of 8,188 bytes holds (10 R354). -/
def execCampaignStatus (h : Hdr) (p : List Byte) (s : State) : Host.Outcome State Fault Refusal :=
  .next (runCmd h p false (fun t =>
    match fwCamp t (leAt p 0 4) with
    | none => .fail stUnknownObject 0
    | some c =>
      let n := fun (f : Nat → Bool) => leB 4 (c.meters.filter (fun m => f m.st)).length
      let l := c.meters.drop (leAt p 4 4)
      let next := if 509 < l.length then leAt p 4 4 + 509 else 0xFFFFFFFF
      .done (leB 4 c.no ++ leB 1 (if c.st = 0 then 1 else c.st) ++ leB 1 (min 255 c.round) ++ zeros 2 ++ leB 4 c.meters.length
        ++ n (fun x => x == 2) ++ n (fun x => x == 3 || x == 4) ++ n (fun x => x == 5) ++ n (fun x => decide (6 ≤ x))
        ++ leB 4 next ++ ((l.take 509).map (campMeterBytes c)).flatten) t) s)

end Sys2Proof.Machine
end

