-- ==== Sys2Proof/Machine/PlcCode.lean ====
section
/-! DEFINITION. What a powerline frame is on the wire (09 R296, R297, R301, R302, R304): slots filled with bits and tones,
and the Reed-Solomon codes with errors and erasures. -/
namespace Sys2Proof.Machine

/-! Bits and tones (09 R296, R297). -/

/-- The bits of bytes, least significant first (09 R297). -/
def bitsOf (p : List Byte) : List Bool := p.flatMap (fun b => (List.range 8).map (fun k => bitAt b.toNat k))

/-- Whole bytes of bits, least significant first. -/
def bytesOf : Nat → List Bool → List Byte
  | 0, _ => []
  | n + 1, l => BitVec.ofNat 8 (((List.range 8).map (fun k => b2n (l.getD k false) * 2 ^ k)).sum) :: bytesOf n (l.drop 8)

/-- The tones of a mask in ascending frequency (09 R293). -/
def toneList (m : Nat) : List Nat := (List.range 8).filter (fun k => bitAt m k)

/-- The place of tone `i` of `k` among `m` tones: floor(i (m - 1) / (k - 1) + 1/2) (09 R296). -/
def toneIndex (m k i : Nat) : Nat := (2 * i * (m - 1) + (k - 1)) / (2 * (k - 1))

/-- The bits a slot carries under its effective mask (09 R296). -/
def slotBits (four : Bool) (m : Nat) : Nat :=
  if four && decide (4 ≤ (toneList m).length) then 2 else if 2 ≤ (toneList m).length then 1 else 0

/-- The tones a slot that carries `b` bits uses (09 R296). -/
def usedTones (m b : Nat) : List Nat :=
  let l := toneList m
  (List.range (2 ^ b)).map (fun i => l.getD (toneIndex l.length (2 ^ b) i) 0)

/-- The index of the tone for the next bits b0 and b1: 0, 1, 2 or 3 for b1b0 = 00, 01, 11 or 10 (09 R297). -/
def grayIndex (b0 b1 : Bool) : Nat :=
  match b1, b0 with
  | false, false => 0
  | false, true => 1
  | true, true => 2
  | true, false => 3

/-- The bits that a tone index stands for, in order. -/
def grayBits : Nat → List Bool
  | 0 => [false, false]
  | 1 => [true, false]
  | 2 => [true, true]
  | _ => [false, true]

/-- The tone of a slot for the bits that come next, and the bits left; none where the slot is skipped. A 2-bit slot with
one bit left is filled with 0 (DEDUCED: assumption log 118). -/
def slotTone (four : Bool) (m : Nat) (bits : List Bool) : Option Nat × List Bool :=
  match slotBits four m with
  | 0 => (none, bits)
  | 1 => (some ((usedTones m 1).getD (b2n (bits.headD false)) 0), bits.drop 1)
  | _ => (some ((usedTones m 2).getD (grayIndex (bits.headD false) (bits.getD 1 false)) 0), bits.drop 2)

/-- Slots filled from a slot of the cycle on until the bits are sent: their tones. `cycle` holds the effective masks; the fuel
bounds blank cycles. -/
def sendSlots (cycle : List Nat) (four : Bool) : Nat → Nat → List Bool → List (Option Nat)
  | 0, _, _ => []
  | n + 1, k, bits =>
    if bits.isEmpty then []
    else
      let x := slotTone four (cycle.getD (k % cycle.length) 0) bits
      x.1 :: sendSlots cycle four n (k + 1) x.2

/-- The bits that a decided tone stands for in a slot (09 R297). -/
def toneBits (four : Bool) (m tone : Nat) : List Bool :=
  let b := slotBits four m
  let i := (usedTones m b).idxOf tone
  if b = 0 then [] else if b = 1 then [i != 0] else grayBits i

/-- The bits of slots received, in order, each with whether its slot is erased. `erased` tells it for a slot counted from
slot 0 of the frame's first cycle. -/
def recvSlots (cycle : List Nat) (four : Bool) (erased : Nat → Bool) : Nat → List (Option Nat) → List (Bool × Bool)
  | _, [] => []
  | k, t :: l =>
    let m := cycle.getD (k % cycle.length) 0
    let bits := match t with
      | some tone => toneBits four m tone
      | none => List.replicate (slotBits four m) false
    bits.map (fun b => (b, erased k || t.isNone)) ++ recvSlots cycle four erased (k + 1) l

/-! Reed-Solomon codes over GF(2^8) with field polynomial 0x11D (09 R301, R302). -/

/-- A field element times α. -/
def rsX (b : Nat) : Nat := if b < 128 then 2 * b else Nat.xor (2 * b) 0x11D

/-- Multiplication: the multiples of `b` by the bits of `a`, from bit `8 - n` on. -/
def rsMulFrom : Nat → Nat → Nat → Nat
  | 0, _, _ => 0
  | n + 1, a, b => Nat.xor (if a % 2 = 1 then b else 0) (rsMulFrom n (a / 2) (rsX b))

/-- Multiplication in the field. -/
def rsMul (a b : Nat) : Nat := rsMulFrom 8 a b

/-- Powers of a field element. -/
def rsPow (a : Nat) : Nat → Nat
  | 0 => 1
  | n + 1 => rsMul a (rsPow a n)

/-- The inverse of a field element: its 254th power. -/
def rsInv (a : Nat) : Nat :=
  let a2 := rsMul a a
  let a6 := rsMul a2 (rsMul a2 a2)
  let a14 := rsMul a2 (rsMul a6 a6)
  let a30 := rsMul a2 (rsMul a14 a14)
  let a62 := rsMul a2 (rsMul a30 a30)
  let a126 := rsMul a2 (rsMul a62 a62)
  rsMul a2 (rsMul a126 a126)

/-- A polynomial, lowest coefficient first, at a point. -/
def rsAt (p : List Nat) (x : Nat) : Nat := p.foldr (fun c acc => Nat.xor c (rsMul x acc)) 0

/-- Sum of polynomials. -/
def rsAdd : List Nat → List Nat → List Nat
  | [], q => q
  | p, [] => p
  | a :: p, b :: q => Nat.xor a b :: rsAdd p q

/-- Product of polynomials. -/
def rsProd (p q : List Nat) : List Nat := p.foldr (fun c acc => rsAdd (q.map (rsMul c)) (0 :: acc)) []

/-- The generator with roots α^0 to α^(r - 1), highest coefficient first and the leading 1 left out. -/
def rsGen (r : Nat) : List Nat := (((List.range r).foldl (fun g i => rsProd g [rsPow 2 i, 1]) [1]).reverse).drop 1

/-- The check bytes of a message: the rest of its division by the generator. -/
def rsCheck (gen : List Nat) (m : List Nat) : List Nat :=
  m.foldl (fun reg b =>
    let q := Nat.xor b (reg.headD 0)
    (reg.drop 1 ++ [0]).zipWith (fun a g => Nat.xor a (rsMul q g)) gen) (List.replicate gen.length 0)

/-- A codeword with `r` check bytes: the message, then its check bytes; DEDUCED systematic, first byte highest (assumption
log 118). -/
def rsEncode (r : Nat) (m : List Byte) : List Byte :=
  m ++ (rsCheck (rsGen r) (m.map BitVec.toNat)).map (BitVec.ofNat 8)

/-- The syndromes of a received word at α^0 to α^(r - 1). -/
def rsSyndromes (r : Nat) (c : List Nat) : List Nat :=
  (List.range r).map (fun i => c.foldl (fun acc b => Nat.xor (rsMul (rsPow 2 i) acc) b) 0)

/-- Berlekamp-Massey steps from syndrome `i` on: locator, its companion and its length. `rho` erasures are in it. -/
def rsSolve (syn : List Nat) (rho : Nat) : Nat → Nat → List Nat → List Nat → Nat → List Nat
  | 0, _, lam, _, _ => lam
  | n + 1, i, lam, b, len =>
    let d := ((List.range (len + 1)).map (fun j => rsMul (lam.getD j 0) (syn.getD (i - j) 0))).foldl Nat.xor 0
    let xb := 0 :: b
    if d = 0 then rsSolve syn rho n (i + 1) lam xb len
    else
      let t := rsAdd lam (xb.map (rsMul d))
      if 2 * len ≤ i + rho then rsSolve syn rho n (i + 1) t (lam.map (rsMul (rsInv d))) (i + 1 + rho - len)
      else rsSolve syn rho n (i + 1) t xb len

/-- The formal derivative of a polynomial. -/
def rsDeriv (p : List Nat) : List Nat :=
  ((List.range p.length).map (fun i => if i % 2 = 1 then p.getD i 0 else 0)).drop 1

/-- The degree of a polynomial. -/
def rsDegree (p : List Nat) : Nat := ((List.range p.length).filter (fun i => p.getD i 0 != 0)).foldl max 0

/-- A received word with erased places decoded: errors e and erasures s with 2e + s ≤ r are corrected, and more make it
fail (09 R302, R304). -/
def rsDecode (r : Nat) (c : List Byte) (erased : List Nat) : Option (List Byte) :=
  let v := c.map BitVec.toNat
  let n := v.length
  let syn := rsSyndromes r v
  let rho := erased.length
  if r < rho then none
  else if syn.all (fun x => x == 0) then some c
  else
    let loc := fun (p : Nat) => rsPow 2 (n - 1 - p)
    let gamma := erased.foldl (fun g p => rsProd g [1, loc p]) [1]
    let lam := rsSolve syn rho (r - rho) rho gamma gamma rho
    let bad := (List.range n).filter (fun p => rsAt lam (rsInv (loc p)) == 0)
    let omega := (rsProd syn lam).take r
    let der := rsDeriv lam
    let fix := bad.map (fun p =>
      let xi := rsInv (loc p)
      (p, rsMul (loc p) (rsMul (rsAt omega xi) (rsInv (rsAt der xi)))))
    let w := fix.foldl (fun (u : List Nat) x => u.set x.1 (Nat.xor (u.getD x.1 0) x.2)) v
    let errs := (bad.filter (fun p => !erased.contains p)).length
    if bad.length = rsDegree lam ∧ 2 * errs + rho ≤ r ∧ (rsSyndromes r w).all (fun x => x == 0) then
      some (w.map (BitVec.ofNat 8))
    else none

/-! The coded payload (09 R302). -/

/-- Bytes cut into pieces of `k` bytes, the last padded with zeros. -/
def pieces (k : Nat) : Nat → List Byte → List (List Byte)
  | 0, _ => []
  | n + 1, m => (m.take k ++ List.replicate (k - m.length) 0) :: pieces k n (m.drop k)

/-- Byte `i` of each word in turn, for all bytes of words of `k` bytes. -/
def interleave (k : Nat) (ws : List (List Byte)) : List Byte :=
  (List.range k).flatMap (fun i => ws.map (fun w => w.getD i 0))

/-- The codewords of a payload of `len` bytes. -/
def codewords (len : Nat) : Nat := if len = 0 then 0 else ceilDiv (len + 4) 48

/-- The coded bytes of a payload: its CRC-32C appended, 48-byte blocks as RS(64,48) codewords, interleaved (09 R302). -/
def codePayload (p : List Byte) : List Byte :=
  if p.isEmpty then []
  else interleave 64 ((pieces 48 (codewords p.length) (p ++ leB 4 (crc32c p))).map (rsEncode 16))

/-- What a coded payload decodes to. -/
structure PlcGot where
  rsOk : Bool
  corrected : Bool
  crcOk : Bool
  payload : List Byte
  deriving DecidableEq, Repr

/-- A payload of `len` bytes decoded from its coded bytes and the erased ones among them (09 R302, R304). -/
def decodePayload (len : Nat) (coded : List Byte) (erased : List Bool) : PlcGot :=
  let c := codewords len
  let word := fun (j : Nat) => (List.range 64).map (fun i => coded.getD (i * c + j) 0)
  let holes := fun (j : Nat) => (List.range 64).filter (fun i => erased.getD (i * c + j) true)
  let ws := (List.range c).map (fun j => rsDecode 16 (word j) (holes j))
  let d := (ws.map (fun w => (w.getD []).take 48)).flatten
  let p := d.take len
  { rsOk := ws.all Option.isSome, corrected := ws != (List.range c).map (fun j => some (word j)), payload := p,
    crcOk := leAt d len 4 == crc32c p }

/-! The robust section (09 R301). -/

/-- The bits in front of a header: the preamble 1, 0, 1, 0 and so on over 16 slots, and the SFD 0x7A13. -/
def startBits : List Bool := (List.range 16).map (fun k => k % 2 == 0) ++ bitsOf (leB 2 0x7A13)

/-- The 160 bits of the robust section. -/
def robustBits (header : List Byte) : List Bool := startBits ++ bitsOf (rsEncode 8 header)

/-- The header in a robust section's bits; none without the preamble and the SFD, or where the header does not decode. -/
def readRobust (bits : List Bool) : Option (List Byte) :=
  if bits.take 32 = startBits then (rsDecode 8 (bytesOf 16 (bits.drop 32)) []).map (fun w => w.take 8) else none

end Sys2Proof.Machine
end

