-- ==== Sys2Proof/Machine/PlcOps.lean ====
section
/-! DEFINITION. The powerline's shared operations (09): slots, frames, coding sizes, the injection ceiling, links, routes
and queues. Phase k of this model is PH_(k+1). -/
namespace Sys2Proof.Machine

/-- A field of a phase. -/
def rdPh (s : State) (f : Fld) (ph : Nat) : Nat := rdI s f (ph + 1)

/-- A field of a phase written. -/
def wrPh (f : Fld) (ph v : Nat) (s : State) : State := wrI f (ph + 1) v s

/-- A counter of a phase raised by 1. -/
def bumpPh (f : Fld) (ph : Nat) (s : State) : State := bumpI f (ph + 1) 1 s

/-- Nominal mains frequency. -/
def mainsHz (s : State) (ph : Nat) : Nat := if rdPh s P21.MAINS_HZ ph = 0 then 50 else 60

/-- The phase runs: its subsystem is powered, the device has mains, STATE is running (09 R299, R323). -/
def phaseRuns (s : State) (ph : Nat) : Bool :=
  plcOn s && !silent s && rdPh s P21.EN ph == 1 && rdPh s P21.STATE ph == 2

/-- AFE_EN of a phase: high while the phase is enabled and runs, so low in ZC_LOST, while suspended, out of reset until
the phase is enabled, and from mains loss on (18 R555). -/
def afeEn (s : State) (ph : Nat) : Bool := phaseRuns s ph

/-- The phase receives: it runs, or is suspended, when it only sends nothing (09 R320). -/
def phaseHears (s : State) (ph : Nat) : Bool :=
  plcOn s && !silent s && rdPh s P21.EN ph == 1 && (rdPh s P21.STATE ph == 2 || rdPh s P21.STATE ph == 4)

/-- The phase's detector works: running, ZC_LOST or suspended. -/
def detects (s : State) (ph : Nat) : Bool :=
  plcOn s && !silent s && rdPh s P21.EN ph == 1 && decide (2 ≤ rdPh s P21.STATE ph)

/-! Slots and segments (09 R294 to R297). -/

/-- The segments each slot of a cycle covers, each with its half-cycle (09 Table 09-2). -/
def slotParts (s : State) (ph : Nat) : List (List (Nat × Nat)) :=
  let both := fun (h : List (List Nat)) => h.map (fun g => g.map (fun j => (0, j))) ++ h.map (fun g => g.map (fun j => (1, j)))
  match rdPh s P21.MAINS_HZ ph, rdPh s P21.BAUD ph with
  | 0, 0 => both [[0, 1], [1, 2], [2, 3], [4, 5], [5, 6], [6, 7]]
  | 0, _ => both [[0, 1, 2], [2, 3, 4, 5], [5, 6, 7]]
  | _, 0 => both [[0, 1], [1, 2, 3], [3, 4], [5, 6], [6, 7]]
  | _, _ => [[(0, 0), (0, 1), (0, 2), (0, 3)], [(0, 3), (0, 4), (0, 5), (0, 6)], [(0, 6), (0, 7), (1, 0), (1, 1)],
             [(1, 1), (1, 2), (1, 3), (1, 4)], [(1, 5), (1, 6), (1, 7)]]

/-- The segments each slot of a cycle covers. -/
def slotSegs (s : State) (ph : Nat) : List (List Nat) := (slotParts s ph).map (fun g => g.map Prod.snd)

/-- The effective mask of a slot: the AND over its segments (09 R296). -/
def slotMask (masks segs : List Nat) : Nat := segs.foldl (fun m k => Nat.land m (masks.getD k 0)) 0xFF

/-- The effective masks of a cycle's slots under a map's masks. -/
def cycleMasks (s : State) (ph : Nat) (masks : List Nat) : List Nat := (slotSegs s ph).map (slotMask masks)

/-- The bits of each slot of a cycle under a map. -/
def cycleBits (s : State) (ph : Nat) (masks : List Nat) (four : Bool) : List Nat :=
  (cycleMasks s ph masks).map (slotBits four)

/-- The masks of COMMON_MAP (09 Table 09-9). -/
def commonMasks (s : State) (ph : Nat) : List Nat := (List.range 8).map (fun j => bitsAt (rdPh s P21.COMMON_MAP ph) (8 * j) 8)

/-- The map of MAP_SEQ 0: COMMON_MAP with the phase's KEYING (09 R301). -/
def commonMap (s : State) (ph : Nat) : ToneMap :=
  { seq := 0, four := rdPh s P21.KEYING ph == 1, masks := commonMasks s ph }

/-- A link's map as it is used: MAP_SEQ 0 names COMMON_MAP. -/
def inForce (s : State) (ph : Nat) (m : ToneMap) : ToneMap := if m.seq = 0 then commonMap s ph else m

/-- The slot reached from a slot once `need` bits have been carried; blank cycles are bounded by the fuel. -/
def fillSlots (bits : List Nat) : Nat → Nat → Nat → Nat
  | 0, k, _ => k
  | fuel + 1, k, need => if need = 0 then k else fillSlots bits fuel (k + 1) (need - bits.getD (k % bits.length) 0)

/-- The coded bits of a payload of `len` bytes: 64-byte codewords over 48-byte blocks (09 R302). -/
def codedBits (len : Nat) : Nat := codewords len * 512

/-- The slots of a frame: 160 bits under COMMON_MAP in two-tone keying, then the payload under its map (09 R301). -/
def frameSlots (s : State) (ph len : Nat) (m : ToneMap) : Nat :=
  let a := fillSlots (cycleBits s ph (commonMasks s ph) false) 3840 0 160
  fillSlots (cycleBits s ph m.masks m.four) 73728 a (codedBits len)

/-- The cycles a frame takes. -/
def frameCycles (s : State) (ph len : Nat) (m : ToneMap) : Nat :=
  max 1 (ceilDiv (frameSlots s ph len m) (slotSegs s ph).length)

/-- The period of a phase in ns. -/
def periodNs (s : State) (ph : Nat) : Int := (phaseAt s ph).period / 65536

/-- The time a frame's slots take, in ns. -/
def slotsNs (s : State) (ph n : Nat) : Int := periodNs s ph * n / (slotSegs s ph).length

/-! The injection ceiling (09 R319). -/

/-- e_plan is within INJ_CEIL: with a = AFE_VFS, a² × 10^(−INJ_LEVEL/10) ≤ 2 × INJ_CEIL × ZLINE_MIN × MAINS_HZ, both sides
raised to the tenth power (09 R319). -/
def injOk (afe level ceil_ z hz : Nat) : Bool := decide ((afe * afe) ^ 10 ≤ (2 * ceil_ * z * hz) ^ 10 * 10 ^ level)

/-- The checks a phase must pass to be enabled (09 R326). -/
def plcEnableOk (s : State) (ph : Nat) : Bool :=
  rdPh s P21.AFE_VFS ph != 0 && rdPh s P21.INJ_CEIL ph != 0
    && injOk (rdPh s P21.AFE_VFS ph) (rdPh s P21.INJ_LEVEL ph) (rdPh s P21.INJ_CEIL ph) (rdPh s P21.ZLINE_MIN ph)
        (mainsHz s ph)
    && inlineOk s (rdPh s P21.PLC_KEY_SLOT ph) 6

/-! Links and routes (09 R307, R313, R317, R318). -/

/-- The link of a neighbour; a new link uses MAP_SEQ 0 (09 R313). -/
def linkAt (s : State) (ph addr : Nat) : PlcLink :=
  ((phaseAt s ph).links.find? (fun l => l.addr == addr)).getD { addr := addr }

/-- A link changed, or added. -/
def modLink (ph addr : Nat) (f : PlcLink → PlcLink) (s : State) : State :=
  let l := f (linkAt s ph addr)
  let put := fun (ls : List PlcLink) =>
    if ls.any (fun x => x.addr == addr) then ls.map (fun x => if x.addr = addr then l else x) else ls ++ [l]
  modPhase ph (fun p => { p with links := put p.links }) s

/-- The route of a title. -/
def routeAt (s : State) (ph title : Nat) : Option PlcRoute := (phaseAt s ph).routes.find? (fun r => r.title == title)

/-- A route changed. -/
def modRoute (ph title : Nat) (f : PlcRoute → PlcRoute) (s : State) : State :=
  modPhase ph (fun p => { p with routes := mapIf (fun r => r.title == title) f p.routes }) s

/-- The cost of a link: that of its dearer direction; 0xFFFF is a broken link (09 R314). -/
def linkCost (l : PlcLink) : Nat := max l.costTx l.costRx

/-- A path may be used: it is not broken, and neither is the link to its first hop (09 R314, R318). -/
def pathGood (s : State) (ph : Nat) (r : PlcRoute) (p : PlcPath) : Bool :=
  !p.broken && linkCost (linkAt s ph (p.hops.head?.getD r.short)) != 0xFFFF

/-- The path a frame takes: the primary one, or the alternate one while the primary is broken (09 R318). -/
def pathOf (s : State) (ph : Nat) (r : PlcRoute) : Option PlcPath :=
  (r.primary.toList ++ r.alternate.toList).find? (pathGood s ph r)

/-- The path in use marked broken; PLC_ROUTE_BROKEN once no path is left (09 R318). -/
def breakRoute (ph title : Nat) (s : State) : State :=
  match routeAt s ph title with
  | none => s
  | some r =>
    let s1 := bumpPh P21.ROUTE_ERRS ph s
    let prim := match r.primary with
      | some p => !p.broken
      | none => false
    let s2 := modRoute ph title (fun x =>
      if prim then { x with primary := x.primary.map (fun p => { p with broken := true }) }
      else { x with alternate := x.alternate.map (fun p => { p with broken := true }) }) s1
    if ((routeAt s2 ph title).bind (pathOf s2 ph)).isNone then logEv evPlcRouteBroken (leB 1 (ph + 1)) s2 else s2

/-- Application acknowledgements that cannot be delivered are dropped; items stay queued (09 R310, R318). -/
def isAck (c : Cargo) : Bool :=
  match c with
  | .acks _ _ _ => true
  | _ => false

/-- A frame put in front of its queue place again. -/
def requeueFront (ph : Nat) (x : PlcTx) (s : State) : State := modPhase ph (fun p => { p with txq := x :: p.txq }) s

/-- A frame whose route failed: an acknowledgement is dropped, anything else waits for a path and is built afresh (09
R310, R318). -/
def rerouted (ph : Nat) (x : PlcTx) (s : State) : State :=
  match x.title with
  | some t =>
    let s1 := breakRoute ph t s
    let left := ((routeAt s1 ph t).bind (pathOf s1 ph)).isSome
    if isAck x.cargo ∧ left = false then s1
    else requeueFront ph { x with bytes := [], lseq := none, tries := 0 } s1
  | none => s

/-! Counters and the MIC (09 R305). -/

/-- The phase may send frames with a MIC: it has a key and is not out of frame counters (09 R305; 08 R264). -/
def plcFcLeft (s : State) (ph : Nat) : Bool :=
  decide (rdPh s P21.OUT_FC ph < 0xFFFFFFF0) && slotLoaded s (rdPh s P21.PLC_KEY_SLOT ph)

/-- A frame counter spent, stored and exhausted as R264 states (09 R305). -/
def plcSpendFc (ph : Nat) (s : State) : State :=
  let n := rdPh s P21.OUT_FC ph + 1
  let c := phaseAt s ph
  let s1 := modPhase ph (fun x => { x with fcStored := if c.fcStored + 65536 ≤ n then n else c.fcStored,
                                           fcLogged := c.fcLogged || decide (0xFFFFFFF0 ≤ n) })
    (wrPh P21.OUT_FC ph n s)
  if 0xFFFFFFF0 ≤ n ∧ c.fcLogged = false then logEv evPlcFcExhausted (leB 1 (ph + 1)) s1 else s1

/-- Every start advances OUT_FC by 65,536 over the stored value and stores it (09 R305; 08 R264). -/
def plcStartFc (ph : Nat) (s : State) : State :=
  let n := min ((phaseAt s ph).fcStored + 65536) 0xFFFFFFFF
  let c := phaseAt s ph
  let s1 := modPhase ph (fun x => { x with fcStored := n, fcLogged := c.fcLogged || decide (0xFFFFFFF0 ≤ n) })
    (wrPh P21.OUT_FC ph n s)
  if 0xFFFFFFF0 ≤ n ∧ c.fcLogged = false then logEv evPlcFcExhausted (leB 1 (ph + 1)) s1 else s1

/-- The key bytes of the phase's slot. -/
def plcKey (s : State) (ph : Nat) : List Byte :=
  ((assocGet (rdPh s P21.PLC_KEY_SLOT ph) s.keys.slots).map KeySlot.key).getD []

/-- The MIC of a mesh header and inner payload: the first 4 bytes of their AES-CMAC (09 R305). -/
def plcMic (key body : List Byte) : List Byte := (beB 16 (cmac key body)).take 4

/-! Building frames (09 Tables 09-3, 09-4). -/

/-- The 8 header bytes (09 Table 09-3). -/
def plcHeader (keying : Bool) (ackReq : Bool) (type map dest len lseq : Nat) : List Byte :=
  leB 1 (0x40 + 32 * b2n keying + 16 * b2n ackReq + type) ++ leB 1 (map * 16) ++ leB 2 dest ++ leB 2 0 ++ leB 1 len
    ++ leB 1 lseq

/-- The mesh header of a frame the device originates: the first forwarder is its link receiver, so the next entry to use
is the second (09 Table 09-4). -/
def meshHeader (routing final fc : Nat) (path : List Nat) : List Byte :=
  leB 1 (routing * 64) ++ leB 1 (path.length * 16 + min 1 path.length) ++ leB 2 0 ++ leB 2 final ++ leB 4 fc ++ (path.map (leB 2)).flatten

/-- The inner payload of a queued frame: an acknowledgement's bytes, or what it was queued with. -/
def innerOf (x : PlcTx) : List Byte :=
  match x.cargo with
  | .acks _ _ l => ackBytes l
  | _ => x.inner

/-- The link receiver, final destination and forwarders of a frame; none while a routed frame has no path (09 R318). -/
def addressed (s : State) (ph : Nat) (x : PlcTx) : Option (Nat × Nat × List Nat) :=
  match x.title with
  | none => some (x.dest, x.final, [])
  | some t =>
    match routeAt s ph t with
    | none => none
    | some r => (pathOf s ph r).map (fun p => (p.hops.head?.getD r.short, r.short, p.hops))

/-- A queued frame may be started: its time has come, and a routed one has a path. -/
def startable (s : State) (ph : Nat) (x : PlcTx) : Bool :=
  decide (x.notBefore ≤ (phaseAt s ph).lastX) && (!x.bytes.isEmpty || (addressed s ph x).isSome)
    && (x.type == 1 || !x.bytes.isEmpty || plcFcLeft s ph)

/-- The frame that goes next: the lowest place, then queue order (09 R306). -/
def nextPlc (s : State) (ph : Nat) : Option PlcTx :=
  let l := (phaseAt s ph).txq.filter (startable s ph)
  match (l.map PlcTx.place).min? with
  | some k => l.find? (fun x => x.place == k)
  | none => none

/-- A frame built for its first start: link sequence, mesh header, MIC and header (09 R301, R305). A frame sent again is
unchanged. -/
def buildPlc (ph : Nat) (x : PlcTx) (s : State) : State × PlcTx :=
  if x.bytes.isEmpty = false then (s, x)
  else if x.type = 1 then
    (s, { x with bytes := plcHeader false false 1 x.map x.dest 0 (x.lseq.getD 0) })
  else
    let (dest, final, path) := (addressed s ph x).getD (x.dest, x.final, [])
    let fc := rdPh s P21.OUT_FC ph
    let lk := linkAt s ph dest
    let m := if dest = 0xFFFF then commonMap s ph else inForce s ph lk.tx
    let body := meshHeader x.routing final fc path ++ innerOf x
    let pay := body ++ (plcMic (plcKey s ph) body)
    let h := plcHeader m.four x.ackReq x.type m.seq dest pay.length lk.nextSeq
    let s1 := if dest = 0xFFFF then s else modLink ph dest (fun l => { l with nextSeq := (l.nextSeq + 1) % 256 }) s
    (plcSpendFc ph s1,
      { x with dest := dest, final := final, path := path, bytes := h ++ pay, lseq := some lk.nextSeq, fc := fc,
               map := m.seq, tone := m })

/-- The map a built frame's payload travels under, on a retry as well (09 R301, R307). -/
def mapOfTx (s : State) (ph : Nat) (x : PlcTx) : ToneMap := if x.map = 0 then commonMap s ph else x.tone

/-- The tones of a frame's slots: the robust section under COMMON_MAP in two-tone keying, then the payload under its map (09
R297, R301, R302). -/
def frameTones (s : State) (ph : Nat) (header pay : List Byte) (m : ToneMap) : List (Option Nat) :=
  let a := sendSlots (cycleMasks s ph (commonMasks s ph)) false 3840 0 (robustBits header)
  a ++ sendSlots (cycleMasks s ph m.masks) m.four 73728 a.length (bitsOf (codePayload pay))

/-- METERS_JOINED counted. -/
def joinCount (ph : Nat) (s : State) : State := wrPh P21.METERS_JOINED ph (phaseAt s ph).joined.length s

end Sys2Proof.Machine
end

