-- ==== Sys2Proof/Machine/Keys.lean ====
section
/-! DEFINITION. The key store (12 R415 to R428): slots, key commands, zeroisation, tamper and debug. -/
namespace Sys2Proof.Machine

/-! Slots. -/

/-- A slot written; a slot with PERSIST also in the store. -/
def putSlot (n : Nat) (k : KeySlot) (s : State) : State :=
  let st := if k.persist then assocSet n k s.keys.store else s.keys.store
  keyFields { s with keys := { s.keys with slots := assocSet n k s.keys.slots, store := st,
                                           storeWritten := s.keys.storeWritten || k.persist } }

/-- A slot freed, its record with it; under debug the store is not written (12 R425). -/
def freeSlot (n : Nat) (s : State) : State :=
  let st := if rdB s P40.DEBUG_ACTIVE then s.keys.store else assocDel n s.keys.store
  keyFields { s with keys := { s.keys with slots := assocDel n s.keys.slots, store := st } }

/-- The 8 bytes of an attribute header (12 Table 12-4). -/
def headBytes (k : KeySlot) : List Byte :=
  leB 1 k.attr ++ leB 1 k.type ++ leB 2 k.modes ++ leB 1 (b2n k.persist) ++ zeros 3

/-- A key's length in bytes by its type. -/
def keyLen (type : Nat) : Nat := if type = 1 then 16 else 32

/-- The rules for an attribute header; `modes` is the byte of MODES that is not reserved (12 R416; 00 R6). -/
def headOk (attr type modes : Nat) : Bool :=
  if attr = 1 ∨ attr = 2 then (type == 1 || type == 2) && modes == 0
  else if attr = 3 then type == 1 || (type == 2 && !bitAt modes 7)
  else attr == 4 && type == 3 && modes == 0

/-- A target slot may not be filled: slot 0, a slot with a key, or one of another attribute (12 R422, check 4). -/
def targetBad (s : State) (n attr : Nat) : Bool :=
  let k := keySlotAt s n
  n == 0 || k.loaded || (k.attr != 0 && k.attr != attr)

/-- A key command sets PERSIST while debug is enabled (12 R425). -/
def persistDenied (s : State) (persist : Bool) : Bool := persist && rdB s P40.DEBUG_ACTIVE

/-- The origin as a code (12 R423). -/
def originCode : Origin → Nat
  | .none => 0
  | .plain => 1
  | .wrapped => 2
  | .generated => 3
  | .agreed => 4
  | .fused => 5

/-- The public key of a private key, X then Y (12 R423). -/
def pubKey (key : List Byte) : List Byte := (List.range 64).map (Config.publicKey key)

/-- The check value of a slot: of AES of the zero block, or of SHA-256 of the public key (12 R423). -/
def checkBytes (k : KeySlot) : List Byte :=
  if k.loaded = false then zeros 4
  else if k.type = 3 then (sha256 (pubKey k.key)).take 4
  else (beB 16 (aesEnc k.key 0)).take 4

/-- The 32-byte KEY_INFO record of a slot (12 R423). -/
def keyInfo (s : State) (n : Nat) : List Byte :=
  let k := anySlot s n
  leB 2 n ++ leB 1 (if k.loaded then 2 else if k.attr = 0 then 0 else 1) ++ leB 1 (originCode k.origin) ++ headBytes k
    ++ leB 2 k.gen ++ checkBytes k ++ leB 5 k.filledAt ++ leB 4 k.jobs ++ zeros 5

/-- An inline key placed in the MAC slot of a channel or phase starts its frame counter at 0 (08 R264; 09 R305). -/
def freshCounters (slot : Nat) (s : State) : State :=
  let s1 := ((List.range 16).filter (fun ch => rdI s P20.MAC_KEY_SLOT ch == slot)).foldl (fun t ch =>
    modChan ch (fun x => { x with fcStored := 0, fcLogged := false }) (wrI P20.OUT_FC ch 0 t)) s
  ((List.range 3).filter (fun ph => rdPh s P21.PLC_KEY_SLOT ph == slot)).foldl (fun t ph =>
    modPhase ph (fun x => { x with fcStored := 0, fcLogged := false }) (wrPh P21.OUT_FC ph 0 t)) s1

/-- A slot filled: SLOT_GEN rises; the record it replaces is kept until the command is accepted (12 R419). -/
def fillSlot (h : Hdr) (n attr type modes : Nat) (persist : Bool) (key : List Byte) (o : Origin) (s : State) : State :=
  let old := keySlotAt s n
  let k : KeySlot := { attr := attr, type := type, modes := modes, persist := persist, loaded := true, key := key,
                       origin := o, gen := (old.gen + 1) % 65536, filledAt := legalSec s }
  let s1 := { s with keys := { s.keys with replaced := s.keys.replaced ++ [(n, h, assocGet n s.keys.store)] } }
  let s2 := freshCounters n (putSlot n k s1)
  if persist then wr P40.STORE_LOST 0 s2 else s2

/-- The reply of a fill: SLOT and SLOT_GEN (12 R422). -/
def fillReply (s : State) (n : Nat) : List Byte := leB 2 n ++ leB 2 (keySlotAt s n).gen

/-- A fill answered: the entry's effect is the KEY_INFO record, without key material (12 R421). -/
def fillAnswer (c : Instr) (n : Nat) (s : State) : Ans :=
  .accept (fillReply s n) (keyInfo s n) { cmd := some c, args := [n] } s

/-- The effect of a fill: the replaced record is kept no longer (12 R419). -/
def effFill (e : Eff) (s : State) : State :=
  let n := e.args.getD 0 0
  { s with keys := { s.keys with replaced := s.keys.replaced.filter (fun x => x.1 != n) } }

/-! KEY_IMPORT (12 R422). -/

/-- A private key given is in range (12 R422, check 8). -/
def privateOk (type : Nat) (key : List Byte) : Bool :=
  type != 3 || (decide (1 ≤ ofBE key) && decide (ofBE key < p256Order))

/-- The DATA length that a form and a type allow (12 R422, check 1). -/
def dataLenOk (form type n : Nat) : Bool :=
  if form = 3 then n == 40
  else
    let extra := if form = 2 then 16 else 0
    if type = 1 ∨ type = 2 ∨ type = 3 then n == keyLen type + extra else n == 16 + extra || n == 32 + extra

/-- A key of form 0x01 or 0x02 placed, or refused by its range. -/
def importKey (h : Hdr) (p : List Byte) (c : Instr) (key : List Byte) (o : Origin) (s : State) : Ans :=
  let n := leAt p 2 2 % 512
  if privateOk (byteAt p 9) key = false then .fail stBadPayload 24
  else fillAnswer c n (fillSlot h n (byteAt p 8) (byteAt p 9) (byteAt p 10) (bitAt (byteAt p 12) 0) key o s)

/-- KEY_IMPORT of forms 0x01 and 0x02 after its first two checks: form 0x02 is unwrapped under the KEK (12 R422). -/
def importSlot (h : Hdr) (p : List Byte) (s : State) : Ans :=
  let c := Instr.keyImport h (p.take 24) (p.drop 24)
  let kek := keySlotAt s (leAt p 16 2 % 512)
  if headOk (byteAt p 8) (byteAt p 9) (byteAt p 10) = false then .fail stBadPayload 8
  else if targetBad s (leAt p 2 2 % 512) (byteAt p 8) || persistDenied s (bitAt (byteAt p 12) 0) then .fail stDeniedState 0
  else if byteAt p 0 = 1 then importKey h p c (p.drop 24) .plain s
  else if kek.attr ≠ 2 ∨ kek.loaded = false then .fail stBadPayload 16
  else match keyUnwrap kek.key (p.drop 24) with
    | none => .fail stAuthFailed 0
    | some d => if d.take 8 ≠ sliceB p 8 8 then .fail stAuthFailed 0 else importKey h p c (d.drop 8) .wrapped s

/-- KEY_IMPORT of form 0x03: a wrapped meter key, unwrapped under the meter's own WRAP slot to check it (12 R422). -/
def importMeter (h : Hdr) (p : List Byte) (s : State) : Ans :=
  let mix := leAt p 4 4 % 2 ^ 20
  match meterAt s mix with
  | none => .fail stUnknownObject 0
  | some m =>
    let k := keySlotAt s (m.key % 512)
    if derivedMode m then .fail stDeniedState 0
    else if k.attr ≠ 2 ∨ k.loaded = false ∨ (keyUnwrap k.key (p.drop 24)).isNone then .fail stAuthFailed 0
    else .accept (leB 4 mix) p { cmd := some (.keyImport h (p.take 24) (p.drop 24)) } s

/-- KEY_IMPORT's checks, in order (12 R422). -/
def keyImportBody (h : Hdr) (p : List Byte) (s : State) : Ans :=
  let form := byteAt p 0
  if form = 0 ∨ 3 < form then .fail stBadPayload 0
  else if dataLenOk form (byteAt p 9) (p.length - 24) = false then .fail stBadPayload 24
  else if form = 1 ∧ rdB s P40.PLAIN_IMPORT = false then .fail stDeniedState 0
  else if form = 3 then importMeter h p s
  else importSlot h p s

/-- KEY_IMPORT: the 24-byte header and the data that follows it (12 R422, Table 12-5). -/
def execKeyImport (h : Hdr) (p data : List Byte) (s : State) : Host.Outcome State Fault Refusal :=
  .next (runCmd h (p ++ data) true (keyImportBody h (p ++ data)) s)

/-- The effect of KEY_IMPORT: a wrapped meter key enters the meter's record (12 R422). -/
def effKeyImport (e : Eff) (s : State) : State :=
  if byteAt e.data 0 = 3 then
    let mix := leAt e.data 4 4 % 2 ^ 20
    let ms := mapIf (fun (m : Meter) => m.mix == mix && m.rstate == 1) (fun m => { m with wrapped := e.data.drop 24 }) s.infeed.meters
    { s with infeed := { s.infeed with meters := ms } }
  else effFill e s

/-! KEY_GENERATE, KEY_AGREE (12 R414, R423). -/

/-- Random bytes as a key of a type; a private key lies in 1 to n − 1 (12 R413). -/
def randomKey (s : State) (type : Nat) : List Byte :=
  let r := (List.range (keyLen type)).map (Config.random s.free)
  if type = 3 then beB 32 (ofBE r % (p256Order - 1) + 1) else r

/-- KEY_GENERATE's checks (12 R423). -/
def keyGenerateBody (h : Hdr) (p : List Byte) (s : State) : Ans :=
  let n := leAt p 0 2 % 512
  let persist := bitAt (leAt p 0 2) 15
  if s.keys.entropyBad then .fail stFuncFailed 0x0040
  else if headOk (byteAt p 4) (byteAt p 5) (byteAt p 6) = false then .fail stBadPayload 4
  else if targetBad s n (byteAt p 4) || persistDenied s persist then .fail stDeniedState 0
  else fillAnswer (.keyGenerate h p) n
    (drawn (fillSlot h n (byteAt p 4) (byteAt p 5) (byteAt p 6) persist (randomKey s (byteAt p 5)) .generated
      (if byteAt p 5 = 3 then postP256 17 s else s)))

/-- KEY_GENERATE (12 R423). -/
def execKeyGenerate (h : Hdr) (p : List Byte) (s : State) : Host.Outcome State Fault Refusal :=
  .next (runCmd h p true (keyGenerateBody h p) s)

/-- The key that KEY_AGREE places: the first bytes of SHA-256 over the counter, the shared x-coordinate, the label "SC84-KA",
payload bytes 4 to 7 and the X coordinate of the own public key (12 R423). -/
def agreedKey (own p : List Byte) (type : Nat) : List Byte :=
  let z := (List.range 32).map (Config.ecdh own (sliceB p 8 64))
  (sha256 ([0, 0, 0, 1] ++ z ++ [0x53, 0x43, 0x38, 0x34, 0x2D, 0x4B, 0x41] ++ sliceB p 4 4 ++ (pubKey own).take 32)).take
    (keyLen type)

/-- KEY_AGREE's checks (12 R423). -/
def keyAgreeBody (h : Hdr) (p : List Byte) (onCurve : Bool) (s : State) : Ans :=
  let own := anySlot s (leAt p 0 2 % 512)
  let n := leAt p 2 2 % 512
  let persist := bitAt (leAt p 2 2) 15
  let type := byteAt p 5
  if s.keys.entropyBad then .fail stFuncFailed 0x0040
  else if own.attr = 0 then .fail stUnknownObject 0
  else if own.attr ≠ 4 then .fail stDeniedState 0
  else if own.loaded = false then .fail stUnknownObject 0
  else if byteAt p 4 = 4 ∨ headOk (byteAt p 4) type (byteAt p 6) = false then .fail stBadPayload 4
  else if onCurve = false then .fail stBadPayload 8
  else if targetBad s n (byteAt p 4) || persistDenied s persist then .fail stDeniedState 0
  else fillAnswer (.keyAgree h p onCurve) n
    (fillSlot h n (byteAt p 4) type (byteAt p 6) persist (agreedKey own.key p type) .agreed
      (postP256 17 s))

/-- KEY_AGREE (12 R423). -/
def execKeyAgree (h : Hdr) (p : List Byte) (onCurve : Bool) (s : State) : Host.Outcome State Fault Refusal :=
  .next (runCmd h p true (keyAgreeBody h p onCurve) s)

/-! KEY_ZEROISE, KEY_INFO, PUBKEY_EXPORT (12 R423). -/

/-- KEY_ZEROISE: every such command on slots 1 to 511 is answered ACCEPTED (12 R417, R423). -/
def execKeyZeroise (h : Hdr) (p : List Byte) (s : State) : Host.Outcome State Fault Refusal :=
  .next (runCmd h p true (fun t =>
    if leAt p 0 2 % 512 = 0 then .fail stDeniedState 0 else .accept [] p { cmd := some (.keyZeroise h p) } t) s)

/-- A slot's key erased, its attribute kept (12 R415, R419). -/
def zeroiseSlot (n : Nat) (s : State) : State :=
  let k := keySlotAt s n
  if k.loaded then putSlot n { k with loaded := false, key := [], origin := .none } s else s

/-- The effect of KEY_ZEROISE (12 R423, R424). -/
def effKeyZeroise (e : Eff) (s : State) : State :=
  let n := leAt e.data 0 2 % 512
  bump P40.ZEROISATIONS (if bitAt (byteAt e.data 2) 0 then freeSlot n s else zeroiseSlot n s)

/-- KEY_INFO (12 R423). -/
def execKeyInfo (h : Hdr) (p : List Byte) (s : State) : Host.Outcome State Fault Refusal :=
  .next (runCmd h p false (fun t => .done (keyInfo t (leAt p 0 2 % 512)) t) s)

/-- PUBKEY_EXPORT (12 R423). -/
def execPubkeyExport (h : Hdr) (p : List Byte) (s : State) : Host.Outcome State Fault Refusal :=
  .next (runCmd h p false (fun t =>
    let k := anySlot t (leAt p 0 2 % 512)
    if k.attr ≠ 0 ∧ k.attr ≠ 4 then .fail stDeniedState 0
    else if k.loaded = false then .fail stUnknownObject 0
    else .done (pubKey k.key) t) s)

/-! Start-up, resets, tamper, debug (12 R414, R419, R420, R424 to R426). -/

/-- ENTROPY_FAIL (12 R414). -/
def execEntropyFail (s : State) : Host.Outcome State Fault Refusal :=
  .next (logEv evEntropyFail [] (wr P40.ENTROPY_OK 0 { s with keys := { s.keys with entropyBad := true } }))

/-- The slots that the store gives. -/
def storeSlots (s : State) : List (Nat × KeySlot) := s.keys.store.map (fun x => (x.1, { x.2 with jobs := 0 }))

/-- FUNC_RESET of 0x40 clears class V slots and reloads the persisted ones; under debug the store is not read (12 R425,
R426). -/
def reloadSlots (s : State) : State :=
  keyFields { s with keys := { s.keys with slots := if rdB s P40.DEBUG_ACTIVE then [] else storeSlots s } }

/-- Lanes, contexts and queued jobs cleared by a device reset (12 R426). -/
def clearLanes (s : State) : State :=
  { s with keys := { s.keys with lanes := List.replicate 8 {}, queue := [], p256 := [] } }

/-- Records that fail their unwrap check leave their slots empty and are logged (12 R420; under debug no record is read,
R425). -/
def dropBadKeys (bad : List Nat) (s : State) : State :=
  let l := if rdB s P40.DEBUG_ACTIVE then [] else (s.keys.store.map Prod.fst).filter bad.contains
  l.foldl (fun t n => logEv evKeyRecordBad (leB 2 n) { t with keys := { t.keys with store := assocDel n t.keys.store } }) s

/-- The key store read at start-up: never written, unreadable, or read; a latched tamper erased it first; STORE_LOST of an
earlier start lasts through device resets (12 R420, R424). -/
def keyStoreRead (readable : Bool) (bad : List Nat) (s : State) : State :=
  let lost := s.keys.tamperWait || (s.keys.storeWritten && !readable)
  let s1 := if lost then
      { s with keys := { s.keys with store := [], storeWritten := s.keys.storeWritten && !s.keys.tamperWait,
                                     replaced := [], tamperWait := false } }
    else s
  reloadSlots (dropBadKeys bad (wrB P40.STORE_LOST (lost || rdB s P40.STORE_LOST) s1))

/-- After replay a record whose command was not accepted gives way to the one it replaced (12 R419). -/
def undoFills (accepted : Hdr → Bool) (s : State) : State :=
  let back := fun (t : State) (x : Nat × Hdr × Option KeySlot) =>
    if accepted x.2.1 then t
    else match x.2.2 with
      | some k => { t with keys := { t.keys with store := assocSet x.1 k t.keys.store } }
      | none => { t with keys := { t.keys with store := assocDel x.1 t.keys.store } }
  let s1 := s.keys.replaced.foldl back s
  reloadSlots { s1 with keys := { s1.keys with replaced := [] } }

/-- Every slot but 0 freed, running and suspended jobs ended ABORTED, their output zeroed (12 R409, R424, R427). -/
def wipeKeys (s : State) : State :=
  let jobs := (s.keys.lanes.flatMap (fun l => l.job.toList ++ l.suspended)).map RunJob.job
  let s1 := keyFields { s with keys := { s.keys with slots := [], lanes := List.replicate 8 {} } }
  jobs.foldl (fun t j => abortJob j t) s1

/-- TAMPER_LATCH: TAMPER_N low on battery alone (12 R424). -/
def execTamperLatch (s : State) : Host.Outcome State Fault Refusal :=
  .next (if s.pwr.mode = .dormant then wr P40.TAMPER_SEEN 1 { s with keys := { s.keys with tamperWait := true } } else s)

end Sys2Proof.Machine
end

