-- ==== Sys2Proof/Machine/Recorder.lean ====
section
/-! DEFINITION. Commands and events of the event recorder and the counters (16 R505, R508 to R518). -/
namespace Sys2Proof.Machine

/-! Reading events (16 R510). -/

/-- Sequence `a` lies above `b`, modulo 2^32 within 2^31 (16 R509). -/
def seqAbove (a b : Nat) : Bool := a != b && decide (seqDist b a < 2 ^ 31)

/-- Every record held, in SEQ order. -/
def heldEvents (s : State) : List EvRec := s.ev.ring ++ s.ev.pend

/-- The records a read examines and returns: `n` of a least severity. -/
def pickEvents (sev : Nat) : Nat → List EvRec → List EvRec × Option Nat
  | _, [] => ([], none)
  | 0, _ => ([], none)
  | n + 1, e :: l =>
    if sev ≤ e.flags % 4 then
      let r := pickEvents sev n l
      (e :: r.1, some (r.2.getD e.seq))
    else
      let r := pickEvents sev (n + 1) l
      (r.1, some (r.2.getD e.seq))

/-- EVENT_READ: its checks; what it reads is captured at the next beat boundary (16 R510). -/
def eventReadBody (h : Hdr) (p : List Byte) (s : State) : Ans :=
  if byteAt p 4 = 0 then .fail stOutOfRange 32
  else if 3 < byteAt p 5 then .fail stOutOfRange 40
  else if seqAbove (leAt p 0 4) (rd s P51.NEXT_SEQ) then .fail stOutOfRange 0
  else .doneAtBeat { cmd := some (.eventRead h p) } s

/-- The reply data of EVENT_READ: header and records, as cache and ring stand (16 R510). -/
def eventReadData (p : List Byte) (s : State) : List Byte :=
  let from_ := leAt p 0 4
  let next := rd s P51.NEXT_SEQ
  let oldest := rd s P51.OLDEST_SEQ
  let excess := seqAbove oldest from_
  let st := if excess then oldest else from_
  let r := pickEvents (byteAt p 5) (byteAt p 4) ((heldEvents s).filter (fun e => e.seq == st || seqAbove e.seq st))
  let resume := match r.2 with
    | some q => (q + 1) % 2 ^ 32
    | none => st
  leB 2 r.1.length ++ leB 1 (b2n excess) ++ zeros 1 ++ leB 4 resume ++ leB 4 oldest ++ leB 4 next
    ++ (r.1.map evBytes).flatten

/-- EVENT_READ (16 R510). -/
def execEventRead (h : Hdr) (p : List Byte) (s : State) : Host.Outcome State Fault Refusal :=
  .next (runCmd h p false (eventReadBody h p) s)

/-- EVENT_FLUSH: a write of every pending record is posted at 128 pending, or EVENT_FLUSH_MS after the oldest (16 R508). -/
def execEventFlush (s : State) : Host.Outcome State Fault Refusal :=
  .next (
    if s.ev.flushPosted = true ∨ s.ev.pend = [] then s
    else if 128 ≤ s.ev.pend.length ∨ passed s s.ev.pendAt (msBeats (rd s P51.EVENT_FLUSH_MS)) = true then
      postItem { level := 56, flow := none, thread := false, charge := 8, work := .eventFlush } { s with ev := { s.ev with flushPosted := true } }
    else s)

/-- OP_HOURS_TICK: 3,600 s with main power have passed (16 R505). -/
def execOpHoursTick (s : State) : Host.Outcome State Fault Refusal :=
  .next (if s.ev.hourPart < secBeats 3600 then s
    else bump P51.OP_HOURS { s with ev := { s.ev with hourPart := s.ev.hourPart - secBeats 3600 } })

/-! Counters (16 R513 to R517). -/

/-- The number of the newest accepted ledger group, 0 for none. -/
def lastAccepted (s : State) : Nat := (((s.ledger.groups.filter Group.accepted).getLast?).map Group.no).getD 0

/-- PC_0 to PC_7 and the WRAP bits. -/
def pcsNow (s : State) : List Nat × Nat := ((List.range 8).map (fun n => rd s (pcFld n)), rd s P52.WRAP)

/-- The snapshot layout, with the counters given (16 Table 16-4). -/
def snapWith (s : State) (pcs : List Nat × Nat) (seq : Nat) : List Byte :=
  let b := leB 8 seq ++ leB 8 s.beat.number ++ leB 8 (rd s P52.CYCLES)
    ++ (pcs.1.map (leB 6)).flatten ++ leB 1 pcs.2
    ++ leB 1 (ofS 8 (s.den.tHot.getD 0)) ++ leB 2 s.den.eDisc ++ leB 2 (rd s P04.LIMIT_L) ++ leB 2 (rd s P04.LIMIT_M)
    ++ leB 4 (rd s P51.NEXT_SEQ) ++ leB 4 (rd s P51.EVENTS_LOST) ++ leB 8 (lastAccepted s) ++ leB 4 s.ctr.perDeferred
    ++ leB 4 s.ctr.perHold ++ leB 4 s.ctr.perAccepted
    ++ leB 4 (ofS 32 (clampI (-(2 ^ 31 - 1)) (2 ^ 31 - 1) s.plumb.theta)) ++ zeros 12
  b ++ leB 4 (crc32c b)

/-- The layout with SNAP_SEQ 0, as the counters stand: the reply data of COUNTER_READ (16 R516). -/
def counterReadData (s : State) : List Byte := snapWith s (pcsNow s) 0

/-- COUNTER_READ: captured at the next beat boundary (16 R516). -/
def execCounterRead (h : Hdr) (p : List Byte) (s : State) : Host.Outcome State Fault Refusal :=
  .next (runCmd h p false (fun t => .doneAtBeat { cmd := some (.counterRead h p) } t) s)

/-- A counter cleared with its WRAP bit and its partial window (16 R515, R516). -/
def clearPc (n : Nat) (s : State) : State :=
  wr P52.WRAP (Nat.land (rd s P52.WRAP) (255 - 2 ^ n))
    (wr (pcFld n) 0 { s with ctr := { s.ctr with win := s.ctr.win.set n 0 } })

/-- A configuration put on a counter: a change of EVENT, QUAL or MODE clears it (16 R515). -/
def setPc (n cfg : Nat) (clear : Bool) (s : State) : State :=
  let changed := cfg % 2 ^ 18 != rd s (cfgFld n) % 2 ^ 18
  let s1 := wr (cfgFld n) cfg s
  if changed || clear then clearPc n s1 else s1

/-- The entry of a counter in a COUNTER_CONFIG payload: EVENT, QUAL, control byte. -/
def cfgEntry (p : List Byte) (n : Nat) : Nat × Nat × Nat := (byteAt p (8 * n), byteAt p (8 * n + 1), byteAt p (8 * n + 2))

/-- The bit position of the first offending field of a COUNTER_CONFIG payload (16 R516). -/
def configBad (p : List Byte) : Option Nat :=
  (List.range 8).findSome? (fun n =>
    let e := cfgEntry p n
    (cfgBad e.1 e.2.1 (e.2.2 % 4)).map (fun o => 64 * n + o))

/-- COUNTER_CONFIG: validated whole, applied at one beat boundary (16 R516). -/
def execCounterConfig (h : Hdr) (p : List Byte) (s : State) : Host.Outcome State Fault Refusal :=
  .next (runCmd h p false (fun t => match configBad p with
    | some b => .fail stOutOfRange b
    | none => .doneAtBeat { cmd := some (.counterConfig h p) } t) s)

/-- The counters as they stood at this boundary before its first change are kept for the snapshot of the boundary (16
R520). -/
def keepPcs (s : State) : State :=
  if s.ctr.before.any (fun b => b.1 == s.beat.number) then s
  else { s with ctr := { s.ctr with before := some (s.beat.number, pcsNow s) } }

/-- The effect of COUNTER_CONFIG. -/
def effCounterConfig (e : Eff) (s : State) : State :=
  (List.range 8).foldl (fun t n =>
    let (ev, q, c) := cfgEntry e.data n
    if bitAt c 7 then setPc n (ev + 256 * q + 65536 * (c % 4) + 2 ^ 18 * b2n (bitAt c 2)) (bitAt c 6) t else t) (keepPcs s)

/-- The counters that a snapshot of this boundary shows: those before a COUNTER_CONFIG of the boundary (16 R520). -/
def snapPcs (s : State) : List Nat × Nat :=
  match s.ctr.before with
  | some b => if b.1 = s.beat.number then b.2 else pcsNow s
  | none => pcsNow s

/-- A window ends for one counter (16 R513, R515). -/
def latchPc (s : State) (n : Nat) : State :=
  let w := s.ctr.win.getD n 0
  let mode := bitsAt (rd s (cfgFld n)) 16 2
  let s1 := { s with ctr := { s.ctr with win := s.ctr.win.set n 0 } }
  if mode = 1 then wr (pcFld n) w s1
  else if mode = 2 then wr (pcFld n) (max (rd s (pcFld n)) w) s1
  else s

/-- COUNTER_WINDOW_END: at a beat whose number is a multiple of BW_WINDOW, once (16 R515). -/
def execCounterWindowEnd (s : State) : Host.Outcome State Fault Refusal :=
  .next (
    if s.beat.loaded = false ∨ s.beat.number % rd s P52.BW_WINDOW ≠ 0 ∨ s.ctr.lastWin = s.beat.number then s
    else (List.range 8).foldl latchPc { s with ctr := { s.ctr with lastWin := s.beat.number } })

/-- The end of DRAM. -/
def dramEnd (s : State) : Nat := (rd s P42.CH0_GIB + rd s P42.CH1_GIB) * 2 ^ 30

/-- The first address of the host scratch (14 Table 14-1). -/
def scratchBase (s : State) : Nat := dramEnd s - 64 * 2 ^ 20

/-- The first address of the snapshot ring (16 R517). -/
def snapBase (s : State) : Nat := scratchBase s - 512 * 1024

/-- SNAPSHOT_WRITE: at a beat whose number is a multiple of SNAP_PERIOD, until mains loss is declared (16 R517). -/
def execSnapshotWrite (s : State) : Host.Outcome State Fault Refusal :=
  let per := rd s P52.SNAP_PERIOD
  .next (
    if per = 0 ∨ s.beat.loaded = false ∨ s.beat.number % per ≠ 0 ∨ silent s = true ∨ s.ctr.lastSnap = s.beat.number then s
    else
      let n := rd s P52.SNAP_SEQ + 1
      let s1 := wrMems (snapBase s + (n - 1) % 4096 * 128) (snapWith s (snapPcs s) n) s
      wr P52.SNAP_SEQ n { s1 with ctr := { s1.ctr with perDeferred := 0, perHold := 0, perAccepted := 0,
                                                       lastSnap := s.beat.number } })

/-- WRAP bits written 1 clear (16 R514). -/
def clearWrap (mask : Nat) (s : State) : State :=
  wr P52.WRAP (rd s P52.WRAP - Nat.land (rd s P52.WRAP) mask) s

/-! Self-test (16 R518). -/

/-- The functions that have self-tests (16 Table 16-5). -/
def hasTests (fn : Nat) : Bool := [0x30, 0x40, 0x41, 0x42, 0x50, 0x52].contains fn

/-- SELF_TEST: posted at level 56 with class E2; a function without tests is answered at once (16 R518). -/
def selfTestBody (h : Hdr) (p : List Byte) (s : State) : Ans :=
  if byteAt p 0 ≠ 1 then .fail stOutOfRange 0
  else if s.ctr.selfTest.isSome then .fail stBusy 0
  else if hasTests (fnOf h) = false then .done (leB 1 2 ++ zeros 15) s
  else .stays (postItem { level := 56, flow := some (flowOf h), thread := false, charge := 8, work := .selfTest h } { s with ctr := { s.ctr with selfTest := some h } })

/-- SELF_TEST (16 R518). -/
def execSelfTest (h : Hdr) (p : List Byte) (s : State) : Host.Outcome State Fault Refusal :=
  .next (runCmd h p false (selfTestBody h p) s)

/-- The payload of an open command. -/
def openCmdData (h : Hdr) (s : State) : List Byte := ((s.cmd.openC.find? (fun o => o.hdr == h)).map OpenCmd.data).getD []

/-- A self-test has run: what it finds is a free value; a failure is logged (16 R518). -/
def selfTestDone (h : Hdr) (s : State) : State :=
  let run := Config.selfTestRun (fnOf h)
  let bad := Config.selfTestFinds s.free 0 % (run + 1)
  let first := if bad = 0 then 0 else Config.selfTestFinds s.free 1 % 2 ^ 32
  let data := leB 1 (if bad = 0 then 0 else 1) ++ leB 1 run ++ leB 1 bad ++ zeros 1 ++ leB 4 first
    ++ leB 4 (Config.selfTestFinds s.free 2) ++ zeros 4
  let s1 := drawn { s with ctr := { s.ctr with selfTest := none } }
  let s2 := if bad = 0 then s1 else logEv evSelfTestFailed (leB 2 (fnOf h) ++ leB 4 first) s1
  finish h (openCmdData h s) stDone 0 data s2

end Sys2Proof.Machine
end

