-- ==== Sys2Proof/Machine/MemOps.lean ====
section
/-! DEFINITION. Addressed memory, its errors, MEM_READ and the DMA engine (14 R459 to R470, R479). -/
namespace Sys2Proof.Machine

/-! The address map (14 Table 14-1). -/

/-- The first address of the meter state cache. -/
def cacheBase : Nat := 0x1000000000

/-- The first address of the engine FIFO banks. -/
def fifoBase : Nat := 0x1000400000

/-- The first address of the DMA completion queue. -/
def cqBase : Nat := 0x1000800000

/-- The ranges of the address map, first address and size. -/
def memRanges (s : State) : List (Nat × Nat) :=
  [(0, dramEnd s), (cacheBase, 16384 * 128), (fifoBase, 0x80000), (cqBase, 0x10000)]

/-- A range lies in one range of the map (14 R461). -/
def addressable (s : State) (a n : Nat) : Bool := (memRanges s).any (fun r => decide (r.1 ≤ a) && decide (a + n ≤ r.1 + r.2))

/-- A range lies in the host scratch. -/
def inScratch (s : State) (a n : Nat) : Bool := decide (scratchBase s ≤ a) && decide (a + n ≤ dramEnd s)

/-- The line of an address (14 R465). -/
def lineOf (a : Nat) : Nat := a / 64 * 64

/-- The address lies in a poisoned line. -/
def poisonedAt (s : State) (a : Nat) : Bool := s.memory.poisoned.contains (lineOf a)

/-- One byte as a read finds it: the host scratch, the snapshot ring and the completion queue hold what was written; the
meter state cache holds the records of a field-role device by MIX; what else the device keeps in DRAM and in the engine
FIFO banks has no layout in the spec and is a free value of this draw (14 Table 14-1, R461). -/
def memAt (s : State) (a : Nat) : Byte :=
  if snapBase s ≤ a ∧ a < dramEnd s then rdMem s a
  else if cqBase ≤ a then rdMem s a
  else if cacheBase ≤ a ∧ a < fifoBase ∧ hubRole s = false then
    (match recordAt s ((a - cacheBase) / 128) with
      | some m => (meterBytes m).getD ((a - cacheBase) % 128) 0
      | none => 0)
  else Config.memByte s.free a

/-- `n` bytes from an address upward as a read finds them. -/
def memBytes (s : State) (a : Nat) : Nat → List Byte
  | 0 => []
  | n + 1 => memAt s a :: memBytes s (a + 1) n

/-- The same with poisoned lines as zeros (14 R468). -/
def memShown (s : State) (a n : Nat) : List Byte :=
  (List.range n).map (fun i => if poisonedAt s (a + i) then 0 else memAt s (a + i))

/-- A range holds bytes of a WRAPPED_KEY field of the meter state cache (05 Table 05-1; 14 Table 14-1). -/
def showsKey (a n : Nat) : Bool :=
  (List.range n).any (fun i => decide (cacheBase ≤ a + i) && decide (a + i < cacheBase + 16384 * 128)
    && decide (32 ≤ (a + i - cacheBase) % 128) && decide ((a + i - cacheBase) % 128 < 72))

/-- MEM_READ: range and data as they stood across one beat; no correction is observed in the read (14 R468). -/
def memReadBody (p : List Byte) (s : State) : Ans :=
  let a := leAt p 0 8
  let n := leAt p 8 4
  if a % 16 ≠ 0 ∨ n < 16 ∨ 4096 < n ∨ n % 16 ≠ 0 ∨ addressable s a n = false then .fail stOutOfRange 0
  else
    let pois := (List.range n).any (fun i => poisonedAt s (a + i))
    .done (leB 8 a ++ leB 2 n ++ leB 1 (b2n pois + 2 * b2n (showsKey a n)) ++ zeros 1 ++ zeros 4 ++ memShown s a n) (drawn s)

/-- MEM_READ (14 R468). -/
def execMemRead (h : Hdr) (p : List Byte) (s : State) : Host.Outcome State Fault Refusal :=
  .next (runCmd h p false (memReadBody p) s)

/-! Errors (14 R463 to R465). -/

/-- MEM_CORRECTED, at most CE_EVENT_LIMIT times per hour of the device's clock (14 R464). -/
def logCorrected (s : State) : State :=
  let hour := s.beat.ticks / secBeats 3600
  let n := if s.memory.ceHour = hour then s.memory.ceEvents else 0
  if n < rd s P42.CE_EVENT_LIMIT then
    logEv evMemCorrected [] { s with memory := { s.memory with ceHour := hour, ceEvents := n + 1 } }
  else s

/-- The counter and counter qualifier of an array's corrections (14 R464; 16 Table 16-3). -/
def ceFld : MemArray → Fld × Nat
  | .dram0 => (P42.DRAM_CE_0, 0)
  | .dram1 => (P42.DRAM_CE_1, 1)
  | .sram => (P42.SRAM_CE, 2)

/-- One corrected error (14 R464). -/
def corrected (a : MemArray) (s : State) : State := logCorrected (count 0x13 (ceFld a).2 1 (bump (ceFld a).1 s))

/-- MEM_CORRECTED (14 R464). -/
def execMemCorrected (array : MemArray) (s : State) : Host.Outcome State Fault Refusal := .next (corrected array s)

/-- A line marked as poisoned. -/
def markPoison (a : Nat) (s : State) : State :=
  if poisonedAt s a then s else { s with memory := { s.memory with poisoned := s.memory.poisoned ++ [lineOf a] } }

/-- An uncorrectable error: the line is poisoned, the error counted, recorded and logged (14 R465). -/
def uncorrectable (a : Nat) (s : State) : State :=
  logEv evMemUncorrectable (leB 8 a) (wr P42.LAST_UE_ADDR a (bump P42.UE_COUNT (markPoison a s)))

/-- MEM_UNCORRECTABLE (14 R465). -/
def execMemUncorrectable (addr : Nat) (s : State) : Host.Outcome State Fault Refusal := .next (uncorrectable addr s)

/-- The channel of a DRAM address: every 4 KiB in turn when both hold the same capacity, else channel 0 first (14 Table
14-1). -/
def dramChan (s : State) (a : Nat) : MemArray :=
  let c0 := rd s P42.CH0_GIB
  if c0 = rd s P42.CH1_GIB then (if a / 4096 % 2 = 0 then .dram0 else .dram1)
  else if a < c0 * 2 ^ 30 then .dram0 else .dram1

/-- SRAM_SCRUB: once per SRAM_SCRUB_MS the protected arrays are read and rewritten, and what that corrects is counted (14
R463, R464). -/
def execSramScrub (n : Nat) (s : State) : Host.Outcome State Fault Refusal :=
  .next (
    if passed s s.memory.scrubAt (msBeats (rd s P42.SRAM_SCRUB_MS)) then
      (List.range n).foldl (fun t _ => corrected .sram t) { s with memory := { s.memory with scrubAt := s.beat.ticks } }
    else s)

/-! DMA (14 R469, R470). -/

/-- The descriptor field of a host channel. -/
def descFld : Nat → Fld
  | 12 => P43.DESC_12
  | 13 => P43.DESC_13
  | 14 => P43.DESC_14
  | _ => P43.DESC_15

/-- RUNNING and CHAN_BUSY brought up to date (14 Table 14-8). -/
def dmaFields (s : State) : State :=
  let chans := s.memory.runs.map DmaRun.chan
  let busy := ((List.range 16).map (fun n => if chans.contains n then 2 ^ n else 0)).sum
  wr P43.CHAN_BUSY busy (wr P43.RUNNING (if s.memory.dmaOn then chans.headD 0xFF else 0xFF) s)

/-- OP, SRC, DST and LEN of a descriptor (14 Table 14-3). -/
def dOp (d : List Byte) : Nat := byteAt d 0
def dSrc (d : List Byte) : Nat := leAt d 8 8
def dDst (d : List Byte) : Nat := leAt d 16 8
def dLen (d : List Byte) : Nat := leAt d 24 4

/-- The descriptor's op reads a source. -/
def usesSrc (d : List Byte) : Bool := dOp d == 1 || dOp d == 3

/-- The descriptor's op writes a destination. -/
def usesDst (d : List Byte) : Bool := dOp d == 1 || dOp d == 2

/-- The place within a descriptor of the field its third check stops at (14 R469). -/
def descBad (s : State) (d : List Byte) : Option Nat :=
  if dOp d = 0 ∨ 3 < dOp d then some 0
  else if dLen d % 16 ≠ 0 ∨ dLen d < 16 ∨ 268435456 < dLen d then some 192
  else if usesSrc d = true ∧ (dSrc d % 16 ≠ 0 ∨ addressable s (dSrc d) (dLen d) = false) then some 64
  else if usesDst d = true ∧ (dDst d % 16 ≠ 0 ∨ addressable s (dDst d) (dLen d) = false) then some 128
  else none

/-- DMA_START: the checks of R469 in order, then the run is queued (14 R469). -/
def dmaStartBody (p : List Byte) (s : State) : Ans :=
  let n := byteAt p 0
  if n < 12 ∨ 15 < n then .fail stOutOfRange 0
  else if s.memory.runs.any (fun r => r.chan == n) then .fail stBusy 0
  else
    let d := leB 32 (rd s (descFld n))
    match descBad s d with
    | some b => .fail stOutOfRange ((descFld n).lo + b)
    | none =>
      if usesDst d = true ∧ inScratch s (dDst d) (dLen d) = false then .fail stDeniedState 0
      else .done (sliceB d 4 4 ++ leB 1 s.memory.runs.length ++ zeros 3)
        (dmaFields { s with memory := { s.memory with runs := s.memory.runs ++ [{ chan := n, desc := d }] } })

/-- DMA_START (14 R469). -/
def execDmaStart (h : Hdr) (p : List Byte) (s : State) : Host.Outcome State Fault Refusal :=
  .next (runCmd h p false (dmaStartBody p) s)

/-- DMA_RUN_START: the next queued run starts when none runs (14 R470). -/
def execDmaRunStart (s : State) : Host.Outcome State Fault Refusal :=
  .next (if s.memory.dmaOn = true ∨ s.memory.runs = [] then s
    else dmaFields { s with memory := { s.memory with dmaOn := true } })

/-- The poisoned lines a range touches. -/
def poisonIn (s : State) (a n : Nat) : List Nat := s.memory.poisoned.filter (fun l => decide (l < a + n) && decide (a < l + 64))

/-- The lines of a copy's destination that take poison from its source (14 R466). -/
def copiedPoison (s : State) (src dst n : Nat) : List Nat :=
  ((poisonIn s src n).map (fun l =>
    let lo := max l src - src
    let hi := min (l + 64) (src + n) - src
    [lineOf (dst + lo), lineOf (dst + (hi - 1))])).flatten

/-- Poison after a write of a range: lines it covers whole lose the mark (14 R465). -/
def clearPoison (a n : Nat) (s : State) : State :=
  { s with memory := { s.memory with
      poisoned := s.memory.poisoned.filter (fun l => !(decide (a ≤ l) && decide (l + 64 ≤ a + n))) } }

/-- One segment after another copied, 4 KiB each (14 R470). -/
def copySegs : Nat → Nat → Nat → Nat → State → State
  | 0, _, _, _, s => s
  | k + 1, src, dst, n, s =>
    if n = 0 then s
    else
      let m := min n 4096
      copySegs k (src + m) (dst + m) (n - m) (wrMems dst (memBytes s src m) s)

/-- What a run does from `lo` on, over `n` bytes (14 Table 14-3); a CRC is carried on in the run. -/
def dmaPart (r : DmaRun) (lo n : Nat) (s : State) : DmaRun × State :=
  let d := r.desc
  let src := dSrc d + lo
  let dst := dDst d + lo
  let pois := r.poison || (usesSrc d && !(poisonIn s src n).isEmpty)
  if dOp d = 1 then
    let bad := copiedPoison s src dst n
    ({ r with poison := pois },
      bad.foldl (fun t l => markPoison l t) (clearPoison dst n (drawn (copySegs (ceilDiv n 4096) src dst n s))))
  else if dOp d = 2 then
    (r, clearPoison dst n (wrMems dst ((List.replicate (n / 4) (sliceB d 28 4)).flatten) s))
  else ({ r with poison := pois, crc := (memBytes s src n).foldl crcByte r.crc }, drawn s)

/-- A granted slot: up to 128 segments of 4 KiB of the running run (01 R11; 14 R470). -/
def dmaSlot (s : State) : State :=
  match s.memory.dmaOn, s.memory.runs with
  | true, r :: l =>
    let lo := min (r.done * 4096) (dLen r.desc)
    let n := min (128 * 4096) (dLen r.desc - lo)
    let (r1, t) := dmaPart r lo n s
    let k := ceilDiv n 4096
    count 0x0A 0 k { t with memory := { t.memory with runs := { r1 with done := r.done + k } :: l } }
  | _, _ => s

/-- A completion record (14 Table 14-4). -/
def cqRecord (r : DmaRun) (status result seq : Nat) : List Byte :=
  sliceB r.desc 4 4 ++ leB 1 r.chan ++ leB 1 status ++ zeros 2 ++ leB 4 result ++ leB 4 seq

/-- A run ended: its record is written at CQ_SEQ modulo 4,096 and the sequences rise (14 R470). -/
def endRun (r : DmaRun) (status result : Nat) (s : State) : State :=
  let q := rd s P43.CQ_SEQ
  bump P43.RUNS_DONE (wr P43.CQ_SEQ (q + 1) (wrMems (cqBase + q % 4096 * 16) (cqRecord r status result q) s))

/-- The bytes a run has completed (14 Table 14-4). -/
def dmaBytes (r : DmaRun) : Nat := min (r.done * 4096) (dLen r.desc)

/-- DMA_RUN_COMPLETE, once the run's granted slots have taken every segment (01 R11; 14 R470, Table 14-4). -/
def execDmaRunComplete (s : State) : Host.Outcome State Fault Refusal :=
  .next (match s.memory.dmaOn, s.memory.runs with
    | true, r :: l =>
      if dmaBytes r < dLen r.desc then s
      else
        let result := if dOp r.desc = 3 then (if r.poison then 0 else Nat.xor r.crc 0xFFFFFFFF) else dLen r.desc
        dmaFields (endRun r (b2n r.poison) result { s with memory := { s.memory with runs := l, dmaOn := false } })
    | _, _ => s)

/-- FUNC_RESET of 0x43: every run ends ABORTED with its record, and the host descriptors return to 0 (14 R479). -/
def abortRuns (s : State) : State :=
  let s1 := s.memory.runs.foldl (fun t r => endRun r 2 (if dOp r.desc = 3 then 0 else dmaBytes r) t) s
  let s2 := { s1 with memory := { s1.memory with runs := [], dmaOn := false } }
  dmaFields ([12, 13, 14, 15].foldl (fun t n => wr (descFld n) 0 t) s2)

/-- FUNC_RESET of 0x42: the counters of the page are cleared and the scrubbers restart; RETIRED_PAGES, of class W, is kept (14 R479; 17 R537). -/
def clearMemCounters (s : State) : State :=
  [P42.LAST_UE_ADDR, P42.SRAM_CE, P42.DRAM_CE_0, P42.DRAM_CE_1, P42.UE_COUNT].foldl (fun t f => wr f 0 t)
    { s with memory := { s.memory with scrubAt := s.beat.ticks } }

end Sys2Proof.Machine
end

