-- ==== Sys2Proof/Machine/Calendar.lean ====
section
/-! DEFINITION. Local time, the daylight rules, closure instants and the tariff calendar (11 R382, R384, R385, R389, R395). -/
namespace Sys2Proof.Machine

/-! Civil dates. -/

/-- Year, month and day of a day number counted from 1970-01-01 (proleptic Gregorian calendar). -/
def civilOf (days : Int) : Nat × Nat × Nat :=
  let z := days + 719468
  let era := z / 146097
  let doe := z - era * 146097
  let yoe := (doe - doe / 1460 + doe / 36524 - doe / 146096) / 365
  let doy := doe - (365 * yoe + yoe / 4 - yoe / 100)
  let mp := (5 * doy + 2) / 153
  let d := doy - (153 * mp + 2) / 5 + 1
  let m := if mp < 10 then mp + 3 else mp - 9
  let y := yoe + era * 400 + (if m ≤ 2 then 1 else 0)
  (y.toNat, m.toNat, d.toNat)

/-- The weekday of a day number, 1 Monday to 7 Sunday. -/
def weekdayOf (days : Int) : Nat := ((days + 3) % 7).toNat + 1

/-- The days of a month. -/
def monthDays (y m : Nat) : Nat :=
  if m = 2 then (if y % 4 = 0 ∧ (y % 100 ≠ 0 ∨ y % 400 = 0) then 29 else 28)
  else if m = 4 ∨ m = 6 ∨ m = 9 ∨ m = 11 then 30 else 31

/-! Local time (11 R382). -/

/-- Local time less legal time, in seconds (11 R382). -/
def localOff (s : State) (dst : Bool) : Int :=
  60 * rdS s P31.TZ_MIN 0 + (if dst then 60 * (rd s P31.DST_DELTA : Int) else 0) - rd s P10.UTC_TAI

/-- Local seconds of a rule's instant in a year: month, week (5 the last), weekday, hour (11 R382). -/
def ruleLocal (y month week day hour : Nat) : Int :=
  let first := civilDays y month 1
  let d1 := 1 + (day + 7 - weekdayOf first) % 7
  let d := d1 + 7 * (week - 1)
  let d' := if d > monthDays y month then d - 7 else d
  (first + (d' : Int) - 1) * 86400 + (hour : Int) * 3600

/-- Daylight time is configured (11 R382, Table 11-9). -/
def dstUsed (s : State) : Bool := rd s P31.DST_START_MONTH != 0 && rd s P31.DST_END_MONTH != 0

/-- The instants of a year at which daylight time starts, in local standard time, and ends, in local daylight time, as
legal seconds (11 R382). -/
def dstYear (s : State) (y : Nat) : Int × Int :=
  (ruleLocal y (rd s P31.DST_START_MONTH) (rd s P31.DST_START_WEEK) (rd s P31.DST_START_DAY) (rd s P31.DST_START_HOUR)
      - localOff s false,
    ruleLocal y (rd s P31.DST_END_MONTH) (rd s P31.DST_END_WEEK) (rd s P31.DST_END_DAY) (rd s P31.DST_END_HOUR)
      - localOff s true)

/-- The newer of two changes at or before an instant. -/
def newerChange (t : Int) (best : Option (Int × Bool)) (x : Int × Bool) : Option (Int × Bool) :=
  if t < x.1 then best
  else match best with
    | none => some x
    | some b => if b.1 < x.1 then some x else some b

/-- The newest daylight change at or before a legal second: its instant, and whether it is a start. -/
def lastDst (s : State) (t : Int) : Option (Int × Bool) :=
  if dstUsed s = false then none
  else
    let y := (civilOf ((t + localOff s false) / 86400)).1
    let l := [y - 1, y, y + 1].flatMap (fun k => [((dstYear s k).1, true), ((dstYear s k).2, false)])
    l.foldl (newerChange t) none

/-- Daylight time holds at a legal second (11 R382). -/
def dstAt (s : State) (t : Int) : Bool := ((lastDst s t).map Prod.snd).getD false

/-- Local seconds of a legal second. -/
def localAt (s : State) (t : Int) : Int := t + localOff s (dstAt s t)

/-- The legal second at which a local instant is reached first, and whether a daylight change skips it: then it is the
change (11 R382, R395). -/
def legalOf (s : State) (loc : Int) : Int × Bool :=
  let d := loc - localOff s true
  let n := loc - localOff s false
  if dstUsed s = true ∧ dstAt s d = true then (d, false)
  else if dstAt s n = false then (n, false)
  else match lastDst s n with
    | some (x, _) => (x, true)
    | none => (n, false)

/-! Closure instants (11 R389). -/

/-- The local instant of the scheduled closure of a month, counted from year 0 month 0. -/
def closureLocal (s : State) (k : Nat) : Int :=
  let y := k / 12
  let m := k % 12 + 1
  let d := if rd s P31.CLOSE_DAY = 31 then monthDays y m else rd s P31.CLOSE_DAY
  civilDays y m d * 86400 + (rd s P31.CLOSE_HOUR : Int) * 3600 + (rd s P31.CLOSE_MIN : Int) * 60

/-- The month of a legal second, counted from year 0 month 0. -/
def monthAt (s : State) (t : Int) : Nat :=
  let c := civilOf (localAt s t / 86400)
  c.1 * 12 + (c.2.1 - 1)

/-- A scheduled closure: its instant in legal seconds and whether a change skips it; none when there is no schedule, or
when the instant lies in a repeated span and had its first occurrence (11 R389, R395). -/
def closureAt (s : State) (k : Nat) : Option (Nat × Bool) :=
  if rd s P31.CLOSE_DAY = 0 then none
  else
    let loc := closureLocal s k
    let x := legalOf s loc
    let twice := match s.legal.again with
      | some (d, lo) => decide ((d : Int) ≤ x.1) && decide (loc < lo)
      | none => false
    if twice = true ∨ x.1 < 0 then none else some (x.1.toNat, x.2)

/-- The scheduled closures above one legal second and up to another, in order. -/
def closuresIn (s : State) (lo hi : Nat) : List (Nat × Bool) :=
  if hi ≤ lo then []
  else
    let a := monthAt s lo - 1
    let n := monthAt s hi + 2 - a
    ((List.range n).filterMap (fun i => closureAt s (a + i))).filter (fun x => decide (lo < x.1) && decide (x.1 ≤ hi))

/-! Calendar data (11 Table 11-5, R384). -/

/-- The identifier of calendar data, 0 for none. -/
def calId (c : List Byte) : Nat := leAt c 0 4

/-- Offset of the week profiles. -/
def calWeekOff (c : List Byte) : Nat := 16 + 8 * byteAt c 4

/-- Offset of the day profiles. -/
def calDayOff (c : List Byte) : Nat := calWeekOff c + 8 * byteAt c 5

/-- A day profile: its offset and its actions as minute of the day, rate and pattern. -/
structure DayProf where
  off : Nat
  acts : List (Nat × Nat × Nat)
  deriving DecidableEq, Repr

/-- The day profiles from an offset on, and the offset after them. -/
def calDays (c : List Byte) : Nat → Nat → List DayProf × Nat
  | 0, off => ([], off)
  | n + 1, off =>
    let k := byteAt c off
    let acts := (List.range k).map (fun i =>
      (byteAt c (off + 4 + 4 * i) * 60 + byteAt c (off + 5 + 4 * i), byteAt c (off + 6 + 4 * i), byteAt c (off + 7 + 4 * i)))
    let r := calDays c n (off + 4 + 4 * k)
    (⟨off, acts⟩ :: r.1, r.2)

/-- Checks of the header (11 R384). -/
def calHeadChecks (c : List Byte) : List (Nat × Bool) :=
  [(0, calId c != 0), (4, decide (1 ≤ byteAt c 4) && decide (byteAt c 4 ≤ 8)),
   (5, decide (1 ≤ byteAt c 5) && decide (byteAt c 5 ≤ 8)), (6, decide (1 ≤ byteAt c 6) && decide (byteAt c 6 ≤ 16)),
   (7, decide (byteAt c 7 ≤ 128))]

/-- Checks of season `i`: month, day, strict order, week profile index. -/
def calSeasonChecks (c : List Byte) (i : Nat) : List (Nat × Bool) :=
  let o := 16 + 8 * i
  let m := byteAt c o
  let d := byteAt c (o + 1)
  let pm := byteAt c (o - 8)
  let pd := byteAt c (o - 7)
  [(o, decide (1 ≤ m) && decide (m ≤ 12) && (i == 0 || decide (pm ≤ m))),
   (o + 1, decide (1 ≤ d) && decide (d ≤ monthDays 2001 m) && (i == 0 || decide (pm < m) || decide (pd < d))),
   (o + 2, decide (byteAt c (o + 2) < byteAt c 5))]

/-- Checks of week profile `i`. -/
def calWeekChecks (c : List Byte) (i : Nat) : List (Nat × Bool) :=
  (List.range 7).map (fun k => (calWeekOff c + 8 * i + k, decide (byteAt c (calWeekOff c + 8 * i + k) < byteAt c 6)))

/-- Checks of one day profile: count, hours, minutes, rates, strict order. -/
def calDayChecks (c : List Byte) (p : DayProf) : List (Nat × Bool) :=
  (p.off, decide (1 ≤ byteAt c p.off) && decide (byteAt c p.off ≤ 12)) ::
    (List.range p.acts.length).flatMap (fun i =>
      let o := p.off + 4 + 4 * i
      let h := byteAt c o
      let m := byteAt c (o + 1)
      let ph := byteAt c (o - 4)
      let pm := byteAt c (o - 3)
      [(o, decide (h ≤ 23) && (i == 0 || decide (ph ≤ h))),
       (o + 1, decide (m ≤ 59) && (i == 0 || decide (ph < h) || decide (pm < m))),
       (o + 2, decide (1 ≤ byteAt c (o + 2)) && decide (byteAt c (o + 2) ≤ 8))])

/-- Checks of special day `i` at an offset: month, day, index, and no earlier one on the same date. -/
def calSpecialChecks (c : List Byte) (base i : Nat) : List (Nat × Bool) :=
  let o := base + 8 * i
  let m := byteAt c (o + 2)
  let twice := (List.range i).any (fun k => leAt c (base + 8 * k) 4 == leAt c o 4)
  [(o, !twice), (o + 2, decide (1 ≤ m) && decide (m ≤ 12)),
   (o + 3, decide (1 ≤ byteAt c (o + 3)) && decide (byteAt c (o + 3) ≤ monthDays 2000 m)),
   (o + 4, decide (byteAt c (o + 4) < byteAt c 6))]

/-- The offset of the first field of calendar data that fails, in data order; none when the data is valid (11 R384). -/
def calBad (c : List Byte) : Option Nat :=
  match (calHeadChecks c).find? (fun x => !x.2) with
  | some x => some x.1
  | none =>
    let days := calDays c (byteAt c 6) (calDayOff c)
    let l := (List.range (byteAt c 4)).flatMap (calSeasonChecks c) ++ (List.range (byteAt c 5)).flatMap (calWeekChecks c)
      ++ days.1.flatMap (calDayChecks c) ++ (List.range (byteAt c 7)).flatMap (calSpecialChecks c days.2)
    let size := days.2 + 8 * byteAt c 7
    match l.find? (fun x => !x.2) with
    | some x => some (min x.1 c.length)
    | none => if c.length = size then none else some (min c.length size)

/-- The date code of a season or day: month, then day. -/
def mdCode (m d : Nat) : Nat := m * 32 + d

/-- The week profile of a date: that of the last season whose start is at or before it, else of the last season
(11 R385). -/
def calWeek (c : List Byte) (m d : Nat) : Nat :=
  let n := byteAt c 4
  let l := (List.range n).filter (fun i => decide (mdCode (byteAt c (16 + 8 * i)) (byteAt c (17 + 8 * i)) ≤ mdCode m d))
  byteAt c (18 + 8 * (l.getLast?.getD (n - 1)))

/-- The day profile index of a day: a special day of the exact date, of every year, or the season's week profile (11
R385). -/
def calDayIdx (c : List Byte) (days : Int) : Nat :=
  let (y, m, d) := civilOf days
  let base := (calDays c (byteAt c 6) (calDayOff c)).2
  let sp := fun yy => (List.range (byteAt c 7)).find? (fun i =>
    leAt c (base + 8 * i) 2 == yy && byteAt c (base + 8 * i + 2) == m && byteAt c (base + 8 * i + 3) == d)
  match sp y with
  | some i => byteAt c (base + 8 * i + 4)
  | none => match sp 0xFFFF with
    | some i => byteAt c (base + 8 * i + 4)
    | none => byteAt c (calWeekOff c + 8 * calWeek c m d + (weekdayOf days - 1))

/-- The actions of a day. -/
def calActs (c : List Byte) (days : Int) : List (Nat × Nat × Nat) :=
  (((calDays c (byteAt c 6) (calDayOff c)).1[calDayIdx c days]?).map DayProf.acts).getD []

/-- Rate and output pattern of a local second: the last action of the day at or before it, else the last action of the
day before (11 R385). -/
def calRate (c : List Byte) (loc : Int) : Nat × Nat :=
  let day := loc / 86400
  let tod := (loc % 86400 / 60).toNat
  match ((calActs c day).filter (fun a => decide (a.1 ≤ tod))).getLast? with
  | some a => a.2
  | none => (((calActs c (day - 1)).getLast?).map Prod.snd).getD (1, 0)

end Sys2Proof.Machine
end

