-- ==== Sys2Proof/Machine/Legal.lean ====
section
/-! DEFINITION. The legal pair's shared operations: LEGAL entries, the legal log, intervals, closures, rates, and the work
that falls due at an instant (11 R372, R376, R378, R387 to R396). -/
namespace Sys2Proof.Machine

/-! The pair's state. -/

/-- The pair stays stopped after its third mismatch (15 R501). -/
def legalStopped (s : State) : Bool := (assocGet 0x30 s.cmd.funcFailed).isSome

/-- The pair does no work: it is stopped, or an outage lasts until RUN (11 R392). -/
def legalIdle (s : State) : Bool := legalStopped s || s.legal.restore || s.legal.outage.isSome

/-- The condition of R383: legal time not commissioned or invalid. -/
def legalWaits (s : State) : Bool := !rdB s P03.LEGAL_COMMISSIONED || rdB s P03.LEGAL_INVALID

/-- The legal second that runs. -/
def nowL (s : State) : Nat := legalSec s

/-- The pair's working state changed. -/
def modCore (f : LegalCore → LegalCore) (s : State) : State :=
  { s with legal := { s.legal with core := f s.legal.core } }

/-- A register of Table 11-2 kept by an accumulator, in whole units. -/
def accUnits (c : LegalCore) (i : Nat) : Nat := c.acc.getD i 0 / 2 ^ 32

/-! LEGAL entries (11 R396). -/

/-- The ledger can take entries: not READONLY, and not in a device reset (11 R396). -/
def ledgerTakes (s : State) : Bool := !storeFull s && (running s || s.pwr.mode == .holdup)

/-- An entry carries a LEGAL_NO. -/
def isLegalNo (no : Nat) (e : Entry) : Bool :=
  match e.act with
  | .legal n => n == no
  | _ => false

/-- The ledger already holds the entry of a LEGAL_NO, accepted or not. -/
def holdsLegal (s : State) (no : Nat) : Bool :=
  s.ledger.openE.any (isLegalNo no) || s.ledger.waiting.any (isLegalNo no)
    || s.ledger.toSeal.any (fun l => l.any (isLegalNo no)) || s.ledger.groups.any (fun g => g.entries.any (isLegalNo no))

/-- The ledger entry of a LEGAL entry: subkind, head bytes 3 to 19, LEGAL_NO in bytes 20 to 23 (11 Table 11-7). -/
def legalEntry (x : LegalEnt) : Entry :=
  ctlEntry 0x06 (leB 1 x.sub ++ padTo 17 x.mid ++ leB 4 x.no) x.body (.legal x.no) 0x30

/-- One entry posted unless the ledger holds it. -/
def postOne (x : LegalEnt) (s : State) : State :=
  let s1 := modCore (fun c => { c with queue := mapIf (fun y => y.no == x.no) (fun y => { y with posted := true }) c.queue }) s
  if holdsLegal s x.no then s1 else postEntry (legalEntry x) s1

/-- Entries not yet posted, posted in LEGAL_NO order once the ledger takes entries (11 R396). -/
def legalPost (s : State) : State :=
  if ledgerTakes s then
    (s.legal.core.queue.filter (fun x => !x.posted)).foldl (fun t x => postOne x t)
      { s with legal := { s.legal with fullLogged := false } }
  else s

/-- An entry kept under the next LEGAL_NO. -/
def keepEnt (sub : Nat) (mid body : List Byte) (posted : Bool) (s : State) : State :=
  modCore (fun c => { c with queue := c.queue ++ [⟨c.nextNo, sub, mid, body, posted⟩], nextNo := c.nextNo + 1 }) s

/-- An entry recorded; while the ledger cannot take entries and 4,096 are held, PROFILE and DEMAND entries are not created
(11 R396). -/
def newEnt (sub : Nat) (mid body : List Byte) (s : State) : State :=
  if ledgerTakes s = false ∧ 4096 ≤ s.legal.core.queue.length ∧ (sub = 1 ∨ sub = 2) then
    (if s.legal.fullLogged then s
     else logEv evLegalQueueFull [] { s with legal := { s.legal with fullLogged := true } })
  else legalPost (keepEnt sub mid body false s)

/-- An entry of a command: kept as posted, and given for the command's group. -/
def ownEnt (sub : Nat) (mid body : List Byte) (s : State) : Entry × State :=
  (legalEntry ⟨s.legal.core.nextNo, sub, mid, body, true⟩, keepEnt sub mid body true s)

/-- The release of a LEGAL entry: the pair keeps it no longer (11 R396). -/
def legalAccepted (no : Nat) (s : State) : State :=
  let g := fun (c : LegalCore) => { c with queue := c.queue.filter (fun x => x.no != no) }
  { s with legal := { s.legal with core := g s.legal.core, snap := g s.legal.snap } }

/-- After a replay or a restored checkpoint every kept entry is posted again, unless the ledger holds it (11 R396). -/
def legalRepost (s : State) : State :=
  legalPost (modCore (fun c => { c with queue := c.queue.map (fun x => { x with posted := false }) }) s)

/-! The legal log (11 R378). -/

/-- Bytes 0 to 27 of a log record (11 Table 11-3). -/
def logBytes (s : State) (code detail old new : Nat) : List Byte :=
  leB 4 (rd s P30.LOG_NEXT) ++ leB 5 (nowL s) ++ leB 1 code ++ leB 2 detail ++ leB 8 old ++ leB 8 new

/-- A record put into the ring of 4,096 (11 R378). -/
def logRing (code detail old new : Nat) (s : State) : State :=
  let l := s.legal.log ++ [(rd s P30.LOG_NEXT, logBytes s code detail old new)]
  let s1 := wr P30.LOG_NEXT (rd s P30.LOG_NEXT + 1) { s with legal := { s.legal with log := l.drop (l.length - 4096) } }
  if 4096 < l.length then bump P30.LOG_OVERWRITTEN s1 else s1

/-- A legal log record with its LOG entry (11 R378, R396). -/
def legalLog (code detail old new : Nat) (s : State) : State :=
  newEnt 5 [] (logBytes s code detail old new) (logRing code detail old new s)

/-- A legal log record whose LOG entry shares the group of a command. -/
def ownLog (code detail old new : Nat) (s : State) : Entry × State :=
  ownEnt 5 [] (logBytes s code detail old new) (logRing code detail old new s)

/-! Profile intervals (11 R387). -/

/-- The end of the running profile interval: the next multiple of its period. -/
def profileDue (s : State) : Nat :=
  let p := max 1 (intervalSec s.legal.core.period)
  (s.legal.core.prof.start / p + 1) * p

/-- Difference of two registers in whole units. -/
def diffU (c : LegalCore) (i : Nat) : Nat := accUnits c i - c.prof.base.getD i 0

/-- The body of a PROFILE entry (11 Table 11-7). -/
def profileBody (c : LegalCore) : List Byte :=
  ([0, 1, 2, 4, 5, 6].map (fun i => leB 8 (diffU c i))).flatten ++ leB 8 (diffU c 8 + diffU c 9)
    ++ leB 8 (diffU c 10 + diffU c 11) ++ (c.prof.volts.map (fun v => leB 4 (v / max 1 c.prof.n))).flatten ++ zeros 16

/-- The flags of a PROFILE entry (11 Table 11-7). -/
def profileFlags (s : State) (split outage : Bool) : Nat :=
  let c := s.legal.core
  b2n outage + 2 * b2n c.prof.powerDown + 4 * b2n split + 8 * b2n (legalWaits s)
    + 16 * b2n (decide (c.prof.start < c.covered)) + 32 * b2n c.prof.calChanged

/-- A profile interval begins. -/
def startProfile (t : Nat) (pd : Bool) (s : State) : State :=
  modCore (fun c => { c with prof := { start := t, base := (List.range 29).map (accUnits c), powerDown := pd } }) s

/-- The pair's newest snapshot (11 R376). -/
def takeSnapshot (s : State) : State := { s with legal := { s.legal with snap := s.legal.core } }

/-- The profile periods with the instants at which each came into force, a change added (11 R387; 07 R229). -/
def notePeriod (t old new : Nat) (l : List (Nat × Nat)) : List (Nat × Nat) :=
  if old = new then l else (if l.isEmpty then [(0, intervalSec old)] else l) ++ [(t, intervalSec new)]

/-- A multiple of the period is reached: the totalizer's net energy of the whole interval is recorded for Tally, which can
use it for a day and two hours (CLOSE_WAIT and T), and a changed period applies from a multiple of its own (11 R387; 07
R229, R230). -/
def profileMultiple (t : Nat) (s : State) : State :=
  let c := s.legal.core
  let put := fun (l : List ((Nat × Nat) × Int)) (k : Nat) => assocSet (k + 1, t) (c.net.getD k 0) l
  let fe := (List.range 3).foldl put (s.tally.feedE.filter (fun x => decide (t < x.1.2 + 93600)))
  let new := rd s P30.PROFILE_PERIOD
  let per := if t % max 1 (intervalSec new) = 0 then new else c.period
  modCore (fun c => { c with net := [0, 0, 0], period := per })
    { s with tally := { s.tally with feedE := fe, periods := notePeriod t c.period per s.tally.periods } }

/-- The running profile interval ends: at its multiple, or split at an instant before it (11 R387). -/
def profileClose (t : Nat) (split outage : Bool) (s : State) : State :=
  let c := s.legal.core
  if t ≤ c.prof.start then s
  else
    let mid := leB 1 c.period ++ leB 5 t ++ leB 1 (profileFlags s split outage) ++ leB 5 c.prof.start
      ++ leB 1 (rd s P31.RATE_NOW) ++ zeros 4
    let s1 := newEnt 1 mid (profileBody c) s
    let add := fun (k : Nat) => c.net.getD k 0 + (diffU c k : Int) - (diffU c (4 + k) : Int)
    let s2 := modCore (fun d => { d with net := (List.range 3).map add, covered := max d.covered t }) s1
    let s3 := startProfile t false s2
    if split then s3 else takeSnapshot (profileMultiple t s3)

/-! Demand (11 R388). -/

/-- The step of the demand grid in seconds: the period, or a subinterval of the sliding method. -/
def demandStep (s : State) : Nat :=
  max 1 (if rdB s P30.DEMAND_METHOD then 60 * rd s P30.DEMAND_PERIOD / rd s P30.DEMAND_SUBS else 60 * rd s P30.DEMAND_PERIOD)

/-- The end of the running demand interval: the next point of the local grid (11 R388). -/
def demandDue (s : State) : Nat :=
  let off := localOff s (rdB s P31.DST_ON)
  let g := (demandStep s : Int)
  ((((s.legal.core.dem.start : Int) + off) / g + 1) * g - off).toNat

/-- An energy over the nominal period, in W, truncated (11 R388). -/
def demandW (s : State) (e : Nat) : Nat := e * 3600 / (60 * rd s P30.DEMAND_PERIOD * 2 ^ 32)

/-- A maximum demand raised. -/
def raiseMax (i w t : Nat) (l : List (Nat × Nat)) : List (Nat × Nat) :=
  if (l.getD i (0, 0)).1 < w then l.set i (w, t) else l

/-- A closed demand recorded and registered under the rate in force (11 R388). -/
def demandRecord (t start w : Nat) (split outage : Bool) (s : State) : State :=
  let c := s.legal.core
  let r := rd s P31.RATE_NOW - 1
  let m := if outage then c.maxD else raiseMax 8 w t (raiseMax r w t c.maxD)
  let fl := b2n outage + 2 * b2n c.dem.powerDown + 4 * b2n split + 8 * b2n (legalWaits s) + 16 * b2n (m != c.maxD)
  let mid := leB 1 (rd s P31.RATE_NOW) ++ leB 5 t ++ leB 1 fl ++ leB 5 start ++ leB 1 (rd s P30.DEMAND_METHOD) ++ leB 4 w
  newEnt 2 mid [] (modCore (fun d => { d with maxD := m, lastDemand := w }) s)

/-- The next demand interval or subinterval begins. -/
def startDemand (t : Nat) (subs : List Nat) (pd : Bool) (s : State) : State :=
  modCore (fun c => { c with dem := { start := t, base := c.acc.getD 3 0, subs := subs, powerDown := pd } }) s

/-- The running demand interval ends on the grid, or is split; a split clears the sliding window (11 R388). -/
def demandClose (t : Nat) (split outage : Bool) (s : State) : State :=
  let c := s.legal.core
  let e := c.acc.getD 3 0 - c.dem.base
  if t ≤ c.dem.start then
    (if split then modCore (fun d => { d with dem := { d.dem with subs := [] } }) s else s)
  else if split = true ∨ rdB s P30.DEMAND_METHOD = false then
    startDemand t [] false (demandRecord t c.dem.start (demandW s e) split outage s)
  else
    let n := rd s P30.DEMAND_SUBS
    let subs := (e :: c.dem.subs).take n
    if subs.length < n then startDemand t subs false s
    else startDemand t subs false
      (demandRecord t (t - 60 * rd s P30.DEMAND_PERIOD) (demandW s subs.sum) false outage s)

/-! Closures (11 R389, R390). -/

/-- The 320 bytes of a billing set (11 Table 11-6). -/
def billBytes (c : LegalCore) : List Byte :=
  leB 8 (accUnits c 3) ++ leB 8 (accUnits c 7) ++ ((List.range 16).map (fun i => leB 8 (accUnits c (13 + i)))).flatten
    ++ ((List.range 4).map (fun i => leB 8 (accUnits c (8 + i)))).flatten
    ++ (c.maxD.map (fun m => leB 8 m.1 ++ leB 5 m.2 ++ zeros 3)).flatten

/-- The billing set of a closure made now. -/
def billSet (s : State) (cause sched flags : Nat) : BillSet :=
  ⟨rd s P31.CLOSURES + 1, sched, nowL s, cause, flags, billBytes s.legal.core⟩

/-- The set kept, the maximum demands reset, the closure counted and logged in the ring (11 R389, R390). -/
def closePeriod (b : BillSet) (s : State) : State :=
  logRing 0x05 (b.no % 65536) 0 0 (wr P31.CLOSURES b.no
    (modCore (fun c => { c with maxD := List.replicate 9 (0, 0) })
      { s with legal := { s.legal with bills := (b :: s.legal.bills).take 15 } }))

/-- Head bytes 3 to 19 and body of a CLOSURE entry (11 Table 11-7). -/
def closureMid (b : BillSet) : List Byte :=
  leB 1 b.cause ++ leB 5 b.sched ++ leB 5 b.exec_ ++ leB 1 b.flags ++ zeros 1 ++ leB 4 b.no

/-- The body of a CLOSURE entry. -/
def closureBody (b : BillSet) : List Byte := b.data ++ zeros 28

/-- A scheduled closure: at most once, since it sets LAST_SCHED_AT (11 R389). -/
def runClosure (t : Nat) (pd shifted : Bool) (s : State) : State :=
  let b := billSet s 1 t (b2n pd + 2 * b2n shifted)
  let rec_ := logBytes s 0x05 (b.no % 65536) 0 0
  let s1 := newEnt 5 [] rec_ (closePeriod b s)
  let s2 := newEnt 3 (closureMid b) (closureBody b) s1
  takeSnapshot (modCore (fun c => { c with schedFrom := max c.schedFrom t }) (wr P31.LAST_SCHED_AT t s2))

/-! Rate, pattern, activation (11 R385, R386). -/

/-- An INSTANT entry (11 Table 11-7). -/
def instantEnt (kind sched : Nat) (pd shifted : Bool) (r0 r1 p0 p1 : Nat) (s : State) : State :=
  newEnt 4 (leB 1 kind ++ leB 5 sched ++ leB 5 (nowL s) ++ leB 1 (b2n pd + 2 * b2n shifted) ++ leB 1 r0 ++ leB 1 r1
    ++ leB 1 p0 ++ leB 1 p1 ++ zeros 1) [] s

/-- Rate and pattern of an instant; the repeated span of a local change keeps what its first passage ended with (11 R383,
R385, R395). -/
def rateAt (s : State) (t : Nat) : Nat × Nat :=
  if legalWaits s = true ∨ s.legal.active = [] then (rd s P31.DEFAULT_RATE, 0)
  else
    let loc := (t : Int) + localOff s (rdB s P31.DST_ON)
    match s.legal.again with
    | some (d, lo) => calRate s.legal.active (if d ≤ t then max loc (lo - 1) else loc)
    | none => calRate s.legal.active loc

/-- Rate and pattern set. -/
def setRate (r p : Nat) (s : State) : State := wr P31.PATTERN_NOW p (wr P31.RATE_NOW r s)

/-- Rate and pattern evaluated at an instant; a changed rate splits the demand interval (11 R385, R388). -/
def evalRate (t : Nat) (pd shifted always : Bool) (s : State) : State :=
  let r0 := rd s P31.RATE_NOW
  let p0 := rd s P31.PATTERN_NOW
  let (r, p) := rateAt s t
  let s1 := { s with legal := { s.legal with evalAt := t } }
  let s2 := if r = r0 then s1 else demandClose t true pd s1
  let s3 := setRate r p s2
  if legalWaits s = true ∨ (r = r0 ∧ p = p0 ∧ always = false) then s3
  else instantEnt (if r = r0 then 2 else 1) t pd shifted r0 r p0 p s3

/-- The passive calendar becomes active (11 R386). -/
def activateCal (t : Nat) (pd : Bool) (s : State) : State :=
  let r := rd s P31.RATE_NOW
  let p := rd s P31.PATTERN_NOW
  let s1 := wr P31.ACTIVE_CAL_ID (calId s.legal.passive) (wr P31.PENDING_AT 0
    { s with legal := { s.legal with active := s.legal.passive } })
  instantEnt 3 t pd false r r p p (legalLog 0x04 0 (calId s.legal.active) (calId s.legal.passive) s1)

/-! Work that falls due at an instant (11 R391). -/

/-- The due work up to a legal second that must not wait, as (instant, place in R391's order). -/
def dueWork (s : State) (upTo : Nat) : List (Nat × Nat) :=
  let m := metroOn s
  let w := legalWaits s
  let pend := rd s P31.PENDING_AT
  (if m = true ∧ profileDue s ≤ upTo then [(profileDue s, 1)] else [])
    ++ (if m = true ∧ demandDue s ≤ upTo then [(demandDue s, 2)] else [])
    ++ (if w then []
        else ((closuresIn s (max (rd s P31.LAST_SCHED_AT) s.legal.core.schedFrom) upTo).head?.map (fun x => (x.1, 3))).toList)
    ++ (if w = false ∧ pend ≠ 0 ∧ pend ≤ upTo then [(pend, 4)] else [])

/-- The earlier of two pieces of due work. -/
def sooner (a b : Nat × Nat) : Bool := decide (a.1 < b.1) || (a.1 == b.1 && decide (a.2 < b.2))

/-- The first piece of due work. -/
def firstDue (s : State) (upTo : Nat) : Option (Nat × Nat) :=
  (dueWork s upTo).foldl (fun b x => match b with
    | none => some x
    | some y => if sooner x y then some x else some y) none

/-- A closure that a change of local time skipped (11 R395). -/
def isSkipped (s : State) (t : Nat) : Bool :=
  ((closuresIn s (t - 1) t).head?.map Prod.snd).getD false

/-- One piece of due work done. `pd`: it fell inside an outage. -/
def doDue (x : Nat × Nat) (pd : Bool) (s : State) : State :=
  if x.2 = 1 then profileClose x.1 false pd s
  else if x.2 = 2 then demandClose x.1 false pd s
  else if x.2 = 3 then runClosure x.1 pd (isSkipped s x.1) s
  else activateCal x.1 pd s

/-- The first whole local minute after the last evaluation (11 R385). -/
def nextMinute (s : State) : Nat :=
  let u := (rd s P10.UTC_TAI : Int)
  ((((s.legal.evalAt : Int) - u) / 60 + 1) * 60 + u).toNat

/-- Everything due up to a legal second, in order. -/
def catchUp (pd : Bool) (upTo : Nat) : Nat → State → State
  | 0, s => s
  | fuel + 1, s =>
    let m := nextMinute s
    match firstDue s upTo with
    | some x =>
      if m < x.1 then catchUp pd upTo fuel (evalRate m pd false false s)
      else catchUp pd upTo fuel (doDue x pd s)
    | none => if m ≤ upTo then catchUp pd upTo fuel (evalRate m pd false false s) else s

/-- Everything due up to now. -/
def catchUpNow (pd : Bool) (s : State) : State :=
  let c := s.legal.core
  let from_ := min s.legal.evalAt (min c.prof.start c.dem.start)
  catchUp pd (nowL s) (4 * (nowL s - from_) + 16) s

/-- Both running intervals split at an instant (11 R387, R388). -/
def splitBoth (t : Nat) (s : State) : State :=
  if metroOn s then demandClose t true false (profileClose t true false s) else s

/-- Both intervals begin anew at an instant. -/
def startBoth (t : Nat) (pd : Bool) (s : State) : State := startDemand t [] pd (startProfile t pd s)

/-! Changes of local time (11 R395). -/

/-- Closures that a change of local time skipped run at the change, flagged TIME_SHIFTED (11 R395). -/
def runSkipped (t : Nat) (s : State) : State :=
  if legalWaits s then s
  else (closuresIn s (max (rd s P31.LAST_SCHED_AT) s.legal.core.schedFrom) t).foldl (fun u x => runClosure x.1 false true u) s

/-- Local time changes at an instant from `lo`: the demand interval closes, instants skipped execute, a repeated span is
remembered, the rate is evaluated (11 R395). -/
def localChange (t : Nat) (lo : Int) (s : State) : State :=
  let on := dstAt s t
  let s1 := if metroOn s then demandClose t true false s else s
  let s2 := wrB P31.DST_ON on s1
  let new := (t : Int) + localOff s2 on
  let s3 := { s2 with legal := { s2.legal with again := if new < lo then some (t, lo) else none } }
  let r := rd s3 P31.RATE_NOW
  let p := rd s3 P31.PATTERN_NOW
  let s4 := instantEnt 4 t false false r r p p s3
  evalRate t false (decide (lo < new)) false (runSkipped t s4)

/-! Steps (11 R393, R394). -/

/-- A forward step: the latest scheduled closure passed runs, each earlier one is logged (11 R394). -/
def passClosures (t0 t1 : Nat) (s : State) : State :=
  let l := closuresIn s (max t0 (rd s P31.LAST_SCHED_AT)) t1
  match l.getLast? with
  | none => s
  | some x =>
    let s1 := (List.range (l.length - 1)).foldl (fun u _ => legalLog 0x0C ((rd u P31.CLOSURES + 1) % 65536) 0 0 u) s
    runClosure x.1 false true s1

/-- What follows a step of legal time from `t0`: DST, LAST_SCHED_AT at commissioning, closures passed, the rate (11 R383,
R393, R394). -/
def afterStep (t0 : Nat) (first : Bool) (detail : Nat) (s : State) : State :=
  let t1 := nowL s
  let s1 := legalLog 0x01 detail t0 t1 (wrB P31.DST_ON (dstAt s t1) { s with legal := { s.legal with again := none } })
  let s2 := startBoth t1 false s1
  let s3 := if first then
      wr P31.LAST_SCHED_AT (((closuresIn s2 (t1 - 86400 * 62) t1).getLast?.map Prod.fst).getD 0) s2
    else if t0 < t1 then passClosures t0 t1 s2
    else s2
  let s4 := modCore (fun c => { c with schedFrom := t1 }) s3
  evalRate t1 false (decide (t0 < t1)) (decide (t0 < t1)) s4

/-! Outages (11 R392). -/

/-- OUTAGE_START: running intervals close as split parts, the failure is counted (11 R392). -/
def outageStart (s : State) : State :=
  if legalIdle s then { s with legal := { s.legal with lossSince := true } }
  else
    let t := nowL s
    let s1 := splitBoth t (catchUpNow false s)
    modCore (fun c => { c with failures := c.failures + 1 })
      { s1 with legal := { s1.legal with outage := some t, lossSince := true } }

/-- The snapshot that the hold-up flush writes (11 R376). -/
def outageSnapshot (s : State) : State :=
  { takeSnapshot s with legal := { (takeSnapshot s).legal with lossSince := false } }

/-- After a power-on reset the pair resumes from the newest snapshot; one older than the mains loss is logged (11 R376). -/
def legalResume (s : State) : State :=
  let no := s.legal.core.nextNo
  let c := { s.legal.snap with nextNo := no, queue := s.legal.snap.queue.map (fun x => { x with posted := false }) }
  let s0 := match s.legal.calNext with
    | some (none, _) => wr P30.CAL_CRC (crc32c s.legal.calSet) s
    | _ => s
  let s1 := { s0 with legal := { s.legal with core := c, check := c.acc, restore := true, lossSince := false,
                                              inst := List.replicate 25 0, sets := [], sums := [],
                                              calNext := s.legal.calNext.filter (fun x => x.1.isSome) } }
  if s.legal.lossSince then logEv evRegistersOlder [] (logRing 0x0D 0 0 0 (keepEnt 5 [] (logBytes s1 0x0D 0 0 0) false s1))
  else s1

/-- OUTAGE_RESTORE at the entry into RUN: due instants execute flagged POWER_DOWN, unless the battery domain lost legal
time; the intervals then running begin here (11 R392). -/
def outageRestore (s : State) : State :=
  let lost := rdB s P03.LEGAL_INVALID
  let s0 := legalRepost { s with legal := { s.legal with restore := false } }
  let s1 := if s0.legal.outage.isSome = true ∧ lost = false then catchUpNow true s0
            else if lost = true then legalLog 0x0E 0 0 0 s0 else s0
  let t := nowL s1
  let pd := s1.legal.outage.isSome && !lost
  let s2 := wrB P31.DST_ON (dstAt s1 t) { s1 with legal := { s1.legal with outage := none, lastSec := t } }
  let s3 := startBoth t pd s2
  let s4 := if pd then s3 else modCore (fun c => { c with schedFrom := max c.schedFrom t }) s3
  evalRate t false false false s4

end Sys2Proof.Machine
end

