-- ==== Sys2Proof/Machine/Carry.lean ====
section
/-! DEFINITION. Carry-forward and reclaim (06 R212 to R214): what a segment still carries, carry pages, SEGMENT_RECLAIM. -/
namespace Sys2Proof.Machine

/-! What is carried (06 R213). -/

/-- The code of a slot state in a presence map, in the order R151 names them. -/
def slotCode : Slot → Nat
  | .absent => 0
  | .pend => 1
  | .estimated => 2
  | .actual => 3

/-- The 40 bytes of a channel's presence map as a PRESENCE entry holds it: accepted states only (04 R151; 06 R213). -/
def presenceBytes (p : Presence) : List Byte :=
  let st := (p.slots.zip (List.range p.slots.length)).map (fun x =>
    slotCode (if x.1 = .pend then (assocGet (p.h - x.2) p.before).getD .absent else x.1))
  (List.range 40).map (Config.presenceMap p.h st)

/-- The record from which a channel's tail is rebuilt (05 R168). -/
def tailRecord (s : State) (mix ch : Nat) : List Byte :=
  match newestActual s mix ch with
  | some k => (match newestRec s mix ch (k * lenOf s mix ch) with
    | some e => entryBytes e
    | none => zeros 32)
  | none => zeros 32

/-- The PRESENCE entry of a channel (06 Table 06-2). -/
def presenceEntry (s : State) (mix ch : Nat) (p : Presence) : Entry :=
  ctlEntry 0x08 (leB 3 (mix + ch * 2 ^ 20)) (presenceBytes p ++ tailRecord s mix ch) .none 0x12

/-- A COMMAND entry among the last 256 of its session (02 R64). -/
def replyNeeded (s : State) (e : Entry) : Bool :=
  match e.act with
  | .command h _ _ _ _ _ => (sessAt s (sessOf h)).held.any (fun z => z.seq == h.seq)
  | _ => false

/-- A campaign that runs or whose meters are still being aborted (10 R352, R353). -/
def campOpen (c : Camp) : Bool := decide (c.st < 4) || !c.meters.all meterOver

/-- A DOWNLINK or CAMPAIGN_STEP entry whose item or campaign is still open (06 R213). -/
def workOpen (s : State) (e : Entry) : Bool :=
  match e.act with
  | .dl no _ _ => s.dl.items.any (fun i => i.no == no && itemOpen i)
  | .step no => s.dl.camps.any (fun c => c.no == no && campOpen c)
  | .campaign no _ => s.dl.camps.any (fun c => c.no == no && campOpen c)
  | _ => false

/-- An entry that is copied unchanged onto carry pages (06 R213). -/
def carried (s : State) (e : Entry) : Bool := e.kind != 0 && (replyNeeded s e || workOpen s e)

/-! Carry pages (06 R213, R197). -/

/-- A group of carry pages: its entries keep their ledger sequence and content, are flagged CARRY, take no export sequence
and are accepted already; its pages start programming (06 R197, R213). -/
def carryGroup (es : List Entry) (s : State) : State × Group :=
  let l := es.map (fun e => { e with carry := true, xseq := [] })
  let (s1, ps) := placePages (pagesOf s l) s
  let pages := entryPages (pageSlots s) 0 0 (l.map entrySlots)
  let g : Group := { no := carryBase + s.ledger.carryNo, entries := (l.zip pages).map (fun x => { x.1 with page := x.2 }),
                     pages := ps, sealTime := chainSec s, horizon := s.ledger.horizon,
                     replayBase := s.ledger.replayBase, bootCount := s.ledger.bootCount }
  let w := writeGroup 0 s1 g
  (programGroup w { s1 with ledger := { s1.ledger with carryNo := s1.ledger.carryNo + 1 }
                            ftl := { s1.ftl with wseq := s1.ftl.wseq + ps.length } }, w)

/-- A carry group whose pages are verified takes the place of what it carries, ahead of the ledger's groups (06 R213). -/
def keepCarry (g : Group) (s : State) : State :=
  { s with ledger := { s.ledger with groups := { g with accepted := true, released := true } :: s.ledger.groups } }

/-- Entries that a joining chip holds on carry pages when its transfer has ended: existing ones keep their ledger sequence,
PRESENCE entries take the next (15 R488). -/
def carryPages (kept fresh : List Entry) (s : State) : State :=
  let n := rd s P12.NEXT_LSEQ
  let fs := (fresh.zip (List.range fresh.length)).map (fun x => { x.1 with lseq := n + x.2 })
  let es := kept ++ fs
  if es.isEmpty then s
  else
    let (s1, g) := carryGroup es (wr P12.NEXT_LSEQ (n + fs.length) s)
    let done := { g with pages := g.pages.map (fun p => { p with st0 := .verified, st1 := .verified }) }
    keepCarry done (count 0x07 1 g.pages.length (count 0x07 0 g.pages.length s1))

/-! Reclaim (06 R212). -/

/-- The segments of the pages an entry lies on: one longer than a page runs over several (06 R194). -/
def segsOf (per : Nat) (g : Group) (e : Entry) : List Nat :=
  ((g.pages.drop e.page).take (max 1 (ceilDiv (entrySlots e) per))).flatMap (fun p => [(copyAt .c0 p).1, (copyAt .c1 p).1])

/-- An entry lies in a segment, with all of it or with a part. -/
def inSeg (s : State) (seg : Nat) (g : Group) (e : Entry) : Bool := (segsOf (pageSlots s) g e).contains seg

/-- An entry is acknowledged on every open stream it matched; those of an abandoned batch count as acknowledged. -/
def ackedAll (s : State) (e : Entry) : Bool :=
  s.ledger.abandoned.contains e.batch && e.prov ||
    (List.range 8).all (fun k => xseqOf k e == 0 || (!(streamAt s k).isOpen && !(streamAt s k).opening) || decide (xseqOf k e ≤ (streamAt s k).acked))

/-- An entry counts as accepted for reclaim: a provisional one with its batch, or when that was abandoned (06 R212). -/
def entryDone (s : State) (e : Entry) : Bool := entryLive s e || s.ledger.abandoned.contains e.batch

/-- A group with entries in a segment meets R212 for it: accepted, both copies of its pages there verified, acknowledged,
old enough. -/
def groupDone (s : State) (seg : Nat) (g : Group) : Bool :=
  let es := g.entries.filter (inSeg s seg g)
  let ps := g.pages.filter (pageInSeg seg)
  ps.isEmpty ||
    (g.accepted && g.released && ps.all (fun p => p.st0 == .verified && p.st1 == .verified)
      && es.all (fun e => entryDone s e && ackedAll s e)
      && decide (g.sealTime + rd s P12.RETAIN_DAYS * 86400 < chainSec s))

/-- The entries of a segment. -/
def segEntries (s : State) (seg : Nat) : List Entry :=
  (s.ledger.groups.map (fun g => g.entries.filter (inSeg s seg g))).flatten

/-- A closed segment that R212 lets go, and whose carry pages are not being written. -/
def segDone (s : State) (seg : Nat) : Bool :=
  assocGet seg s.ftl.segs == some .closed && s.ledger.groups.all (groupDone s seg)

/-- The channels whose presence window holds the slot of a record of the segment, or whose PRESENCE entry lies in it (06
R213; assumption log 30). -/
def windowChans (s : State) (l : List Entry) : List (Nat × Nat) :=
  let inWindow := fun (e : Entry) => e.kind == 0 && (match presAt s (recMix e) (recCh e) with
    | some p => decide (p.h < slotOf (lenOf s (recMix e) (recCh e)) (recEnd e) + 128)
    | none => false)
  let kept := (l.filter (fun e => e.kind == 8)).map (fun e => (leAt e.head 0 3 % 2 ^ 20, leAt e.head 0 3 / 2 ^ 20))
  ((l.filter inWindow).map (fun e => (recMix e, recCh e)) ++ kept).eraseDups

/-- A group without what lay in a segment: the pages that stay are numbered anew. -/
def cutSeg (s : State) (seg : Nat) (g : Group) : Group :=
  let kept := g.entries.filter (fun e => !inSeg s seg g e)
  let place := fun (n : Nat) => ((g.pages.take n).filter (fun p => !pageInSeg seg p)).length
  { g with entries := kept.map (fun e => { e with page := place e.page }), pages := g.pages.filter (fun p => !pageInSeg seg p) }

/-- The entries of a segment taken out of their groups; a group without entries is gone. What COMMAND, COUNTER, LEGAL and
TALLY entries did stands in the settings store (06 R213). -/
def dropSeg (seg : Nat) (s : State) : State :=
  let gs := s.ledger.groups.map (cutSeg s seg)
  let gone := segEntries s seg
  let keys := (gone.filter (fun e => e.kind == 0)).map (fun e => (recMix e, recCh e, recEnd e))
  { s with ledger := { s.ledger with
      groups := gs.filter (fun g => !g.entries.isEmpty || !g.accepted)
      reclaimed := s.ledger.reclaimed ++ keys
      cutSeq := (gone.map Entry.lseq).foldl max s.ledger.cutSeq } }

/-- The control entries whose effects are checkpointed (06 R213). -/
def checkpointed (s : State) (e : Entry) : Bool := [1, 3, 6, 7].contains e.kind && entryLive s e

/-- The effects of a segment's control entries written to the settings partition. The model keeps the entries themselves
and writes as many pages as they fill: what the settings store holds of an effect is not stated (06 R213; assumption log
116). -/
def checkpoint (l : List Entry) (s : State) : State :=
  let es := l.filter (checkpointed s)
  writePages ptSettings 0 (pagesOf s es).length { s with ledger := { s.ledger with ckpt := s.ledger.ckpt ++ es } }

/-- A reclaim begins: PRESENCE entries are posted, the effects of control entries are checkpointed, and what is copied
unchanged goes onto carry pages (06 R213). -/
def beginReclaim (seg : Nat) (s : State) : State :=
  let l := segEntries s seg
  let fresh := (windowChans s l).filterMap (fun c => (presAt s c.1 c.2).map (presenceEntry s c.1 c.2))
  let (s1, g) := carryGroup (l.filter (carried s)) (checkpoint l s)
  fresh.foldl (fun t e => postEntry e t) { s1 with ledger := { s1.ledger with carry := some ⟨seg, g⟩ },
                                                    ftl := { s1.ftl with segs := assocSet seg .reclaiming s1.ftl.segs } }

/-- The pages of a reclaim are verified and its PRESENCE entries accepted (06 R213). -/
def reclaimReady (s : State) (j : CarryJob) : Bool := j.group.complete && !(unreleased s).any (fun e => e.kind == 8)

/-- The blocks of a segment that is free again wait for their erase (13 R446). -/
def pendSegBlks (seg : Nat) (s : State) : State :=
  let put := fun (c : Chan) (t : State) =>
    match (segBlk t c seg).bind (fun x => t.ftl.blks.find? (fun b => isBlk c x.1 x.2 b && b.st != .retired)) with
    | some b => postRec ⟨3, ptLedger, c, dieBlk b.die b.blk, b.erases, 0⟩ (setBlkSt c b.die b.blk ptLedger .pendingErase t)
    | none => t
  let t := put .c1 (put .c0 s)
  commitPending { t with ftl := { t.ftl with segBlks := assocDel seg t.ftl.segBlks } }

/-- The segment of a reclaim becomes free through SEG_RECLAIM and a PENDING_ERASE for each of its blocks; READONLY may then
clear (06 R213, R214; 13 R446). -/
def endReclaim (j : CarryJob) (s : State) : State :=
  let s1 := dropSeg j.seg { s with ledger := { s.ledger with carry := none } }
  let s2 := if j.group.entries.isEmpty then s1 else keepCarry j.group s1
  checkSpace (ftlFields (pendSegBlks j.seg (postRec ⟨7, ptLedger, .c0, j.seg, 0, 0⟩
    { s2 with ftl := { s2.ftl with segs := assocDel j.seg s2.ftl.segs } })))

/-- What the reclaim of a segment can do next: begin, when no other is under way, every entry meets R212 and the carry pages
find room; or end. -/
def reclaimMay (s : State) (seg : Nat) : Bool :=
  match s.ledger.carry with
  | some j => j.seg == seg && reclaimReady s j
  | none => segDone s seg && pagesFit s ((segEntries s seg).filter (carried s))

/-- SEGMENT_RECLAIM, whose thread at level 48 has been serviced: once every entry of a closed segment meets R212, what it still
carries is preserved; after that is verified and accepted the segment becomes free (06 R212 to R214). -/
def execSegmentReclaim (seg : Nat) (s : State) : Host.Outcome State Fault Refusal :=
  .next (
    if granted s .reclaim = false ∨ reclaimMay s seg = false then s
    else
      let t := spend .reclaim s
      match t.ledger.carry with
      | some j => endReclaim j t
      | none =>
        let u := beginReclaim seg t
        match u.ledger.carry with
        | some j => if reclaimReady u j then endReclaim j u else u
        | none => u)

end Sys2Proof.Machine
end

