-- ==== Sys2Proof/Machine/Display.lean ====
section
/-! DEFINITION. The registers of Table 11-2, the outputs and the display (11 R374, R375, R398 to R402). -/
namespace Sys2Proof.Machine

/-! Registers (11 Table 11-2, R375). -/

/-- The registers that exist, in order. -/
def legalIds : List Nat :=
  (List.range 13).map (fun i => 1 + i) ++ (List.range 27).map (fun i => 0x11 + i) ++ (List.range 25).map (fun i => 0x101 + i)
    ++ (List.range 5).map (fun i => 0x201 + i) ++ (List.range 19).map (fun i => 0x301 + i)

/-- The unit code of a register (11 R375). -/
def unitOf (id : Nat) : Nat :=
  if id ≤ 8 then 0
  else if id ≤ 0x0C then 1
  else if id = 0x0D then 2
  else if id ≤ 0x20 then 0
  else if id ≤ 0x2B then 3
  else if id ≤ 0x104 then 6
  else if id ≤ 0x108 then 7
  else if id ≤ 0x10C then 3
  else if id ≤ 0x110 then 4
  else if id ≤ 0x114 then 5
  else if id = 0x115 then 8
  else if id = 0x116 then 9
  else if id ≤ 0x119 then 0x0A
  else if id ≤ 0x202 then 0x0B
  else if id = 0x203 then 0x0C
  else if id = 0x204 then 0x0D
  else if id = 0x205 then 0x0E
  else if id ≤ 0x308 then 0x0F
  else if id ≤ 0x310 then 0x10
  else 0x11

/-- The value of a register (11 Table 11-2). -/
def regValue (s : State) (id : Nat) : Int :=
  let c := s.legal.core
  if id ≤ 0x0D then accUnits c (id - 1)
  else if id ≤ 0x20 then accUnits c (13 + (id - 0x11))
  else if id ≤ 0x29 then (c.maxD.getD (id - 0x21) (0, 0)).1
  else if id = 0x2A then demandW s (c.acc.getD 3 0 - c.dem.base)
  else if id = 0x2B then c.lastDemand
  else if id ≤ 0x119 then s.legal.inst.getD (id - 0x101) 0
  else if id = 0x201 then rd s P31.CLOSURES
  else if id = 0x202 then c.failures
  else if id = 0x203 then rd s P31.RATE_NOW
  else if id = 0x204 then rd s P31.ACTIVE_CAL_ID
  else if id = 0x205 then rd s P31.LAST_SCHED_AT
  else if id ≤ 0x308 then leAt s.legal.calSet (4 * (id - 0x301)) 3
  else if id ≤ 0x310 then toS 16 (leAt s.legal.calSet (32 + 2 * (id - 0x309)) 2)
  else toS 16 (leAt s.legal.calSet (48 + 2 * (id - 0x311)) 2)

/-- The time of a maximum demand, 0 for other registers and for no maximum. -/
def regTime (s : State) (id : Nat) : Nat :=
  if 0x21 ≤ id ∧ id ≤ 0x29 then (s.legal.core.maxD.getD (id - 0x21) (0, 0)).2 else 0

/-- A 16-byte register record (11 R375). -/
def regRecord (s : State) (id : Nat) : List Byte :=
  leB 2 id ++ leB 1 (unitOf id) ++ leB 1 (b2n (regTime s id != 0) + 2 * b2n (legalWaits s))
    ++ leB 8 (ofS 64 (regValue s id)) ++ leB 4 (regTime s id % 2 ^ 32)

/-! Outputs (11 R400, R402). -/

/-- The mode of output `n`. -/
def outMode (s : State) (n : Nat) : Nat := bitsAt (rd s P32.OUT_MODE) (2 * n) 2

/-- Outputs are released: from a power-on reset until RUN, and while main power is lost (11 R402). -/
def outReleased (s : State) : Bool := s.disp.released || s.pwr.mode == .dormant || s.pwr.mode == .off

/-- Output `n` is asserted (11 R383, R400, R402). -/
def outOn (s : State) (n : Nat) : Bool :=
  if outReleased s then false
  else match outMode s n with
    | 1 => !legalWaits s && bitAt (rd s P31.PATTERN_NOW) n
    | 2 => bitAt (rd s P32.OUT_CMD) n
    | 3 => decide (s.beat.ticks < ((s.disp.pulses[n]?).map PulseSt.until_).getD 0)
    | _ => false

/-- The outputs as one byte. -/
def outBits (s : State) : Nat := ((List.range 8).map (fun n => if outOn s n then 2 ^ n else 0)).sum

/-- The output pins at given levels. -/
def drivePins (v : Nat) (s : State) : State :=
  if v = s.disp.driven then s else emit (.outputs v) { s with disp := { s.disp with driven := v } }

/-- PWR_REQ_N low at its pin, once. -/
def driveReq (c : Nat) (s : State) : State :=
  if s.pwr.reqDriven then s else emit (.pwrReq c) { s with pwr := { s.pwr with reqDriven := true } }

/-- The pins' levels are outputs that wait for their beat's digest in a pair and stay with it in a halted one; without main
power, and from a power-on reset until RUN, the outputs are released at once (01 R13; 11 R402; 15 R492 to R494; log
115). -/
def pinsHeld (s : State) : Bool := (paired s || pairState s == 5) && !outReleased s

/-- The outputs brought to their modes; an asserted output is driven low (11 R400). RUN ends the release after a power-on
reset (11 R402). -/
def driveOutputs (s : State) : State :=
  let s1 := if running s then { s with disp := { s.disp with released := false } } else s
  let t := wr P32.OUT_STATE (outBits s1) s1
  if pinsHeld t then t else drivePins (outBits t) t

/-- A pulse output changed. -/
def modPulse (n : Nat) (f : PulseSt → PulseSt) (s : State) : State :=
  { s with disp := { s.disp with pulses := s.disp.pulses.set n (f (s.disp.pulses.getD n {})) } }

/-- A+ energy offered to a pulse output: whole pulses join the backlog of at most 65,535 (11 R400). -/
def feedPulse (e : Nat) (s : State) (n : Nat) : State :=
  if outMode s n ≠ 3 then s
  else
    let q := 1000 * 2 ^ 32
    modPulse n (fun p =>
      let a := p.acc + e * rd s P32.PULSE_IMP_KWH
      { p with acc := a % q, backlog := min 65535 (p.backlog + a / q) }) s

/-- A+ energy of a second offered to every pulse output. -/
def feedPulses (e : Nat) (s : State) : State := (List.range 8).foldl (fun t n => feedPulse e t n) s

/-- OUTPUT_PULSE: a pulse that is due starts, no sooner than 2 × PULSE_MS after the one before (11 R400). -/
def execOutputPulse (n : Fin 8) (s : State) : Host.Outcome State Fault Refusal :=
  let p := s.disp.pulses.getD n.val {}
  let ms := rd s P32.PULSE_MS
  let free := match p.from_ with
    | some t => passed s t (msBeats (2 * ms))
    | none => true
  .next (
    if outReleased s = true ∨ outMode s n.val ≠ 3 ∨ p.backlog = 0 ∨ free = false then s
    else driveOutputs (emit (.pulse n.val ms) (modPulse n.val (fun x =>
      { x with backlog := x.backlog - 1, from_ := some s.beat.ticks, until_ := s.beat.ticks + msBeats ms }) s)))

/-! The display (11 R398, R399). -/

/-- Segments of a digit, a to g in bits 0 to 6 (assumption log 70). -/
def glyph (d : Nat) : Nat := ([0x3F, 0x06, 0x5B, 0x4F, 0x66, 0x6D, 0x7D, 0x07, 0x7F, 0x6F] : List Nat).getD d 0

/-- The item shown. -/
def shownItem (s : State) : Option DispItem :=
  if s.disp.onButton then s.disp.button[s.disp.buttonAt]? else s.disp.auto[s.disp.autoAt]?

/-- The decimal digits of a number, units first, at most `n`. -/
def digitsOf : Nat → Nat → List Nat
  | 0, _ => []
  | n + 1, v => v % 10 :: (if v < 10 then [] else digitsOf n (v / 10))

/-- Positions 0 to 7: the value with its decimal point, and segment g in the leftmost unused position of a negative value
(11 R398, R399). -/
def valuePos (v : Int) (format : Nat) : List Nat :=
  let dp := format % 8
  let l0 := digitsOf 8 (v.natAbs / 10 ^ (format / 8 % 8))
  let l := l0 ++ List.replicate (if dp = 0 then 0 else dp + 1 - l0.length) 0
  (List.range 8).map (fun i =>
    (if i < l.length then glyph (l.getD i 0) else if v < 0 ∧ i = 7 then 0x40 else 0) + (if dp ≠ 0 ∧ i = dp then 0x80 else 0))

/-- Position 11: import, export, seal, chain, group loss (11 R398). -/
def statusPos (s : State) : Nat :=
  let p := s.legal.inst.getD 11 0
  b2n (decide (0 < p)) + 2 * b2n (decide (p < 0)) + 4 * rd s P30.SEAL_STATE
    + 8 * b2n (s.chain.u.st == .up || s.chain.d.st == .up) + 16 * b2n (s.tally.groups.any (fun g => g.2.loss))

/-- The 17 bytes of a display frame (11 R398). -/
def displayFrame (s : State) : List Byte :=
  let vals := match shownItem s with
    | some i => valuePos (regValue s i.id) i.format ++ [glyph (i.code % 16), glyph (i.code / 16)]
    | none => List.replicate 10 0
  leB 1 0 ++ (vals.map (leB 1)).flatten ++ leB 1 (2 ^ (rd s P31.RATE_NOW - 1)) ++ leB 1 (statusPos s) ++ zeros 4

/-- A frame is due: at a change of item, and once per second (11 R398). -/
def frameDue (s : State) : Bool :=
  match s.disp.shown with
  | some (i, t) => i != shownItem s || passed s t (secBeats 1)
  | none => true

/-- DISPLAY_REFRESH: a frame that is due is written; a NACK is counted and the frame retried at the next second (11 R398). -/
def execDisplayRefresh (ack : Bool) (s : State) : Host.Outcome State Fault Refusal :=
  .next (if rdB s P32.DISP_EN = false ∨ frameDue s = false then s
    else
      let s1 := emit (.display (rd s P32.DISP_ADDR) (displayFrame s))
        { s with disp := { s.disp with shown := some (shownItem s, s.beat.ticks) } }
      if ack then s1 else bump P32.DISP_ERRS s1)

/-- BUTTON_PRESS: the next item of the button list (11 R399). -/
def execButtonPress (s : State) : Host.Outcome State Fault Refusal :=
  .next (if s.disp.button.isEmpty then s
    else
      let i := if s.disp.onButton then (s.disp.buttonAt + 1) % s.disp.button.length else 0
      { s with disp := { s.disp with onButton := true, buttonAt := i, pressTick := s.beat.ticks } })

/-- SCROLL_EXPIRE: the automatic list advances every SCROLL_S (11 R399). -/
def execScrollExpire (s : State) : Host.Outcome State Fault Refusal :=
  .next (if s.disp.onButton = true ∨ s.disp.auto.isEmpty = true
      ∨ passed s s.disp.autoTick (secBeats (rd s P32.SCROLL_S)) = false then s
    else { s with disp := { s.disp with autoAt := (s.disp.autoAt + 1) % s.disp.auto.length, autoTick := s.beat.ticks } })

/-- DISP_TIMEOUT_EXPIRE: without a press the display returns to the automatic list (11 R399). -/
def execDispTimeoutExpire (s : State) : Host.Outcome State Fault Refusal :=
  .next (if s.disp.onButton = true ∧ passed s s.disp.pressTick (secBeats (rd s P32.DISP_TIMEOUT)) = true then
      { s with disp := { s.disp with onButton := false, autoTick := s.beat.ticks } }
    else s)

/-- A display list read from a payload. -/
def dispItems (p : List Byte) : List DispItem :=
  (List.range (byteAt p 1)).map (fun i => ⟨leAt p (16 + 4 * i) 2, byteAt p (18 + 4 * i), byteAt p (19 + 4 * i)⟩)

/-- DISPLAY_LIST's checks (11 R399). -/
def displayListBody (h : Hdr) (p : List Byte) (s : State) : Ans :=
  let n := byteAt p 1
  if byteAt p 0 ≠ 1 ∧ byteAt p 0 ≠ 2 then .fail stOutOfRange 0
  else if n = 0 ∨ 124 < n then .fail stOutOfRange 8
  else if p.length ≠ 16 + 4 * n then .fail stBadPayload 1
  else if (dispItems p).any (fun i => !legalIds.contains i.id) then .fail stUnknownObject 0
  else .accept (leB 4 n) p { cmd := some (.displayList h p) } s

/-- DISPLAY_LIST (11 R399). -/
def execDisplayList (h : Hdr) (p : List Byte) (s : State) : Host.Outcome State Fault Refusal :=
  .next (runCmd h p true (displayListBody h p) s)

/-- The effect of DISPLAY_LIST. -/
def effDisplayList (e : Eff) (s : State) : State :=
  let l := dispItems e.data
  if byteAt e.data 0 = 1 then
    wr P32.AUTO_COUNT l.length { s with disp := { s.disp with auto := l, autoAt := 0, autoTick := s.beat.ticks } }
  else wr P32.BUTTON_COUNT l.length { s with disp := { s.disp with button := l, buttonAt := 0 } }

/-- OUT_CMD after an OUTPUT_CONTROL (11 R401). -/
def newOutCmd (s : State) (p : List Byte) : Nat :=
  let m := byteAt p 0
  Nat.lor (Nat.land (rd s P32.OUT_CMD) (255 - m)) (Nat.land (byteAt p 1) m)

/-- OUTPUT_CONTROL's checks (11 R401). -/
def outputControlBody (h : Hdr) (p : List Byte) (s : State) : Ans :=
  if (List.range 8).any (fun n => bitAt (byteAt p 0) n && outMode s n != 2) then .fail stDeniedState 0
  else
    let v := newOutCmd s p
    .accept (leB 1 (outBits (wr P32.OUT_CMD v s)) ++ leB 1 v ++ zeros 6) p { cmd := some (.outputControl h p) } s

/-- OUTPUT_CONTROL (11 R401). -/
def execOutputControl (h : Hdr) (p : List Byte) (s : State) : Host.Outcome State Fault Refusal :=
  .next (runCmd h p true (outputControlBody h p) s)

/-- The effect of OUTPUT_CONTROL. -/
def effOutputControl (e : Eff) (s : State) : State := driveOutputs (wr P32.OUT_CMD (newOutCmd s e.data) s)

end Sys2Proof.Machine
end

