-- ==== Sys2Proof/Machine/Lanes.lean ====
section
/-! DEFINITION. The cipher lanes (12 R407 to R413): limits, keys, scheduling, pre-emption, completion. -/
namespace Sys2Proof.Machine

/-- LANE_JOB_POST (12 R408, R411, R412). -/
def execLaneJobPost (j : LaneJob) (s : State) : Host.Outcome State Fault Refusal :=
  .next (if jobLimitsOk j = false then failJob j .limit s else postJob j s)

/-- The lane of a job that has ended: a suspended job resumes before others start (12 R411, R412). -/
def nextOnLane (n : Nat) (s : State) : State :=
  let l := laneAt s n
  match l.suspended with
  | x :: r => setLane n { l with job := some x, suspended := r } s
  | [] =>
    let t := setLane n { l with job := none } s
    startJobs (t.keys.queue.length + 8) t

/-- What a job comes to: its status and its output; a frame of Infeed's is read from its flow, other jobs from memory (12
R409). -/
def jobResult (r : RunJob) (s : State) : JobStatus × List Byte :=
  match r.job.poster with
  | .infeed => ((infeedJob s r.job).map (fun u => runUnseal u r.key r.ak)).getD (.ok, [])
  | .downlink => (.ok, [])
  | _ => runMemory s r.job r.key

/-- A job ends: its completion record, and its output, or zeros in its place, where its poster finds it (12 R409). -/
def finishJob (r : RunJob) (s : State) : State :=
  let j := r.job
  let x := jobResult r s
  match j.poster with
  | .infeed => infeedTold j x.1 x.2 (jobDone j x.1 (jobCycles j) s)
  | .downlink => jobDone j x.1 (jobCycles j) s
  | _ => jobDone j x.1 (jobCycles j) (wrMems j.dst x.2 s)

/-- The job of a lane is broken off with a status (14 R466). -/
def endLane (n : Nat) (st : JobStatus) (cycles : Nat) (s : State) : State :=
  match (laneAt s n).job with
  | none => s
  | some r => nextOnLane n (count 0x08 n (cycles / 22) (infeedTold r.job st [] (jobDone r.job st cycles (zeroOut r.job s))))

/-- LANE_JOB_COMPLETE: the job ends in a slot that was granted and has room for what is left of it. `st` and `cycles` are what
its completion record holds (01 R11; 12 R407, R409, R411). -/
def execLaneJobComplete (lane : Fin 8) (st : JobStatus) (cycles : Nat) (s : State) : Host.Outcome State Fault Refusal :=
  let n := lane.val
  .next (match (laneAt s n).job with
    | none => s
    | some r =>
      if (laneAt s n).budget < r.left ∨ st ≠ (jobResult r s).1 ∨ cycles ≠ jobCycles r.job then s
      else
        let t := setLane n { laneAt s n with budget := (laneAt s n).budget - r.left } s
        nextOnLane n (count 0x08 n (jobOps r.job) (finishJob r t)))

/-- The failing status of a job that read a poisoned line: which one, the spec does not say (14 R466). -/
def brokenStatus (draw : Nat) : JobStatus :=
  ([.authFail, .keyAbsent, .keyDenied, .limit] : List JobStatus).getD (Config.poisonStatus draw % 5) .aborted

/-! Tamper (12 R424). -/

/-- Every key erased; the lanes are free, so queued jobs start and find no key (12 R411, R424). -/
def wipeAll (s : State) : State := startJobs (s.keys.queue.length + 8) (wipeKeys s)

/-- ZEROISED_TAMPER: TAMPER_N low with main power (12 R424). -/
def execZeroisedTamper (s : State) : Host.Outcome State Fault Refusal :=
  .next (if s.pwr.mode = .dormant ∨ s.pwr.mode = .off then s
    else
      let s1 := wipeAll { s with keys := { s.keys with store := [], storeWritten := false, replaced := [] } }
      logEv evZeroisedTamper [] (bump P40.ZEROISATIONS (wr P40.STORE_LOST 1 (wr P40.TAMPER_SEEN 1 (keyFields s1)))))

end Sys2Proof.Machine
end

