-- ==== Sys2Proof/Machine/Totalizer.lean ====
section
/-! DEFINITION. The totalizer's events: legal seconds, intervals, closures, rates, steps, lockstep, seal (11 R372 to R396; 15
R500, R501). -/
namespace Sys2Proof.Machine

/-! Measurement (11 R371 to R373). -/

/-- Metrology computes: powered, scaled, and the pair not stopped (11 R371; 00 R3). -/
def metroRuns (s : State) : Bool :=
  metroOn s && rd s P30.VFS_MV != 0 && rd s P30.IFS_MA != 0 && rd s P30.INFS_MA != 0 && !legalStopped s

/-- A sample set stamped and assigned: the decimation delay is removed from the chain time at which the set came out; the
stamp names the beat and, with the Δ_L in force, the legal second; the weight is 125 µs scaled by the Plumb rate (11 R370;
assumption log 120). -/
def stampSet (s : State) (x : SampleSet) : MetSet :=
  let d := (x.after : Int) * fabricCycle
  let stamp := s.plumb.chain + d + d * s.plumb.rate / 1000000000 - (Config.setDelay : Int)
  let w := 125000 * nsU
  ⟨stamp, stamp / w, ((stamp / nsU + (legalNs s - chainNs s)) / 1000000000).toNat,
    (w + w * s.plumb.rate / 1000000000).toNat, x.bits.map Config.decimated⟩

/-- The sets that came out in the beat that ends, kept while metrology is powered (11 R370; 00 R3). -/
def takeSets (i : BeatIn) (s : State) : State :=
  if metroOn s then { s with legal := { s.legal with sets := s.legal.sets ++ i.sets.map (stampSet s) } } else s

/-- Channel `k`'s samples of the sets, calibrated and scaled: mV for channels 0 to 3 and mA for 4 to 7, in 2^-16 (11 R371,
R380). -/
def channel (s : State) (sets : List MetSet) (k : Nat) : List Int :=
  let raw := sets.map (fun m => (m.smp.getD k 0).toInt)
  let gain := leAt s.legal.calSet (4 * k) 3
  let offset := toS 16 (leAt s.legal.calSet (32 + 2 * k) 2)
  let phase := if 4 ≤ k ∧ k ≤ 6 then toS 16 (leAt s.legal.calSet (48 + 2 * (k - 4)) 2) else 0
  let scale := if k < 4 then rd s P30.VFS_MV else if k < 7 then rd s P30.IFS_MA else rd s P30.INFS_MA
  (List.range raw.length).map (fun j => Int.tdiv (Config.calibrated gain offset phase raw j * scale) (2 ^ 23))

/-- The weights of sets. -/
def weights (sets : List MetSet) : List Int := sets.map (fun m => (m.weight : Int))

/-- The sum of the products of two channels over the sets, each weighted by its period. -/
def weighted (w a b : List Int) : Int := ((w.zip (a.zip b)).map (fun x => x.1 * (x.2.1 * x.2.2))).sum

/-- The root mean square of a channel over the sets (11 R373). -/
def rmsOf (w a : List Int) : Nat := Nat.sqrt ((weighted w a a).toNat / w.sum.toNat)

/-- An energy in 2^-32 Wh, varh or VAh of a weighted sum (11 R372). -/
def energyOf (x : Int) : Int := Int.tdiv x (65536 * 3600 * 10 ^ 15)

/-- A mean power in 2^-32 W or var of a weighted sum (11 R373). -/
def powerOf (w : List Int) (x : Int) : Int := if w.sum = 0 then 0 else Int.tdiv x (w.sum * 1000000)

/-- The rising crossings of a voltage, by linear interpolation between two samples, in 2^-16 ns (11 R373; 07 R237). -/
def risings : List (Int × Int) → List Int
  | a :: b :: l =>
    let rest := risings (b :: l)
    if a.2 < 0 ∧ 0 ≤ b.2 then (a.1 + (b.1 - a.1) * (-a.2) / (b.2 - a.2)) :: rest else rest
  | _ => []

/-- The mean frequency between the first and the last crossing, in mHz (11 R373; assumption log 120). -/
def frequencyOf (l : List Int) : Int :=
  match l.head?, l.getLast? with
  | some a, some b => if a < b then ((l.length - 1 : Nat) : Int) * (10 ^ 12 * nsU) / (b - a) else Config.idleFrequency
  | _, _ => Config.idleFrequency

/-- What the pair computes over the sets of one legal second: energies and registers 0x0101 to 0x0119 (11 R372, R373;
assumption log 120). -/
def secondOf (sets : List MetSet) (s : State) : LegalSecIn :=
  let w := weights sets
  let ch := (List.range 8).map (channel s sets)
  let at_ := fun (k : Nat) => ch.getD k []
  let ph := List.range 3
  let turned := fun (k : Nat) => (List.range sets.length).map (Config.shifted (at_ k))
  let act := ph.map (fun k => weighted w (at_ k) (at_ (4 + k)))
  let rea := ph.map (fun k => weighted w (turned k) (at_ (4 + k)))
  let rms := ch.map (rmsOf w)
  let app := ph.map (fun k => rms.getD k 0 * rms.getD (4 + k) 0)
  let p := act.map (powerOf w)
  let q := rea.map (powerOf w)
  let watts := fun (x : Int) => Int.tdiv x (2 ^ 32)
  let va := app.map (fun x => (x / 1000000 / 2 ^ 32 : Nat))
  let sTot : Int := (app.sum / 1000000 : Nat)
  let factor := if sTot = 0 then Config.idleFactor else Int.tdiv (1000 * p.sum) sTot
  let freq := frequencyOf (risings ((sets.map MetSet.stamp).zip (at_ 0)))
  { e := act.map energyOf
    q := rea.map energyOf
    va := app.map (fun x => x / (3600 * 1000000))
    inst := rms.map (fun x => ((x / 65536 : Nat) : Int)) ++ (p.map watts ++ [watts p.sum]) ++ (q.map watts ++ [watts q.sum])
      ++ (va.map Int.ofNat ++ [((app.sum / 1000000 / 2 ^ 32 : Nat) : Int)]) ++ [factor, freq]
      ++ ph.map (fun k => Config.angle (p.getD k 0) (q.getD k 0)) }

/-- The positive part of a number. -/
def pos (i : Int) : Nat := i.toNat

/-- A phase's energy lies below the creep limit (11 R372). -/
def creeps (s : State) (e : Int) : Bool := decide (e.natAbs * 3600 < rd s P30.P_CREEP * 2 ^ 32)

/-- The quadrant's place among the accumulators (11 R372). -/
def quadrant (e q : Int) : Nat :=
  if 0 ≤ e then (if 0 ≤ q then 8 else 11) else (if 0 ≤ q then 9 else 10)

/-- An accumulator raised. -/
def addAcc (i n : Nat) (l : List Nat) : List Nat := l.set i (l.getD i 0 + n)

/-- The energy registers after one legal second (11 R372). -/
def measure (m : LegalSecIn) (s : State) : State :=
  let e := fun (k : Nat) => if creeps s (m.e.getD k 0) then 0 else m.e.getD k 0
  let q := fun (k : Nat) => if creeps s (m.e.getD k 0) then 0 else m.q.getD k 0
  let et := e 0 + e 1 + e 2
  let qt := q 0 + q 1 + q 2
  let r := rd s P31.RATE_NOW - 1
  let phase := fun (l : List Nat) (k : Nat) => addAcc (4 + k) (pos (-(e k))) (addAcc k (pos (e k)) l)
  let imp := ((List.range 3).map (fun k => if 0 < e k then m.va.getD k 0 else 0)).sum
  let a := (List.range 3).foldl phase s.legal.core.acc
  let a := addAcc 7 (pos (-et)) (addAcc 3 (pos et) a)
  let a := addAcc (21 + r) (pos (-et)) (addAcc (13 + r) (pos et) a)
  let a := addAcc 12 imp (addAcc (quadrant et qt) qt.natAbs a)
  let v := (List.range 3).map (fun k => s.legal.core.prof.volts.getD k 0 + pos (m.inst.getD k 0))
  feedPulses (pos et) (modCore (fun c => { c with acc := a, prof := { c.prof with volts := v, n := c.prof.n + 1 } })
    { s with legal := { s.legal with inst := padInst m.inst } })
where
  /-- The 25 instantaneous registers. -/
  padInst (l : List Int) : List Int := l.take 25 ++ List.replicate (25 - l.length) 0

/-- A calibration set released before the second applies to it; the profile interval that holds its first second carries
CAL_CHANGED (11 R380). -/
def applyCal (t : Nat) (s : State) : State :=
  match s.legal.calNext with
  | some (some n, set_) =>
    let s1 := { s with legal := { s.legal with calSet := set_ } }
    if n + 2 ≤ t then
      modCore (fun c => { c with prof := { c.prof with calChanged := true } }) { s1 with legal := { s1.legal with calNext := none } }
    else s1
  | _ => s

/-- The battery counter realigned at a whole second of legal time (03 R119). -/
def realign (s : State) : State :=
  if s.plumb.est then { s with batt := { s.batt with legal := battUnits (legalNs s), slot := battUnits (slotNs s) } } else s

/-- The sets of the legal seconds that ended become sums, of which the front end keeps 64; those of second `t` stay (11 R370,
R372; 15 R500). -/
def endSets (t : Nat) (s : State) : State :=
  let (now, past) := s.legal.sets.partition (fun m => m.sec == t)
  let l := s.legal.sums ++ (if metroRuns s then [(false, secondOf past s)] else [])
  { s with legal := { s.legal with sets := now, sums := l.drop (l.length - 64) } }

/-- The sums that the last checkpoint does not hold, applied (11 R372; 15 R501). -/
def applySums (s : State) : State :=
  (s.legal.sums.filter (fun x => !x.1)).foldl (fun t x => measure x.2 t) s

/-- The checkpoint at the end of a legal second (15 R500). -/
def checkpointPair (s : State) : State :=
  { s with legal := { s.legal with check := s.legal.core.acc, sums := s.legal.sums.map (fun x => (true, x.2)) } }

/-- LEGAL_SECOND_END: sums, registers, instantaneous values and the checkpoint, once per legal second, at the second `sec` (11
R372, R373; 15 R500; 03 R119). -/
def execLegalSecondEnd (sec : Nat) (s : State) : Host.Outcome State Fault Refusal :=
  let t := nowL s
  .next (
    if t ≠ sec ∨ t = s.legal.lastSec then s
    else
      let s0 := endSets t (realign { s with legal := { s.legal with lastSec := t } })
      if legalIdle s then s0 else checkpointPair (applyCal t (applySums s0)))

/-- The fields of pages 0x30 and 0x31 that follow the pair's condition; while it waits, energy goes to DEFAULT_RATE (11
R371, R383). -/
def legalFields (s : State) : State :=
  let s1 := if legalWaits s = true ∧ legalIdle s = false
      ∧ (rd s P31.RATE_NOW ≠ rd s P31.DEFAULT_RATE ∨ rd s P31.PATTERN_NOW ≠ 0) then evalRate (nowL s) false false false s else s
  wrB P31.CAL_WAITING (legalWaits s1) (wrB P30.METRO_RUN (metroRuns s1) s1)

/-- What each beat does for the pair: restoration at the entry into RUN, entries that wait, the fields, the outputs. -/
def legalBeat (s : State) : State :=
  let s1 := if s.legal.restore = true ∧ running s = true ∧ legalStopped s = false then outageRestore s else s
  driveOutputs (legalFields (if s1.legal.core.queue.all LegalEnt.posted then s1 else legalPost s1))

/-! Instants (11 R391). -/

/-- The first due work, when it is of one kind. -/
def dueOf (place : Nat) (s : State) : State :=
  if legalIdle s then s
  else match firstDue s (nowL s) with
    | some x => if x.2 = place then doDue x false s else s
    | none => s

/-- PROFILE_INTERVAL_END (11 R387). -/
def execProfileIntervalEnd (s : State) : Host.Outcome State Fault Refusal := .next (dueOf 1 s)

/-- DEMAND_INTERVAL_END (11 R388). -/
def execDemandIntervalEnd (s : State) : Host.Outcome State Fault Refusal := .next (dueOf 2 s)

/-- SCHEDULED_CLOSURE (11 R389). -/
def execScheduledClosure (s : State) : Host.Outcome State Fault Refusal := .next (dueOf 3 s)

/-- CALENDAR_ACTIVATION (11 R386). -/
def execCalendarActivation (s : State) : Host.Outcome State Fault Refusal := .next (dueOf 4 s)

/-- The newest whole local minute (11 R385). -/
def thisMinute (s : State) : Nat :=
  let u := (rd s P10.UTC_TAI : Int)
  (((nowL s : Int) - u) / 60 * 60 + u).toNat

/-- CALENDAR_MINUTE: rate and pattern evaluated at the whole local minute, after what R391 puts before it (11 R385, R391). -/
def execCalendarMinute (s : State) : Host.Outcome State Fault Refusal :=
  let m := thisMinute s
  .next (
    if legalIdle s = true ∨ m ≤ s.legal.evalAt ∨ (firstDue s m).isSome = true then s
    else driveOutputs (evalRate m false false false s))

/-- DST_CHANGE: daylight time begins or ends (11 R395). -/
def execDstChange (s : State) : Host.Outcome State Fault Refusal :=
  let t := nowL s
  let old := rdB s P31.DST_ON
  .next (
    if legalIdle s = true ∨ dstAt s t = old then s
    else
      let at_ := ((lastDst s t).map (fun x => x.1.toNat)).getD t
      let s1 := catchUp false at_ (4 * (t - min s.legal.evalAt (min s.legal.core.prof.start s.legal.core.dem.start)) + 16) s
      driveOutputs (localChange at_ ((at_ : Int) + localOff s1 old) s1))

/-! Steps (03 R116; 11 R393, R394). -/

/-- The step of legal time that waits: of SET_LEGAL_TIME released, or accepted only by replay once Plumb is LOCKED or FREE
(03 R116). -/
def stepWaits (s : State) : Option Int :=
  match s.plumb.legalDue with
  | some o => some o
  | none => if lockedOrFree s then s.plumb.legalReplayed else none

/-- Why legal time steps: 0 commissioning, 2 after loss, 1 after divergence (11 Table 11-3). -/
def stepDetail (s : State) : Nat :=
  if rdB s P03.LEGAL_COMMISSIONED = false then 0 else if rdB s P03.LEGAL_INVALID then 2 else 1

/-- Legal time stepped; Tally takes note of both times (03 R116; 07 R231). -/
def stepAndNote (off : Int) (s : State) : State :=
  let t := stepLegal off { s with plumb := { s.plumb with legalReplayed := none } }
  { t with tally := { t.tally with stepped := t.tally.stepped ++ [legalNs s, legalNs t] } }

/-- LEGAL_TIME_STEPPED: work due before the step, both intervals split, the step, then what it passes (03 R116; 11 R391,
R393, R394). -/
def execLegalTimeStepped (s : State) : Host.Outcome State Fault Refusal :=
  .next (match stepWaits s with
    | none => s
    | some off =>
      let s0 := if s.legal.restore = true ∧ running s = true ∧ legalStopped s = false then outageRestore s else s
      if legalIdle s0 then stepAndNote off s0
      else
        let t0 := nowL s0
        let s1 := splitBoth t0 (catchUpNow false s0)
        let first := !rdB s1 P03.LEGAL_COMMISSIONED
        let s2 := stepAndNote off s1
        driveOutputs (legalFields (afterStep t0 first (stepDetail s1) { s2 with legal := { s2.legal with lastSec := nowL s2 } })))

/-! Lockstep (15 R500, R501) and the seal (11 R381). -/

/-- LEGAL_LOCKSTEP: counted and logged; the pair restores its checkpoint and posts its entries again; the third mismatch in
24 h stops it (15 R501; 11 R403). -/
def execLegalLockstep (s : State) : Host.Outcome State Fault Refusal :=
  let l := (s.legal.mismatches.filter (fun t => !passed s t (secBeats 86400))) ++ [s.beat.ticks]
  let s1 := logEv evLegalLockstep [] (bump P50.LOCKSTEP_MISMATCHES { s with legal := { s.legal with mismatches := l } })
  .next (
    if legalStopped s then s
    else if 3 ≤ l.length then
      logEv evLegalFrozen [] { s1 with cmd := { s1.cmd with
        funcFailed := assocSet 0x31 0x0003 (assocSet 0x30 0x0003 s1.cmd.funcFailed) } }
    else legalRepost (applySums (modCore (fun c => { c with acc := s.legal.check }) s1)))

/-- SEAL_N_CHANGE: a debounced change is logged in the legal log and the event recorder (11 R381). -/
def execSealNChange (asserted : Bool) (s : State) : Host.Outcome State Fault Refusal :=
  .next (
    if rdB s P30.SEAL_STATE = asserted then s
    else
      let s1 := logEv (if asserted then evSealAsserted else evSealReleased) [] (wrB P30.SEAL_STATE asserted s)
      if legalStopped s then s1 else legalLog (if asserted then 0x06 else 0x07) 0 0 0 s1)

end Sys2Proof.Machine
end

