-- ==== Sys2Proof/Machine/Update.lean ====
section
/-! DEFINITION. TARIFF_PUSH, and the update of the device's own firmware (10 R344, R345, R356 to R365). -/
namespace Sys2Proof.Machine

/-! Tariff push (10 R344, R345). -/

/-- The first check of a TABLE that fails, as a status and detail (10 R344, first two checks). -/
def tableBad (p : List Byte) : Option (Nat × Nat) :=
  let tbl := p.drop 16
  if tbl.length = 0 ∨ 8000 < tbl.length then some (stBadPayload, 16)
  else if byteAt p 13 = 1 then (calBad tbl).map (fun o => (stBadPayload, 16 + o))
  else if byteAt p 13 = 2 then none
  else some (stOutOfRange, 104)

/-- TARIFF_PUSH's checks; the TARIFF entry shares the group of the command (10 R344, R345). -/
def tariffPushBody (h : Hdr) (p : List Byte) (s : State) : Ans :=
  let sel := selected10 s (bitAt (byteAt p 14) 0) (leAt p 0 4) (leAt p 4 4)
  match tableBad p with
  | some (st, d) => .fail st d
  | none =>
    if leAt p 8 5 ≤ legalSec s then .fail stOutOfRange 64
    else if rdB s P03.LEGAL_INVALID = true ∨ sel = [] then .fail stDeniedState 0
    else
      let no := s.dl.nextPush
      let x : Push := { no := no, activate := leAt p 8 5, format := byteAt p 13, table := p.drop 16,
                        meters := sel.map (fun m => (m, 1)) }
      let cmdE := { commandEntry h p (zeros 8) [] { cmd := none, data := p } with fill := 1 }
      .stays (postGroup [cmdE, dlEntry 7 0 0 0 0 0 0 0 p no false]
        { s with dl := { s.dl with pushes := s.dl.pushes ++ [x], nextPush := no + 1 } })

/-- TARIFF_PUSH (10 R344). -/
def execTariffPush (h : Hdr) (p : List Byte) (s : State) : Host.Outcome State Fault Refusal :=
  .next (runCmd h p true (tariffPushBody h p) s)

/-! Components and slots (10 R356, R357). -/

/-- The largest image of a component in bytes (10 Table 10-12). -/
def largestImage (c : Nat) : Nat := ([524288, 33554432, 4194304, 2097152, 262144] : List Nat).getD c 0

/-- A component. -/
def compAt (s : State) (c : Nat) : FwComp := s.dl.comps.getD c {}

/-- A component changed. -/
def modComp (c : Nat) (f : FwComp → FwComp) (s : State) : State :=
  { s with dl := { s.dl with comps := s.dl.comps.set c (f (compAt s c)) } }

/-- The slot that is not active. -/
def FwComp.idle (x : FwComp) : FwSlot := x.slots.getD (1 - x.active) {}

/-- The slot that is not active changed. -/
def FwComp.modIdle (f : FwSlot → FwSlot) (x : FwComp) : FwComp := { x with slots := x.slots.set (1 - x.active) (f x.idle) }

/-- The IMAGE_BEGIN header of a slot of component `c`; a slot never written by an update holds the factory image. -/
def slotHead (c : Nat) (x : FwSlot) : List Byte := if x.begin_ = [] then Config.factoryImage c else x.begin_

/-- The header of the active slot. -/
def activeHead (s : State) (c : Nat) : List Byte := slotHead c ((compAt s c).slots.getD (compAt s c).active {})

/-- Major, minor and patch as one number that orders versions. -/
def version10 (p : List Byte) : Nat := byteAt p 8 * 2 ^ 24 + byteAt p 9 * 2 ^ 16 + leAt p 10 2

/-- The rules of component 4: seal mode, then the seal (10 R363). -/
def legalRule (s : State) (c : Nat) : Option (Nat × Nat) :=
  if c ≠ 4 then none
  else if rdB s P60.LEGAL_UPD_MODE = false then some (stDeniedLegal, 0)
  else if rdB s P30.SEAL_STATE = false then some (stDeniedSeal, 0)
  else none

/-- IMAGE_BEGIN's checks (10 R357, R363). -/
def imageBeginBody (h : Hdr) (p : List Byte) (s : State) : Ans :=
  let c := byteAt p 0
  let len := leAt p 4 4
  let st := (compAt s c).idle.st
  if 4 < c then .fail stOutOfRange 0
  else if len = 0 ∨ largestImage c < len then .fail stOutOfRange 32
  else if st = 3 ∨ st = 4 then .fail stDeniedState 0
  else match legalRule s c with
    | some (x, d) => .fail x d
    | none =>
      if c = 4 ∧ version10 p ≤ version10 (activeHead s 4) then .fail stOutOfRange 64
      else .accept (leB 4 s.dl.nextUpdate ++ leB 1 (1 - (compAt s c).active) ++ zeros 3) p
        { cmd := some (.imageBegin h p), args := [s.dl.nextUpdate] }
        { s with dl := { s.dl with nextUpdate := s.dl.nextUpdate + 1 } }

/-- IMAGE_BEGIN (10 R357). -/
def execImageBegin (h : Hdr) (p : List Byte) (s : State) : Host.Outcome State Fault Refusal :=
  .next (runCmd h p true (imageBeginBody h p) s)

/-- The effect of IMAGE_BEGIN: an update already open is abandoned (10 R357). -/
def effImageBegin (e : Eff) (s : State) : State :=
  let c := byteAt e.data 0
  let s1 := if (compAt s c).openId = 0 then s else logEv evUpdateAbandoned [] s
  modComp c (fun x => { x.modIdle (fun _ => { st := 1, begin_ := e.data }) with openId := e.args.getD 0 0 }) s1

/-- The component of an open update. -/
def updateOf (s : State) (id : Nat) : Option Nat :=
  if id = 0 then none else (List.range 5).find? (fun c => (compAt s c).openId == id)

/-- LENGTH of an open update. -/
def updateLen (s : State) (c : Nat) : Nat := leAt (compAt s c).idle.begin_ 4 4

/-- IMAGE_BLOCK's checks; the block is in the slot before its entry is recorded (10 R358). -/
def imageBlockBody (p : List Byte) (s : State) : Ans :=
  match updateOf s (leAt p 0 4) with
  | none => .fail stUnknownObject 0
  | some c =>
    let off := leAt p 4 4
    let d := (p.drop 16).take (updateLen s c - off)
    let bs := (compAt s c).idle.blocks
    if off % 4096 ≠ 0 ∨ updateLen s c ≤ off then .fail stOutOfRange 32
    else if leAt p 8 4 ≠ crc32c (p.drop 16) then .fail stBadPayload 8
    else if (overlapDiff off d bs).isSome then .fail stBadPayload 16
    else
      let bs1 := if bs.any (fun b => b.1 == off) then bs else insPart (off, d) bs
      .accept (leB 4 (heldFrom 0 bs1) ++ leB 4 (lowestMissing 0 bs1)) [] {}
        (modComp c (FwComp.modIdle (fun x => { x with blocks := bs1 })) s)

/-- IMAGE_BLOCK (10 R358). -/
def execImageBlock (h : Hdr) (p : List Byte) (s : State) : Host.Outcome State Fault Refusal :=
  .next (runCmd h p true (imageBlockBody p) s)

/-- IMAGE_COMMIT's checks; a failed verification empties the slot and closes the update (10 R359, R363). -/
def imageCommitBody (h : Hdr) (p : List Byte) (sigOk : Bool) (s : State) : Ans :=
  match updateOf s (leAt p 0 4) with
  | none => .fail stUnknownObject 0
  | some c =>
    match legalRule s c with
    | some (x, d) => .fail x d
    | none =>
      let t := postP256 (ceilDiv (48 + updateLen s c) 98304 + 17) s
      if lowestMissing 0 (compAt s c).idle.blocks < updateLen s c then .fail stDeniedState 0
      else if sigOk then
        .accept (leB 4 (leAt p 0 4) ++ leB 1 (1 - (compAt s c).active) ++ zeros 3) p { cmd := some (.imageCommit h p sigOk), args := [c] } t
      else .stays (finish h p stAuthFailed 0 [] (modComp c (fun x => { x.modIdle (fun _ => {}) with openId := 0 }) t))

/-- IMAGE_COMMIT (10 R359). -/
def execImageCommit (h : Hdr) (p : List Byte) (sigOk : Bool) (s : State) : Host.Outcome State Fault Refusal :=
  .next (runCmd h p true (imageCommitBody h p sigOk) s)

/-- The effect of IMAGE_COMMIT: the slot is COMMITTED (10 R359). -/
def effImageCommit (e : Eff) (s : State) : State :=
  modComp (e.args.getD 0 0) (fun x => { x.modIdle (fun y => { y with st := 2 }) with openId := 0 }) s

/-! Activation (10 R360, R361). -/

/-- The header of a component in the set an activation forms. -/
def setHead (s : State) (mask c : Nat) : List Byte :=
  if bitAt mask c then slotHead c (compAt s c).idle else activeHead s c

/-- IFACE of `y` lies in the range `x` accepts (10 R360). -/
def accepts10 (s : State) (mask x y : Nat) : Bool :=
  let hx := setHead s mask x
  let i := leAt (setHead s mask y) 12 2
  x == y || (decide (leAt hx (16 + 4 * y) 2 ≤ i) && decide (i ≤ leAt hx (18 + 4 * y) 2))

/-- The first pair that is not consistent, in ascending X, then Y (10 R360, R361). -/
def badPair (s : State) (mask : Nat) : Option Nat :=
  (((List.range 5).flatMap (fun x => (List.range 5).map (fun y => (x, y)))).find? (fun q =>
    !accepts10 s mask q.1 q.2)).map (fun q => 0x100 * q.1 + q.2)

/-- IMAGE_ACTIVATE's checks (10 R361, R363). -/
def imageActivateBody (h : Hdr) (p : List Byte) (s : State) : Ans :=
  let mask := byteAt p 0 % 32
  if mask = 0 ∨ (bitAt mask 4 = true ∧ mask ≠ 16) then .fail stBadPayload 0
  else if s.dl.pendingMask ≠ 0 ∨ s.dl.trialMask ≠ 0 then .fail stDeniedState 0
  else match (List.range 5).find? (fun c => bitAt mask c && (compAt s c).idle.st != 2) with
    | some c => .fail stDeniedState c
    | none => match badPair s mask with
      | some d => .fail stDeniedState d
      | none => match (if bitAt mask 4 then legalRule s 4 else none) with
        | some (x, d) => .fail x d
        | none => .accept (leB 1 mask ++ zeros 7) p { cmd := some (.imageActivate h p) } s

/-- IMAGE_ACTIVATE (10 R361). -/
def execImageActivate (h : Hdr) (p : List Byte) (s : State) : Host.Outcome State Fault Refusal :=
  .next (runCmd h p true (imageActivateBody h p) s)

/-- The slots of a set brought to a state. -/
def markSet (mask st : Nat) (s : State) : State :=
  (List.range 5).foldl (fun t c => if bitAt mask c then modComp c (FwComp.modIdle (fun x => { x with st := st })) t else t) s

/-- The effect of IMAGE_ACTIVATE: the set is pending; RESET_NOW starts a device reset 1 ms after the reply (10 R361). -/
def effImageActivate (e : Eff) (s : State) : State :=
  let mask := byteAt e.data 0 % 32
  let s1 := markSet mask 3 { s with dl := { s.dl with pendingMask := mask } }
  if bitAt (byteAt e.data 1) 0 then { s1 with dl := { s1.dl with resetNowAt := some s.beat.ticks } } else s1

/-! Status (10 R365). -/

/-- A 24-byte component record (10 R365). -/
def compRecord (s : State) (c : Nat) : List Byte :=
  let x := compAt s c
  let a := activeHead s c
  let i := x.idle.begin_
  leB 1 x.active ++ leB 1 x.idle.st ++ zeros 2 ++ sliceB (padTo 16 a) 8 6 ++ sliceB (padTo 16 i) 8 6 ++ leB 4 x.openId
    ++ leB 4 (heldFrom 0 x.idle.blocks)

/-- IMAGE_STATUS (10 R365). -/
def execImageStatus (h : Hdr) (p : List Byte) (s : State) : Host.Outcome State Fault Refusal :=
  .next (runCmd h p false (fun t => .done (((List.range 5).map (compRecord t)).flatten ++ leB 1 (rd t P60.BOOT_TRIES)
    ++ leB 1 (rd t P30.SEAL_STATE + 2 * rd t P60.LEGAL_UPD_MODE + 4 * b2n t.dl.rolledBack) ++ zeros 6) t) s)

/-! Trial boots (10 R362). -/

/-- The components of a set. -/
def maskComps (mask : Nat) : List Nat := (List.range 5).filter (bitAt mask)

/-- UPDATE_CONFIRMED: after CONFIRM_S in RUN the trial set becomes active and the previous slots stay as the fallback (10
R362). -/
def execUpdateConfirmed (s : State) : Host.Outcome State Fault Refusal :=
  let due := match s.dl.runAt with
    | some t => passed s t (secBeats (rd s P60.CONFIRM_S))
    | none => false
  .next (
    if s.dl.trialMask = 0 ∨ running s = false ∨ due = false then s
    else
      let swap := fun (t : State) (c : Nat) =>
        modComp c (fun x => let y := x.modIdle (fun z => { z with st := 0 })
                            { y with active := 1 - x.active, slots := y.slots.set x.active { y.slots.getD x.active {} with st := 2 } }) t
      let s1 := (maskComps s.dl.trialMask).foldl swap s
      logEv evUpdateConfirmed [] (wr P60.BOOT_TRIES 0 { s1 with dl := { s1.dl with trialMask := 0, rolledBack := false } }))

/-- The third failed boot: every component of the set boots its previous slot (10 R362). -/
def rollBack (s : State) : State :=
  logEv evUpdateRollback [] (wr P60.BOOT_TRIES 0
    (markSet s.dl.trialMask 5 { s with dl := { s.dl with trialMask := 0, rolledBack := true } }))

/-- BOOT_TRIAL at start-up: a pending set boots on trial, a boot that a reset cut off counts as failed, the third failed
boot rolls back; BOOT_TRIES rises before each boot (10 R361, R362). `failed`: the reset was none of the three that do not
count. -/
def bootTrial (failed : Bool) (s : State) : State :=
  if s.dl.pendingMask ≠ 0 then
    let m := s.dl.pendingMask
    let s1 := wr P60.BOOT_TRIES 1 (markSet m 4 { s with dl := { s.dl with pendingMask := 0, trialMask := m } })
    if bitAt m 4 then legalLog 0x09 0 0 0 s1 else s1
  else if s.dl.trialMask = 0 ∨ failed = false then s
  else if 3 ≤ rd s P60.BOOT_TRIES then rollBack s
  else wr P60.BOOT_TRIES (rd s P60.BOOT_TRIES + 1) s

end Sys2Proof.Machine
end

