-- ==== Sys2Proof/Machine/Pair.lean ====
section
/-! DEFINITION. Dovetail (15 R485 to R498, R502, R503): joining, replicated input, beat frames, digests, divergence,
promotion and leaving. -/
namespace Sys2Proof.Machine

/-! Digests (15 R492). -/

/-- One bit step of the CRC-64 of R492. -/
def crc64Bit (c : Nat) : Nat :=
  if 2 ^ 63 ≤ c then Nat.xor (c * 2 % 2 ^ 64) 0x42F0E1EBA9EA3693 else c * 2

/-- One byte of the CRC-64. -/
def crc64Byte (c : Nat) (b : Byte) : Nat :=
  crc64Bit (crc64Bit (crc64Bit (crc64Bit (crc64Bit (crc64Bit (crc64Bit (crc64Bit (Nat.xor c (b.toNat * 2 ^ 56)))))))))

/-- CRC-64, polynomial 0x42F0E1EBA9EA3693, initial value 0, no reflection, no final exclusive-or. -/
def crc64 (p : List Byte) : Nat := p.foldl crc64Byte 0

/-- The bytes of an output record. -/
def recBytes (r : List Nat) : List Byte := (List.range 16).map (Config.outputRecord r)

/-- The digest of a beat's output records. -/
def digestOf (l : List (List Nat)) : Nat := crc64 ((l.map recBytes).flatten)

/-! The chip's own frame (15 R489). -/

/-- Groups are complete locally up to this one. -/
def localComplete (s : State) : Nat :=
  (((s.ledger.groups.takeWhile (fun g => g.accepted || g.complete)).map Group.no).filter
    (fun n => decide (n < carryBase))).foldl max (rd s P12.LAST_GROUP)

/-- FLAGS (15 Table 15-2); FAULT lasts for the beat of the event and the 7 after it. -/
def frameFlags (s : State) : Nat :=
  let fault := match s.pair.faultAt with
    | some t => decide (s.beat.ticks < t + 8)
    | none => false
  b2n (pairState s == 2) + 2 * b2n fault + 4 * b2n (s.pwr.mode == .holdup) + 8 * b2n (ownClosed s) + 16 * b2n (ownFull s)
    + 32 * b2n (pairState s == 5) + 64 * b2n (pairState s == 4) + 128 * b2n (pairState s == 6)

/-- The frame of the beat that ends (15 Table 15-2). -/
def ownFrame (s : State) : BeatFrame :=
  let pins := [4, outBits s, b2n s.pwr.pwrReq.isSome]
  { beat := s.beat.number, digest := digestOf (s.pair.recs ++ [pins]), flags := frameFlags s,
    admitCount := if pairState s = 2 then (s.pair.inputs.filter (fun x => x.1 == s.beat.number)).length else 0,
    complete := localComplete s, eDisc := s.pair.ownDen.1, limitL := s.pair.ownDen.2.1, limitM := s.pair.ownDen.2.2,
    deltaL := if pairState s = 2 then s.plumb.deltaL else 0 }

/-! Release (15 R493). -/

/-- A held reply sent. -/
def releaseOut (o : HeldOut) (s : State) : State :=
  if silent s then s else sendReplyNow o.hdr o.status o.detail o.data s

/-- The pins' levels at the end of a beat. -/
def releasePins (pins : Nat) (req : Option Nat) (s : State) : State :=
  let t := drivePins pins s
  match req with
  | some c => driveReq c t
  | none => t

/-- The outputs of a beat released: a PRIMARY or SOLO chip sends its replies, a SHADOW sends nothing; each chip drives its
own pins (the model's reading, log 115). -/
def releaseBeat (o : OwnBeat) (s : State) : State :=
  let s1 := releasePins o.pins o.req (wr P50.LAST_RELEASED o.frame.beat s)
  if pairState s = 3 then s1 else o.replies.foldl (fun t x => releaseOut x t) s1

/-- The chip leaves comparison: what was held is forgotten, copies that no ADMIT named are discarded. -/
def clearPair (s : State) : State :=
  { s with pair := { s.pair with recs := [], replies := [], own := [], theirs := [], compared := [], used := none,
                                 next := none, absent := 0, present := false, waited := none,
                                 copies := s.pair.copies.take ((s.pair.admits.map Prod.snd).sum) } }

/-- The chip releases what it holds without comparison and takes a state of its own: SOLO or UNPAIRED (15 R494 to
R497). -/
def standAlone (code : Nat) (s : State) : State :=
  let s1 := wr P50.PAIR_STATE code s
  let s2 := s1.pair.own.foldl (fun t o => releaseBeat o t) s1
  let s3 := s1.pair.replies.foldl (fun t x => releaseOut x t) s2
  clearPair (releasePins (outBits s3) s3.pwr.pwrReq s3)

/-- The chip takes a state in which it releases nothing: YIELDED or LAPSED. -/
def standMute (code : Nat) (s : State) : State := clearPair (wr P50.PAIR_STATE code s)

/-! Joining (15 R487, R488). -/

/-- The chip keeps R485: hub role, no radio, powerline or metrology. -/
def pairPlaced (s : State) : Bool := hubRole s && !rdB s P01.RADIO_EN && !rdB s P01.PLC_EN && !rdB s P01.METRO_EN

/-- A die serial number as the pair's number covers it. -/
def pairIdOf (own partner : Nat) : Nat := crc32c (leB 8 own ++ leB 8 partner)

/-- The partner keeps R485. -/
def partnerPlaced (y : PartnerIn) : Bool := y.hub && !y.radio && !y.plc && !y.metro

/-- The active firmware versions of the five components. -/
def ownVersions (s : State) : List Nat := (List.range 5).map (fun c => version10 (activeHead s c))

/-- The partner is eligible: new to a pair, or a former member of this one (15 R487, check 7; R502). -/
def partnerEligible (rejoin : Bool) (s : State) (y : PartnerIn) : Bool :=
  !y.debug && (if rejoin then (y.state == 6 || y.state == 7) && y.pairId == rd s P50.PAIR_ID
    else y.state == 0 && !y.commissioned && y.closures == 0 && !y.streams && !y.keys)

/-- PAIR: the checks of R487 in order, then the primary is JOINING (15 R487, R488). -/
def pairBody (h : Hdr) (p : List Byte) (x : Option PartnerIn) (s : State) : Ans :=
  let a := rd s P02.CHAIN_ADDR
  if byteAt p 0 + 1 ≠ a ∧ byteAt p 0 ≠ a + 1 then .fail stOutOfRange 0
  else if pairState s ≠ 0 ∧ pairState s ≠ 4 then .fail stDeniedState 0
  else match x with
    | none => .fail stDeniedState 6
    | some y =>
      if leAt p 4 4 ≠ y.check then .fail stAuthFailed 0
      else if pairPlaced s = false ∨ partnerPlaced y = false then .fail stDeniedState 1
      else if y.versions ≠ ownVersions s then .fail stDeniedState 2
      else if partnerEligible (bitAt (byteAt p 1) 0) s y = false then .fail stDeniedState 3
      else if y.beat ≠ s.beat.number ∨ y.locked = false ∨ locked s = false then .fail stDeniedState 4
      else
        let id := if bitAt (byteAt p 1) 0 then rd s P50.PAIR_ID else pairIdOf Config.dieSerial y.serial
        .stays (wr P50.PAIR_STATE 1 { s with pair := { s.pair with
          join := some { hdr := h, data := p, began := s.beat.ticks, prev := pairState s, id := id } } })

/-- PAIR (15 R487). -/
def execPair (h : Hdr) (p : List Byte) (x : Option PartnerIn) (s : State) : Host.Outcome State Fault Refusal :=
  .next (runCmd h p true (pairBody h p x) s)

/-- Every open stream is acknowledged up to its highest readable sequence (15 R488 step 1). -/
def joinDrained (s : State) : Bool :=
  (List.range 8).all (fun k => !(streamAt s k).isOpen || (streamAt s k).acked == highReadable s k)

/-- A join fails: the chip keeps its previous state (15 R488, R502). -/
def failJoin (detail : Nat) (s : State) : State :=
  match s.pair.join with
  | some j =>
    finish j.hdr j.data stDeniedState detail []
      (wr P50.PAIR_STATE j.prev { s with pair := { s.pair with join := none } })
  | none => s

/-- JOIN_LIMIT_EXPIRE: the streams were not drained within JOIN_LIMIT (15 R488 step 1). -/
def execJoinLimitExpire (s : State) : Host.Outcome State Fault Refusal :=
  .next (match s.pair.join with
    | some j =>
      if pairState s = 1 ∧ joinDrained s = false ∧ passed s j.began (secBeats (10 * rd s P50.JOIN_LIMIT)) = true then
        failJoin 5 s
      else s
    | none => s)

/-- Both chips continue from the higher of their next numbers (15 R488 step 6). -/
def alignNumbers (group lseq : Nat) (s : State) : State :=
  wr P12.NEXT_LSEQ (max (rd s P12.NEXT_LSEQ) lseq)
    { s with ledger := { s.ledger with nextGroup := max s.ledger.nextGroup group } }

/-- The chip's place in the pair: partner's address, the port that faces it, the pair's number, its state. -/
def takePlace (partner id code : Nat) (s : State) : State :=
  wr P50.PAIR_STATE code (wr P50.PAIR_ID id (wrB P50.PAIR_PORT_D (decide (rd s P02.CHAIN_ADDR < partner))
    (wr P50.PARTNER_ADDR partner s)))

/-- A setting of class N or L: what a join transfers of the parameter pages (15 R488 step 3). -/
def isSetting (f : Fld) : Bool := writable f && (f.cls == .n || f.cls == .l)

/-- The settings of classes N and L replaced. -/
def takeSettings (l : List (Nat × Nat)) (s : State) : State :=
  let own := s.regs.filter (fun x => match fieldOfKey x.1 with
    | some f => !isSetting f
    | none => false)
  l.foldl (fun t x => match fieldOfKey x.1 with
    | some f => if isSetting f then wrI f (x.1 / 2048 % 16) x.2 t else t
    | none => t) { s with regs := own }

/-- What the carry pages of a joining partner hold beside PRESENCE entries: held COMMAND replies and open DOWNLINK
entries (15 R488 step 5). -/
def joinCarry (x : PairXfer) : List Entry :=
  let cmds := (x.sess.map Sess.held).flatten.filter (fun z => z.durable)
  cmds.map (fun z => { commandEntry z.hdr [] z.data [] {} with carry := true })
    ++ (x.items.filter itemOpen).map (fun i =>
      { dlEntry (if i.st = 2 then 2 else 1) i.mix i.id i.dlc i.cmd i.wayCode 0 i.keyGen i.body i.no false with carry := true })

/-- Everything the primary transfers taken over; a rejoining partner first discards the groups after the last that both
released, and the LEGAL entries it held unaccepted (15 R488 steps 3 to 6). -/
def takeXfer (x : PairXfer) (s : State) : State :=
  let kept := if pairState s = 0 then s.ledger.groups else s.ledger.groups.filter (fun g => decide (g.no ≤ x.lastBoth) || decide (carryBase ≤ g.no))
  let s1 := takeSettings x.settings { s with
    infeed := { s.infeed with meters := x.meters, templates := x.templates, presence := x.presence }
    grade := { s.grade with rows := x.rows, profiles := x.profiles, tails := x.tails }
    tally := { s.tally with groups := x.groups, anoms := x.anoms, durG := x.groups, durA := x.anoms, refSets := x.refSets }
    cmd := { s.cmd with sess := x.sess }
    ledger := { s.ledger with groups := kept, streams := x.streams }
    dl := { s.dl with items := x.items, dlc := x.dlc }
    keys := { s.keys with slots := x.keys }
    legal := { x.legal with core := { x.legal.core with queue := [] } } }
  let s2 := alignNumbers x.nextGroup x.nextLseq (keyFields (meterCount s1))
  let fresh := (x.tails.filter (fun t => t.2.hasLast)).filterMap (fun t =>
    (presAt s2 t.1.1 t.1.2).map (presenceEntry s2 t.1.1 t.1.2))
  carryPages [] (fresh ++ joinCarry x) s2

/-- PAIR_JOIN_START: at beat Z the chips start as PRIMARY and SHADOW; PAIR's COMMAND entry is posted on both (15 R488
steps 6 and 7). -/
def execPairJoinStart (x : PairStart) (s : State) : Host.Outcome State Fault Refusal :=
  .next (match x with
    | .primary g l =>
      (match s.pair.join with
        | some j =>
          if pairState s = 1 ∧ joinDrained s = true then
            let s1 := clearPair (takePlace (byteAt j.data 0) j.id 2 (alignNumbers g l s))
            let reply := leB 4 j.id ++ leB 4 ((s.beat.ticks - j.began) / 8)
            postEntry (commandEntry j.hdr j.data reply [] { cmd := some (.pair j.hdr j.data none), data := j.data })
              { s1 with pair := { s1.pair with join := some { j with started := true } } }
          else s
        | none => s)
    | .shadow y =>
      if [0, 6, 7].contains (pairState s) then
        postEntry (commandEntry y.hdr y.data y.reply [] { data := y.data })
          (clearPair (takePlace y.primary y.id 3 (takeXfer y s)))
      else s)

/-- The effect of PAIR: the join has ended. -/
def effPair (s : State) : State := { s with pair := { s.pair with join := none } }

/-! Digest comparison (15 R493, R494). -/

/-- Digests differ: the chip that alone carries FAULT yields, its partner is SOLO, else both halt; a join still in progress
fails (15 R494, R502). -/
def diverge (o : OwnBeat) (f : BeatFrame) (s : State) : State :=
  let s1 := logEv evDovetailDiverged (leB 8 f.beat) (wr P50.DIVERGED_BEAT f.beat (bump P50.MISMATCHES s))
  let mine := bitAt o.frame.flags 1
  let his := bitAt f.flags 1
  if s.pair.join.isSome then failJoin 6 (clearPair s1)
  else if mine && !his then standMute 6 s1
  else if his && !mine then standAlone 4 s1
  else wr P50.PAIR_STATE 5 { s1 with pair := { s1.pair with theirs := [], compared := [], used := none, inputs := [],
                                                            copies := [], admits := [], next := none } }

/-- Own beats compared with the partner's frames in BEAT order, as far as frames have come (15 R493). -/
def compareAll : Nat → State → State
  | 0, s => s
  | k + 1, s =>
    match s.pair.own with
    | [] => s
    | o :: l =>
      match s.pair.theirs.find? (fun f => f.beat == o.frame.beat) with
      | none => s
      | some f =>
        if f.digest = o.frame.digest then
          compareAll k (releaseBeat o { s with pair := { s.pair with
            own := l, theirs := s.pair.theirs.filter (fun g => g.beat != f.beat),
            compared := s.pair.compared ++ [(o.frame, f)] } })
        else diverge o f s

/-- BEAT_FRAME_RECEIVED: only on the pair port. A pair compares; a frame that has counted as absent
already ends no row of absent ones; a halted chip takes the state its partner left it (15 R489, R493 to R496). -/
def execBeatFrameReceived (port : Port) (f : BeatFrame) (s0 : State) : Host.Outcome State Fault Refusal :=
  let s := heardOn port beatFrameBytes s0
  .next (
    if port ≠ pairPort s then s
    else if paired s then
      let timely := f.beat + 1 == s.beat.number && s.pair.waited != some s.beat.number
      compareAll (s.pair.own.length + 1) { s with pair := { s.pair with
        theirs := s.pair.theirs ++ [f], absent := if timely then 0 else s.pair.absent, present := timely || s.pair.present,
        admits := if pairState s = 3 then s.pair.admits ++ [(f.beat, f.admitCount)] else s.pair.admits } }
    else if pairState s = 5 then
      (if bitAt f.flags 6 then { s with pair := { s.pair with next := some (6, s.beat.number + 1) } }
       else if bitAt f.flags 7 then { s with pair := { s.pair with next := some (4, s.beat.number + 1) } }
       else s)
    else s)

/-- DIGEST_WAIT_EXPIRE: DIGEST_WAIT µs after the boundary, which lie within the beat, the partner's frame for the last beat has
not come; it counts as absent, once (15 R493; DESIGN CHOICE, log 114). -/
def execDigestWaitExpire (s : State) : Host.Outcome State Fault Refusal :=
  .next (
    if paired s ∧ s.pair.own.any (fun o => o.frame.beat + 1 == s.beat.number) ∧
        s.pair.theirs.any (fun f => f.beat + 1 == s.beat.number) = false ∧ s.pair.waited ≠ some s.beat.number then
      bump P50.LATE_FRAMES { s with pair := { s.pair with absent := s.pair.absent + 1, present := false,
                                                          waited := some s.beat.number } }
    else s)

/-- DOVETAIL_PROMOTED: eight absent frames in a row make the chip SOLO (15 R496). -/
def execDovetailPromoted (s : State) : Host.Outcome State Fault Refusal :=
  .next (
    if paired s ∧ 8 ≤ s.pair.absent then
      standAlone 4 (logEv (if pairState s = 3 then evDovetailPromoted else evDovetailPartnerLost) [] s)
    else s)

/-! The beat (15 R489 to R491). -/

/-- A chip of a pair sends its frame for the beat that ends, and holds the beat's outputs for comparison (15 R489,
R493). -/
def pairEnd (s : State) : State :=
  if s.beat.loaded = false ∨ pairState s < 2 ∨ 6 < pairState s then s
  else
    let f := ownFrame s
    let held := if paired s || pairState s == 5 then s.pair.own ++ [⟨f, s.pair.replies, outBits s, s.pwr.pwrReq⟩]
      else []
    let s1 := sentOn (pairPort s) beatFrameBytes (emit (.beatFrame (pairPort s) f)
      { s with pair := { s.pair with recs := [], replies := [], own := held } })
    if paired s1 then compareAll (s1.pair.own.length + 1) s1 else s1

/-- What both chips use of two frames of one beat (15 R491). -/
def agreedOf (a b : BeatFrame) : Agreed :=
  let bit := fun n => bitAt a.flags n || bitAt b.flags n
  { eDisc := min a.eDisc b.eDisc, limitL := min a.limitL b.limitL, limitM := min a.limitM b.limitM,
    stopped := bit 2 || bit 3, readonly := bit 4, complete := min a.complete b.complete }

/-- The own e_disc, l and m are noted for the frame, and the values agreed for the beat before the last are used; a shadow
takes the primary's offset of legal time (15 R491). -/
def pairUse (s0 : State) : State :=
  let s := { s0 with pair := { s0.pair with ownDen := (s0.den.eDisc, rd s0 P04.LIMIT_L, rd s0 P04.LIMIT_M) } }
  if paired s = false then s
  else
    let due := s.pair.compared.filter (fun x => decide (x.1.beat + 2 ≤ s.beat.number))
    let left := s.pair.compared.filter (fun y => decide (s.beat.number < y.1.beat + 2))
    let s1 := match due.getLast? with
      | some x =>
        let dl := if pairState s = 3 then x.2.deltaL else s.plumb.deltaL
        { s with pair := { s.pair with used := some (agreedOf x.1 x.2), compared := left },
                 plumb := { s.plumb with deltaL := dl } }
      | none => s
    match s1.pair.used with
    | some u => wr P04.LIMIT_M (min u.limitM (rd s1 P04.LIMIT_M)) (wr P04.LIMIT_L (min u.limitL (rd s1 P04.LIMIT_L))
        { s1 with den := { s1.den with eDisc := min u.eDisc s1.den.eDisc } })
    | none => s1

/-- Replicated packets of the beat before the last posted, in order of arrival: a shadow posts the copies that ADMIT
names; one it does not hold is logged (15 R490). -/
def pairPost (s : State) : State :=
  let due := fun (b : Nat) => decide (b + 2 ≤ s.beat.number) || !paired s
  let n := ((s.pair.admits.filter (fun x => due x.1)).map Prod.snd).sum
  let mine := (s.pair.inputs.filter (fun x => due x.1)).map Prod.snd
  let pkts := s.pair.copies.take n ++ mine
  let s1 := { s with pair := { s.pair with admits := s.pair.admits.filter (fun x => !due x.1),
                                           inputs := s.pair.inputs.filter (fun x => !due x.1),
                                           copies := s.pair.copies.drop n } }
  let s2 := if s.pair.copies.length < n then logEv evDovetailInputLate [] s1 else s1
  pkts.foldl (fun t q => takePacket q t) s2

/-- The state that was to follow at this boundary: an exchange of roles, a pair left, or what a halted partner left (15
R495, R497). -/
def pairNext (s : State) : State :=
  match s.pair.next with
  | some (code, at_) =>
    if s.beat.number < at_ then s
    else
      let s1 := { s with pair := { s.pair with next := none } }
      if code = 2 ∨ code = 3 then wr P50.PAIR_STATE code s1
      else if code = 6 ∨ code = 7 then standMute code s1
      else standAlone code s1
  | none => s

/-! Leaving and resolving (15 R495, R497). -/

/-- UNPAIR (15 R497). -/
def execUnpair (h : Hdr) (p : List Byte) (s : State) : Host.Outcome State Fault Refusal :=
  .next (runCmd h p true (fun t => .accept [] [] { cmd := some (.unpair h p) } t) s)

/-- The effect of UNPAIR: at the boundary after its reply is released the primary is UNPAIRED and the shadow LAPSED; on a
chip without a pair nothing changes (15 R497). -/
def effUnpair (s : State) : State :=
  if paired s then
    { s with pair := { s.pair with next := some (if pairState s = 2 then 0 else 7, s.beat.number + 1) } }
  else s

/-- PROMOTE: byte 0 is 0x01; a chip that is not in a running pair is denied. The beat of the exchange is known at release
and is put into the reply there (15 R497). -/
def execPromote (h : Hdr) (p : List Byte) (s : State) : Host.Outcome State Fault Refusal :=
  .next (runCmd h p true (fun t =>
    if byteAt p 0 ≠ 1 then .fail stBadPayload 0
    else if paired t = false then .fail stDeniedState 0
    else .accept (zeros 8) [] { cmd := some (.promote h p) } t) s)

/-- The reply data of PROMOTE when its group is released: the reply leaves in the next beat, and the boundary after it
opens the beat of the exchange (15 R493, R497). -/
def promoteData (s : State) : List Byte := leB 8 (s.beat.number + 2)

/-- The effect of PROMOTE (15 R497). -/
def effPromote (s : State) : State :=
  if paired s then
    { s with pair := { s.pair with next := some (if pairState s = 2 then 3 else 2, s.beat.number + 1) } }
  else s

/-- PAIR_STATUS (15, after Table 15-3). -/
def execPairStatus (h : Hdr) (p : List Byte) (s : State) : Host.Outcome State Fault Refusal :=
  .next (runCmd h p false (fun t =>
    .done (leB 1 (pairState t) ++ leB 1 (b2n (pairState t == 2) + 2 * b2n t.pair.present) ++ leB 1 (rd t P50.PARTNER_ADDR)
      ++ zeros 1 ++ leB 4 (rd t P50.PAIR_ID) ++ leB 8 (rd t P50.LAST_RELEASED) ++ leB 8 (rd t P50.DIVERGED_BEAT)
      ++ leB 4 t.pair.absent ++ leB 4 (rd t P50.MISMATCHES)) t) s)

/-- RESOLVE_DIVERGENCE (15 R495). -/
def execResolveDivergence (h : Hdr) (p : List Byte) (s : State) : Host.Outcome State Fault Refusal :=
  .next (runCmd h p true (fun t =>
    if pairState t ≠ 5 then .fail stDeniedState 0
    else if leAt p 4 4 ≠ rd t P50.DIVERGED_BEAT % 2 ^ 32 then .fail stDeniedState 4
    else if byteAt p 0 ≠ 1 ∧ byteAt p 0 ≠ 2 then .fail stBadPayload 0
    else .accept (leB 8 (rd t P50.DIVERGED_BEAT)) [] { cmd := some (.resolveDivergence h p) } t) s)

/-- The effect of RESOLVE_DIVERGENCE: SOLO with its outputs from DIVERGED_BEAT released, or YIELDED (15 R495). -/
def effResolveDivergence (e : Eff) (s : State) : State :=
  if pairState s ≠ 5 then s else if byteAt e.data 0 = 1 then standAlone 4 s else standMute 6 s

/-- DEBUG_ENABLED: keys erased as by a tamper, the store left alone, the test root in use until the next power-on reset; a
chip of a pair yields (12 R424, R425; 15 R502). -/
def execDebugEnabled (s : State) : Host.Outcome State Fault Refusal :=
  .next (if rdB s P40.DEBUG_ACTIVE then s
    else
      let s1 := logEv evDebugEnabled [] (wr P40.DEBUG_ACTIVE 1 (wipeAll s))
      if paired s then standMute 6 s1 else s1)

end Sys2Proof.Machine
end

