-- ==== Sys2Proof/Machine/Grade.lean ====
section
/-! DEFINITION. Grade (05): the judgement of a reading, estimates and markers, the slot, SET_RULES and EDIT_READING. -/
namespace Sys2Proof.Machine

/-! Quality bits (05 Table 05-6). -/
def qVALID : Nat := 2 ^ 0
def qESTIMATED : Nat := 2 ^ 1
def qEDITED : Nat := 2 ^ 2
def qGAP_FILLED : Nat := 2 ^ 3
def qSUSPECT_SPIKE : Nat := 2 ^ 4
def qROLLOVER : Nat := 2 ^ 5
def qREVERSED : Nat := 2 ^ 6
def qNON_MONOTONIC : Nat := 2 ^ 7
def qCLOCK_SUSPECT : Nat := 2 ^ 8
def qTIME_SHIFTED : Nat := 2 ^ 9
def qTAMPER : Nat := 2 ^ 10
def qMEAS_FAULT : Nat := 2 ^ 11
def qOUTAGE : Nat := 2 ^ 12
def qPOWER_DOWN : Nat := 2 ^ 13
def qSUPERSEDES : Nat := 2 ^ 14

/-- A quality code carries one of the bits of a mask. -/
def qHas (q mask : Nat) : Bool := Nat.land q mask != 0

/-- A mask added when a condition holds. -/
def qIf (b : Bool) (mask q : Nat) : Nat := if b then Nat.lor q mask else q

/-- The quality bits of a meter status (05 Table 05-7). -/
def statusBits (ms q : Nat) : Nat :=
  qIf (bitAt ms 7) qMEAS_FAULT (qIf (bitAt ms 5) qREVERSED (qIf (bitAt ms 4 || bitAt ms 3) qTAMPER
    (qIf (bitAt ms 2) qPOWER_DOWN (qIf (bitAt ms 1) qTIME_SHIFTED (qIf (bitAt ms 0) qCLOCK_SUSPECT q)))))

/-- The register modulus of a row (05 Table 05-3). -/
def modulus (row : Row) : Int := 10 ^ row.rollDigits

/-- A value in the lowest W percent of the register's range (05 R175). -/
def rollLow (row : Row) (v : Int) : Bool := decide (100 * v < modulus row * row.rollWindow)

/-- A value in the highest W percent of the register's range (05 R175). -/
def rollHigh (row : Row) (v : Int) : Bool := decide (100 * modulus row - modulus row * row.rollWindow ≤ 100 * v)

/-- What judging a reading comes to: quality, whether its value itself set REVERSED, the new tail, the increment, whether
the register wrapped, whether the decrease was jitter, and whether the tail adopted a new level. -/
structure Judged where
  q : Nat
  byValue : Bool := false
  tail : Tail
  d : Int := 0
  wrapped : Bool := false
  jitter : Bool := false
  rebased : Bool := false
  deriving DecidableEq, Repr

/-- The spike test of R177 for an increment per interval; the tail's REF and SPIKE_RUN move. -/
def spikeTest (row : Row) (inc : Int) (j : Judged) : Judged :=
  let t := j.tail
  let ref := Int.tdiv t.ref 16
  if t.ref = 0 then { j with tail := { t with ref := cut64 (inc * 16) } }
  else if (row.spikeMax ≠ 0 ∧ (row.spikeMax : Int) < inc) ∨ ((row.spikeMin : Int) ≤ ref ∧ row.spikeFactor * ref < 4 * inc) then
    let run := t.spikeRun + 1
    { j with q := Nat.lor j.q qSUSPECT_SPIKE,
             tail := if row.spikeConfirm ≤ run then { t with ref := cut64 (inc * 16), spikeRun := 0 }
                     else { t with spikeRun := run } }
  else { j with tail := { t with ref := cut64 (t.ref + Int.tdiv (inc * 16 - t.ref) 16), spikeRun := 0 } }

/-- The tail of a new reading that is not NON_MONOTONIC (05 R178). -/
def moveTail (v : Int) (s : Nat) (j : Judged) : Judged :=
  { j with tail := { j.tail with lastValue := if j.jitter then j.tail.lastValue else v, lastEnd := s, hasLast := true,
                                 nmRun := 0 } }

/-- The spike test of a cumulative reading, made when d ≥ 0, over its intervals (05 R177). -/
def cumSpike (row : Row) (len s : Nat) (j : Judged) : Judged :=
  if j.d < 0 then j else spikeTest row (Int.tdiv j.d ((s / len - j.tail.lastEnd / len : Nat) : Int)) j

/-- A new reading of a cumulative register (05 R175 to R178). -/
def cumulative (row : Row) (len s mst : Nat) (v : Int) (j : Judged) : Judged :=
  let t := j.tail
  let m := modulus row
  if t.hasLast = false then moveTail v s j
  else
    let d := v - t.lastValue
    if 0 ≤ d then moveTail v s (cumSpike row len s { j with d := d })
    else if row.rollDigits ≠ 0 ∧ 0 ≤ v ∧ v < m ∧ (bitAt mst 6 = true ∨ (rollHigh row t.lastValue = true ∧ rollLow row v = true)) then
      moveTail v s (cumSpike row len s { j with d := d + m, wrapped := true })
    else if -d ≤ row.revTol then moveTail v s (cumSpike row len s { j with d := 0, jitter := true })
    else if bitAt row.flags 0 then moveTail v s { j with d := d, q := Nat.lor j.q qREVERSED, byValue := true }
    else
      let run := t.nmRun + 1
      let j1 := { j with q := Nat.lor j.q qNON_MONOTONIC, d := d }
      if row.spikeConfirm ≤ run then
        { j1 with tail := { t with lastValue := v, lastEnd := s, ref := 0, nmRun := 0 }, rebased := true }
      else { j1 with tail := { t with nmRun := run } }

/-- A new interval quantity (05 R180). -/
def quantity (row : Row) (s : Nat) (v : Int) (j : Judged) : Judged :=
  let j1 := if v < 0 then { j with q := Nat.lor j.q qREVERSED, byValue := true } else spikeTest row v j
  { j1 with tail := { j1.tail with lastValue := v, lastEnd := s, hasLast := true, nmRun := 0 } }

/-- A new sampled value: its tail records only LAST_END and HAS_LAST (05 R174, R180). -/
def sampled (row : Row) (s : Nat) (v : Int) (j : Judged) : Judged :=
  { j with q := qIf (decide (v < row.rangeLo) || decide (row.rangeHi < v)) qSUSPECT_SPIKE j.q,
           tail := { j.tail with lastEnd := s, hasLast := true } }

/-- A late reading: it never moves the tail (05 R179). -/
def late (row : Row) (v : Int) (j : Judged) : Judged :=
  let t := j.tail
  if row.kind = 0 then
    let before := row.rollDigits ≠ 0 ∧ rollHigh row v = true ∧ rollLow row t.lastValue = true
    if t.lastValue < v ∧ ¬ before then { j with q := Nat.lor j.q qNON_MONOTONIC } else j
  else if row.kind = 1 ∧ v < 0 then { j with q := Nat.lor j.q qREVERSED, byValue := true }
  else j

/-- VALID is set unless a bit of R173 forbids it. -/
def setValid (row : Row) (j : Judged) : Judged :=
  let bad := qHas j.q (qSUSPECT_SPIKE + qNON_MONOTONIC + qMEAS_FAULT + qOUTAGE) || (j.byValue && !bitAt row.flags 0)
    || (qHas j.q qTAMPER && bitAt row.flags 1)
  { j with q := qIf (!bad) qVALID j.q }

/-- A reading is late by the tail (05 R179). -/
def isLate (t : Tail) (s : Nat) : Bool := t.hasLast && decide (s ≤ t.lastEnd)

/-- The judgement of one reading (05 R174). -/
def judge (s : State) (g : GradeIn) (row : Row) (t : Tail) : Judged :=
  let len := intervalSec row.interval
  let e := slotOf len g.rdg.tend * len
  let q0 := qIf (decide (e ≠ g.rdg.tend)) qTIME_SHIFTED 0
  let clock := decide (rd s P11.ALIGN_TOL < e - g.rdg.tend) || decide (arrAt s.grade.off g.arrival + rd s P11.CLOCK_TOL < g.frameEnd)
    || (rdB s P11.LEGAL_SUSPECT && s.grade.suspect)
  let j : Judged := { q := statusBits g.mstatus (qIf clock qCLOCK_SUSPECT q0), tail := t }
  setValid row (if isLate t e then late row g.rdg.value j
    else match row.kind with
      | 0 => cumulative row len e g.mstatus g.rdg.value j
      | 1 => quantity row e g.rdg.value j
      | _ => sampled row e g.rdg.value j)

/-! Gaps (05 R181 to R183). -/

/-- The intervals of the gap a new reading closes (05 R181). -/
def gapOf (len : Nat) (t : Tail) (e : Nat) : Nat :=
  if t.hasLast = true ∧ isLate t e = false ∧ len ≠ 0 then e / len - t.lastEnd / len - 1 else 0

/-- The conditions of R181. -/
def estimates (row : Row) (t : Tail) (gap : Nat) (j : Judged) : Bool :=
  row.kind == 0 && t.hasLast && bitAt row.flags 2 && decide (gap ≤ row.gapEst) && decide (0 ≤ j.d) && !j.byValue
    && !j.jitter
    && !qHas j.q (qSUSPECT_SPIKE + qNON_MONOTONIC + qREVERSED + qMEAS_FAULT + qCLOCK_SUSPECT + qTAMPER + qPOWER_DOWN)

/-- The slots of a gap that are ABSENT, by their number j in the gap. -/
def absentOf (s : State) (mix ch k0 gap : Nat) : List Nat :=
  (List.range gap).map (fun i => i + 1) |>.filter (fun j => slotAt s mix ch (k0 + j) == some .absent)

/-- The estimate of slot j of a gap of g (05 R183). -/
def estimateVal (row : Row) (last d : Int) (g j : Nat) : Int :=
  let v := last + Int.tdiv (d * j) (g + 1)
  if row.rollDigits ≠ 0 then Int.emod v (modulus row) else v

/-- The first value of a list below the one before it carries ROLLOVER (05 R176). -/
def markRoll (last : Int) : List (Nat × Int) → List (Nat × Int × Bool) × Bool
  | [] => ([], false)
  | (k, v) :: l =>
    if v < last then ((k, v, true) :: l.map (fun x => (x.1, x.2, false)), true)
    else
      let (r, b) := markRoll v l
      ((k, v, false) :: r, b)

/-- One record to be released: slot end, value, quality, source field. -/
structure OutRec where
  tend : Nat
  value : Int
  q : Nat
  src : Nat
  deriving DecidableEq, Repr

/-- The estimates and markers of a unit, and whether a gap was left (05 R181 to R183). -/
def gapRecs (s : State) (g : GradeIn) (row : Row) (t : Tail) (j : Judged) : List OutRec × Bool × Bool :=
  let len := intervalSec row.interval
  let e := slotOf len g.rdg.tend * len
  let gap := gapOf len t e
  let k0 := t.lastEnd / len
  if gap = 0 then ([], false, false)
  else if estimates row t gap j then
    let vs := (absentOf s g.mix g.rdg.ch k0 gap).map (fun i => (i, estimateVal row t.lastValue j.d gap i))
    let (l, rolled) := if j.wrapped then markRoll t.lastValue vs else (vs.map (fun x => (x.1, x.2, false)), false)
    (l.map (fun x => ⟨(k0 + x.1) * len, x.2.1, qIf x.2.2 qROLLOVER (qVALID + qESTIMATED + qGAP_FILLED), 0x6000⟩),
      rolled, false)
  else if qHas j.q qPOWER_DOWN && bitAt row.flags 3 && decide (gap ≤ 32) then
    ((absentOf s g.mix g.rdg.ch k0 gap).map (fun i => ⟨(k0 + i) * len, 0, qOUTAGE + qPOWER_DOWN, 0x7000⟩), false,
      row.kind == 0)
  else ([], false, row.kind == 0)

/-! Release (05 R184, R185). -/

/-- Bytes 0 to 23 of a reading record (05 Table 05-8; 06 Table 06-1). -/
def recHead (mix ch fseq grp : Nat) (o : OutRec) : List Byte :=
  leB 5 o.tend ++ leB 3 (mix + ch * 2 ^ 20) ++ leB 8 (ofS 64 o.value) ++ leB 2 o.q ++ leB 2 fseq ++ leB 2 o.src ++ leB 2 grp

/-- The entry of a record; those of a batch are provisional (05 R185; 06 R201). -/
def recEntry (m : Meter) (g : GradeIn) (est : Bool) (o : OutRec) : Entry :=
  let e : Entry := { kind := 0, head := recHead g.mix g.rdg.ch g.fseq m.group o, act := .reading (some g.frame) est }
  match batchOf g.way with
  | some n => { e with prov := true, batch := n }
  | none => e

/-- A record for the slot was accepted or released before: an estimate, a marker or an edit (05 R184). -/
def supersedes (s : State) (mix ch k e : Nat) : Bool :=
  (match presAt s mix ch with
    | some p => p.at_ k == some .estimated || assocGet k p.before == some .estimated
    | none => false)
  || (unreleased s).any (fun x => x.kind == 0 && recMix x == mix && recCh x == ch && recEnd x == e && !holdsSlot x
      && !s.ledger.abandoned.contains x.batch)

/-- METER_TAMPER, not more often than once in TAMPER_HOLD hours per meter (05 Table 05-7). -/
def tamperLog (m : Meter) (ms : Nat) (s : State) : State :=
  let t := legalSec s % 2 ^ 32
  if (bitAt ms 4 || bitAt ms 3) && (m.tamperAt == 0 || decide (m.tamperAt + rd s P11.TAMPER_HOLD * 3600 ≤ t)) then
    logEv evMeterTamper (dMix m.mix) (modMeter m.mix (fun x => { x with tamperAt := t }) s)
  else s

/-- The counters a unit raises (05 Tables 05-1, 05-10). -/
def gradeCounts (mix : Nat) (j : Judged) (recs : List OutRec) (gapLeft : Bool) (s : State) : State :=
  let est := (recs.filter (fun o => o.src == 0x6000)).length
  let mark := (recs.filter (fun o => o.src == 0x7000)).length
  let c := fun (b : Bool) f t => bumpI f 0 (b2n b) t
  let up := fun (m : Meter) => { m with spikeCount := satAdd 16 m.spikeCount (b2n (qHas j.q qSUSPECT_SPIKE)),
                                        nonmonoCount := satAdd 16 m.nonmonoCount (b2n (qHas j.q qNON_MONOTONIC)),
                                        rolloverCount := satAdd 16 m.rolloverCount (b2n j.wrapped),
                                        estCount := satAdd 16 m.estCount (est + mark) }
  c (qHas j.q qSUSPECT_SPIKE) P11.SPIKES (c (qHas j.q qNON_MONOTONIC) P11.NON_MONOTONIC (c j.wrapped P11.ROLLOVERS
    (c (qHas j.q qCLOCK_SUSPECT) P11.CLOCK_SUSPECTS (c gapLeft P11.GAPS_LEFT (c j.rebased P11.REBASES
      (bumpI P11.ESTIMATES 0 est (bumpI P11.OUTAGE_MARKS 0 mark (modMeter mix up s))))))))

/-- Records released counted: QUAL 1 counts estimates and markers alone (16 Table 16-3). -/
def countReleased (all est : Nat) (s : State) : State :=
  (List.range 8).foldl (fun t n =>
    let cfg := rd t (cfgFld n)
    if bitsAt cfg 0 8 = 5 then
      (if bitsAt cfg 8 8 = 1 then pcAdd n est t
       else if bitsAt cfg 8 8 = 0 ∨ bitsAt cfg 8 8 = 0xFF then pcAdd n all t else t)
    else t) s

/-- The first reading of a frame fixes the rule rows for all of it (05 R171). -/
def fixRows (m : Meter) (frame : Nat) (s : State) : State :=
  let f := fun (g : GradeIn) => { g with row := some (rowOf s m g.rdg.ch) }
  { s with grade := { s.grade with queue := mapIf (fun g => g.frame == frame && g.row.isNone) f s.grade.queue } }

/-- One unit: judged, or none when the slot or the group has no room for it (05 R174 to R186; 06 R195). -/
def gradeOne (left : Nat) (s0 : State) : Option (State × Nat) :=
  match s0.grade.queue with
  | [] => none
  | g0 :: _ =>
    match recordAt s0 g0.mix with
    | none => some ({ s0 with grade := { s0.grade with queue := s0.grade.queue.drop 1 } }, 0)
    | some m =>
      let s := if g0.row.isNone then fixRows m g0.frame s0 else s0
      let row := g0.row.getD (rowOf s0 m g0.rdg.ch)
      let len := intervalSec row.interval
      let k := slotOf len g0.rdg.tend
      let t := tailAt s g0.mix g0.rdg.ch
      let j := judge s g0 row t
      let (recs, rolled, gapLeft) := gapRecs s g0 row t j
      let q := qIf (supersedes s g0.mix g0.rdg.ch k (k * len)) qSUPERSEDES (qIf (j.wrapped && !rolled) qROLLOVER j.q)
      let n := recs.length + 1
      if n ≤ left ∧ fits s (List.replicate n 1) = true then
        let own : OutRec := ⟨k * len, g0.rdg.value, q, g0.src⟩
        let s1 := { s with grade := { s.grade with queue := s.grade.queue.drop 1 } }
        let s2 := appendEntry (recEntry m g0 false own) (recs.foldl (fun u o => appendEntry (recEntry m g0 true o) u) s1)
        let mine := fun (r : Nat × Nat × ROut) => r.1 == g0.rdg.ch && r.2.1 == k && r.2.2 == .waiting
        let rel := fun (r : Nat × Nat × ROut) => (r.1, r.2.1, ROut.released)
        let s3 := modFrame g0.frame (fun f => { f with rdgs := mapIf mine rel f.rdgs }) s2
        let s4 := setTail g0.mix g0.rdg.ch j.tail (gradeCounts g0.mix j recs gapLeft (tamperLog m g0.mstatus s3))
        let s5 := if j.rebased then logEv evMeterRebased (dMix g0.mix ++ leB 1 g0.rdg.ch) s4 else s4
        some (countReleased n recs.length s5, n)
      else none

/-- Units in order, with the COUNTER entries of the frames that they complete: `n` readings waited when the slot opened and
`used` records are released. A unit waits when it and the beat's control entries exceed 192 slots, or when the COUNTER entry
that must share its group does not fit (04 R149; 05 R186; 06 R195). -/
def gradeUnits : Nat → Nat → State → State
  | 0, _, s => s
  | n + 1, used, s =>
    match gradeOne (192 - s.ledger.beatCtl - used) s with
    | some (t, k) =>
      let u := postCounters t
      if k = 0 ∨ (used + k + u.ledger.beatCtl ≤ 192 ∧ u.ledger.waiting = t.ledger.waiting) then gradeUnits n (used + k) u else s
    | none => s

/-- What was appended to the open group behind its first `k` entries, the control entries first (06 R195). -/
def ctlFirst (k : Nat) (s : State) : State :=
  let o := s.ledger.openE
  let l := o.take k ++ (o.drop k).filter (fun e => e.kind != 0) ++ (o.drop k).filter (fun e => e.kind == 0)
  { s with ledger := { s.ledger with openE := l, openSlots := slotsOf s l } }

/-- Grade releases only while the device runs, acceptance is open and the ledger takes work (01 R28; 06 R214). -/
def gradeMay (s : State) : Bool := running s && !acceptClosed s && !storeFull s

/-- One Grade slot: 192 records less the slots control entries took in the beat (05 R186; 06 R195). -/
def gradeSlot (s : State) : State :=
  if gradeMay s then ctlFirst s.ledger.openE.length (gradeUnits s.grade.avail 0 s) else s

/-- What the boundary that opens a slot fixes (05 R174, R186). -/
def gradeOpen (s : State) : State :=
  { s with grade := { s.grade with avail := s.grade.queue.length, off := legalOff s,
                                   suspect := rdB s P03.LEGAL_INVALID || rdB s P03.LEGAL_DIVERGED } }

/-! SET_RULES (05 R169 to R171). -/

/-- A rule row of 32 bytes (05 Table 05-3). -/
def rowAt (b : List Byte) : Row :=
  { kind := byteAt b 0, interval := byteAt b 1, rollDigits := byteAt b 2, rollWindow := byteAt b 3,
    flags := byteAt b 4 % 16, gapEst := byteAt b 5, spikeFactor := byteAt b 6, spikeConfirm := byteAt b 7,
    spikeMax := leAt b 8 8, spikeMin := leAt b 16 4, revTol := leAt b 20 4, rangeLo := toS 32 (leAt b 24 4),
    rangeHi := toS 32 (leAt b 28 4) }

/-- The offset of the first field of a row that is reserved or out of range (05 R170, third check). -/
def rowBad (r : Row) : Option Nat :=
  if 2 < r.kind then some 0
  else if intervalSec r.interval = 0 then some 1
  else if 18 < r.rollDigits then some 2
  else if r.rollWindow < 1 ∨ 50 < r.rollWindow then some 3
  else if 32 < r.gapEst then some 5
  else if r.spikeFactor < 8 then some 6
  else if r.spikeConfirm < 1 ∨ 15 < r.spikeConfirm then some 7
  else if r.kind = 2 ∧ r.rangeHi < r.rangeLo then some 28
  else none

/-- The entry size of a TYPE (05 Table 05-5). -/
def ruleSize (ty : Nat) : Nat := if ty = 3 then 8 else 32

/-- An entry of the payload. -/
def ruleEntry (p : List Byte) (i : Nat) : List Byte := sliceB p (8 + i * ruleSize (byteAt p 0)) (ruleSize (byteAt p 0))

/-- The rules as they would be: rows, profiles, and PROFILE of the meters (05 R169, R171). -/
def applyRules (p : List Byte) (s : State) : State :=
  let n := leAt p 2 2
  let first := leAt p 4 2
  let idx := List.range n
  if byteAt p 0 = 1 then
    idx.foldl (fun t i =>
      let l := assocSet (first + i) (rowAt (ruleEntry p i)) t.grade.rows
      { t with grade := { t.grade with rows := l } }) s
  else if byteAt p 0 = 2 then
    idx.foldl (fun t i =>
      let l := assocSet (first + i) ((List.range 16).map (fun c => leAt (ruleEntry p i) (2 * c) 2)) t.grade.profiles
      { t with grade := { t.grade with profiles := l } }) s
  else
    idx.foldl (fun t i =>
      let b := ruleEntry p i
      let lo := leAt b 0 4 % 2 ^ 20
      let inR := fun (m : Meter) => m.rstate == 1 && decide (lo ≤ m.mix) && decide (m.mix < lo + leAt b 4 3)
      let l := mapIf inR (fun m => { m with profile := byteAt b 7 }) t.infeed.meters
      { t with infeed := { t.infeed with meters := l } }) s

/-- The bit position in the payload of the first entry outside a table, row index above 1,023, or assignment beyond the
last MIX (05 R170, second check; 02 Table 02-5). -/
def rulesRange (p : List Byte) : Option Nat :=
  let n := leAt p 2 2
  let first := leAt p 4 2
  let ty := byteAt p 0
  if (ty = 1 ∧ 1024 < first + n) ∨ (ty = 2 ∧ 256 < first + n) then some 32
  else if ty = 2 then
    (((List.range n).flatMap (fun i => (List.range 16).map (fun c => (i, c)))).find?
      (fun x => decide (1023 < leAt (ruleEntry p x.1) (2 * x.2) 2))).map (fun x => 8 * (8 + 32 * x.1) + 16 * x.2)
  else if ty = 3 then
    ((List.range n).find? (fun i =>
      let b := ruleEntry p i
      decide (2 ^ 20 < leAt b 0 4 % 2 ^ 20 + leAt b 4 3))).map (fun i => 8 * (8 + 8 * i))
  else none

/-- The payload offset of the first field that is reserved or outside its range (05 R170, third check). -/
def rulesBad (p : List Byte) : Option Nat :=
  let idx := List.range (leAt p 2 2)
  if byteAt p 0 = 1 then (idx.findSome? (fun i => (rowBad (rowAt (ruleEntry p i))).map (fun o => 8 + 32 * i + o)))
  else if byteAt p 0 = 3 then (idx.find? (fun i => leAt (ruleEntry p i) 4 3 == 0)).map (fun i => 8 + 8 * i + 4)
  else none

/-- INTERVAL or KIND of a channel with HAS_LAST would change (05 R170, fourth check). -/
def rulesMove (s t : State) : Bool :=
  s.grade.tails.any (fun x => x.2.hasLast && (match meterAt s x.1.1, meterAt t x.1.1 with
    | some a, some b =>
      let ra := rowOf s a x.1.2
      let rb := rowOf t b x.1.2
      ra.interval != rb.interval || ra.kind != rb.kind
    | _, _ => false))

/-- Meters whose PROFILE changes. -/
def profilesMoved (s t : State) : Nat :=
  ((s.infeed.meters.zip t.infeed.meters).filter (fun x => x.1.profile != x.2.profile)).length

/-- SET_RULES's checks (05 R170). -/
def rulesBody (h : Hdr) (p : List Byte) (s : State) : Ans :=
  let ty := byteAt p 0
  let n := leAt p 2 2
  let t := applyRules p s
  if ty = 0 ∨ 3 < ty then .fail stBadPayload 0
  else if n = 0 ∨ p.length ≠ 8 + n * ruleSize ty then .fail stBadPayload 2
  else match rulesRange p with
    | some d => .fail stOutOfRange d
    | none => match rulesBad p with
      | some o => .fail stBadPayload o
      | none =>
        if rulesMove s t then .fail stDeniedState 0
        else .accept (leB 4 (if ty = 3 then profilesMoved s t else n)) p { cmd := some (.setRules h p) } s

/-- SET_RULES (05 R169 to R171). -/
def execSetRules (h : Hdr) (p : List Byte) (s : State) : Host.Outcome State Fault Refusal :=
  .next (runCmd h p true (rulesBody h p) s)

/-- The effect of SET_RULES. -/
def effSetRules (e : Eff) (s : State) : State := applyRules e.data s

/-! EDIT_READING (05 R187). -/

/-- EDIT_READING's checks and effect: the COMMAND entry, then the edit record, in one group (05 R187). -/
def editBody (h : Hdr) (p : List Byte) (s : State) : Ans :=
  let mix := leAt p 0 3 % 2 ^ 20
  let ch := bitsAt (leAt p 0 3) 20 4
  let e := leAt p 4 5
  match meterAt s mix with
  | none => .fail stUnknownObject 0
  | some m =>
    let len := chanLen s m ch
    let k := slotOf len e
    if bitAt m.chEnable ch = false then .fail stUnknownObject 0
    else if len = 0 ∨ e % len ≠ 0 then .fail stBadPayload 4
    else match slotAt s mix ch k with
      | none => .fail stOutOfRange 32
      | some .pend => .fail stBusy 0
      | some _ =>
        let old := newestRec s mix ch e
        if leAt p 20 8 ≠ (old.map Entry.lseq).getD 0 then .fail stDeniedState 0
        else
          let held := slotAt s mix ch k != some .absent || old.isSome
          let q := qIf held qSUPERSEDES (qIf (bitAt (byteAt p 9) 0) qVALID qEDITED)
          let o : OutRec := ⟨e, toS 64 (leAt p 12 8), q, 0x7000⟩
          let rec_ : Entry := { kind := 0, head := recHead mix ch (leAt p 10 2) m.group o, act := .reading none true,
                                fn := 0x11 }
          let cmdE := { commandEntry h p (zeros 8) [] { cmd := some (.editReading h p), data := p } with fill := 1 }
          let t := tailAt s mix ch
          let s1 := if t.hasLast ∧ t.lastEnd = e then setTail mix ch { t with lastValue := o.value } s else s
          .stays (postGroup [cmdE, rec_] s1)

/-- EDIT_READING (05 R187). -/
def execEditReading (h : Hdr) (p : List Byte) (s : State) : Host.Outcome State Fault Refusal :=
  .next (runCmd h p true (editBody h p) s)

end Sys2Proof.Machine
end

