-- ==== Sys2Proof/Machine/Tally.lean ====
section
/-! DEFINITION. Tally (07 R222 to R236): balance groups, the close of an interval, alarms, anomalies, BALANCE_GROUP_SET. -/
namespace Sys2Proof.Machine

/-! Groups. -/

/-- A balance group's state; groups never set hold the defaults (07 R223). -/
def grpAt (s : State) (g : Nat) : GroupSt := (assocGet g s.tally.groups).getD {}

/-- A balance group's state replaced. -/
def setGrp (g : Nat) (x : GroupSt) (s : State) : State :=
  { s with tally := { s.tally with groups := assocSet g x s.tally.groups } }

/-- The definition of the intervals of a group that begin at an instant: the newest whose begin has come; the defaults at
first (07 R223, R226). -/
def defFor (x : GroupSt) (u : Nat) : GroupDef :=
  (((x.defs.filter (fun d => decide (d.1 ≤ u))).getLast?).map Prod.snd).getD {}

/-- The definition of the next interval to close. -/
def dfOf (x : GroupSt) : GroupDef := defFor x x.lastT

/-- The definitions of the next interval and of those after it. -/
def dfsLeft (x : GroupSt) : List GroupDef :=
  dfOf x :: (x.defs.filter (fun d => decide (x.lastT < d.1))).map Prod.snd

/-- T of a definition in seconds. -/
def grpT (d : GroupDef) : Nat := intervalSec d.interval

/-- The next multiple of T at or after an instant. -/
def ceilTo (t x : Nat) : Nat := t * ceilDiv x t

/-- CLOSE_WAIT in seconds. -/
def closeWait (s : State) : Nat := rd s P13.CLOSE_WAIT * 60

/-- The next interval of a group to close: the definition of its begin, and its end; after the last closed one, or for a
group that has closed none the newest that is due (07 R226, R230; assumption log 116). -/
def nextInterval (s : State) (x : GroupSt) : GroupDef × Nat :=
  if x.lastT = 0 then
    let due := legalSec s - closeWait s
    let d := defFor x (due - 1)
    (d, due / grpT d * grpT d)
  else (dfOf x, ceilTo (grpT (dfOf x)) x.lastT + grpT (dfOf x))

/-! Boundary values (07 R227, R228). -/

/-- The boundary value of a key at an instant: the newest accepted record there, with VALID set. -/
def boundary (s : State) (mix ch t : Nat) : Option Entry :=
  match newestRec s mix ch t with
  | some e => if bitAt (recQ e) 0 then some e else none
  | none => none

/-- The difference of two boundary values, with the register's modulus added once after a wrap (07 R228). -/
def boundDiff (row : Row) (a b : Int) : Int :=
  if b - a < 0 ∧ row.rollDigits ≠ 0 ∧ rollLow row b = true then b - a + modulus row else b - a

/-- What a member comes to in an interval (07 R228). -/
inductive Member where
  | mismatch | excluded | missing
  | reports (imp : Int) (c : Int) (estimated : Bool)
  deriving DecidableEq, Repr

/-- A channel's rule row suits a balance interval (07 R228). -/
def rowSuits (s : State) (m : Meter) (ch t : Nat) : Bool :=
  let r := rowOf s m ch
  r.kind == 0 && intervalSec r.interval != 0 && t % intervalSec r.interval == 0

/-- A channel's difference over an interval, and whether a boundary value is an estimate. -/
def chanDiff (s : State) (m : Meter) (ch t len : Nat) : Option (Int × Bool) :=
  match boundary s m.mix ch (t - len), boundary s m.mix ch t with
  | some a, some b => some (boundDiff (rowOf s m ch) (recVal a) (recVal b), bitAt (recQ a) 1 || bitAt (recQ b) 1)
  | _, _ => none

/-- A member in an interval of a group (07 R228). -/
def memberIn (s : State) (d : GroupDef) (t : Nat) (m : Meter) : Member :=
  let len := grpT d
  let out := match newestRec s m.mix d.importCh t with
    | some e => bitAt (recQ e) 12
    | none => false
  if rowSuits s m d.importCh len = false ∨ (d.exportCh ≠ 0xFF ∧ rowSuits s m d.exportCh len = false) then .mismatch
  else if out then .excluded
  else match chanDiff s m d.importCh t len with
    | none => .missing
    | some (i, e1) =>
      if d.exportCh = 0xFF then .reports i i e1
      else match chanDiff s m d.exportCh t len with
        | some (x, e2) => .reports i (i - x) (e1 || e2)
        | none => .missing

/-- A meter belongs to a group at an interval's close: by its IMPORT_CH record at t, else by its state record (07
R228). -/
def belongs (s : State) (g : Nat) (d : GroupDef) (t : Nat) (m : Meter) : Bool :=
  m.rstate == 1 && (match newestRec s m.mix d.importCh t with
    | some e => leAt e.head 22 2 == g
    | none => m.group == g)

/-- A meter put in MIX order. -/
def insMeter (m : Meter) : List Meter → List Meter
  | [] => [m]
  | x :: l => if m.mix ≤ x.mix then m :: x :: l else x :: insMeter m l

/-- The members of a group at an interval's close, in MIX order. -/
def membersOf (s : State) (g : Nat) (d : GroupDef) (t : Nat) : List Meter :=
  (s.infeed.meters.filter (belongs s g d t)).foldr insMeter []

/-- The phases of a feed code (07 Table 07-2). -/
def feedPhases : Nat → List Nat
  | 1 => [1, 2, 3]
  | 2 => [1]
  | 3 => [2]
  | 4 => [3]
  | _ => []

/-- The profile periods with the instants at which each came into force: the one of the running interval where none has
changed (11 R387). -/
def periodsOf (s : State) : List (Nat × Nat) :=
  if s.tally.periods.isEmpty then [(0, intervalSec s.legal.core.period)] else s.tally.periods

/-- The multiples of `p` after `a` and up to `b`. -/
def multiplesIn (p a b : Nat) : List Nat :=
  (List.range (b / max 1 p - a / max 1 p)).map (fun i => (a / max 1 p + 1 + i) * max 1 p)

/-- The profile intervals of a totalizer that end after `a` and up to `b`, by the periods in force (11 R387). -/
def profileEnds (a b : Nat) : List (Nat × Nat) → List Nat
  | [] => []
  | [(f, p)] => multiplesIn p (max a f) b
  | (f, p) :: (f2, p2) :: l => multiplesIn p (max a f) (min b f2) ++ profileEnds a b ((f2, p2) :: l)

/-- The totalizer's net energy over an interval: available only when every profile interval ending in it is recorded; where
the period is longer than T and none ends in it, that holds of none and the sum is 0 (07 R229; assumption log 116). -/
def feedTotal (s : State) (phases : List Nat) (t len : Nat) : Option Int :=
  let ends := profileEnds (t - len) t (periodsOf s)
  let vals := (phases.map (fun ph => ends.map (fun e => assocGet (ph, e) s.tally.feedE))).flatten
  if metroOn s = false ∨ vals.any Option.isNone then none else some ((vals.map (fun v => v.getD 0)).sum)

/-- The feed energy of an interval, if it is available (07 R229). -/
def feedOf (s : State) (d : GroupDef) (t : Nat) : Option Int :=
  if d.feed = 0 then none
  else if d.feed = 5 then
    (match meterAt s d.feedMix with
      | some m => if rowSuits s m d.feedCh (grpT d) then (chanDiff s m d.feedCh t (grpT d)).map Prod.fst else none
      | none => none)
  else feedTotal s (feedPhases d.feed) t (grpT d)

/-! The balance (07 R230, R231). -/

/-- Counts and sum over the members of an interval. -/
structure Sums where
  members : Nat := 0
  reported : Nat := 0
  estimated : Nat := 0
  excluded : Nat := 0
  mismatch : Nat := 0
  s : Int := 0
  deriving DecidableEq, Repr

/-- One member added. -/
def Sums.add (x : Sums) : Member → Sums
  | .mismatch => { x with members := x.members + 1, mismatch := x.mismatch + 1 }
  | .excluded => { x with members := x.members + 1, excluded := x.excluded + 1 }
  | .missing => { x with members := x.members + 1 }
  | .reports _ c e => { x with members := x.members + 1, reported := x.reported + 1, s := x.s + c,
                               estimated := x.estimated + b2n e }

/-- The sums of an interval. -/
def sumsOf (s : State) (d : GroupDef) (t : Nat) (ms : List Meter) : Sums :=
  ms.foldl (fun x m => x.add (memberIn s d t m)) {}

/-- The quantities of R231. -/
structure Balance where
  code : Nat
  f : Int
  eTech : Int
  res : Int
  band : Int
  ratio : Int
  deriving DecidableEq, Repr

/-- The computation of R231 for a feed energy. -/
def balanceOf (d : GroupDef) (f : Int) (avail : Bool) (x : Sums) : Balance :=
  let ts : Int := grpT d
  let den := x.members - x.excluded
  let miss : Int := (den - x.reported : Nat)
  let eFix := Int.tdiv (d.pFix * ts) 3600
  let pAvg := if 0 < f then Int.tdiv (f * 3600) ts else 0
  let eLoad := Int.tdiv (f * d.loadPpm * pAvg) (d.pRated * 1000000)
  let eTech := eFix + eLoad
  let res := f - x.s - eTech
  let band := d.tolAbs + Int.tdiv ((f.natAbs : Int) * d.tolPpm) 1000000 + Int.tdiv (miss * d.missW * ts) 3600
  let ratio := if f = 0 then 0 else clampI (-(2 ^ 31 - 1)) (2 ^ 31 - 1) (Int.tdiv (res * 1000000) f)
  let code := if d.feed = 0 ∨ avail = false then 4
    else if x.reported * 10000 < d.coverMin * den ∨ den = 0 then 3
    else if band < res then 1
    else if res < -band then 2
    else 0
  ⟨code, f, eTech, res, band, ratio⟩

/-- An interval holds the legal time just before or after a step (07 R231). -/
def isStepped (s : State) (t len : Nat) : Bool :=
  s.tally.stepped.any (fun x => decide (((t - len : Nat) : Int) * 1000000000 < x) && decide (x ≤ (t : Int) * 1000000000))

/-! Persistence (07 R232). -/

/-- The set bits among the newest n of a window. -/
def winBits (w n : Nat) : Nat := ((List.range n).filter (fun i => bitAt w i)).length

/-- An alarm after a counted close. -/
def alarmAfter (s : State) (w : Nat) (on : Bool) : Bool :=
  if rd s P13.PERSIST_ON ≤ winBits w (rd s P13.PERSIST_WIN) then true
  else if winBits w (rd s P13.PERSIST_OFF) = 0 then false
  else on

/-- A window with the newest result shifted in. -/
def shiftWin (w : Nat) (b : Bool) : Nat := (w * 2 + b2n b) % 2 ^ 64

/-- Windows and alarms after a close; intervals that are not counted leave them (07 R232). -/
def persist (s : State) (x : GroupSt) (code : Nat) (stepped : Bool) : GroupSt :=
  if 2 < code ∨ stepped = true then { x with notCounted := x.notCounted + 1 }
  else
    let lw := shiftWin x.lossWin (code == 1)
    let nw := shiftWin x.negWin (code == 2)
    { x with lossWin := lw, negWin := nw, loss := alarmAfter s lw x.loss,
             neg := alarmAfter s nw x.neg }

/-- The page counters of alarms and anomalies (07 Table 07-10). -/
def tallyFields (s : State) : State :=
  let gl := (s.tally.groups.filter (fun g => g.2.loss)).length
  let gn := (s.tally.groups.filter (fun g => g.2.neg)).length
  let an := (s.tally.anoms.map (fun a => winBits a.2.active 3)).sum
  wr P13.GROUPS_IN_LOSS gl (wr P13.GROUPS_NEGATIVE gn (wr P13.ANOMALIES_ACTIVE an s))

/-- A change of an alarm logged with the group and t (07 R232). -/
def logAlarm (was now : Bool) (on off g t : Nat) (s : State) : State :=
  if was = now then s else logEv (if now then on else off) (leB 2 g ++ leB 5 t) s

/-- The BALANCE entry of a close (07 Table 07-5). -/
def balanceEntry (g t flags : Nat) (x : GroupSt) (b : Balance) (sm : Sums) : Entry :=
  ctlEntry 0x07
    (leB 1 1 ++ leB 1 b.code ++ leB 2 g ++ leB 5 t ++ leB 1 flags ++ leB 4 (ofS 32 b.ratio) ++ leB 8 x.lossWin)
    (leB 8 (ofS 64 b.f) ++ leB 8 (ofS 64 sm.s) ++ leB 8 (ofS 64 b.eTech) ++ leB 8 (ofS 64 b.res)
      ++ leB 8 (ofS 64 b.band) ++ leB 4 sm.members ++ leB 4 sm.reported ++ leB 4 sm.estimated ++ leB 4 sm.excluded
      ++ leB 4 sm.mismatch)
    (.balance g x) 0x13

/-! Anomalies (07 R234, R235). -/

/-- A member's anomaly state. -/
def anomAt (s : State) (mix : Nat) : Anom := (assocGet mix s.tally.anoms).getD {}

/-- The newest accepted record of every end of a key within (t − T, t]. -/
def windowRecs (s : State) (mix ch t len : Nat) : List Entry :=
  (((accRecords s mix ch).filter (fun e => decide (t - len < recEnd e) && decide (recEnd e ≤ t))).map recEnd).eraseDups.filterMap
    (fun e => newestRec s mix ch e)

/-- The condition of a rule for a member that reports (07 Table 07-4); none when the rule is off. -/
def anomCond (s : State) (d : GroupDef) (t : Nat) (m : Meter) (imp : Int) : Nat → Option Bool
  | 1 =>
    if d.voltCh = 0xFF then none
    else
      let vs := windowRecs s m.mix d.voltCh t (grpT d)
      let is_ := windowRecs s m.mix d.importCh t (grpT d)
      some (imp == 0 && vs.any (fun e => bitAt (recQ e) 0 && decide (d.vPresent ≤ recVal e))
        && !(vs ++ is_).any (fun e => bitAt (recQ e) 12 || bitAt (recQ e) 13))
  | 2 => some (decide (imp < 0) || (windowRecs s m.mix d.importCh t (grpT d)).any (fun e => bitAt (recQ e) 6))
  | _ =>
    if d.iphCh = 0xFF ∨ d.ineuCh = 0xFF then none
    else some (match chanDiff s m d.iphCh t (grpT d), chanDiff s m d.ineuCh t (grpT d) with
      | some (a, _), some (b, _) =>
        let big := max a.natAbs b.natAbs
        decide (d.neutralMin ≤ big)
          && decide (d.neutralPpm * big < ((a.natAbs : Int) - b.natAbs).natAbs * 1000000)
      | _, _ => false)

/-- The run at which a rule is raised. -/
def anomRun (d : GroupDef) : Nat → Nat
  | 1 => d.zeroRun
  | 2 => d.reverseRun
  | _ => d.neutralRun

/-- An ANOMALY entry (07 Table 07-5). -/
def anomEntry (rule action mix g t : Nat) (a : Anom) : Entry :=
  ctlEntry 0x07
    (leB 1 2 ++ leB 1 rule ++ leB 1 action ++ leB 3 mix ++ leB 2 g ++ leB 5 t ++ leB 1 (a.runs.getD 0 0)
      ++ leB 1 (a.runs.getD 1 0) ++ leB 1 (a.runs.getD 2 0) ++ leB 1 a.active ++ leB 1 a.theft)
    [] (.anomaly mix a) 0x13

/-- A member's anomaly state replaced. -/
def setAnom (mix : Nat) (a : Anom) (s : State) : State :=
  { s with tally := { s.tally with anoms := assocSet mix a s.tally.anoms } }

/-- A member's anomaly state changed, with its entry and its event (07 R235). -/
def anomChange (rule action mix g t : Nat) (a : Anom) (s : State) : State :=
  let b := { a with entryT := t }
  logEv (if action = 3 then evTheftSuspect else evMeterAnomaly) (dMix mix ++ leB 2 g ++ leB 1 rule)
    (postEntry (anomEntry rule action mix g t b) (setAnom mix b s))

/-- The run counts of one rule after a reported interval: with and without the condition (07 R234, R235). -/
def runRule (c : Option Bool) (i : Nat) (a : Anom) : Anom :=
  match c with
  | none => a
  | some true => { a with runs := a.runs.set i (min 255 (a.runs.getD i 0 + 1)), clear := a.clear.set i 0 }
  | some false => { a with runs := a.runs.set i 0, clear := a.clear.set i (a.clear.getD i 0 + 1) }

/-- The run counts of every rule after an interval that a member reports (07 R234). -/
def runRules (s : State) (d : GroupDef) (t : Nat) (m : Meter) (imp : Int) (a : Anom) : Anom :=
  [1, 2, 3].foldl (fun x r => runRule (anomCond s d t m imp r) (r - 1) x) a

/-- One rule of a member that reports, its runs counted: raised or cleared (07 R234, R235). -/
def anomRule (d : GroupDef) (g t : Nat) (v : State) (m : Meter) (imp : Int) (s : State) (rule : Nat) : State :=
  let a := anomAt s m.mix
  let i := rule - 1
  if (anomCond v d t m imp rule).isNone then s
  else if bitAt a.active i = false ∧ anomRun d rule ≤ a.runs.getD i 0 then
    anomChange rule 1 m.mix g t { a with active := setBits a.active i 1 1, raised := a.raised.set i t } s
  else if bitAt a.active i = true ∧ d.anomClear ≤ a.clear.getD i 0 then
    anomChange rule 2 m.mix g t { a with active := setBits a.active i 1 0, theft := setBits a.theft i 1 0 } s
  else s

/-- Every rule of a member that reports, on the records `v`: runs first, then entries in rule order (07 R234, R235, R247). -/
def anomMember (d : GroupDef) (g t : Nat) (v : State) (m : Meter) (imp : Int) (s : State) : State :=
  [1, 2, 3].foldl (anomRule d g t v m imp) (setAnom m.mix (runRules v d t m imp (anomAt s m.mix)) s)

/-- Active anomalies of a member of a group in loss that are not marked yet (07 R235). -/
def markTheft (g t : Nat) (s : State) (m : Meter) : State :=
  [1, 2, 3].foldl (fun u r =>
    let a := anomAt u m.mix
    if bitAt a.active (r - 1) && !bitAt a.theft (r - 1) then
      anomChange r 3 m.mix g t { a with theft := setBits a.theft (r - 1) 1 1 } u
    else u) s

/-- The anomaly tests of a close, on the records that count for it: members that report, then THEFT marks while the group is
in loss (07 R234, R235). -/
def anomalies (d : GroupDef) (g t : Nat) (loss : Bool) (v : State) (ms : List Meter) (s : State) : State :=
  let tested := if bitAt d.flags 0 then
      ms.foldl (fun u m => match memberIn v d t m with
        | .reports imp _ _ => anomMember d g t v m imp u
        | _ => u) s
    else s
  if loss then ms.foldl (markTheft g t) tested else tested

/-! The close (07 R226, R230). -/

/-- A change of FEED or INTERVAL. -/
def feedChanged (a b : GroupDef) : Bool := a.feed != b.feed || a.interval != b.interval

/-- Windows and alarms cleared (07 R226). -/
def clearWins (x : GroupSt) : GroupSt := { x with lossWin := 0, negWin := 0, loss := false, neg := false }

/-- The definition of the next interval takes over from that of the interval closed; a change of FEED or INTERVAL clears
windows and alarms and logs GROUP_RESET (07 R226). -/
def switchDef (g : Nat) (old : GroupDef) (s : State) : State :=
  let x := grpAt s g
  if feedChanged old (dfOf x) then logEv evGroupReset (leB 2 g) (setGrp g (clearWins x) s) else s

/-- Feed and every member of an interval are accounted for (07 R230). -/
def allReported (s : State) (d : GroupDef) (t : Nat) (ms : List Meter) : Bool :=
  (feedOf s d t).isSome && ms.all (fun m => memberIn s d t m != .missing)

/-- CLOSE_WAIT of an interval has passed (07 R230). -/
def timedOut (s : State) (t : Nat) : Bool := decide (t + closeWait s ≤ legalSec s)

/-- A group whose effects were released in this beat. -/
def freshGroup (s : State) (g : Group) : Bool := g.released && decide (g.relTick = s.beat.ticks) && decide (0 < g.no)

/-- The records accepted before the beat: what was released at the boundary at which an interval closes by timeout is a late
value of it (07 R247). -/
def withoutFresh (s : State) : State :=
  let now := ((s.ledger.groups.filter (freshGroup s)).map Group.entries).flatten
  let shut := now.filterMap (fun e => match e.act with
    | .batchClose n => some n
    | _ => none)
  { s with ledger := { s.ledger with
      groups := s.ledger.groups.map (fun g => if freshGroup s g then { g with released := false } else g)
      closedBatches := s.ledger.closedBatches.filter (fun n => !shut.contains n) } }

/-- The quantities of a close: the members, the feed energy and the sums, from the records that count for it (07 R227 to
R231, R247). -/
structure Closing where
  ms : List Meter
  f : Option Int
  sm : Sums

/-- What an interval closes with. -/
def closingOf (g : Nat) (d : GroupDef) (t : Nat) (v : State) : Closing :=
  let ms := membersOf v g d t
  ⟨ms, feedOf v d t, sumsOf v d t ms⟩

/-- The records that count for the close of an interval. -/
def viewFor (s : State) (t : Nat) : State := if timedOut s t then withoutFresh s else s

/-- An accepted record is a value that a group's interval may use: of a member's import or export channel, or of the feed
meter (07 R227 to R229). -/
def usesValue (d : GroupDef) (g : Nat) (e : Entry) : Bool :=
  (leAt e.head 22 2 == g && (recCh e == d.importCh || recCh e == d.exportCh))
    || (d.feed == 5 && d.feedMix == recMix e && d.feedCh == recCh e)

/-- An accepted record is a boundary value of an interval of a group that ends at `t` or earlier, by the definition of the
interval that ends with it. -/
def lateFor (g : Nat) (x : GroupSt) (t : Nat) (e : Entry) : Bool :=
  let d := defFor x (recEnd e - 1)
  usesValue d g e && bitAt (recQ e) 0 && recEnd e % (max 1 (grpT d)) == 0 && decide (recEnd e ≤ t)

/-- The values released in this beat that come too late for an interval which its timeout closes (07 R230, R247). -/
def lateFresh (s : State) (g t : Nat) : Nat :=
  if timedOut s t then
    ((((s.ledger.groups.filter (freshGroup s)).map Group.entries).flatten).filter (fun e =>
      e.kind == 0 && entryLive s e && lateFor g (grpAt s g) t e && !lateFor g (grpAt s g) (grpAt s g).lastT e)).length
  else 0

/-- An interval may close: Tally's slots have taken the accepted values (01 R12), and feed and every member are accounted for or
CLOSE_WAIT has passed (07 R230). -/
def mayClose (s : State) (g : Nat) (d : GroupDef) (t : Nat) : Bool :=
  s.tally.toCount == 0 && (timedOut s t || allReported s d t (membersOf s g d t))

/-- An interval of a group closed (07 R230 to R235). -/
def closeInterval (g : Nat) (d : GroupDef) (t : Nat) (s : State) : State :=
  let x := grpAt s g
  let v := viewFor s t
  let c := closingOf g d t v
  let b := balanceOf d (c.f.getD (Config.noFeed s.free)) c.f.isSome c.sm
  let st := isStepped s t (grpT d)
  let y := persist s x b.code st
  let changed := x.loss != y.loss || x.neg != y.neg
  let flags := b2n y.loss + 2 * b2n y.neg + 4 * b2n st + 8 * b2n changed
  let z := { y with lastT := t, lastRes := b.res, lastRatio := b.ratio, lastFlags := flags, closes := x.closes + 1 }
  let s1 := bumpI P13.LATE_VALUES 0 (lateFresh s g t) (bumpI P13.NOT_COUNTED 0 (b2n (decide (2 < b.code) || st))
    (bump P13.INTERVALS_CLOSED (setGrp g z (if c.f.isNone then drawn s else s))))
  let s2 := postEntry (balanceEntry g t flags z b c.sm) s1
  let s3 := logAlarm x.neg y.neg evGroupNegativeOn evGroupNegativeOff g t
    (logAlarm x.loss y.loss evGroupLossOn evGroupLossOff g t s2)
  tallyFields (switchDef g d (anomalies d g t y.loss v c.ms s3))

/-- Tally and Scribe run: their function is not held in reset and what a reset takes is rebuilt (07 R246). -/
def tallyRuns (s : State) : Bool := running s && (assocGet 0x13 s.cmd.funcReset).isNone

/-- INTERVAL_CLOSE (07 R230, R246). -/
def execIntervalClose (group : Nat) (s : State) : Host.Outcome State Fault Refusal :=
  .next (
    let x := grpAt s group
    let (d, t) := nextInterval s x
    if tallyRuns s = true ∧ group < 65536 ∧ x.lastT < t ∧ mayClose s group d t = true then closeInterval group d t s else s)

/-- An accepted value released to Tally: one for a closed interval is counted, a feed meter's for the groups it feeds too (07
R227, R230). -/
def tallyValue (e : Entry) (s : State) : State :=
  let own := leAt e.head 22 2
  let late := lateFor own (grpAt s own) (grpAt s own).lastT e || s.tally.groups.any (fun x => lateFor x.1 x.2 x.2.lastT e)
  if late then bump P13.LATE_VALUES s else s

/-! BALANCE_GROUP_SET (07 R222 to R226, R239). -/

/-- A group definition of 64 bytes (07 Table 07-2). -/
def defAt (b : List Byte) : GroupDef :=
  { feed := byteAt b 0, interval := byteAt b 1, importCh := byteAt b 2, exportCh := byteAt b 3, voltCh := byteAt b 4,
    iphCh := byteAt b 5, ineuCh := byteAt b 6, flags := byteAt b 7 % 2, feedMix := leAt b 8 4 % 2 ^ 20,
    feedCh := byteAt b 12, zeroRun := byteAt b 13, reverseRun := byteAt b 14, neutralRun := byteAt b 15,
    pFix := leAt b 16 4, loadPpm := leAt b 20 4, pRated := leAt b 24 4, tolAbs := leAt b 28 4, tolPpm := leAt b 32 4,
    missW := leAt b 36 4, coverMin := leAt b 40 2, anomClear := byteAt b 42, vPresent := toS 32 (leAt b 44 4),
    neutralPpm := leAt b 48 4, neutralMin := leAt b 52 4 }

/-- A channel byte that may say none. -/
def chOrNone (n : Nat) : Bool := decide (n ≤ 15) || n == 0xFF

/-- A value within bounds. -/
def within (lo hi n : Nat) : Bool := decide (lo ≤ n) && decide (n ≤ hi)

/-- The offset of the first field of a definition that is reserved or out of range (07 R224, third check). -/
def defBad (d : GroupDef) : Option Nat :=
  ([(0, decide (d.feed ≤ 5)), (1, [4, 5, 6].contains d.interval), (2, decide (d.importCh ≤ 15)), (3, chOrNone d.exportCh),
    (4, chOrNone d.voltCh), (5, chOrNone d.iphCh), (6, chOrNone d.ineuCh), (12, chOrNone d.feedCh),
    (13, within 1 64 d.zeroRun), (14, within 1 64 d.reverseRun), (15, within 1 64 d.neutralRun),
    (16, within 0 10000000 d.pFix), (20, within 0 200000 d.loadPpm), (24, within 1 100000000 d.pRated),
    (28, within 0 10000000 d.tolAbs), (32, within 0 200000 d.tolPpm), (36, within 0 100000 d.missW),
    (40, within 5000 10000 d.coverMin), (42, within 1 64 d.anomClear), (48, within 1000 1000000 d.neutralPpm)].find?
      (fun x => !x.2)).map Prod.fst

/-- Reference r of a reference set entry (07 Table 07-6). -/
def refAt (b : List Byte) (r : Nat) : ScribeRef :=
  let o := 8 * r
  { type := byteAt b o, phaseTag := byteAt b (o + 1), groupTag := leAt b (o + 2) 2,
    source := if byteAt b o = 1 then byteAt b (o + 4) else leAt b (o + 4) 3 % 2 ^ 20, channel := byteAt b (o + 7) }

/-- The references of a set. -/
def refsAt (b : List Byte) : List ScribeRef := (List.range 6).map (refAt b)

/-- The offset of the first field of a reference that is reserved or out of range. -/
def refBad (r : ScribeRef) : Option Nat :=
  if 2 < r.type then some 0
  else if 3 < r.phaseTag then some 1
  else if r.type = 1 ∧ within 1 3 r.source = false then some 4
  else if r.type = 2 ∧ chOrNone r.channel = false then some 7
  else none

/-- The entry size of a TYPE (07 Table 07-1). -/
def tallySize (ty : Nat) : Nat := if ty = 2 then 8 else 64

/-- An entry of the payload. -/
def tallyEntry (p : List Byte) (i : Nat) : List Byte := sliceB p (8 + i * tallySize (byteAt p 0)) (tallySize (byteAt p 0))

/-- The offset in the payload of the first field the third check refuses. -/
def tallyBad (p : List Byte) : Option Nat :=
  let n := leAt p 2 2
  if byteAt p 0 = 1 then
    ((List.range n).filterMap (fun i => (defBad (defAt (tallyEntry p i))).map (fun o => 8 + 64 * i + o))).min?
  else if byteAt p 0 = 3 then
    ((List.range n).filterMap (fun i => (((List.range 6).filterMap (fun r =>
      (refBad (refAt (tallyEntry p i) r)).map (fun o => 8 * r + o))).min?).map (fun o => 8 + 64 * i + o))).min?
  else none

/-- An entry that needs the totalizer while metrology is unpowered (07 R224, R239). -/
def needsMetro (s : State) (ty : Nat) (b : List Byte) : Bool :=
  !metroOn s && ((ty == 1 && within 1 4 (defAt b).feed) || (ty == 3 && (refsAt b).any (fun r => r.type == 1)))

/-- An entry that names a meter that is not enrolled (07 R224). -/
def namesNone (s : State) (ty : Nat) (b : List Byte) : Bool :=
  if ty = 1 then (defAt b).feed == 5 && (meterAt s (defAt b).feedMix).isNone
  else if ty = 2 then (meterAt s (leAt b 0 4 % 2 ^ 20)).isNone
  else (refsAt b).any (fun r => r.type == 2 && (meterAt s r.source).isNone)

/-- The definitions of a group that may feed on a meter: the one in force and those to come. -/
def feedsOn (s : State) (g mix : Nat) : Bool :=
  (dfsLeft (grpAt s g)).any (fun d => d.feed == 5 && d.feedMix == mix)

/-- A feed meter is or would become a member of its group (07 R224). -/
def feedsSelf (s : State) (ty g : Nat) (b : List Byte) : Bool :=
  if ty = 1 then (defAt b).feed == 5 && (match meterAt s (defAt b).feedMix with
    | some m => m.group == g
    | none => false)
  else if ty = 2 then feedsOn s (leAt b 4 2) (leAt b 0 4 % 2 ^ 20)
  else false

/-- The membership moves of a payload: MIX and group. -/
def movesOf (p : List Byte) : List (Nat × Nat) :=
  if byteAt p 0 = 2 then (List.range (leAt p 2 2)).map (fun i =>
    (leAt (tallyEntry p i) 0 4 % 2 ^ 20, leAt (tallyEntry p i) 4 2)) else []

/-- The group a meter is in once these moves are made. -/
def groupAfter (s : State) (l : List (Nat × Nat)) (mix : Nat) : Option Nat :=
  match (l.filter (fun x => x.1 == mix)).getLast? with
  | some x => some x.2
  | none => (meterAt s mix).map Meter.group

/-- Entry `i` changes something, the entries before it made (07 R222, R225). -/
def tallyChanges (s : State) (p : List Byte) (i : Nat) : Bool :=
  let b := tallyEntry p i
  let idx := leAt p 4 2 + i
  if byteAt p 0 = 1 then ((dfsLeft (grpAt s idx)).getLast?) != some (defAt b)
  else if byteAt p 0 = 2 then
    groupAfter s ((movesOf p).take i) (leAt b 0 4 % 2 ^ 20) != some (leAt b 4 2)
  else (assocGet idx s.tally.refSets).getD (refsAt (zeros 64)) != refsAt b

/-- BALANCE_GROUP_SET's checks (07 R224). -/
def groupSetBody (h : Hdr) (p : List Byte) (s : State) : Ans :=
  let ty := byteAt p 0
  let n := leAt p 2 2
  let first := leAt p 4 2
  let es := (List.range n).map (fun i => (first + i, tallyEntry p i))
  if ty = 0 ∨ 3 < ty then .fail stBadPayload 0
  else if n = 0 ∨ p.length ≠ 8 + n * tallySize ty then .fail stBadPayload 2
  else if (ty = 1 ∧ 65536 < first + n) ∨ (ty = 3 ∧ 16 < first + n) then .fail stOutOfRange 32
  else match tallyBad p with
    | some o => .fail stBadPayload o
    | none =>
      if es.any (fun x => needsMetro s ty x.2) then .fail stDeniedState 0
      else if es.any (fun x => namesNone s ty x.2) then .fail stUnknownObject 0
      else if es.any (fun x => feedsSelf s ty x.1 x.2) then .fail stDeniedState 0
      else .accept (leB 4 ((List.range n).filter (tallyChanges s p)).length) p
        { cmd := some (.balanceGroupSet h p) } s

/-- BALANCE_GROUP_SET (07 R222). -/
def execBalanceGroupSet (h : Hdr) (p : List Byte) (s : State) : Host.Outcome State Fault Refusal :=
  .next (runCmd h p true (groupSetBody h p) s)

/-- The definitions of a group once nothing accepted can need the older ones: the last closed interval that is durable and
those after it. -/
def pruneDefs (durT : Nat) (l : List (Nat × GroupDef)) : List (Nat × GroupDef) :=
  ((l.filter (fun d => decide (d.1 < durT))).getLast?).toList ++ l.filter (fun d => decide (durT ≤ d.1))

/-- A new definition applies from the first multiple of its T at or after both the boundary and the end of the newest interval
open under the definition of the intervals now running; a definition to come that would begin no sooner never applies (07
R226). -/
def setDef (g : Nat) (d : GroupDef) (s : State) : State :=
  let x := grpAt s g
  let now := ceilDiv (legalNs s).toNat 1000000000
  let b := ceilTo (grpT d) (ceilTo (grpT (defFor x now)) now)
  let l := x.defs.filter (fun y => decide (y.1 < b))
  let durT := ((assocGet g s.tally.durG).map GroupSt.lastT).getD 0
  let same := ((l.getLast?).map Prod.snd).getD {} == d
  setGrp g { x with defs := pruneDefs durT (if same then l else l ++ [(b, d)]) } s

/-- The effect of BALANCE_GROUP_SET (07 R225, R226). -/
def effBalanceGroupSet (e : Eff) (s : State) : State :=
  let p := e.data
  let first := leAt p 4 2
  (List.range (leAt p 2 2)).foldl (fun t i =>
    let b := tallyEntry p i
    if byteAt p 0 = 1 then setDef (first + i) (defAt b) t
    else if byteAt p 0 = 2 then modMeter (leAt b 0 4 % 2 ^ 20) (fun m => { m with group := leAt b 4 2 }) t
    else { t with tally := { t.tally with refSets := assocSet (first + i) (refsAt b) t.tally.refSets } }) s

end Sys2Proof.Machine
end

