-- ==== Sys2Proof/Machine/Scribe.lean ====
section
/-! DEFINITION. Scribe (07 R237 to R245): reference samples, campaigns, the statistic, the decision, TALLY_QUERY. -/
namespace Sys2Proof.Machine

/-! Campaigns (07 R240). -/

/-- A campaign of a number. -/
def campOf (s : State) (no : Nat) : Option ScribeCamp := s.tally.campaigns.find? (fun c => c.no == no)

/-- A campaign changed. -/
def modCamp (no : Nat) (f : ScribeCamp → ScribeCamp) (s : State) : State :=
  { s with tally := { s.tally with campaigns := mapIf (fun c => c.no == no) f s.tally.campaigns } }

/-- A campaign runs: it collects or evaluates. -/
def campRuns (c : ScribeCamp) : Bool := c.st == 1 || c.st == 2

/-- CAMPAIGNS_RUNNING. -/
def campFields (s : State) : State := wr P13.CAMPAIGNS_RUNNING (s.tally.campaigns.filter campRuns).length s

/-- The references of a set. -/
def refSet (s : State) (n : Nat) : List ScribeRef := (assocGet n s.tally.refSets).getD []

/-- The references in use, with their places. -/
def usedRefs (s : State) (n : Nat) : List (Nat × ScribeRef) :=
  (((List.range 6).zip (refSet s n)).filter (fun x => x.2.type != 0))

/-- The meters a start selects, in MIX order (07 R240). -/
def selectOf (s : State) (p : List Byte) : List Nat :=
  let lo := leAt p 4 4
  let refs := (usedRefs s (byteAt p 1)).filterMap (fun r => if r.2.type = 2 then some r.2.source else none)
  let inSel := fun (m : Meter) => m.rstate == 1 && !refs.contains m.mix &&
    (if bitAt (byteAt p 14) 0 then m.group == lo % 65536
     else decide (lo % 2 ^ 20 ≤ m.mix) && decide (m.mix ≤ leAt p 8 4 % 2 ^ 20))
  ((s.infeed.meters.filter inSel).foldr insMeter []).map Meter.mix

/-- Starts that are accepted and not yet applied. -/
def pendingStarts (s : State) : Nat :=
  ((pendingEffs s).filter (fun e => match e.cmd with
    | some (.scribeCampaign _ _) => byteAt e.data 0 == 1
    | _ => false)).length

/-- SCRIBE_CAMPAIGN's checks (07 R240). -/
def scribeBody (h : Hdr) (p : List Byte) (s : State) : Ans :=
  if byteAt p 0 = 1 then
    let sel := selectOf s p
    if 15 < byteAt p 1 then .fail stOutOfRange 8
    else if (usedRefs s (byteAt p 1)).isEmpty then .fail stBadPayload 1
    else if 15 < byteAt p 2 then .fail stOutOfRange 16
    else if byteAt p 3 = 0 ∨ 4 < byteAt p 3 then .fail stOutOfRange 24
    else if leAt p 12 2 < 96 ∨ 4096 < leAt p 12 2 then .fail stOutOfRange 96
    else if 4 ≤ (s.tally.campaigns.filter campRuns).length + pendingStarts s then .fail stNoResource 0x1301
    else if 65536 < sel.length then .fail stNoResource 0x1302
    else if metroOn s = false ∧ (usedRefs s (byteAt p 1)).any (fun r => r.2.type == 1) = true then .fail stDeniedState 0
    else
      let no := s.tally.nextCampaign
      .accept (leB 4 no ++ leB 4 sel.length) p { cmd := some (.scribeCampaign h p), args := no :: sel }
        { s with tally := { s.tally with nextCampaign := no + 1 } }
  else if byteAt p 0 = 2 then
    match campOf s (leAt p 4 4) with
    | some c => .accept (leB 4 c.no ++ leB 4 c.selected.length) p { cmd := some (.scribeCampaign h p), args := [c.no] } s
    | none => .fail stUnknownObject 0
  else .fail stBadPayload 0

/-- SCRIBE_CAMPAIGN (07 R240). -/
def execScribeCampaign (h : Hdr) (p : List Byte) (s : State) : Host.Outcome State Fault Refusal :=
  .next (runCmd h p true (scribeBody h p) s)

/-- The first step end of a window after the present legal time. -/
def firstStep (s : State) (step : Nat) : Nat := ((legalNs s / 1000000000).toNat / step + 1) * step

/-- The effect of SCRIBE_CAMPAIGN: a window begins, or the campaign stops; one without meters has ended (07 R240,
R241). -/
def effScribeCampaign (e : Eff) (s : State) : State :=
  let p := e.data
  if byteAt p 0 = 1 then
    let step := intervalSec (byteAt p 3)
    let c : ScribeCamp := { no := e.args.getD 0 0, refSet := byteAt p 1, voltCh := byteAt p 2, step := step,
                            first := firstStep s step, len := leAt p 12 2, selected := e.args.drop 1 }
    let none_ := c.selected.isEmpty
    let t := campFields { s with tally := { s.tally with
      campaigns := s.tally.campaigns ++ [{ c with st := if none_ then 3 else c.st }] } }
    if none_ then logEv evScribeDone (leB 4 c.no) t else t
  else match campOf s (e.args.getD 0 0) with
    | some c =>
      if campRuns c then logEv evCampaignStopped (leB 4 c.no) (campFields (modCamp c.no (fun x => { x with st := 4 }) s)) else s
    | none => s

/-! Totalizer reference samples (07 R238). -/

/-- The legal second at which step i of a window ends. -/
def stepEnd (c : ScribeCamp) (i : Nat) : Nat := c.first + i * c.step

/-- A step's span holds the legal time just before or after a step of legal time (07 R238). -/
def stepCut (cuts : List Int) (c : ScribeCamp) (i : Nat) : Bool :=
  cuts.any (fun x => decide (((stepEnd c i - c.step : Nat) : Int) * 1000000000 < x)
    && decide (x ≤ (stepEnd c i : Int) * 1000000000))

/-- Steps passed by a crossing: each gets its sample, or is invalid (07 R238). -/
def passSteps (cuts : List Int) (c : ScribeCamp) (r : Nat) (x : Int) : Nat → RefAcc → List ((Nat × Nat) × Option Int) → RefAcc × List ((Nat × Nat) × Option Int)
  | 0, a, l => (a, l)
  | n + 1, a, l =>
    if a.step < c.len ∧ ((stepEnd c a.step : Int) * 1000000000 ≤ x) then
      let v : Option Int := if a.started && a.ok && a.n != 0 && !stepCut cuts c a.step then some ((a.sum / a.n : Nat) : Int) else none
      let later : Bool := decide (((stepEnd c (a.step + 1) : Nat) : Int) * 1000000000 ≤ x)
      passSteps cuts c r x n { step := a.step + 1, started := true, sum := 0, n := 0, ok := !later } (l ++ [((r, a.step), v)])
    else (a, l)

/-- One reference of a campaign takes a crossing at legal ns x, with the RMS voltages of the two half-cycles it ends. -/
def takeCrossing (cuts : List Int) (x : Int) (h1 h2 : Nat) (late : Bool) (c : ScribeCamp) (r : Nat) : ScribeCamp :=
  let a := (assocGet r c.refAcc).getD {}
  let begun := ((c.first : Int) - c.step) * 1000000000 ≤ x
  let b : RefAcc := if a.started then { a with sum := a.sum + h1 + h2, n := a.n + 2, ok := a.ok && !late }
    else { a with started := begun }
  let (a2, l) := passSteps cuts c r x (c.len + 1) b c.refSamples
  { c with refAcc := assocSet r a2 c.refAcc, refSamples := l }

/-- Every running campaign's totalizer references of a phase changed. -/
def mapRefs (ph : Nat) (f : ScribeCamp → Nat → ScribeCamp) (s : State) : State :=
  let g := fun (c : ScribeCamp) =>
    ((usedRefs s c.refSet).filter (fun r => r.2.type == 1 && r.2.source == ph)).foldl (fun d r => f d r.1) c
  { s with tally := { s.tally with campaigns := mapIf campRuns g s.tally.campaigns } }

/-- Every running campaign's totalizer references of a phase take a crossing. -/
def refCrossing (ph : Nat) (x : Int) (h1 h2 : Nat) (late : Bool) (s : State) : State :=
  mapRefs ph (takeCrossing s.tally.stepped x h1 h2 late) s

/-- Crossings of a phase stay away at legal ns x: the sample being taken is invalid, and every step that has ended has its
invalid sample (07 R238, R241). -/
def refLapse (cuts : List Int) (x : Int) (c : ScribeCamp) (r : Nat) : ScribeCamp :=
  let a := (assocGet r c.refAcc).getD {}
  let (a2, l) := passSteps cuts c r x (c.len + 1) { a with ok := false } c.refSamples
  { c with refAcc := assocSet r { a2 with ok := false } c.refAcc, refSamples := l }

/-! Series (07 R241, R242). -/

/-- A channel suits a campaign: sampled, with its STEP, and enrolled. -/
def seriesOk (s : State) (mix ch step : Nat) : Bool :=
  match meterAt s mix with
  | some m => (rowOf s m ch).kind == 2 && intervalSec (rowOf s m ch).interval == step
  | none => false

/-- A meter's step value at an end. -/
def meterStep (s : State) (mix ch e : Nat) : Option Int := (boundary s mix ch e).map recVal

/-- A step of a meter is settled: it has a value, or its slot is not PENDING (07 R241). -/
def stepKnown (s : State) (mix ch e step : Nat) : Bool :=
  (meterStep s mix ch e).isSome || slotAt s mix ch (slotOf step e) != some .pend

/-- A series over the window. -/
def meterSeries (s : State) (c : ScribeCamp) (mix ch : Nat) : List (Option Int) :=
  (List.range c.len).map (fun i => meterStep s mix ch (stepEnd c i))

/-- The series of a reference; a meter's channel that does not suit the campaign has no step values (07 R241). -/
def refSeries (s : State) (c : ScribeCamp) (r : Nat × ScribeRef) : List (Option Int) :=
  if r.2.type = 1 then (List.range c.len).map (fun i => (assocGet (r.1, i) c.refSamples).getD none)
  else if seriesOk s r.2.source r.2.channel c.step then meterSeries s c r.2.source r.2.channel
  else List.replicate c.len none

/-- Step-to-step changes where both series have both values (07 R242). -/
def diffPairs : List (Option Int) → List (Option Int) → List (Int × Int)
  | some a :: some b :: l, some c :: some d :: m => (b - a, d - c) :: diffPairs (some b :: l) (some d :: m)
  | _ :: l, _ :: m => diffPairs l m
  | _, _ => []

/-- The integer square root, bit by bit from bit `k`. -/
def isqrt (n : Nat) : Nat → Nat → Nat
  | 0, acc => acc
  | k + 1, acc => let t := acc + 2 ^ k; if t * t ≤ n then isqrt n k t else isqrt n k acc

/-- The correlation of pairs in 10^-6, truncated; none when a variance is 0 (07 R242). -/
def rhoOf (l : List (Int × Int)) : Option Int :=
  let n : Int := l.length
  let sx := (l.map Prod.fst).sum
  let sy := (l.map Prod.snd).sum
  let c := n * (l.map (fun p => p.1 * p.2)).sum - sx * sy
  let a := n * (l.map (fun p => p.1 * p.1)).sum - sx * sx
  let b := n * (l.map (fun p => p.2 * p.2)).sum - sy * sy
  if a = 0 ∨ b = 0 then none
  else
    let m : Int := isqrt ((10 ^ 12 * c.natAbs ^ 2) / (a * b).natAbs) 21 0
    some (if c < 0 then -m else m)

/-- The correlation and pairs of one reference; none where it is excluded (07 R242). -/
def rhoRef (s : State) (c : ScribeCamp) (mix : Nat) (r : Nat × ScribeRef) : Option Int × Nat :=
  let ps := diffPairs (meterSeries s c mix c.voltCh) (refSeries s c r)
  if ps.length < rd s P13.N_MIN_PCT * (c.len - 1) / 100 then (none, ps.length) else (rhoOf ps, ps.length)

/-- The highest and second-highest of the correlations, with the place of the highest. -/
def topTwo : List (Nat × Option Int) → Option (Nat × Int) × Option Int
  | [] => (none, none)
  | (i, some v) :: l =>
    (match topTwo l with
      | (some (j, w), sec) => if w ≤ v then (some (i, v), some w)
          else (some (j, w), some (match sec with
            | some x => max x v
            | none => v))
      | (none, _) => (some (i, v), none))
  | (_, none) :: l => topTwo l

/-- The decision of R243: code, and the reference of the highest correlation. -/
def decide_ (s : State) (rs : List (Nat × Option Int)) : Nat × Option (Nat × Int) :=
  match topTwo rs with
  | (none, _) => (4, none)
  | (some (i, v), sec) =>
    if v < rd s P13.RHO_MIN * 10000 then (2, some (i, v))
    else if v - sec.getD 0 < rd s P13.RHO_GAP * 10000 then (3, some (i, v))
    else (1, some (i, v))

/-! Evaluation (07 R241, R243, R244). -/

/-- The last step end of a window. -/
def lastStep (c : ScribeCamp) : Nat := stepEnd c (c.len - 1)

/-- Every step is known for the meter and every reference, or SCRIBE_WAIT has passed (07 R241). -/
def evaluable (s : State) (c : ScribeCamp) (mix : Nat) : Bool :=
  let known := fun m ch => !seriesOk s m ch c.step || (List.range c.len).all (fun i => stepKnown s m ch (stepEnd c i) c.step)
  let refKnown := fun (r : Nat × ScribeRef) =>
    if r.2.type = 1 then (List.range c.len).all (fun i => (assocGet (r.1, i) c.refSamples).isSome)
    else known r.2.source r.2.channel
  (decide (lastStep c ≤ legalSec s) && known mix c.voltCh && (usedRefs s c.refSet).all refKnown)
    || decide (lastStep c + rd s P13.SCRIBE_WAIT * 60 < legalSec s)

/-- A meter of a campaign has no PHASE entry yet. -/
def undecided (c : ScribeCamp) (mix : Nat) : Bool := c.selected.contains mix && !c.results.any (fun r => r.mix == mix)

/-- The series blocks of a meter (07 R244). -/
def blocksNeeded (c : ScribeCamp) : Nat := ceilDiv (c.len - 1) 256

/-- The PHASE entry of a result (07 Table 07-5). -/
def phaseEntry (c : ScribeCamp) (r : ScribeRes) (rhos : List (Option Int)) : Entry :=
  let word := fun (v : Option Int) => match v with
    | some x => leB 4 (ofS 32 x)
    | none => leB 4 0x80000000
  ctlEntry 0x07
    (leB 1 3 ++ leB 1 r.decision ++ leB 1 r.chosen ++ leB 3 r.mix ++ leB 1 r.phaseTag ++ leB 1 0 ++ leB 2 r.groupTag
      ++ leB 4 c.no ++ leB 2 r.pairs)
    ((rhos.map word).flatten ++ leB 4 c.len) .none 0x13

/-- The correlations of a meter with all six places of the set. -/
def rhosOf (s : State) (c : ScribeCamp) (mix : Nat) : List (Option Int × Nat) :=
  (List.range 6).map (fun i => match (usedRefs s c.refSet).find? (fun r => r.1 == i) with
    | some r => rhoRef s c mix r
    | none => (none, 0))

/-- The result of a meter (07 R243). -/
def resultOf (s : State) (c : ScribeCamp) (mix : Nat) : ScribeRes × List (Option Int) :=
  if seriesOk s mix c.voltCh c.step = false then
    ({ mix := mix, decision := 5, chosen := 0xFF, phaseTag := 0, groupTag := 0xFFFF, rho1 := 0, pairs := 0 },
      List.replicate 6 none)
  else
    let rs := rhosOf s c mix
    let (code, best) := decide_ s ((List.range 6).zip (rs.map Prod.fst))
    let i := (best.map Prod.fst).getD 0
    let r := (refSet s c.refSet).getD i {}
    ({ mix := mix, decision := code, chosen := if code = 1 then i else 0xFF, phaseTag := if code = 1 then r.phaseTag else 0,
       groupTag := if code = 1 then r.groupTag else 0xFFFF, rho1 := (best.map Prod.snd).getD 0,
       pairs := (rs.getD i (none, 0)).2 }, rs.map Prod.fst)

/-- SCRIBE_EVALUATE: the PHASE entry of a meter whose window is filled or timed out and whose blocks are done, and the
campaign's end (07 R241, R243, R244, R246). -/
def execScribeEvaluate (campaign mix : Nat) (s : State) : Host.Outcome State Fault Refusal :=
  .next (match campOf s campaign with
    | none => s
    | some c =>
      let ready := seriesOk s mix c.voltCh c.step = false ∨ blocksNeeded c ≤ (assocGet mix c.blocks).getD 0
      if tallyRuns s = true ∧ campRuns c = true ∧ undecided c mix = true ∧ evaluable s c mix = true ∧ ready then
        let (r, rhos) := resultOf s c mix
        let ended := (c.selected.filter (fun m => m != mix && undecided c m)).isEmpty
        let s1 := postEntry (phaseEntry c r rhos) (modCamp campaign (fun x =>
          { x with results := x.results ++ [r], blocks := assocDel mix x.blocks, st := if ended then 3 else 2 }) s)
        let s2 := bump (if r.decision = 1 then P13.METERS_DECIDED else P13.METERS_UNDECIDED) s1
        let grp := ((meterAt s mix).map Meter.group).getD 0
        let s3 := if r.decision = 1 ∧ r.groupTag ≠ grp then
            logEv evScribeMismatch (dMix mix ++ leB 2 grp ++ leB 2 r.groupTag) s2 else s2
        campFields (if ended then logEv evScribeDone (leB 4 campaign) s3 else s3)
      else s)

/-- The next series block: the first meter of a running campaign that may be evaluated (07 R244). -/
def scribeWork (s : State) : Option (Nat × Nat) :=
  ((s.tally.campaigns.filter campRuns).filterMap (fun c =>
    (c.selected.find? (fun m => undecided c m && seriesOk s m c.voltCh c.step && evaluable s c m
      && decide ((assocGet m c.blocks).getD 0 < blocksNeeded c))).map (fun m => (c.no, m)))).head?

/-- One Scribe slot: one series block (07 R244). -/
def scribeSlot (s : State) : State :=
  match scribeWork s with
  | some (no, m) => modCamp no (fun c => { c with blocks := assocMod m 0 (fun n => n + 1) c.blocks, st := 2 }) s
  | none => s

/-- A campaign whose buffer is lost restarts its window; one with meter references only goes on (07 R246). -/
def restartCamp (s : State) (c : ScribeCamp) : State :=
  if campRuns c = true ∧ (usedRefs s c.refSet).any (fun r => r.2.type == 1) = true then
    logEv evScribeRestarted (leB 4 c.no) (modCamp c.no (fun x =>
      { x with first := firstStep s x.step, refSamples := [], refAcc := [], blocks := [] }) s)
  else modCamp c.no (fun x => { x with blocks := [] }) s

/-! TALLY_QUERY (07 R245). -/

/-- Mode 0x01: the state of a group; of its flags, STEPPED and alarm changed are those of its newest BALANCE entry. -/
def groupData (s : State) (g : Nat) : List Byte :=
  let x := grpAt s g
  leB 2 g ++ leB 1 (b2n x.loss + 2 * b2n x.neg + x.lastFlags / 4 * 4) ++ zeros 1
    ++ leB 4 (s.infeed.meters.filter (fun m => m.rstate == 1 && m.group == g)).length ++ leB 8 x.lossWin
    ++ leB 8 x.negWin ++ leB 5 x.lastT ++ zeros 3 ++ leB 8 (ofS 64 x.lastRes) ++ leB 4 (ofS 32 x.lastRatio)
    ++ leB 4 x.closes ++ leB 4 x.notCounted ++ zeros 12

/-- The interval of raising that a record of active anomalies gives: of several active rules the newest, since a record holds
one (07 R245; log 116, DESIGN CHOICE). -/
def raisedOf (a : Anom) : Nat :=
  ([0, 1, 2].filter (fun i => bitAt a.active i)).foldl (fun x i => max x (a.raised.getD i 0)) 0

/-- Mode 0x02: the active anomalies of a group from a MIX. -/
def anomData (s : State) (g max_ start : Nat) : List Byte :=
  let ms := ((s.infeed.meters.filter (fun m => m.rstate == 1 && m.group == g && decide (start ≤ m.mix)
    && (anomAt s m.mix).active != 0)).foldr insMeter [])
  let out := ms.take max_
  let next := match ms.drop max_ with
    | m :: _ => m.mix
    | [] => 0xFFFFFFFF
  let one := fun (m : Meter) =>
    let a := anomAt s m.mix
    leB 4 m.mix ++ leB 1 a.active ++ leB 1 a.theft ++ leB 1 (a.runs.getD 0 0) ++ leB 1 (a.runs.getD 1 0)
      ++ leB 1 (a.runs.getD 2 0) ++ leB 5 (raisedOf a) ++ zeros 2
  leB 4 out.length ++ leB 4 next ++ zeros 8 ++ (out.map one).flatten

/-- Mode 0x03: a campaign's status and results from an index. -/
def campData (c : ScribeCamp) (max_ start : Nat) : List Byte :=
  let dec := (c.results.filter (fun r => r.decision == 1)).length
  let one := fun (r : ScribeRes) =>
    leB 4 r.mix ++ leB 1 r.decision ++ leB 1 r.chosen ++ leB 1 r.phaseTag ++ zeros 1 ++ leB 2 r.groupTag
      ++ leB 4 (ofS 32 r.rho1) ++ leB 2 r.pairs
  leB 4 c.no ++ leB 1 c.st ++ zeros 3 ++ leB 4 c.selected.length ++ leB 4 dec ++ leB 4 (c.results.length - dec)
    ++ leB 4 (lastStep c % 2 ^ 32) ++ zeros 8 ++ (((c.results.drop start).take max_).map one).flatten

/-- TALLY_QUERY (07 R245). -/
def execTallyQuery (h : Hdr) (p : List Byte) (s : State) : Host.Outcome State Fault Refusal :=
  .next (runCmd h p false (fun t =>
    let n := byteAt p 1
    match byteAt p 0 with
    | 1 => .done (groupData t (leAt p 2 2)) t
    | 2 => if n = 0 then .fail stOutOfRange 8 else .done (anomData t (leAt p 2 2) n (leAt p 8 4 % 2 ^ 20)) t
    | 3 =>
      (match campOf t (leAt p 4 4) with
        | some c => if n = 0 then .fail stOutOfRange 8 else .done (campData c n (leAt p 8 4)) t
        | none => .fail stUnknownObject 0)
    | _ => .fail stBadPayload 0) s)

end Sys2Proof.Machine
end

