-- ==== Sys2Proof/Machine/Release.lean ====
section
/-! DEFINITION. The release of accepted groups and the effects of acceptance (06 R200, R201, Table 06-5; 04 R149, R154 to
R157, R160). -/
namespace Sys2Proof.Machine

/-! Frames (04 R149, R155, R156). -/

/-- What a completed frame leaves in its meter's record (05 Table 05-1). A frame without readings carries no LAST_END. -/
def frameFields (f : FrameRec) (at_ : Nat) (m : Meter) : Meter :=
  let m1 := { m with lastFseq := f.fseq, lastArrival := at_ }
  if f.rdgs.isEmpty then m1
  else { m1 with lastFrameEnd := f.frameEnd, mstatus := f.mstatus,
                 clockOffset := clampI (-2147483647) 2147483647 ((f.frameEnd : Int) - at_) }

/-- FRAME_COMPLETE: the meter's record follows its latest completed frame, the frame is acknowledged once per counter, and
its item is complete (04 R155 to R157). -/
def frameComplete (id : Nat) (s : State) : State :=
  match s.infeed.frames.find? (fun f => f.id == id) with
  | none => s
  | some f =>
    let s1 := modMeter f.mix (frameFields f (arrSec s f.arrival)) { s with infeed := { s.infeed with frames := s.infeed.frames.filter (fun x => x.id != id) } }
    let s2 := { s1 with dl := { s1.dl with newest := assocSet f.mix (f.way, f.src) s1.dl.newest } }
    streamDone f.way (appAck f.mix f.ic f.fseq f.way f.src (f.ackReq && !f.again) (disposition f) s2)

/-- A released COUNTER entry stands: its frame's counter is taken into what the record holds, unless the meter's generation
was raised since; IC_EXHAUSTING when IC_HIGH first reaches 0xFFFF0000 (04 R149). -/
def counterStands (e : Entry) (frame : Nat) (s : State) : State :=
  let mix := leAt e.head 0 3 % 2 ^ 20
  let s1 := match recordAt s mix with
    | some m =>
      if m.keyGen = leAt e.head 11 2 then
        let x := counterStep e (m.icHigh, m.icMap)
        let t := modMeter mix (fun y => { y with icHigh := x.1, icMap := x.2 }) s
        if m.icHigh < 0xFFFF0000 ∧ 0xFFFF0000 ≤ x.1 then logEv evIcExhausting (dMix mix) t else t
      else s
    | none => s
  frameComplete frame s1

/-! Readings (04 R154). -/

/-- An accepted record: its slot, its frame's reading, Tally (06 Table 06-5). -/
def readingStands (e : Entry) (frame : Option Nat) (est : Bool) (s : State) : State :=
  let (mix, ch, k) := keyOfEntry s e
  let mark := fun (r : Nat × Nat × ROut) =>
    if r.1 = ch ∧ r.2.1 = k ∧ r.2.2 = ROut.released then (r.1, r.2.1, ROut.accepted) else r
  let s1 := acceptSlot mix ch k est s
  let s2 := match frame with
    | some i => if est then s1 else modFrame i (fun f => { f with rdgs := f.rdgs.map mark }) s1
    | none => bump P11.EDITS s1
  count 0x06 0 1 (tallyValue e { s2 with ctr := { s2.ctr with perAccepted := satAdd 32 s2.ctr.perAccepted 1 }
                                         tally := { s2.tally with toCount := s2.tally.toCount + 1 } })

/-- What the acceptance of a record or COUNTER entry does. -/
def recordStands (e : Entry) (s : State) : State :=
  match e.act with
  | .reading f est => readingStands e f est s
  | .counter f _ _ => counterStands e f s
  | _ => s

/-- Every provisional record of a batch is accepted with its closing entry (04 R160; 06 R201). -/
def closeStands (no upTo : Nat) (s : State) : State :=
  let gs := s.ledger.groups.filter (fun g => g.released || decide (g.no ≤ upTo))
  let es := ((gs.map Group.entries).flatten).filter (fun e => e.prov && e.batch == no && !e.carry)
  let s1 := { s with ledger := { s.ledger with closedBatches := s.ledger.closedBatches ++ [no]
                                               secCount := s.ledger.secCount + es.length } }
  let s2 := es.foldl (fun t e => recordStands e t) s1
  modBatch no (fun b => { b with st := 3, lastAt := s.beat.ticks }) s2

/-! Commands (02 R61, R64). -/

/-- The effect of a command whose owner makes it stand with its release: a campaign's start or stop, and outputs (07 R240; 11
R401). -/
def effAtRelease (e : Eff) : Option (State → State) :=
  match e.cmd with
  | some (.scribeCampaign _ _) => some (effScribeCampaign e)
  | some (.outputControl _ _) => some (effOutputControl e)
  | _ => none

/-- A COMMAND entry released: the reply is held durably and sent, and the effect waits for the next boundary unless its owner
makes it stand at once (02 R61, R76). A replay holds the reply and sends nothing. -/
def commandStands (send : Bool) (h : Hdr) (crc st detail : Nat) (data : List Byte) (eff : Eff) (s : State) : State :=
  let d := match eff.cmd with
    | some (.promote _ _) => promoteData s
    | _ => data
  let s1 := if exempt s h eff.data then s else hold ⟨h.seq, crc, h, st, detail, d, true⟩ (closeCmd h s)
  let s2 := if send then sendReply h st detail d s1 else s1
  match effAtRelease eff with
  | some f => f s2
  | none => { s2 with cmd := { s2.cmd with due := s2.cmd.due ++ [eff] } }

/-! Groups (06 R200, Table 06-5). -/

/-- The effect of acceptance of one entry of group `no`; carry pages were accepted before. -/
def entryStands (send : Bool) (no : Nat) (e : Entry) (s : State) : State :=
  if e.carry then s
  else match e.act with
    | .none => s
    | .command h crc st detail data eff => commandStands send h crc st detail data eff s
    | .reading _ _ => if e.prov then s else recordStands e s
    | .counter _ _ _ => if e.prov then s else recordStands e s
    | .batchClose id => closeStands id no s
    | .dl n sub _ => dlRelease e n sub s
    | .step _ => stepRelease e s
    | .campaign _ _ => s
    | .legal n => legalAccepted n s
    | .balance g x => { s with tally := { s.tally with durG := assocSet g x s.tally.durG } }
    | .anomaly mix x => { s with tally := { s.tally with durA := assocSet mix x s.tally.durA } }

/-- A group's effects released, and its entries counted: provisional ones with their batch (06 R200, R211, Table 06-5). -/
def releaseGroup (send : Bool) (g : Group) (s : State) : State :=
  let s1 := rollSec s
  let s2 := modGroup g.no (fun x => { x with released := true, relTick := s.beat.ticks })
    { s1 with ledger := { s1.ledger with secCount := s1.ledger.secCount + (g.entries.filter (fun e => !e.prov)).length } }
  g.entries.foldl (fun t e => entryStands send g.no e t) s2

/-- The lowest accepted group whose effects are not released. -/
def nextToRelease (s : State) : Option Group := s.ledger.groups.find? (fun g => g.accepted && !g.released)

/-- What releases may have completed: frames and batches, pushes, LEGAL entries that wait. -/
def settleReleases (s : State) : State := legalPost (tariffEntry (settleFrames s))

/-- GROUP_RELEASE: in the beat after acceptance; none after mains loss has been declared (06 R200; 17 R530). -/
def execGroupRelease (s : State) : Host.Outcome State Fault Refusal :=
  match nextToRelease s with
  | some g => if silent s then .next s else .next (settleReleases (releaseGroup true g s))
  | none => .next s

/-- UNSEAL_COMPLETE: Infeed takes the result of an unsealing job whose completion record gives the status `st` (04 R144 to
R148). -/
def execUnsealComplete (job : Nat) (st : JobStatus) (s : State) : Host.Outcome State Fault Refusal :=
  .next (settleFrames (handleHanded (unsealDone job st s)))

end Sys2Proof.Machine
end

