-- ==== Sys2Proof/Machine/LegalCmds.lean ====
section
/-! DEFINITION. Host commands of the totalizer: registers, billing sets, the legal log, calibration, calendars, closures
(11 R375, R379, R380, R386, R389, R390). -/
namespace Sys2Proof.Machine

/-! Reads. -/

/-- READ_REGISTERS (11 R375). -/
def readRegistersBody (p : List Byte) (s : State) : Ans :=
  let n := byteAt p 2
  if n = 0 ∨ 63 < n then .fail stOutOfRange 16
  else
    let l := legalIds.filter (fun i => decide (leAt p 0 2 ≤ i))
    let next := ((l.drop n).head?).getD 0xFFFF
    .done (leB 2 (l.take n).length ++ leB 2 next ++ leB 5 (nowL s) ++ zeros 7 ++ ((l.take n).map (regRecord s)).flatten) s

/-- READ_REGISTERS (11 R375). -/
def execReadRegisters (h : Hdr) (p : List Byte) (s : State) : Host.Outcome State Fault Refusal :=
  .next (runCmd h p false (readRegistersBody p) s)

/-- The reply data of READ_BILLING_SET (11 R390). -/
def billData (b : BillSet) : List Byte :=
  leB 4 b.no ++ leB 5 b.sched ++ leB 5 b.exec_ ++ leB 1 b.cause ++ leB 1 b.flags ++ b.data

/-- READ_BILLING_SET (11 R390). -/
def execReadBillingSet (h : Hdr) (p : List Byte) (s : State) : Host.Outcome State Fault Refusal :=
  .next (runCmd h p false (fun t => match t.legal.bills[byteAt p 0]? with
    | some b => .done (billData b) t
    | none => .fail stUnknownObject 0) s)

/-- The oldest LOG_SEQ held; the next one when the log is empty (11 R379). -/
def oldestLog (s : State) : Nat := ((s.legal.log.head?).map Prod.fst).getD (rd s P30.LOG_NEXT)

/-- A legal log record of 32 bytes (11 Table 11-3). -/
def logRecord (x : Nat × List Byte) : List Byte := x.2 ++ leB 4 (crc32c x.2)

/-- LEGAL_LOG_READ (11 R379). -/
def legalLogReadBody (p : List Byte) (s : State) : Ans :=
  let from_ := leAt p 0 4
  if from_ < oldestLog s ∨ rd s P30.LOG_NEXT < from_ then .fail stOutOfRange 0
  else if byteAt p 4 = 0 then .fail stOutOfRange 32
  else
    let l := (s.legal.log.filter (fun x => decide (from_ ≤ x.1))).take (byteAt p 4)
    .done (leB 2 l.length ++ zeros 2 ++ leB 4 (oldestLog s) ++ leB 4 (rd s P30.LOG_NEXT) ++ zeros 4
      ++ (l.map logRecord).flatten) s

/-- LEGAL_LOG_READ (11 R379). -/
def execLegalLogRead (h : Hdr) (p : List Byte) (s : State) : Host.Outcome State Fault Refusal :=
  .next (runCmd h p false (legalLogReadBody p) s)

/-! Calibration (11 R380). -/

/-- Channel `n` is masked. -/
def calMasked (p : List Byte) (n : Nat) : Bool := bitAt (byteAt p 0) n

/-- The bit position of the first masked value out of range (11 R380). -/
def calRange (p : List Byte) : Option Nat :=
  let g := (List.range 8).find? (fun n => calMasked p n &&
    !(decide (2 ^ 21 ≤ leAt p (4 + 4 * n) 3) && decide (leAt p (4 + 4 * n) 3 ≤ 2 ^ 23)))
  match g with
  | some n => some ((4 + 4 * n) * 8)
  | none => ((List.range 3).find? (fun k => calMasked p (4 + k) &&
      decide (4095 < (toS 16 (leAt p (52 + 2 * k) 2)).natAbs))).map (fun k => (52 + 2 * k) * 8)

/-- A calibration set with the masked channels of a payload (11 R380). -/
def mergeCal (p old : List Byte) : List Byte :=
  let pick := fun (n src off len : Nat) => if calMasked p n then sliceB p src len else sliceB old off len
  ((List.range 8).map (fun n => if calMasked p n then sliceB p (4 + 4 * n) 3 ++ zeros 1 else sliceB old (4 * n) 4)).flatten
    ++ ((List.range 8).map (fun n => pick n (36 + 2 * n) (32 + 2 * n) 2)).flatten
    ++ ((List.range 3).map (fun k => pick (4 + k) (52 + 2 * k) (48 + 2 * k) 2)).flatten

/-- The newest calibration set, in force or accepted. -/
def newestCal (s : State) : List Byte := (s.legal.calNext.map Prod.snd).getD s.legal.calSet

/-- A calibration set written to the partition. -/
def putCal (set_ : List Byte) (at_ : Option Nat) (n : Nat) (s : State) : State :=
  wr P30.CAL_COUNT n (wr P30.CAL_CRC (crc32c set_) { s with legal := { s.legal with calNext := some (at_, set_) } })

/-- CALIBRATE's checks; its log record is made with it, so that the reply gives LOG_SEQ (11 R380). -/
def calibrateBody (h : Hdr) (p : List Byte) (sigOk : Bool) (s : State) : Ans :=
  if authOk s (authCount p) sigOk = false then .fail stDeniedLegal 0
  else if rdB s P30.SEAL_CAL = true ∧ rdB s P30.SEAL_STATE = false then .fail stDeniedSeal 0
  else if byteAt p 0 = 0 then .fail stBadPayload 0
  else match calRange p with
    | some b => .fail stOutOfRange b
    | none =>
      let set_ := mergeCal p (newestCal s)
      let n := rd s P30.CAL_COUNT + 1
      let data := leB 4 (rd s P30.LOG_NEXT) ++ leB 4 n ++ leB 4 (crc32c set_) ++ zeros 4
      let (e, s1) := ownLog 0x02 0 (rd s P30.CAL_CRC) (crc32c set_) s
      .stays (postGroup [commandEntry h p data p { cmd := some (.calibrate h p sigOk), args := [authCount p, n], data := p }, e]
        (putCal set_ none n s1))

/-- CALIBRATE (11 R380). -/
def execCalibrate (h : Hdr) (p : List Byte) (sigOk : Bool) (s : State) : Host.Outcome State Fault Refusal :=
  .next (runCmd h p true (calibrateBody h p sigOk) s)

/-- The effect of CALIBRATE: the set applies from the first legal second after its release (11 R380). -/
def effCalibrate (e : Eff) (s : State) : State :=
  wr P30.AUTH_COUNT (e.args.getD 0 0) (putCal (mergeCal e.data (newestCal s)) (some (nowL s)) (e.args.getD 1 0) s)

/-! Calendars (11 R386). -/

/-- The calendar data of a CALENDAR_LOAD payload. -/
def calData (p : List Byte) : List Byte := sliceB p 16 (p.length - 88)

/-- CALENDAR_LOAD's checks (11 R384, R386). -/
def calendarLoadBody (h : Hdr) (p : List Byte) (sigOk : Bool) (s : State) : Ans :=
  let d := calData p
  if authOk s (authCount p) sigOk = false then .fail stDeniedLegal 0
  else if byteAt p 0 ≠ 1 then .fail stBadPayload 0
  else if leAt p 4 4 ≠ d.length then .fail stBadPayload 4
  else if leAt p 8 4 ≠ crc32c d then .fail stBadPayload 8
  else match calBad d with
    | some o => .fail stBadPayload (16 + o)
    | none => .accept (leB 4 (calId d) ++ leB 4 (crc32c d)) p
        { cmd := some (.calendarLoad h p sigOk), args := [authCount p] } s

/-- CALENDAR_LOAD (11 R386). -/
def execCalendarLoad (h : Hdr) (p : List Byte) (sigOk : Bool) (s : State) : Host.Outcome State Fault Refusal :=
  .next (runCmd h p true (calendarLoadBody h p sigOk) s)

/-- The effect of CALENDAR_LOAD. -/
def effCalendarLoad (e : Eff) (s : State) : State :=
  let d := calData e.data
  legalLog 0x03 0 (rd s P31.PASSIVE_CAL_ID) (calId d)
    (wr P30.AUTH_COUNT (e.args.getD 0 0) (wr P31.PASSIVE_CAL_ID (calId d) { s with legal := { s.legal with passive := d } }))

/-- CALENDAR_ACTIVATE's checks (11 R383, R386). -/
def calendarActivateBody (h : Hdr) (p : List Byte) (sigOk : Bool) (s : State) : Ans :=
  let at_ := leAt p 4 5
  if authOk s (authCount p) sigOk = false then .fail stDeniedLegal 0
  else if legalWaits s = true ∨ rd s P31.PASSIVE_CAL_ID = 0 ∨ leAt p 0 4 ≠ rd s P31.PASSIVE_CAL_ID then .fail stDeniedState 0
  else if at_ ≠ 0 ∧ at_ ≤ nowL s then .fail stOutOfRange 32
  else .accept (leB 4 (leAt p 0 4) ++ leB 4 ((if at_ = 0 then nowL s else at_) % 2 ^ 32)) p
    { cmd := some (.calendarActivate h p sigOk), args := [authCount p] } s

/-- CALENDAR_ACTIVATE (11 R386). -/
def execCalendarActivate (h : Hdr) (p : List Byte) (sigOk : Bool) (s : State) : Host.Outcome State Fault Refusal :=
  .next (runCmd h p true (calendarActivateBody h p sigOk) s)

/-- The effect of CALENDAR_ACTIVATE: it replaces a pending activation; 0 activates at release (11 R386). -/
def effCalendarActivate (e : Eff) (s : State) : State :=
  let at_ := leAt e.data 4 5
  let s1 := wr P30.AUTH_COUNT (e.args.getD 0 0) s
  if at_ = 0 then activateCal (nowL s) false s1 else wr P31.PENDING_AT at_ s1

/-! Closure by command (11 R389). -/

/-- BILLING_CLOSE's checks; the closure is made with the command, so that the reply gives LOG_SEQ (11 R383, R389). -/
def billingCloseBody (h : Hdr) (p : List Byte) (sigOk : Bool) (s : State) : Ans :=
  if authOk s (authCount p) sigOk = false then .fail stDeniedLegal 0
  else if legalWaits s = true ∨ leAt p 0 4 ≠ rd s P31.CLOSURES then .fail stDeniedState 0
  else
    let b := billSet s 2 0 0
    let data := leB 4 b.no ++ leB 4 (rd s P30.LOG_NEXT)
    let rec_ := logBytes s 0x05 (b.no % 65536) 0 0
    let (e1, s1) := ownEnt 5 [] rec_ (closePeriod b s)
    let (e2, s2) := ownEnt 3 (closureMid b) (closureBody b) s1
    .stays (postGroup [commandEntry h p data [] { cmd := some (.billingClose h p sigOk), args := [authCount p], data := p },
      e1, e2] (takeSnapshot s2))

/-- BILLING_CLOSE (11 R389). -/
def execBillingClose (h : Hdr) (p : List Byte) (sigOk : Bool) (s : State) : Host.Outcome State Fault Refusal :=
  .next (runCmd h p true (billingCloseBody h p sigOk) s)

/-- The effect of BILLING_CLOSE beside the closure: AUTH_COUNT is stored (02 R69). -/
def effBillingClose (e : Eff) (s : State) : State := wr P30.AUTH_COUNT (e.args.getD 0 0) s

end Sys2Proof.Machine
end

