-- ==== Sys2Proof/Machine/Radio.lean ====
section
/-! DEFINITION. The radio's events (08): reception, floods, associations, slot agreements, beacons, loss of parent,
missed slots, rendezvous, and RADIO_NEIGHBOURS. Sending is in RadioSend. -/
namespace Sys2Proof.Machine

/-! Reception (08 R256, R263 to R267). -/

/-- The port does not receive a frame with its SFD at a slot time: it was transmitting, or turning to or from a transmission
of class 1 to 3 (08 R250). -/
def portDeaf (s : State) (ch : Nat) (sfd : Int) : Bool :=
  let port := radPort s ch
  (portTxs s port).any (fun x => decide (sfd < x.2 + turnNs))
    || (running s && (portInstants s port sfd).any (fun x => decide (x - turnNs ≤ sfd) && decide (sfd < x)))

/-- PHR_DECODED: the SFD is stamped on both times and a place in the engine FIFO reserved; a mode-switch PHR is dropped
and counted; half-duplex, the port receives nothing while it transmits or turns (08 R250, R253, R256, R266). -/
def execPhrDecoded (ch : Fin 16) (psdu : Nat) (modeSwitch : Bool) (sfd : Int) (s : State) :
    Host.Outcome State Fault Refusal :=
  let t := slotNs s + sfd
  .next (
    if radChanUp s ch.val = false ∨ portDeaf s ch.val t = true ∨ 2047 < psdu then s
    else if modeSwitch then bumpCh P20.RX_FCS_ERR ch.val s
    else modChan ch.val (fun c => { c with rx := some ⟨psdu, t, chainNs s + sfd,
                                                       efTakes s (ch.val + 2) (1 + ceilDiv psdu 16)⟩,
                                           rxUntil := t + psduNs s ch.val psdu }) s)

/-- The neighbour that sent a frame: by the extended address it carries, else by its short address. -/
def senderOf (s : State) (ch : Nat) (f : RadioRx) : Option Neigh :=
  match f.ext with
  | some e => neighOn s ch e
  | none => s.radio.neigh.find? (fun n => n.ch == ch && n.short == f.short)

/-- A frame passes MAC security (08 R263, R264). -/
def secOk (s : State) (ch : Nat) (f : RadioRx) : Bool :=
  if f.level = 0 then !secured s ch
  else
    let from_ := senderOf s ch f
    (f.level == 5 || f.level == 6) && f.keyMode == 1 && f.keyIndex == 1 && f.micOk
      && (f.ext.isSome || from_.isSome)
      && (match from_.bind Neigh.fc with
        | some last => decide (last < f.fc)
        | none => true)

/-- A payload is a flood frame; its HOPS (08 Table 08-8). -/
def floodHops (p : List Byte) : Option Nat := if byteAt p 0 = 0xE0 then some (byteAt p 2 % 16) else none

/-- The slot instant in ms whose window holds an SFD, as the window stood before the frame; the last accounted one where
none does (08 R274, R276). -/
def heardSlot (s : State) (n : Neigh) (sfd : Int) : Nat :=
  let x := agreed n sfd
  let t := nearestSlot s n.ch x.1 x.2 sfd
  let w := slotWindow s n t
  if x.1 ≠ 0 ∧ w.1 ≤ sfd ∧ sfd ≤ w.2 then max n.slotDone (t / 1000000).toNat else n.slotDone

/-- What a heard frame leaves with the neighbour that sent it: counter, levels, times, depth, the slot it was heard in, and
the resynchronisation of a frame without relay (08 R264, R275, R276, Table 08-9). -/
def hearFrame (ch : Nat) (f : RadioRx) (r : RadRx) (s : State) : State :=
  match senderOf s ch f with
  | none => s
  | some n =>
    let direct := match floodHops f.payload with
      | some h => h == 0
      | none => true
    let n1 := { n with fc := if f.level = 0 then n.fc else some f.fc, rssi := f.rssi, lqi := f.lqi, heard := r.slot,
                       heardTick := s.beat.ticks, frameEnd := r.slot + psduNs s ch r.psdu,
                       slotDone := heardSlot s n r.slot,
                       depth := if byteAt f.payload 0 = 0xE0 then byteAt f.payload 3 else n.depth }
    let n2 := if direct then resync s n1 r.slot r.chain else n1
    radCounts ch (modNeigh ch n.ext (fun _ => n2) s)

/-- A frame waits for a meter's poll: the frame-pending bit (08 R273). -/
def pendingFor (s : State) (ch : Nat) (ext : Option Nat) : Bool :=
  s.radio.txq.any (fun x => x.ch == ch && x.indirect && x.ext == ext && ext.isSome)

/-- The title that sent a frame: that of its neighbour entry, else the address it carries, else the retired meter's whose
short address is held (08 R262, R273). -/
def senderExt (s : State) (ch : Nat) (f : RadioRx) : Option Nat :=
  match senderOf s ch f, f.ext with
  | some n, _ => some n.ext
  | none, some e => some e
  | none, none => ((chanAt s ch).heldAddr.find? (fun x => x.1 == f.short)).map (fun x => x.2.1)

/-- The Enh-Ack of a frame that asked for one, 1 ms after its end: sent only for a frame with a place in the engine FIFO,
and only while the port may transmit on one more channel (08 R257, R266; PRESUMED turnaround: assumption log 109). -/
def enhAck (ch : Nat) (f : RadioRx) (r : RadRx) (s : State) : State :=
  if (f.toUs && f.ackReq && f.kind != 2) = false then s
  else if r.reserved = false then bumpCh P20.ACK_WITHHELD ch s
  else
    let ext := senderExt s ch f
    let t := r.slot + psduNs s ch r.psdu + turnNs
    if rdI s P20.PORT_TX_MAX (radPort s ch) ≤ transmitting s (radPort s ch) t then bumpCh P20.RX_CUT ch s
    else if fcLeft s ch = false then s
    else airOut ch 16 t (.enhAck ch (txLevel s ch) ext f.short (pendingFor s ch ext) (nextFc s ch))
      (cutRx (radPort s ch) s)

/-- A payload handled by its first byte: to the engine FIFO, ignored, or the sequencer's (08 Table 08-4, R267). -/
def dispatchPayload (ch : Nat) (r : RadRx) (path hops : Nat) (p : List Byte) (s : State) : State :=
  let b := byteAt p 0
  if p.isEmpty then s
  else if b = 0xE0 then bumpCh P20.RX_FCS_ERR ch s
  else if r.reserved = false ∨ [0xE1, 0xE2, 0xE3, 0xE4].contains b = true then s
  else
    let it : FifoItem := { way := .radio ch, src := path * 4096 + hops * 256 + ch, arrival := .chain r.chain,
                           format := 0, frame := p }
    (putItem (ch + 2) it s).getD s

/-- FLOOD_COPY: a copy counted in the seen-cache and a relay scheduled after a jitter of up to RELAY_JITTER ms, suppressed
or not due (08 R281, R282). -/
def floodCopy (ch jitter : Nat) (p : List Byte) (s : State) : State :=
  let origin := leAt p 4 8
  let seq := leAt p 12 2
  match seenFind s origin seq with
  | some e =>
    let n := e.heard + 1
    let s1 := modSeen origin seq (fun x => { x with heard := n }) s
    if e.relay.isSome ∧ rdI s P20.SUPPRESS_K ch ≤ n then
      bumpCh P20.RELAY_SUPPRESSED ch (modSeen origin seq (fun x => { x with relay := none }) s1)
    else s1
  | none =>
    match seenInsert origin seq s with
    | none => bump P20.SEEN_FULL s
    | some s1 =>
      let hops := byteAt p 2 % 16
      let down := bitAt (byteAt p 1) 7
      let mine := rdI s P20.DEPTH ch
      let sender := byteAt p 3
      if byteAt p 2 / 16 ≤ hops then s1
      else if down = false ∧ sender ≤ mine then s1
      else if down = true ∧ mine ≤ sender then s1
      else if bitsAt (byteAt p 1) 4 3 = 1 ∧ leAt p 14 8 = Config.devExt then s1
      else if [4, 5, 6].contains (rdI s P20.STATE ch) then s1
      else modSeen origin seq (fun x =>
        { x with relay := some (ch, p, s.beat.ticks + 8 * min jitter (rdI s P20.RELAY_JITTER ch)) }) s1

/-- A flood header the rules drop: HOPS above HOP_LIMIT, an up flood of another TYPE than 0x0, a down flood of TYPE 0x0, or a
frame too short for its header (08 R280). -/
def floodBad (p : List Byte) : Bool :=
  let ty := bitsAt (byteAt p 1) 4 3
  decide (p.length < 22) || decide (byteAt p 2 / 16 < byteAt p 2 % 16)
    || (bitAt (byteAt p 1) 7 == false && ty != 0) || (bitAt (byteAt p 1) 7 && (ty == 0 || decide (3 < ty)))

/-- A data frame's payload handled (08 R265 to R267, R280 to R283). -/
def dataFrame (ch jitter : Nat) (r : RadRx) (p : List Byte) (s : State) : State :=
  if byteAt p 0 = 0xE0 ∧ p.isEmpty = false then
    if floodBad p then bumpCh P20.RX_FCS_ERR ch s
    else
      let hops := byteAt p 2 % 16
      let s1 := if rdI s P20.ROLE ch = 1 then floodCopy ch jitter p s else s
      dispatchPayload ch r (if hops = 0 then 0 else 1) hops (p.drop 22) s1
  else dispatchPayload ch r 0 0 p s

/-- The PAN identifier and address of a neighbour are given up: its entry goes and its short address is held (08 R262). -/
def dropNeigh (ch ext : Nat) (s : State) : State :=
  match neighOn s ch ext with
  | none => s
  | some n =>
    radCounts ch (modChan ch (fun c => { c with heldAddr := c.heldAddr ++ [(n.short, n.ext, s.beat.ticks)] })
      { s with radio := { s.radio with neigh := s.radio.neigh.filter (fun m => !(m.ext == ext && m.ch == ch)) } })

/-- Relays of a channel are cancelled, scheduled and queued ones alike (08 R270, R288). -/
def cancelRelays (ch : Nat) (s : State) : State :=
  let drop := fun (e : Seen) => if (e.relay.map Prod.fst) = some ch then { e with relay := none } else e
  { s with radio := { s.radio with seen := s.radio.seen.map drop,
                                   txq := s.radio.txq.filter (fun x => !(x.ch == ch && byteAt x.payload 0 == 0xE0)) } }

/-- A disassociation notification heard: a coordinator gives up the neighbour that sent it and holds its address; a member
whose parent sent it joins afresh (08 R265; PRESUMED from the standard: assumption log 117). -/
def leaveHeard (ch : Nat) (f : RadioRx) (s : State) : State :=
  if rdI s P20.ROLE ch = 0 then
    match senderOf s ch f with
    | some n => dropNeigh ch n.ext s
    | none => s
  else
    match (chanAt s ch).parent with
    | some p =>
      if f.ext = some p.ext ∨ f.short = p.short then
        wrI P20.STATE ch 6 (modChan ch (fun c => { c with parent := none, lastScan := none }) (cancelRelays ch s))
      else s
    | none => s

/-- An answer to a slot agreement: class 4 at the poll; in reply to a frame of a rendezvous, at once and until 2 s after
the slot closes (08 R272, R278). -/
def slotAnswer (n : Neigh) (p : List Byte) (s : State) : State :=
  let u := (chanAt s n.ch).rdvUntil
  queueRadio { ch := n.ch, cls := 4, ext := some n.ext, dest := n.short, payload := p, indirect := true,
               readyTo := if slotNs s ≤ u + 2 * nsSec then some (u + 2 * nsSec) else none } s

/-- A data frame heard in a rendezvous slot from a meter that holds a slot is answered with a grant that restates it (08
R278). -/
def rdvData (ch : Nat) (f : RadioRx) (r : RadRx) (s : State) : State :=
  let u := (chanAt s ch).rdvUntil
  match senderOf s ch f with
  | some n =>
    if coordUp s ch = true ∧ u - 400000000 ≤ r.slot ∧ r.slot ≤ u ∧ n.period ≠ 0 ∧ byteAt f.payload 0 ≠ 0xE2 then
      let next := (nextSlotAt s ch n.period n.cell (slotNs s) / 1000000).toNat
      slotAnswer n (slotBytes 2 n.period n.cell n.drift (b2n n.beaconSync + 2 * b2n n.ackWin) (next % (2 ^ 32 * 1000))) s
    else s
  | none => s

/-- A frame's content after its checks (08 R263, R265, R266). -/
def checkedFrame (ch : Nat) (f : RadioRx) (r : RadRx) (s : State) : State :=
  let s1 := enhAck ch f r (hearFrame ch f r s)
  if f.kind = 0 then dataFrame ch f.jitter r f.payload (rdvData ch f r s1)
  else if f.kind = 2 then modChan ch (fun c => { c with flight := none }) s1
  else if byteAt f.payload 0 = 3 then leaveHeard ch f s1
  else s1

/-- RADIO_FRAME_RECEIVED: the reception in progress ends; a frame that fails its FCS or security is dropped and counted
(08 R253, R263, R265). -/
def execRadioFrameReceived (ch : Fin 16) (f : RadioRx) (s : State) : Host.Outcome State Fault Refusal :=
  .next (match (chanAt s ch.val).rx with
    | none => s
    | some r =>
      let s1 := modChan ch.val (fun c => { c with rx := none }) s
      if radChanUp s ch.val = false then s1
      else if f.fcsOk = false then bumpCh P20.RX_FCS_ERR ch.val s1
      else
        let s2 := count 0x0F ch.val 1 (bumpCh P20.RX_FRAMES ch.val s1)
        if secOk s ch.val f then checkedFrame ch.val f r s2 else bumpCh P20.RX_SEC_FAIL ch.val s2)

/-- FLOOD_RELAY: once its jitter has passed, a pending relay goes to class 6 with HOPS raised and the own depth (08
R281). -/
def execFloodRelay (origin seq : Nat) (s : State) : Host.Outcome State Fault Refusal :=
  .next (match (seenFind s origin seq).bind Seen.relay with
    | none => s
    | some (ch, p, due) =>
      if s.beat.ticks < due then s
      else
        let q := p.take 2 ++ leB 1 (byteAt p 2 + 1) ++ leB 1 (rdI s P20.DEPTH ch) ++ p.drop 4
        bumpCh P20.RELAYED ch (queueRadio { ch := ch, cls := 6, ext := none, dest := 0xFFFF, payload := q, ackReq := false }
          (modSeen origin seq (fun x => { x with relay := none }) s)))

/-- SEEN_ENTRY_EXPIRE: an entry is given up SEEN_HOLD after its insertion (08 R282). -/
def execSeenEntryExpire (origin seq : Nat) (s : State) : Host.Outcome State Fault Refusal :=
  .next { s with radio := { s.radio with seen := s.radio.seen.filter (fun e =>
    !(e.origin == origin && e.seq == seq && !seenLive s e)) } }

/-! Associations (08 R260, R262, R271). -/

/-- The lowest short address that is neither held nor in use on a channel (08 R260). -/
def freeShort (s : State) (ch : Nat) : Nat :=
  let used := (s.radio.neigh.filter (fun n => n.ch == ch)).map Neigh.short
    ++ (chanAt s ch).heldAddr.map Prod.fst
  ((List.range (used.length + 1)).map (fun k => k + 1)).find? (fun a => !used.contains a) |>.getD 1

/-- Associations are admitted at all: in RUN, acceptance open, fewer than 8,192 neighbours (08 R260). -/
def acceptsAssoc (s : State) : Bool :=
  running s && !acceptClosed s && decide (s.radio.neigh.length < 8192)

/-- A MAC command to a meter: class 6 to an awake one, held for the poll of a sleepy one (08 R260, Table 08-2). -/
def macCommand (ch ext dest : Nat) (asleep : Bool) (p : List Byte) (s : State) : State :=
  queueRadio { ch := ch, cls := if asleep then 4 else 6, ext := some ext, dest := dest, payload := p, cmd := true,
               indirect := asleep } s

/-- NEW_TITLE_SEEN under the limit of one per second (04 R147; 08 R260; 09 R315). -/
def newTitle (title : Nat) (s : State) : State :=
  let due := match s.infeed.titleLogAt with
    | none => true
    | some t => passed s t (secBeats 1)
  if due then
    logEv evNewTitleSeen (leB 8 title) { s with infeed := { s.infeed with titleLogAt := some s.beat.ticks } }
  else s

/-- An association admitted: the entry stands before the response is sent (08 R260). -/
def admitAssoc (ch ext : Nat) (awake : Bool) (s : State) : State :=
  match neighOn s ch ext with
  | some n =>
    let st := if awake then 1 else if n.period = 0 then 5 else if n.st = 1 then 2 else n.st
    macCommand ch ext n.short (!awake) (leB 1 2 ++ leB 2 n.short ++ leB 1 0)
      (modNeigh ch ext (fun x => { x with st := st, heardTick := s.beat.ticks, heard := slotNs s }) s)
  | none =>
    let a := freeShort s ch
    let n : Neigh := { ext := ext, short := a, ch := ch, st := if awake then 1 else 5, drift := rdI s P20.DRIFT_METER ch,
                       heard := slotNs s, heardTick := s.beat.ticks }
    macCommand ch ext a (!awake) (leB 1 2 ++ leB 2 a ++ leB 1 0)
      (radCounts ch { s with radio := { s.radio with neigh := s.radio.neigh ++ [n] } })

/-- ASSOCIATION_REQUEST (08 R260). -/
def execAssociationRequest (ch : Fin 16) (ext : Nat) (rxOnIdle : Bool) (s : State) : Host.Outcome State Fault Refusal :=
  .next (
    if coordUp s ch.val = false then s
    else if (meterOfTitle s ext).isNone then
      newTitle ext (macCommand ch.val ext 0xFFFF (!rxOnIdle) (leB 1 2 ++ leB 2 0xFFFF ++ leB 1 2) s)
    else if acceptsAssoc s = false ∨ 0xFFFD < freeShort s ch.val then
      macCommand ch.val ext 0xFFFF (!rxOnIdle) (leB 1 2 ++ leB 2 0xFFFF ++ leB 1 1) s
    else admitAssoc ch.val ext rxOnIdle s)

/-- ORPHAN_NOTIFICATION: a neighbour of the channel is answered with a coordinator realignment; an unknown title is not
taken in (08 R271). -/
def execOrphanNotification (ch : Fin 16) (ext : Nat) (s : State) : Host.Outcome State Fault Refusal :=
  .next (match neighOn s ch.val ext with
    | some n =>
      if coordUp s ch.val then
        macCommand ch.val ext n.short false
          (leB 1 8 ++ leB 2 (rdI s P20.PAN_ID ch.val) ++ leB 2 0 ++ leB 1 0 ++ leB 2 n.short) s
      else s
    | none => s)

/-- A retired title leaves the table at the boundary: its address is held, and it is told to leave (08 R262). -/
def radioRetire (title : Nat) (s : State) : State :=
  (s.radio.neigh.filter (fun n => n.ext == title)).foldl (fun t n =>
    let t1 := dropNeigh n.ch title { t with radio := { t.radio with txq := t.radio.txq.filter (fun x =>
      x.ext != some title) } }
    macCommand n.ch title n.short (sleepy n) (leB 1 3 ++ leB 1 1) t1) s

/-- SHORT_ADDR_RELEASED: ADDR_HOLD after its last frame a freed meter's entry is removed, and a retired meter's address
is free again (08 R262, R279). -/
def execShortAddrReleased (ch : Fin 16) (short : Nat) (s : State) : Host.Outcome State Fault Refusal :=
  let hold := secBeats (rdI s P20.ADDR_HOLD ch.val * 3600)
  let out := fun (n : Neigh) => n.ch == ch.val && n.short == short && n.st == 4 && passed s n.heardTick hold
  let s1 := modChan ch.val (fun c => { c with heldAddr := c.heldAddr.filter (fun x =>
    !(x.1 == short && passed s x.2.2 hold)) }) s
  .next (if s.radio.neigh.any out then
      logEv evShortAddrReleased (leB 1 ch.val)
        (radCounts ch.val { s1 with radio := { s1.radio with neigh := s1.radio.neigh.filter (fun n => !out n) } })
    else s1)

/-! Sleepy meters (08 R272 to R279). -/

/-- The blocks of campaigns among frames, each named once. -/
def blockNames (l : List RadTx) : List (Nat × Nat) :=
  (l.filterMap (fun x => match x.cargo with
    | .block c k => some (c, k)
    | _ => none)).eraseDups

/-- A frame may go at a poll: campaign blocks only up to SLEEPY_BLOCKS (10 R350). -/
def goesAtPoll (few : List (Nat × Nat)) (x : RadTx) : Bool :=
  match x.cargo with
  | .block c k => few.contains (c, k)
  | _ => true

/-- DATA_REQUEST: the frames held for the meter may go while it listens: GMAX and the airtime of 1,024 octets after its
poll, the end of the window of R272; what does not go waits for the next poll (08 R257, R273; DEDUCED window: assumption
log 117). -/
def execDataRequest (ch : Fin 16) (ext : Nat) (s : State) : Host.Outcome State Fault Refusal :=
  let hers := fun (x : RadTx) => x.ch == ch.val && x.indirect && x.ext == some ext
  let few := (blockNames (s.radio.txq.filter hers)).take (rd s P60.SLEEPY_BLOCKS)
  let l := mapIf (fun x => hers x && goesAtPoll few x) (fun x =>
    { x with readyTo := some (slotNs s + gMaxNs s ch.val + airtime s ch.val 1024) }) s.radio.txq
  .next (if radChanUp s ch.val then { s with radio := { s.radio with txq := l } } else s)

/-- The cell a request asks for, or the lowest free cell (08 R272, Table 08-6). -/
def cellFor (s : State) (ch ext period cell : Nat) : Option Nat :=
  let occ := occupied s ch ext
  if cell = 0xFFFFFFFF then
    (List.range (period * 100 / rdI s P20.CELL_MS ch)).find? (fun c => cellFree s occ ch period c)
  else if cellFree s occ ch period cell then some cell else none

/-- SLOT_REQUEST: granted, or refused with the reason (08 R272, Table 08-6). -/
def execSlotRequest (ch : Fin 16) (r : SlotIn) (s : State) : Host.Outcome State Fault Refusal :=
  .next (match neighOn s ch.val r.ext with
    | none => s
    | some n =>
      if coordUp s ch.val = false then s
      else
        let refuse := fun k => slotAnswer n (slotBytes 4 r.period r.cell k r.flags 0) s
        let sync := bitAt r.flags 0
        let badCell := r.cell != 0xFFFFFFFF && decide (r.period * 100 ≤ r.cell * rdI s P20.CELL_MS ch.val)
        let need := g0Ns s ch.val
          + 2 * ((r.drift + rd s P20.DRIFT_DEV : Nat) : Int) * (r.period * nsSec) / 1000000
        if r.period = 0 ∨ 86400 < r.period ∨ badCell = true ∨ r.drift = 0 ∨ 100 < r.drift then refuse 3
        else if sync = false ∧ gMaxNs s ch.val < need then refuse 2
        else match cellFor s ch.val r.ext r.period r.cell with
          | none => refuse 1
          | some c =>
            let next := (nextSlotAt s ch.val r.period c (slotNs s) / 1000000).toNat
            let st := if n.st = 4 ∨ n.st = 5 ∨ n.st = 1 then 2 else n.st
            slotAnswer n (slotBytes 2 r.period c r.drift r.flags (next % (2 ^ 32 * 1000)))
              (radCounts ch.val (modNeigh ch.val r.ext (fun x =>
                { x with st := st, period := r.period, cell := c, drift := r.drift, beaconSync := sync,
                         ackWin := bitAt r.flags 1, from_ := next,
                         prev := if x.period = 0 then none else some (x.period, x.cell) }) s)))

/-- SLOT_RELEASE: the meter holds no slot (08 Table 08-6). -/
def execSlotRelease (ch : Fin 16) (ext : Nat) (s : State) : Host.Outcome State Fault Refusal :=
  .next (radCounts ch.val (modNeigh ch.val ext (fun n =>
    if n.st = 1 then n else { n with st := 5, period := 0, cell := 0, prev := none, missed := 0 }) s))

/-- A slot is not counted as missed: the port transmitted during the window, the channel was not running through it, or
the device was out of RUN (08 R276). -/
def excused (s : State) (ch : Nat) (w : Int × Int) : Bool :=
  !radChanUp s ch || !running s || decide (w.1 < (chanAt s ch).upSince) || decide (w.1 ≤ s.radio.quietAt)
    || (portTxs s (radPort s ch)).any (fun x => decide (x.1 < w.2) && decide (w.1 < x.2))

/-- A miss counted: ADRIFT at the third, the cell freed at the 96th (08 R276, R277, R279). -/
def countMiss (n : Neigh) (s : State) : State :=
  let m := n.missed + 1
  let s1 := bumpCh P20.MISSED_SLOTS n.ch s
  if m = 96 then
    logEv evWakeSlotFreed (leB 1 n.ch) (modNeigh n.ch n.ext (fun x =>
      { x with missed := m, st := 4, period := 0, cell := 0, prev := none }) s1)
  else if m = 3 then
    logEv evMeterAdrift (leB 1 n.ch ++ leB 8 n.ext) (modNeigh n.ch n.ext (fun x => { x with missed := m, st := 3 }) s1)
  else modNeigh n.ch n.ext (fun x => { x with missed := m }) s1

/-- SLOT_MISSED: a slot instant, in ms of slot time, whose window has closed without a frame (08 R274, R276). -/
def execSlotMissed (ch : Fin 16) (ext instant : Nat) (s : State) : Host.Outcome State Fault Refusal :=
  .next (match neighOn s ch.val ext with
    | none => s
    | some n =>
      let t : Int := instant * 1000000
      let x := agreed n t
      let w := slotWindow s n t
      if x.1 = 0 ∨ n.st = 1 ∨ n.st = 4 ∨ n.st = 5 ∨ nearestSlot s ch.val x.1 x.2 t ≠ t ∨ instant ≤ n.slotDone
        ∨ slotNs s < w.2 then s
      else
        let s1 := modNeigh ch.val ext (fun y => { y with slotDone := instant }) s
        if excused s ch.val w then s1
        else radCounts ch.val (countMiss { n with slotDone := instant } s1))

/-! Beacons and rendezvous (08 R258, R259, R278). -/

/-- A time in µs is a multiple of BI, to the timers' resolution of 1 µs (08 R255, R259). -/
def atBeacon (s : State) (ch us : Nat) : Bool :=
  let n := 960 * 2 ^ rdI s P20.BO ch * 1000000
  let r := symRate s ch
  ceilDiv (us * r) n * n / r == us

/-- The turn of a coordinator channel among those of its port that share BO: PORT_TX_MAX channels a group, in the order
of their numbers (08 R258). -/
def beaconTurn (s : State) (ch : Nat) : Nat :=
  let same := (portChans s (radPort s ch)).filter (fun n =>
    rdI s P20.ROLE n == 0 && rdI s P20.BO n == rdI s P20.BO ch)
  (same.filter (fun k => decide (k < ch))).length / max 1 (rdI s P20.PORT_TX_MAX (radPort s ch))

/-- The end, in µs, of the longest beacon of the group before on the port, when the channel has sent none since (08
R258). -/
def groupEnd (s : State) (ch : Nat) : Option Nat :=
  let k := beaconTurn s ch
  if k = 0 then none
  else
    (((portChans s (radPort s ch)).filter (fun n => rdI s P20.ROLE n == 0 && rdI s P20.BO n == rdI s P20.BO ch
      && beaconTurn s n + 1 == k && decide ((chanAt s ch).beaconAt < (chanAt s n).beaconAt))).map (fun n =>
        ceilDiv (chanAt s n).beaconUntil.toNat 1000)).max?

/-- The seconds from a slot time to the next rendezvous start of a channel (08 Table 08-3, R278). -/
def rdvNext (ch : Nat) (t : Int) : Nat :=
  let p : Int := 900 * nsSec
  let off : Int := (ch * 500000000 : Nat)
  (((-(-(t - off) / p)) * p + off - t) / nsSec).toNat

/-- Time in ns from the start of a frame to its SFD: 8 octets of preamble and 2 of SFD (08 R253). -/
def sfdNs (s : State) (ch : Nat) : Int := (10 * 8 * 1000000000 / dataRate s ch : Nat)

/-- The beacon payload for a beacon with its SFD at a slot time (08 Table 08-3). -/
def beaconBytes (s : State) (ch : Nat) (t : Int) : List Byte :=
  leB 2 (rdI s P20.NET_ID ch) ++ leB 1 0 ++ leB 1 (b2n (acceptsAssoc s) + 2 * b2n (lockedOrFree s))
    ++ leB 4 ((t / nsSec).toNat % 2 ^ 32) ++ leB 2 ((t % nsSec * 65536 / nsSec).toNat) ++ leB 2 (rdvNext ch t)
    ++ leB 8 (rdI s P20.RELAY_LIST ch)

/-- A transmission of class 1 to 3 that starts on time: it cuts receptions on the port, or it is not sent and counted when
the port's channels are busy (08 R257). -/
def onTime (ch psdu : Nat) (t : Int) (o : Out) (s : State) : State :=
  let port := radPort s ch
  if rdI s P20.PORT_TX_MAX port ≤ transmitting s port t ∨ t < (chanAt s ch).txUntil then bumpCh P20.RX_CUT ch s
  else if fcLeft s ch = false then s
  else airOut ch psdu t o (cutRx port s)

/-- BEACON_TRANSMIT: at a multiple of BI for the first group of the port, for the others in turn (08 R258, R259). -/
def execBeaconTransmit (ch : Fin 16) (sinceBeat : Nat) (s : State) : Host.Outcome State Fault Refusal :=
  let t := slotNs s + sinceBeat
  let us := (t / 1000).toNat
  let due := if beaconTurn s ch.val = 0 then atBeacon s ch.val us else groupEnd s ch.val == some us
  .next (if coordUp s ch.val && running s && due then
      modChan ch.val (fun c => { c with beaconAt := us, beaconUntil := t + airtime s ch.val Config.beaconPsdu })
        (onTime ch.val Config.beaconPsdu t (.radio ch.val 2 (txLevel s ch.val) none 0xFFFF false false (nextFc s ch.val)
          (beaconBytes s ch.val (t + sfdNs s ch.val))) s)
    else s)

/-- RENDEZVOUS_SLOT: at m × 900 s + n × 500 ms, or right after the channel's beacon of that instant, the marker is sent
and the channel listens for 400 ms (08 R278). -/
def execRendezvousSlot (ch : Fin 16) (sinceBeat psdu : Nat) (s : State) : Host.Outcome State Fault Refusal :=
  let t := slotNs s + sinceBeat
  let start := fun (u : Int) => (u / 1000 - (ch.val * 500000 : Nat)) % 900000000 == 0
  let c := chanAt s ch.val
  let afterBeacon := t / 1000 == -(-c.beaconUntil / 1000) && start (c.beaconAt * 1000)
  let p := leB 1 0xE3 ++ zeros 1 ++ leB 4 ((t / nsSec).toNat % 2 ^ 32) ++ leB 2 ((t % nsSec / 1000000).toNat)
    ++ leB 2 (rdI s P20.NET_ID ch.val)
  .next (if coordUp s ch.val && running s && (start t || afterBeacon) then
      modChan ch.val (fun x => { x with rdvUntil := t + 400000000 })
        (onTime ch.val psdu t (.radio ch.val 3 (txLevel s ch.val) none 0xFFFF false false (nextFc s ch.val) p) s)
    else s)

/-! Member mode (08 R261, R270). -/

/-- A member channel's parent changed. -/
def modParent (ch : Nat) (f : Parent → Parent) (s : State) : State :=
  modChan ch (fun c => { c with parent := c.parent.map f }) s

/-- BEACON_RECEIVED: the parent's beacon, or a coordinator realignment, keeps or restores membership (08 R261, R270). -/
def execBeaconReceived (ch : Fin 16) (b : BeaconIn) (s : State) : Host.Outcome State Fault Refusal :=
  .next (match (chanAt s ch.val).parent with
    | none => s
    | some p =>
      let st := rdI s P20.STATE ch.val
      if radChanUp s ch.val = false ∨ b.fromParent = false ∨ b.panId ≠ rdI s P20.PAN_ID ch.val
        ∨ [3, 4, 5].contains st = false
        ∨ (st = 5 ∧ passed s p.scanBegan (secBeats (rdI s P20.ORPHAN_HOLD ch.val * 60)) = true) then s
      else
        let t := slotNs s + b.sfd
        let d := if b.realign then p.depth else byteAt b.payload 2
        let rl := if b.realign then p.relays else (List.range 4).map (fun k => leAt b.payload (12 + 2 * k) 2)
        let s1 := wrI P20.STATE ch.val 3 (wrI P20.DEPTH ch.val (d + 1) (modParent ch.val (fun x =>
          { x with depth := d, relays := rl, lastBeacon := t, expect := t + biNs s ch.val, missed := 0 }) s))
        if st = 3 then s1 else logEv evRadioParentFound (leB 1 ch.val) s1)

/-- The half-width of the window around the next expected beacon: G, and from the third miss on twice the one before, up
to 8 × GMAX (08 R270). -/
def beaconHalf (s : State) (ch : Nat) (p : Parent) : Int :=
  if p.missed < 3 then guardNs s ch (rdI s P20.DRIFT_METER ch) (p.expect - p.lastBeacon)
  else min (2 * p.half) (8 * gMaxNs s ch)

/-- RADIO_PARENT_LOST: the window around an expected beacon closes without it; the third miss is loss of parent (08
R270). -/
def execRadioParentLost (ch : Fin 16) (s : State) : Host.Outcome State Fault Refusal :=
  .next (match (chanAt s ch.val).parent with
    | none => s
    | some p =>
      let h := beaconHalf s ch.val p
      let st := rdI s P20.STATE ch.val
      if radChanUp s ch.val = false ∨ slotNs s < p.expect + h ∨ [3, 4].contains st = false then s
      else
        let s1 := modParent ch.val (fun x => { x with missed := p.missed + 1, half := h,
                                                      expect := p.expect + biNs s ch.val }) s
        if st = 3 ∧ p.missed + 1 = 3 then
          logEv evRadioParentLost (leB 1 ch.val) (wrI P20.STATE ch.val 4 (cancelRelays ch.val s1))
        else s1)

/-- The channel numbers of a scan: the own, then those of ORPHAN_BASE and ORPHAN_MASK (08 R261, R270). -/
def scanList (s : State) (ch : Nat) : List (Option Nat) :=
  none :: ((List.range 16).filter (fun j => bitAt (rdI s P20.ORPHAN_MASK ch) j)).map (fun j =>
    some (rdI s P20.ORPHAN_BASE ch + j))

/-- A MAC command sent on every channel of the scan list, class 7 (08 Table 08-2, R270). -/
def queueScan (ch cmd : Nat) (s : State) : State :=
  (scanList s ch).foldl (fun t n => queueRadio { ch := ch, cls := 7, ext := none, dest := 0xFFFF, payload := leB 1 cmd,
                                                 cmd := true, ackReq := false, num := n } t) s

/-- The channel may scan: it has not scanned for 60 s (08 R270). -/
def scanDue (s : State) (c : RadChan) : Bool := c.lastScan.all (fun t => passed s t (secBeats 60))

/-- RADIO_ORPHAN_SCAN: at the eighth further miss, and every 60 s from then on (08 R270). -/
def execRadioOrphanScan (ch : Fin 16) (s : State) : Host.Outcome State Fault Refusal :=
  .next (match (chanAt s ch.val).parent with
    | none => s
    | some p =>
      let st := rdI s P20.STATE ch.val
      let c := chanAt s ch.val
      if radChanUp s ch.val = false then s
      else if st = 4 ∧ 11 ≤ p.missed then
        logEv evRadioOrphanScan (leB 1 ch.val) (wrI P20.STATE ch.val 5 (queueScan ch.val 6
          (modChan ch.val (fun x => { x with lastScan := some s.beat.ticks })
            (modParent ch.val (fun x => { x with scanBegan := s.beat.ticks }) s))))
      else if st = 5 ∧ scanDue s c = true then
        queueScan ch.val 6 (modChan ch.val (fun x => { x with lastScan := some s.beat.ticks }) s)
      else s)

/-- ORPHAN_HOLD_EXPIRE: the address is released, held acknowledgements are discarded, and the channel joins afresh (08
R270). -/
def execOrphanHoldExpire (ch : Fin 16) (s : State) : Host.Outcome State Fault Refusal :=
  .next (match (chanAt s ch.val).parent with
    | none => s
    | some p =>
      if rdI s P20.STATE ch.val ≠ 5
        ∨ passed s p.scanBegan (secBeats (rdI s P20.ORPHAN_HOLD ch.val * 60)) = false then s
      else
        let keep := fun (x : RadTx) => !(x.ch == ch.val && (match x.cargo with
          | .acks _ _ _ => true
          | _ => false))
        wrI P20.STATE ch.val 6 (modChan ch.val (fun c => { c with parent := none, lastScan := none })
          { s with radio := { s.radio with txq := s.radio.txq.filter keep } }))

/-- RADIO_JOIN: an active scan, at once or 60 s after the last, finds a coordinator of PAN_ID and NET_ID or none (08 R261, R270). -/
def execRadioJoin (ch : Fin 16) (found : Option JoinIn) (s : State) : Host.Outcome State Fault Refusal :=
  .next (
    if radChanUp s ch.val = false ∨ rdI s P20.ROLE ch.val = 0 ∨ rdI s P20.STATE ch.val ≠ 6
      ∨ scanDue s (chanAt s ch.val) = false then s
    else
      let s1 := modChan ch.val (fun c => { c with lastScan := some s.beat.ticks }) (queueScan ch.val 7 s)
      match found with
      | none => s1
      | some j =>
        if j.panId ≠ rdI s P20.PAN_ID ch.val ∨ leAt j.payload 0 2 ≠ rdI s P20.NET_ID ch.val
          ∨ bitAt (byteAt j.payload 3) 0 = false then s1
        else
          let t := slotNs s + j.sfd
          let p : Parent := { ext := j.ext, short := j.short, own := j.own, depth := byteAt j.payload 2,
                              relays := (List.range 4).map (fun k => leAt j.payload (12 + 2 * k) 2), lastBeacon := t,
                              expect := t + biNs s ch.val }
          wrI P20.STATE ch.val 3 (wrI P20.DEPTH ch.val (p.depth + 1) (modChan ch.val (fun c => { c with parent := some p })
            s1)))

/-! RADIO_NEIGHBOURS (08 R285). -/

/-- The 32 bytes of a neighbour entry (08 Table 08-9). -/
def neighBytes (n : Neigh) : List Byte :=
  leB 8 n.ext ++ leB 2 n.short ++ leB 1 n.ch ++ leB 1 n.st ++ leB 1 n.depth ++ leB 1 n.missed ++ leB 1 (ofS 8 n.rssi)
    ++ leB 1 n.lqi ++ leB 4 n.period ++ leB 4 n.cell ++ leB 2 (ofS 16 (clampI (-32768) 32767 (n.offset / 10000)))
    ++ leB 2 (ofS 16 (clampI (-32768) 32767 (n.rate / 10000))) ++ leB 4 ((n.heard / nsSec).toNat % 2 ^ 32)

/-- The entries of a channel, or of all channels, from an index on. -/
def neighFrom (s : State) (ch start : Nat) : List (Nat × Neigh) :=
  ((List.range s.radio.neigh.length).zip s.radio.neigh).filter (fun x =>
    decide (start ≤ x.1) && (ch == 0xFF || x.2.ch == ch))

/-- RADIO_NEIGHBOURS (08 R285). -/
def execRadioNeighbours (h : Hdr) (p : List Byte) (s : State) : Host.Outcome State Fault Refusal :=
  .next (runCmd h p false (fun t =>
    let ch := byteAt p 0
    let start := leAt p 2 2
    if 15 < ch ∧ ch ≠ 0xFF then .fail stOutOfRange 0
    else if 8191 < start then .fail stOutOfRange 16
    else
      let l := neighFrom t ch start
      let next := ((l.drop 255).head?.map Prod.fst).getD 0xFFFF
      let es := l.take 255
      .done (leB 2 es.length ++ leB 2 next ++ zeros 12 ++ (es.map (fun x => neighBytes x.2)).flatten) t) s)

/-! Resets and steps (08 R286 to R288). -/

/-- What FUNC_RESET of 0x20 and DEV_RESET discard: queued transmissions, scheduled relays, held acknowledgements and
receptions (08 R287). -/
def radioFlush (s : State) : State :=
  let clear := fun (c : RadChan) =>
    { c with rx := none, flight := none, rxUntil := 0, txs := [], txUntil := 0, rdvUntil := 0 }
  { s with radio := { s.radio with txq := [], seen := s.radio.seen.map (fun e => { e with relay := none }),
                                   chans := s.radio.chans.map clear } }

/-- A channel starts: a coordinator serves at once, a member joins (08 R259, R261, R287). -/
def radChanStart (ch : Nat) (s : State) : State :=
  if rdI s P20.EN ch = 1 ∧ radioOn s = true then
    let c := chanAt s ch
    let st := if rdI s P20.ROLE ch = 0 then 2 else if c.parent.isSome then 3 else 6
    wrI P20.STATE ch st (modChan ch (fun x =>
      { x with upSince := slotNs s, lastScan := none,
               parent := x.parent.map (fun p =>
                 { p with missed := 0, expect := slotNs s + biNs s ch, lastBeacon := slotNs s }) }) s)
  else wrI P20.STATE ch 0 s

/-- Every channel starts (08 R287). -/
def radioStart (s : State) : State := (List.range 16).foldl (fun t n => radChanStart n t) s

/-- Every channel stops; STATE reads starting while a reset runs (08 R287). -/
def radioStop (s : State) : State :=
  (List.range 16).foldl (fun t n => wrI P20.STATE n (if rdI t P20.EN n = 1 ∧ radioOn t = true then 1 else 0) t)
    (radioFlush s)

/-- After a power-on only class N neighbour state is left, misses count from 0 and held addresses from now; class V state
is lost at every device reset (08 R286). -/
def radioRetain (powerOn : Bool) (s : State) : State :=
  let v := fun (n : Neigh) => { n with rssi := 0, lqi := 0, fc := none }
  let w := fun (n : Neigh) => { v n with offset := 0, rate := 0, missed := 0, heard := 0, wide := true, sfdSlot := 0,
                                         sfdChain := 0, heardTick := s.beat.ticks, slotDone := 0 }
  let hold := fun (c : RadChan) => if powerOn then { c with heldAddr := c.heldAddr.map (fun x => (x.1, x.2.1, s.beat.ticks)) }
    else c
  let t := radioFlush s
  let l := s.radio.neigh.map (if powerOn then w else v)
  { t with radio := { t.radio with seen := [], neigh := l, chans := t.radio.chans.map hold } }

end Sys2Proof.Machine
end

