-- ==== Sys2Proof/Machine/Powerline.lean ====
section
/-! DEFINITION. The powerline's events (09): crossings, frames sent and received, tone maps, joins, routes, trips, and
PLC_ROUTES. -/
namespace Sys2Proof.Machine

/-! Sending (09 R306, R307, R319, R320). -/

/-- A frame starts on the line at a crossing; a link acknowledgement adopts the map it answers (09 R306, R313). -/
def startFrame (ph : Nat) (x : PlcTx) (s : State) : State :=
  let (s1, y) := buildPlc ph x s
  let s2 := match x.adopt with
    | some (a, m) => modLink ph a (fun l => { l with tx := m, wholeTx := false }) s1
    | none => s1
  let n := frameCycles s2 ph (y.bytes.length - 8) (mapOfTx s2 ph y)
  let s3 := emit (.plc (ph + 1) (rdPh s2 P21.INJ_LEVEL ph) (y.bytes.take 8) (y.bytes.drop 8)
    (frameTones s2 ph (y.bytes.take 8) (y.bytes.drop 8) (mapOfTx s2 ph y))) (count 0x12 (ph + 1) 1 (bumpPh P21.TX_FRAMES ph s2))
  let keep := if y.routing = 1 then ((phaseAt s3 ph).recent ++ [(y.fc, y)]).reverse.take 16 |>.reverse
    else (phaseAt s3 ph).recent
  modPhase ph (fun p => { p with line := some (y, n), recent := keep, be := none, backoff := 0 }) s3

/-- PLC_FRAME_START: at a crossing the next frame starts if the channel was clear, or backs off; a link acknowledgement
does not sense the channel (09 R306). -/
def tryStart (ph : Nat) (x : Crossing) (s : State) : State :=
  let p := phaseAt s ph
  if phaseRuns s ph = false ∨ p.line.isSome ∨ p.rx.isSome ∨ p.suspended.isSome ∨ p.retryHold.isSome then s
  else match nextPlc s ph with
    | none => s
    | some f =>
      let out := modPhase ph (fun q => { q with txq := q.txq.erase f }) s
      if f.type = 1 then startFrame ph f out
      else if p.await.isSome then s
      else if 0 < p.backoff then modPhase ph (fun q => { q with backoff := q.backoff - 1 }) s
      else if !x.preamble && decide (x.energy ≤ rdPh s P21.CS_DB ph) then startFrame ph f out
      else
        let be := p.be.getD (if f.place = 2 then 0 else rdPh s P21.MIN_BE ph)
        modPhase ph (fun q => { q with backoff := x.draw % 2 ^ be,
                                       be := some (min (be + 1) (rdPh s P21.MAX_BE ph)) }) s

/-- Until when a frame that has ended waits for its acknowledgement's SFD: 2 cycles from the first crossing at least 5 ms after
its last slot (09 R307). -/
def ackDeadline (s : State) (ph : Nat) (f : PlcTx) : Int :=
  let p := phaseAt s ph
  let k := (slotSegs s ph).length
  let used := frameSlots s ph (f.bytes.length - 8) (mapOfTx s ph f) % k
  let ended := p.lastX - (if used = 0 then 0 else slotsNs s ph (k - used))
  let per := p.period / 65536
  (if ended + 5000000 ≤ p.lastX then p.lastX else p.lastX + per) + 2 * per

/-- The frame on the line has ended: it waits for its link acknowledgement, or is done (09 R307). -/
def frameEnds (ph : Nat) (f : PlcTx) (s : State) : State :=
  let till := ackDeadline s ph f
  let s1 := modPhase ph (fun p =>
    { p with line := none, aborts := 0, await := if f.ackReq then some f else p.await, awaitAt := till }) s
  noteSent f.cargo f.title s1

/-- A cycle of the frame on the line passes. -/
def lineCycle (ph : Nat) (s : State) : State :=
  match (phaseAt s ph).line with
  | some (f, n) => if n ≤ 1 then frameEnds ph f s else modPhase ph (fun p => { p with line := some (f, n - 1) }) s
  | none => s

/-- The half-cycles in which e_live would have risen above INJ_CEIL: 4 x AFE_VFS^2 x the sum of squares, in 2^-30, above
INJ_CEIL x ZLINE_MIN x 10^6 (09 R319). -/
def mutedHalves (s : State) (ph : Nat) (inj : List Nat) : Nat :=
  (inj.filter (fun x => decide (rdPh s P21.INJ_CEIL ph * rdPh s P21.ZLINE_MIN ph * 2 ^ 30 * 1000000
    < 4 * x * rdPh s P21.AFE_VFS ph ^ 2))).length

/-- PLC_INJ_CEILING: half-cycles muted at the energy ceiling are counted, and logged at most once per minute (09 R319). -/
def injHits (ph : Nat) (inj : List Nat) (s : State) : State :=
  let n := mutedHalves s ph inj
  if n = 0 ∨ (phaseAt s ph).line.isNone then s
  else
    let s1 := bumpI P21.INJ_CEIL_HITS (ph + 1) n s
    let due := match (phaseAt s ph).ceilAt with
      | none => true
      | some t => passed s t (secBeats 60)
    if due then logEv evPlcInjCeiling (leB 1 (ph + 1)) (modPhase ph (fun p => { p with ceilAt := some s.beat.ticks }) s1)
    else s1

/-- What a crossing, accepted or predicted, does for the frames (09 R300, R306). -/
def cycleWork (ph : Nat) (x : Crossing) (s : State) : State := tryStart ph x (lineCycle ph (injHits ph x.inj s))

/-! Zero crossings (09 R298 to R300; 07 R237, R238). -/

/-- The crossing count of a phase advances (07 R237; 09 R300). -/
def countCrossing (ph : Nat) (s : State) : State :=
  { s with tally := { s.tally with zc := s.tally.zc.set ph ((s.tally.zc.getD ph 0 + 1) % 2 ^ 32) } }

/-- The nominal mains period of a phase in ns. -/
def nominalNs (s : State) (ph : Nat) : Int := 1000000000 / (mainsHz s ph : Int)

/-- An accepted crossing stamped on chain time, in 2^-16 ns as a 112-bit timestamp counts, and offered to Scribe; it is late
after 1.5 nominal periods (07 R237, R238). -/
def stampCrossing (ph : Nat) (stamp : Int) (x : Crossing) (s : State) : State :=
  let late := decide (3 * nominalNs s ph * nsU < 2 * (stamp - s.tally.zcAt.getD ph 0))
  refCrossing (ph + 1) (stamp / nsU + (legalNs s - chainNs s)) x.half1 x.half2 late
    { s with tally := { s.tally with zcAt := s.tally.zcAt.set ph stamp } }

/-- Crossings come from the metrology samples: the powerline is unpowered and metrology is powered (07 R237). -/
def zcMetro (s : State) : Bool := !plcOn s && metroOn s

/-- ZC_METRO: the phases whose crossings come from metrology (07 R237). -/
def zcFields (s : State) : State := wr P13.ZC_METRO (if zcMetro s then 7 else 0) s

/-- The totalizer references of the phases on which no crossing has come for 1.5 nominal periods (07 R238). -/
def lapseRefs (s : State) : State :=
  (List.range 3).foldl (fun t ph =>
    if 3 * nominalNs t ph * nsU < 2 * (t.plumb.chain - t.tally.zcAt.getD ph 0) then
      mapRefs (ph + 1) (refLapse t.tally.stepped (legalNs t)) t
    else t) s

/-- An interval lies in the range of the mains frequency (09 R298). -/
def intervalOk (s : State) (ph : Nat) (m : Int) : Bool :=
  if rdPh s P21.MAINS_HZ ph = 0 then decide (1000000000 ≤ m * 105 / 2) && decide (m * 95 / 2 ≤ 1000000000)
  else decide (1000000000 ≤ m * 63) && decide (m * 57 ≤ 1000000000)

/-- MAINS_PERIOD follows the filtered period (09 Table 09-9). -/
def periodField (ph : Nat) (s : State) : State := wrPh P21.MAINS_PERIOD ph (periodNs s ph).toNat s

/-- A route advertisement queued (09 Table 09-5, R316). -/
def advertise (ph : Nat) (s : State) : State :=
  let p := phaseAt s ph
  let ok := running s && !acceptClosed s && decide (p.joined.length < 1024)
  let body := leB 2 p.advSeq ++ leB 2 0 ++ leB 1 0 ++ leB 1 (b2n ok) ++ leB 2 (rdPh s P21.REG_PERIOD ph)
  queuePlc ph { place := 3, type := 3, dest := 0xFFFF, final := 0xFFFF, inner := body }
    (modPhase ph (fun q => { q with advSeq := (q.advSeq + 1) % 65536, advAt := some s.beat.ticks }) s)

/-- A candidate edge of a lost phase: after 16 good intervals the phase runs again and advertises if it has not since it
started (09 R299, R322). -/
def candidate (ph : Nat) (e : Int) (s : State) : State :=
  let p := phaseAt s ph
  let m := e - p.lastX
  let nominal : Int := 1000000000 / (mainsHz s ph : Int)
  let good := decide (95 * nominal ≤ 100 * m) && decide (100 * m ≤ 105 * nominal)
  let n := if good then p.cand + 1 else 0
  let s1 := modPhase ph (fun q => { q with lastX := e, cand := n, fly := 0 }) s
  if n < 16 then s1
  else
    let s2 := logEv evPlcZcFound (leB 1 (ph + 1)) (wrPh P21.STATE ph (if p.suspended.isSome then 4 else 2) s1)
    if p.advAt.isNone then advertise ph s2 else s2

/-- ZERO_CROSSING: an edge that stays high long enough, corrected by ZC_ADJ (09 R298, R299). With the metrology source it
is stamped as it is (07 R237). -/
def execZeroCrossing (ph : Fin 3) (sinceBeat : Nat) (x : Crossing) (s : State) : Host.Outcome State Fault Refusal :=
  let k := ph.val
  let p := phaseAt s k
  let raw := s.plumb.chain + sinceBeat * fabricCycle
  let stamp := raw - rdS s P21.ZC_ADJ (k + 1) * 1000 * nsU
  let e := stamp / nsU
  let m := e - p.lastX
  let off := m - p.period / 65536
  .next (
    if zcMetro s then zcFields (stampCrossing k raw x (countCrossing k s))
    else if detects s k = false ∨ x.high < rdPh s P21.ZC_DEGLITCH k * 1000 then s
    else if rdPh s P21.STATE k = 3 then candidate k e s
    else if (rdPh s P21.ZC_WINDOW k * 1000 : Nat) < off.natAbs ∨ intervalOk s k m = false then s
    else
      let s1 := modPhase k (fun q => { q with period := q.period + (m * 65536 - q.period) / 16, lastX := e, fly := 0 }) s
      cycleWork k x (stampCrossing k stamp x (countCrossing k (periodField k s1))))

/-- The flywheel limit is reached: the phase is lost, and a frame on the line is aborted and kept (09 R299, R324). -/
def zcLost (ph : Nat) (s : State) : State :=
  let s1 := match (phaseAt s ph).line with
    | some (f, _) => if f.type = 1 then s else requeueFront ph f s
    | none => s
  logEv evPlcZcLost (leB 1 (ph + 1)) (wrPh P21.STATE ph 3 (modPhase ph (fun p =>
    { p with line := none, rx := none, cand := 0 }) s1))

/-- FLYWHEEL_CYCLE: a cycle without an accepted edge takes the predicted instant once ZC_WINDOW has passed it, in the beat
that now runs (09 R298, R299). -/
def execFlywheelCycle (ph : Fin 3) (x : Crossing) (s : State) : Host.Outcome State Fault Refusal :=
  let k := ph.val
  let next := (phaseAt s k).lastX + (phaseAt s k).period / 65536
  .next (
    if detects s k = false ∨ rdPh s P21.STATE k = 3 ∨ chainNs s + 125000 < next + (rdPh s P21.ZC_WINDOW k * 1000 : Nat) then s
    else
      let s1 := modPhase k (fun q => { q with lastX := next, fly := q.fly + 1 })
        (bumpPh P21.ZC_FLYWHEEL k (countCrossing k s))
      if rdPh s P21.ZC_FLY k ≤ (phaseAt s1 k).fly then zcLost k s1 else cycleWork k x s1)

/-! Reception (09 R302 to R309). -/

/-- A map the receiver still takes payloads under: MAP_SEQ 0 before the first exchange, its newest, and the one before for
2 × TM_PERIOD (09 R313). -/
def mapHeld (s : State) (ph : Nat) (l : PlcLink) (seq : Nat) : Bool :=
  seq == l.rx.seq ||
    (match l.rxPrev with
      | some m => m.seq == seq && !passed s l.rxAt (secBeats (2 * rdPh s P21.TM_PERIOD ph))
      | none => false)

/-- The map of a held sequence. -/
def mapOfRx (s : State) (ph : Nat) (l : PlcLink) (seq : Nat) : ToneMap :=
  if seq = 0 then commonMap s ph
  else if seq = l.rx.seq then l.rx else l.rxPrev.getD l.rx

/-- A tone-map frame queued: a proposal of the receiving map, or a request (09 Table 09-6). -/
def queueToneMap (ph addr op : Nat) (s : State) : State :=
  let l := linkAt s ph addr
  let m := inForce s ph l.rx
  let body := leB 1 op ++ leB 1 (if op = 1 then m.seq else 0) ++ leB 1 (if op = 1 then b2n m.four else 0) ++ zeros 1
    ++ (if op = 1 then m.masks.map (fun x => BitVec.ofNat 8 x) else zeros 8) ++ zeros 2
  queuePlc ph { place := 3, type := 2, dest := addr, final := addr, inner := body, ackReq := true } s

/-- A header as its 8 bytes give it (09 Table 09-3). -/
def parsePlcHdr (b : List Byte) : PlcHdr :=
  { ctrl := byteAt b 0, mapSeq := byteAt b 1 / 16, dest := leAt b 2 2, src := leAt b 4 2, len := byteAt b 6,
    lseq := byteAt b 7 }

/-- PLC_HEADER_DECODED: the tones decided in the slots of a robust section. A preamble out of tolerance is dropped and
counted; a header that does not decode, or that the rules do not allow, ends reception; a frame addressed to the device
reserves its place (09 R301 to R303, R308). `offset` is how far its first slot lies from the start of a cycle, `start`
when it began, in ns after the last beat boundary. -/
def execPlcHeaderDecoded (ph : Fin 3) (tones : List (Option Nat)) (offset start : Int) (s : State) :
    Host.Outcome State Fault Refusal :=
  let k := ph.val
  let bits := (recvSlots (cycleMasks s k (commonMasks s k)) false (fun _ => false) 0 tones).map Prod.fst
  .next (
    if phaseHears s k = false ∨ (phaseAt s k).line.isSome ∨ bits.length < 160 then s
    else if (rdPh s P21.ZC_TOL k * 1000 : Nat) < offset.natAbs then bumpPh P21.RX_MISALIGNED k s
    else match (readRobust (bits.take 160)).map parsePlcHdr with
      | none => s
      | some f =>
        let ty := f.ctrl % 16
        let lenOk := if ty = 1 then f.len == 0 else decide (1 ≤ f.len) && decide (f.len ≤ 240)
        let place := f.dest == 0 && ty != 1
        let got := efTakes s (k + 18) (1 + ceilDiv f.len 16)
        let s1 := modPhase k (fun p => { p with rx := some ⟨f, chainNs s + start, place && got⟩ }) s
        if lenOk = false ∨ f.ctrl / 64 ≠ 1 then s
        else if place = true ∧ got = false then bumpPh P21.ACK_WITHHELD k s1
        else s1)

/-- A payload failed: one failure for each segment with an erased slot; the third within 60 s proposes the segment blank
(09 R312). -/
def countFailure (ph addr seg : Nat) (s : State) : State :=
  let l := linkAt s ph addr
  let recent := (l.fails.filter (fun x => x.1 == seg && !passed s x.2 (secBeats 60))) ++ [(seg, s.beat.ticks)]
  let fails := l.fails.filter (fun x => x.1 != seg) ++ recent
  if 3 ≤ recent.length ∧ (l.blanks.any (fun x => x.1 == seg)) = false then
    logEv evPlcSegmentBlanked (leB 1 (ph + 1)) (bumpPh P21.BLANKS_PROPOSED ph (modLink ph addr (fun y =>
      { y with fails := l.fails.filter (fun x => x.1 != seg), blanks := y.blanks ++ [(seg, s.beat.ticks)] }) s))
  else modLink ph addr (fun y => { y with fails := fails }) s

/-- Impulsive marks in a blanked segment start its hold anew (09 R312). -/
def markImpulses (ph addr : Nat) (segs : List Nat) (s : State) : State :=
  modLink ph addr (fun l => { l with blanks := mapIf (fun x => segs.contains x.1) (fun x => (x.1, s.beat.ticks)) l.blanks }) s

/-- The link acknowledgement of a frame: at the first crossing at least 5 ms after its last slot, with the newest map (09
R307). -/
def queueLinkAck (ph : Nat) (r : PlcRx) (adopt : Option ToneMap) (s : State) : State :=
  let l := linkAt s ph r.hdr.src
  let n := frameSlots s ph r.hdr.len (mapOfRx s ph l r.hdr.mapSeq)
  queuePlc ph { place := 1, type := 1, dest := r.hdr.src, map := l.rx.seq, lseq := some r.hdr.lseq,
                adopt := adopt.map (fun m => (r.hdr.src, m)),
                notBefore := r.chain + slotsNs s ph n + 5000000 } s

/-- A mesh header as received: ROUTING, HOPS, path entries, ORIGIN, FINAL and FC (09 Table 09-4). -/
structure Mesh where
  routing : Nat
  hops : Nat
  origin : Nat
  final : Nat
  fc : Nat
  inner : List Byte
  deriving DecidableEq, Repr

/-- The mesh header and inner payload of a payload, its MIC cut off. -/
def parseMesh (p : List Byte) : Mesh :=
  let n := byteAt p 1 / 16
  { routing := byteAt p 0 / 64, hops := byteAt p 0 % 16, origin := leAt p 2 2, final := leAt p 4 2, fc := leAt p 6 4,
    inner := (p.drop (10 + 2 * n)).take (p.length - 14 - 2 * n) }

/-- A data frame for the device: its inner payload to the engine FIFO (09 R309, Table 09-5). -/
def plcData (ph : Nat) (r : PlcRx) (m : Mesh) (s : State) : State :=
  let b := byteAt m.inner 0
  if m.inner.isEmpty ∨ m.final ≠ 0 ∨ r.reserved = false ∨ [0xE1, 0xE3, 0xE4].contains b = true then s
  else if b = 0xE0 ∨ b = 0xE2 then bumpPh P21.RX_CRC_FAIL ph s
  else
    let it : FifoItem := { way := .plc (ph + 1), src := 0x2000 + m.hops * 256 + (ph + 1), arrival := .chain r.chain,
                           format := 0, frame := m.inner }
    (putItem (ph + 18) it s).getD s

/-- A map in a tone-map frame (09 Table 09-6). -/
def parseMap (b : List Byte) : ToneMap :=
  { seq := byteAt b 1 % 16, four := bitAt (byteAt b 2) 0, masks := (List.range 8).map (fun j => byteAt b (4 + j)) }

/-- TONE_MAP_FRAME: a request is answered with the proposal (09 R313). Adoption comes with the link acknowledgement. -/
def toneMapFrame (ph : Nat) (r : PlcRx) (m : Mesh) (s : State) : State :=
  if byteAt m.inner 0 = 2 then queueToneMap ph r.hdr.src 1 s
  else if byteAt m.inner 0 = 1 ∧ bitAt r.hdr.ctrl 4 = false then
    modLink ph r.hdr.src (fun l => { l with tx := parseMap m.inner, wholeTx := false }) s
  else s

/-- The lowest short address free on a phase (09 R315). -/
def freePlcShort (s : State) (ph : Nat) : Nat :=
  let used := (phaseAt s ph).joined.map Prod.snd ++ (phaseAt s ph).held.map Prod.fst
  (((List.range (used.length + 1)).map (fun k => k + 1)).find? (fun a => !used.contains a)).getD 1

/-- A join response: on the path of the forwarder that relayed the request, or straight to a neighbour (09 R315, Table
09-5). -/
def joinResponse (ph title short status : Nat) (r : PlcRx) (m : Mesh) (s : State) : State :=
  let via := (phaseAt s ph).joined.find? (fun x => x.2 == m.origin)
  queuePlc ph { place := 3, type := 7, routing := 1, dest := r.hdr.src, final := m.origin,
                title := via.map Prod.fst, inner := leB 8 title ++ leB 2 short ++ leB 1 status } s

/-- JOIN_REQUEST (09 R315). -/
def joinRequest (ph : Nat) (r : PlcRx) (m : Mesh) (s : State) : State :=
  let title := leAt m.inner 0 8
  let p := phaseAt s ph
  if (meterOfTitle s title).isNone then newTitle title (joinResponse ph title 0xFFFE 2 r m s)
  else match p.joined.find? (fun x => x.1 == title) with
    | some x => joinResponse ph title x.2 0 r m s
    | none =>
      if running s = false ∨ acceptClosed s = true ∨ 1024 ≤ p.joined.length ∨ 0xFFFD < freePlcShort s ph then
        joinResponse ph title 0xFFFE 1 r m s
      else
        let a := freePlcShort s ph
        joinResponse ph title a 0 r m (joinCount ph (modPhase ph (fun q => { q with joined := q.joined ++ [(title, a)] }) s))

/-- The paths held in a route table. -/
def routeUse (p : PlcPhase) : Nat := (p.routes.map (fun r => b2n r.primary.isSome + b2n r.alternate.isSome)).sum

/-- The oldest alternate path of a table dropped (09 R317). -/
def dropOldestAlternate (l : List PlcRoute) : List PlcRoute :=
  match ((l.filterMap PlcRoute.alternate).map PlcPath.at_).min? with
  | some t => mapIf (fun r => (r.alternate.map PlcPath.at_) == some t) (fun r => { r with alternate := none }) l
  | none => l

/-- ROUTE_REGISTRATION: the reversed path becomes the primary, a previous different one the alternate (09 R317). -/
def routeRegistration (ph : Nat) (m : Mesh) (s : State) : State :=
  let b := m.inner
  let title := leAt b 0 8
  let p := phaseAt s ph
  match p.joined.find? (fun x => x.1 == title) with
  | none => s
  | some x =>
    let hops := ((List.range (min 14 (byteAt b 12))).map (fun k => leAt b (14 + 2 * k) 2)).reverse
    let new : PlcPath := { hops := hops, cost := leAt b 10 2, at_ := s.beat.ticks }
    let old := (p.routes.find? (fun r => r.title == title)).getD { title := title, short := x.2 }
    let alt := match old.primary with
      | some q => if q.hops = hops then old.alternate else some q
      | none => old.alternate
    let r : PlcRoute := { title := title, short := x.2, primary := some new, alternate := alt }
    let others := p.routes.filter (fun y => y.title != title)
    let full := decide (2048 < routeUse { p with routes := others ++ [r] })
    modPhase ph (fun q => { q with routes := if full then dropOldestAlternate (others ++ [r]) else others ++ [r] }) s

/-- ROUTE_ERROR: the path of the failed frame's meter is broken, and the frame goes by the alternate (09 R318). -/
def routeError (ph : Nat) (m : Mesh) (s : State) : State :=
  let final := leAt m.inner 2 2
  match (phaseAt s ph).joined.find? (fun x => x.2 == final) with
  | none => s
  | some x =>
    match assocGet (leAt m.inner 4 4) (phaseAt s ph).recent with
    | some f => rerouted ph f s
    | none => breakRoute ph x.1 s

/-- What a frame of each type does once its checks are passed (09 Table 09-5). -/
def plcType (ph ty : Nat) (r : PlcRx) (m : Mesh) (s : State) : State :=
  match ty with
  | 0 => plcData ph r m s
  | 2 => toneMapFrame ph r m s
  | 4 => routeRegistration ph m s
  | 5 => routeError ph m s
  | 6 => joinRequest ph r m s
  | _ => s

/-- A link acknowledgement received: the frame is delivered; a different MAP_SEQ asks for the peer's proposal (09 R307,
R313). -/
def linkAckIn (ph : Nat) (r : PlcRx) (s : State) : State :=
  match (phaseAt s ph).await with
  | none => s
  | some x =>
    if x.dest ≠ r.hdr.src ∨ x.lseq ≠ some r.hdr.lseq then s
    else
      let l := linkAt s ph x.dest
      let s1 := modPhase ph (fun p => { p with await := none }) (modLink ph x.dest (fun y =>
        { y with unacked := if x.type = 0 then (false :: y.unacked).take 16 else y.unacked }) s)
      if l.tx.seq ≠ r.hdr.mapSeq then queueToneMap ph x.dest 2 s1 else s1

/-- A decoded payload after the checks of R302, R305 and R307. -/
def plcChecked (ph ty : Nat) (p : List Byte) (r : PlcRx) (s : State) : State :=
  let m := parseMesh p
  let l := linkAt s ph r.hdr.src
  let wantsAck := bitAt r.hdr.ctrl 4 && r.hdr.dest == 0 && r.reserved && phaseRuns s ph
  let adopt := if ty = 2 ∧ byteAt m.inner 0 = 1 then some (parseMap m.inner) else none
  let ackd := if wantsAck then queueLinkAck ph r adopt s else s
  if ty = 0 ∧ l.lastSeq = some r.hdr.lseq then ackd
  else if (match assocGet m.origin (phaseAt s ph).inFc with
      | some last => decide (m.fc ≤ last)
      | none => false) && m.origin != 0xFFFE then bumpPh P21.RX_CRC_FAIL ph s
  else
    let s1 := modPhase ph (fun p => { p with inFc := assocSet m.origin m.fc p.inFc })
      (modLink ph r.hdr.src (fun y => { y with lastSeq := if ty = 0 then some r.hdr.lseq else y.lastSeq }) ackd)
    plcType ph ty r m s1

/-- The impulsive segments of a frame: the ADC clipped, or the energy outside the tones rose more than IMPULSE_DB (09 R304). -/
def impulses (s : State) (ph : Nat) (marks : List Impulse) : List (Nat × Nat) :=
  (marks.filter (fun x => x.clip || decide (rdPh s P21.IMPULSE_DB ph < x.rise))).map (fun x => (x.half, x.seg))

/-- The impulsive segments that slot `k` of a frame covers (09 R304). -/
def slotHits (s : State) (ph : Nat) (imp : List (Nat × Nat)) (k : Nat) : List Nat :=
  let g := slotParts s ph
  ((g.getD (k % g.length) []).filter (fun x => imp.contains (2 * (k / g.length) + x.1, x.2))).map Prod.snd

/-- A payload received under a map: its bits from the slot after the robust section on, with the bytes that hold a bit of
an erased slot erased (09 R302, R304). -/
def receivePayload (s : State) (ph len : Nat) (m : ToneMap) (tones : List (Option Nat)) (imp : List (Nat × Nat)) :
    PlcGot :=
  let a := fillSlots (cycleBits s ph (commonMasks s ph) false) 3840 0 160
  let got := recvSlots (cycleMasks s ph m.masks) m.four (fun k => !(slotHits s ph imp k).isEmpty) a tones
  let n := 64 * codewords len
  decodePayload len (bytesOf n (got.map Prod.fst))
    ((List.range n).map (fun i => ((got.drop (8 * i)).take 8).any Prod.snd || decide (got.length < 8 * i + 8)))

/-- The segments in which payload slots of a frame were erased (09 R312). -/
def erasedSegs (s : State) (ph : Nat) (m : ToneMap) (tones : List (Option Nat)) (imp : List (Nat × Nat)) : List Nat :=
  let a := fillSlots (cycleBits s ph (commonMasks s ph) false) 3840 0 160
  let bits := cycleBits s ph m.masks m.four
  (((List.range tones.length).flatMap (fun i =>
    if bits.getD ((a + i) % bits.length) 0 = 0 then [] else slotHits s ph imp (a + i)))).eraseDups

/-- The MIC of a payload is right (09 R305). -/
def micRight (s : State) (ph : Nat) (p : List Byte) : Bool :=
  p.drop (p.length - 4) == plcMic (plcKey s ph) (p.take (p.length - 4))

/-- A frame received on a phase is counted (09 Table 09-14; 16 Table 16-3). -/
def heardPlc (ph : Nat) (s : State) : State := count 0x11 (ph + 1) 1 (bumpPh P21.RX_FRAMES ph s)

/-- PLC_FRAME_RECEIVED: the tones decided in the payload's slots, none where none was, and what was seen of impulses (09
R302, R304, R305, R307, R312, R313). -/
def execPlcFrameReceived (ph : Fin 3) (x : PlcHeard) (s : State) : Host.Outcome State Fault Refusal :=
  let k := ph.val
  let tones := x.tones
  .next (match (phaseAt s k).rx with
    | none => s
    | some r =>
      let s1 := modPhase k (fun p => { p with rx := none }) s
      let ty := r.hdr.ctrl % 16
      let l := linkAt s k r.hdr.src
      if phaseHears s k = false then s1
      else if ty = 1 then linkAckIn k r (heardPlc k s1)
      else if mapHeld s k l r.hdr.mapSeq = false ∧ ¬ (r.hdr.dest = 0xFFFF ∧ r.hdr.mapSeq = 0) then
        queueToneMap k r.hdr.src 1 (bumpPh P21.RX_CRC_FAIL k s1)
      else
        let m := mapOfRx s k l r.hdr.mapSeq
        let imp := impulses s k x.marks
        let f := receivePayload s k r.hdr.len m tones imp
        let s2 := markImpulses k r.hdr.src (imp.map Prod.snd) s1
        if f.rsOk = false ∨ f.crcOk = false then
          (erasedSegs s k m tones imp).foldl (fun t g => countFailure k r.hdr.src g t) (bumpPh P21.RX_CRC_FAIL k s2)
        else
          let s3 := if f.corrected then bumpPh P21.RX_RECOVERED k s2 else s2
          if f.payload.length < 14 ∨ micRight s k f.payload = false ∨ 8 < ty then bumpPh P21.RX_CRC_FAIL k s3
          else plcChecked k ty f.payload r (heardPlc k s3))

/-- PLC_LINK_ACK_TIMEOUT: the frame is sent again unchanged, or the failure is counted and its route has failed (09 R307,
R318). -/
def execPlcLinkAckTimeout (ph : Fin 3) (s : State) : Host.Outcome State Fault Refusal :=
  let k := ph.val
  .next (match (phaseAt s k).await with
    | none => s
    | some x =>
      if chainNs s < (phaseAt s k).awaitAt then s
      else
        let s1 := modPhase k (fun p => { p with await := none }) s
        if x.tries < rdPh s P21.LINK_RETRIES k then requeueFront k { x with tries := x.tries + 1 } s1
        else
          let s2 := modLink k x.dest (fun y =>
            { y with unacked := if x.type = 0 then (true :: y.unacked).take 16 else y.unacked }) s1
          rerouted k x (bumpPh P21.LINK_FAILS k s2))

/-! Tone maps and costs (09 R311 to R314). -/

/-- A mask with fewer than 2 usable tones is blank (09 R311). -/
def usableMask (m : Nat) : Nat := if (toneList m).length < 2 then 0 else m

/-- The masks usable after a period: a tone whose mean SNR is at least TM_SNR; one that carried nothing keeps its state (09
R311). -/
def newUsable (s : State) (ph : Nat) (l : PlcLink) (m : ToneMeas) : List Nat :=
  (List.range 8).map (fun j => ((List.range 8).map (fun n =>
    let ok := match (m.snr.getD j []).getD n none with
      | some x => decide ((rdPh s P21.TM_SNR ph : Int) ≤ x)
      | none => bitAt (l.usable.getD j 0xFF) n
    if ok then 2 ^ n else 0)).sum)

/-- The map a receiver would propose: blank segments blank, four-tone when at least half the segments hold 4 usable tones
(09 R311, R312). -/
def wantedMap (usable : List Nat) (blanks : List (Nat × Nat)) : Bool × List Nat :=
  let ms := (List.range 8).map (fun j => if blanks.any (fun x => x.1 == j) then 0 else usableMask (usable.getD j 0))
  (decide (4 ≤ (ms.filter (fun m => decide (4 ≤ (toneList m).length))).length), ms)

/-- The cost of a direction (09 R314). -/
def dirCost (s : State) (ph : Nat) (m : ToneMap) (unacked : Nat) : Nat :=
  let full := (slotSegs s ph).length * 2
  let cap := (cycleBits s ph m.masks m.four).sum
  if cap = 0 then 0xFFFF else min 0xFFFF (rdPh s P21.COST_HOP ph + 256 * full / cap + 32 * unacked)

/-- One link at a TM_PERIOD boundary: costs from maps in force all period, then a proposal if the map differs (09 R313,
R314). -/
def linkPeriod (ph : Nat) (meas : List ToneMeas) (l : PlcLink) (s : State) : State :=
  let tx := inForce s ph l.tx
  let rx := inForce s ph l.rx
  let u := match meas.find? (fun m => m.addr == l.addr) with
    | some m => newUsable s ph l m
    | none => l.usable
  let (four, ms) := wantedMap u l.blanks
  let differs := four != rx.four || ms != rx.masks
  let new : ToneMap := { seq := l.rx.seq % 15 + 1, four := four, masks := ms }
  let s1 := modLink ph l.addr (fun y =>
    { y with usable := u, wholeTx := true, wholeRx := !differs,
             costTx := if l.wholeTx then dirCost s ph tx (l.unacked.filter (fun b => b)).length else y.costTx,
             costRx := if l.wholeRx then dirCost s ph rx 0 else y.costRx,
             rx := if differs then new else y.rx, rxPrev := if differs then some l.rx else y.rxPrev,
             rxAt := if differs then s.beat.ticks else y.rxAt }) s
  if differs then queueToneMap ph l.addr 1 s1 else s1

/-- TM_PERIOD_BOUNDARY (09 R313, R314). -/
def execTmPeriodBoundary (ph : Fin 3) (m : List ToneMeas) (s : State) : Host.Outcome State Fault Refusal :=
  let k := ph.val
  .next (
    if phaseHears s k = false ∨ passed s (phaseAt s k).tmAt (secBeats (rdPh s P21.TM_PERIOD k)) = false then s
    else (phaseAt s k).links.foldl (fun t l => linkPeriod k m l t)
      (modPhase k (fun p => { p with tmAt := s.beat.ticks }) s))

/-- TM_BLANK_HOLD_EXPIRE: a blanked segment without an impulsive mark for TM_BLANK_HOLD may return (09 R312). -/
def execTmBlankHoldExpire (ph : Fin 3) (addr : Nat) (seg : Fin 8) (s : State) : Host.Outcome State Fault Refusal :=
  let k := ph.val
  let excess := fun (x : Nat × Nat) => x.1 == seg.val && passed s x.2 (secBeats (rdPh s P21.TM_BLANK_HOLD k * 60))
  .next (if (phaseAt s k).links.any (fun l => l.addr == addr) then
      modLink k addr (fun l => { l with blanks := l.blanks.filter (fun x => !excess x) }) s
    else s)

/-! Routes and addresses (09 R315 to R317). -/

/-- ROUTE_ADVERTISEMENT: on each running phase every ADV_PERIOD (09 R316). -/
def execRouteAdvertisement (ph : Fin 3) (s : State) : Host.Outcome State Fault Refusal :=
  let k := ph.val
  let due := match (phaseAt s k).advAt with
    | none => true
    | some t => passed s t (secBeats (rdPh s P21.ADV_PERIOD k))
  .next (if phaseRuns s k && due then advertise k s else s)

/-- ROUTE_AGE_EXPIRE: an alternate path is kept while it is younger than ROUTE_AGE (09 R317). -/
def execRouteAgeExpire (ph : Fin 3) (title : Nat) (s : State) : Host.Outcome State Fault Refusal :=
  let k := ph.val
  let old := fun (p : PlcPath) => passed s p.at_ (secBeats (rdPh s P21.ROUTE_AGE k * 60))
  .next (modRoute k title (fun r => { r with alternate := r.alternate.bind (fun a => if old a then none else some a) }) s)

/-- PLC_ADDR_HOLD_EXPIRE: a retired meter's address is free again (09 R315). -/
def execPlcAddrHoldExpire (ph : Fin 3) (short : Nat) (s : State) : Host.Outcome State Fault Refusal :=
  let k := ph.val
  let hold := secBeats (rdPh s P21.ADDR_HOLD k * 3600)
  .next (modPhase k (fun p => { p with held := p.held.filter (fun x => !(x.1 == short && passed s x.2 hold)) }) s)

/-- A retired title loses its entry and its routes; its address is held (09 R315). -/
def plcRetire (title : Nat) (s : State) : State :=
  (List.range 3).foldl (fun t k =>
    match (phaseAt t k).joined.find? (fun x => x.1 == title) with
    | some x => joinCount k (modPhase k (fun p =>
        { p with joined := p.joined.filter (fun y => y.1 != title), held := p.held ++ [(x.2, t.beat.ticks)],
                 routes := p.routes.filter (fun r => r.title != title),
                 txq := p.txq.filter (fun y => y.title != some title) }) t)
    | none => t) s

/-! Line-current trips (09 R320). -/

/-- The half-cycles an aborted frame waits, 1 to 4 at random: a free value (09 R320; log 4). -/
def retryWait (s : State) : Nat := (Config.random s.free 0).toNat % 4 + 1

/-- TX_ABORT_IMPEDANCE: the frame is aborted at the next symbol boundary and waits a random 1 to 4 half-cycles to be
started again; too many in a row suspend the phase. A link acknowledgement is not sent again (09 R320). -/
def execTxAbortImpedance (ph : Fin 3) (s : State) : Host.Outcome State Fault Refusal :=
  let k := ph.val
  .next (match (phaseAt s k).line with
    | none => s
    | some (f, _) =>
      let n := (phaseAt s k).aborts + 1
      let till := chainNs s + retryWait s * (periodNs s k / 2)
      let s1 := if f.type = 1 then s else drawn (requeueFront k f s)
      let s2 := modPhase k (fun p => { p with line := none, aborts := n, retryHold := if f.type = 1 then none else some till })
        (bumpPh P21.TX_ABORTS k s1)
      if rdPh s P21.TRIP_LIMIT k ≤ n then
        logEv evPlcLowImpedance (leB 1 (k + 1)) (wrPh P21.STATE k 4 (modPhase k (fun p =>
          { p with suspended := some s.beat.ticks, aborts := 0, retryHold := none }) s2))
      else s2)

/-- TRIP_RETRY_EXPIRE: the half-cycles of the wait have passed, and the aborted frame may start at the next rising crossing
(09 R320). -/
def execTripRetryExpire (ph : Fin 3) (s : State) : Host.Outcome State Fault Refusal :=
  .next (if (phaseAt s ph.val).retryHold.any (fun t => decide (t ≤ chainNs s)) then
      modPhase ph.val (fun p => { p with retryHold := none }) s
    else s)

/-- TRIP_BACKOFF_EXPIRE: a suspended phase sends again after TRIP_BACKOFF (09 R320). -/
def execTripBackoffExpire (ph : Fin 3) (s : State) : Host.Outcome State Fault Refusal :=
  let k := ph.val
  .next (match (phaseAt s k).suspended with
    | none => s
    | some t =>
      if passed s t (secBeats (rdPh s P21.TRIP_BACKOFF k)) = false then s
      else
        let s1 := modPhase k (fun p => { p with suspended := none }) s
        if rdPh s P21.STATE k = 4 then wrPh P21.STATE k 2 s1 else s1)

/-! PLC_ROUTES (09 R321). -/

/-- The 48 bytes of a route entry (09 Table 09-8). -/
def routeBytes (s : State) (ph : Nat) (r : PlcRoute) (prim : Bool) (p : PlcPath) : List Byte :=
  let flags := (if prim then 1 else 2) + (if p.broken then 4 else 0)
  leB 8 r.title ++ leB 2 r.short ++ leB 1 flags ++ leB 1 p.hops.length ++ leB 2 p.cost
    ++ leB 4 ((s.beat.ticks - p.at_) / 8000) ++ ((List.range 14).map (fun k => leB 2 (p.hops.getD k 0xFFFF))).flatten
    ++ leB 2 ((linkAt s ph (p.hops.head?.getD r.short)).tx.seq % 16)

/-- The entries of a route table: each meter's primary path, then its alternate one. -/
def routeEntries (s : State) (ph : Nat) : List (List Byte) :=
  (phaseAt s ph).routes.flatMap (fun r =>
    (match r.primary with
      | some p => [routeBytes s ph r true p]
      | none => [])
    ++ (match r.alternate with
      | some p => [routeBytes s ph r false p]
      | none => []))

/-- PLC_ROUTES (09 R321). -/
def execPlcRoutes (h : Hdr) (p : List Byte) (s : State) : Host.Outcome State Fault Refusal :=
  .next (runCmd h p false (fun t =>
    let ph := byteAt p 0
    let start := leAt p 2 2
    if ph = 0 ∨ 3 < ph then .fail stOutOfRange 0
    else if 2047 < start then .fail stOutOfRange 16
    else
      let l := (routeEntries t (ph - 1)).drop start
      let next := if 170 < l.length then start + 170 else 0xFFFF
      .done (leB 2 (l.take 170).length ++ leB 2 next ++ zeros 12 ++ (l.take 170).flatten) t) s)

/-! Resets (09 R299, R322, R323). -/

/-- What FUNC_RESET of 0x21 and DEV_RESET discard (09 R323). -/
def plcFlush (s : State) : State :=
  { s with plc := { s.plc with phases := s.plc.phases.map (fun p =>
    { p with rx := none, txq := [], line := none, await := none, be := none, backoff := 0, aborts := 0, retryHold := none,
             suspended := none, recent := [] }) } }

/-- A phase starts in ZC_LOST with P nominal (09 R299). -/
def plcPhaseStart (ph : Nat) (s : State) : State :=
  if rdPh s P21.EN ph = 1 ∧ plcOn s = true then
    periodField ph (wrPh P21.STATE ph 3 (modPhase ph (fun p =>
      { p with period := 65536 * (1000000000 / (mainsHz s ph : Int)), cand := 0, fly := 0, advAt := none }) s))
  else wrPh P21.STATE ph 0 s

/-- Every phase starts (09 R299, R323). -/
def plcStart (s : State) : State := (List.range 3).foldl (fun t k => plcPhaseStart k t) s

/-- Every phase stops; STATE reads starting while a reset runs (09 R323). -/
def plcStop (s : State) : State :=
  (List.range 3).foldl (fun t k => wrPh P21.STATE k (if rdPh t P21.EN k = 1 ∧ plcOn t = true then 1 else 0) t)
    (plcFlush s)

/-- What a device reset leaves: class V state is lost; a power-on loses routes and maps as well (09 R322). -/
def plcRetain (powerOn : Bool) (s : State) : State :=
  let keepLink := fun (l : PlcLink) => ({ addr := l.addr, rx := l.rx, rxPrev := l.rxPrev, rxAt := l.rxAt, tx := l.tx } : PlcLink)
  let f := fun (p : PlcPhase) =>
    { p with inFc := [], links := if powerOn then [] else p.links.map keepLink,
             routes := if powerOn then [] else p.routes,
             held := if powerOn then p.held.map (fun x => (x.1, s.beat.ticks)) else p.held }
  let t := plcFlush s
  { t with plc := { t.plc with phases := t.plc.phases.map f }, tally := { t.tally with zc := [0, 0, 0] } }

end Sys2Proof.Machine
end

