-- ==== Sys2Proof/Machine/RadioSend.lean ====
section
/-! DEFINITION. Radio sending (08): RADIO_TRANSMIT and ENH_ACK_WAIT_EXPIRE. -/
namespace Sys2Proof.Machine

/-- The device may originate a flood: fewer than 4,096 in a span of SEEN_HOLD (08 R284). -/
def floodFree (s : State) : Bool :=
  decide ((s.radio.floodAt.filter (fun t => !passed s t (secBeats (rd s P20.SEEN_HOLD)))).length < 4096)

/-- A sleepy meter's acknowledgement window is open: 40 ms to 240 ms after the end of its frame (08 R268). -/
def inAckWindow (s : State) (x : RadTx) : Bool :=
  match x.cargo, x.ext.bind (neighOn s x.ch) with
  | .acks _ _ _, some n =>
    n.ackWin && decide (n.frameEnd + 40000000 ≤ slotNs s) && decide (slotNs s ≤ n.frameEnd + 240000000)
  | _, _ => false

/-- The sleepy meter of a frame listens (08 R257, R268, R273). -/
def listens (s : State) (x : RadTx) : Bool :=
  x.readyTo.any (fun t => decide (slotNs s ≤ t)) || inAckWindow s x

/-- A frame may go: its time has come, a sleepy meter is listening, a flood is within its limit, and a member channel
without its parent sends only MAC commands (08 R257, R268, R270, R273, R284). -/
def mayGoNow (s : State) (x : RadTx) : Bool :=
  decide (x.at_ ≤ s.beat.ticks) && (!x.indirect || listens s x) && (x.flood.isNone || floodFree s)
    && (x.cmd || [2, 3].contains (rdI s P20.STATE x.ch))

/-- The order of frames: class, campaign blocks behind the others of class 6 (08 R257; 10 R350). -/
def txRank (x : RadTx) : Nat :=
  2 * x.cls + (match x.cargo with
    | .block _ _ => if x.indirect then 0 else 1
    | _ => 0)

/-- The frame a channel sends next (08 R257). -/
def nextRadio (s : State) (ch : Nat) : Option RadTx :=
  let l := s.radio.txq.filter (fun x => x.ch == ch && mayGoNow s x)
  match (l.map txRank).min? with
  | some k => l.find? (fun x => txRank x == k)
  | none => none

/-- The payload of a queued frame: acknowledgements as they stand, the flood header of an origination in front (08 R268,
R284). -/
def radioBytes (s : State) (x : RadTx) : List Byte :=
  let p := match x.cargo with
    | .acks _ _ l => ackBytes l
    | _ => x.payload
  match x.flood with
  | some (ty, lim) => floodHeader ty lim (rdI s P20.DEPTH x.ch) s.radio.floodSeq (x.ext.getD 0) ++ p
  | none => p

/-- An origination takes the next FLOOD_SEQ and is put into the seen-cache (08 R282, R284). -/
def originate (x : RadTx) (s : State) : State :=
  match x.flood with
  | none => s
  | some _ =>
    let n := s.radio.floodSeq
    let live := s.radio.floodAt.filter (fun t => !passed s t (secBeats (rd s P20.SEEN_HOLD)))
    let s1 := { s with radio := { s.radio with floodSeq := (n + 1) % 65536, floodAt := live ++ [s.beat.ticks] } }
    (seenInsert Config.devExt n s1).getD (bump P20.SEEN_FULL s1)

/-- A transmission attempt of a frame failed: it is tried again up to MAX_RETRIES, then given up (08 R268). -/
def retryOrDrop (x : RadTx) (s : State) : State :=
  if x.tries ≤ rdI s P20.MAX_RETRIES x.ch then { s with radio := { s.radio with txq := x :: s.radio.txq } } else s

/-- The frame goes on air. -/
def goOnAir (x : RadTx) (psdu : Nat) (s : State) : State :=
  let t := slotNs s
  let y := { x with tries := x.tries + 1 }
  let o : Out := .radio x.ch x.cls (txLevel s x.ch) x.num x.dest x.cmd x.ackReq (nextFc s x.ch) (radioBytes s x)
  let s1 := originate x (airOut x.ch psdu t o s)
  noteSent x.cargo x.ext (if x.ackReq then modChan x.ch (fun c => { c with flight := some y }) s1 else s1)

/-- The exponents of the backoffs of an access: MIN_BE, one more each, up to MAX_BE (08 R259). -/
def backoffExp (s : State) (ch k : Nat) : Nat := min (rdI s P20.MIN_BE ch + k) (rdI s P20.MAX_BE ch)

/-- An access with these backoffs, in unit periods, can be: at most MAX_BACKOFFS after the first, each within its exponent;
one that found the channel busy has used them all (08 R259). -/
def accessOk (s : State) (ch : Nat) (a : Access) : Bool :=
  let most := rdI s P20.MAX_BACKOFFS ch + 1
  a.draws != [] && decide (a.draws.length ≤ most) && (a.clear || a.draws.length == most)
    && (a.draws.zip (List.range a.draws.length)).all (fun x => decide (x.1 < 2 ^ backoffExp s ch x.2))

/-- A frame fits into what is left of a coordinator's contention access period: 960 x 2^SO symbols from each multiple of
BI (08 R259). -/
def inCap (s : State) (ch psdu : Nat) : Bool :=
  rdI s P20.ROLE ch != 0 ||
    (let r : Int := symRate s ch
     let x := slotNs s * r % (960 * 2 ^ rdI s P20.BO ch * 1000000000 : Nat)
     decide (x + airtime s ch psdu * r ≤ (960 * 2 ^ rdI s P20.SO ch * 1000000000 : Nat)))

/-- The channels of the port that have a frame of a lower class to send now (08 R257). -/
def aheadOf (s : State) (ch cls : Nat) : Nat :=
  ((portChans s (radPort s ch)).filter (fun n => n != ch && radChanUp s n && (chanAt s n).flight.isNone
    && decide ((chanAt s n).txUntil ≤ slotNs s) && fcLeft s n
    && (nextRadio s n).any (fun x => decide (x.cls < cls)))).length

/-- RADIO_TRANSMIT: the first frame of the lowest class that may go starts, if the channel is not sending or waiting for
an Enh-Ack, no channel of the port is receiving, the port has turned, and PORT_TX_MAX leaves room beside the channels that
transmit and those of the port with a frame of a lower class. Class 4 starts at once; the others after CSMA-CA within the
contention access period by the access `a` (08 R250, R254, R257, R259). -/
def execRadioTransmit (ch : Fin 16) (psdu : Nat) (a : Access) (s : State) : Host.Outcome State Fault Refusal :=
  let k := ch.val
  let port := radPort s k
  .next (
    if radChanUp s k = false ∨ (chanAt s k).flight.isSome ∨ slotNs s < (chanAt s k).txUntil
      ∨ portReceiving s port = true ∨ turnedTx s port (slotNs s) = false ∨ fcLeft s k = false then s
    else match nextRadio s k with
      | none => s
      | some x =>
        let s1 := { s with radio := { s.radio with txq := s.radio.txq.erase x } }
        if rdI s P20.PORT_TX_MAX port ≤ transmitting s port (slotNs s) + aheadOf s k x.cls then s
        else if x.cls = 4 then goOnAir x psdu s1
        else if accessOk s k a = false ∨ inCap s k psdu = false then s
        else if a.clear then goOnAir x psdu s1
        else bumpCh P20.CCA_FAIL k (retryOrDrop { x with tries := x.tries + 1 } s1))

/-- ENH_ACK_WAIT_EXPIRE: no Enh-Ack in time (08 R268). -/
def execEnhAckWaitExpire (ch : Fin 16) (s : State) : Host.Outcome State Fault Refusal :=
  .next (match (chanAt s ch.val).flight with
    | none => s
    | some x => retryOrDrop x (modChan ch.val (fun c => { c with flight := none }) s))

end Sys2Proof.Machine
end

