-- ==== Sys2Proof/Machine/Settings.lean ====
section
/-! DEFINITION. Parameter pages as commands write and read them (02 R74 to R78), with what each field's own chapter adds
to a write: refusals and effects. -/
namespace Sys2Proof.Machine

/-! Refusals beside those of R75. -/

/-- The chip belongs to a pair (15 Table 15-1, R485). -/
def pairMember (s : State) : Bool := pairState s != 0 && pairState s != 7

/-- The fields of page 0x20 that may be written only while EN is 0 (08 R290). -/
def radioLocked : List Fld :=
  [P20.ROLE, P20.PORT, P20.MOD, P20.RATE, P20.SPACING, P20.CHAN_NUM, P20.CH0_KHZ, P20.PAN_ID, P20.BO, P20.SO, P20.NET_ID]

/-- The fields of a radio port, in the instance of its number (08 R290). -/
def portFields : List Fld := [P20.PORT_KHZ, P20.PORT_TX_MAX, P20.IQ_RATE]

/-- The fields of page 0x21 that may be written only while EN is 0 (09 R326). -/
def plcLocked : List Fld := [P21.MAINS_HZ, P21.BAUD, P21.KEYING, P21.COMMON_MAP, P21.PLC_KEY_SLOT]

/-- The fields that e_plan depends on and that may change while EN is 1 (09 R326). -/
def planFields : List Fld := [P21.INJ_LEVEL, P21.AFE_VFS, P21.ZLINE_MIN, P21.INJ_CEIL]

/-- The write leaves a field that it covers at 1. -/
def sets1 (s : State) (w : PWrite) (f : Fld) : Bool := touches w f && after s w f == 1

/-- LEGAL_UPD_MODE and SEAL_CAL may be set: SEAL_N asserted before commissioning (10 R364; 11 R381). -/
def sealMaySet (s : State) : Bool := rdB s P30.SEAL_STATE && !rdB s P03.LEGAL_COMMISSIONED

/-- The write is refused DENIED_STATE (08 R251, R290; 09 R326; 10 R364; 11 R381; 12 R428; 15 R485). -/
def deniedState (s : State) (w : PWrite) : Bool :=
  let i := w.inst
  match w.page with
  | 0x01 => pairMember s &&
      (touches w P01.ROLE || sets1 s w P01.RADIO_EN || sets1 s w P01.PLC_EN || sets1 s w P01.METRO_EN)
  | 0x20 => (rdI s P20.EN i == 1 && radioLocked.any (touches w)) ||
      (portFields.any (touches w) && !(portChans s i).isEmpty) ||
      (sets1 s w P20.EN && !radioEnableOk (writePage w s) i)
  | 0x21 => (rdI s P21.EN i == 1 && plcLocked.any (touches w)) ||
      (sets1 s w P21.EN && !plcEnableOk (writePage w s) (i - 1))
  | 0x30 => sets1 s w P30.SEAL_CAL && !sealMaySet s
  | 0x40 => sets1 s w P40.PLAIN_IMPORT && rd s P40.PLAIN_IMPORT == 0
  | 0x60 => sets1 s w P60.LEGAL_UPD_MODE && !sealMaySet s
  | _ => false

/-- The lowest bit position of a write that would make e_plan exceed INJ_CEIL on an enabled phase (09 R326). -/
def planAt (s : State) (w : PWrite) : Option Nat :=
  let t := writePage w s
  let ph := w.inst - 1
  if w.page = 0x21 ∧ rdI s P21.EN w.inst = 1 ∧ injOk (rdPh t P21.AFE_VFS ph) (rdPh t P21.INJ_LEVEL ph)
      (rdPh t P21.INJ_CEIL ph) (rdPh t P21.ZLINE_MIN ph) (mainsHz t ph) = false then
    ((planFields.filter (touches w)).map Fld.lo).min?
  else none

/-- The write covers LEGAL_KEY and no other field that can be written (11 R377). -/
def keyAlone (w : PWrite) : Bool :=
  w.page == 0x30 && (pageFields w.page).all (fun f => !(writable f && touches w f) || f == P30.LEGAL_KEY)

/-- The authority block of a SET_PARAM counts; the first key is installed under itself while SEAL_N is asserted (02 R69; 11
R377). -/
def authGood (s : State) (w : PWrite) (p : List Byte) (sigOk : Bool) : Bool :=
  p.length == 588 &&
    (if rdB s P30.LEGAL_KEY_SET then authOk s (authCount p) sigOk
     else keyAlone w && rdB s P30.SEAL_STATE && sigOk && decide (authFloor s < authCount p))

/-- The checks of a write in the order of R75. `auth`: a valid legal authority block is present. -/
def checkWrite (s : State) (w : PWrite) (auth : Bool) : Option (Nat × Nat) :=
  match partialAt w with
  | some b => some (stBadPayload, b)
  | none =>
    if needsLegal w ∧ auth = false then some (stDeniedLegal, 0)
    else (((rangeAt s w).toList ++ (planAt s w).toList).min?).map (fun b => (stOutOfRange, b))

/-! Effects. -/

/-- A channel stops, keeping its neighbours and what it has queued (08 R290). -/
def radChanStop (ch : Nat) (s : State) : State :=
  let c := chanAt s ch
  let back := c.flight.toList
  wrI P20.STATE ch 0 (modChan ch (fun x => { x with rx := none, flight := none })
    { s with radio := { s.radio with txq := back ++ s.radio.txq } })

/-- A phase stops, keeping its joined meters, its routes and what it has queued (09 R326). -/
def plcPhaseStop (ph : Nat) (s : State) : State :=
  let p := phaseAt s ph
  let s1 := match p.line with
    | some (f, _) => requeueFront ph f s
    | none => s
  let s2 := match p.await with
    | some f => requeueFront ph f s1
    | none => s1
  wrPh P21.STATE ph 0 (modPhase ph (fun q => { q with rx := none, line := none, await := none }) s2)

/-- Subsystems powered on or off, and the cap raised to the new role minimum (00 R3; 01 R21). -/
def powerSubsystems (s t : State) : State :=
  let t1 := if radioOn t = radioOn s then t else if radioOn t then radioStart t else radioStop t
  let t2 := if plcOn t1 = plcOn s then t1 else if plcOn t1 then plcStart t1 else plcStop t1
  let t3 := if metroOn t2 = true ∧ metroOn s = false then startBoth (nowL t2) false t2 else t2
  if baseLoads s < baseLoads t3 then raiseCap t3 else t3

/-- The legal log records of a write under legal authority (11 Table 11-3). -/
def legalRecords (w : PWrite) (s t : State) : State :=
  let key := fun (x : State) => crc32c (leB 64 (rd x P30.LEGAL_KEY))
  let special := [P30.LEGAL_KEY, P30.SEAL_CAL, P60.LEGAL_UPD_MODE]
  let t1 := if touches w P30.LEGAL_KEY && w.page == 0x30 then
    legalLog 0x0A 0 (key s) (key t) (wr P30.LEGAL_KEY_SET 1 t) else t
  let t2 := if (w.page == 0x30 && touches w P30.SEAL_CAL) || (w.page == 0x60 && touches w P60.LEGAL_UPD_MODE) then
    legalLog 0x08 0 0 0 t1 else t1
  let rest := (pageFields w.page).filter (fun f => f.acc == .rwl && touches w f && !special.contains f)
  match (rest.map Fld.lo).min? with
  | some b => legalLog 0x0B b 0 0 t2
  | none => t2

/-- The write changes one of these fields. -/
def changes (s : State) (w : PWrite) (l : List Fld) : Bool := l.any (fun f => touches w f && after s w f != rdI s f w.inst)

/-- What must happen before fields of the legal pair change: due work up to now, and the split of the demand interval (11
R388, R391, R405). -/
def beforeWrite (w : PWrite) (s : State) : State :=
  if w.page = 0x30 ∧ changes s w [P30.DEMAND_METHOD, P30.DEMAND_PERIOD, P30.DEMAND_SUBS] = true then
    (if metroOn s then demandClose (nowL s) true false (catchUpNow false s) else s)
  else if w.page = 0x31 then catchUpNow false s
  else s

/-- The fields of local time: TZ_MIN and the DST fields (11 R405). -/
def localFields : List Fld :=
  [P31.TZ_MIN, P31.DST_DELTA, P31.DST_START_MONTH, P31.DST_START_WEEK, P31.DST_START_DAY, P31.DST_START_HOUR,
   P31.DST_END_MONTH, P31.DST_END_WEEK, P31.DST_END_DAY, P31.DST_END_HOUR]

/-- What follows a write of calendar fields: local time changes as at a DST change; a changed schedule runs no closure of the
past (11 R395, R405). -/
def calendarWrite (w : PWrite) (s t : State) : State :=
  let now := nowL s
  let t1 := if changes s w [P31.CLOSE_DAY, P31.CLOSE_HOUR, P31.CLOSE_MIN] then
    modCore (fun c => { c with schedFrom := now }) t else t
  if changes s w localFields then localChange now (localAt s now) t1 else t1

/-- Counters whose configuration a write of page 0x52 gives are set as COUNTER_CONFIG sets them (16 R515). -/
def counterWrite (w : PWrite) (s t : State) : State :=
  (List.range 8).foldl (fun u n =>
    if touches w (cfgFld n) then setPc n (after s w (cfgFld n)) false (wr (cfgFld n) (rd s (cfgFld n)) u) else u) t

/-- What follows a write, from the state before it to the state after it. -/
def afterWrite (w : PWrite) (s t : State) : State :=
  let i := w.inst
  match w.page with
  | 0x01 => powerSubsystems s t
  | 0x20 => if rdI s P20.EN i = rdI t P20.EN i then t else if rdI t P20.EN i = 1 then radChanStart i t else radChanStop i t
  | 0x21 => if rdI s P21.EN i = rdI t P21.EN i then t
      else if rdI t P21.EN i = 1 then plcPhaseStart (i - 1) t else plcPhaseStop (i - 1) t
  | 0x31 => calendarWrite w s t
  | 0x32 => driveOutputs t
  | 0x52 => counterWrite w s t
  | _ => t

/-- A write applied at a beat boundary, with everything it leads to (02 R75, R76). Its values were checked when it was
accepted and are not checked again: a POWER_CAP accepted under one role minimum stands although a subsystem was powered
since (01 R21; log 113, DESIGN CHOICE). -/
def applyWrite (w : PWrite) (s0 : State) : State :=
  let s := beforeWrite w s0
  let t := afterWrite w s (writePage w s)
  if needsLegal w then legalRecords w s t else t

/-- A write acts under a legal authority block: it names a field that needs one, and the payload carries it (02 R69). -/
def underAuth (w : PWrite) (p : List Byte) : Bool := needsLegal w && p.length == 588

/-- The effect of SET_PARAM; the AUTH_COUNT it acted under is stored with it (02 R69). -/
def effSetParam (e : Eff) (s : State) : State :=
  let w := parseWrite e.data
  let t := applyWrite w s
  if underAuth w e.data then wr P30.AUTH_COUNT (authCount e.data) t else t

/-- The effect of RESTORE_DEFAULTS. -/
def effRestoreDefaults (e : Eff) (s : State) : State := applyWrite (defaultsWrite (byteAt e.data 0) (byteAt e.data 1)) s

/-! Commands. -/

/-- SET_PARAM's checks: page and instance, R75, then what the field's own chapter refuses. A write of a class N or L field is
accepted work, any other is done at the boundary (02 R63, R75, R76; 06 Table 06-2). -/
def setParamBody (h : Hdr) (p : List Byte) (sigOk : Bool) (s : State) : Ans :=
  let w := parseWrite p
  match pageGate s w.page w.inst with
  | some x => .fail x.1 x.2
  | none => match checkWrite s w (authGood s w p sigOk) with
    | some x => .fail x.1 x.2
    | none =>
      let eff : Eff := { cmd := some (.setParam h p sigOk), args := if underAuth w p then [authCount p] else [] }
      if deniedState s w then .fail stDeniedState 0
      else if writesNL w then
        .accept [] (p.take 516 ++ (if underAuth w p then leB 8 (authCount p) else [])) eff s
      else .doneAtBeat eff s

/-- A write of 0 to HOLD_C or HOLD_DIV and of nothing else, which the host may make at any time (01 R32). -/
def clearsNode (w : PWrite) : Bool :=
  let l := (pageFields w.page).filter (fun f => writable f && touches w f)
  w.page == 0x04 && !l.isEmpty && l.all (fun f => (f == P04.HOLD_C || f == P04.HOLD_DIV) && bitsAt w.data f.lo f.width == 0)

/-- A command of the SET_PARAM kind executed. -/
def paramCmd (h : Hdr) (p : List Byte) (sigOk : Bool) (s : State) : State :=
  let w := parseWrite p
  let acc := writesNL w && !(clearsNode w && running s && !storeFull s)
  runCmd h p acc (setParamBody h p sigOk) s

/-- SET_PARAM (02 R75). -/
def execSetParam (h : Hdr) (p : List Byte) (sigOk : Bool) (s : State) : Host.Outcome State Fault Refusal :=
  .next (paramCmd h p sigOk s)

/-- A read of a page: the page and instance are checked, then its bytes are given (02 R74, R76, R77). -/
def pageRead (p : List Byte) (bytes : State → Nat → Nat → Nat) (s : State) : Ans :=
  let page := byteAt p 0
  let i := byteAt p 1
  match pageGate s page i with
  | some x => .fail x.1 x.2
  | none => .done (leB 256 (bytes s page i)) s

/-- GET_PARAM (02 R76). -/
def execGetParam (h : Hdr) (p : List Byte) (s : State) : Host.Outcome State Fault Refusal :=
  .next (runCmd h p false (pageRead p pageValue) s)

/-- GET_PARAM_DEFAULTS (02 R77). -/
def execGetParamDefaults (h : Hdr) (p : List Byte) (s : State) : Host.Outcome State Fault Refusal :=
  .next (runCmd h p false (pageRead p (fun _ page _ => pageDefaults page)) s)

/-- RESTORE_DEFAULTS: the reset value into every RW field, under the refusals of the fields' chapters (02 R77). -/
def restoreBody (h : Hdr) (p : List Byte) (s : State) : Ans :=
  let w := defaultsWrite (byteAt p 0) (byteAt p 1)
  let eff : Eff := { cmd := some (.restoreDefaults h p) }
  match pageGate s w.page w.inst with
  | some x => .fail x.1 x.2
  | none =>
    if deniedState s w then .fail stDeniedState 0
    else if writesNL w then .accept [] p eff s
    else .doneAtBeat eff s

/-- RESTORE_DEFAULTS (02 R77). -/
def execRestoreDefaults (h : Hdr) (p : List Byte) (s : State) : Host.Outcome State Fault Refusal :=
  .next (runCmd h p (writesNL (defaultsWrite (byteAt p 0) (byteAt p 1))) (restoreBody h p) s)

/-! Writes of single fields: each is the SET_PARAM that covers the field and nothing else. -/

/-- The payload of a write under an authority block; the signature's bytes are 0 in the model. -/
def authPay (w : PWrite) (a : Option AuthBlk) : List Byte :=
  w.payload ++ (match a with
    | some b => leB 8 b.count ++ zeros 64
    | none => [])

/-- The block's signature verifies. -/
def authSig (a : Option AuthBlk) : Bool := (a.map AuthBlk.sigOk).getD false

/-- ROLE (00 R2): stored, in effect from the next device reset on. -/
def execRoleWrite (h : Hdr) (v : Nat) (s : State) : Host.Outcome State Fault Refusal :=
  .next (paramCmd h (fieldWrite P01.ROLE 0 v).payload false s)

/-- RADIO_EN (00 R3; 01 R21). -/
def execRadioEnWrite (h : Hdr) (v : Bool) (s : State) : Host.Outcome State Fault Refusal :=
  .next (paramCmd h (fieldWrite P01.RADIO_EN 0 (b2n v)).payload false s)

/-- PLC_EN (00 R3; 01 R21). -/
def execPlcEnWrite (h : Hdr) (v : Bool) (s : State) : Host.Outcome State Fault Refusal :=
  .next (paramCmd h (fieldWrite P01.PLC_EN 0 (b2n v)).payload false s)

/-- METRO_EN (00 R3; 01 R21). -/
def execMetroEnWrite (h : Hdr) (v : Bool) (s : State) : Host.Outcome State Fault Refusal :=
  .next (paramCmd h (fieldWrite P01.METRO_EN 0 (b2n v)).payload false s)

/-- POWER_CAP (01 R21). -/
def execPowerCapWrite (h : Hdr) (v : Nat) (s : State) : Host.Outcome State Fault Refusal :=
  .next (paramCmd h (fieldWrite P04.POWER_CAP 0 v).payload false s)

/-- HOLD_C (01 R31, R32). -/
def execHoldCWrite (h : Hdr) (v : Nat) (s : State) : Host.Outcome State Fault Refusal :=
  .next (paramCmd h (fieldWrite P04.HOLD_C 0 v).payload false s)

/-- HOLD_DIV (01 R32). -/
def execHoldDivWrite (h : Hdr) (v : Nat) (s : State) : Host.Outcome State Fault Refusal :=
  .next (paramCmd h (fieldWrite P04.HOLD_DIV 0 v).payload false s)

/-- C_MEAS cleared (01 R34). -/
def execCMeasClear (h : Hdr) (s : State) : Host.Outcome State Fault Refusal :=
  .next (paramCmd h (fieldWrite P04.C_MEAS 0 0).payload false s)

/-- ETHERTYPE (03 R123). -/
def execEthertypeWrite (h : Hdr) (v : Nat) (s : State) : Host.Outcome State Fault Refusal :=
  .next (paramCmd h (fieldWrite P02.ETHERTYPE 0 v).payload false s)

/-- EN of a radio channel (08 R251, R290). -/
def execRadioChannelEnWrite (h : Hdr) (ch : Fin 16) (v : Bool) (s : State) : Host.Outcome State Fault Refusal :=
  .next (paramCmd h (fieldWrite P20.EN ch.val (b2n v)).payload false s)

/-- EN of a powerline phase (09 R326). -/
def execPlcPhaseEnWrite (h : Hdr) (ph : Fin 3) (v : Bool) (s : State) : Host.Outcome State Fault Refusal :=
  .next (paramCmd h (fieldWrite P21.EN (ph.val + 1) (b2n v)).payload false s)

/-- LEGAL_UPD_MODE (10 R364). -/
def execLegalUpdModeWrite (h : Hdr) (v : Bool) (a : Option AuthBlk) (s : State) : Host.Outcome State Fault Refusal :=
  .next (paramCmd h (authPay (fieldWrite P60.LEGAL_UPD_MODE 0 (b2n v)) a) (authSig a) s)

/-- SEAL_CAL (11 R381). -/
def execSealCalWrite (h : Hdr) (v : Bool) (a : Option AuthBlk) (s : State) : Host.Outcome State Fault Refusal :=
  .next (paramCmd h (authPay (fieldWrite P30.SEAL_CAL 0 (b2n v)) a) (authSig a) s)

/-- LEGAL_KEY (11 R377). -/
def execLegalKeyWrite (h : Hdr) (v : Nat) (a : Option AuthBlk) (s : State) : Host.Outcome State Fault Refusal :=
  .next (paramCmd h (authPay (fieldWrite P30.LEGAL_KEY 0 v) a) (authSig a) s)

/-- PLAIN_IMPORT (12 R428). -/
def execPlainImportWrite (h : Hdr) (v : Bool) (s : State) : Host.Outcome State Fault Refusal :=
  .next (paramCmd h (fieldWrite P40.PLAIN_IMPORT 0 (b2n v)).payload false s)

/-- TAMPER_SEEN written 1 (12 R424). -/
def execTamperSeenClear (h : Hdr) (s : State) : Host.Outcome State Fault Refusal :=
  .next (paramCmd h (fieldWrite P40.TAMPER_SEEN 0 1).payload false s)

/-- WRAP bits written 1 (16 R514). -/
def execWrapClear (h : Hdr) (mask : Nat) (s : State) : Host.Outcome State Fault Refusal :=
  .next (paramCmd h (fieldWrite P52.WRAP 0 mask).payload false s)

/-- PROFILE_PERIOD (11 R387). -/
def execProfilePeriodWrite (h : Hdr) (v : Nat) (a : Option AuthBlk) (s : State) : Host.Outcome State Fault Refusal :=
  .next (paramCmd h (authPay (fieldWrite P30.PROFILE_PERIOD 0 v) a) (authSig a) s)

/-- DEMAND_METHOD, DEMAND_PERIOD and DEMAND_SUBS (11 R388). -/
def execDemandSettingWrite (h : Hdr) (method period subs : Nat) (a : Option AuthBlk) (s : State) :
    Host.Outcome State Fault Refusal :=
  let w := ((fieldWrite P30.DEMAND_METHOD 0 method).also (fieldWrite P30.DEMAND_PERIOD 0 period)).also
    (fieldWrite P30.DEMAND_SUBS 0 subs)
  .next (paramCmd h (authPay w a) (authSig a) s)

/-- The write of TZ_MIN and the DST fields. -/
def tzWrite (z : TzDst) : PWrite :=
  let l := [(P31.DST_DELTA, z.delta), (P31.DST_START_MONTH, z.startMonth), (P31.DST_START_WEEK, z.startWeek),
    (P31.DST_START_DAY, z.startDay), (P31.DST_START_HOUR, z.startHour), (P31.DST_END_MONTH, z.endMonth),
    (P31.DST_END_WEEK, z.endWeek), (P31.DST_END_DAY, z.endDay), (P31.DST_END_HOUR, z.endHour)]
  (l.map (fun x => fieldWrite x.1 0 x.2)).foldl PWrite.also (fieldWrite P31.TZ_MIN 0 (ofS 16 z.tzMin))

/-- TZ_MIN and the DST fields (11 R405). -/
def execTzDstWrite (h : Hdr) (z : TzDst) (a : Option AuthBlk) (s : State) : Host.Outcome State Fault Refusal :=
  .next (paramCmd h (authPay (tzWrite z) a) (authSig a) s)

end Sys2Proof.Machine
end

