-- ==== Sys2Proof/Machine/Effects.lean ====
section
/-! DEFINITION. The effects of host commands, applied at a beat boundary (02 R62, R76). -/
namespace Sys2Proof.Machine

/-- A retirement applied: the record, then what radio, powerline, downlink and campaigns hold of the meter (04 R133; 08
R262; 09 R315; 10 R367). -/
def effRetireMeter (e : Eff) (s : State) : State :=
  let mix := e.args.getD 0 0
  let title := titleOf s mix
  campRetire mix (dlRetire mix (plcRetire title (radioRetire title (retireRecord mix s))))

/-- An enrolment applied; items sealed under a raised key generation are sealed again (04 R132; 10 R367). -/
def effEnrol (e : Eff) (s : State) : State :=
  let mix := e.args.getD 0 0
  let t := effEnrolMeter e s
  if (meterAt s mix).isSome then dlReseal mix t else t

/-- The effect of a command with the values fixed when it was accepted. A command whose effect is in its own entries, or
that stood when it was accepted, has none here. -/
def applyEffect (e : Eff) (s : State) : State :=
  match e.cmd with
  | some (.openSession h _) => effOpenSession h s
  | some (.closeSession h _) => effCloseSession h s
  | some (.setLegalTime _ _ _) => effSetLegalTime e s
  | some (.setSlotTime _ _) => effSetSlotTime e s
  | some (.setParam _ _ _) => effSetParam e s
  | some (.restoreDefaults _ _) => effRestoreDefaults e s
  | some (.enrolMeter _ _) => effEnrol e s
  | some (.retireMeter _ _) => effRetireMeter e s
  | some (.loadProfileTemplate _ _) => effLoadProfileTemplate e s
  | some (.streamClose _ _) => effStreamClose e s
  | some (.setRules _ _) => effSetRules e s
  | some (.exportOpen _ _) => effExportOpen e s
  | some (.exportAck _ _) => effExportAck e s
  | some (.exportClose _ _) => effExportClose e s
  | some (.balanceGroupSet _ _) => effBalanceGroupSet e s
  | some (.scribeCampaign _ _) => effScribeCampaign e s
  | some (.keyImport _ _ _) => effKeyImport e s
  | some (.keyGenerate _ _) => effFill e s
  | some (.keyAgree _ _ _) => effFill e s
  | some (.keyZeroise _ _) => effKeyZeroise e s
  | some (.imageBegin _ _) => effImageBegin e s
  | some (.imageCommit _ _ _) => effImageCommit e s
  | some (.imageActivate _ _) => effImageActivate e s
  | some (.counterConfig _ _) => effCounterConfig e s
  | some (.pair _ _ _) => effPair s
  | some (.unpair _ _) => effUnpair s
  | some (.resolveDivergence _ _) => effResolveDivergence e s
  | some (.promote _ _) => effPromote s
  | some (.calendarLoad _ _ _) => effCalendarLoad e s
  | some (.calendarActivate _ _ _) => effCalendarActivate e s
  | some (.calibrate _ _ _) => effCalibrate e s
  | some (.billingClose _ _ _) => effBillingClose e s
  | some (.displayList _ _) => effDisplayList e s
  | some (.outputControl _ _) => effOutputControl e s
  | _ => s

/-- A DONE write whose earlier writes of the same page have all been applied or have ended (02 R52). -/
def mayApply (s : State) (d : DueDone) : Bool :=
  let left := (pendingEffs s).filterMap writerOf
  d.after.all (fun h => !left.contains h)

/-- The reply data of what is done at a boundary: EVENT_READ shows the recorder as the boundary `s` found it, COUNTER_READ the
counters at its turn `t`; a write has none (16 R510, R516, R520). -/
def dataDone (e : Eff) (s t : State) : List Byte :=
  match e.cmd with
  | some (.eventRead _ p) => eventReadData p s
  | some (.counterRead _ _) => counterReadData t
  | _ => []

/-- Writes and captures that are done at this boundary: effect and reply together; a write waits for the earlier ones of its
page (02 R52, R62, R76). -/
def applyDone (s : State) : State :=
  (s.cmd.dueDone.filter (mayApply s)).foldl (fun t d => finish d.hdr d.eff.data stDone 0 (dataDone d.eff s t) (applyEffect d.eff t))
    { s with cmd := { s.cmd with dueDone := s.cmd.dueDone.filter (fun d => !mayApply s d) } }

/-- The effects of accepted commands whose replies have been released, in order, without the writes that wait for them (02
R76). -/
def applyDue (s : State) : State :=
  s.cmd.due.foldl (fun t e => applyEffect e t) { s with cmd := { s.cmd with due := [] } }

/-- The writes of a boundary in admission order: those that wait for none, then each released effect, followed by the
writes that waited for it (02 R52, R62, R76). -/
def applyWrites (s : State) : State :=
  s.cmd.due.foldl (fun t e => applyDone (applyEffect e { t with cmd := { t.cmd with due := t.cmd.due.drop 1 } }))
    (applyDone s)

end Sys2Proof.Machine
end

