-- ==== Sys2Proof/Machine/Discards.lean ====
section
/-! DEFINITION. What resets take away of work that is not accepted (02 R82; 04 R161; 05 R188; 06 R217; 10 R366; 17 R526):
commands that end ABORTED, marks of entries that are gone, and readings and frames. -/
namespace Sys2Proof.Machine

/-! Commands. -/

/-- The COMMAND entry of a command lies in a sealed group whose effects are not released. -/
def sealedCmd (s : State) (h : Hdr) : Bool :=
  ((s.ledger.groups.filter (fun g => !g.released)).map Group.entries).flatten.any (isCmdOf [h])

/-- Entries without the COMMAND entries of some commands and the entries that follow these in their groups; `skip`
counts the slots of followers still to be taken out (06 after Table 06-2). -/
def cutCmds (dead : Hdr → Bool) : Nat → List Entry → List Entry
  | _, [] => []
  | skip, e :: l =>
    if 0 < skip then cutCmds dead (skip - entrySlots e) l
    else match e.act with
      | .command h _ _ _ _ _ => if dead h then cutCmds dead e.more l else e :: cutCmds dead 0 l
      | _ => e :: cutCmds dead 0 l

/-- The entries of no sealed group without those of some commands. -/
def cutUnsealed (dead : Hdr → Bool) (s : State) : State :=
  let o := cutCmds dead 0 s.ledger.openE
  { s with ledger := { s.ledger with openE := o, openSlots := slotsOf s o,
                                     waiting := cutCmds dead 0 s.ledger.waiting,
                                     toSeal := (s.ledger.toSeal.map (cutCmds dead 0)).filter
                                       (fun l => !l.isEmpty) } }

/-- The key records of some commands give way to the ones they replaced (12 R419, R426). -/
def undoFillsOf (dead : Hdr → Bool) (s : State) : State :=
  let keep := s.keys.replaced.filter (fun x => !dead x.2.1)
  if keep.length = s.keys.replaced.length then s
  else
    let t := undoFills (fun h => !dead h) s
    { t with keys := { t.keys with replaced := keep } }

/-- Open commands that meet `p` end ABORTED, with their entries, writes that wait for a boundary and self-tests; those
whose COMMAND entry is sealed are left to acceptance or to replay (02 Table 02-10; 06 Table 06-8). -/
def abortCmds (p : Hdr → Bool) (s : State) : State :=
  let gone := s.cmd.openC.filter (fun o => p o.hdr && !sealedCmd s o.hdr)
  let dead := fun (h : Hdr) => gone.any (fun o => o.hdr == h)
  let test := match s.ctr.selfTest with
    | some h => if dead h then none else some h
    | none => none
  let work := fun (i : SettItem) => match i.work with
    | .selfTest h => dead h
    | _ => false
  let c := cutUnsealed dead s
  let edits := (unsealed s).filter (fun e => isEdit e && !(unsealed c).contains e)
  let s1 := undoFillsOf dead (rebuildTails (chansOf (edits.map (keyOfEntry s))) c)
  let s2 := dropItems work { s1 with
    cmd := { s1.cmd with dueDone := s1.cmd.dueDone.filter (fun d => !dead d.hdr) }
    ctr := { s1.ctr with selfTest := test } }
  gone.foldl (fun t o => finish o.hdr o.data stAborted 0 [] t) s2

/-! Marks of entries that are gone (10 R328, R346, R366). -/

/-- An unaccepted DOWNLINK entry of an item or a push with a subkind exists. -/
def hasDl (l : List Entry) (no sub : Nat) : Bool :=
  l.any (fun e => match e.act with
    | .dl n k _ => n == no && k == sub
    | _ => false)

/-- An unaccepted CAMPAIGN_STEP entry CREATED of a campaign exists. -/
def hasCreated (l : List Entry) (no : Nat) : Bool :=
  l.any (fun e => match e.act with
    | .step n => n == no && byteAt e.head 0 == 1
    | _ => false)

/-- An item whose posted transition is gone stands where it stood; one that was being sent is sealed anew. -/
def fixItem (l : List Entry) (i : DlItem) : DlItem :=
  if i.posted = 0 ∨ hasDl l i.no i.posted = true then i
  else if i.posted = 2 ∧ i.st = 1 then { i with posted := 0, head := [], sealed_ := [] }
  else { i with posted := 0 }

/-- Items, pushes and campaigns whose first entry is gone were never created, and a posted transition without its entry
is none; the downlink counters of frames that are sealed anew are given back (10 R331, R366). -/
def fixMarks (s : State) : State :=
  let l := unreleased s
  let items := s.dl.items.filter (fun i => i.st != 0 || hasDl l i.no 1)
  let back := items.filter (fun i => i.posted == 2 && i.st ≤ 1 && !hasDl l i.no 2)
  let dlc := back.foldl (fun d i => assocMod i.mix i.dlc (fun n => min n i.dlc) d) s.dl.dlc
  dlCount (fwCampFields { s with dl := { s.dl with
    items := items.map (fixItem l), dlc := dlc,
    pushes := s.dl.pushes.filter (fun x => x.live || hasDl l x.no 7),
    camps := s.dl.camps.filter (fun c => c.st != 0 || hasCreated l c.no) } })

/-! Results of Scribe campaigns (07 R243, R246). -/

/-- An entry is the PHASE entry of a campaign's meter. -/
def isPhase (no mix : Nat) (e : Entry) : Bool :=
  e.kind == 7 && byteAt e.head 0 == 3 && leAt e.head 10 4 == no && leAt e.head 3 3 % 2 ^ 20 == mix

/-- A meter whose PHASE entry is gone is evaluated again. -/
def dropResults (gone : List Entry) (s : State) : State :=
  let fix := fun (c : ScribeCamp) =>
    let rs := c.results.filter (fun r => !gone.any (isPhase c.no r.mix))
    if rs.length = c.results.length then c else { c with results := rs, st := if c.st = 3 then 2 else c.st }
  campFields { s with tally := { s.tally with campaigns := s.tally.campaigns.map fix } }

/-! Readings and frames. -/

/-- The COUNTER entry of a frame lies in a sealed group that is not released. -/
def counterSealed (s : State) (id : Nat) : Bool :=
  ((s.ledger.groups.filter (fun g => !g.released)).map Group.entries).flatten.any (fun e => match e.act with
    | .counter i _ _ => i == id
    | _ => false)

/-- Every reading that is in no sealed group, every item that waits and every held batch part is discarded; slots revert,
tails are rebuilt, and batches whose BATCH_CLOSE is not sealed are abandoned (04 R161; 05 R188). -/
def discardInfeed (s : State) : State :=
  let s1 := discardWork (fun _ => true) (fun e => !isEdit e) (abandonAll stAborted 0 s)
  let slow := fun (i : SettItem) => match i.work with
    | .slow _ => true
    | _ => false
  let s2 := dropItems slow (killFrames (fun f => !counterSealed s1 f.id) s1)
  { s2 with infeed := { s2.infeed with jobs := [], slowQ := [], handed := [],
                                       batches := s2.infeed.batches.filter (fun b => b.st != 1) } }

/-- Everything of no sealed group is dropped (06 Table 06-8). -/
def dropUnsealed (s : State) : State :=
  let gone := unsealed s
  let s1 := { s with ledger := { s.ledger with openE := [], openSlots := 0, resGroup := false, beatCtl := 0, waiting := [], toSeal := [],
                                               carry := none,
                                               rewriting := [] } }
  dropResults gone s1

end Sys2Proof.Machine
end

