-- ==== Sys2Proof/Machine/Resets.lean ====
section
/-! DEFINITION. Device resets and power-on resets (17 R523 to R526, R534, R537; 00 Table 00-4), and the commands and events
that start them (02 R81; 10 R361; 14 R467; 17 R525). -/
namespace Sys2Proof.Machine

/-! Parameter pages (00 Table 00-4; 17 R526, R537). -/

/-- A field keeps its value: class V is lost, but for what a device reset leaves running (link, legal pair, outputs, debug,
and STORE_LOST by 12 R420) and the event sequence; class W is lost at a power-on reset. Class B is decided when the battery
domain is read (17 R532). -/
def survives (power : Bool) (f : Fld) : Bool :=
  match f.cls with
  | .n => true
  | .l => true
  | .b => true
  | .w => !power
  | .v => f == P51.NEXT_SEQ ||
      (!power && ([0x02, 0x30, 0x31].contains f.page || f == P32.OUT_STATE || f == P40.DEBUG_ACTIVE || f == P40.STORE_LOST))

/-- The pages after a reset; ROLE takes effect (00 R2). -/
def resetRegs (power : Bool) (s : State) : State :=
  let keep := fun (x : Nat × Nat) => match fieldOfKey x.1 with
    | some f => survives power f
    | none => false
  let t := { s with regs := s.regs.filter keep }
  wr P01.ROLE_ACTIVE (rd t P01.ROLE) t

/-! Working state. -/

/-- The counters of a meter's record restart from 0; the ledger holds neither TAMPER_AT nor AUTH_HOUR, so a reset leaves them
(05 R165; DESIGN CHOICE, log 111). -/
def resetMeter (m : Meter) : Meter :=
  { m with authFails := 0, spikeCount := 0, rolloverCount := 0, nonmonoCount := 0, estCount := 0 }

/-- A port's counters after a reset: those of class V are 0; the times down are counted since power-on, which is the
model's reading of Table 03-5's word (03 R98; log 114, DEDUCED). -/
def resetCounts (x : PortState) : PortState :=
  { x with sent := 0, recv := 0, retrans := 0, fcsErr := 0, delayRej := 0, pauses := 0, etherDrops := 0, holdDrops := 0 }

/-- What both resets do to the working state: beat, Den, Sett and counters start anew; Plumb is UNLOCKED, and legal and slot
time run from the battery domain until it locks again (03 Table 03-8, R119; 17 R526). -/
def resetCore (s : State) : State :=
  let lt := legalNs s
  let st := slotNs s
  let now := s.beat.ticks
  let replayed := match s.plumb.legalDue with
    | some x => some x
    | none => s.plumb.legalReplayed
  { s with
    beat := { ticks := now }
    chain := { s.chain with u := resetCounts s.chain.u, d := resetCounts s.chain.d, fwdDrops := 0 }
    den := {}
    sett := {}
    ctr := {}
    plumb := { startAt := now, lastSync := now, legalReplayed := replayed, slotDue := s.plumb.slotDue }
    batt := { s.batt with legal := lt, slot := st }
    grade := { s.grade with queue := [], avail := 0, suspect := false }
    infeed := { s.infeed with meters := s.infeed.meters.map resetMeter, malformed := 0, titleLogAt := none,
                              tokens := rd s P10.SLOW_BURST, tokenFrac := 0, rr := 31, frames := s.infeed.frames.map (fun f => { f with ackReq := false }) }
    ftl := { s.ftl with gcPosted := [] } }

/-- Memory, streams, lanes and key slots after a reset; a power-on reset trains DRAM anew, so that poison and retired
pages are gone (12 R426; 14 R467, R479). -/
def resetMemory (power : Bool) (s : State) : State :=
  let m : MemSt := if power then {} else { poisoned := s.memory.poisoned, retired := s.memory.retired }
  clearLanes { s with mem := [], memory := m, keys := { s.keys with slots := [] } }

/-- Radio, powerline, downlink and campaigns after a reset: what was on its way is discarded (08 R286, R287; 09 R322, R323;
10 R366). -/
def resetMedia (power : Bool) (s : State) : State :=
  let t := plcStop (plcRetain power (radioStop (radioRetain power s)))
  { t with dl := { t.dl with bootAt := none, runAt := none, resetNowAt := none,
                             camps := t.dl.camps.map (fun c => { c with sending := false, lastBlock := none }) } }

/-- A session after a reset: commands in its reorder buffer are discarded (02 R51, Table 02-10). -/
def sessAfterReset (x : Sess) : Sess := { x with early := [] }

/-- The commands in the reorder buffers of all sessions: a reset discards and counts them (02 R51). -/
def earlyCount (s : State) : Nat := (s.cmd.sess.map (fun x => x.early.length)).sum

/-- The recorder and the command counters after a reset: the ring and its sequence stay (16 R519). -/
def resetEvents (s : State) : State :=
  { s with ev := { ring := s.ev.ring, pend := s.ev.pend, pendAt := s.beat.ticks, hourPart := s.ev.hourPart }
           cmd := { s.cmd with noticeCounter := 0, funcReset := [], notReady := [], dropFcs := 0, dropBroadcast := [],
                               dropRepeat := 0, dropGap := earlyCount s, retries := 0, sess := s.cmd.sess.map sessAfterReset,
                               funcFailed := if legalStopped s then s.cmd.funcFailed.filter (fun x => x.1 == 0x30 || x.1 == 0x31)
                                             else [] } }

/-- The Dovetail state after a reset: a former member is LAPSED (15 Table 15-1, R497). -/
def resetPair (s : State) : State :=
  let t := clearPair { s with pair := { s.pair with join := none, inputs := [], admits := [], faultAt := none } }
  wr P50.PAIR_STATE (if rd t P50.PAIR_ID = 0 then 0 else 7) t

/-! Sessions (02 R56, R64; 17 R534). -/

/-- One past the highest sequence of a session whose reply the ledger holds, in the order of acceptance (02 R56). -/
def durableNext (s : State) (n : Nat) : Option Nat :=
  ((acceptedEntries s).foldl (fun a e => match e.act with
    | .command h _ _ _ _ eff =>
      if sessOf h ≠ n ∨ exempt s h eff.data = true then a
      else if h.opcode = 1 then some h.seq
      else match a with
        | some q => if seqDist q h.seq < 2 ^ 31 then some h.seq else a
        | none => some h.seq
    | _ => a) none).map (fun q => (q + 1) % 2 ^ 32)

/-- A session after a power-on reset: durable replies alone are held, and one that was open waits to be resumed. -/
def sessAfterPower (x : Sess) : Sess :=
  { x with st := if x.st = .closed then .closed else .resume, held := x.held.filter Held.durable }

/-! Device reset (17 R526). -/

/-- A second trigger before step 4 is absorbed; in HOLDUP and without main power there is none (17 R528, R538). -/
def resetMay (s : State) : Bool :=
  running s || (s.pwr.mode == .start && decide (3 < s.pwr.step))

/-- A device reset: admission stops and open commands end ABORTED, the journal and the pending events are written, the
open group and what waits is discarded, and everything of class V starts anew (17 R526). -/
def deviceReset (cause : Nat) (s : State) : State :=
  if resetMay s = false then s
  else
    let s1 := abortCmds (fun _ => true) (discardInfeed (applyDue s))
    let s2 := dropUnsealed (flushEvents (commitPending s1))
    let s3 := fixMarks (resetEvents (resetPair (resetMedia false (resetRegs false (resetMemory false (resetCore s2))))))
    { s3 with pwr := { mode := .start, cause := cause, step := 3, resetN := s3.pwr.resetN } }

/-- RESET_NOW of an activation takes effect 1 ms after its reply (10 R361). -/
def execResetNow (s : State) : Host.Outcome State Fault Refusal :=
  .next (match s.dl.resetNowAt with
    | some t => if passed s t 8 then deviceReset 2 s else s
    | none => s)

/-- A kernel heartbeat missing for 100 ms causes a device reset (17 R525). -/
def execKernelHeartbeatMissing (s : State) : Host.Outcome State Fault Refusal := .next (deviceReset 4 s)

/-- A core watchdog: the thread's function ends FUNC_FAILED, and a third within 60 s causes a device reset; suppressed in
HOLDUP (17 R525). -/
def execCoreWatchdog (core : Fin 16) (fn : Nat) (s : State) : Host.Outcome State Fault Refusal :=
  .next (
    if running s = false ∧ s.pwr.mode ≠ .start then s
    else
      let l := s.pwr.wdTimes.filter (fun t => decide (s.beat.ticks < t + secBeats 60)) ++ [s.beat.ticks]
      let s1 := { s with cmd := { s.cmd with funcFailed := assocSet fn 1 s.cmd.funcFailed }
                         pwr := { s.pwr with wdTimes := l } }
      let s2 := logEv evThreadOverrun (leB 1 core.val) s1
      if 3 ≤ l.length then deviceReset 4 s2 else s2)

/-- A boot on trial that does not finish within its window has failed: the third failure rolls back (10 R362). -/
def execBootWindowExpire (component : Fin 5) (s : State) : Host.Outcome State Fault Refusal :=
  .next (match s.dl.bootAt with
    | some t => if bitAt s.dl.trialMask component.val = true ∧ passed s t (secBeats (rd s P60.BOOT_WINDOW)) = true then
        deviceReset 4 s else s
    | none => s)

/-! Hold-up (17 R529, R531). -/

/-- The event that is logged when a flush begins (17 R529). -/
def causeEvent : FlushCause → Option Nat
  | .mains => some evMainsLost
  | .resetN => some evMainsLost
  | .thermal => some evDenThermalTrip
  | .pwrCycle => none

/-- The hold-up flush begins: its cause is logged, TRIM_HOLDUP ends, the legal pair takes note of the outage, and nothing
leaves the device any more (01 R33; 11 R392; 17 R528 to R530). -/
def declare (c : FlushCause) (s : State) : State :=
  if running s = false ∧ s.pwr.mode ≠ .start then s
  else
    let s1 := match causeEvent c with
      | some e => logEv e [] s
      | none => s
    let avg := if s1.den.nodeAvg.isEmpty then 0 else s1.den.nodeAvg.sum / s1.den.nodeAvg.length
    let s2 := { s1 with pwr := { s1.pwr with mode := .holdup, flush := some c, flushEnded := false, resetDue := 0 }
                        den := { s1.den with epStart := nodeMv s1 avg, epEnergy := 0 } }
    outageStart (wr P04.HOLDUP_MODE 1 (wr P04.TRIM_HOLDUP 0 s2))

/-! Retired pages and poison (14 R466, R467). -/

/-- A 4 KiB page of DRAM retired; the 65th calls for a power cycle (14 R467; 17 R531). -/
def retirePage (addr : Nat) (s : State) : State :=
  let p := addr / 4096
  if s.memory.retired.contains p then s
  else if s.memory.retired.length < 64 then
    wr P42.RETIRED_PAGES (s.memory.retired.length + 1)
      { s with memory := { s.memory with retired := s.memory.retired ++ [p] } }
  else declare .pwrCycle { s with pwr := { s.pwr with dramRetired65 := true } }

/-- Poison in state that is rebuilt from flash: logged, the page retired, and the device resets itself (14 R467). -/
def memReset (addr : Nat) (s : State) : State := deviceReset 3 (retirePage addr (logEv evMemReset (leB 8 addr) s))

/-- A packet of a closed bank with a poisoned word is dropped: no work of it is acknowledged; an item of a batch takes the
batch with it (14 R466, R480, Table 14-2). -/
def dropPoisoned (ef : Nat) (s : State) : State :=
  match takeClosed 1 (fifoAt s ef) with
  | (it :: _, f) => (match batchOf it.way with
    | some no => abandonBatch no stAborted 0 (setFifo ef f s)
    | none => setFifo ef f s)
  | _ => s

/-- POISON_CONSUMED: what each consumer does (14 R466, R467, R480); the fault code of a core (02 Table 02-5 gives it no
number), and the status and cycles of a lane job, are free values. -/
def execPoisonConsumed (c : Consumer) (s : State) : Host.Outcome State Fault Refusal :=
  .next (match c with
    | .core _ fn =>
      drawn { s with cmd := { s.cmd with funcFailed := assocSet fn (Config.poisonFault s.free % 2 ^ 16) s.cmd.funcFailed } }
    | .lane n => match (laneAt s n.val).job with
      | some _ => endLane n.val (brokenStatus s.free) (Config.laneCycles s.free) (drawn s)
      | none => s
    | .dma => match s.memory.dmaOn, s.memory.runs with
      | true, r :: l => { s with memory := { s.memory with runs := { r with poison := true } :: l } }
      | _, _ => s
    | .rebuilt a => memReset a s
    | .fifo n => if 21 ≤ n.val ∧ n.val ≤ 28 then dropBanked (n.val - 21) s else dropPoisoned n.val s)

/-- DRAM_PATROL_SCRUB: a corrected error is counted; an uncorrectable one in a page without live state retires the page, in
rebuilt state it resets the device, unless the page is retired already (14 R462, R464, R465, R467). -/
def execDramPatrolScrub (addr : Nat) (corrected_ uncorrectable_ live : Bool) (s : State) :
    Host.Outcome State Fault Refusal :=
  .next (
    if uncorrectable_ then
      let t := uncorrectable addr s
      if s.memory.retired.contains (addr / 4096) then t
      else if live then memReset addr t
      else retirePage addr t
    else if corrected_ then corrected (dramChan s addr) s
    else s)

end Sys2Proof.Machine
end

