-- ==== Sys2Proof/Machine/Power.lean ====
section
/-! DEFINITION. Power (01 R33, R34; 02 R81; 17 R523, R524, R527 to R532): the hold-up flush, PWR_REQ_N, RESET_N, main power and
the battery, and the power-on reset. -/
namespace Sys2Proof.Machine

/-! Declarations (01 R25, R33; 17 R524). -/

/-- MAINS_LOST: 16 consecutive samples below V_DETECT percent of the node's average (01 R33). -/
def execMainsLost (samples : List Nat) (s : State) : Host.Outcome State Fault Refusal :=
  .next (if 16 ≤ samples.length ∧ (samples.take 16).all (belowDetect s) = true then declare .mains s else s)

/-- DEN_THERMAL_TRIP: the hottest sensor at 110 °C or above for 8 beats (01 R25). -/
def execDenThermalTrip (s : State) : Host.Outcome State Fault Refusal :=
  .next (if 8 ≤ s.den.hotRun then declare .thermal s else s)

/-- RESET_N_LOW: RESET_N low is handled as mains loss; the power-on reset waits for its release and the end of the flush
(17 R524). -/
def execResetNLow (low : Bool) (s : State) : Host.Outcome State Fault Refusal :=
  let t := { s with pwr := { s.pwr with resetN := low } }
  .next (
    if low = false then t
    else if s.pwr.mode = .holdup then { t with pwr := { t.pwr with flush := some .resetN } }
    else declare .resetN t)

/-! The flush (17 R529; 01 R34). -/

/-- No copy of a group is still being written. -/
def groupQuiet (g : Group) : Bool :=
  g.pages.all (fun p => (p.st0 == .verified || p.st0 == .missing) && (p.st1 == .verified || p.st1 == .missing))

/-- Ledger has nothing left to seal or to write (17 R529 step 3). -/
def ledgerQuiet (s : State) : Bool :=
  s.ledger.openE.isEmpty && s.ledger.toSeal.isEmpty && s.ledger.groups.all groupQuiet

/-- The capacitance an episode shows, in 100 µF: twice the energy charged over the difference of the squared voltages
(01 R34). -/
def measuredC (e v0 v1 : Nat) : Nat := 2 * e * 10000 / (v0 * v0 - v1 * v1)

/-- After an episode in which the node fell by at least 10 %, a capacitance below HOLD_C is written to C_MEAS, which is never
raised (01 R34). -/
def derateNode (s : State) : State :=
  let v0 := s.den.epStart
  let v1 := nodeMv s (nodeAverage s)
  let c := max 1 (measuredC s.den.epEnergy v0 v1)
  let m := rd s P04.C_MEAS
  if v0 = 0 ∨ v0 * 9 < v1 * 10 then s
  else if c < rd s P04.HOLD_C ∧ (m = 0 ∨ c < m) then logEv evHoldupDerated [] (wr P04.C_MEAS c s)
  else s

/-- FLUSH_END: the pair's snapshot, the pending events and the last commit with the SHUTDOWN record are written; DRAM enters
self-refresh, the cores halt and the outputs are released (17 R529). Its thread at levels 0 to 3 has been serviced (01 R20,
R33). -/
def execFlushEnd (s : State) : Host.Outcome State Fault Refusal :=
  .next (
    if s.pwr.mode ≠ .holdup ∨ s.pwr.flushEnded = true ∨ ledgerQuiet s = false ∨ granted s .flush = false then s
    else
      let s1 := commitPending (flushEvents (outageSnapshot (derateNode (spend .flush s))))
      driveOutputs { s1 with ftl := { s1.ftl with shutdown := some (s1.ledger.bootCount, s1.ledger.horizon) }
                             pwr := { s1.pwr with flushEnded := true, shutdownSeen := true, selfRefresh := true }
                             disp := { s1.disp with released := true } })

/-- The node stayed above the mains-loss threshold for 8 beats (17 R531). -/
def nodeStays (s : State) : Bool :=
  s.den.nodeAvg.length == 8 &&
    s.den.nodeAvg.all (fun v => decide (s.den.epStart * rd s P04.V_DETECT ≤ nodeMv s v * 100))

/-- The cause PWR_REQ gives when it is due (17 R531). -/
def pwrReqCause (s : State) : Option Nat :=
  if s.pwr.dramRetired65 then some 4
  else match s.pwr.flush with
    | some .pwrCycle => some 1
    | some .thermal => some 3
    | some .mains => if nodeStays s then some 2 else none
    | some .resetN => none
    | none => none

/-- PWR_REQ: logged into the cache and sent as a notice, then PWR_REQ_N goes low until main power is lost; in a pair its
level waits for its beat's digest as every output does (01 R13; 15 R492; 17 R531). -/
def execPwrReq (s : State) : Host.Outcome State Fault Refusal :=
  .next (
    if s.pwr.mode ≠ .holdup ∨ s.pwr.flushEnded = false ∨ s.pwr.pwrReq.isSome = true then s
    else match pwrReqCause s with
      | some c =>
        let t := logEv evPwrReq (leB 1 c) { s with pwr := { s.pwr with pwrReq := some c } }
        if pinsHeld t then t else driveReq c t
      | none => s)

/-! Supplies (17 Table 17-3, R532). -/

/-- Without main power legal and slot time stand in the battery counter, whole units of 1/32,768 s (03 R119). -/
def toBattery (s : State) : State :=
  { s with batt := { s.batt with legal := battUnits (legalNs s), slot := battUnits (slotNs s) }
           plumb := { s.plumb with est := false } }

/-- Main power is gone: DORMANT, or OFF without VBAT, where the battery domain loses its content (17 Table 17-3, R532). -/
def powerDown (s : State) : State :=
  let t := toBattery s
  driveOutputs { t with pwr := { t.pwr with mode := if t.batt.vbat then .dormant else .off, pwrReq := none, reqDriven := false }
                        batt := { t.batt with valid := t.batt.valid && t.batt.vbat }
                        disp := { t.disp with released := true } }

/-- MAIN_POWER_LOST (17 Table 17-3). -/
def execMainPowerLost (s : State) : Host.Outcome State Fault Refusal :=
  .next (if s.pwr.mode = .holdup then powerDown s else s)

/-- SUPPLY_MONITOR_TRIP: a supply below its threshold; a flush that runs ends where it stands, and without one what the pair
measured after its snapshot is lost (17 R523; 11 R376). -/
def execSupplyMonitorTrip (s : State) : Host.Outcome State Fault Refusal :=
  .next (if s.pwr.mode = .dormant ∨ s.pwr.mode = .off then s
    else if s.pwr.mode = .holdup then powerDown s
    else powerDown { s with legal := { s.legal with lossSince := true } })

/-- VBAT_RISE (17 Table 17-3). -/
def execVbatRise (s : State) : Host.Outcome State Fault Refusal :=
  let t := { s with batt := { s.batt with vbat := true } }
  .next (if s.pwr.mode = .off then { t with pwr := { t.pwr with mode := .dormant } } else t)

/-- VBAT_FALL: content held in the battery domain survives while main power lasts (17 Table 17-3, R532, R538). -/
def execVbatFall (s : State) : Host.Outcome State Fault Refusal :=
  let t := { s with batt := { s.batt with vbat := false } }
  .next (if s.pwr.mode = .dormant then
      { t with pwr := { t.pwr with mode := .off }, batt := { t.batt with valid := false } }
    else t)

/-! The power-on reset (17 R523, R534, R537). -/

/-- One map change of the journal undone. -/
def undoRec (m : List ((Nat × Nat) × (Nat × Nat))) (r : JRec) : List ((Nat × Nat) × (Nat × Nat)) :=
  if r.op ≠ 1 then m
  else
    let old := (assocGet (r.part, r.a) m).getD (0, 0)
    let new := match r.chan with
      | .c0 => (r.c, old.2)
      | .c1 => (old.1, r.c)
    if new = (0, 0) then assocDel (r.part, r.a) m else assocSet (r.part, r.a) new m

/-- Records that no commit holds are lost with power (13 R439, R450). -/
def dropRecs (s : State) : State :=
  { s with ftl := { s.ftl with map := s.ftl.pendRecs.reverse.foldl undoRec s.ftl.map, pendRecs := [] } }

/-- NEXT_SEQ above every sequence that may have been sent (16 R509). -/
def nextSeqAfter (s : State) : Nat :=
  let base := match s.ev.ring.getLast? with
    | some e => e.seq + 1
    | none => 0
  (if rd s P51.POWER_CYCLES = 0 then base else base + (if s.pwr.shutdownSeen then 1 else 272)) % 2 ^ 32

/-- What was in working memory is gone: only flash and the battery domain are left (17 R537). -/
def loseWork (s : State) : State :=
  let s1 := dropUnsealed (applyDue s)
  { dropRecs s1 with
    infeed := { s1.infeed with jobs := [], slowQ := [], handed := [], frames := [], batches := [] }
    chain := {}
    cmd := { s1.cmd with openC := [], dueDone := [], due := [], sess := s1.cmd.sess.map sessAfterPower }
    ev := { s1.ev with pend := [], hourPart := 0 }
    legal := { s1.legal with mismatches := [] }
    disp := { s1.disp with released := true, shown := none } }

/-- The power-on reset (17 R523, R534, R537). -/
def powerOn (s : State) : State :=
  let next := nextSeqAfter s
  let s1 := resetCore (loseWork (toBattery s))
  let s2 := resetPair (resetEvents (resetMedia true (resetRegs true (resetMemory true s1))))
  let s3 := fixMarks (wr P51.NEXT_SEQ next (bump P51.POWER_CYCLES s2))
  evFields { s3 with pwr := { mode := .start, cause := 1, step := 0, resetN := s3.pwr.resetN, flush := s.pwr.flush,
                              shutdownSeen := s.pwr.shutdownSeen } }

/-- POWER_ON_RESET: the supplies are good and RESET_N is released; from HOLDUP only after RESET_N was taken low and the
flush has ended (17 R524, R528). -/
def execPowerOnReset (s : State) : Host.Outcome State Fault Refusal :=
  .next (
    if s.pwr.resetN = true then s
    else if s.pwr.mode = .dormant ∨ s.pwr.mode = .off then powerOn s
    else if s.pwr.mode = .holdup ∧ s.pwr.flushEnded = true ∧ s.pwr.flush = some .resetN then powerOn s
    else s)

/-! Commands (02 R81). -/

/-- The confirm word of DEV_RESET and PWR_CYCLE_REQ (02 R81). -/
def confirmWord : Nat := 0x00005AA5

/-- A reset command: the DONE is recorded and sent, and the reset begins; in a pair it begins when the held DONE has left (02
R81; 15 R493). -/
def resetBody (kind : Nat) (go : State → State) (h : Hdr) (p : List Byte) (s : State) : Ans :=
  if leAt p 0 4 ≠ confirmWord then .fail stBadPayload 0
  else
    let t := finish h p stDone 0 [] s
    .stays (if paired s = true ∧ localCmd s h = false then { t with pwr := { t.pwr with resetDue := kind } } else go t)

/-- DEV_RESET (02 R81; 17 R523). -/
def execDevReset (h : Hdr) (p : List Byte) (s : State) : Host.Outcome State Fault Refusal :=
  .next (runCmd h p false (resetBody 1 (deviceReset 2) h p) s)

/-- PWR_CYCLE_REQ (02 R81; 17 R529). -/
def execPwrCycleReq (h : Hdr) (p : List Byte) (s : State) : Host.Outcome State Fault Refusal :=
  .next (runCmd h p false (resetBody 2 (declare .pwrCycle) h p) s)

/-- A reset command whose DONE has left the pair's comparison (02 R81; 17 R538). -/
def resetWhenSent (s : State) : State :=
  if s.pwr.resetDue = 0 ∨ (paired s = true ∧ (s.pair.replies ≠ [] ∨ s.pair.own.any (fun o => !o.replies.isEmpty) = true)) then s
  else
    let t := { s with pwr := { s.pwr with resetDue := 0 } }
    if s.pwr.resetDue = 1 then deviceReset 2 t else declare .pwrCycle t

end Sys2Proof.Machine
end

