-- ==== Sys2Proof/Machine/BeatRow.lean ====
section
/-! DEFINITION. BEAT_BOUNDARY: a beat ends and the next begins (01 R9 to R16, R36 to R39, R562; 02 R62, R76; 03 R110 to
R114; 15 R489 to R491). What a dispatched slot does stands at the end of its beat. -/
namespace Sys2Proof.Machine

/-! The end of a beat. -/

/-- The core cycles of the running beat (01 Table 01-1): two for each fabric cycle of trim. -/
def beatCycles (s : State) : Nat := (150000 + 2 * s.beat.trim).toNat

/-- One P-256 step done: the first job's, which leaves the unit with its last step (12 R413). -/
def p256Slot (s : State) : State :=
  { s with keys := { s.keys with p256 := match s.keys.p256 with
    | (l, n + 2) :: r => (l, n + 1) :: r
    | _ :: r => r
    | [] => [] } }

/-- The lane's slot at its end: the job that runs has used what was left of it (01 R11, Table 01-2). -/
def laneSlot (n : Nat) (s : State) : State :=
  let l := laneAt s n
  setLane n { l with job := l.job.map (fun r => { r with left := r.left - l.budget }), budget := 0 } s

/-- What a serviced thread does: it copies ledger pages, writes a checkpoint that the Den demanded, or leaves its row to act (01
R29, R36; 06 R216; 13 R440). -/
def doTask (t : Task) (s : State) : State :=
  match t with
  | .ledgerCopies => replaceCopies s
  | .journal =>
    if s.den.demand then commitPending { s with den := { s.den with demand := false } }
    else { s with sett := { s.sett with granted := s.sett.granted.erase t ++ [t] } }
  | _ => { s with sett := { s.sett with granted := s.sett.granted.erase t ++ [t] } }

/-- What a slot or a thread that was dispatched for this beat does. Lane jobs, DMA runs and page programs end by events of
their own. -/
def doWork (w : Work) (s : State) : State :=
  match w with
  | .infeed => postCounters (handleHanded (infeedSlot s))
  | .grade => gradeSlot s
  | .tally => { s with tally := { s.tally with toCount := s.tally.toCount - 192 } }
  | .scribe => scribeSlot s
  | .p256 => p256Slot s
  | .dma => dmaSlot s
  | .lane n => laneSlot n s
  | .commit => s
  | .eventFlush => flushEvents s
  | .selfTest h => selfTestDone h s
  | .gc part chan => gcCollect part chan s
  | .rereplicate => rereplicate s
  | .slow id => slowServed id s
  | .task t => doTask t s

/-- An item has completed: its flow is free (01 R38). -/
def itemEnds (i : SettItem) (s : State) : State :=
  { s with sett := { s.sett with inService := match i.flow with
    | some f => s.sett.inService.erase f
    | none => s.sett.inService } }

/-- A thread on a core: it yields within the beat and its work is done, or it goes to the tail of its level, its flow still in
service; in a pair that is logged (01 R38, R39; 15 R491). How long it runs is a free value. -/
def runThread (core : Nat) (i : SettItem) (s : State) : State :=
  let c := Config.threadCycles s.free
  let s1 := count 0x14 core (min c (beatCycles s)) (drawn s)
  if c < beatCycles s then doWork i.work (itemEnds i s1)
  else
    let s2 := postItem { i with holds := true } s1
    if paired s2 then logEv evDovetailThreadLate (leB 1 core) s2 else s2

/-- The items dispatched for a beat, in the order of their dispatch; threads take the cores in turn. -/
def runItems : List SettItem → Nat → State → State
  | [], _, s => s
  | i :: l, core, s =>
    if i.thread then runItems l (core + 1) (runThread core i s) else runItems l core (doWork i.work (itemEnds i s))

/-- The work of the beat that ends; Grade's records follow the control entries of the beat (06 R195). After mains loss only the
flush and what it writes go on (01 R33; 17 R529). -/
def runWork (s : State) : State :=
  let l := s.sett.running.filter (mayRun s)
  runItems (l.filter (fun i => i.work != .grade) ++ l.filter (fun i => i.work == .grade)) 0
    { s with sett := { s.sett with running := [] } }

/-- The open ledger group closes with the last beat of a frame, and in the hold-up flush with the beat of the declaration
(01 R13; 17 R529 step 3). -/
def frameEnd (s : State) : State :=
  if s.pwr.mode = .holdup then
    (if s.ledger.openE.isEmpty then s
      else { s with ledger := { s.ledger with toSeal := s.ledger.toSeal ++ [s.ledger.openE], openE := [], openSlots := 0 } })
  else if frameCount s % 8 = 7 then closeOpen s
  else s

/-! The boundary. -/

/-- HOLDUP_SENSE converts up to 1.2 V; what the Den reads of the beat (18 R552). -/
def senseCut (i : BeatIn) : List Nat := i.sense.map (fun v => min v 1200000)

/-- The energy of the hold-up flush in a beat, counted from the node's voltage at the declaration: static, base loads, the
commit reserve and what the Sett granted (01 R34). -/
def episode (s : State) : State :=
  if s.pwr.mode = .holdup then
    { s with den := { s.den with epEnergy := s.den.epEnergy + eStatic s.den.tHot + baseLoads s + 24 + (s.den.eDisc - s.sett.lapsed) } }
  else s

/-- The hours of main power, and the cycle counter (16 R505, Table 16-7). -/
def tickCounters (s : State) : State :=
  wr P52.CYCLES (rd s P52.CYCLES + beatCycles s) { s with ev := { s.ev with hourPart := s.ev.hourPart + 1 } }

/-- The offsets are held against ADJ_LIMIT once they are set (03 R115, R119). -/
def divergeCheck (s : State) : State := if s.plumb.est then checkDiverged s else s

/-- Time at the boundary: the beat number, the trim, the limit of the offsets and the slews (01 R9, R10; 03 R110, R113 to
R115). -/
def timeStep (s : State) : State := slew (divergeCheck (trimBeat (advanceBeat (tickCounters s))))

/-- An address that was assigned takes effect (03 R96). -/
def takeAddr (s : State) : State :=
  match s.chain.nextAddr with
  | some a => wr P02.CHAIN_ADDR a { s with chain := { s.chain with nextAddr := none } }
  | none => s

/-- Notices that wait are sent, 64 in a beat (16 R511). -/
def sendNotices : Nat → State → State
  | 0, s => s
  | fuel + 1, s =>
    match s.ev.noticeQ with
    | e :: l => if s.ev.sentBeat < 64 then sendNotices fuel (sendNotice e { s with ev := { s.ev with noticeQ := l } }) else s
    | [] => s

/-- The notices of a beat start anew. -/
def beatNotices (s : State) : State :=
  sendNotices 64 { s with ev := { s.ev with sentBeat := 0 } }

/-- A batch whose closing entry cannot be sealed, since no group may open for it or sealing has stopped, ends STORE_FULL (06
R201, R216, R220). -/
def storeFullBatch (s : State) : State :=
  if storeFull s then
    (s.infeed.batches.filter (fun b => closeUnsealed s b && (!b.closed || rdB s P12.NO_DIE_PAIR))).foldl
      (fun t b => abandonBatch b.no stStoreFull 0 t) s
  else s

/-- The ledger at a boundary: control entries that waited are taken, and the count of control slots starts anew (05 R186; 06
R195). -/
def ledgerBeat (s : State) : State :=
  let t := storeFullBatch (rollSec { s with ledger := { s.ledger with beatCtl := 0 } })
  takeWaiting t.ledger.waiting t

/-- The time of the entry into RUN, from which a set on trial is confirmed; the boot window has ended (10 R362). -/
def runEntered (s : State) : State :=
  if running s = true ∧ s.dl.runAt = none then { s with dl := { s.dl with runAt := some s.beat.ticks, bootAt := none } } else s

/-- The FIFOs and batches give Infeed something to take. -/
def infeedWants (s : State) : Bool :=
  (List.range 32).any (fun n => !underHold s n && (fifoAt s n).closedB.any (fun b => !b.items.isEmpty))
    || (openBatch s).any (fun b => !b.items.isEmpty)

/-- Some copy of a group is being written. -/
def committing (s : State) : Bool := !(s.ledger.groups.all groupQuiet)

/-- An engine slot as a Sett item (01 Tables 01-2, 01-5). -/
def slotItem (want : Bool) (level charge : Nat) (w : Work) : List SettItem :=
  if want then [{ level := level, flow := none, thread := false, charge := charge, work := w }] else []

/-- Grade has readings that Ledger would take; where Ledger refuses them the Sett defers its slot (01 R30). -/
def gradeWants (s : State) : Bool := !s.grade.queue.isEmpty && gradeMay s && fits s [1]

/-- The engine slots that have work (01 Table 01-2; 12 R411). -/
def engineItems (s : State) : List SettItem :=
  slotItem (committing s) 0 24 .commit ++ slotItem (gradeWants s) 16 32 .grade
    ++ slotItem (infeedWants s) 17 16 .infeed
    ++ ((List.range 8).map (fun n => match (laneAt s n).job with
      | some r => slotItem true (r.job.level % 64) 24 (.lane n)
      | none => [])).flatten
    ++ slotItem (!s.keys.p256.isEmpty) 18 24 .p256 ++ slotItem (decide (0 < s.tally.toCount)) 24 12 .tally
    ++ slotItem s.memory.dmaOn 28 12 .dma ++ slotItem (scribeWork s).isSome 40 16 .scribe

/-- An item of a class waits for its dispatch. -/
def dlWants (s : State) (urgent : Bool) : Bool :=
  s.dl.items.any (fun i => i.urgent == urgent && i.st == 1 && i.posted == 0)

/-- The reclaim of a segment can begin or end (06 R212, R213). -/
def reclaimable (s : State) : Bool := s.ftl.segs.any (fun g => reclaimMay s g.1)

/-- The threads of Table 01-6 that have work, with level and number among the threads of the image (01 R22, R35; 06 R213, R216;
10 R340; 13 R440 to R449; levels that no rule states: assumption log 112). -/
def taskItems (s : State) : List SettItem :=
  let t := fun (want : Bool) (level kind : Nat) (k : Task) =>
    if want && !s.sett.granted.contains k then [threadItem level none kind (.task k)] else []
  t (!s.ftl.pendRecs.isEmpty || s.den.demand || passed s s.ftl.lastCommitAt (msBeats (rd s P41.JOURNAL_MS))) 1 2 .journal
    ++ t (decide (rd s P41.SNAP_PAGES ≤ s.ftl.sinceSnap)) 1 3 .ftlSnap
    ++ (if s.pwr.mode = .holdup ∧ s.pwr.flushEnded = false then [threadItem 2 none 4 (.task .flush)] else [])
    ++ t (copiesMissing s) 7 5 .ledgerCopies ++ t (dlWants s true) 8 6 .dlUrgent ++ t (dlWants s false) 34 7 .dlQueued
    ++ t (reclaimable s) 48 8 .reclaim ++ t (s.dl.camps.any (fun c => c.st == 1 || c.st == 2)) 51 9 .campaign
    ++ t (levelDue s .c0 || levelDue s .c1) 52 10 .wear ++ t (!s.ftl.blks.isEmpty) 56 11 .patrol

/-- Engine slots and threads that are not queued yet are queued behind what waits at their levels (01 R35). -/
def postWork (s : State) : State :=
  (engineItems s ++ taskItems s).foldl (fun t i => if t.sett.queue.any (fun q => q.work == i.work) then t else postItem i t) s

/-- A lane has its slot's blocks in a beat for which it was dispatched (01 R11, Table 01-2). -/
def grantLanes (l : List SettItem) (s : State) : State :=
  let b := fun (n : Nat) => if l.any (fun i => i.work == .lane n) then 4531 else 0
  { s with keys := { s.keys with lanes := (List.range 8).map (fun n => { laneAt s n with budget := b n }) } }

/-- The dispatch of the beat that begins, at provisional boundaries too; after mains loss it is the flush that runs (01 R33,
R36, R562). -/
def dispatch (s : State) : State :=
  let r := settDispatch (postWork (gradeOpen s))
  grantLanes r.2 { r.1 with sett := { r.1.sett with running := r.2 } }

/-- The address and the settings that take effect at a boundary (02 R62, R76; 03 R96): before the Den counts what they power (01
R17, R19). -/
def boundarySettings (s : State) : State := applyWrites (takeAddr s)

/-- What the pair changes at a boundary, with the limits that both chips use (15 R490, R491, R497). -/
def boundaryPair (s : State) : State := pairPost (pairNext (pairUse s))

/-- What else happens at a boundary (03 R122; 04 R142; 06 R195; 11 R376; 14 R476; 16 R511). -/
def boundaryRest (s : State) : State :=
  dispatch (lapseRefs (zcFields (legalBeat (runEntered (beatNotices (ppsFalls (creditAll (refillTokens (settleFrames (ledgerBeat s))))))))))

/-- The Den at a boundary, with what it read in the beat that ended (01 R15, R27 to R29). -/
def denBeat (i : BeatIn) (s : State) : State := demandCheckpoint (denHoldup (senseCut i) (denBudget i.temps s))

/-- The beat that ends. -/
def endBeat (s : State) : State := resetWhenSent (pairEnd (frameEnd (runWork s)))

/-- The beat that begins (01 R15). -/
def beginBeat (i : BeatIn) (s : State) : State :=
  boundaryRest (boundaryPair (denBeat i (boundarySettings (timeStep (takeSets i s)))))

/-- In HOLDUP time runs on, the Den watches the node and grants the flush alone (01 R33; 17 R529, R531). -/
def holdupBeat (i : BeatIn) (s : State) : State := dispatch (denBeat i (episode (timeStep s)))

/-- Main power is present, so beats run (17 Table 17-2). -/
def hasPower (s : State) : Bool := s.pwr.mode != .off && s.pwr.mode != .dormant

/-- Wake slots are not counted while the device is out of RUN: its last beat is kept in slot time (08 R276). -/
def radioWatch (s : State) : State :=
  if running s then s else { s with radio := { s.radio with quietAt := slotNs s } }

/-- BEAT_BOUNDARY (01 R9). -/
def execBeatBoundary (i : BeatIn) (s : State) : Host.Outcome State Fault Refusal :=
  .next (
    if hasPower s = false then s
    else
      let t := radioWatch (endBeat s)
      if t.pwr.mode = .holdup then holdupBeat i t else beginBeat i t)

end Sys2Proof.Machine
end

