-- ==== Sys2Proof/Machine/FuncReset.lean ====
section
/-! DEFINITION. FUNC_RESET (02 R80, Table 02-10) as each chapter states it, its completion, and GET_IDENTITY (02 R59). -/
namespace Sys2Proof.Machine

/-! GET_IDENTITY (02 R59). -/

/-- The IDCODE (02 R59; 18 R551). -/
def deviceId : Nat := 0x184004B7

/-- A component's version record of 8 bytes: MAJOR, MINOR, PATCH, IFACE, active slot. -/
def versionRec (s : State) (c : Nat) : List Byte :=
  sliceB (padTo 16 (activeHead s c)) 8 6 ++ leB 1 (compAt s c).active ++ zeros 1

/-- The 64 bytes of GET_IDENTITY (02 R59). -/
def identityData (s : State) : List Byte :=
  leB 8 Config.dieSerial ++ leB 4 deviceId ++ leB 1 (rd s P01.ROLE_ACTIVE) ++ leB 1 (rd s P02.CHAIN_ADDR) ++ zeros 2
    ++ checkBytes (identitySlot s) ++ ((List.range 5).map (versionRec s)).flatten ++ zeros 4

/-- GET_IDENTITY (02 R59). -/
def execGetIdentity (h : Hdr) (p : List Byte) (s : State) : Host.Outcome State Fault Refusal :=
  .next (runCmd h p false (fun t => .done (identityData t) t) s)

/-! FUNC_RESET (02 R80). -/

/-- The functions whose FUNC_RESET is refused (02 R80). -/
def noFuncReset (fn : Nat) : Bool := [0x01, 0x02, 0x03, 0x30, 0x31, 0x41].contains fn

/-- The counters of a function's page (17 Table 17-6). -/
def funcCounters : Nat → List Fld
  | 0x10 => [P10.SLOW_DROPS, P10.AUTH_FAILS, P10.REPLAYS, P10.DUPS_SUPPRESSED, P10.STALE_SUPPRESSED, P10.FUTURE_REFUSED,
      P10.UNKNOWN_TITLE, P10.DUP_CONFLICTS, P10.CLEAR_DROPPED]
  | 0x11 => [P11.SPIKES, P11.ROLLOVERS, P11.NON_MONOTONIC, P11.CLOCK_SUSPECTS, P11.ESTIMATES, P11.GAPS_LEFT,
      P11.OUTAGE_MARKS, P11.EDITS, P11.REBASES]
  | 0x12 => [P12.GROUPS_DISCARDED, P12.REWRITES]
  | 0x13 => [P13.INTERVALS_CLOSED, P13.NOT_COUNTED, P13.LATE_VALUES, P13.METERS_DECIDED, P13.METERS_UNDECIDED]
  | 0x20 => [P20.RX_FRAMES, P20.RX_FCS_ERR, P20.RX_SEC_FAIL, P20.RX_CUT, P20.ACK_WITHHELD, P20.TX_FRAMES, P20.CCA_FAIL,
      P20.RELAYED, P20.RELAY_SUPPRESSED, P20.SEEN_FULL, P20.MISSED_SLOTS]
  | 0x21 => [P21.RX_FRAMES, P21.RX_RECOVERED, P21.RX_CRC_FAIL, P21.RX_MISALIGNED, P21.ACK_WITHHELD, P21.TX_FRAMES,
      P21.TX_ABORTS, P21.INJ_CEIL_HITS, P21.ZC_FLYWHEEL, P21.LINK_FAILS, P21.ROUTE_ERRS, P21.BLANKS_PROPOSED]
  | 0x32 => [P32.DISP_ERRS]
  | 0x40 => [P40.LANE_JOBS, P40.PREEMPTIONS, P40.AUTH_FAIL_JOBS]
  | 0x43 => [P43.RUNS_DONE]
  | 0x44 => [P44.DROPPED, P44.OVERRUN, P44.DISCARDED]
  | 0x50 => [P50.LOCKSTEP_MISMATCHES, P50.LATE_FRAMES, P50.MISMATCHES]
  | 0x51 => [P51.EVENTS_LOST]
  | 0x60 => [P60.DL_SENT_FRAMES, P60.DL_CONCLUDED, P60.DL_EXPIRED]
  | _ => []

/-- The counters of a function's page cleared in every instance. -/
def clearCounters (fn : Nat) (s : State) : State :=
  (funcCounters fn).foldl (fun t f => ((List.range 16).filter (instOk fn)).foldl (fun u i => wrI f i 0 u) t) s

/-- FUNC_RESET of 0x10: the engine FIFOs EF_0 to EF_28 are emptied as well, and the slow path's bucket is full (04 R142,
R161). -/
def resetInfeed (s : State) : State :=
  let t := discardInfeed s
  let fs := (List.range 32).map (fun n => if n ≤ 28 then {} else t.memory.fifos.getD n {})
  fillTokens { t with memory := { t.memory with fifos := fs } }

/-- FUNC_RESET of 0x12: what no sealed group holds loses its readings and their COUNTER entries, and its control entries go
into the next group; the record of an edit goes with its COMMAND entry (06 Table 06-8; DESIGN CHOICE, log 111). -/
def resetLedger (s : State) : State :=
  let t := discardWork (fun _ => false) (fun e => !isEdit e) (abandonAll stAborted 0 s)
  { t with ledger := { t.ledger with waiting := unsealed t, openE := [], openSlots := 0, resGroup := false, toSeal := [] } }

/-- FUNC_RESET of 0x32 restarts the display (11 R403). -/
def resetDisplay (s : State) : State :=
  { s with disp := { s.disp with onButton := false, autoAt := 0, buttonAt := 0, autoTick := s.beat.ticks,
                                 pressTick := s.beat.ticks, shown := none } }

/-- FUNC_RESET of 0x50: what is compared is forgotten, and a former member is LAPSED (15 Table 15-1). -/
def resetDovetail (s : State) : State :=
  if pairState s = 0 then clearPair s else resetPair s

/-- FUNC_RESET of 0x52: counters, configurations, WRAP and the snapshot ring are cleared (16 R519). -/
def resetCounters (s : State) : State :=
  let lo := snapBase s
  let hi := scratchBase s
  let t := (List.range 8).foldl (fun u n => wr (cfgFld n) 0 (clearPc n u)) s
  wr P52.SNAP_SEQ 0 { t with mem := t.mem.filter (fun c => !(decide (lo ≤ c.1) && decide (c.1 < hi)))
                             ctr := { selfTest := t.ctr.selfTest, lastWin := t.ctr.lastWin, lastSnap := t.ctr.lastSnap } }

/-- What the reset of a function discards and clears, as its chapter states (04 R161; 05 R188; 06 R217; 07 R246; 08 R287; 09
R323; 10 R366; 11 R403; 12 R426; 14 R479; 16 R519). -/
def funcResetAct (fn : Nat) (s : State) : State :=
  match fn with
  | 0x10 => resetInfeed s
  | 0x11 => discardWork (fun _ => true) (fun _ => true) (abandonAll stAborted 0 s)
  | 0x12 => resetLedger s
  | 0x13 => s.tally.campaigns.foldl restartCamp s
  | 0x20 => radioStop s
  | 0x21 => plcStop s
  | 0x32 => resetDisplay s
  | 0x40 => reloadSlots s
  | 0x42 => clearMemCounters s
  | 0x43 => abortRuns s
  | 0x44 => (List.range 8).foldl (fun t n => resetPort n t) s
  | 0x50 => resetDovetail s
  | 0x51 => flushEvents s
  | 0x52 => resetCounters s
  | 0x60 => s.dl.camps.foldl (fun t c => modCampaign c.no (fun x => { x with sending := false }) (dropBlocks c.no t)) s
  | _ => s

/-- FUNC_RESET begins: the function's other open commands end ABORTED, its counters are cleared, and until it has completed
commands that name the function are answered BUSY (02 R80, Table 02-10). -/
def funcResetBody (h : Hdr) (s : State) : Ans :=
  let fn := fnOf h
  if noFuncReset fn then .fail stDeniedState 0
  else
    let s1 := clearCounters fn (abortCmds (fun x => fnOf x == fn && x != h) s)
    let s2 := fixMarks (funcResetAct fn s1)
    .stays { s2 with cmd := { s2.cmd with funcReset := assocSet fn h s2.cmd.funcReset
                                          funcFailed := assocDel fn s2.cmd.funcFailed } }

/-- FUNC_RESET (02 R80). -/
def execFuncReset (h : Hdr) (p : List Byte) (s : State) : Host.Outcome State Fault Refusal :=
  .next (runCmd h p false (fun t => funcResetBody h t) s)

/-- FUNC_RESET_COMPLETE: the function runs again and its DONE is sent; that of 0x12 waits for the rewrites outstanding (02
R80; 06 R218). -/
def execFuncResetComplete (fn : Nat) (s : State) : Host.Outcome State Fault Refusal :=
  .next (match assocGet fn s.cmd.funcReset with
    | none => s
    | some h =>
      if fn = 0x12 ∧ s.ledger.rewriting ≠ [] then s
      else
        let t := { s with cmd := { s.cmd with funcReset := assocDel fn s.cmd.funcReset } }
        let u := if fn = 0x20 then radioStart t else if fn = 0x21 then plcStart t else t
        finish h [] stDone 0 [] u)

end Sys2Proof.Machine
end

