-- ==== Sys2Proof/Machine/StartUp.lean ====
section
/-! DEFINITION. Start-up (17 R533 to R535, Table 17-4; 13 R431, R436, R450; 00 R4), replay (06 R202), and the presence
checkpoint. The model runs the ten steps of Table 17-4 as one event; the tenth ends with Plumb's lock. -/
namespace Sys2Proof.Machine

/-! Step 1: the battery domain (17 R532). -/

/-- The battery domain is read: its time goes on, or its content was lost (03 R119; 17 R532). -/
def readBattery (b : BootIn) (s : State) : State :=
  if s.batt.valid then
    { s with batt := { s.batt with legal := s.batt.legal + b.battElapsed, slot := s.batt.slot + b.battElapsed } }
  else
    let keep := fun (x : Nat × Nat) => match fieldOfKey x.1 with
      | some f => f.cls != .b
      | none => false
    let t := { s with regs := s.regs.filter keep
                      batt := { s.batt with valid := true, legal := 0, slot := 0 }
                      plumb := { s.plumb with est := true }
                      keys := { s.keys with tamperWait := false } }
    logEv evVbatLost [] (logEv evLegalTimeLost [] (wr P03.LEGAL_INVALID 1 t))

/-! Step 3: the flash store (13 R431, R436, R450). -/

/-- The geometry found is one that the device accepts (13 R431). -/
def geometryOk (b : BootIn) : Bool :=
  let die := b.blocksPerDie * b.pagesPerBlock * b.pageSize
  [4096, 8192, 16384].contains b.pageSize && decide (64 ≤ b.pagesPerBlock) && decide (b.pagesPerBlock ≤ 4096)
    && decide (188 * (b.pageSize / 2048) + 476 ≤ b.spareBytes) && decide (1 ≤ b.dies0) && decide (1 ≤ b.dies1)
    && decide (2 ^ 33 ≤ b.dies0 * die) && decide (2 ^ 33 ≤ b.dies1 * die)
    && decide ((b.dies0 + b.dies1) * die ≤ 2 ^ 40)

/-- Everything that flash held is gone: what is left is the battery domain and what a reset keeps elsewhere. -/
def wipeFlash (s : State) : State :=
  let keep := fun (x : Nat × Nat) => match fieldOfKey x.1 with
    | some f => f.cls == .b || f.cls == .w || f.cls == .v
    | none => false
  let r := State.reset
  let t := { r with regs := s.regs.filter keep, mem := s.mem, beat := s.beat, chain := s.chain, plumb := s.plumb
                    batt := s.batt, memory := s.memory, ev := { s.ev with ring := [] }, pwr := s.pwr
                    out := s.out, free := s.free, pending := s.pending }
  wr P01.ROLE_ACTIVE (rd t P01.ROLE) t

/-- The tables of a store as it is formatted: fixed partitions with the anchor, spares, over-provisioning, and the ledger
with what remains of each channel (13 R435, R453). -/
def formatTables (b : BootIn) (s : State) : State :=
  let bytes := b.pageSize * b.pagesPerBlock
  let u := [b.dies0 * b.blocksPerDie, b.dies1 * b.blocksPerDie]
  let mapped := ((List.range 5).map (fun i => ceilDiv (partBytes (i + 2) * 5 / 4) bytes)).sum
  let fixed := 2 + ceilDiv (partBytes 1) bytes + mapped
  let spare := fun n => ceilDiv (2 * n) 100
  { s with ftl := { pageSize := b.pageSize, pagesPerBlock := b.pagesPerBlock, dies := [b.dies0, b.dies1]
                    blocksPerDie := b.blocksPerDie, usable := u, spares := u.map spare, fixed := fixed
                    ledgerBlks := u.map (fun n => n - fixed - spare n - ceilDiv (7 * n) 100) } }

/-- The store is formatted, and FLASH_FORMATTED logged when every anchor block was erased (13 R436). -/
def formatStore (b : BootIn) (erased : Bool) (s : State) : State :=
  let s1 := if rdB s P41.FORMATTED then wipeFlash s else s
  let s2 := wr P41.FORMATTED 1 (formatTables b s1)
  if erased then logEv evFlashFormatted [] s2 else s2

/-- A block that still waits for its erase is erased (13 R450 step 4). -/
def eraseWaiting (s : State) (b : Blk) : State :=
  let l := mapIf (isBlk b.chan b.die b.blk) (fun x => { x with erases := x.erases + 1 }) s.ftl.blks
  postRec ⟨4, b.part, b.chan, dieBlk b.die b.blk, b.erases + 1, 0⟩ { s with ftl := { s.ftl with blks := l } }

/-- The tables rebuilt: waiting erases are made and committed, and what was open is closed (13 R450 steps 4 to 6). -/
def closeTables (s : State) : State :=
  let s1 := commitPending ((s.ftl.blks.filter (fun b => b.st == .pendingErase)).foldl eraseWaiting s)
  { s1 with ftl := { s1.ftl with
    blks := mapIf (fun b => b.st == .opened) (fun b => { b with st := .closed }) s1.ftl.blks
    segs := mapIf (fun x => x.2 == .opened || x.2 == .reclaiming) (fun x => (x.1, .closed)) s1.ftl.segs
    openSegs := [] } }

/-- Mapped copies that read as erased, or whose tag names another page, restored from the other channel (13 R450 step 7). -/
def restoreCopies (l : List (Chan × (Nat × Nat))) (s : State) : State :=
  l.foldl (fun t x => match assocGet x.2 t.ftl.map with
    | some a =>
      let old := if x.1 == .c0 then a.1 else a.2
      if old = 0 then t
      else wr P41.REPLAY_REPAIRED 1 (logEv evFlashCopyRestored (leB 1 (chNo x.1) ++ leB 4 old) (bump P41.LOST_COPIES
        (writeCopy x.1 x.2.1 x.2.2 t)))
    | none => t) s

/-- A store that cannot be used: the device is held out of RUN, and no die is usable (13 R431, R436). -/
def noStore (ev : Nat) (s : State) : State :=
  logEv ev [] (wr P12.NO_DIE_PAIR 1 { s with ftl := { s.ftl with dies := [0, 0] }, pwr := { s.pwr with held := true } })

/-- The boot ROM reads the anchor and checks the geometry; a store that holds data is never formatted (13 R431, R436). -/
def readStore (b : BootIn) (s : State) : State :=
  if geometryOk b = false then noStore evFlashGeometry s
  else if b.anchorsErased then formatStore b true s
  else if b.anchorReadable = false then noStore evStoreUnreadable s
  else if rdB s P41.FORMATTED then restoreCopies b.badCopies
      (closeTables { s with ftl := { s.ftl with dies := [b.dies0, b.dies1] } })
  else formatStore b false s

/-- The store can be used. -/
def storeOk (s : State) : Bool := decide (0 < s.ftl.dies.sum)

/-! Step 4: the boot (10 R362). -/

/-- A boot on trial failed when the set was cut off by any reset but DEV_RESET, PWR_CYCLE_REQ and mains loss, for which
RESET_N counts (10 R362; 17 R524). -/
def bootFailed (power : Bool) (s : State) : Bool :=
  if power then !(s.pwr.flush == some .mains || s.pwr.flush == some .pwrCycle || s.pwr.flush == some .resetN)
  else s.pwr.cause != 2

/-- The boot trial is counted, and the window of the components that start on trial begins (10 R362). -/
def countBoot (power : Bool) (s : State) : State :=
  let t := bootTrial (bootFailed power s) s
  if t.dl.trialMask = 0 then t else { t with dl := { t.dl with bootAt := some t.beat.ticks } }

/-! Step 5: memory (00 R4; 14 R460; 17 R533). -/

/-- The least DRAM of the role that takes effect, in GiB (00 Table 00-1). -/
def dramMin (s : State) : Nat := if hubRole s then 8 else 4

/-- DRAM trained and its size checked; a device reset checks what the last training found (00 R4; 17 R533). -/
def checkMemory (b : BootIn) (power : Bool) (s : State) : State :=
  let s1 := wr P42.CH0_GIB b.ch0Gib (wr P42.CH1_GIB b.ch1Gib s)
  let s2 := if power then wr P01.DRAM_FOUND (b.ch0Gib + b.ch1Gib) s1 else s1
  let hold := fun (t : State) => { t with pwr := { t.pwr with held := true } }
  let s3 := if b.widthOk then s2 else hold (logEv evDramWidth [] s2)
  let found := rd s3 P01.DRAM_FOUND
  let s4 := if found < dramMin s3 then hold (logEv evDramShort (leB 4 found) s3) else s3
  wr P10.ENROL_LIMIT (enrolLimit s4) (raiseCap s4)

/-! Step 7: components (10 R361; 08 R264, R283, R287; 09 R323; 11 R376). -/

/-- Radio and powerline start: frame counters and the flood sequence move on, a member channel shows its depth again. -/
def startMedia (s : State) : State :=
  let s1 := (List.range 3).foldl (fun t n => plcStartFc n t) ((List.range 16).foldl (fun t n => startFc n t) s)
  let s2 := plcStart (radioStart { s1 with radio := { s1.radio with floodSeq := (s1.radio.floodSeq + 4096) % 65536 } })
  (List.range 16).foldl (fun t n => match (chanAt t n).parent with
    | some p => wrI P20.DEPTH n (p.depth + 1) t
    | none => t) s2

/-! Step 9: replay (06 R202). -/

/-- Every page of a group has a verified copy. -/
def oneCopy (g : Group) : Bool := g.pages.all (fun p => p.st0 == .verified || p.st1 == .verified)

/-- Replay takes a group: it was accepted before, it is complete, or it lies at or below the horizon with a copy of every
page (06 R202). -/
def replayTakes (horizon : Nat) (g : Group) : Bool := g.accepted || g.complete || (decide (g.no ≤ horizon) && oneCopy g)

/-- The groups that replay takes, and those after the first that it does not. -/
def splitReplay (horizon : Nat) : List Group → List Group × List Group
  | [] => ([], [])
  | g :: l =>
    if replayTakes horizon g then
      let r := splitReplay horizon l
      (g :: r.1, r.2)
    else ([], g :: l)

/-- The horizon of replay: the highest of any descriptor and of the flush's closing record (06 R202). -/
def replayHorizon (s : State) : Nat :=
  let d := match s.ftl.shutdown with
    | some x => x.2
    | none => 0
  (s.ledger.groups.map Group.horizon).foldl max d

/-- Groups discarded. The export sequences of their entries are not assigned again, and a stream that one of them opened is not
open (06 R202, R205). -/
def discardGroups (dead : List Group) (s : State) : State :=
  let es := (dead.map Group.entries).flatten
  let back := fun (x : ExpStream × Nat) =>
    { x.1 with opening := x.1.opening && !(es.filterMap opensStream).any (fun p => byteAt p 0 == x.2) }
  let ss := (s.ledger.streams.zip (List.range s.ledger.streams.length)).map back
  let gs := s.ledger.groups.filter (fun g => !dead.any (fun d => d.no == g.no && d.released == g.released))
  dropResults es (bumpI P12.GROUPS_DISCARDED 0 dead.length { s with ledger := { s.ledger with streams := ss, groups := gs } })

/-- The highest number of a group; carry groups have none. -/
def topGroup (s : State) : Nat :=
  ((s.ledger.groups.map Group.no).filter (fun n => decide (n < carryBase))).foldl max s.ledger.replayBase

/-- A copy of a page that is not verified is written again, on its own die or on another of its channel (06 R202, R216). -/
def againCopy (c : Chan) (s : State) (x : Nat × (Nat × CopySt)) : State :=
  let die := ((pageOf s x.1 x.2.1).map (copyDie c)).getD 0
  if (rotaDies s c).contains die then placeCopy x.1 x.2.1 c die .programming s
  else match (rotaDies s c).head? with
    | some d => placeCopy x.1 x.2.1 c d .programming s
    | none => modCopy x.1 x.2.1 c die .missing s

/-- The groups that replay leaves are accepted, and their missing copies queued (06 R202). -/
def acceptTaken (s : State) : State :=
  let t := { s with ledger := { s.ledger with groups := s.ledger.groups.map (fun g => { g with accepted := true }) } }
  let again := fun (c : Chan) (u : State) => (copiesOf u c (fun _ p => copySt c p != .verified)).foldl (againCopy c) u
  again .c1 (again .c0 t)

/-- The REPLAY entry (06 Table 06-2). -/
def replayEntry (base top : Nat) : Entry := ctlEntry 0x09 (leB 8 base ++ leB 8 top) [] .none 0x12

/-- The decision of replay: groups taken and discarded, the horizon, and the REPLAY entry, which comes first (06 R202). -/
def decideReplay (s : State) : State :=
  let top := topGroup s
  let waits := s.ledger.groups.filter (fun g => !g.released)
  let r := splitReplay (replayHorizon s) waits
  let s1 := acceptTaken (discardGroups r.2 s)
  let base := topGroup s1
  let s2 := { s1 with ledger := { s1.ledger with horizon := max s1.ledger.horizon base, replayBase := base,
                                                 bootCount := s1.ledger.bootCount + 1 } }
  postEntry (replayEntry base top) (wr P12.LAST_GROUP base s2)

/-- The effects of accepted groups that were never released stand now, and no reply is sent (06 R202; 17 R530). -/
def replayGroups (s : State) : State :=
  let l := s.ledger.groups.filter (fun g => !g.released)
  let t := applyDue (l.foldl (fun u g => releaseGroup false g u) s)
  let due := match t.plumb.legalDue with
    | some x => some x
    | none => t.plumb.legalReplayed
  resetPair { t with plumb := { t.plumb with legalDue := none, legalReplayed := due }, dl := { t.dl with resetNowAt := none } }

/-- Sessions after a power-on: one that was open waits to be resumed, one past its last durable reply (02 R56; 17 R534). -/
def resumeSessions (s : State) : State :=
  let f := fun (x : Sess × Nat) => match x.1.st with
    | .opened => { x.1 with st := .resume, n := (durableNext s x.2).getD x.1.n }
    | .resume => { x.1 with n := (durableNext s x.2).getD x.1.n }
    | .closed => x.1
  { s with cmd := { s.cmd with sess := (s.cmd.sess.zip (List.range s.cmd.sess.length)).map f } }

/-- The presence maps rebuilt from the accepted records (04 R151, R161; 17 R535). -/
def rebuildMaps (s : State) : State :=
  { s with infeed := { s.infeed with presence := s.infeed.presence.filterMap (fun x =>
    x.2.solid.map (fun y => (x.1, { h := y.1, slots := y.2, solid := some y }))) } }

/-- Provisional records whose batch did not close are abandoned (06 R201). -/
def abandonReplay (s : State) : State :=
  let open_ := ((s.ledger.groups.map Group.entries).flatten).filterMap (fun e =>
    if e.prov ∧ s.ledger.closedBatches.contains e.batch = false ∧ s.ledger.abandoned.contains e.batch = false then
      some e.batch else none)
  let new := open_.foldl (fun l n => if l.contains n then l else l ++ [n]) []
  { s with ledger := { s.ledger with abandoned := s.ledger.abandoned ++ new }
           infeed := { s.infeed with batches := s.infeed.batches.filter (fun b => b.st == 3), frames := [] } }

/-- The accepted TALLY entries of a subkind, those whose segments were reclaimed first (06 R213; 07 R233, R236). -/
def tallyEntries (s : State) (sub : Nat) : List Entry :=
  (s.ledger.ckpt ++ acceptedEntries s).filter (fun e => e.kind == 7 && byteAt e.head 0 == sub && !e.carry)

/-- The accepted BALANCE entries of a group, oldest first. -/
def balancesOf (s : State) (g : Nat) : List Entry := (tallyEntries s 1).filter (fun e => leAt e.head 2 2 == g)

/-- The end of the interval of a BALANCE entry. -/
def balT (e : Entry) : Nat := leAt e.head 4 5

/-- The interval of a BALANCE entry was counted (07 R232). -/
def balCounted (e : Entry) : Bool := decide (byteAt e.head 1 < 3) && !bitAt (byteAt e.head 9) 2

/-- The instant from which a group has had its FEED and INTERVAL: the intervals that end later count in its windows (07
R226). -/
def feedSince (x : GroupSt) : Nat :=
  (x.defs.foldl (fun (a : Nat × GroupDef) d => if d.1 ≤ x.lastT then (if feedChanged a.2 d.2 then d.1 else a.1, d.2) else a)
    (0, {})).1

/-- NEG_WIN rebuilt from the result codes of the group's last 64 BALANCE entries (07 R236). -/
def negWinOf (s : State) (g : Nat) (x : GroupSt) : Nat :=
  let l := balancesOf s g
  ((l.drop (l.length - 64)).filter (fun e => balCounted e && decide (feedSince x < balT e))).foldl
    (fun w e => shiftWin w (byteAt e.head 1 == 2)) 0

/-- A group after replay: what its newest accepted BALANCE entry recorded, under the definitions as they stand; a change of
FEED or INTERVAL that has taken over since has cleared the windows (07 R226, R233, R236). -/
def restoreGroup (s : State) (x : Nat × GroupSt) : Nat × GroupSt :=
  match assocGet x.1 s.tally.durG with
  | some d =>
    let y := { d with defs := x.2.defs }
    let z := if feedChanged (defFor y (y.lastT - 1)) (dfOf y) then clearWins y else y
    (x.1, { z with negWin := negWinOf s x.1 y })
  | none => (x.1, { defs := x.2.defs })

/-- The runs of the members of a group after one closed interval, from the accepted records; what an ANOMALY entry records
counts from there (07 R234, R235). -/
def rebuildRuns (g t : Nat) (s : State) : State :=
  let d := defFor (grpAt s g) (t - 1)
  if bitAt d.flags 0 = false then s
  else (membersOf s g d t).foldl (fun u m =>
    match memberIn u d t m with
    | .reports imp _ _ =>
      let a := anomAt u m.mix
      if a.entryT < t then setAnom m.mix (runRules u d t m imp a) u else u
    | _ => u) s

/-- The runs of a group's members after its last 64 closed intervals, the greatest run that a rule tests (07 R223, R235). -/
def groupRuns (s : State) (g : Nat) : State :=
  let l := balancesOf s g
  (l.drop (l.length - 64)).foldl (fun t e => rebuildRuns g (balT e) t) s

/-- Tally after a reset: groups and active anomalies as the accepted entries hold them, run counts rebuilt from the accepted
records (07 R233, R235, R236, R246). -/
def restoreTally (s : State) : State :=
  let t := { s with tally := { s.tally with groups := s.tally.groups.map (restoreGroup s), anoms := s.tally.durA } }
  tallyFields ((t.tally.groups.map Prod.fst).foldl groupRuns t)

/-! What goes on after replay (10 R355, R366). -/

/-- A step of a campaign's meter is posted and not accepted. -/
def stepPosted (s : State) (no mix : Nat) : Bool :=
  (unreleased s).any (fun e => e.kind == 0x05 && byteAt e.head 0 == 3 && leAt e.head 1 3 == mix && leAt e.head 4 4 == no)

/-- What the end of a campaign item means, once more; an item that has not ended means nothing. -/
def resumeItem (c : Camp) (i : DlItem) (s : State) : State :=
  if i.st = 3 then campConcluded c i [] s
  else if i.st = 4 ∨ i.st = 5 then campLeft c i (i.st == 5) s
  else s

/-- A meter of a campaign goes on where the accepted entries leave it. -/
def resumeMeter (c : Camp) (s : State) (m : CampMeter) : State :=
  if meterOver m = true ∨ stepPosted s c.no m.mix = true then s
  else if c.st = 5 then abortMeter c m.mix s
  else if m.st = 1 ∧ c.st ≠ 1 then
    match campItemOf s c.no m.mix 0xF1 with
    | some i => resumeItem c i s
    | none => if c.st = 2 then createItem (campItem s c m.mix 0xF1 (startBody c)) s else s
  else if m.st = 3 ∨ m.st = 4 then
    match campItemOf s c.no m.mix 0xF4 with
    | some i => if m.st = 3 ∧ i.st = 2 then meterStep10 c m 4 i.id [] s else resumeItem c i s
    | none => if m.st = 3 ∧ c.st = 2 then activateMeter c m.mix s else s
  else s

/-- Campaigns that run go on (10 R355). -/
def resumeCampaigns (s : State) : State :=
  (s.dl.camps.filter (fun c => [1, 2, 3, 5].contains c.st)).foldl (fun t c => c.meters.foldl (resumeMeter c) t) s

/-- A meter in progress of a push: parts that are not recorded are created again (10 R346). -/
def resumePart (x : Push) (s : State) (mix : Nat) : State :=
  let have_ := s.dl.items.filter (fun i => i.owner == .push x.no && i.mix == mix)
  let lost := (List.range (pushParts x)).filter (fun k => !have_.any (fun i => byteAt i.body 4 == k))
  let mk := fun (k : Nat) => ({ no := 0, mix := mix, cmd := 0xF0, way := 0, expiry := x.activate,
                                max := rd s P60.DL_ATTEMPTS, body := partBody x k, owner := .push x.no } : DlItem)
  pushProgress x.no mix (if x.cancelled then s else lost.foldl (fun t k => createItem (mk k) t) s)

/-- Pushes go on. -/
def resumePushes (s : State) : State :=
  tariffEntry ((s.dl.pushes.filter Push.live).foldl (fun t x =>
    (x.meters.filter (fun m => m.2 == 2)).foldl (fun u m => resumePart x u m.1) t) s)

/-- The command has an accepted COMMAND entry. -/
def cmdAccepted (l : List Entry) (h : Hdr) : Bool :=
  l.any (fun e => match e.act with
    | .command g _ _ _ _ _ => g == h
    | _ => false)

/-- Step 9: replay, then everything that is rebuilt from accepted work only (06 R202; 17 R535, R537). -/
def replay (power : Bool) (s : State) : State :=
  let s1 := replayGroups (decideReplay s)
  let s2 := restoreTally (abandonReplay (rebuildMaps (if power then resumeSessions s1 else s1)))
  let s3 := rebuildTails (s2.infeed.presence.map Prod.fst) (abortCmds (fun _ => true) (fixMarks s2))
  let s4 := undoFills (cmdAccepted (acceptedEntries s3)) s3
  let s5 := s4.tally.campaigns.foldl restartCamp s4
  legalRepost (resumePushes (resumeCampaigns s5))

/-! The pages' status fields. -/

/-- The status fields that count what was rebuilt. -/
def countFields (s : State) : State :=
  let s1 := keyFields (tallyFields (campFields (fwCampFields (dlCount (meterCount s)))))
  let s2 := (List.range 3).foldl (fun t n => joinCount n t) ((List.range 16).foldl (fun t n => radCounts n t) s1)
  evFields (dmaFields (strFieldsAll (repFields (ftlFields s2))))

/-- The flash store's conditions after start-up (13 R445, R453; 06 R214 to R216). -/
def storeFields (s : State) : State :=
  let s1 := checkWorn s
  let s2 := if rdB s1 P41.WORN then wr P12.WORN 1 s1 else s1
  let s3 := if (diePairs s2).isEmpty then wr P12.NO_DIE_PAIR 1 s2 else s2
  let s4 := if 0 < toReplicate s3 then wr P12.SINGLE_COPY 1 s3 else s3
  let s5 := if (lostCopies s4 .c0).isEmpty ∧ (lostCopies s4 .c1).isEmpty then s4 else wr P41.MAP_SINGLE 1 s4
  checkSpace s5

/-! The row (17 Table 17-4). -/

/-- Start-up came to a step and stops there. -/
def stopAt (n : Nat) (s : State) : State := { s with pwr := { s.pwr with step := n } }

/-- Steps 5 to 9, after the boot image verified. -/
def startRest (b : BootIn) (power : Bool) (s : State) : State :=
  let s1 := checkMemory b power s
  let s2 := postP256 16 (keyStoreRead b.keysReadable b.badKeys s1)
  let s3 := wrB P40.ENTROPY_OK (power || !s2.keys.entropyBad)
    { s2 with keys := { s2.keys with entropyBad := !power && s2.keys.entropyBad } }
  let s4 := if power then legalResume s3 else s3
  if (b.images.drop 1).take 4 ≠ [true, true, true, true] then stopAt 7 s4
  else
    let s5 := startMedia s4
    let s6 := if storeOk s5 then replay power s5 else s5
    let s7 := storeFields (countFields s6)
    tryRun { s7 with ftl := { s7.ftl with shutdown := none }
                     pwr := { s7.pwr with step := 9, flush := none, shutdownSeen := false } }

/-- START_UP: the steps of Table 17-4, from the first after a power-on reset and from the third after a device reset. It
stops at step 4 without a verified boot image, at step 7 without the other components, and else waits at step 9 for Plumb
and the beat number, which enter RUN (03 R112; 17 R533). -/
def execStartUp (b : BootIn) (s : State) : Host.Outcome State Fault Refusal :=
  .next (
    if s.pwr.mode ≠ .start ∨ s.pwr.held = true ∨ (s.pwr.step ≠ 0 ∧ s.pwr.step ≠ 3) then s
    else
      let power := s.pwr.step == 0
      let s1 := readStore b (if power then readBattery b s else s)
      if b.images.getD 0 false = false then stopAt 4 s1
      else startRest b power (countBoot power s1))

/-- PRESENCE_CHECKPOINT: each channel's presence map and tail are written to the settings partition (17 R535): 64 bytes a
channel. -/
def execPresenceCheckpoint (s : State) : Host.Outcome State Fault Refusal :=
  .next (if running s = false then s
    else writePages ptSettings 0 (ceilDiv (64 * s.infeed.presence.length) s.ftl.pageSize) s)

end Sys2Proof.Machine
end

