-- ==== Sys2Proof/Machine/Dispatch.lean ====
section
/-! DEFINITION. One arm per command, each a direct call of its meaning. -/
namespace Sys2Proof.Machine

/-- What a command does to everything but the queue. -/
def exec (i : Instr) (s : State) : Host.Outcome State Fault Refusal :=
  match i with
  | .nop h p => Sys2Proof.Machine.execNop h p s
  | .openSession h p => Sys2Proof.Machine.execOpenSession h p s
  | .closeSession h p => Sys2Proof.Machine.execCloseSession h p s
  | .getSession h p => Sys2Proof.Machine.execGetSession h p s
  | .getIdentity h p => Sys2Proof.Machine.execGetIdentity h p s
  | .getStatus h p => Sys2Proof.Machine.execGetStatus h p s
  | .funcReset h p => Sys2Proof.Machine.execFuncReset h p s
  | .devReset h p => Sys2Proof.Machine.execDevReset h p s
  | .pwrCycleReq h p => Sys2Proof.Machine.execPwrCycleReq h p s
  | .enumerate h p => Sys2Proof.Machine.execEnumerate h p s
  | .getLinkStatus h p => Sys2Proof.Machine.execGetLinkStatus h p s
  | .setLegalTime h p sigOk => Sys2Proof.Machine.execSetLegalTime h p sigOk s
  | .setSlotTime h p => Sys2Proof.Machine.execSetSlotTime h p s
  | .getTime h p => Sys2Proof.Machine.execGetTime h p s
  | .getParam h p => Sys2Proof.Machine.execGetParam h p s
  | .setParam h p sigOk => Sys2Proof.Machine.execSetParam h p sigOk s
  | .getParamDefaults h p => Sys2Proof.Machine.execGetParamDefaults h p s
  | .restoreDefaults h p => Sys2Proof.Machine.execRestoreDefaults h p s
  | .ingestBatch h p => Sys2Proof.Machine.execIngestBatch h p s
  | .getBatchStatus h p => Sys2Proof.Machine.execGetBatchStatus h p s
  | .enrolMeter h p => Sys2Proof.Machine.execEnrolMeter h p s
  | .retireMeter h p => Sys2Proof.Machine.execRetireMeter h p s
  | .loadProfileTemplate h p => Sys2Proof.Machine.execLoadProfileTemplate h p s
  | .streamOpen h p => Sys2Proof.Machine.execStreamOpen h p s
  | .streamClose h p => Sys2Proof.Machine.execStreamClose h p s
  | .streamData h p => Sys2Proof.Machine.execStreamData h p s
  | .getMeter h p => Sys2Proof.Machine.execGetMeter h p s
  | .setRules h p => Sys2Proof.Machine.execSetRules h p s
  | .editReading h p => Sys2Proof.Machine.execEditReading h p s
  | .exportOpen h p => Sys2Proof.Machine.execExportOpen h p s
  | .exportRead h p => Sys2Proof.Machine.execExportRead h p s
  | .exportAck h p => Sys2Proof.Machine.execExportAck h p s
  | .exportClose h p => Sys2Proof.Machine.execExportClose h p s
  | .ledgerQuery h p => Sys2Proof.Machine.execLedgerQuery h p s
  | .ledgerStatus h p => Sys2Proof.Machine.execLedgerStatus h p s
  | .dlQueue h p => Sys2Proof.Machine.execDlQueue h p s
  | .dlUrgent h p => Sys2Proof.Machine.execDlUrgent h p s
  | .dlStatus h p => Sys2Proof.Machine.execDlStatus h p s
  | .dlCancel h p => Sys2Proof.Machine.execDlCancel h p s
  | .tariffPush h p => Sys2Proof.Machine.execTariffPush h p s
  | .campaignCreate h p => Sys2Proof.Machine.execCampaignCreate h p s
  | .campaignControl h p => Sys2Proof.Machine.execCampaignControl h p s
  | .campaignStatus h p => Sys2Proof.Machine.execCampaignStatus h p s
  | .balanceGroupSet h p => Sys2Proof.Machine.execBalanceGroupSet h p s
  | .scribeCampaign h p => Sys2Proof.Machine.execScribeCampaign h p s
  | .tallyQuery h p => Sys2Proof.Machine.execTallyQuery h p s
  | .radioNeighbours h p => Sys2Proof.Machine.execRadioNeighbours h p s
  | .plcRoutes h p => Sys2Proof.Machine.execPlcRoutes h p s
  | .keyImport h p data => Sys2Proof.Machine.execKeyImport h p data s
  | .keyGenerate h p => Sys2Proof.Machine.execKeyGenerate h p s
  | .keyZeroise h p => Sys2Proof.Machine.execKeyZeroise h p s
  | .keyInfo h p => Sys2Proof.Machine.execKeyInfo h p s
  | .pubkeyExport h p => Sys2Proof.Machine.execPubkeyExport h p s
  | .keyAgree h p onCurve => Sys2Proof.Machine.execKeyAgree h p onCurve s
  | .imageBegin h p => Sys2Proof.Machine.execImageBegin h p s
  | .imageBlock h p => Sys2Proof.Machine.execImageBlock h p s
  | .imageCommit h p sigOk => Sys2Proof.Machine.execImageCommit h p sigOk s
  | .imageActivate h p => Sys2Proof.Machine.execImageActivate h p s
  | .imageStatus h p => Sys2Proof.Machine.execImageStatus h p s
  | .meterImageLoad h p => Sys2Proof.Machine.execMeterImageLoad h p s
  | .eventRead h p => Sys2Proof.Machine.execEventRead h p s
  | .counterRead h p => Sys2Proof.Machine.execCounterRead h p s
  | .counterConfig h p => Sys2Proof.Machine.execCounterConfig h p s
  | .memRead h p => Sys2Proof.Machine.execMemRead h p s
  | .dmaStart h p => Sys2Proof.Machine.execDmaStart h p s
  | .selfTest h p => Sys2Proof.Machine.execSelfTest h p s
  | .ftlStatus h p => Sys2Proof.Machine.execFtlStatus h p s
  | .pair h p x => Sys2Proof.Machine.execPair h p x s
  | .unpair h p => Sys2Proof.Machine.execUnpair h p s
  | .pairStatus h p => Sys2Proof.Machine.execPairStatus h p s
  | .resolveDivergence h p => Sys2Proof.Machine.execResolveDivergence h p s
  | .promote h p => Sys2Proof.Machine.execPromote h p s
  | .readRegisters h p => Sys2Proof.Machine.execReadRegisters h p s
  | .readBillingSet h p => Sys2Proof.Machine.execReadBillingSet h p s
  | .calendarLoad h p sigOk => Sys2Proof.Machine.execCalendarLoad h p sigOk s
  | .calendarActivate h p sigOk => Sys2Proof.Machine.execCalendarActivate h p sigOk s
  | .calibrate h p sigOk => Sys2Proof.Machine.execCalibrate h p sigOk s
  | .billingClose h p sigOk => Sys2Proof.Machine.execBillingClose h p sigOk s
  | .displayList h p => Sys2Proof.Machine.execDisplayList h p s
  | .outputControl h p => Sys2Proof.Machine.execOutputControl h p s
  | .legalLogRead h p => Sys2Proof.Machine.execLegalLogRead h p s
  | .roleWrite h v => Sys2Proof.Machine.execRoleWrite h v s
  | .radioEnWrite h v => Sys2Proof.Machine.execRadioEnWrite h v s
  | .plcEnWrite h v => Sys2Proof.Machine.execPlcEnWrite h v s
  | .metroEnWrite h v => Sys2Proof.Machine.execMetroEnWrite h v s
  | .powerCapWrite h v => Sys2Proof.Machine.execPowerCapWrite h v s
  | .holdCWrite h v => Sys2Proof.Machine.execHoldCWrite h v s
  | .holdDivWrite h v => Sys2Proof.Machine.execHoldDivWrite h v s
  | .cMeasClear h => Sys2Proof.Machine.execCMeasClear h s
  | .ethertypeWrite h v => Sys2Proof.Machine.execEthertypeWrite h v s
  | .radioChannelEnWrite h ch v => Sys2Proof.Machine.execRadioChannelEnWrite h ch v s
  | .plcPhaseEnWrite h ph v => Sys2Proof.Machine.execPlcPhaseEnWrite h ph v s
  | .legalUpdModeWrite h v a => Sys2Proof.Machine.execLegalUpdModeWrite h v a s
  | .sealCalWrite h v a => Sys2Proof.Machine.execSealCalWrite h v a s
  | .legalKeyWrite h v a => Sys2Proof.Machine.execLegalKeyWrite h v a s
  | .plainImportWrite h v => Sys2Proof.Machine.execPlainImportWrite h v s
  | .tamperSeenClear h => Sys2Proof.Machine.execTamperSeenClear h s
  | .wrapClear h mask => Sys2Proof.Machine.execWrapClear h mask s
  | .profilePeriodWrite h v a => Sys2Proof.Machine.execProfilePeriodWrite h v a s
  | .demandSettingWrite h method period subs a => Sys2Proof.Machine.execDemandSettingWrite h method period subs a s
  | .tzDstWrite h z a => Sys2Proof.Machine.execTzDstWrite h z a s
  | .beatBoundary b => Sys2Proof.Machine.execBeatBoundary b s
  | .denSensorRestored n => Sys2Proof.Machine.execDenSensorRestored n s
  | .denThermalTrip => Sys2Proof.Machine.execDenThermalTrip s
  | .itemOwed => Sys2Proof.Machine.execItemOwed s
  | .holdAssert ef => Sys2Proof.Machine.execHoldAssert ef s
  | .holdRelease ef => Sys2Proof.Machine.execHoldRelease ef s
  | .reorderGapExpire sess seq => Sys2Proof.Machine.execReorderGapExpire sess seq s
  | .pendingReply sess seq percent => Sys2Proof.Machine.execPendingReply sess seq percent s
  | .linkDataFrame port f => Sys2Proof.Machine.execLinkDataFrame port f s
  | .linkAck port c => Sys2Proof.Machine.execLinkAck port c s
  | .linkNack port c => Sys2Proof.Machine.execLinkNack port c s
  | .linkRtoExpire port => Sys2Proof.Machine.execLinkRtoExpire port s
  | .linkProbe port c => Sys2Proof.Machine.execLinkProbe port c s
  | .linkProbeSend port => Sys2Proof.Machine.execLinkProbeSend port s
  | .linkResync port c => Sys2Proof.Machine.execLinkResync port c s
  | .linkHoldExpire port => Sys2Proof.Machine.execLinkHoldExpire port s
  | .linkUp port addr => Sys2Proof.Machine.execLinkUp port addr s
  | .linkDown port lockLost => Sys2Proof.Machine.execLinkDown port lockLost s
  | .pauseFrameDrop port => Sys2Proof.Machine.execPauseFrameDrop port s
  | .sync m => Sys2Proof.Machine.execSync m s
  | .syncLossExpire => Sys2Proof.Machine.execSyncLossExpire s
  | .startWaitExpire => Sys2Proof.Machine.execStartWaitExpire s
  | .pdelayReqSend port => Sys2Proof.Machine.execPdelayReqSend port s
  | .pdelayReq port domain turnaround => Sys2Proof.Machine.execPdelayReq port domain turnaround s
  | .pdelayResp port domain trip => Sys2Proof.Machine.execPdelayResp port domain trip s
  | .announceForward message => Sys2Proof.Machine.execAnnounceForward message s
  | .legalTimeStepped => Sys2Proof.Machine.execLegalTimeStepped s
  | .ppsInEdge sinceBeat => Sys2Proof.Machine.execPpsInEdge sinceBeat s
  | .ppsOutPulse => Sys2Proof.Machine.execPpsOutPulse s
  | .mainsLost samples => Sys2Proof.Machine.execMainsLost samples s
  | .flushEnd => Sys2Proof.Machine.execFlushEnd s
  | .pwrReq => Sys2Proof.Machine.execPwrReq s
  | .resetNLow low => Sys2Proof.Machine.execResetNLow low s
  | .supplyMonitorTrip => Sys2Proof.Machine.execSupplyMonitorTrip s
  | .powerOnReset => Sys2Proof.Machine.execPowerOnReset s
  | .mainPowerLost => Sys2Proof.Machine.execMainPowerLost s
  | .vbatRise => Sys2Proof.Machine.execVbatRise s
  | .vbatFall => Sys2Proof.Machine.execVbatFall s
  | .startUp b => Sys2Proof.Machine.execStartUp b s
  | .presenceCheckpoint => Sys2Proof.Machine.execPresenceCheckpoint s
  | .coreWatchdog core fn => Sys2Proof.Machine.execCoreWatchdog core fn s
  | .kernelHeartbeatMissing => Sys2Proof.Machine.execKernelHeartbeatMissing s
  | .ledgerGroupSeal => Sys2Proof.Machine.execLedgerGroupSeal s
  | .pageProgramDone group page chan ok => Sys2Proof.Machine.execPageProgramDone group page chan ok s
  | .copyVerified group page chan bits same => Sys2Proof.Machine.execCopyVerified group page chan bits same s
  | .groupAccept => Sys2Proof.Machine.execGroupAccept s
  | .groupRelease => Sys2Proof.Machine.execGroupRelease s
  | .segmentReclaim seg => Sys2Proof.Machine.execSegmentReclaim seg s
  | .ledgerWorn => Sys2Proof.Machine.execLedgerWorn s
  | .ledgerDieLost chan die => Sys2Proof.Machine.execLedgerDieLost chan die s
  | .rereplicationDone => Sys2Proof.Machine.execRereplicationDone s
  | .slowPathReturn r => Sys2Proof.Machine.execSlowPathReturn r s
  | .unsealComplete job st => Sys2Proof.Machine.execUnsealComplete job st s
  | .batchExpired id => Sys2Proof.Machine.execBatchExpired id s
  | .intervalClose group => Sys2Proof.Machine.execIntervalClose group s
  | .scribeEvaluate campaign mix => Sys2Proof.Machine.execScribeEvaluate campaign mix s
  | .radioFrameReceived ch f => Sys2Proof.Machine.execRadioFrameReceived ch f s
  | .floodRelay origin seq => Sys2Proof.Machine.execFloodRelay origin seq s
  | .seenEntryExpire origin seq => Sys2Proof.Machine.execSeenEntryExpire origin seq s
  | .associationRequest ch ext rxOnIdle => Sys2Proof.Machine.execAssociationRequest ch ext rxOnIdle s
  | .dataRequest ch ext => Sys2Proof.Machine.execDataRequest ch ext s
  | .slotRequest ch r => Sys2Proof.Machine.execSlotRequest ch r s
  | .slotRelease ch ext => Sys2Proof.Machine.execSlotRelease ch ext s
  | .orphanNotification ch ext => Sys2Proof.Machine.execOrphanNotification ch ext s
  | .beaconTransmit ch sinceBeat => Sys2Proof.Machine.execBeaconTransmit ch sinceBeat s
  | .beaconReceived ch b => Sys2Proof.Machine.execBeaconReceived ch b s
  | .radioParentLost ch => Sys2Proof.Machine.execRadioParentLost ch s
  | .radioOrphanScan ch => Sys2Proof.Machine.execRadioOrphanScan ch s
  | .orphanHoldExpire ch => Sys2Proof.Machine.execOrphanHoldExpire ch s
  | .radioJoin ch found => Sys2Proof.Machine.execRadioJoin ch found s
  | .slotMissed ch ext instant => Sys2Proof.Machine.execSlotMissed ch ext instant s
  | .shortAddrReleased ch short => Sys2Proof.Machine.execShortAddrReleased ch short s
  | .rendezvousSlot ch sinceBeat psdu => Sys2Proof.Machine.execRendezvousSlot ch sinceBeat psdu s
  | .radioTransmit ch psdu a => Sys2Proof.Machine.execRadioTransmit ch psdu a s
  | .zeroCrossing ph sinceBeat x => Sys2Proof.Machine.execZeroCrossing ph sinceBeat x s
  | .flywheelCycle ph x => Sys2Proof.Machine.execFlywheelCycle ph x s
  | .plcFrameReceived ph x => Sys2Proof.Machine.execPlcFrameReceived ph x s
  | .plcLinkAckTimeout ph => Sys2Proof.Machine.execPlcLinkAckTimeout ph s
  | .tmPeriodBoundary ph m => Sys2Proof.Machine.execTmPeriodBoundary ph m s
  | .tmBlankHoldExpire ph addr seg => Sys2Proof.Machine.execTmBlankHoldExpire ph addr seg s
  | .routeAdvertisement ph => Sys2Proof.Machine.execRouteAdvertisement ph s
  | .routeAgeExpire ph title => Sys2Proof.Machine.execRouteAgeExpire ph title s
  | .plcAddrHoldExpire ph short => Sys2Proof.Machine.execPlcAddrHoldExpire ph short s
  | .txAbortImpedance ph => Sys2Proof.Machine.execTxAbortImpedance ph s
  | .tripRetryExpire ph => Sys2Proof.Machine.execTripRetryExpire ph s
  | .tripBackoffExpire ph => Sys2Proof.Machine.execTripBackoffExpire ph s
  | .dlDispatch mix urgent => Sys2Proof.Machine.execDlDispatch mix urgent s
  | .dlResendExpire item => Sys2Proof.Machine.execDlResendExpire item s
  | .dlExpiry item => Sys2Proof.Machine.execDlExpiry item s
  | .campaignRound campaign => Sys2Proof.Machine.execCampaignRound campaign s
  | .roundWaitExpire campaign => Sys2Proof.Machine.execRoundWaitExpire campaign s
  | .campaignEnded campaign => Sys2Proof.Machine.execCampaignEnded campaign s
  | .bootWindowExpire component => Sys2Proof.Machine.execBootWindowExpire component s
  | .updateConfirmed => Sys2Proof.Machine.execUpdateConfirmed s
  | .legalSecondEnd sec => Sys2Proof.Machine.execLegalSecondEnd sec s
  | .profileIntervalEnd => Sys2Proof.Machine.execProfileIntervalEnd s
  | .demandIntervalEnd => Sys2Proof.Machine.execDemandIntervalEnd s
  | .scheduledClosure => Sys2Proof.Machine.execScheduledClosure s
  | .calendarMinute => Sys2Proof.Machine.execCalendarMinute s
  | .calendarActivation => Sys2Proof.Machine.execCalendarActivation s
  | .dstChange => Sys2Proof.Machine.execDstChange s
  | .legalLockstep => Sys2Proof.Machine.execLegalLockstep s
  | .sealNChange asserted => Sys2Proof.Machine.execSealNChange asserted s
  | .buttonPress => Sys2Proof.Machine.execButtonPress s
  | .scrollExpire => Sys2Proof.Machine.execScrollExpire s
  | .dispTimeoutExpire => Sys2Proof.Machine.execDispTimeoutExpire s
  | .displayRefresh ack => Sys2Proof.Machine.execDisplayRefresh ack s
  | .outputPulse n => Sys2Proof.Machine.execOutputPulse n s
  | .laneJobPost j => Sys2Proof.Machine.execLaneJobPost j s
  | .laneJobComplete lane st cycles => Sys2Proof.Machine.execLaneJobComplete lane st cycles s
  | .entropyFail => Sys2Proof.Machine.execEntropyFail s
  | .zeroisedTamper => Sys2Proof.Machine.execZeroisedTamper s
  | .tamperLatch => Sys2Proof.Machine.execTamperLatch s
  | .debugEnabled => Sys2Proof.Machine.execDebugEnabled s
  | .journalCommit => Sys2Proof.Machine.execJournalCommit s
  | .journalMsExpire => Sys2Proof.Machine.execJournalMsExpire s
  | .ftlSnapshot => Sys2Proof.Machine.execFtlSnapshot s
  | .eraseFail chan die blk => Sys2Proof.Machine.execEraseFail chan die blk s
  | .readRefresh r => Sys2Proof.Machine.execReadRefresh r s
  | .patrolRead r => Sys2Proof.Machine.execPatrolRead r s
  | .flashDieLost chan die busy => Sys2Proof.Machine.execFlashDieLost chan die busy s
  | .gcPost part chan => Sys2Proof.Machine.execGcPost part chan s
  | .eraseDone chan die blk => Sys2Proof.Machine.execEraseDone chan die blk s
  | .wearLevelMove chan => Sys2Proof.Machine.execWearLevelMove chan s
  | .memCorrected array => Sys2Proof.Machine.execMemCorrected array s
  | .memUncorrectable addr => Sys2Proof.Machine.execMemUncorrectable addr s
  | .poisonConsumed c => Sys2Proof.Machine.execPoisonConsumed c s
  | .dramPatrolScrub addr corrected uncorrectable live => Sys2Proof.Machine.execDramPatrolScrub addr corrected uncorrectable live s
  | .sramScrub corrected => Sys2Proof.Machine.execSramScrub corrected s
  | .dmaRunStart => Sys2Proof.Machine.execDmaRunStart s
  | .dmaRunComplete => Sys2Proof.Machine.execDmaRunComplete s
  | .fifoBankClose ef => Sys2Proof.Machine.execFifoBankClose ef s
  | .streamDrop port => Sys2Proof.Machine.execStreamDrop port s
  | .streamProgress port => Sys2Proof.Machine.execStreamProgress port s
  | .beatFrameReceived port f => Sys2Proof.Machine.execBeatFrameReceived port f s
  | .digestWaitExpire => Sys2Proof.Machine.execDigestWaitExpire s
  | .dovetailPromoted => Sys2Proof.Machine.execDovetailPromoted s
  | .joinLimitExpire => Sys2Proof.Machine.execJoinLimitExpire s
  | .pairJoinStart x => Sys2Proof.Machine.execPairJoinStart x s
  | .eventFlush => Sys2Proof.Machine.execEventFlush s
  | .counterWindowEnd => Sys2Proof.Machine.execCounterWindowEnd s
  | .snapshotWrite => Sys2Proof.Machine.execSnapshotWrite s
  | .opHoursTick => Sys2Proof.Machine.execOpHoursTick s
  | .enhAckWaitExpire ch => Sys2Proof.Machine.execEnhAckWaitExpire ch s
  | .phrDecoded ch psdu modeSwitch sfd => Sys2Proof.Machine.execPhrDecoded ch psdu modeSwitch sfd s
  | .plcHeaderDecoded ph tones offset start => Sys2Proof.Machine.execPlcHeaderDecoded ph tones offset start s
  | .resetNow => Sys2Proof.Machine.execResetNow s
  | .funcResetComplete fn => Sys2Proof.Machine.execFuncResetComplete fn s

end Sys2Proof.Machine
end

