-- ==== Sys2Proof/Safety.lean ====
section
/-! DEFINITION. What counts as a safe state and a safe run, and when a host command is executed, in the terms the claims
use. -/
namespace Sys2Proof.Machine

/-- The stored tables are canonical: registers and memory are in their one form (assumption log 2). -/
def State.tidy (s : State) : Bool := regsWf s.regs && Memory.wf s.mem

/-- A step answers a next state. -/
def completes (s : State) : Prop := ∃ t, step s = .next t

/-- The device executes a command: no state it is in refuses it (02 R73), its payload has a length its row allows (02
Table 02-6), and, when it creates accepted work (`acc`), such work may be taken on (01 R28; 06 R214). -/
abbrev Served (h : Hdr) (p : List Byte) (acc : Bool) (s : State) : Prop :=
  stateGate s h acc = .pass ∧ lenGate h.opcode p.length = .pass ∧ (acc = true → accGate s h.opcode = .pass)

/-- A device in RUN or TRIM that is not held, not a member of a pair, and not resetting or refusing the function a command
names. -/
abbrev Ready (h : Hdr) (s : State) : Prop :=
  (s.pwr.mode = .run ∨ s.pwr.mode = .trim) ∧ s.pwr.held = false ∧ pairState s = 0 ∧
    assocGet (fnOf h) s.cmd.funcFailed = none ∧ assocGet (fnOf h) s.cmd.funcReset = none

/-- A command accepted: its COMMAND entry, with the reply data, the effect's bytes and the values fixed now, is posted to
the ledger (02 R61; 06 Table 06-2). -/
def accepted (h : Hdr) (p data effBytes : List Byte) (c : Instr) (args : List Nat) (s : State) : State :=
  postEntry (commandEntry h p data effBytes { cmd := some c, args := args, data := p }) s

/-- A command that is done at the next beat boundary: it waits there with the values fixed now, behind the writes of the same
page admitted before it (02 R52, R62). -/
def atBoundary (h : Hdr) (p : List Byte) (c : Instr) (args : List Nat) (s : State) : State :=
  { s with cmd := { s.cmd with
    dueDone := s.cmd.dueDone ++ [⟨h, { cmd := some c, args := args, data := p }, writesBefore { cmd := some c } s⟩] } }

/-- The count of whole beats since reset (01 R5), by which the statements tell the time. -/
abbrev State.now (s : State) : Nat := s.beat.ticks

/-- A host command ended at once with status `st` and detail `d`, no reply data and no other effect (02 R52, R53). -/
abbrev ended (h : Hdr) (p : List Byte) (st d : Nat) (s : State) : Host.Outcome State Fault Refusal :=
  .next (finish h p st d [] s)

/-- A host command done at once: DONE with reply data `d`, and no other effect (02 R52, R53). -/
abbrev answered (h : Hdr) (p d : List Byte) (s : State) : Host.Outcome State Fault Refusal :=
  .next (finish h p stDone 0 d s)

end Sys2Proof.Machine
end

