-- ==== Sys2Proof/WellFormed.lean ====
section
/-! DEFINITION. Which commands are well formed: their operands fit the fields that carry them, and a host command's header
names its opcode and its payload's length (02 Tables 02-1, 02-6). -/
namespace Sys2Proof

/-- What is wrong with a command. -/
inductive IllFormed where
  /-- A header field does not fit its bits (02 Table 02-1). -/
  | headerField
  /-- The header's opcode is another command's (02 Table 02-6). -/
  | opcode
  /-- The header's LENGTH is not the payload's, or the payload exceeds 8,192 bytes (02 Table 02-1). -/
  | payloadLength
  /-- An operand does not fit its field. -/
  | operand
  deriving DecidableEq, Repr

/-- A number fits `n` bits. -/
def below (n v : Nat) : Bool := decide (v < 2 ^ n)

/-- A header's fields fit (02 Table 02-1). -/
def Hdr.fits (h : Hdr) : Bool :=
  below 8 h.verFlags && below 8 h.opcode && below 16 h.len && below 16 h.tag && below 8 h.dest && below 8 h.src
    && below 32 h.flowFn && below 32 h.seq

/-- The check of operands alone. -/
def operands (ok : Bool) : Option IllFormed := if ok then none else some .operand

/-- The checks of a host command that carries a payload. -/
def hostCheck (op : Nat) (h : Hdr) (p : List Byte) : Option IllFormed :=
  if h.fits = false then some .headerField
  else if h.opcode ≠ op then some .opcode
  else if h.len ≠ p.length ∨ 8192 < p.length then some .payloadLength
  else none

/-- The checks of a host command whose payload is given as a header of n bytes and the data after it. -/
def headed (op n : Nat) (h : Hdr) (p data : List Byte) : Option IllFormed :=
  if p.length ≤ n ∧ (data = [] ∨ p.length = n) then hostCheck op h (p ++ data) else some .payloadLength

/-- The checks of a field write: it is a SET_PARAM (02 R75). -/
def fieldCheck (h : Hdr) (ok : Bool) : Option IllFormed :=
  if h.fits = false then some .headerField
  else if h.opcode ≠ 0x21 then some .opcode
  else operands ok

/-! Operand records. -/

/-- A link frame: a packet has at most 8,212 bytes (03 R86, Tables 03-1, 03-2). -/
def linkFrameOk (f : LinkFrame) : Bool :=
  below 16 f.etherType && below 16 f.lseq && below 16 f.lack && below 16 f.credit && below 8 f.addr
    && decide (f.packet.length ≤ 8212)

/-- A link control frame (03 Table 03-2). -/
def linkCtlOk (c : LinkCtl) : Bool := below 16 c.lack && below 16 c.credit && below 8 c.addr

/-- A Sync (03 R103): seconds of 48 bits, nanoseconds below one second. -/
def syncOk (m : SyncMsg) : Bool :=
  below 8 m.domain && below 48 m.originSec && decide (m.originNs < 1000000000) && below 17 m.rxNs

/-- Six sensors, 64 samples, and eight words of 1,024 modulator bits in each sample set (01 R23, R27; 11 R370). -/
def beatInOk (i : BeatIn) : Bool :=
  i.temps.length == 6 && i.sense.length == 64 && i.sets.all (fun x => x.bits.length == 8 && x.bits.all (below 1024))

/-- Five components; DRAM capacities of a byte; key slots (10 Table 10-12; 14 page 0x42; 12 R415). -/
def bootInOk (b : BootIn) : Bool :=
  b.images.length == 5 && below 8 b.ch0Gib && below 8 b.ch1Gib && b.badKeys.all (below 9)

/-- A slow-path return (04 R143). -/
def slowRetOk (r : SlowRet) : Bool :=
  below 20 r.mix && below 32 r.ic && r.rdgs.all (fun x => decide (x.ch < 16))

/-- AUTH_COUNT is a 64-bit count (02 Table 02-4). -/
def authOk_ (a : Option AuthBlk) : Bool := a.all (fun x => below 64 x.count)

/-- The TZ and DST fields (11 page 0x31). -/
def tzDstOk (z : TzDst) : Bool :=
  decide (-32768 ≤ z.tzMin) && decide (z.tzMin < 32768)
    && [z.delta, z.startMonth, z.startWeek, z.startDay, z.startHour, z.endMonth, z.endWeek, z.endDay, z.endHour].all (below 8)

/-- A page read (13 R443). -/
def pageReadOk (r : PageRead) : Bool := below 4 r.die && below 27 r.blk && below 12 r.page

/-- A lane job (12 Table 12-2). -/
def laneJobOk (j : LaneJob) : Bool :=
  below 8 j.mode && below 8 j.keySrc && below 8 j.tagLen && below 9 j.slot && below 20 j.mix && below 6 j.level
  && below 32 j.tag && below 64 j.src && below 64 j.dst

/-- A MAC frame as received (08 R253). -/
def radioRxOk (f : RadioRx) : Bool := below 2 f.kind && below 3 f.level && below 32 f.fc && below 16 f.short && f.ext.all (below 64)

/-- A beacon (08 R259). -/
def beaconOk (b : BeaconIn) : Bool := below 16 b.panId

/-- A join (08 R261). -/
def joinOk (j : Option JoinIn) : Bool :=
  j.all (fun x => below 64 x.ext && below 16 x.short && below 16 x.panId && below 16 x.own)

/-- A slot agreement (08 Table 08-6). -/
def slotInOk (r : SlotIn) : Bool := below 64 r.ext && below 32 r.period && below 32 r.cell && below 8 r.drift && below 8 r.flags

/-- A crossing: the halves of one cycle are two (09 R319). -/
def crossingOk (x : Crossing) : Bool := decide (x.inj.length ≤ 2)

/-- Tones decided in slots: 0 to 7 (09 R293). -/
def slotTonesOk (l : List (Option Nat)) : Bool := l.all (fun t => t.all (below 3))

/-- Impulses: segments 0 to 7 (09 R295). -/
def impulsesOk (l : List Impulse) : Bool := l.all (fun x => below 3 x.seg)

/-- Tones measured by segment, eight of each (09 R311). -/
def tonesOk (l : List ToneMeas) : Bool :=
  l.all (fun m => below 16 m.addr && m.snr.length == 8 && m.snr.all (fun r => r.length == 8))

/-- A beat frame (15 Table 15-2). -/
def beatFrameOk (f : Machine.BeatFrame) : Bool := below 64 f.beat && below 64 f.digest && below 8 f.flags

/-- What consumed a line names a function of a byte and an address of 40 bits (14 R461). -/
def consumerOk (c : Consumer) : Bool :=
  match c with
  | .core _ fn => below 8 fn
  | .lane _ => true
  | .dma => true
  | .rebuilt a => below 40 a
  | .fifo _ => true

/-- A partner's answer (15 R487). -/
def partnerOk (x : Option Machine.PartnerIn) : Bool := x.all (fun y => below 64 y.serial && y.versions.length == 5)

/-- What is wrong with a command, if anything. -/
def Instr.check (i : Instr) : Option IllFormed :=
  match i with
  | .nop h p => hostCheck 0x00 h p
  | .openSession h p => hostCheck 0x01 h p
  | .closeSession h p => hostCheck 0x02 h p
  | .getSession h p => hostCheck 0x03 h p
  | .getIdentity h p => hostCheck 0x04 h p
  | .getStatus h p => hostCheck 0x05 h p
  | .funcReset h p => hostCheck 0x06 h p
  | .devReset h p => hostCheck 0x07 h p
  | .pwrCycleReq h p => hostCheck 0x08 h p
  | .enumerate h p => hostCheck 0x10 h p
  | .getLinkStatus h p => hostCheck 0x11 h p
  | .setLegalTime h p _ => hostCheck 0x12 h p
  | .setSlotTime h p => hostCheck 0x13 h p
  | .getTime h p => hostCheck 0x14 h p
  | .getParam h p => hostCheck 0x20 h p
  | .setParam h p _ => hostCheck 0x21 h p
  | .getParamDefaults h p => hostCheck 0x22 h p
  | .restoreDefaults h p => hostCheck 0x23 h p
  | .ingestBatch h p => hostCheck 0x30 h p
  | .getBatchStatus h p => hostCheck 0x31 h p
  | .enrolMeter h p => hostCheck 0x32 h p
  | .retireMeter h p => hostCheck 0x33 h p
  | .loadProfileTemplate h p => hostCheck 0x34 h p
  | .streamOpen h p => hostCheck 0x35 h p
  | .streamClose h p => hostCheck 0x36 h p
  | .streamData h p => hostCheck 0x37 h p
  | .getMeter h p => hostCheck 0x38 h p
  | .setRules h p => hostCheck 0x39 h p
  | .editReading h p => hostCheck 0x3A h p
  | .exportOpen h p => hostCheck 0x40 h p
  | .exportRead h p => hostCheck 0x41 h p
  | .exportAck h p => hostCheck 0x42 h p
  | .exportClose h p => hostCheck 0x43 h p
  | .ledgerQuery h p => hostCheck 0x44 h p
  | .ledgerStatus h p => hostCheck 0x45 h p
  | .dlQueue h p => hostCheck 0x50 h p
  | .dlUrgent h p => hostCheck 0x51 h p
  | .dlStatus h p => hostCheck 0x52 h p
  | .dlCancel h p => hostCheck 0x53 h p
  | .tariffPush h p => hostCheck 0x54 h p
  | .campaignCreate h p => hostCheck 0x55 h p
  | .campaignControl h p => hostCheck 0x56 h p
  | .campaignStatus h p => hostCheck 0x57 h p
  | .balanceGroupSet h p => hostCheck 0x58 h p
  | .scribeCampaign h p => hostCheck 0x59 h p
  | .tallyQuery h p => hostCheck 0x5A h p
  | .radioNeighbours h p => hostCheck 0x5B h p
  | .plcRoutes h p => hostCheck 0x5C h p
  | .keyImport h p data => headed 0x60 24 h p data
  | .keyGenerate h p => hostCheck 0x61 h p
  | .keyZeroise h p => hostCheck 0x62 h p
  | .keyInfo h p => hostCheck 0x63 h p
  | .pubkeyExport h p => hostCheck 0x64 h p
  | .keyAgree h p _ => hostCheck 0x65 h p
  | .imageBegin h p => hostCheck 0x70 h p
  | .imageBlock h p => hostCheck 0x71 h p
  | .imageCommit h p _ => hostCheck 0x72 h p
  | .imageActivate h p => hostCheck 0x73 h p
  | .imageStatus h p => hostCheck 0x74 h p
  | .meterImageLoad h p => hostCheck 0x75 h p
  | .eventRead h p => hostCheck 0x80 h p
  | .counterRead h p => hostCheck 0x81 h p
  | .counterConfig h p => hostCheck 0x82 h p
  | .memRead h p => hostCheck 0x83 h p
  | .dmaStart h p => hostCheck 0x84 h p
  | .selfTest h p => hostCheck 0x85 h p
  | .ftlStatus h p => hostCheck 0x86 h p
  | .pair h p x => (hostCheck 0x90 h p).or (operands (partnerOk x))
  | .unpair h p => hostCheck 0x91 h p
  | .pairStatus h p => hostCheck 0x92 h p
  | .resolveDivergence h p => hostCheck 0x93 h p
  | .promote h p => hostCheck 0x94 h p
  | .readRegisters h p => hostCheck 0xA0 h p
  | .readBillingSet h p => hostCheck 0xA1 h p
  | .calendarLoad h p _ => hostCheck 0xA2 h p
  | .calendarActivate h p _ => hostCheck 0xA3 h p
  | .calibrate h p _ => hostCheck 0xA4 h p
  | .billingClose h p _ => hostCheck 0xA5 h p
  | .displayList h p => hostCheck 0xA6 h p
  | .outputControl h p => hostCheck 0xA7 h p
  | .legalLogRead h p => hostCheck 0xA8 h p
  | .roleWrite h v => fieldCheck h (below 1 v)
  | .radioEnWrite h _ => fieldCheck h true
  | .plcEnWrite h _ => fieldCheck h true
  | .metroEnWrite h _ => fieldCheck h true
  | .powerCapWrite h v => fieldCheck h (below 16 v)
  | .holdCWrite h v => fieldCheck h (below 16 v)
  | .holdDivWrite h v => fieldCheck h (below 16 v)
  | .cMeasClear h => fieldCheck h true
  | .ethertypeWrite h v => fieldCheck h (below 16 v)
  | .radioChannelEnWrite h _ _ => fieldCheck h true
  | .plcPhaseEnWrite h _ _ => fieldCheck h true
  | .legalUpdModeWrite h _ a => fieldCheck h (authOk_ a)
  | .sealCalWrite h _ a => fieldCheck h (authOk_ a)
  | .legalKeyWrite h v a => fieldCheck h (below 512 v && authOk_ a)
  | .plainImportWrite h _ => fieldCheck h true
  | .tamperSeenClear h => fieldCheck h true
  | .wrapClear h mask => fieldCheck h (below 8 mask)
  | .profilePeriodWrite h v a => fieldCheck h (below 8 v && authOk_ a)
  | .demandSettingWrite h method period subs a => fieldCheck h (below 1 method && below 8 period && below 4 subs && authOk_ a)
  | .tzDstWrite h z a => fieldCheck h (tzDstOk z && authOk_ a)
  | .beatBoundary i => operands (beatInOk i)
  | .denSensorRestored _ => none
  | .denThermalTrip => none
  | .itemOwed => none
  | .holdAssert _ => none
  | .holdRelease _ => none
  | .reorderGapExpire _ seq => operands (below 32 seq)
  | .pendingReply _ seq percent => operands (below 32 seq && below 16 percent)
  | .linkDataFrame _ f => operands (linkFrameOk f)
  | .linkAck _ c => operands (linkCtlOk c)
  | .linkNack _ c => operands (linkCtlOk c)
  | .linkRtoExpire _ => none
  | .linkProbe _ c => operands (linkCtlOk c)
  | .linkProbeSend _ => none
  | .linkResync _ c => operands (linkCtlOk c)
  | .linkHoldExpire _ => none
  | .linkUp _ addr => operands (below 8 addr)
  | .linkDown _ _ => none
  | .pauseFrameDrop _ => none
  | .sync m => operands (syncOk m)
  | .syncLossExpire => none
  | .startWaitExpire => none
  | .pdelayReqSend _ => none
  | .pdelayReq _ domain _ => operands (below 8 domain)
  | .pdelayResp _ domain _ => operands (below 8 domain)
  | .announceForward _ => none
  | .legalTimeStepped => none
  | .ppsInEdge sinceBeat => operands (below 17 sinceBeat)
  | .ppsOutPulse => none
  | .mainsLost _ => none
  | .flushEnd => none
  | .pwrReq => none
  | .resetNLow _ => none
  | .supplyMonitorTrip => none
  | .powerOnReset => none
  | .mainPowerLost => none
  | .vbatRise => none
  | .vbatFall => none
  | .startUp b => operands (bootInOk b)
  | .presenceCheckpoint => none
  | .coreWatchdog _ fn => operands (below 8 fn)
  | .kernelHeartbeatMissing => none
  | .ledgerGroupSeal => none
  | .pageProgramDone group page _ _ => operands (below 64 group && below 32 page)
  | .copyVerified group page _ bits _ => operands (below 64 group && below 32 page && below 16 bits)
  | .groupAccept => none
  | .groupRelease => none
  | .segmentReclaim seg => operands (below 32 seg)
  | .ledgerWorn => none
  | .ledgerDieLost _ _ => none
  | .rereplicationDone => none
  | .slowPathReturn r => operands (slowRetOk r)
  | .unsealComplete job _ => operands (below 64 job)
  | .batchExpired id => operands (below 32 id)
  | .intervalClose group => operands (below 16 group)
  | .scribeEvaluate campaign mix => operands (below 32 campaign && below 20 mix)
  | .radioFrameReceived _ f => operands (radioRxOk f)
  | .floodRelay origin seq => operands (below 64 origin && below 16 seq)
  | .seenEntryExpire origin seq => operands (below 64 origin && below 16 seq)
  | .associationRequest _ ext _ => operands (below 64 ext)
  | .dataRequest _ ext => operands (below 64 ext)
  | .slotRequest _ r => operands (slotInOk r)
  | .slotRelease _ ext => operands (below 64 ext)
  | .orphanNotification _ ext => operands (below 64 ext)
  | .beaconTransmit _ sinceBeat => operands (below 17 sinceBeat)
  | .beaconReceived _ b => operands (beaconOk b)
  | .radioParentLost _ => none
  | .radioOrphanScan _ => none
  | .orphanHoldExpire _ => none
  | .radioJoin _ found => operands (joinOk found)
  | .slotMissed _ ext instant => operands (below 64 ext && below 64 instant)
  | .shortAddrReleased _ short => operands (below 16 short)
  | .rendezvousSlot _ sinceBeat psdu => operands (below 17 sinceBeat && below 11 psdu)
  | .radioTransmit _ psdu _ => operands (below 11 psdu)
  | .zeroCrossing _ sinceBeat x => operands (below 17 sinceBeat && crossingOk x)
  | .flywheelCycle _ x => operands (crossingOk x)
  | .plcFrameReceived _ x => operands (slotTonesOk x.tones && impulsesOk x.marks)
  | .plcLinkAckTimeout _ => none
  | .tmPeriodBoundary _ m => operands (tonesOk m)
  | .tmBlankHoldExpire _ addr _ => operands (below 16 addr)
  | .routeAdvertisement _ => none
  | .routeAgeExpire _ title => operands (below 64 title)
  | .plcAddrHoldExpire _ short => operands (below 16 short)
  | .txAbortImpedance _ => none
  | .tripRetryExpire _ => none
  | .tripBackoffExpire _ => none
  | .dlDispatch mix _ => operands (below 20 mix)
  | .dlResendExpire item => operands (below 64 item)
  | .dlExpiry item => operands (below 64 item)
  | .campaignRound campaign => operands (below 32 campaign)
  | .roundWaitExpire campaign => operands (below 32 campaign)
  | .campaignEnded campaign => operands (below 32 campaign)
  | .bootWindowExpire _ => none
  | .updateConfirmed => none
  | .legalSecondEnd sec => operands (below 40 sec)
  | .profileIntervalEnd => none
  | .demandIntervalEnd => none
  | .scheduledClosure => none
  | .calendarMinute => none
  | .calendarActivation => none
  | .dstChange => none
  | .legalLockstep => none
  | .sealNChange _ => none
  | .buttonPress => none
  | .scrollExpire => none
  | .dispTimeoutExpire => none
  | .displayRefresh _ => none
  | .outputPulse _ => none
  | .laneJobPost j => operands (laneJobOk j)
  | .laneJobComplete _ _ cycles => operands (below 32 cycles)
  | .entropyFail => none
  | .zeroisedTamper => none
  | .tamperLatch => none
  | .debugEnabled => none
  | .journalCommit => none
  | .journalMsExpire => none
  | .ftlSnapshot => none
  | .eraseFail _ die blk => operands (below 4 die && below 27 blk)
  | .readRefresh r => operands (pageReadOk r)
  | .patrolRead r => operands (pageReadOk r)
  | .flashDieLost _ _ _ => none
  | .gcPost part _ => operands (below 3 part)
  | .eraseDone _ die blk => operands (below 4 die && below 27 blk)
  | .wearLevelMove _ => none
  | .memCorrected _ => none
  | .memUncorrectable addr => operands (below 40 addr)
  | .poisonConsumed c => operands (consumerOk c)
  | .dramPatrolScrub addr _ _ _ => operands (below 40 addr)
  | .sramScrub corrected => operands (below 32 corrected)
  | .dmaRunStart => none
  | .dmaRunComplete => none
  | .fifoBankClose _ => none
  | .streamDrop _ => none
  | .streamProgress _ => none
  | .beatFrameReceived _ f => operands (beatFrameOk f)
  | .digestWaitExpire => none
  | .dovetailPromoted => none
  | .joinLimitExpire => none
  | .pairJoinStart _ => none
  | .eventFlush => none
  | .counterWindowEnd => none
  | .snapshotWrite => none
  | .opHoursTick => none
  | .enhAckWaitExpire _ => none
  | .phrDecoded _ psdu _ _ => operands (below 11 psdu)
  | .plcHeaderDecoded _ tones _ _ => operands (slotTonesOk tones)
  | .resetNow => none
  | .funcResetComplete fn => operands (below 8 fn)

/-- A command is well formed. -/
def Instr.wellFormed (i : Instr) : Bool := i.check.isNone

end Sys2Proof
end

