-- ==== Sys2Proof/Certificates/Slice0/Obligations.lean ====
section
/-! DEFINITION. The statements about the model that the provers prove. Each docstring names the rules it formalises. -/
open Sys2Proof Sys2Proof.Machine

/-- 02_brixrum_command_packets; assumption log 13. -/
def Obligations.StepRunsFrontCommand : Prop :=
 (∀ (c : Instr) (l : List Instr) (s : State), step { s with pending := c :: l } = exec c { s with pending := l }) ∧
 (∀ s : State, step { s with pending := [] } = .next { s with pending := [] })

/-- R523; R527; R193; 17_resets_power_states_retention; assumption log 1; assumption log 2. -/
def Obligations.ResetLeavesPowerOnState : Prop :=
 (∀ (f : Fld) (i : Nat), rdI State.reset f i = f.reset) ∧ (∀ a : Nat, rdMem State.reset a = 0) ∧
 State.reset.pwr.mode = .start ∧ State.reset.pwr.step = 0 ∧ State.reset.pwr.cause = 1 ∧
 State.reset.cmd.sess.length = 16 ∧ (∀ n : Nat, (sessAt State.reset n).st = .closed) ∧
 State.reset.infeed.meters = [] ∧ State.reset.ledger.groups = [] ∧ State.reset.ledger.nextGroup = 1 ∧
 State.reset.tally.groups = [] ∧ State.reset.keys.slots = [] ∧ State.reset.keys.store = [] ∧
 State.reset.dl.items = [] ∧ State.reset.dl.nextItem = 1 ∧ State.reset.dl.nextCamp = 1 ∧
 State.reset.chain.u.st = .down ∧ State.reset.chain.d.st = .down ∧
 State.reset.out = [] ∧ State.reset.pending = []

/-- 17_resets_power_states_retention; assumption log 2. -/
def Obligations.ResetTablesAreCanonical : Prop :=
 State.reset.tidy

/-- 02_brixrum_command_packets; 14_memory_dma_and_streams; assumption log 2. -/
def Obligations.StepKeepsTablesCanonical : Prop :=
 ∀ s t : State, s.tidy → step s = .next t → t.tidy

/-- 02_brixrum_command_packets; assumption log 3; assumption log 13. -/
def Obligations.StepTakesOneCommandAndRecallsNothing : Prop :=
 ∀ s t : State, step s = .next t → t.pending = s.pending.tail ∧ s.out <+: t.out

/-- R9; 01_beat_den_and_sett. -/
def Obligations.OnlyBeatBoundaryAdvancesTheBeat : Prop :=
 ∀ (c : Instr) (s t : State), exec c s = .next t →
  t.beat.ticks = match c with
   | .beatBoundary _ => if s.pwr.mode = .off ∨ s.pwr.mode = .dormant then s.now else s.now + 1
   | _ => s.now

/-- R47; R53; 02_brixrum_command_packets. -/
def Obligations.EveryCommandHasAnOutcomeState : Prop :=
 (∀ (c : Instr) (s : State), ∃ t, exec c s = .next t) ∧ (∀ s : State, completes s)

/-- R74; 02_brixrum_command_packets; 00_scope. -/
def Obligations.RegisterReadAfterWrite : Prop :=
 ∀ (f g : Fld) (i j v : Nat) (s : State), s.tidy → f ∈ pageFields f.page → g ∈ pageFields g.page → i < 16 → j < 16 →
  rdI (wrI f i v s) f i = v % 2 ^ f.width ∧
  ((g, j) ≠ (f, i) → rdI (wrI f i v s) g j = rdI s g j) ∧
  (∀ a, rdMem (wrI f i v s) a = rdMem s a)

/-- 14_memory_dma_and_streams; assumption log 2. -/
def Obligations.MemoryReadAfterWrite : Prop :=
 ∀ (a : Nat) (bs : List Byte) (s : State), s.tidy →
  rdMems (wrMems a bs s) a bs.length = bs ∧
  (∀ c, (c < a ∨ a + bs.length ≤ c) → rdMem (wrMems a bs s) c = rdMem s c) ∧
  (∀ f i, rdI (wrMems a bs s) f i = rdI s f i) ∧ (wrMems a bs s).tidy

/-- R46. -/
def Obligations.PacketRoundTrip : Prop :=
 (∀ (h : Hdr) (p : List Byte), h.fits → h.len = p.length → p.length ≤ 8192 →
  (packet h p).length = 20 + p.length ∧ parseHdr (packet h p) = h ∧ sliceB (packet h p) 16 h.len = p ∧
  leAt (packet h p) (16 + h.len) 4 = crc32c ((packet h p).take (16 + h.len)) ∧
  (packet h p).take (16 + h.len) = hdrBytes h ++ p ∧
  (h.verFlags / 16 = 1 → bitAt h.verFlags 1 = false → (opRow h.opcode).isSome →
   fnAllowed h.opcode (fnOf h) → packetFault h (packet h p) = none)) ∧
 (∀ b : List Byte, crc32c b < 2 ^ 32) ∧
 crc32c [0x31, 0x32, 0x33, 0x34, 0x35, 0x36, 0x37, 0x38, 0x39] = 0xE3069283

/-- R47; 02_brixrum_command_packets. -/
def Obligations.DamagedPacketIsRefused : Prop :=
 ∀ (pkt : List Byte) (s : State), (s.pwr.mode = .run ∨ s.pwr.mode = .trim) → (parseHdr pkt).dest ≠ 0x3F →
  let h := parseHdr pkt
  let s1 := if bitAt h.verFlags 2 then { s with cmd.retries := s.cmd.retries + 1 } else s
  let crcOk := leAt pkt (16 + h.len) 4 = crc32c (pkt.take (16 + h.len))
  ((h.len > 8192 ∨ pkt.length < 20 + h.len) → takePacket pkt s = sendReply h stBadLength 0 [] s1) ∧
  (h.len ≤ 8192 → 20 + h.len ≤ pkt.length → ¬ crcOk → takePacket pkt s = sendReply h stBadCrc 0 [] s1) ∧
  (h.len ≤ 8192 → 20 + h.len ≤ pkt.length → crcOk → h.verFlags / 16 ≠ 1 →
   takePacket pkt s = sendReply h stBadVersion 0 [] s1) ∧
  (h.len ≤ 8192 → 20 + h.len ≤ pkt.length → crcOk → h.verFlags / 16 = 1 →
   (opRow h.opcode = none ∨ bitAt h.verFlags 1) → takePacket pkt s = sendReply h stBadOpcode 0 [] s1) ∧
  (h.len ≤ 8192 → 20 + h.len ≤ pkt.length → crcOk → h.verFlags / 16 = 1 →
   (opRow h.opcode).isSome → bitAt h.verFlags 1 = false → fnAllowed h.opcode (fnOf h) = false →
   takePacket pkt s = sendReply h stBadFunction 0 [] s1)

/-- R50; R54; Table 02-3. -/
def Obligations.SequenceNumberAdmission : Prop :=
 ∀ (h : Hdr) (p : List Byte) (s : State), (sessAt s (sessOf h)).st = .opened → h.opcode ≠ 0x01 →
  let n := sessOf h
  let x := sessAt s n
  let d := seqDist x.n h.seq
  let kept := x.held.find? (fun z => z.seq == h.seq)
  let open_ := s.cmd.openC.find? (fun o => sessOf o.hdr == n && o.hdr.seq == h.seq)
  (d = 0 → ∃ t, sessionRules h p s = admitEarly n 31 t ∧
   t = { s with
    cmd := { s.cmd with
     sess := s.cmd.sess.set n { x with n := (h.seq + 1) % 2 ^ 32 },
                    openC := s.cmd.openC ++ [⟨h, cmdCrc h p, p, s.now, s.now⟩] } }) ∧
  (1 ≤ d → d ≤ 31 → (∀ e ∈ x.early, e.hdr.seq ≠ h.seq) →
   sessionRules h p s =
    { s with cmd := { s.cmd with sess := s.cmd.sess.set n { x with early := x.early ++ [⟨h, p, s.now⟩] } } }) ∧
  (1 ≤ d → d ≤ 31 → (∃ e ∈ x.early, e.hdr.seq = h.seq) →
   sessionRules h p s = { s with cmd.dropRepeat := s.cmd.dropRepeat + 1 }) ∧
  (2 ^ 32 - 256 ≤ d → ∀ z, kept = some z →
   (cmdCrc h p = z.crc → sessionRules h p s = sendHeld z s) ∧
   (cmdCrc h p ≠ z.crc → sessionRules h p s = sendReply h stSeqConflict 0 [] s)) ∧
  (2 ^ 32 - 256 ≤ d → kept = none → ∀ o, open_ = some o →
   (cmdCrc h p = o.crc → sessionRules h p s = sendReply h stPending 0xFFFF [] s) ∧
   (cmdCrc h p ≠ o.crc → sessionRules h p s = sendReply h stSeqConflict 0 [] s)) ∧
  (2 ^ 32 - 256 ≤ d → kept = none → open_ = none → sessionRules h p s = sendReply h stReplyExpired 0 [] s) ∧
  (32 ≤ d → d < 2 ^ 32 - 256 → sessionRules h p s = sendReply h stSeqOutOfWindow 0 [] s)

/-- R49; R53; R64. -/
def Obligations.FinishedCommandIsAnsweredAndHeld : Prop :=
 ∀ (h : Hdr) (p : List Byte) (st d : Nat) (data : List Byte) (s : State),
  s.tidy → silent s = false → pairState s = 0 → exempt s h p = false → h.dest ≠ 0x3F →
  let t := finish h p st d data s
  let n := sessOf h
  let x := sessAt s n
  let rh := { h with verFlags := setBits (setBits h.verFlags 3 1 1) 0 1 0, len := 4 + data.length, dest := h.src, src := h.dest }
  let new : Held := ⟨h.seq, cmdCrc h p, h, st, d, data, st == 0⟩
  (∃ l, t.out = s.out ++ Out.reply rh st d data :: l ∧ ∀ o ∈ l, ∃ a b c e, o = .linkData .u a b c e) ∧
  t.cmd = {
   s.cmd with
   openC := s.cmd.openC.filter (fun o => !(sessOf o.hdr == n && o.hdr.seq == h.seq)),
   sess := s.cmd.sess.set n {
    x with
    held := (x.held.filter (fun z => z.seq ≠ h.seq) ++ [new]).filter (fun z => seqDist z.seq x.n ≤ 256) } } ∧
  (∀ f i, f.page ≠ 0x52 → f ∈ pageFields f.page → rdI t f i = rdI s f i) ∧
  t = { s with cmd := t.cmd, chain := { s.chain with u := t.chain.u }, regs := t.regs, ctr := t.ctr, out := t.out }

/-- R195; R61; R214; Table 06-2. -/
def Obligations.AcceptedWorkIsPostedToTheLedger : Prop :=
 (∀ (e : Entry) (s : State), (s.ledger.waiting = [] ∧ fits s [entrySlots e] ∨ passes s e) →
  ∃ n m r, postEntry e s = { s with ledger.openE := s.ledger.openE ++ [e], ledger.openSlots := n, ledger.beatCtl := m, ledger.resGroup := r }) ∧
 (∀ (e : Entry) (s : State), (s.ledger.waiting ≠ [] ∨ fits s [entrySlots e] = false) → passes s e = false →
  postEntry e s = { s with ledger.waiting := s.ledger.waiting ++ [e] }) ∧
 (∀ (h : Hdr) (p data eb : List Byte) (eff : Eff), h.fits → data.length ≤ 60 →
  let e := commandEntry h p data eb eff
  e.kind = 1 ∧ e.head.length = 22 ∧ leAt e.head 0 1 = h.opcode ∧ leAt e.head 1 1 = data.length ∧
  leAt e.head 2 4 = h.flowFn ∧ leAt e.head 6 4 = h.seq ∧ leAt e.head 10 4 = cmdCrc h p ∧ leAt e.head 14 2 = 0 ∧
  e.act = .command h (cmdCrc h p) 0 0 data eff)

/-- R73; R80; 02_brixrum_command_packets. -/
def Obligations.RunningDeviceExecutesCommands : Prop :=
 ∀ (h : Hdr) (p : List Byte) (s : State), Ready h s →
  ¬ (fnOf h = 0x20 ∧ radioOn s = false) → ¬ (fnOf h = 0x21 ∧ plcOn s = false) → ¬ (fnOf h = 0x30 ∧ metroOn s = false) →
  lenGate h.opcode p.length = .pass →
  Served h p false s ∧ (acceptClosed s = false → storeFull s = false → Served h p true s)

/-- R73; R80; R3; R4. -/
def Obligations.CommandsRefusedByState : Prop :=
 ∀ (h : Hdr) (p : List Byte) (acc : Bool) (body : State → Ans) (s : State),
  (s.pwr.held →
   ¬ (h.opcode ≤ 0x11 ∨ h.opcode = 0x14 ∨ (0x20 ≤ h.opcode ∧ h.opcode ≤ 0x2F) ∨
    (0x70 ≤ h.opcode ∧ h.opcode ≤ 0x8F) ∨ h.opcode = 0x92) →
   runCmd h p acc body s = finish h p stRestricted 0 [] s) ∧
  ((s.pwr.mode = .run ∨ s.pwr.mode = .trim) → s.pwr.held = false →
   (fnOf h = 0x20 → radioOn s = false → runCmd h p acc body s = finish h p stRadioOff 0 [] s) ∧
   (fnOf h = 0x21 → plcOn s = false → runCmd h p acc body s = finish h p stPlcOff 0 [] s) ∧
   (fnOf h = 0x30 → metroOn s = false → runCmd h p acc body s = finish h p stMetrologyOff 0 [] s)) ∧
  ((s.pwr.mode = .run ∨ s.pwr.mode = .trim) → s.pwr.held = false → powerGate s (fnOf h) = .pass →
   pairState s = 5 → sessOf h ≠ 15 → ¬ (h.opcode ≤ 0x2F ∨ (0x80 ≤ h.opcode ∧ h.opcode ≤ 0x9F)) →
   runCmd h p acc body s = finish h p stHaltedDiverged 0 [] s) ∧
  ((s.pwr.mode = .run ∨ s.pwr.mode = .trim) → s.pwr.held = false → powerGate s (fnOf h) = .pass →
   pairState s = 0 → assocGet (fnOf h) s.cmd.funcFailed = none → (assocGet (fnOf h) s.cmd.funcReset).isSome →
   runCmd h p acc body s = finish h p stBusy 0 [] s) ∧
  (Ready h s → powerGate s (fnOf h) = .pass → lenGate h.opcode p.length = .pass → acc →
   (acceptClosed s → runCmd h p acc body s = finish h p stAcceptClosed 0 [] s) ∧
   (acceptClosed s = false → storeFull s → h.opcode ≠ 0x42 → h.opcode ≠ 0x43 →
    runCmd h p acc body s = finish h p stStoreFull 0 [] s))

/-- R508; R509; 16_event_recorder_and_counters. -/
def Obligations.LoggedEventIsRecordedOnce : Prop :=
 ∀ (code : Nat) (d : List Byte) (s : State), s.tidy →
  let t := logEv code d s
  (canRecord code s →
   (∃ e, t.ev.pend = s.ev.pend ++ [e] ∧ e.code = code ∧ e.seq = rd s P51.NEXT_SEQ ∧ e.detail = padTo 10 d) ∧
   rd t P51.NEXT_SEQ = (rd s P51.NEXT_SEQ + 1) % 2 ^ 32 ∧ t.ev.ring = s.ev.ring) ∧
  (canRecord code s = false → rd t P51.EVENTS_LOST = min (rd s P51.EVENTS_LOST + 1) (2 ^ 32 - 1)) ∧
  (∃ l, t.out = s.out ++ l ∧ ∀ o ∈ l, (∃ n e, o = .notice n e) ∨ ∃ a b c k, o = .linkData .u a b c k) ∧
  (∀ f i, f ∈ pageFields f.page → f.page ≠ 0x51 → f.page ≠ 0x52 → rdI t f i = rdI s f i) ∧
  t = { s with
   ev := t.ev, cmd := { s.cmd with noticeCounter := t.cmd.noticeCounter },
         pair := { s.pair with faultAt := t.pair.faultAt }, chain := { s.chain with u := t.chain.u },
         regs := t.regs, ctr := t.ctr, out := t.out }

/-- R53; R56; R57; R58. -/
def Obligations.SessionCommandsComplete : Prop :=
 (∀ h p s, Served h p false s →
  (exec (.nop h p) s = answered h p p s) ∧
  (let x := sessAt s (sessOf h)
  exec (.getSession h p) s = answered h p       (leB 1 (sessCode x.st) ++ leB 1 (sessOf h) ++ leB 2 (s.cmd.openC.filter (fun c => sessOf c.hdr == sessOf h)).length
    ++ leB 4 x.n ++ leB 4 (lowestHeld x) ++ leB 1 x.early.length ++ [0, 0, 0]) s)) ∧
 (∀ h p s, stateGate s h true = .pass → p.length = 8 → bitAt (byteAt p 4) 0 = false → accGate s 0x01 = .pass →
  (sessAt s (sessOf h)).st = .closed → h.seq = leAt p 0 4 →
  let n := (h.seq + 1) % 2 ^ 32
  let u := { s with cmd := { s.cmd with sess := s.cmd.sess.set (sessOf h) { sessAt s (sessOf h) with n := n, held := [] } } }
  exec (.openSession h p) s = .next (accepted h p (leB 4 n ++ [0, 0, 0, 0]) [] (.openSession h p) [] u)) ∧
 (∀ h p s, stateGate s h true = .fail stNotReady 3 → p.length = 8 → bitAt (byteAt p 4) 0 = false →
  (sessAt s (sessOf h)).st = .closed → h.seq = leAt p 0 4 →
  exec (.openSession h p) s = .next (finish h p stNotReady 3 [] { s with
   cmd := {
    s.cmd with
    sess := s.cmd.sess.set (sessOf h) { sessAt s (sessOf h) with n := (h.seq + 1) % 2 ^ 32, held := [] } } })) ∧
 (∀ h p s, let r := exec (.openSession h p) s
  stateGate s h true = .pass → stateGate s h false = .pass → p.length = 8 → bitAt (byteAt p 4) 0 →
  ((sessAt s (sessOf h)).st = .resume → accGate s 0x01 = .pass →
   r =
    .next (accepted h p (leB 4 (sessAt s (sessOf h)).n ++ [2, 0, 0, 0]) [] (.openSession h p) [] s)) ∧
  ((sessAt s (sessOf h)).st = .opened →
   r =
    .next (sendReply h stDone 0 (leB 4 (sessAt s (sessOf h)).n ++ [1, 0, 0, 0]) s)) ∧
  ((sessAt s (sessOf h)).st = .closed → r = .next (sendReply h stSessionClosed 0 [] s))) ∧
 (∀ h p s, stateGate s h true = .pass → p.length ≠ 8 →
  exec (.openSession h p) s = .next (sendReply h stBadPayload 0 [] s)) ∧
 (∀ h p s, Served h p true s → exec (.closeSession h p) s = .next (accepted h p [] [] (.closeSession h p) [] s)) ∧
 (∀ h p a d s, applyEffect ⟨some (.openSession h p), a, d⟩ s =
  { s with cmd := { s.cmd with sess := s.cmd.sess.set (sessOf h) { sessAt s (sessOf h) with st := .opened } } }) ∧
 (∀ h p a d s, applyEffect ⟨some (.closeSession h p), a, d⟩ s =
  { s with cmd := { s.cmd with sess := s.cmd.sess.set (sessOf h) { sessAt s (sessOf h) with st := .closed } } })

/-- R59; R60; R98; R120; R551. -/
def Obligations.DeviceReadsComplete : Prop :=
 (∀ h p s, Served h p false s →
  (let flags := rd s P04.ACCEPT_STOPPED + 2 * rd s P04.TRIM_THERMAL + 4 * rd s P04.TRIM_HOLDUP + 8 * rd s P12.READONLY
   + 16 * b2n s.pwr.held + 32 * rd s P03.LEGAL_DIVERGED + 64 * rd s P03.LEGAL_INVALID + 128 * rd s P03.BEAT_DETACHED
  exec (.getStatus h p) s = answered h p       (leB 1 (pwrCode s.pwr.mode) ++ leB 1 s.pwr.cause ++ leB 1 (rd s P03.PLUMB_STATE) ++ leB 1 flags
    ++ leB 1 (rd s P50.PAIR_STATE) ++ leB 1 (s.cmd.sess.filter (fun x => x.st == .opened)).length
    ++ leB 1 (if s.pwr.step = 4 then 3 else if s.pwr.step = 7 then 6 else max 2 s.pwr.step) ++ [0] ++ leB 8 (if s.beat.loaded then s.beat.number else 0) ++ leB 4 (rd s P51.NEXT_SEQ)
    ++ leB 4 (rd s P51.OP_HOURS) ++ leB 2 (rd s P04.E_HOLD) ++ leB 1 (rd s P04.T_HOT) ++ [0]
    ++ leB 4 s.cmd.noticeCounter) s) ∧
  (exec (.getIdentity h p) s = answered h p       (leB 8 Config.dieSerial ++ leB 4 0x184004B7 ++ leB 1 (rd s P01.ROLE_ACTIVE) ++ leB 1 (rd s P02.CHAIN_ADDR) ++ [0, 0]
    ++ checkBytes (identitySlot s) ++ ((List.range 5).map (versionRec s)).flatten ++ [0, 0, 0, 0]) s) ∧
  (let one := fun x : PortState => leB 1 (portCode x.st) ++ leB 1 x.neigh ++ leB 2 x.credit
   ++ leB 4 (if x.delays = [] then 0 else x.delays.sum / x.delays.length)
   ++ leB 8 x.sent ++ leB 8 x.recv ++ leB 4 x.retrans ++ leB 2 x.fcsErr ++ leB 2 x.downs
  exec (.getLinkStatus h p) s = answered h p (one s.chain.u ++ one s.chain.d) s) ∧
  (let flags := rd s P03.BEAT_DETACHED + 2 * rd s P03.LEGAL_DIVERGED + 4 * rd s P03.LEGAL_COMMISSIONED
   + 8 * rd s P03.LEGAL_INVALID + 16 * rd s P03.SLOT_STEPPED + 32 * rd s P03.SLOT_DIVERGED
  let frac := s.plumb.chain % 65536
  let theta := max (-(2 ^ 31 - 1)) (min (2 ^ 31 - 1) s.plumb.theta)
  exec (.getTime h p) s = answered h p       (stamp s.plumb.chain ++ stamp (legalNs s * 65536 + frac) ++ stamp (slotNs s * 65536 + frac)
    ++ leB 1 (rd s P03.PLUMB_STATE) ++ leB 1 flags ++ leB 4 (theta % 2 ^ 32).toNat) s))

/-- R96; R97; Table 03-4. -/
def Obligations.EnumerationAssignsAddresses : Prop :=
 (∀ h p s, let r := exec (.enumerate h p) s
  Served h p false s →
  let data := fun a : Nat => leB 1 a ++ leB 1 (b2n (s.chain.d.st == .up)) ++ leB 1 (rd s P02.NEIGHBOUR_D)
   ++ leB 1 (rd s P01.ROLE_ACTIVE) ++ leB 4 (Config.dieSerial % 2 ^ 32)
  let a := rd s P02.CHAIN_ADDR
  let u := rd s P02.NEIGHBOUR_U
  let v := byteAt p 0
  ((h.dest = 0x3F ∧ v = 0 ∨ h.dest ≠ 0x3F ∧ h.dest ≠ 0 ∧ (v = 0 ∨ v = a)) →
   r = answered h p (data a) s) ∧
  (h.dest = 0 → a = 0 → v = (if u = 0x3E then 0 else u) + 1 → v ≤ 0x20 →
   r =
    .next (finish h p stDone 0 (data v) { s with chain.nextAddr := some v })) ∧
  (h.dest = 0 → a = 0 → (v ≠ (if u = 0x3E then 0 else u) + 1 ∨ 0x20 < v) →
   r = ended h p stOutOfRange 0 s)) ∧
 (∀ h p s, h.dest = 0 → rd s P02.CHAIN_ADDR ≠ 0 → exec (.enumerate h p) s = .next s)

/-- R80; R81; R361; Table 02-10. -/
def Obligations.ResetCommandsComplete : Prop :=
 (∀ h p s, Served h p false s →
  (leAt p 0 4 = 0x00005AA5 → pairState s = 0 →
  exec (.devReset h p) s = .next (deviceReset 2 (finish h p stDone 0 [] s)) ∧
  exec (.pwrCycleReq h p) s = .next (declare .pwrCycle (finish h p stDone 0 [] s))) ∧
  (leAt p 0 4 = 0x00005AA5 → paired s → localCmd s h = false →
  let t := finish h p stDone 0 [] s
  exec (.devReset h p) s = .next { t with pwr.resetDue := 1 } ∧
  exec (.pwrCycleReq h p) s = .next { t with pwr.resetDue := 2 }) ∧
  (leAt p 0 4 ≠ 0x00005AA5 →
  exec (.devReset h p) s = ended h p stBadPayload 0 s ∧
  exec (.pwrCycleReq h p) s = ended h p stBadPayload 0 s) ∧
  (fnOf h ∈ [0x01, 0x02, 0x03, 0x30, 0x31, 0x41] →
  exec (.funcReset h p) s = ended h p stDeniedState 0 s) ∧
  (fnOf h ∉ [0x01, 0x02, 0x03, 0x30, 0x31, 0x41] →
  ∃ t, exec (.funcReset h p) s = .next t ∧ assocGet (fnOf h) t.cmd.funcReset = some h ∧
   assocGet (fnOf h) t.cmd.funcFailed = none) ∧
  (fnOf h = 0x32 → ∃ t, exec (.funcReset h p) s = .next t ∧
  t.disp = { s.disp with
   onButton := false, autoAt := 0, buttonAt := 0, autoTick := t.beat.ticks,
              pressTick := t.beat.ticks, shown := none })) ∧
 (∀ fn h s, assocGet fn s.cmd.funcReset = some h → (fn = 0x12 → s.ledger.rewriting = []) →
  let t := { s with cmd.funcReset := assocDel fn s.cmd.funcReset }
  exec (.funcResetComplete fn) s = .next (finish h [] stDone 0 []
   (if fn = 0x20 then radioStart t else if fn = 0x21 then plcStart t else t))) ∧
 (∀ t s, s.dl.resetNowAt = some t → t + 8 ≤ s.now → exec .resetNow s = .next (deviceReset 2 s))

/-- R116; R117; R69; Table 03-9; assumption log 114. -/
def Obligations.TimeCommandsComplete : Prop :=
 (∀ h p sig s, let r := exec (.setLegalTime h p sig) s
  Served h p true s →
  let n := leAt p (p.length - 72) 8
  let ok := sig ∧ rd s P30.LEGAL_KEY_SET ≠ 0 ∧ authFloor s < n
  let may := rd s P03.LEGAL_COMMISSIONED = 0 ∨ rd s P03.LEGAL_DIVERGED ≠ 0 ∨ rd s P03.LEGAL_INVALID ≠ 0
  let data := stepData s (legalNs s) (chainNs s + toS 64 (leAt p 0 8))
  (ok → may → r = .next (accepted h p data p (.setLegalTime h p sig) [n] s)) ∧
  (¬ ok → r = ended h p stDeniedLegal 0 s) ∧
  (ok → ¬ may → r = ended h p stDeniedState 0 s)) ∧
 (∀ h p s, Served h p true s →
  let may := rd s P03.SLOT_STEPPED = 0 ∧ slotStepOpen s = false
  (may → exec (.setSlotTime h p) s =
   .next (accepted h p (stepData s (slotNs s) (chainNs s + toS 64 (leAt p 0 8))) p (.setSlotTime h p) [] s)) ∧
  (¬ may → exec (.setSlotTime h p) s = ended h p stDeniedState 0 s)) ∧
 (∀ s a b, ∃ f, stepData s a b = stamp (a * 65536 + f) ++ [0, 0] ++ stamp (b * 65536 + f) ++ [0, 0] ∧ 0 ≤ f ∧ f < 65536) ∧
 (∀ h p sig n d s, s.tidy →
  let t := applyEffect ⟨some (.setLegalTime h p sig), [n], d⟩ s
  t.plumb = { s.plumb with legalDue := some (toS 64 (leAt d 0 8)) } ∧ rd t P30.AUTH_COUNT = n % 2 ^ 64) ∧
 (∀ h p a d s, s.tidy → s.plumb.est → s.pwr.mode ≠ .start → rd s P03.SLOT_STEPPED = 0 →
  let t := applyEffect ⟨some (.setSlotTime h p), a, d⟩ s
  t.plumb = { s.plumb with deltaS := toS 64 (leAt d 0 8), slotDue := none, slewS := 0 } ∧ rd t P03.SLOT_STEPPED = 1)

/-- R75; 02_brixrum_command_packets. -/
def Obligations.ParameterWriteRoundTrip : Prop :=
 (∀ w : PWrite, w.page < 256 → w.inst < 256 → w.data < 2 ^ 2048 → w.mask < 2 ^ 2048 →
  w.payload.length = 516 ∧ parseWrite w.payload = w ∧ byteAt w.payload 0 = w.page ∧ byteAt w.payload 1 = w.inst) ∧
 (∀ (f : Fld) (i v : Nat), f.lo + f.width ≤ 2048 →
  let w := fieldWrite f i v
  w.data < 2 ^ 2048 ∧ w.mask < 2 ^ 2048 ∧ bitsAt w.data f.lo f.width = v % 2 ^ f.width ∧ covers w f ∧
  (∀ n, n < f.lo ∨ f.lo + f.width ≤ n → bitAt w.mask n = false ∧ bitAt w.data n = false))

/-- R75; R76; 00_scope. -/
def Obligations.ParameterWriteSetsExactlyTheCoveredFields : Prop :=
 (∀ (w : PWrite) (f : Fld) (j : Nat) (s : State), s.tidy → w.inst < 16 → j < 16 → f ∈ pageFields f.page →
  let v := fieldBits f (bitsAt w.data f.lo f.width)
  rdI (writePage w s) f j =
   (if f.page = w.page ∧ j = w.inst ∧ writable f ∧ covers w f then
    (if f.acc = .w1c then (rdI s f j - Nat.land (rdI s f j) v) % 2 ^ f.width else v)
    else rdI s f j)) ∧
 (∀ (w : PWrite) (s : State), writePage w s = { s with regs := (writePage w s).regs }) ∧
 (∀ (h : Hdr) (q : List Byte) (sig : Bool) (a : List Nat) (d : List Byte) (s : State), d.length = 516 →
  needsLegal (parseWrite d) = false →
  (parseWrite d).page ∈ [0x02, 0x03, 0x04, 0x10, 0x11, 0x12, 0x13, 0x40, 0x41, 0x42, 0x43, 0x44, 0x50, 0x51, 0x60] →
  applyEffect ⟨some (.setParam h q sig), a, d⟩ s = writePage (parseWrite d) s)

/-- R74; R75; R63. -/
def Obligations.SetParamIsCheckedInOrder : Prop :=
 ∀ (h : Hdr) (p : List Byte) (sig : Bool) (s : State),
  let w := parseWrite p
  let range := ((rangeAt s w).toList ++ (planAt s w).toList).min?
  let refused := needsLegal w ∧ authGood s w p sig = false
  let args := if underAuth w p then [authCount p] else []
  Served h p (writesNL w && !(clearsNode w && running s && !storeFull s)) s →
  (w.page ∉ pageNumbers → exec (.setParam h p sig) s = ended h p stUnknownPage 0 s) ∧
  (w.page ∈ pageNumbers → instOk w.page w.inst = false →
   exec (.setParam h p sig) s = ended h p stOutOfRange 0xFFFF s) ∧
  (pageGate s w.page w.inst = none →
   (∀ b, partialAt w = some b → exec (.setParam h p sig) s = ended h p stBadPayload b s) ∧
   (partialAt w = none → refused → exec (.setParam h p sig) s = ended h p stDeniedLegal 0 s) ∧
   (partialAt w = none → ¬ refused → ∀ b, range = some b →
    exec (.setParam h p sig) s = ended h p stOutOfRange b s) ∧
   (partialAt w = none → ¬ refused → range = none → deniedState s w →
    exec (.setParam h p sig) s = ended h p stDeniedState 0 s) ∧
   (partialAt w = none → ¬ refused → range = none → deniedState s w = false → writesNL w →
    exec (.setParam h p sig) s = .next (accepted h p []
     (p.take 516 ++ (if underAuth w p then leB 8 (authCount p) else [])) (.setParam h p sig) args s)) ∧
   (partialAt w = none → ¬ refused → range = none → deniedState s w = false → writesNL w = false →
    exec (.setParam h p sig) s = .next (atBoundary h p (.setParam h p sig) args s)))

/-- R74; R76; R77. -/
def Obligations.ParameterReadsComplete : Prop :=
 (∀ h p s, Served h p false s →
  (pageGate s (byteAt p 0) (byteAt p 1) = none →
  let i := byteAt p 1
  let fs := pageFields (byteAt p 0)
  ∃ d : List Byte, d.length = 256 ∧
   d = leB 256 ((fs.map (fun f => if fldExists f i then rdI s f i * 2 ^ f.lo else 0)).sum) ∧
   ((∀ f ∈ fs, rdI s f i < 2 ^ f.width) →
    ∀ f ∈ fs, fldExists f i → bitsAt (leAt d 0 256) f.lo f.width = rdI s f i) ∧
   exec (.getParam h p) s = answered h p d s) ∧
  (pageGate s (byteAt p 0) (byteAt p 1) = none →
  exec (.getParamDefaults h p) s = answered h p       (leB 256 (((pageFields (byteAt p 0)).map (fun f => f.reset * 2 ^ f.lo)).sum)) s)) ∧
 (∀ h p s, let w := defaultsWrite (byteAt p 0) (byteAt p 1)
  Served h p (writesNL w) s → pageGate s w.page w.inst = none → deniedState s w = false →
  (writesNL w → exec (.restoreDefaults h p) s = .next (accepted h p [] p (.restoreDefaults h p) [] s)) ∧
  (writesNL w = false → exec (.restoreDefaults h p) s = .next (atBoundary h p (.restoreDefaults h p) [] s)))

/-- R2; R3; R21; R32; R34; R123; R251; R290; R326; R424; R428; R514. -/
def Obligations.DeviceFieldWritesComplete : Prop :=
 (∀ (h : Hdr) (s : State),
  let acc := fun (w : PWrite) (o : Host.Outcome State Fault Refusal) =>
   Served h w.payload true s → o = .next (accepted h w.payload [] w.payload (.setParam h w.payload false) [] s)
  let dueDone := fun (w : PWrite) (o : Host.Outcome State Fault Refusal) => Served h w.payload false s →
   o = .next (atBoundary h w.payload (.setParam h w.payload false) [] s)
  (∀ v, v = 1 ∨ v = 2 → pairMember s = false → acc (fieldWrite P01.ROLE 0 v) (exec (.roleWrite h v) s)) ∧
  (∀ v : Bool, (v → pairMember s = false) →
   acc (fieldWrite P01.RADIO_EN 0 (b2n v)) (exec (.radioEnWrite h v) s) ∧
   acc (fieldWrite P01.PLC_EN 0 (b2n v)) (exec (.plcEnWrite h v) s) ∧
   acc (fieldWrite P01.METRO_EN 0 (b2n v)) (exec (.metroEnWrite h v) s)) ∧
  (∀ v, 20 ≤ v → v ≤ 80 → roleMinimum s ≤ v → acc (fieldWrite P04.POWER_CAP 0 v) (exec (.powerCapWrite h v) s)) ∧
  (∀ v, 0 < v → v < 65536 → acc (fieldWrite P04.HOLD_C 0 v) (exec (.holdCWrite h v) s)) ∧
  (∀ v, 256 ≤ v → v ≤ 16384 → acc (fieldWrite P04.HOLD_DIV 0 v) (exec (.holdDivWrite h v) s)) ∧
  acc (fieldWrite P04.C_MEAS 0 0) (exec (.cMeasClear h) s) ∧
  (∀ v, 0x0600 ≤ v → v < 65536 → v ∉ [0x88F7, 0x8100, 0x88A8] →
   acc (fieldWrite P02.ETHERTYPE 0 v) (exec (.ethertypeWrite h v) s)) ∧
  (∀ v : Bool, (v → rd s P40.PLAIN_IMPORT ≠ 0) →
   acc (fieldWrite P40.PLAIN_IMPORT 0 (b2n v)) (exec (.plainImportWrite h v) s)) ∧
  (∀ (ch : Fin 16) (v : Bool), radioOn s →
   (v → radioEnableOk (writePage (fieldWrite P20.EN ch.val 1) s) ch.val) →
   acc (fieldWrite P20.EN ch.val (b2n v)) (exec (.radioChannelEnWrite h ch v) s)) ∧
  (∀ (ph : Fin 3) (v : Bool), plcOn s →
   (v → plcEnableOk (writePage (fieldWrite P21.EN (ph.val + 1) 1) s) ph.val) →
   acc (fieldWrite P21.EN (ph.val + 1) (b2n v)) (exec (.plcPhaseEnWrite h ph v) s)) ∧
  dueDone (fieldWrite P40.TAMPER_SEEN 0 1) (exec (.tamperSeenClear h) s) ∧
  (∀ m, m < 256 → dueDone (fieldWrite P52.WRAP 0 m) (exec (.wrapClear h m) s))) ∧
 (∀ (h : Hdr) (s : State), (s.pwr.mode = .run ∨ s.pwr.mode = .trim) → storeFull s = false →
  let c := (fieldWrite P04.HOLD_C 0 0).payload
  let d := (fieldWrite P04.HOLD_DIV 0 0).payload
  (Served h c false s → exec (.holdCWrite h 0) s = .next (accepted h c [] c (.setParam h c false) [] s)) ∧
  (Served h d false s → exec (.holdDivWrite h 0) s = .next (accepted h d [] d (.setParam h d false) [] s)))

/-- R69; R364; R377; R381; R387; R388; R405. -/
def Obligations.LegalFieldWritesComplete : Prop :=
 (∀ (h : Hdr) (a : AuthBlk) (s : State), a.sigOk → authFloor s < a.count → a.count < 2 ^ 64 →
  rd s P30.LEGAL_KEY_SET ≠ 0 → metroOn s →
  let acc := fun (w : PWrite) (o : Host.Outcome State Fault Refusal) =>
   let p := w.payload ++ leB 8 a.count ++ zeros 64
   Served h p true s → o = .next (accepted h p [] (w.payload ++ leB 8 a.count) (.setParam h p true) [a.count] s)
  (∀ v, v < 2 ^ 512 → acc (fieldWrite P30.LEGAL_KEY 0 v) (exec (.legalKeyWrite h v (some a)) s)) ∧
  (∀ v : Bool, (v → sealMaySet s) →
   acc (fieldWrite P60.LEGAL_UPD_MODE 0 (b2n v)) (exec (.legalUpdModeWrite h v (some a)) s) ∧
   acc (fieldWrite P30.SEAL_CAL 0 (b2n v)) (exec (.sealCalWrite h v (some a)) s)) ∧
  (∀ v, 2 ≤ v → v ≤ 6 → acc (fieldWrite P30.PROFILE_PERIOD 0 v) (exec (.profilePeriodWrite h v (some a)) s)) ∧
  (∀ m t n, m ≤ 1 → t ∈ [5, 6, 10, 12, 15, 20, 30, 60] → 2 ≤ n → n ≤ 15 → 60 * t % n = 0 →
   acc (((fieldWrite P30.DEMAND_METHOD 0 m).also (fieldWrite P30.DEMAND_PERIOD 0 t)).also (fieldWrite P30.DEMAND_SUBS 0 n))
    (exec (.demandSettingWrite h m t n (some a)) s)) ∧
  (∀ z : TzDst, -720 ≤ z.tzMin → z.tzMin ≤ 840 → (z.tzMin + 720) % 15 = 0 → 15 ≤ z.delta → z.delta ≤ 120 →
   z.delta % 15 = 0 →
   z.startMonth ≤ 12 → 1 ≤ z.endMonth → z.endMonth ≤ 12 → (∀ w ∈ [z.startWeek, z.endWeek], 1 ≤ w ∧ w ≤ 5) →
   (∀ d ∈ [z.startDay, z.endDay], 1 ≤ d ∧ d ≤ 7) → (∀ x ∈ [z.startHour, z.endHour], x ≤ 23) →
   acc (tzWrite z) (exec (.tzDstWrite h z (some a)) s))) ∧
 (∀ (h : Hdr) (a : AuthBlk) (v : Nat) (s : State), a.sigOk → authFloor s < a.count → a.count < 2 ^ 64 → v < 2 ^ 512 →
  rd s P30.LEGAL_KEY_SET = 0 → rd s P30.SEAL_STATE ≠ 0 → metroOn s →
  let w := fieldWrite P30.LEGAL_KEY 0 v
  let p := w.payload ++ leB 8 a.count ++ zeros 64
  Served h p true s →
  exec (.legalKeyWrite h v (some a)) s = .next (accepted h p [] (w.payload ++ leB 8 a.count) (.setParam h p true) [a.count] s)) ∧
 (∀ (h : Hdr) (s : State), metroOn s →
  let no := fun (w : PWrite) (o : Host.Outcome State Fault Refusal) =>
   Served h w.payload true s → o = .next (finish h w.payload stDeniedLegal 0 [] s)
  (∀ v, v < 2 ^ 512 → no (fieldWrite P30.LEGAL_KEY 0 v) (exec (.legalKeyWrite h v none) s)) ∧
  (∀ v, no (fieldWrite P60.LEGAL_UPD_MODE 0 (b2n v)) (exec (.legalUpdModeWrite h v none) s)) ∧
  (∀ v, no (fieldWrite P30.SEAL_CAL 0 (b2n v)) (exec (.sealCalWrite h v none) s)) ∧
  (∀ v, no (fieldWrite P30.PROFILE_PERIOD 0 v) (exec (.profilePeriodWrite h v none) s)) ∧
  (∀ m t n, no (((fieldWrite P30.DEMAND_METHOD 0 m).also (fieldWrite P30.DEMAND_PERIOD 0 t)).also
   (fieldWrite P30.DEMAND_SUBS 0 n)) (exec (.demandSettingWrite h m t n none) s)) ∧
  (∀ z : TzDst, no (tzWrite z) (exec (.tzDstWrite h z none) s)))

/-- R9; R10; R13; R562; 01_beat_den_and_sett; assumption log 16. -/
def Obligations.BeatBoundaryCompletes : Prop :=
 (∀ i s, (s.pwr.mode = .off ∨ s.pwr.mode = .dormant) → exec (.beatBoundary i) s = .next s) ∧
 (∀ i s, s.pwr.mode ≠ .off → s.pwr.mode ≠ .dormant →
  let u := radioWatch (endBeat s)
  let t := if u.pwr.mode = .holdup then holdupBeat i u else beginBeat i u
  exec (.beatBoundary i) s = .next t ∧ t.beat.ticks = s.now + 1) ∧
 (∀ s, let t := timeStep s
  let len := 125000 * 65536 + s.beat.trim * 109227
  t.beat.ticks = s.now + 1 ∧ t.beat.loaded = s.beat.loaded ∧
  (s.beat.loaded → t.beat.number = s.beat.number + 1 ∧ t.beat.prov = s.beat.prov) ∧
  (s.beat.loaded = false → t.beat.number = s.beat.number ∧ t.beat.prov = s.beat.prov + 1) ∧
  t.plumb.chain = s.plumb.chain + len + len * s.plumb.rate / 1000000000 ∧
  t.batt.legal = s.batt.legal + 125000 ∧ t.batt.slot = s.batt.slot + 125000 ∧
  (-15 ≤ s.beat.trim → s.beat.trim ≤ 15 → -15 ≤ t.beat.trim ∧ t.beat.trim ≤ 15)) ∧
 (∀ s, s.pwr.mode ≠ .holdup → s.beat.loaded → s.ledger.openE ≠ [] →
  (s.beat.number % 8 = 7 → (frameEnd s).ledger.toSeal = s.ledger.toSeal ++ [s.ledger.openE]) ∧
  (s.beat.number % 8 ≠ 7 → frameEnd s = s))

/-- R15; R17; R24; R26. -/
def Obligations.DenBudgetOfABeat : Prop :=
 ∀ (temps : List Int) (s : State), s.tidy →
  let t := denBudget temps s
  t.den.eBeat = min (eCap s) t.den.eThermal ∧
  (rd t P04.TRIM_THERMAL = if t.den.eThermal < eCap s then 1 else 0) ∧
  (validSensors t < 4 → t.den.eThermal = eMin s) ∧
  (4 ≤ validSensors t → ∀ x, t.den.tHot = some x → x < (rd s P04.T_KNEE : Int) - 3 → t.den.eThermal = eCap s) ∧
  (4 ≤ validSensors t → ∀ x, t.den.tHot = some x → rd s P04.T_KNEE < 108 → 108 ≤ x → t.den.eThermal ≤ eMin s) ∧
  (∀ x, t.den.tHot = some x → 110 < x → t.den.eDisc = 0) ∧
  (t.den.eDisc = 0 ∨ t.den.eDisc + eStatic t.den.tHot + baseLoads s + 24 ≤ t.den.eBeat)

/-- R26; R27; R28; R32. -/
def Obligations.HoldupClosesAcceptance : Prop :=
 ∀ (sense : List Nat) (s : State), s.tidy →
  let t := denHoldup sense s
  t.den.e20 ≤ 2000 * 20000000 ∧
  (rd t P04.ACCEPT_STOPPED = 0 → pNeed s ≤ t.den.pairsP ∧ rd s P04.HOLD_C ≠ 0 ∧ rd s P04.HOLD_DIV ≠ 0) ∧
  (rd t P04.ACCEPT_STOPPED = 0 → rd s P04.ACCEPT_STOPPED ≠ 0 →
   stopLevel s * 11 ≤ t.den.e20 * 10) ∧
  (rd s P04.ACCEPT_STOPPED = 0 → pNeed s ≤ t.den.pairsP → rd s P04.HOLD_C ≠ 0 → rd s P04.HOLD_DIV ≠ 0 →
   rd t P04.ACCEPT_STOPPED = 0) ∧
  (running s → (t.pwr.mode = .trim ↔ (rd t P04.TRIM_THERMAL ≠ 0 ∨ rd t P04.TRIM_HOLDUP ≠ 0)) ∧
   (t.pwr.mode = .run ∨ t.pwr.mode = .trim)) ∧
  (running s = false → t.pwr = s.pwr)

/-- R15; R16; R20; R36; R38; R41. -/
def Obligations.SettDispatchKeepsTheBudget : Prop :=
 ∀ s : State,
  let x := settPass s
  let key := fun i : SettItem => (i.level, i.flow, i.thread, i.charge, i.work)
  (x.out.map SettItem.charge).sum ≤ s.den.eDisc + 24 ∧
  ((x.out.filter (fun i => decide (4 ≤ i.level))).map SettItem.charge).sum ≤ s.den.eDisc ∧
  (x.out.filter SettItem.thread).length ≤ 16 ∧
  (∀ k, ((x.out ++ x.kept).map key).count k = ((s.sett.queue.filter (mayRun s)).map key).count k) ∧
  (s.pwr.mode ≠ .holdup → ∀ i, mayRun s i) ∧
  ((s.sett.inService ++ laneFlows s).Nodup → x.flows.Nodup) ∧ (∀ i ∈ x.out, i.run = 0 ∧ i.owed = false)

/-- R23; R25; R37; R51; R65; 04_infeed_and_unsealing. -/
def Obligations.BeatAndSettEventsComplete : Prop :=
 (∀ (n : Fin 6) s, s.den.excluded.getD n.val false → 8000 ≤ s.den.validRun.getD n.val 0 →
  exec (.denSensorRestored n) s = .next { s with den.excluded := s.den.excluded.set n.val false }) ∧
 (∀ s, 8 ≤ s.den.hotRun → exec .denThermalTrip s = .next (declare .thermal s)) ∧
 (∀ s, s.den.hotRun < 8 → exec .denThermalTrip s = .next s) ∧
 (∀ s, (∃ i ∈ s.sett.queue, 8 ≤ i.run) → ∃ t v, exec .itemOwed s = .next t ∧
  (∀ i ∈ s.sett.queue, 8 ≤ i.run → v ≤ i.level) ∧ (∃ i ∈ s.sett.queue, 8 ≤ i.run ∧ i.level = v) ∧
  t = { s with
   sett := {
    s.sett with
    queue := s.sett.queue.map (fun i => { i with owed := i.owed || (decide (i.level = v) && decide (8 ≤ i.run)) }) } }) ∧
 (∀ s, (∀ i ∈ s.sett.queue, i.run < 8) → exec .itemOwed s = .next s) ∧
 (∀ (n : Fin 32) s, 384 ≤ sourceQueue s n.val →
  exec (.holdAssert n) s = .next { s with sett.hold := s.sett.hold.set n.val true }) ∧
 (∀ (n : Fin 32) s, sourceQueue s n.val ≤ 256 →
  exec (.holdRelease n) s = .next { s with sett.hold := s.sett.hold.set n.val false }) ∧
 (∀ (n : Fin 16) q s, let x := sessAt s n.val
  let gone := fun e : Early => e.hdr.seq == q && decide (e.at_ + rd s P01.GAP_LIMIT * 8 ≤ s.now)
  (∃ e ∈ x.early, gone e) →
  exec (.reorderGapExpire n q) s = .next { s with
   cmd := {
    s.cmd with
    dropGap := s.cmd.dropGap + 1,
    sess := s.cmd.sess.set n.val { x with early := x.early.filter (fun e => !gone e) } } }) ∧
 (∀ (n : Fin 16) q pc o s, s.cmd.openC.find? (fun o => sessOf o.hdr == n.val && o.hdr.seq == q) = some o →
  max o.at_ o.lastPending + rd s P01.REPLY_LIMIT * 8 ≤ s.now →
  exec (.pendingReply n q pc) s = .next (sendReply o.hdr stPending (if pc ≤ 100 then pc else 0xFFFF) []
   { s with
    cmd := {
     s.cmd with
     openC := s.cmd.openC.map (fun c => if c.hdr == o.hdr then { c with lastPending := s.now } else c) } }))

/-- R84; R86; R88; R89; R90; R98; Table 03-2. -/
def Obligations.LinkReceiveEventsComplete : Prop :=
 (∀ p f s, let r := exec (.linkDataFrame p f) s
  s.pwr.mode ≠ .off → s.pwr.mode ≠ .dormant →
  let x := portOf s p
  let n := f.packet.length + 26
  let s1 := hear p n ⟨f.lack, f.credit, f.addr⟩ s
  let y := portOf s1 p
  let behind := (y.rxNext + 65536 - f.lseq % 65536) % 65536
  let e := rd s P02.ETHERTYPE
  (f.fcsOk = false → r = .next (setPort p { x with fcsErr := min (x.fcsErr + 1) 65535 } s)) ∧
  (f.fcsOk → f.etherType = 0x88F7 → r = .next (heardOn p n s)) ∧
  (f.fcsOk → f.etherType ≠ 0x88F7 → f.etherType ≠ e →
   r = .next (heardOn p n (setPort p { x with etherDrops := x.etherDrops + 1 } s))) ∧
  (f.fcsOk → f.etherType ≠ 0x88F7 → f.etherType = e → x.st ≠ .up →
   r = .next (heardOn p n s)) ∧
  (f.fcsOk → f.etherType ≠ 0x88F7 → f.etherType = e → x.st = .up →
   (f.lseq = y.rxNext → r = .next (forward p f.packet (sendCtl p 2
    (setPort p { y with rxNext := (y.rxNext + 1) % 65536, recv := y.recv + 1, nacked := false } s1)))) ∧
   (f.lseq ≠ y.rxNext → behind ≤ 32768 → r = .next (sendCtl p 2 s1)) ∧
   (f.lseq ≠ y.rxNext → 32768 < behind → y.nacked → r = .next s1) ∧
   (f.lseq ≠ y.rxNext → 32768 < behind → y.nacked = false → ∃ t, r = .next t ∧
    t.out = (sendCtl p 3 s1).out ∧ (portOf t p).nacked ∧ (portOf t p).rxNext = y.rxNext))) ∧
 (∀ p c s, (portOf s p).st = .up → exec (.linkAck p c) s = .next (hear p 26 c s) ∧
  exec (.linkNack p c) s = .next (retransmit p (hear p 26 c s)) ∧
  (rd s P02.LINK_RTO ≤ (s.now + 1 - (portOf s p).lastProgress) * 125 →
   exec (.linkRtoExpire p) s = .next (retransmit p s))) ∧
 (∀ p c s, (portOf s p).st ≠ .up → exec (.linkAck p c) s = .next s ∧ exec (.linkNack p c) s = .next s ∧
  exec (.linkRtoExpire p) s = .next s) ∧
 (∀ c s, (s.chain.d.st ≠ .resync → exec (.linkProbe .d c) s = .next (hear .d 26 c s)) ∧
  (s.chain.d.st = .resync → exec (.linkProbe .d c) s = .next (sendCtl .d 5 (hear .d 26 c s))) ∧
  (s.chain.u.st ≠ .resync → exec (.linkProbe .u c) s = .next (checkNeighbour c.addr (hear .u 26 c s)))) ∧
 (∀ p s, exec (.pauseFrameDrop p) s =
  .next (heardOn p 64 (setPort p { portOf s p with pauses := (portOf s p).pauses + 1 } s)))

/-- R88; R89; R94. -/
def Obligations.LinkAcknowledgementReleasesFrames : Prop :=
 ∀ (p : Port) (n : Nat) (c : LinkCtl) (s : State),
  let t := hear p n c s
  let x := portOf s p
  let y := portOf t p
  let left := x.outst.filter (fun f => !ackedBy c.lack f.1)
  y.neigh = c.addr ∧ y.credit = c.credit ∧ y.lastRx = s.now ∧ y.st = x.st ∧ y.rxNext = x.rxNext ∧
  (∃ n, n ≤ x.queue.length ∧ y.queue = x.queue.drop n ∧
   y.outst.map Prod.snd = left.map Prod.snd ++ x.queue.take n ∧ left <+: y.outst ∧
   y.sent = x.sent + n ∧ (x.st ≠ .up → n = 0) ∧ (0 < n → y.outst.length ≤ min c.credit 64) ∧
   ∃ l : List (Nat × Nat × Nat × List Byte), l.map (fun z => z.2.2.2) = (x.queue.take n).map LinkPkt.pkt ∧
    t.out = s.out ++ l.map (fun z => Out.linkData p z.1 z.2.1 z.2.2.1 z.2.2.2)) ∧
  portOf t (otherPort p) = portOf s (otherPort p)

/-- R85; R91; R92; R99; R106; R108. -/
def Obligations.LinkStateEventsComplete : Prop :=
 (∀ p a s, (portOf s p).st = .down →
  let x := portOf s p
  let kept := if x.downAt + rd s P02.LINK_HOLD * 8 ≤ s.now then [] else x.heldFrames
  let y := {
   x with
   st := .resync, txNext := 0, rxNext := 0, credit := 0, lastRx := s.now, neigh := a, nacked := false, retries := 0,
   heldFrames := kept, holdDrops := x.holdDrops + (x.heldFrames.length - kept.length) }
  exec (.linkUp p a) s = .next (sendCtl p 5 (logEv 0x0201 (leB 1 (portNo p))
   (setNeigh p a (wr (upFld p) 1 (setPort p y s)))))) ∧
 (∀ p a s, (portOf s p).st ≠ .down → exec (.linkUp p a) s = .next s) ∧
 (∀ p c s, (portOf s p).st ≠ .down →
  let x := portOf s p
  let y := {
   x with
   st := .up, txNext := 0, rxNext := 0, credit := c.credit, neigh := c.addr, outst := [],
   queue := x.heldFrames ++ x.outst.map Prod.snd ++ x.queue, heldFrames := [], nacked := false, retries := 0,
   lastProgress := s.now }
  let t := setNeigh p c.addr (heardOn p 26 (setPort p y s))
  exec (.linkResync p c) s = .next (pump p (if x.st = .up then sendCtl p 5 t else t))) ∧
 (∀ p c s, (portOf s p).st = .down → exec (.linkResync p c) s = .next s) ∧
 (∀ p (lost : Bool) s, (portOf s p).st ≠ .down →
  (lost ∨ (portOf s p).lastRx + rd s P02.LINK_DEAD * 8 ≤ s.now) →
  let x := portOf s p
  let y := {
   x with
   st := .down, outst := [], heldFrames := x.heldFrames ++ x.outst.map Prod.snd, downAt := s.now,
   downs := min (x.downs + 1) 65535, nacked := false, retries := 0 }
  exec (.linkDown p lost) s = .next (logEv 0x0202 (leB 1 (portNo p)) (wr (upFld p) 0 (setPort p y s)))) ∧
 (∀ p s, (portOf s p).st = .down → (portOf s p).downAt + rd s P02.LINK_HOLD * 8 ≤ s.now →
  let x := portOf s p
  exec (.linkHoldExpire p) s =
   .next (setPort p { x with heldFrames := [], holdDrops := x.holdDrops + x.heldFrames.length } s)) ∧
 (∀ p s, (portOf s p).lastTx + rd s P02.PROBE_MS * 8 ≤ s.now →
  exec (.linkProbeSend p) s = .next (sendCtl p 4 s)) ∧
 (∀ p s, (portOf s p).st ≠ .down → (∀ a, (portOf s p).lastPdelay = some a → a + 8000 ≤ s.now) →
  exec (.pdelayReqSend p) s = .next (emit (.pdelayReq p)
   (sentOn p 72 (setPort p { portOf s p with lastPdelay := some s.now } s)))) ∧
 (∀ p n s, exec (.pdelayReq p (rd s P03.PTP_DOMAIN) n) s =
  .next (emit (.pdelayResp p (n + txCorr s p - rxCorr s p)) (sentOn p 72 (heardOn p 72 s)))) ∧
 (∀ p d n s, d ≠ rd s P03.PTP_DOMAIN →
  let t := otherDomain (heardOn p 72 s)
  exec (.pdelayReq p d n) s = .next t ∧ exec (.pdelayResp p d n) s = .next t) ∧
 (∀ p trip s, let t := heardOn p 72 s
  let x := portOf t p
  let n := (trip + rxCorr s p - txCorr s p) / 2 / 65536
  let l := x.delays ++ [n.toNat]
  (0 ≤ n → n ≤ 10000 → exec (.pdelayResp p (rd s P03.PTP_DOMAIN) trip) s =
   .next (setPort p { x with delays := l.drop (l.length - 8) } t)) ∧
  (n < 0 ∨ 10000 < n → exec (.pdelayResp p (rd s P03.PTP_DOMAIN) trip) s =
   .next (setPort p { x with delayRej := x.delayRej + 1 } t))) ∧
 (∀ m s, s.chain.d.st ≠ .down → exec (.announceForward m) s =
  .next (emit (.ptpForward m) (sentOn .d (18 + m.length) (heardOn .u (18 + m.length) s)))) ∧
 (∀ m s, s.chain.d.st = .down → exec (.announceForward m) s = .next (heardOn .u (18 + m.length) s))

/-- R106; R107; R109; R111; R121; R122; Table 03-8. -/
def Obligations.TimeEventsComplete : Prop :=
 (∀ m s, m.domain ≠ rd s P03.PTP_DOMAIN → let u := forwardSync m (heardOn .u 62 s)
  exec (.sync m) s = .next { u with plumb.otherDomain := u.plumb.otherDomain + 1 }) ∧
 (∀ m s, m.domain = rd s P03.PTP_DOMAIN → m.twoStep → let u := heardOn .u 62 s
  exec (.sync m) s = .next { u with plumb.twoStep := u.plumb.twoStep + 1 }) ∧
 (∀ m s, m.domain = rd s P03.PTP_DOMAIN → m.twoStep = false → let u := heardOn .u 62 s
  exec (.sync m) s = .next (takeOffset (syncRx m u - syncMaster m u) (forwardSync m u)) ∧
  (rd s P03.PLUMB_STATE = 0 → s.tidy → ∃ t, exec (.sync m) s = .next t ∧
   t.plumb.chain = s.plumb.chain - (syncRx m s - syncMaster m s) ∧ t.plumb.stepped ∧ t.plumb.integ = 0 ∧
   t.plumb.rate = 0 ∧ t.plumb.lockRun = 0 ∧ rd t P03.PLUMB_STATE = 1)) ∧
 (∀ m s, (s.chain.d.st = .down → forwardSync m s = s) ∧
  let r := m.residence + txCorr s .d - rxCorr s .u
  (s.chain.d.st ≠ .down → r ≤ 1000000 * 65536 → forwardSync m s =
   emit (.sync (m.corr + r + meanDelay s.chain.u * 65536)) (sentOn .d 62 s)) ∧
  (s.chain.d.st ≠ .down → 1000000 * 65536 < r → forwardSync m s =
   { s with plumb.lateSync := s.plumb.lateSync + 1 })) ∧
 (∀ s, s.tidy → rd s P03.PLUMB_STATE = 2 → s.plumb.lastSync + syncLossBeats s ≤ s.now →
  ∃ t, exec .syncLossExpire s = .next t ∧ rd t P03.PLUMB_STATE = 3 ∧
   t.plumb = { s.plumb with rate := servoRate 0 (rd s P03.SERVO_KI) 0 s.plumb.integ }) ∧
 (∀ s, (rd s P03.PLUMB_STATE ≠ 2 ∨ s.now < s.plumb.lastSync + syncLossBeats s) →
  exec .syncLossExpire s = .next s) ∧
 (∀ s, rd s P03.PLUMB_STATE = 0 → rd s P03.PLUMB_FREE ≠ 0 → s.plumb.startAt + rd s P03.START_WAIT * 8000 ≤ s.now →
  exec .startWaitExpire s = .next (plumbReached 4 { s with plumb.chain := legalNs s * 65536, plumb.stepped := true, plumb.integ := 0, plumb.rate := 0 })) ∧
 (∀ (n : Nat) s, rd s P03.PPS_IN_EN = 0 → exec (.ppsInEdge n) s = .next s) ∧
 (∀ (n : Nat) s, rd s P03.PPS_IN_EN ≠ 0 →
  let off := secOffset (chainNs s + n)
  let t := wrS P03.PPS_IN_OFFSET off s
  (1000000 < off.natAbs → exec (.ppsInEdge n) s =
   .next { s with plumb.ppsRejected := s.plumb.ppsRejected + 1 }) ∧
  (off.natAbs ≤ 1000000 → exec (.ppsInEdge n) s = .next
   (if rd s P03.PPS_IN_DISC ≠ 0 ∧ (rd s P03.PLUMB_STATE = 3 ∨ rd s P03.PLUMB_STATE = 4) then servo off t else t))) ∧
 (∀ s, rd s P03.PPS_OUT_EN ≠ 0 →
  (rd s P03.PLUMB_STATE = 2 ∨ rd s P03.PLUMB_STATE = 4 ∨ (rd s P03.PLUMB_STATE = 3 ∧ rd s P03.PPS_OUT_FREE ≠ 0)) →
  ppsDue s → s.plumb.ppsAt ≠ some s.now →
  exec .ppsOutPulse s = .next { s with plumb.ppsOut := true, plumb.ppsAt := some s.now, plumb.ppsFall := s.now + rd s P03.PPS_OUT_WIDTH * 8 })

/-- R110; R114; R115. -/
def Obligations.ServoRateIsLimited : Prop :=
 (∀ (kp ki : Nat) (theta integ : Int), -200000 ≤ servoRate kp ki theta integ ∧ servoRate kp ki theta integ ≤ 200000) ∧
 (∀ (theta : Int) (s : State), -200000 ≤ (servo theta s).plumb.rate ∧ (servo theta s).plumb.rate ≤ 200000 ∧
  (servo theta s).plumb.theta = theta ∧ (servo theta s).plumb.chain = s.plumb.chain) ∧
 (∀ move d : Int, 0 ≤ move → (toward0 move d).natAbs ≤ d.natAbs ∧ (0 ≤ d → 0 ≤ toward0 move d) ∧
  (d ≤ 0 → toward0 move d ≤ 0) ∧ (d - toward0 move d).natAbs ≤ move.natAbs) ∧
 (∀ s, rd s P03.PLUMB_STATE ≠ 2 → slew s = s) ∧
 (∀ s, rd s P03.LEGAL_DIVERGED ≠ 0 → (slew s).plumb.deltaL = s.plumb.deltaL)

/-- R103. -/
def Obligations.WireSecondsAreWidened : Prop :=
 ∀ c64 s48 : Nat, s48 < 2 ^ 48 →
  let cand := c64 / 2 ^ 48 * 2 ^ 48 + s48
  (c64 + 2 ^ 47 < cand → widen c64 s48 = cand - 2 ^ 48) ∧
  (cand + 2 ^ 47 < c64 → widen c64 s48 = cand + 2 ^ 48) ∧
  (cand ≤ c64 + 2 ^ 47 → c64 ≤ cand + 2 ^ 47 → widen c64 s48 = cand) ∧
  (2 ^ 48 ≤ c64 → widen c64 s48 % 2 ^ 48 = s48 ∧ widen c64 s48 ≤ c64 + 2 ^ 47 ∧ c64 ≤ widen c64 s48 + 2 ^ 47)

/-- R131; R132; R133; R141; R166; Table 04-9. -/
def Obligations.MeterCommandsComplete : Prop :=
 (∀ h p s, Served h p true s →
  (let title := leAt p 0 8
  let req := leAt p 8 4 % 2 ^ 20
  let mode := leAt p 14 2 / 2 ^ 14
  let keyed := (mode = 1 ∨ mode = 2) ∧ slotAttr s (leAt p 14 2 % 512) = mode
  let templated := byteAt p 20 = 0xFF ∨ ∃ t ∈ s.infeed.templates, t.id = byteAt p 20
  let roomy := hubRole s ∨ (enrolledSoon s < 16384 ∧ (req = 0xFFFFF ∨ req ≤ 16383))
  (keyed → templated → roomy → meterOfTitle s title = none → (∀ x ∈ pendingEnrols s, x.2 ≠ title) →
   (req ≠ 0xFFFFF → mixTaken s req = false → exec (.enrolMeter h p) s =
    .next (accepted h p (leB 4 req ++ leB 4 (enrolledSoon s + 1)) p (.enrolMeter h p) [req] s)) ∧
   (∀ n, req = 0xFFFFF → freeMix s (enrolLimit s) = some n → exec (.enrolMeter h p) s =
    .next (accepted h p (leB 4 n ++ leB 4 (enrolledSoon s + 1)) p (.enrolMeter h p) [n] s))) ∧
  (¬ keyed → exec (.enrolMeter h p) s = ended h p stBadPayload 14 s) ∧
  (∀ m, keyed → templated → roomy → meterOfTitle s title = some m → (req = 0xFFFFF ∨ req = m.mix) →
   (enrolFields p = meterFields m → exec (.enrolMeter h p) s =
    .next (postEntry (commandEntry h p (leB 4 m.mix ++ leB 4 (enrolledSoon s)) [] { data := p }) s)) ∧
   ((enrolFields p).drop 1 = (meterFields m).drop 1 → m.keyGen < leAt p 12 2 → exec (.enrolMeter h p) s =
    .next (accepted h p (leB 4 m.mix ++ leB 4 (enrolledSoon s)) p (.enrolMeter h p) [m.mix] s)))) ∧
  (let mix := leAt p 0 4 % 2 ^ 20
  ((∃ m, meterAt s mix = some m) →
   exec (.retireMeter h p) s = .next (accepted h p [] p (.retireMeter h p) [mix] s)) ∧
  (meterAt s mix = none → exec (.retireMeter h p) s = ended h p stUnknownObject 0 s))) ∧
 (∀ h p s, Served h p false s → let mix := leAt p 0 4 % 2 ^ 20
  (∀ m, recordAt s mix = some m → (meterBytes m).length = 128 ∧
   exec (.getMeter h p) s = answered h p (meterBytes m) s) ∧
  (recordAt s mix = none → exec (.getMeter h p) s = ended h p stUnknownObject 0 s)) ∧
 (∀ h p s, let r := exec (.loadProfileTemplate h p) s
  Served h p true s → let n := byteAt p 2
  let steps := (List.range n).map (stepAt p)
  let inside := ((valueChans false steps).filter (fun x => x.1)).map Prod.snd
  (byteAt p 0 ≤ 63 → intervalSec (byteAt p 1) ≠ 0 → n ≠ 0 → n ≠ 255 → p.length = 16 + 8 * n →
   (badStep false inside 0 steps = none → r =
    .next (accepted h p (leB 1 (byteAt p 0) ++ leB 1 n ++ [0, 0]) p (.loadProfileTemplate h p) [] s)) ∧
   (∀ k, badStep false inside 0 steps = some k →
    r = ended h p stBadPayload (16 + 8 * k) s)) ∧
  (63 < byteAt p 0 → r = ended h p stBadPayload 0 s) ∧
  (byteAt p 0 ≤ 63 → intervalSec (byteAt p 1) = 0 →
   r = ended h p stBadPayload 1 s)) ∧
 (∀ h p mix s, s.tidy → meterAt s mix = none →
  let t := applyEffect ⟨some (.enrolMeter h p), [mix], p⟩ s
  (∃ m, meterAt t mix = some m ∧ m.title = leAt p 0 8 ∧ m.keyGen = leAt p 12 2 ∧ m.group = leAt p 16 2 ∧
   m.chEnable = leAt p 18 2 ∧ m.template = byteAt p 20 ∧ m.icHigh = 0 ∧ m.icMap = 0) ∧
  (∀ n, n ≠ mix → recordAt t n = recordAt s n) ∧
  rd t P10.METERS_ENROLLED = (t.infeed.meters.filter (fun m => m.rstate == 1)).length % 2 ^ 21) ∧
 (∀ h p mix m s, meterAt s mix = some m → recordAt s mix = some m →
  let t := effEnrolMeter ⟨some (.enrolMeter h p), [mix], p⟩ s
  applyEffect ⟨some (.enrolMeter h p), [mix], p⟩ s = dlReseal mix t ∧
  recordAt t mix = some { m with keyGen := leAt p 12 2, keygenAt := legalSec s % 2 ^ 40, icHigh := 0, icMap := 0 } ∧
  (∀ n, n ≠ mix → recordAt t n = recordAt s n)) ∧
 (∀ h p s, let t := applyEffect ⟨some (.loadProfileTemplate h p), [], p⟩ s
  (∀ x, x ∈ t.infeed.templates ↔ (x = templateOf p ∨ (x ∈ s.infeed.templates ∧ x.id ≠ byteAt p 0))))

/-- R143; R144; R146; R147; R148; R149; R158; R159; R160; Table 04-12; Table 04-16. -/
def Obligations.IngestAndUnsealingComplete : Prop :=
 (∀ h p s, let r := exec (.ingestBatch h p) s
  Served h p true s →
  let id := leAt p 0 8
  let off := leAt p 8 4
  let total := leAt p 12 4
  let d := p.drop 16
  let known := s.infeed.batches.find? (joinable id)
  let b := known.getD { id := id, total := total, parts := [], waiting := [], lastAt := s.now, st := 1 }
  let y := {
   b with
   parts := insPart (off, d) b.parts, waiting := b.waiting ++ [(h, p)], lastAt := s.now }
  let no := s.ledger.nextBatch
  (underHold s 1 → r = ended h p stBackpressure 0 s) ∧
  (underHold s 1 = false →
   (id = 0 → r = ended h p stBadPayload 0 s) ∧
   (id ≠ 0 → (total < 16 ∨ 130816 < total ∨ total ≠ b.total) →
    r = ended h p stBadPayload 12 s) ∧
   (id ≠ 0 → 16 ≤ total → total ≤ 130816 → total = b.total →
    (d = [] → r = ended h p stBadPayload 16 s) ∧
    (d ≠ [] → total < off + d.length → r = ended h p stBadPayload 8 s) ∧
    (∀ k, d ≠ [] → off + d.length ≤ total → overlapDiff off d b.parts = some k →
     r = ended h p stBadPayload k s) ∧
    (d ≠ [] → off + d.length ≤ total → overlapDiff off d b.parts = none →
     (known ≠ none ∨ (s.infeed.batches.filter (fun x => x.st != 3)).length < 64) → b.waiting.length < 16 →
     (b.st ≠ 2 → lowestMissing 0 y.parts ≠ b.total → r =
      .next (sendReply h stHeld (b.waiting.length + 1)
       (leB 8 b.id ++ leB 4 (heldFrom 0 y.parts) ++ leB 4 (lowestMissing 0 y.parts)) (putBatch y s))) ∧
     (b.st ≠ 2 → lowestMissing 0 y.parts = b.total → r =
      .next (putBatch { y with st := 2, no := no, items := batchItems no 131072 (assemble 0 y.parts) }
       { s with ledger.nextBatch := no + 1 })) ∧
     (b.st = 2 → r = .next (putBatch y s)))))) ∧
 (∀ h p s, Served h p false s →
  let live := s.infeed.batches.filter (fun b => b.id == leAt p 0 8 &&
   (b.st != 3 || decide (s.now < b.lastAt + rd s P10.BATCH_HOLD * 8000)))
  (∀ b, live.getLast? = some b → exec (.getBatchStatus h p) s = answered h p       (leB 1 b.st ++ [0, 0, 0] ++ leB 4 (heldFrom 0 b.parts) ++ leB 4 (lowestMissing 0 b.parts) ++
    leB 4 (if b.st = 2 then 0 else (b.lastAt + rd s P10.BATCH_HOLD * 8000 - s.now) / 8)) s) ∧
  (live = [] → exec (.getBatchStatus h p) s = ended h p stUnknownObject 0 s)) ∧
 (∀ id b s, s.infeed.batches.find? (fun b => b.id == id && b.st == 1) = some b →
  (b.lastAt + rd s P10.BATCH_HOLD * 8000 ≤ s.now → exec (.batchExpired id) s =
   .next (logEv evBatchExpired (leB 8 id) (b.waiting.foldl (fun t x => finish x.1 x.2 stNoResource 0x1003 [] t)
    { s with infeed.batches := s.infeed.batches.filter (fun x => !(x.id == id && x.st == 1)) }))) ∧
  (s.now < b.lastAt + rd s P10.BATCH_HOLD * 8000 → exec (.batchExpired id) s = .next s)) ∧
 (∀ job st s, (∀ j, jobOf s job = some j → firstOfFlow s j = false ∨ ∀ x, j.res ≠ some (st, x)) →
  exec (.unsealComplete job st) s = .next (settleFrames (handleHanded s))) ∧
 (∀ job j st plain s, jobOf s job = some j → j.res = some (st, plain) → firstOfFlow s j →
  ((st ≠ .authFail ∨ ∀ m, meterAt s j.mix = some m → mayRetry s m j = false) → exec (.unsealComplete job st) s =
   .next (settleFrames (handleHanded (leaveFlow j (unsealed_ j st plain) s)))) ∧
  (∀ m, st = .authFail → meterAt s j.mix = some m → mayRetry s m j →
   exec (.unsealComplete job st) s = .next (settleFrames (handleHanded (retryJob m j s))))) ∧
 (∀ j plain m s, meterAt s j.mix = some m →
  unsealed_ j .ok plain s = (if j.dlms then dlmsPlain m j plain s else cifPlain m j.item j.keyGen plain s) ∧
  unsealed_ j .authFail plain s = authFail j.mix j.item.way s ∧
  (mayRetry s m j ↔
   (j.dlms ∧ j.retry = false ∧ derivedMode m ∧ overlap s m ∧ j.keyGen = m.keyGen))) ∧
 (∀ r s, (∀ x, servedSlow s = some x → putItemW 0 (normPacket r x.item) (1 + r.rdgs.length) s = none) →
  exec (.slowPathReturn r) s = .next s) ∧
 (∀ r x t s, servedSlow s = some x → putItemW 0 (normPacket r x.item) (1 + r.rdgs.length) s = some t →
  exec (.slowPathReturn r) s = .next { t with infeed.slowQ := t.infeed.slowQ.erase x }) ∧
 (∀ m c, (m.icHigh < c → icCheck m c = .pass) ∧
  (c ≤ m.icHigh → m.icHigh ≤ c + 31 → (m.icMap.testBit (m.icHigh - c) = false → icCheck m c = .pass) ∧
   (m.icMap.testBit (m.icHigh - c) → icCheck m c = .again)) ∧
  (c + 31 < m.icHigh → icCheck m c = .replay)) ∧
 (∀ m f n g k s, (icCheck m f.ic = .again ∨ (icCheck m f.ic = .replay ∧ localWay f.way ∧ f.slow = false)) →
  afterCheck m f n g s = afterCheck m f n k s)

/-- R471; R472; R474; R475; R477; R478; R72; Table 14-6. -/
def Obligations.StreamCommandsComplete : Prop :=
 (∀ h p s, let r := exec (.streamOpen h p) s
  Served h p false s → let n := byteAt p 0
  (7 < n → r = ended h p stOutOfRange 0 s) ∧
  (n ≤ 7 →
   ((strAt s n).st = .closing → r = ended h p stBusy 0 s) ∧
   ((strAt s n).st = .opened → r =
    answered h p (leB 4 (rdI s P44.PKT_NEXT n) ++ leB 4 (rdI s P44.CREDIT_END n)) s) ∧
   ((strAt s n).st = .closed → underHold s (n + 21) →
    r = ended h p stBackpressure 0 s) ∧
   ((strAt s n).st = .closed → underHold s (n + 21) = false → s.tidy → n < s.memory.streams.length →
    ∃ t, r = .next (finish h p stDone 0 (leB 4 1 ++ leB 4 (rdI t P44.CREDIT_END n)) t) ∧
     strAt t n = { st := .opened } ∧ rdI t P44.PKT_NEXT n = 1 ∧ rdI t P44.STATE n = 1 ∧ rdI t P44.WORDS_IN n = 0 ∧
     (∀ k, k ≠ n → strAt t k = strAt s k)))) ∧
 (∀ h p s, Served h p false s →
  (7 < byteAt p 0 → exec (.streamClose h p) s = ended h p stOutOfRange 0 s) ∧
  (byteAt p 0 ≤ 7 → exec (.streamClose h p) s = .next (atBoundary h p (.streamClose h p) [byteAt p 0] s))) ∧
 (∀ h p n d s, (strAt s n).st = .opened → n < s.memory.streams.length → (strAt s n).part = none →
  let t := applyEffect ⟨some (.streamClose h p), [n], d⟩ s
  (strAt t n).st = (if (strAt s n).waiting = [] then .closed else .closing) ∧
   (strAt t n).waiting = (strAt s n).waiting) ∧
 (∀ h p s, let r := exec (.streamData h p) s
  stateGate s h false = .pass → let n := byteAt p 0
  let k := (p.length - 8) / 16
  (7 < n → r = .next (discardWords 0 k s)) ∧
  (n ≤ 7 → (strAt s n).st ≠ .opened → r = .next (discardWords n k s)) ∧
  (n ≤ 7 → s.tidy → (strAt s n).st = .opened → (strAt s n).part = none → h.seq = rdI s P44.PKT_NEXT n →
   n < s.memory.streams.length → p.length % 16 = 8 → leAt p 2 2 = 0 → leAt p 4 2 = k → 1 ≤ k → k ≤ 129 →
   k ≤ bankRoom (fifoAt s (n + 21)) →
   (let over_ := seqDist (rdI s P44.CREDIT_END n) ((rdI s P44.WORDS_IN n + k) % 2 ^ 32)
    over_ = 0 ∨ 2 ^ 31 ≤ over_) →
   ∃ t, r = .next t ∧ rdI t P44.PKT_NEXT n = (h.seq + 1) % 2 ^ 32 ∧
    rdI t P44.WORDS_IN n = (rdI s P44.WORDS_IN n + k) % 2 ^ 32 ∧ t.out = s.out ∧
    (strAt t n).waiting = (strAt s n).waiting ++ [h.seq] ∧ (strAt t n).part = none)) ∧
 (∀ (n : Fin 8) x s, (strAt s n).part = some x →
  (x.lastAt + rdI s P44.STALL_BEATS n ≤ s.now →
   exec (.streamDrop n) s = .next (dropPacket n (rdI s P44.PKT_NEXT n) s)) ∧
  (s.now < x.lastAt + rdI s P44.STALL_BEATS n → exec (.streamDrop n) s = .next s)) ∧
 (∀ (n : Fin 8) s, (strAt s n).part = none → exec (.streamDrop n) s = .next s) ∧
 (∀ (n : Fin 8) s,
  (progressDue s n → exec (.streamProgress n) s = .next (logEv evStreamProgress
   (leB 1 n ++ leB 4 (rdI s P44.CREDIT_END n) ++ leB 4 (rdI s P44.DONE_THRU n))
   (setStr n {
    strAt s n with
    seenCredit := rdI s P44.CREDIT_END n, seenDone := rdI s P44.DONE_THRU n, noticedAt := s.now } s))) ∧
  (progressDue s n = false → exec (.streamProgress n) s = .next s)) ∧
 (∀ (e : Fin 32) b s, (fifoAt s e).opened = some b → b.items ≠ [] →
  (21 ≤ e.val → e.val ≤ 28 → (strAt s (e.val - 21)).part = none) →
  (2 ≤ e.val → e.val ≤ 17 → (s.radio.chans.getD (e.val - 2) {}).rx.any RadRx.reserved = false) →
  (18 ≤ e.val → e.val ≤ 20 → (s.plc.phases.getD (e.val - 18) {}).rx.any PlcRx.reserved = false) → exec (.fifoBankClose e) s = .next (setFifo e
   { opened := if (fifoAt s e).closedB = [] then some {} else none,
     closedB := (fifoAt s e).closedB ++ [{ b with closed := true }] } s)) ∧
 (∀ (e : Fin 32) x s, 21 ≤ e.val → e.val ≤ 28 → (strAt s (e.val - 21)).part = some x →
  exec (.fifoBankClose e) s = .next s)

/-- R169; R170; R171; R187; R222; R224; Table 05-5. -/
def Obligations.RulesAndBalanceComplete : Prop :=
 (∀ h p s, let r := exec (.setRules h p) s
  Served h p true s → let ty := byteAt p 0
  let n := leAt p 2 2
  let t := applyRules p s
  (1 ≤ ty → ty ≤ 3 → n ≠ 0 → p.length = 8 + n * (if ty = 3 then 8 else 32) → rulesRange p = none → rulesBad p = none →
   (rulesMove s t = false → r =
    .next (accepted h p (leB 4 (if ty = 3 then profilesMoved s t else n)) p (.setRules h p) [] s)) ∧
   (rulesMove s t → r = ended h p stDeniedState 0 s)) ∧
  ((ty = 0 ∨ 3 < ty) → r = ended h p stBadPayload 0 s) ∧
  (1 ≤ ty → ty ≤ 3 → (n = 0 ∨ p.length ≠ 8 + n * (if ty = 3 then 8 else 32)) →
   r = ended h p stBadPayload 2 s)) ∧
 (∀ h p k s, byteAt p 0 = 1 →
  let t := applyEffect ⟨some (.setRules h p), [], p⟩ s
  assocGet k t.grade.rows = (if leAt p 4 2 ≤ k ∧ k < leAt p 4 2 + leAt p 2 2
   then some (rowAt (sliceB p (8 + (k - leAt p 4 2) * 32) 32)) else assocGet k s.grade.rows) ∧
  t.infeed = s.infeed ∧ t.grade.profiles = s.grade.profiles ∧ t.grade.tails = s.grade.tails) ∧
 (∀ h p s, let r := exec (.balanceGroupSet h p) s
  Served h p true s → let ty := byteAt p 0
  let n := leAt p 2 2
  let first := leAt p 4 2
  let es := (List.range n).map (fun i => (first + i, tallyEntry p i))
  (1 ≤ ty → ty ≤ 3 → n ≠ 0 → p.length = 8 + n * tallySize ty → (ty = 1 → first + n ≤ 65536) →
   (ty = 3 → first + n ≤ 16) → tallyBad p = none →
   ((∃ x ∈ es, needsMetro s ty x.2) →
    r = ended h p stDeniedState 0 s) ∧
   ((∀ x ∈ es, needsMetro s ty x.2 = false ∧ namesNone s ty x.2 = false ∧ feedsSelf s ty x.1 x.2 = false) →
    r = .next (accepted h p
     (leB 4 ((List.range n).filter (tallyChanges s p)).length) p (.balanceGroupSet h p) [] s))) ∧
  ((ty = 0 ∨ 3 < ty) → r = ended h p stBadPayload 0 s)) ∧
 (∀ h p s, let z := exec (.editReading h p) s
  Served h p true s →
  let mix := leAt p 0 3 % 2 ^ 20
  let ch := leAt p 0 3 / 2 ^ 20 % 16
  let e := leAt p 4 5
  (meterAt s mix = none → z = ended h p stUnknownObject 0 s) ∧
  (∀ m x, meterAt s mix = some m → m.chEnable.testBit ch → chanLen s m ch ≠ 0 → e % chanLen s m ch = 0 →
   slotAt s mix ch (slotOf (chanLen s m ch) e) = some x → x ≠ .pend →
   let old := newestRec s mix ch e
   (leAt p 20 8 ≠ (old.map Entry.lseq).getD 0 →
    z = ended h p stDeniedState 0 s) ∧
   (leAt p 20 8 = (old.map Entry.lseq).getD 0 → ∃ u c r, z = .next (postGroup [c, r] u) ∧
    r.kind = 0 ∧ recMix r = mix ∧ recCh r = ch ∧ recEnd r = e ∧ recVal r = toS 64 (leAt p 12 8) ∧
    c.act = .command h (cmdCrc h p) stAccepted 0 [0, 0, 0, 0, 0, 0, 0, 0] ⟨some (.editReading h p), [], p⟩ ∧
    (((tailAt s mix ch).hasLast ∧ (tailAt s mix ch).lastEnd = e →
     u = setTail mix ch { tailAt s mix ch with lastValue := toS 64 (leAt p 12 8) } s) ∧
    (¬ ((tailAt s mix ch).hasLast ∧ (tailAt s mix ch).lastEnd = e) → u = s)))))

/-- R226; R230; R240; R241; R243; R244; R245. -/
def Obligations.TallyAndScribeComplete : Prop :=
 (∀ h p s, let r := exec (.tallyQuery h p) s
  Served h p false s →
  (byteAt p 0 = 1 → r = answered h p (groupData s (leAt p 2 2)) s) ∧
  (byteAt p 0 = 2 → byteAt p 1 ≠ 0 → r =
   answered h p (anomData s (leAt p 2 2) (byteAt p 1) (leAt p 8 4 % 2 ^ 20)) s) ∧
  (∀ c, byteAt p 0 = 3 → byteAt p 1 ≠ 0 → campOf s (leAt p 4 4) = some c → r =
   answered h p (campData c (byteAt p 1) (leAt p 8 4)) s) ∧
  (byteAt p 0 = 3 → campOf s (leAt p 4 4) = none →
   r = ended h p stUnknownObject 0 s) ∧
  (byteAt p 0 ∉ [1, 2, 3] → r = ended h p stBadPayload 0 s)) ∧
 (∀ h p s, Served h p true s →
  let sel := selectOf s p
  let no := s.tally.nextCampaign
  (byteAt p 0 = 1 → byteAt p 1 ≤ 15 → usedRefs s (byteAt p 1) ≠ [] → byteAt p 2 ≤ 15 → 1 ≤ byteAt p 3 → byteAt p 3 ≤ 4 →
   96 ≤ leAt p 12 2 → leAt p 12 2 ≤ 4096 → (s.tally.campaigns.filter campRuns).length + pendingStarts s < 4 →
   sel.length ≤ 65536 → (metroOn s ∨ ∀ r ∈ usedRefs s (byteAt p 1), r.2.type ≠ 1) →
   exec (.scribeCampaign h p) s = .next (accepted h p (leB 4 no ++ leB 4 sel.length) p (.scribeCampaign h p) (no :: sel)
    { s with tally.nextCampaign := no + 1 })) ∧
  (∀ c, byteAt p 0 = 2 → campOf s (leAt p 4 4) = some c → exec (.scribeCampaign h p) s =
   .next (accepted h p (leB 4 c.no ++ leB 4 c.selected.length) p (.scribeCampaign h p) [c.no] s)) ∧
  (byteAt p 0 = 2 → campOf s (leAt p 4 4) = none →
   exec (.scribeCampaign h p) s = ended h p stUnknownObject 0 s)) ∧
 (∀ h p no sel s, byteAt p 0 = 1 → ∃ c, c.no = no ∧ c.selected = sel ∧ c.refSet = byteAt p 1 ∧ c.voltCh = byteAt p 2 ∧
  c.len = leAt p 12 2 ∧ c.step = intervalSec (byteAt p 3) ∧ (if sel = [] then c.st = 3 else campRuns c) ∧
  (applyEffect ⟨some (.scribeCampaign h p), no :: sel, p⟩ s).tally.campaigns = s.tally.campaigns ++ [c]) ∧
 (∀ h p no c s, byteAt p 0 ≠ 1 → campOf s no = some c → campRuns c →
  campOf (applyEffect ⟨some (.scribeCampaign h p), [no], p⟩ s) no = some { c with st := 4 }) ∧
 (∀ g d e s, g < 65536 → nextInterval s (grpAt s g) = (d, e) →
  let x := grpAt s g
  (tallyRuns s → x.lastT < e → mayClose s g d e →
   exec (.intervalClose g) s = .next (closeInterval g d e s) ∧
   (grpAt (closeInterval g d e s) g).lastT = e ∧ (grpAt (closeInterval g d e s) g).closes = x.closes + 1) ∧
  ((tallyRuns s = false ∨ e ≤ x.lastT ∨ mayClose s g d e = false) → exec (.intervalClose g) s = .next s)) ∧
 (∀ no mix c s, campOf s no = some c →
  let r := (resultOf s c mix).1
  (tallyRuns s → campRuns c → undecided c mix → evaluable s c mix →
   (seriesOk s mix c.voltCh c.step = false ∨ (c.len - 1 + 255) / 256 ≤ (assocGet mix c.blocks).getD 0) →
   ∃ t, exec (.scribeEvaluate no mix) s = .next t ∧ r.mix = mix ∧ campOf t no = some {
    c with
    results := c.results ++ [r], blocks := assocDel mix c.blocks,
    st := if ∃ m ∈ c.selected, m ≠ mix ∧ undecided c m then 2 else 3 }) ∧
  ((tallyRuns s = false ∨ campRuns c = false ∨ undecided c mix = false ∨ evaluable s c mix = false) →
   exec (.scribeEvaluate no mix) s = .next s))

/-- R196; R197; R198; R199; R200; R212; R213; R215; R216; R535. -/
def Obligations.LedgerEventsComplete : Prop :=
 (∀ l rest s, s.ledger.toSeal = l :: rest → rd s P12.NO_DIE_PAIR = 0 → pagesFit s l →
  (s.ledger.sealFrame ≠ some (frameNo s) ∨ s.pwr.mode = .holdup) → exec .ledgerGroupSeal s =
  .next (checkSpace (sealGroup l { s with ledger.toSeal := rest, ledger.sealFrame := some (frameNo s) }))) ∧
 (∀ l s, (sealGroup l s).ledger.nextGroup = s.ledger.nextGroup + 1 ∧
  ∃ g, (sealGroup l s).ledger.groups.getLast? = some g ∧ g.no = s.ledger.nextGroup ∧ g.accepted = false ∧
   g.entries.length = l.length) ∧
 (∀ s, (s.ledger.toSeal = [] ∨ rd s P12.NO_DIE_PAIR ≠ 0 ∨ (s.ledger.sealFrame = some (frameNo s) ∧ s.pwr.mode ≠ .holdup)) → exec .ledgerGroupSeal s = .next s) ∧
 (∀ g n c q s, pageOf s g n = some q →
  let t := count 0x07 (chNo c) 1 s
  (copySt c q = .programming → exec (.pageProgramDone g n c true) s = .next (modCopy g n c (copyDie c q) .readBack t) ∧
   exec (.pageProgramDone g n c false) s = .next (rewriteCopy g n c q t)) ∧
  (∀ ok, copySt c q ≠ .programming → exec (.pageProgramDone g n c ok) s = .next s)) ∧
 (∀ g n c b (same : Bool) q s, pageOf s g n = some q → copySt c q = .readBack →
  (same → b ≤ rd s P12.VERIFY_BITS → exec (.copyVerified g n c b same) s =
   .next (repFields (modCopy g n c (copyDie c q) .verified { s with ledger.rewriting := s.ledger.rewriting.filter (fun x => x != (g, n, c)) }))) ∧
  ((same = false ∨ rd s P12.VERIFY_BITS < b) →
   exec (.copyVerified g n c b same) s = .next (rewriteCopy g n c q s))) ∧
 (∀ g s, s.ledger.groups.find? (fun g => !g.accepted) = some g →
  let done := (∀ q ∈ g.pages, q.st0 = .verified ∧ q.st1 = .verified) ∧ silent s = false ∧
   (∀ u, s.pair.used = some u → g.no ≤ u.complete)
  (done → ∃ t, exec .groupAccept s = .next t ∧ t.ledger.horizon = max s.ledger.horizon g.no ∧
   t.ledger.groups = s.ledger.groups.map (fun x => if x.no == g.no then { x with accepted := true } else x) ∧
   (s.tidy → rd t P12.LAST_GROUP = g.no % 2 ^ 64)) ∧
  (¬ done → exec .groupAccept s = .next s)) ∧
 (∀ g s, s.ledger.groups.find? (fun g => g.accepted && !g.released) = some g →
  (silent s = false → exec .groupRelease s = .next (settleReleases (releaseGroup true g s))) ∧
  (silent s → exec .groupRelease s = .next s)) ∧
 (∀ s, s.ledger.groups.find? (fun g => g.accepted && !g.released) = none → exec .groupRelease s = .next s) ∧
 (∀ c (d : Fin 16) s, s.tidy → ∃ t, exec (.ledgerDieLost c d) s = .next t ∧ rd t P12.SINGLE_COPY = 1 ∧
  (c, d.val) ∈ t.ftl.dieLost ∧ (usableDies t .c0 = [] ∨ usableDies t .c1 = [] → rd t P12.NO_DIE_PAIR = 1)) ∧
 (∀ s, (toReplicate s = 0 → exec .rereplicationDone s = .next (repFields (wr P12.SINGLE_COPY 0 s))) ∧
  (toReplicate s ≠ 0 → exec .rereplicationDone s = .next s)) ∧
 (∀ s, s.tidy → rd s P41.WORN ≠ 0 → rd s P12.WORN = 0 →
  ∃ t, exec .ledgerWorn s = .next t ∧ rd t P12.WORN = 1 ∧ rd t P12.READONLY ≠ 0) ∧
 (∀ s, (rd s P41.WORN = 0 ∨ rd s P12.WORN ≠ 0) → exec .ledgerWorn s = .next s) ∧
 (∀ k s, granted s .reclaim → reclaimMay s k →
  (∀ j, s.ledger.carry = some j → exec (.segmentReclaim k) s = .next (endReclaim j (spend .reclaim s))) ∧
  (s.ledger.carry = none → ∃ j u, u = beginReclaim k (spend .reclaim s) ∧ u.ledger.carry = some j ∧ j.seg = k ∧
   exec (.segmentReclaim k) s = .next (if reclaimReady u j then endReclaim j u else u))) ∧
 (∀ k s, (granted s .reclaim = false ∨ reclaimMay s k = false) → exec (.segmentReclaim k) s = .next s) ∧
 (∀ k s, s.ledger.carry = none → (reclaimMay s k ↔ assocGet k s.ftl.segs = some .closed ∧
  s.ledger.groups.all (groupDone s k) ∧ pagesFit s ((segEntries s k).filter (carried s)))) ∧
 (∀ j s, assocGet j.seg (endReclaim j s).ftl.segs = none) ∧
 (∀ s, (s.pwr.mode = .run ∨ s.pwr.mode = .trim → exec .presenceCheckpoint s =
   .next (writePages ptSettings 0 (ceilDiv (64 * s.infeed.presence.length) s.ftl.pageSize) s)) ∧
  (s.pwr.mode ≠ .run → s.pwr.mode ≠ .trim → exec .presenceCheckpoint s = .next s))

/-- R205; R206; R207; R208; R209; R210; R211; Table 06-7. -/
def Obligations.ExportCommandsComplete : Prop :=
 (∀ h p s, let r := exec (.exportOpen h p) s
  Served h p true s → let x := streamAt s (byteAt p 0)
  let y := openFilter p x
  (7 < byteAt p 0 → r = ended h p stOutOfRange 0 s) ∧
  (byteAt p 0 ≤ 7 → byteAt p 1 % 8 ≠ 0 → y.mixLo ≤ y.mixHi →
   (x.isOpen = false → r = .next (accepted h p
    (leB 4 (x.epoch + 1) ++ [0, 0, 0, 0] ++ leB 8 0) (leB 4 (x.epoch + 1) ++ [0, 0, 0, 0] ++ leB 8 0)
    (.exportOpen h p) [x.epoch + 1] s)) ∧
   (x.isOpen → y = x → r = .next (postEntry (commandEntry h p
    (leB 4 x.epoch ++ [0, 0, 0, 0] ++ leB 8 x.acked) (leB 4 x.epoch ++ [0, 0, 0, 0] ++ leB 8 x.acked)
    { data := p }) s)) ∧
   (x.isOpen → y ≠ x → r = ended h p stDeniedState 0 s))) ∧
 (∀ h p s, let r := exec (.exportRead h p) s
  Served h p false s → let k := byteAt p 0
  let n := leAt p 2 2
  let f := leAt p 8 8
  (7 < k → r = ended h p stOutOfRange 0 s) ∧
  (k ≤ 7 → 1 ≤ n → n ≤ 255 →
   ((streamAt s k).isOpen = false → r = ended h p stUnknownObject 0 s) ∧
   ((streamAt s k).isOpen → leAt p 4 4 ≠ (streamAt s k).epoch →
    r = ended h p stDeniedState 0 s) ∧
   ((streamAt s k).isOpen → leAt p 4 4 = (streamAt s k).epoch →
    (oldestX s k ≤ f → f ≤ highReadable s k + 1 →
     r = answered h p (exportData s k n f) s) ∧
    ((f < oldestX s k ∨ highReadable s k + 1 < f) →
     r = ended h p stOutOfRange 64 s)))) ∧
 (∀ h p s, let r := exec (.exportAck h p) s
  Served h p true s → let k := byteAt p 0
  let a := leAt p 8 8
  (k ≤ 7 → (streamAt s k).isOpen → leAt p 4 4 = (streamAt s k).epoch →
   (a ≤ highReadable s k → r = .next (accepted h p
    (leB 8 (max (streamAt s k).acked a) ++ leB 8 (highReadable s k)) p (.exportAck h p) [] s)) ∧
   (highReadable s k < a → r = ended h p stOutOfRange 64 s)) ∧
  (k ≤ 7 → exec (.exportClose h p) s = .next (accepted h p [] p (.exportClose h p) [] s)) ∧
  (7 < k → r = ended h p stOutOfRange 0 s ∧
   exec (.exportClose h p) s = ended h p stOutOfRange 0 s)) ∧
 (∀ h p k ep s, byteAt p 0 = k → k < s.ledger.streams.length → (streamAt s k).isOpen = false →
  let t := applyEffect ⟨some (.exportOpen h p), [ep], p⟩ s
  (streamAt t k).isOpen ∧ (streamAt t k).epoch = ep ∧ (streamAt t k).acked = 0 ∧
   (streamAt t k).kinds = byteAt p 1 % 8 ∧ (∀ j, j ≠ k → streamAt t j = streamAt s j)) ∧
 (∀ h p s,
  let k := byteAt p 0
  let t := applyEffect ⟨some (.exportAck h p), [], p⟩ s
  (streamAt s k).acked ≤ (streamAt t k).acked ∧ (∀ j, j ≠ k → streamAt t j = streamAt s j) ∧
  (k < s.ledger.streams.length → (streamAt s k).isOpen → (streamAt s k).epoch = leAt p 4 4 →
   streamAt t k = { streamAt s k with acked := max (streamAt s k).acked (leAt p 8 8) })) ∧
 (∀ h p s,
  let k := byteAt p 0
  let t := applyEffect ⟨some (.exportClose h p), [], p⟩ s
  (k < s.ledger.streams.length → streamAt t k = { streamAt s k with isOpen := false }) ∧
  (∀ j, j ≠ k → streamAt t j = streamAt s j)) ∧
 (∀ h p s, let r := exec (.ledgerQuery h p) s
  Served h p false s →
  ((byteAt p 0 = 1 ∨ byteAt p 0 = 2) → byteAt p 1 ≠ 0 →
   r = answered h p (queryData p s) s) ∧
  (byteAt p 0 ≠ 1 → byteAt p 0 ≠ 2 → r = ended h p stBadPayload 0 s) ∧
  ((byteAt p 0 = 1 ∨ byteAt p 0 = 2) → byteAt p 1 = 0 →
   r = ended h p stOutOfRange 8 s)) ∧
 (∀ h p s, Served h p false s → exec (.ledgerStatus h p) s = answered h p (ledgerStatus s) s)

/-- R253; R254; R256; R257; R263; R265; R266; R268; R281; R282; Table 08-2. -/
def Obligations.RadioFrameEventsComplete : Prop :=
 (∀ (ch : Fin 16) n sfd s, radChanUp s ch → portDeaf s ch (slotNs s + sfd) = false → n ≤ 2047 →
  exec (.phrDecoded ch n false sfd) s = .next (modChan ch (fun c => {
   c with
   rx := some ⟨n, slotNs s + sfd, chainNs s + sfd, efTakes s (ch + 2) (1 + (n + 15) / 16)⟩,
   rxUntil := slotNs s + sfd + psduNs s ch n }) s) ∧
  exec (.phrDecoded ch n true sfd) s = .next (bumpCh P20.RX_FCS_ERR ch s)) ∧
 (∀ (ch : Fin 16) n sw sfd s, (radChanUp s ch = false ∨ portDeaf s ch (slotNs s + sfd) ∨ 2047 < n) →
  exec (.phrDecoded ch n sw sfd) s = .next s) ∧
 (∀ (ch : Fin 16) f r s, let z := exec (.radioFrameReceived ch f) s
  (chanAt s ch).rx = some r →
  let u := modChan ch (fun c => { c with rx := none }) s
  (radChanUp s ch = false → z = .next u) ∧
  (radChanUp s ch → f.fcsOk = false →
   z = .next (bumpCh P20.RX_FCS_ERR ch u)) ∧
  (radChanUp s ch → f.fcsOk → secOk s ch f = false →
   z = .next (bumpCh P20.RX_SEC_FAIL ch (count 0x0F ch 1 (bumpCh P20.RX_FRAMES ch u)))) ∧
  (radChanUp s ch → f.fcsOk → secOk s ch f →
   z = .next (checkedFrame ch f r (count 0x0F ch 1 (bumpCh P20.RX_FRAMES ch u))))) ∧
 (∀ (ch : Fin 16) f s, (chanAt s ch).rx = none → exec (.radioFrameReceived ch f) s = .next s) ∧
 (∀ ch f r s, (f.toUs = false ∨ f.ackReq = false ∨ f.kind = 2) → enhAck ch f r s = s) ∧
 (∀ ch f r s, f.toUs → f.ackReq → f.kind ≠ 2 → r.reserved = false →
  enhAck ch f r s = bumpCh P20.ACK_WITHHELD ch s) ∧
 (∀ o q e ch p due s, seenFind s o q = some e → e.relay = some (ch, p, due) → due ≤ s.now → exec (.floodRelay o q) s =
  .next (bumpCh P20.RELAYED ch (queueRadio
   { ch := ch, cls := 6, ext := none, dest := 0xFFFF, ackReq := false,
     payload := p.take 2 ++ leB 1 (byteAt p 2 + 1) ++ leB 1 (rdI s P20.DEPTH ch) ++ p.drop 4 }
   (modSeen o q (fun x => { x with relay := none }) s)))) ∧
 (∀ o q s, (∀ e, seenFind s o q = some e → e.relay = none) → exec (.floodRelay o q) s = .next s) ∧
 (∀ o q s, ∃ t, exec (.seenEntryExpire o q) s = .next t ∧ t = { s with radio.seen := t.radio.seen } ∧
  ∀ e, e ∈ t.radio.seen ↔ e ∈ s.radio.seen ∧ ¬ (e.origin = o ∧ e.seq = q ∧
   e.at_ + rd s P20.SEEN_HOLD * 8000 ≤ s.now)) ∧
 (∀ (ch : Fin 16) n a s, let r := exec (.radioTransmit ch n a) s
  radChanUp s ch → (chanAt s ch).flight = none → (chanAt s ch).txUntil ≤ slotNs s →
  portReceiving s (radPort s ch) = false → turnedTx s (radPort s ch) (slotNs s) → fcLeft s ch →
  (∀ x, nextRadio s ch = some x →
   transmitting s (radPort s ch) (slotNs s) + aheadOf s ch x.cls < rdI s P20.PORT_TX_MAX (radPort s ch) →
   let u := { s with radio.txq := s.radio.txq.erase x }
   (x.cls = 4 → r = .next (goOnAir x n u)) ∧
   (x.cls ≠ 4 → inCap s ch n → accessOk s ch a →
    (a.clear → r = .next (goOnAir x n u)) ∧
    (a.clear = false → r =
     .next (bumpCh P20.CCA_FAIL ch (retryOrDrop { x with tries := x.tries + 1 } u))))) ∧
  (nextRadio s ch = none → r = .next s)) ∧
 (∀ (ch : Fin 16) n a s, (radChanUp s ch = false ∨ fcLeft s ch = false ∨ slotNs s < (chanAt s ch).txUntil) →
  exec (.radioTransmit ch n a) s = .next s) ∧
 (∀ (ch : Fin 16) x s, (chanAt s ch).flight = some x →
  let u := modChan ch (fun c => { c with flight := none }) s
  exec (.enhAckWaitExpire ch) s = .next (if x.tries ≤ rdI s P20.MAX_RETRIES x.ch
   then { u with radio.txq := x :: u.radio.txq } else u)) ∧
 (∀ (ch : Fin 16) s, (chanAt s ch).flight = none → exec (.enhAckWaitExpire ch) s = .next s)

/-- R258; R259; R260; R262; R271; R272; R273; R276; R277; R278; R279; R285. -/
def Obligations.RadioCoordinatorComplete : Prop :=
 (∀ (ch : Fin 16) e idle s, let r := exec (.associationRequest ch e idle) s
  coordUp s ch →
  (meterOfTitle s e = none → r =
   .next (newTitle e (macCommand ch e 0xFFFF (!idle) (leB 1 2 ++ leB 2 0xFFFF ++ leB 1 2) s))) ∧
  (∀ m, meterOfTitle s e = some m → (acceptsAssoc s = false ∨ 0xFFFD < freeShort s ch) →
   r =
    .next (macCommand ch e 0xFFFF (!idle) (leB 1 2 ++ leB 2 0xFFFF ++ leB 1 1) s)) ∧
  (∀ m, meterOfTitle s e = some m → acceptsAssoc s → freeShort s ch ≤ 0xFFFD → neighOn s ch e = none →
   ∃ t, r = .next t ∧
    ∃ n, t.radio.neigh = s.radio.neigh ++ [n] ∧ n.ext = e ∧ n.ch = ch.val ∧ n.short = freeShort s ch ∧
     n.st = (if idle then 1 else 5))) ∧
 (∀ (ch : Fin 16) e idle s, coordUp s ch = false → exec (.associationRequest ch e idle) s = .next s) ∧
 (∀ s ch x, x ∈ s.radio.neigh → x.ch = ch → x.short ≠ freeShort s ch) ∧
 (∀ (ch : Fin 16) e s, (∀ n, neighOn s ch e = some n → coordUp s ch →
   exec (.orphanNotification ch e) s = .next (macCommand ch e n.short false
    (leB 1 8 ++ leB 2 (rdI s P20.PAN_ID ch) ++ leB 2 0 ++ leB 1 0 ++ leB 2 n.short) s)) ∧
  ((neighOn s ch e = none ∨ coordUp s ch = false) → exec (.orphanNotification ch e) s = .next s)) ∧
 (∀ (ch : Fin 16) a s, ∃ t, exec (.shortAddrReleased ch a) s = .next t ∧
  ∀ n, n ∈ t.radio.neigh ↔ n ∈ s.radio.neigh ∧ ¬ (n.ch = ch.val ∧ n.short = a ∧ n.st = 4 ∧
   n.heardTick + rdI s P20.ADDR_HOLD ch * 3600 * 8000 ≤ s.now)) ∧
 (∀ (ch : Fin 16) e s, radChanUp s ch →
  let hers := fun x : RadTx => x.ch == ch.val && x.indirect && x.ext == some e
  let few := (blockNames (s.radio.txq.filter hers)).take (rd s P60.SLEEPY_BLOCKS)
  exec (.dataRequest ch e) s = .next { s with
   radio := { s.radio with
    txq := s.radio.txq.map (fun x =>
    if hers x ∧ goesAtPoll few x
    then { x with readyTo := some (slotNs s + gMaxNs s ch + airtime s ch 1024) } else x) } } ∧
  ∀ x ∈ s.radio.txq, (∀ c k, x.cargo ≠ .block c k) → goesAtPoll few x) ∧
 (∀ (ch : Fin 16) e s, radChanUp s ch = false → exec (.dataRequest ch e) s = .next s) ∧
 (∀ (ch : Fin 16) r n s, let z := exec (.slotRequest ch r) s
  neighOn s ch r.ext = some n → coordUp s ch →
  let bad := r.period = 0 ∨ 86400 < r.period ∨ r.drift = 0 ∨ 100 < r.drift ∨
   (r.cell ≠ 0xFFFFFFFF ∧ r.period * 100 ≤ r.cell * rdI s P20.CELL_MS ch)
  let wide := r.flags.testBit 0 = false ∧ gMaxNs s ch < g0Ns s ch
   + 2 * ((r.drift + rd s P20.DRIFT_DEV : Nat) : Int) * (r.period * 1000000000) / 1000000
  let no := fun k => slotAnswer n (slotBytes 4 r.period r.cell k r.flags 0) s
  (bad → z = .next (no 3)) ∧
  (¬ bad → wide → z = .next (no 2)) ∧
  (¬ bad → ¬ wide → cellFor s ch r.ext r.period r.cell = none → z = .next (no 1)) ∧
  (∀ c, ¬ bad → ¬ wide → cellFor s ch r.ext r.period r.cell = some c → ∃ t x, z = .next t ∧
   neighOn t ch r.ext = some x ∧ x.period = r.period ∧ x.cell = c ∧ x.drift = r.drift ∧
   x.st = (if n.st = 1 ∨ n.st = 4 ∨ n.st = 5 then 2 else n.st) ∧ x.short = n.short)) ∧
 (∀ (ch : Fin 16) e n s, neighOn s ch e = some n → n.st ≠ 1 → ∃ t x, exec (.slotRelease ch e) s = .next t ∧
  neighOn t ch e = some x ∧ x.st = 5 ∧ x.period = 0 ∧ x.cell = 0 ∧ x.missed = 0) ∧
 (∀ n s, neighOn s n.ch n.ext = some n → ∃ x, neighOn (countMiss n s) n.ch n.ext = some x ∧ x.missed = n.missed + 1 ∧
  (n.missed + 1 = 3 → x.st = 3) ∧ (n.missed + 1 = 96 → x.st = 4 ∧ x.period = 0) ∧
  (n.missed + 1 ≠ 3 → n.missed + 1 ≠ 96 → x.st = n.st)) ∧
 (∀ (ch : Fin 16) e i n s, neighOn s ch e = some n →
  let a := agreed n ((i : Nat) * 1000000 : Nat)
  let w := slotWindow s n ((i : Nat) * 1000000 : Nat)
  let u := modNeigh ch e (fun y => { y with slotDone := i }) s
  a.1 ≠ 0 → n.st ≠ 1 → n.st ≠ 4 → n.st ≠ 5 → nearestSlot s ch a.1 a.2 ((i : Nat) * 1000000 : Nat) = (i * 1000000 : Nat) →
  n.slotDone < i → w.2 ≤ slotNs s → (n.heard < w.1 ∨ w.2 < n.heard) → exec (.slotMissed ch e i) s =
   .next (if excused s ch w then u else radCounts ch (countMiss { n with slotDone := i } u))) ∧
 (∀ (ch : Fin 16) b s, coordUp s ch → running s →
  let t := slotNs s + (b : Nat)
  let us := (t / 1000).toNat
  (if beaconTurn s ch = 0 then atBeacon s ch us else groupEnd s ch = some us) → exec (.beaconTransmit ch b) s =
   .next (modChan ch (fun c => { c with beaconAt := us, beaconUntil := t + airtime s ch Config.beaconPsdu })
    (onTime ch Config.beaconPsdu t (.radio ch 2 (txLevel s ch) none 0xFFFF false false (nextFc s ch)
     (beaconBytes s ch (t + sfdNs s ch))) s))) ∧
 (∀ (ch : Fin 16) b n s, coordUp s ch → running s →
  let t := slotNs s + (b : Nat)
  let off : Int := (ch.val * 500000 : Nat)
  ((t / 1000 - off) % 900000000 = 0 ∨ (t / 1000 = -(-(chanAt s ch).beaconUntil / 1000) ∧
   ((chanAt s ch).beaconAt - off) % 900000000 = 0)) → exec (.rendezvousSlot ch b n) s =
   .next (modChan ch (fun x => { x with rdvUntil := t + 400000000 }) (onTime ch n t (.radio ch 3 (txLevel s ch) none 0xFFFF
    false false (nextFc s ch) (leB 1 0xE3 ++ [0] ++ leB 4 ((t / 1000000000).toNat % 2 ^ 32)
     ++ leB 2 (t % 1000000000 / 1000000).toNat ++ leB 2 (rdI s P20.NET_ID ch))) s))) ∧
 (∀ (ch : Fin 16) b n s, (coordUp s ch = false ∨ running s = false) →
  exec (.beaconTransmit ch b) s = .next s ∧ exec (.rendezvousSlot ch b n) s = .next s) ∧
 (∀ h p s, Served h p false s →
  let l := neighFrom s (byteAt p 0) (leAt p 2 2)
  ((byteAt p 0 ≤ 15 ∨ byteAt p 0 = 0xFF) → leAt p 2 2 ≤ 8191 → exec (.radioNeighbours h p) s = answered h p       (leB 2 (min 255 l.length) ++ leB 2 (((l.drop 255).head?.map Prod.fst).getD 0xFFFF) ++ zeros 12
    ++ ((l.take 255).map (fun x => neighBytes x.2)).flatten) s) ∧
  ((15 < byteAt p 0 ∧ byteAt p 0 ≠ 0xFF) → exec (.radioNeighbours h p) s = ended h p stOutOfRange 0 s))

/-- R261; R270. -/
def Obligations.RadioMemberComplete : Prop :=
 (∀ (ch : Fin 16) b p s, s.tidy → (chanAt s ch).parent = some p → radChanUp s ch → b.fromParent →
  b.panId = rdI s P20.PAN_ID ch → rdI s P20.STATE ch ∈ [3, 4, 5] →
  (rdI s P20.STATE ch = 5 → s.now < p.scanBegan + rdI s P20.ORPHAN_HOLD ch * 60 * 8000) →
  ch.val < s.radio.chans.length →
  let d := if b.realign then p.depth else byteAt b.payload 2
  ∃ t, exec (.beaconReceived ch b) s = .next t ∧ rdI t P20.STATE ch = 3 ∧ rdI t P20.DEPTH ch = (d + 1) % 256 ∧
   (chanAt t ch).parent = some {
    p with
    depth := d, relays := if b.realign then p.relays else (List.range 4).map (fun k => leAt b.payload (12 + 2 * k) 2),
    lastBeacon := slotNs s + b.sfd, expect := slotNs s + b.sfd + biNs s ch, missed := 0 } ∧
   (rdI s P20.STATE ch = 3 → t.ev = s.ev)) ∧
 (∀ (ch : Fin 16) p s, (chanAt s ch).parent = some p → radChanUp s ch →
  let w := beaconHalf s ch p
  let u := modParent ch (fun x => { x with missed := p.missed + 1, half := w, expect := p.expect + biNs s ch }) s
  p.expect + w ≤ slotNs s →
  (rdI s P20.STATE ch = 3 → p.missed + 1 = 3 → exec (.radioParentLost ch) s =
   .next (logEv evRadioParentLost (leB 1 ch) (wrI P20.STATE ch 4 (cancelRelays ch u)))) ∧
  ((rdI s P20.STATE ch = 4 ∨ (rdI s P20.STATE ch = 3 ∧ p.missed + 1 ≠ 3)) →
   exec (.radioParentLost ch) s = .next u)) ∧
 (∀ (ch : Fin 16) p s, (chanAt s ch).parent = some p → slotNs s < p.expect + beaconHalf s ch p →
  exec (.radioParentLost ch) s = .next s) ∧
 (∀ (ch : Fin 16) p s, let r := exec (.radioOrphanScan ch) s
  (chanAt s ch).parent = some p → radChanUp s ch →
  let mark := modChan ch (fun x => { x with lastScan := some s.now })
  (rdI s P20.STATE ch = 4 → 11 ≤ p.missed → r = .next (logEv evRadioOrphanScan (leB 1 ch)
   (wrI P20.STATE ch 5 (queueScan ch 6 (mark (modParent ch (fun x => { x with scanBegan := s.now }) s)))))) ∧
  (rdI s P20.STATE ch = 5 → (∀ a, (chanAt s ch).lastScan = some a → a + 60 * 8000 ≤ s.now) →
   r = .next (queueScan ch 6 (mark s))) ∧
  (rdI s P20.STATE ch = 4 → p.missed < 11 → r = .next s)) ∧
 (∀ (ch : Fin 16) p s, s.tidy → (chanAt s ch).parent = some p → rdI s P20.STATE ch = 5 →
  p.scanBegan + rdI s P20.ORPHAN_HOLD ch * 60 * 8000 ≤ s.now →
  ∃ t, exec (.orphanHoldExpire ch) s = .next t ∧ rdI t P20.STATE ch = 6 ∧
   (∀ x, x ∈ t.radio.txq ↔ x ∈ s.radio.txq ∧ ¬ (x.ch = ch.val ∧ ∃ m a l, x.cargo = .acks m a l)) ∧
   (ch.val < s.radio.chans.length → (chanAt t ch).parent = none)) ∧
 (∀ (ch : Fin 16) b s, (chanAt s ch).parent = none → exec (.beaconReceived ch b) s = .next s ∧
  exec (.radioParentLost ch) s = .next s ∧ exec (.radioOrphanScan ch) s = .next s ∧
  exec (.orphanHoldExpire ch) s = .next s) ∧
 (∀ (ch : Fin 16) s, radChanUp s ch → rdI s P20.ROLE ch ≠ 0 → rdI s P20.STATE ch = 6 →
  (∀ a, (chanAt s ch).lastScan = some a → a + 60 * 8000 ≤ s.now) →
  let u := modChan ch (fun c => { c with lastScan := some s.now }) (queueScan ch 7 s)
  exec (.radioJoin ch none) s = .next u ∧
  (∀ j, j.panId = rdI s P20.PAN_ID ch → leAt j.payload 0 2 = rdI s P20.NET_ID ch → (byteAt j.payload 3).testBit 0 →
   ∃ x, exec (.radioJoin ch (some j)) s = .next (wrI P20.STATE ch 3 (wrI P20.DEPTH ch (byteAt j.payload 2 + 1)
     (modChan ch (fun c => { c with parent := some x }) u))) ∧
    x.ext = j.ext ∧ x.short = j.short ∧ x.own = j.own ∧ x.depth = byteAt j.payload 2 ∧
    x.expect = slotNs s + j.sfd + biNs s ch)) ∧
 (∀ (ch : Fin 16) j s, (radChanUp s ch = false ∨ rdI s P20.ROLE ch = 0 ∨ rdI s P20.STATE ch ≠ 6) →
  exec (.radioJoin ch j) s = .next s)

/-- R298; R299; R302; R303; R305; R307; R312; R313; R315; R316; R317; R320. -/
def Obligations.PowerlineEventsComplete : Prop :=
 (∀ (ph : Fin 3) b x s, let r := exec (.zeroCrossing ph b x) s
  let raw : Int := s.plumb.chain + (b : Nat) * 109227
  let z := raw - rdS s P21.ZC_ADJ (ph + 1) * 1000 * 65536
  let e := z / 65536
  let m := e - (phaseAt s ph).lastX
  let high := rdPh s P21.ZC_DEGLITCH ph * 1000 ≤ x.high
  let good := high ∧ (m - (phaseAt s ph).period / 65536).natAbs ≤ rdPh s P21.ZC_WINDOW ph * 1000 ∧
   intervalOk s ph m
  (zcMetro s → r = .next (zcFields (stampCrossing ph raw x (countCrossing ph s)))) ∧
  (zcMetro s = false → detects s ph → rdPh s P21.STATE ph ≠ 3 →
   (good → r = .next (cycleWork ph x (stampCrossing ph z x (countCrossing ph (periodField ph
    (modPhase ph (fun q => { q with period := q.period + (m * 65536 - q.period) / 16, lastX := e, fly := 0 }) s)))))) ∧
   (¬ good → r = .next s)) ∧
  (zcMetro s = false → detects s ph → rdPh s P21.STATE ph = 3 → high →
   r = .next (candidate ph e s))) ∧
 (∀ (ph : Fin 3) x s, let r := exec (.flywheelCycle ph x) s
  let at_ := (phaseAt s ph).lastX + (phaseAt s ph).period / 65536
  let late := at_ + rdPh s P21.ZC_WINDOW ph * 1000 ≤ chainNs s + 125000
  let u := modPhase ph (fun q => { q with lastX := at_, fly := q.fly + 1 }) (bumpPh P21.ZC_FLYWHEEL ph (countCrossing ph s))
  (detects s ph → rdPh s P21.STATE ph ≠ 3 → late →
   (rdPh s P21.ZC_FLY ph ≤ (phaseAt u ph).fly → r = .next (zcLost ph u)) ∧
   ((phaseAt u ph).fly < rdPh s P21.ZC_FLY ph → r = .next (cycleWork ph x u))) ∧
  ((detects s ph = false ∨ rdPh s P21.STATE ph = 3 ∨ ¬ late) → r = .next s)) ∧
 (∀ (ph : Fin 3) tones off at_ s, let r := exec (.plcHeaderDecoded ph tones off at_) s
  phaseHears s ph → (phaseAt s ph).line = none →
  let bits := (recvSlots (cycleMasks s ph (commonMasks s ph)) false (fun _ => false) 0 tones).map Prod.fst
  160 ≤ bits.length →
  (rdPh s P21.ZC_TOL ph * 1000 < off.natAbs →
   r = .next (bumpPh P21.RX_MISALIGNED ph s)) ∧
  (off.natAbs ≤ rdPh s P21.ZC_TOL ph * 1000 → readRobust (bits.take 160) = none →
   r = .next s) ∧
  (∀ w, off.natAbs ≤ rdPh s P21.ZC_TOL ph * 1000 → readRobust (bits.take 160) = some w →
   let f := parsePlcHdr w
   let toUs := f.dest = 0 ∧ f.ctrl % 16 ≠ 1
   let room := efTakes s (ph + 18) (1 + (f.len + 15) / 16)
   let u := fun held => modPhase ph (fun p => { p with rx := some ⟨f, chainNs s + at_, held⟩ }) s
   let fits_ := f.ctrl / 64 = 1 ∧ (if f.ctrl % 16 = 1 then f.len = 0 else 1 ≤ f.len ∧ f.len ≤ 240)
   (¬ fits_ → r = .next s) ∧
   (fits_ → toUs → room → r = .next (u true)) ∧
   (fits_ → toUs → room = false →
    r = .next (bumpPh P21.ACK_WITHHELD ph (u false))) ∧
   (fits_ → ¬ toUs → r = .next (u false)))) ∧
 (∀ (ph : Fin 3) x r s, (phaseAt s ph).rx = some r →
  let u := modPhase ph (fun p => { p with rx := none }) s
  let ty := r.hdr.ctrl % 16
  let l := linkAt s ph r.hdr.src
  let mapped := mapHeld s ph l r.hdr.mapSeq ∨ (r.hdr.dest = 0xFFFF ∧ r.hdr.mapSeq = 0)
  let m := mapOfRx s ph l r.hdr.mapSeq
  let imp := impulses s ph x.marks
  let f := receivePayload s ph r.hdr.len m x.tones imp
  let v := markImpulses ph r.hdr.src (imp.map Prod.snd) u
  let w := if f.corrected then bumpPh P21.RX_RECOVERED ph v else v
  let done := fun t => exec (.plcFrameReceived ph x) s = .next t
  (phaseHears s ph = false → done u) ∧
  (phaseHears s ph →
   (ty = 1 → done (linkAckIn ph r (heardPlc ph u))) ∧
   (ty ≠ 1 → ¬ mapped → done (queueToneMap ph r.hdr.src 1 (bumpPh P21.RX_CRC_FAIL ph u))) ∧
   (ty ≠ 1 → mapped → (f.rsOk = false ∨ f.crcOk = false) → done ((erasedSegs s ph m x.tones imp).foldl
    (fun t g => countFailure ph r.hdr.src g t) (bumpPh P21.RX_CRC_FAIL ph v))) ∧
   (ty ≠ 1 → mapped → f.rsOk → f.crcOk →
    ((micRight s ph f.payload = false ∨ 8 < ty ∨ f.payload.length < 14) → done (bumpPh P21.RX_CRC_FAIL ph w)) ∧
    (micRight s ph f.payload → ty ≤ 8 → 14 ≤ f.payload.length →
     done (plcChecked ph ty f.payload r (heardPlc ph w)))))) ∧
 (∀ (ph : Fin 3) x s, (phaseAt s ph).rx = none → exec (.plcFrameReceived ph x) s = .next s) ∧
 (∀ (ph : Fin 3) x s, (phaseAt s ph).await = some x → (phaseAt s ph).awaitAt ≤ chainNs s →
  let u := modPhase ph (fun p => { p with await := none }) s
  (x.tries < rdPh s P21.LINK_RETRIES ph → exec (.plcLinkAckTimeout ph) s =
   .next (requeueFront ph { x with tries := x.tries + 1 } u)) ∧
  (rdPh s P21.LINK_RETRIES ph ≤ x.tries → exec (.plcLinkAckTimeout ph) s =
   .next (rerouted ph x (bumpPh P21.LINK_FAILS ph (modLink ph x.dest (fun y =>
    { y with unacked := if x.type = 0 then (true :: y.unacked).take 16 else y.unacked }) u))))) ∧
 (∀ (ph : Fin 3) s, ((phaseAt s ph).await = none ∨ chainNs s < (phaseAt s ph).awaitAt) →
  exec (.plcLinkAckTimeout ph) s = .next s) ∧
 (∀ (ph : Fin 3) m s, (phaseHears s ph → (phaseAt s ph).tmAt + rdPh s P21.TM_PERIOD ph * 8000 ≤ s.now →
   exec (.tmPeriodBoundary ph m) s = .next ((phaseAt s ph).links.foldl (fun t l => linkPeriod ph m l t)
    (modPhase ph (fun p => { p with tmAt := s.now }) s))) ∧
  ((phaseHears s ph = false ∨ s.now < (phaseAt s ph).tmAt + rdPh s P21.TM_PERIOD ph * 8000) →
   exec (.tmPeriodBoundary ph m) s = .next s)) ∧
 (∀ (ph : Fin 3) a (g : Fin 8) s, ((∃ l ∈ (phaseAt s ph).links, l.addr = a) → exec (.tmBlankHoldExpire ph a g) s =
   .next (modLink ph a (fun l => { l with
    blanks := l.blanks.filter (fun x =>
    !(x.1 == g.val && decide (x.2 + rdPh s P21.TM_BLANK_HOLD ph * 60 * 8000 ≤ s.now))) }) s)) ∧
  ((∀ l ∈ (phaseAt s ph).links, l.addr ≠ a) → exec (.tmBlankHoldExpire ph a g) s = .next s)) ∧
 (∀ (ph : Fin 3) s,
  let due := ∀ t, (phaseAt s ph).advAt = some t → t + rdPh s P21.ADV_PERIOD ph * 8000 ≤ s.now
  (phaseRuns s ph → due → exec (.routeAdvertisement ph) s = .next (advertise ph s)) ∧
  (phaseRuns s ph = false → exec (.routeAdvertisement ph) s = .next s)) ∧
 (∀ (ph : Fin 3) title s, exec (.routeAgeExpire ph title) s = .next (modRoute ph title (fun r =>
  { r with
   alternate := r.alternate.filter (fun a =>
   decide (s.now < a.at_ + rdPh s P21.ROUTE_AGE ph * 60 * 8000)) }) s)) ∧
 (∀ (ph : Fin 3) a s, exec (.plcAddrHoldExpire ph a) s = .next (modPhase ph (fun p =>
  let out := fun x : Nat × Nat => x.1 == a && decide (x.2 + rdPh s P21.ADDR_HOLD ph * 3600 * 8000 ≤ s.now)
  { p with held := p.held.filter (fun x => !out x) }) s)) ∧
 (∀ (ph : Fin 3) f r s, (phaseAt s ph).line = some (f, r) →
  let n := (phaseAt s ph).aborts + 1
  let till := chainNs s + retryWait s * (periodNs s ph / 2)
  let u := modPhase ph (fun p => { p with line := none, aborts := n, retryHold := if f.type = 1 then none else some till })
   (bumpPh P21.TX_ABORTS ph (if f.type = 1 then s else drawn (requeueFront ph f s)))
  1 ≤ retryWait s ∧ retryWait s ≤ 4 ∧ (n < rdPh s P21.TRIP_LIMIT ph → exec (.txAbortImpedance ph) s = .next u) ∧
  (rdPh s P21.TRIP_LIMIT ph ≤ n → exec (.txAbortImpedance ph) s = .next (logEv evPlcLowImpedance (leB 1 (ph + 1))
   (wrPh P21.STATE ph 4 (modPhase ph (fun p =>
    { p with suspended := some s.now, aborts := 0, retryHold := none }) u))))) ∧
 (∀ (ph : Fin 3) s, (phaseAt s ph).line = none → exec (.txAbortImpedance ph) s = .next s) ∧
 (∀ (ph : Fin 3) s, (∀ t, (phaseAt s ph).retryHold = some t → t ≤ chainNs s → exec (.tripRetryExpire ph) s =
   .next (modPhase ph (fun p => { p with retryHold := none }) s)) ∧
  ((∀ t, (phaseAt s ph).retryHold = some t → chainNs s < t) → exec (.tripRetryExpire ph) s = .next s)) ∧
 (∀ (ph : Fin 3) t s, (phaseAt s ph).suspended = some t → t + rdPh s P21.TRIP_BACKOFF ph * 8000 ≤ s.now →
  let u := modPhase ph (fun p => { p with suspended := none }) s
  exec (.tripBackoffExpire ph) s = .next (if rdPh s P21.STATE ph = 4 then wrPh P21.STATE ph 2 u else u)) ∧
 (∀ h p s, Served h p false s → let l := (routeEntries s (byteAt p 0 - 1)).drop (leAt p 2 2)
  (1 ≤ byteAt p 0 → byteAt p 0 ≤ 3 → leAt p 2 2 ≤ 2047 → exec (.plcRoutes h p) s = answered h p       (leB 2 (min 170 l.length) ++ leB 2 (if 170 < l.length then leAt p 2 2 + 170 else 0xFFFF) ++ zeros 12
    ++ (l.take 170).flatten) s) ∧
  ((byteAt p 0 = 0 ∨ 3 < byteAt p 0) → exec (.plcRoutes h p) s = ended h p stOutOfRange 0 s))

/-- R328; R329; R330; R331; R335; R340; R341; R342; R344; R345. -/
def Obligations.DownlinkComplete : Prop :=
 (∀ h p urgent s, Served h p true s →
  let run := fun t : State => exec (if urgent then .dlUrgent h p else .dlQueue h p) t
  let mix := leAt p 0 4 % 2 ^ 20
  let exp := leAt p 8 5
  let roomy := openItems s mix < rd s P60.DL_PER_METER ∧ (s.dl.items.filter itemOpen).length < 65536
  let i : DlItem := {
   no := s.dl.nextItem, mix := mix, urgent := urgent, cmd := byteAt p 4, way := byteAt p 5 % 4,
   expiry := if exp = 0 then legalSec s + rd s P60.DL_LIFE * 3600 else exp,
   max := if byteAt p 13 = 0 then rd s P60.DL_ATTEMPTS else byteAt p 13, hostRef := leAt p 16 8, body := p.drop 24 }
  let c := { commandEntry h p (zeros 8) [] { data := p } with fill := 1 }
  let q := dlEntry 1 mix 0 0 (byteAt p 4) 0 0 0 p s.dl.nextItem false
  let u := { s with dl.items := s.dl.items ++ [i], dl.nextItem := s.dl.nextItem + 1 }
  let first := urgent ∧ ∀ x ∈ s.dl.items, x.mix = mix → x.urgent → itemOpen x = false
  (meterAt s mix = none → run s = ended h p stUnknownObject 0 s) ∧
  (∀ m, meterAt s mix = some m →
   (0xF0 ≤ byteAt p 4 → run s = ended h p stBadPayload 4 s) ∧
   (byteAt p 4 < 0xF0 → byteAt p 5 % 4 ≠ 3 →
    (exp ≠ 0 → exp ≤ legalSec s → run s = ended h p stOutOfRange 64 s) ∧
    ((exp = 0 ∨ legalSec s < exp) →
     (¬ roomy → run s = ended h p stNoResource 0x1201 s) ∧
     (roomy → (¬ first ∨ sealFor s mix = none) → run s = .next (postGroup [c, q] u)) ∧
     (∀ w, roomy → first → sealFor s mix = some w → ∃ z y, (z, y) = sealItem u w i (nextDlc s mix) true ∧
      run s = .next (postGroup [c, q, z] (modItem i.no (fun _ => y) (takeLane w y (takeDlc mix u))))))))) ∧
 (∀ h p s, let r := exec (.dlStatus h p) s
  Served h p false s →
  (∀ i, itemOf s (leAt p 0 8) = some i → r = answered h p (itemBytes i) s) ∧
  (∀ x, itemOf s (leAt p 0 8) = none → pushOf s (leAt p 0 8) = some x → r = answered h p       (leB 1 (if pushRuns x then 0x10 else 0x11) ++ [0, 0, 0] ++ leB 4 x.meters.length ++ leB 4 (pushCount x 3)
    ++ leB 4 (pushCount x 4) ++ leB 4 (pushCount x 5) ++ leB 4 (pushCount x 2) ++ zeros 8) s) ∧
  (itemOf s (leAt p 0 8) = none → pushOf s (leAt p 0 8) = none →
   r = ended h p stUnknownObject 0 s)) ∧
 (∀ h p s, let r := exec (.dlCancel h p) s
  Served h p true s →
  let c := fun st : Nat => commandEntry h p (leB 1 st ++ zeros 7) [] { data := p }
  (∀ i, itemOf s (leAt p 0 8) = some i →
   (i.st = 2 → r = ended h p stDeniedState 0 s) ∧
   (i.st = 1 → i.posted = 0 → r = .next (postGroup
    [c 4, dlEntry 4 i.mix i.id 0 i.cmd 1 0 0 [] i.no false] (modItem i.no (fun x => { x with posted := 4 }) s))) ∧
   (3 ≤ i.st → i.posted = 0 → r = .next (postEntry (c i.st) s))) ∧
  (∀ x, itemOf s (leAt p 0 8) = none → pushOf s (leAt p 0 8) = some x →
   let l := s.dl.items.filter (fun i => i.owner == .push x.no && i.st == 1 && i.posted == 0)
   let sent := s.dl.items.any (fun i => i.owner == .push x.no && (i.st == 2 || i.posted == 2))
   r = .next (postGroup (c (if sent then 0x10 else 0x11) :: l.map (fun i => cancelEntry i 3))
    (l.foldl (fun t i => markPosted i.no 4 t) { s with
     dl := {
      s.dl with
      pushes := s.dl.pushes.map (fun y => if y.no == x.no then { y with cancelled := true } else y) } }))) ∧
  (itemOf s (leAt p 0 8) = none → pushOf s (leAt p 0 8) = none →
   r = ended h p stUnknownObject 0 s)) ∧
 (∀ h p s, let r := exec (.tariffPush h p) s
  Served h p true s →
  let sel := selected10 s ((byteAt p 14).testBit 0) (leAt p 0 4) (leAt p 4 4)
  let no := s.dl.nextPush
  (∀ st d, tableBad p = some (st, d) → r = .next (finish h p st d [] s)) ∧
  (tableBad p = none → leAt p 8 5 ≤ legalSec s → r = ended h p stOutOfRange 64 s) ∧
  (tableBad p = none → legalSec s < leAt p 8 5 → (rd s P03.LEGAL_INVALID ≠ 0 ∨ sel = []) →
   r = ended h p stDeniedState 0 s) ∧
  (tableBad p = none → legalSec s < leAt p 8 5 → rd s P03.LEGAL_INVALID = 0 → sel ≠ [] → r =
   .next (postGroup [{ commandEntry h p (zeros 8) [] { data := p } with fill := 1 }, dlEntry 7 0 0 0 0 0 0 0 p no false]
    { s with dl.nextPush := no + 1, dl.pushes := s.dl.pushes ++ [⟨no, 0, leAt p 8 5, byteAt p 13, p.drop 16, false, false, sel.map (fun m => (m, 1))⟩] }))) ∧
 (∀ mix urgent s, let w := if urgent then Task.dlUrgent else .dlQueued
  (∀ i m, nextItem s mix urgent = some i → sealFor s mix = some m → meterAt s mix ≠ none → granted s w →
   ∃ e j, (e, j) = sealItem s m i (nextDlc s mix) false ∧ j.dlc = nextDlc s mix ∧ j.posted = 2 ∧
    exec (.dlDispatch mix urgent) s =
     .next (postEntry e (modItem i.no (fun _ => j) (takeLane m j (takeDlc mix (spend w s)))))) ∧
  ((nextItem s mix urgent = none ∨ sealFor s mix = none ∨ meterAt s mix = none ∨ granted s w = false) → exec (.dlDispatch mix urgent) s = .next s)) ∧
 (∀ mix s, nextDlc (takeDlc mix s) mix = nextDlc s mix + 1 ∧
  ∀ m, m ≠ mix → nextDlc (takeDlc mix s) m = nextDlc s m) ∧
 (∀ n i s, itemOf s n = some i → i.st = 2 → i.posted = 0 → wayFor s i.way i.mix ≠ .host →
  ((∀ t, i.lastTx = some t → t + rd s P60.DL_RESEND * 8000 ≤ s.now) ∨
   (∃ ch n, wayFor s i.way i.mix = .direct ch ∧ neighOn s ch (titleOf s i.mix) = some n ∧ n.st ≠ 1)) →
  (i.made < i.max → exec (.dlResendExpire n) s = .next (transmitItem i s)) ∧
  (i.max ≤ i.made → exec (.dlResendExpire n) s = .next (expireItem i 2 s))) ∧
 (∀ n i s, itemOf s n = some i → i.st ≠ 2 → exec (.dlResendExpire n) s = .next s) ∧
 (∀ n i s, itemOf s n = some i →
  ((i.st = 1 ∨ i.st = 2) → i.posted = 0 → i.expiry ≤ legalSec s → exec (.dlExpiry n) s = .next (expireItem i 1 s)) ∧
  (legalSec s < i.expiry → exec (.dlExpiry n) s = .next s)) ∧
 (∀ n s, itemOf s n = none → exec (.dlExpiry n) s = .next s ∧ exec (.dlResendExpire n) s = .next s)

/-- R347; R348; R349; R350; R352; R353; R354. -/
def Obligations.CampaignsComplete : Prop :=
 (∀ h p s, Served h p true s →
  (let no := byteAt p 0
  let off := leAt p 4 4
  let total := leAt p 8 4
  let d := p.drop 16
  let old := if (byteAt p 1).testBit 0 then none else assocGet no s.dl.images
  no ≤ 15 → 1 ≤ total → total ≤ 4194304 → off % 4096 = 0 → off < total → d.length = min 4096 (total - off) →
  imageBusy s no = false → (∀ m, old = some m → m.total = total ∧ overlapDiff off d m.blocks = none) →
  ∃ m : MeterImage, m.total = total ∧ (old = none → m.crc = leAt p 12 4 ∧ m.blocks = [(off, d)]) ∧
   (∀ x, old = some x → m.crc = x.crc ∧
    m.blocks = if ∃ b ∈ x.blocks, b.1 = off then x.blocks else insPart (off, d) x.blocks) ∧
   (lowestMissing 0 m.blocks = total → crc32c (assemble 0 m.blocks) ≠ leAt p 12 4 → exec (.meterImageLoad h p) s =
    .next (finish h p stAuthFailed 0 [] { s with dl.images := assocDel no s.dl.images })) ∧
   (¬ (lowestMissing 0 m.blocks = total ∧ crc32c (assemble 0 m.blocks) ≠ leAt p 12 4) → exec (.meterImageLoad h p) s =
    .next (postEntry (commandEntry h p (leB 4 (heldFrom 0 m.blocks) ++ leB 4 (lowestMissing 0 m.blocks)) [] { data := p })
     { s with dl.images := assocSet no m s.dl.images }))) ∧
  (let size := leAt p 2 2
  let sel := (selected10 s ((byteAt p 1).testBit 0) (leAt p 4 4) (leAt p 8 4)).filter (hasLocalWay s)
  (s.keys.entropyBad → exec (.campaignCreate h p) s = ended h p stFuncFailed 0x0040 s) ∧
  (∀ m, s.keys.entropyBad = false → assocGet (byteAt p 0) s.dl.images = some m → lowestMissing 0 m.blocks = m.total →
   128 ≤ size → size ≤ 1024 → size % 16 = 0 → (m.total + size - 1) / size ≤ 4096 → leAt p 12 5 < leAt p 17 5 →
   legalSec s < leAt p 17 5 → (s.dl.camps.filter (fun c => decide (c.st ≤ 3))).length < 4 → sel ≠ [] →
   sel.length ≤ 65536 → campSlotOk s (leAt p 28 2) → 1 ≤ leAt p 30 2 → leAt p 30 2 ≤ 1000 →
   ∃ u c k, exec (.campaignCreate h p) s = .next (postGroup
     [commandEntry h p (leB 4 s.dl.nextCamp ++ leB 4 sel.length) [] { data := p }, stepEntry 1 0 s.dl.nextCamp 0 0 0 0 p] u) ∧
    u.dl.camps = s.dl.camps ++ [c] ∧ u.dl.nextCamp = s.dl.nextCamp + 1 ∧ c.no = s.dl.nextCamp ∧ c.keySlot = leAt p 28 2 ∧
    c.blockSize = size ∧ c.deadline = leAt p 17 5 ∧ c.meters.map CampMeter.mix = sel ∧
    assocGet (leAt p 28 2) u.keys.slots = some k ∧ k.loaded ∧ k.key = (List.range 16).map (Config.random s.free)))) ∧
 (∀ h p c s, let r := exec (.campaignControl h p) s
  Served h p true s → fwCamp s (leAt p 0 4) = some c →
  let a := byteAt p 4
  let e := fun st : Nat => commandEntry h p (leB 1 st ++ zeros 7) [] { data := p }
  ((c.st = 4 ∨ c.st = 5 ∧ (a ≠ 3 ∨ ∀ m ∈ c.meters, 5 ≤ m.st)) →
   r = ended h p stDeniedState 0 s) ∧
  (c.st = 5 → a = 3 → (∃ m ∈ c.meters, m.st < 5) → r = .next (postEntry (e 5) s)) ∧
  (c.st < 4 → 1 ≤ a → a ≤ 4 →
   (controlHeld c a → r = .next (postEntry (e c.st) s)) ∧
   (controlHeld c a = false → a ≠ 3 → r =
    .next (postGroup [e (controlState s c a), stepEntry 2 0 c.no a 0 c.round 0 []] s)) ∧
   (controlHeld c a = false → a = 3 →
    let l := s.dl.items.filter (fun i => i.owner == .campaign c.no && i.st == 1 && i.posted == 0)
    r = .next (postGroup (e (controlState s c a) :: stepEntry 2 0 c.no a 0 c.round 0 []
     :: l.map (fun i => cancelEntry i 3)) (l.foldl (fun t i => markPosted i.no 4 t) s))))) ∧
 (∀ h p s, Served h p true s → fwCamp s (leAt p 0 4) = none →
  exec (.campaignControl h p) s = ended h p stUnknownObject 0 s) ∧
 (∀ h p s, Served h p false s →
  (∀ c, fwCamp s (leAt p 0 4) = some c → let l := c.meters.drop (leAt p 4 4)
   let n := fun f : Nat → Bool => leB 4 (c.meters.filter (fun m => f m.st)).length
   exec (.campaignStatus h p) s = answered h p         (leB 4 c.no ++ leB 1 (if c.st = 0 then 1 else c.st) ++ leB 1 (min 255 c.round) ++ [0, 0] ++ leB 4 c.meters.length
     ++ n (fun x => x == 2) ++ n (fun x => x == 3 || x == 4) ++ n (fun x => x == 5) ++ n (fun x => decide (6 ≤ x))
     ++ leB 4 (if 509 < l.length then leAt p 4 4 + 509 else 0xFFFFFFFF)
     ++ ((l.take 509).map (campMeterBytes c)).flatten) s) ∧
  (fwCamp s (leAt p 0 4) = none → exec (.campaignStatus h p) s = ended h p stUnknownObject 0 s)) ∧
 (∀ n c s, let r := exec (.campaignRound n) s
  fwCamp s n = some c →
  (granted s .campaign → let u := spend .campaign s
   (c.st = 1 → c.start ≤ legalSec s → r = .next (startCampaign c u)) ∧
   (c.st = 2 → c.sending = false → queriesOpen s c = false → r = .next (beginRound c u)) ∧
   (∀ t, c.lastBlock = some t → c.st = 2 → c.sending = false → t + rd s P60.ROUND_WAIT * 60 * 8000 ≤ s.now →
    exec (.roundWaitExpire n) s = .next (beginRound c u))) ∧
  ((granted s .campaign = false ∨ c.st ≠ 1 ∧ c.st ≠ 2 ∨ c.st = 1 ∧ legalSec s < c.start) →
   r = .next s) ∧
  ((granted s .campaign = false ∨ c.lastBlock = none ∨ c.st ≠ 2 ∨ c.sending) → exec (.roundWaitExpire n) s = .next s) ∧
  (1 ≤ c.st → c.st ≤ 3 → c.deadline ≤ legalSec s → exec (.campaignEnded n) s = .next (endCampaign c 4
   ((c.meters.filter (fun m => decide (m.st < 5))).foldl (fun t m => meterStep10 c m 7 0 [] t) s))) ∧
  ((c.st = 0 ∨ 3 < c.st ∨ legalSec s < c.deadline) → exec (.campaignEnded n) s = .next s)) ∧
 (∀ n s, fwCamp s n = none → exec (.campaignRound n) s = .next s ∧ exec (.roundWaitExpire n) s = .next s ∧
  exec (.campaignEnded n) s = .next s)

/-- R356; R357; R358; R359; R360; R361; R362; R363; R365. -/
def Obligations.FirmwareUpdateComplete : Prop :=
 (∀ h p s, let r := exec (.imageBegin h p) s
  Served h p true s → let c := byteAt p 0
  let st := (compAt s c).idle.st
  (4 < c → r = ended h p stOutOfRange 0 s) ∧
  (c ≤ 4 → 1 ≤ leAt p 4 4 → leAt p 4 4 ≤ largestImage c → st ≠ 3 → st ≠ 4 →
   (c = 4 → rd s P60.LEGAL_UPD_MODE = 0 → r = ended h p stDeniedLegal 0 s) ∧
   (c = 4 → rd s P60.LEGAL_UPD_MODE ≠ 0 → rd s P30.SEAL_STATE = 0 →
    r = ended h p stDeniedSeal 0 s) ∧
   ((c = 4 → rd s P60.LEGAL_UPD_MODE ≠ 0 ∧ rd s P30.SEAL_STATE ≠ 0 ∧ version10 (activeHead s 4) < version10 p) →
    r = .next (accepted h p
     (leB 4 s.dl.nextUpdate ++ leB 1 (1 - (compAt s c).active) ++ [0, 0, 0]) p (.imageBegin h p) [s.dl.nextUpdate]
     { s with dl.nextUpdate := s.dl.nextUpdate + 1 }))) ∧
  (c ≤ 4 → 1 ≤ leAt p 4 4 → leAt p 4 4 ≤ largestImage c → (st = 3 ∨ st = 4) →
   r = ended h p stDeniedState 0 s)) ∧
 (∀ h p s, Served h p true s →
  (updateOf s (leAt p 0 4) = none → exec (.imageBlock h p) s = ended h p stUnknownObject 0 s ∧
   ∀ sig, exec (.imageCommit h p sig) s = ended h p stUnknownObject 0 s)) ∧
 (∀ h p c s, let r := exec (.imageBlock h p) s
  Served h p true s → updateOf s (leAt p 0 4) = some c →
  let off := leAt p 4 4
  let d := (p.drop 16).take (updateLen s c - off)
  let bs := (compAt s c).idle.blocks
  let y := if bs.any (fun b => b.1 == off) then bs else insPart (off, d) bs
  (off % 4096 = 0 → off < updateLen s c →
   (leAt p 8 4 ≠ crc32c (p.drop 16) → r = ended h p stBadPayload 8 s) ∧
   (leAt p 8 4 = crc32c (p.drop 16) → overlapDiff off d bs = none → r =
    .next (postEntry (commandEntry h p (leB 4 (heldFrom 0 y) ++ leB 4 (lowestMissing 0 y)) [] { data := p })
     (modComp c (FwComp.modIdle (fun x => { x with blocks := y })) s)))) ∧
  ((off % 4096 ≠ 0 ∨ updateLen s c ≤ off) → r = ended h p stOutOfRange 32 s)) ∧
 (∀ h p c s, Served h p true s → updateOf s (leAt p 0 4) = some c → legalRule s c = none →
  let t := postP256 ((48 + updateLen s c + 98303) / 98304 + 17) s
  (lowestMissing 0 (compAt s c).idle.blocks < updateLen s c → ∀ sig,
   exec (.imageCommit h p sig) s = ended h p stDeniedState 0 s) ∧
  (updateLen s c ≤ lowestMissing 0 (compAt s c).idle.blocks →
   exec (.imageCommit h p true) s = .next (accepted h p (leB 4 (leAt p 0 4) ++ leB 1 (1 - (compAt s c).active) ++ [0, 0, 0]) p
    (.imageCommit h p true) [c] t) ∧
   exec (.imageCommit h p false) s = .next (finish h p stAuthFailed 0 []
    (modComp c (fun x => { x.modIdle (fun _ => {}) with openId := 0 }) t)))) ∧
 (∀ h p s, Served h p true s → let m := byteAt p 0 % 32
  ((m = 0 ∨ (m.testBit 4 ∧ m ≠ 16)) → exec (.imageActivate h p) s = ended h p stBadPayload 0 s) ∧
  (m ≠ 0 → (m.testBit 4 → m = 16 ∧ legalRule s 4 = none) → s.dl.pendingMask = 0 → s.dl.trialMask = 0 →
   (∀ c, c < 5 → m.testBit c → (compAt s c).idle.st = 2) → badPair s m = none →
   exec (.imageActivate h p) s = .next (accepted h p (leB 1 m ++ zeros 7) p (.imageActivate h p) [] s))) ∧
 (∀ h p s, Served h p false s → exec (.imageStatus h p) s = answered h p     (((List.range 5).map (compRecord s)).flatten ++ leB 1 (rd s P60.BOOT_TRIES)
   ++ leB 1 (rd s P30.SEAL_STATE + 2 * rd s P60.LEGAL_UPD_MODE + 4 * b2n s.dl.rolledBack) ++ zeros 6) s) ∧
 (∀ h p n s, let c := byteAt p 0
  let t := applyEffect ⟨some (.imageBegin h p), [n], p⟩ s
  c < s.dl.comps.length → (compAt s c).active < 2 → (compAt s c).slots.length = 2 →
  (compAt t c).openId = n ∧ (compAt t c).idle = { st := 1, begin_ := p } ∧ (compAt t c).active = (compAt s c).active ∧
  (∀ k, k ≠ c → compAt t k = compAt s k)) ∧
 (∀ h p sig c s, let t := applyEffect ⟨some (.imageCommit h p sig), [c], p⟩ s
  c < s.dl.comps.length → (compAt s c).active < 2 → (compAt s c).slots.length = 2 →
  (compAt t c).openId = 0 ∧ (compAt t c).idle = { (compAt s c).idle with st := 2 } ∧
  (∀ k, k ≠ c → compAt t k = compAt s k)) ∧
 (∀ h p s, (applyEffect ⟨some (.imageActivate h p), [], p⟩ s).dl.pendingMask = byteAt p 0 % 32) ∧
 (∀ t s, s.dl.trialMask ≠ 0 → (s.pwr.mode = .run ∨ s.pwr.mode = .trim) → s.dl.runAt = some t → t + rd s P60.CONFIRM_S * 8000 ≤ s.now →
  ∃ u, exec .updateConfirmed s = .next u ∧ u.dl.trialMask = 0 ∧ u.dl.rolledBack = false ∧
   (s.tidy → rd u P60.BOOT_TRIES = 0) ∧
   ∀ c, c < 5 → c < s.dl.comps.length → (compAt u c).active =
    if s.dl.trialMask.testBit c then 1 - (compAt s c).active else (compAt s c).active) ∧
 (∀ s, s.dl.trialMask = 0 → exec .updateConfirmed s = .next s) ∧
 (∀ (c : Fin 5) t s, s.dl.bootAt = some t →
  (s.dl.trialMask.testBit c → t + rd s P60.BOOT_WINDOW * 8000 ≤ s.now →
   exec (.bootWindowExpire c) s = .next (deviceReset 4 s)) ∧
  ((s.dl.trialMask.testBit c = false ∨ s.now < t + rd s P60.BOOT_WINDOW * 8000) →
   exec (.bootWindowExpire c) s = .next s))

/-- R409; R410; R411; R412; R414; R415; R419; R422; R423; R424. -/
def Obligations.KeysAndLanesComplete : Prop :=
 (∀ h p s, Served h p true s →
  (let n := leAt p 0 2 % 512
  let ty := byteAt p 5
  let persist := (leAt p 0 2).testBit 15
  (s.keys.entropyBad → exec (.keyGenerate h p) s = ended h p stFuncFailed 0x0040 s) ∧
  (s.keys.entropyBad = false → headOk (byteAt p 4) ty (byteAt p 6) → n ≠ 0 → (keySlotAt s n).loaded = false →
   ((keySlotAt s n).attr = 0 ∨ (keySlotAt s n).attr = byteAt p 4) → (persist → rd s P40.DEBUG_ACTIVE = 0) →
   ∃ t, exec (.keyGenerate h p) s = .next (accepted h p (leB 2 n ++ leB 2 (keySlotAt t n).gen) (keyInfo t n)
     (.keyGenerate h p) [n] t) ∧
    (keySlotAt t n).loaded ∧ (keySlotAt t n).origin = .generated ∧ (keySlotAt t n).attr = byteAt p 4 ∧
    (keySlotAt t n).gen = ((keySlotAt s n).gen + 1) % 65536 ∧ (keySlotAt t n).key.length = (if ty = 1 then 16 else 32) ∧
    ∀ k, k ≠ n → keySlotAt t k = keySlotAt s k)) ∧
  (let own := anySlot s (leAt p 0 2 % 512)
  let n := leAt p 2 2 % 512
  let persist := (leAt p 2 2).testBit 15
  s.keys.entropyBad = false → own.attr = 4 → own.loaded → byteAt p 4 ≠ 4 →
  headOk (byteAt p 4) (byteAt p 5) (byteAt p 6) →
   (exec (.keyAgree h p false) s = ended h p stBadPayload 8 s) ∧
   (n ≠ 0 → (keySlotAt s n).loaded = false → ((keySlotAt s n).attr = 0 ∨ (keySlotAt s n).attr = byteAt p 4) →
    (persist → rd s P40.DEBUG_ACTIVE = 0) →
    ∃ t, exec (.keyAgree h p true) s = .next (accepted h p (leB 2 n ++ leB 2 (keySlotAt t n).gen) (keyInfo t n)
      (.keyAgree h p true) [n] t) ∧
     (keySlotAt t n).loaded ∧ (keySlotAt t n).origin = .agreed ∧ ∀ k, k ≠ n → keySlotAt t k = keySlotAt s k)) ∧
  (let form := byteAt p 0
  let n := leAt p 2 2 % 512
  let open_ := n ≠ 0 ∧ (keySlotAt s n).loaded = false ∧ ((keySlotAt s n).attr = 0 ∨ (keySlotAt s n).attr = byteAt p 8) ∧
   ((byteAt p 12).testBit 0 → rd s P40.DEBUG_ACTIVE = 0)
  let kek := keySlotAt s (leAt p 16 2 % 512)
  let u := keyUnwrap kek.key (p.drop 24)
  let c := Instr.keyImport h (p.take 24) (p.drop 24)
  let filled := fun o : Origin => fun key : List Byte => ∃ t, exec (.keyImport h (p.take 24) (p.drop 24)) s =
    .next (accepted h p (leB 2 n ++ leB 2 (keySlotAt t n).gen) (keyInfo t n) c [n] t) ∧
   (keySlotAt t n).loaded ∧ (keySlotAt t n).origin = o ∧ (keySlotAt t n).key = key ∧
   (keySlotAt t n).attr = byteAt p 8 ∧ ∀ k, k ≠ n → keySlotAt t k = keySlotAt s k
  dataLenOk form (byteAt p 9) (p.length - 24) →
  (form = 1 → rd s P40.PLAIN_IMPORT = 0 → exec c s = ended h p stDeniedState 0 s) ∧
  (form = 1 → rd s P40.PLAIN_IMPORT ≠ 0 → headOk (byteAt p 8) (byteAt p 9) (byteAt p 10) → open_ →
   privateOk (byteAt p 9) (p.drop 24) → filled .plain (p.drop 24)) ∧
  (form = 2 → headOk (byteAt p 8) (byteAt p 9) (byteAt p 10) → open_ → kek.attr = 2 → kek.loaded →
   (u = none → exec c s = ended h p stAuthFailed 0 s) ∧
   (∀ d, u = some d → d.take 8 = sliceB p 8 8 → privateOk (byteAt p 9) (d.drop 8) → filled .wrapped (d.drop 8))) ∧
  (∀ m, form = 3 → meterAt s (leAt p 4 4 % 2 ^ 20) = some m → derivedMode m = false →
   let k := keySlotAt s (m.key % 512)
   let good := k.attr = 2 ∧ k.loaded ∧ keyUnwrap k.key (p.drop 24) ≠ none
   (¬ good → exec c s = ended h p stAuthFailed 0 s) ∧
   (good → exec (.keyImport h (p.take 24) (p.drop 24)) s =
    .next (accepted h p (leB 4 (leAt p 4 4 % 2 ^ 20)) p c [] s))))) ∧
 (∀ h p s, byteAt p 0 = 3 → ∀ m, meterAt s (leAt p 4 4 % 2 ^ 20) = some m →
  meterAt (applyEffect ⟨some (.keyImport h (p.take 24) (p.drop 24)), [], p⟩ s) (leAt p 4 4 % 2 ^ 20) = some { m with wrapped := p.drop 24 }) ∧
 (∀ h p s, Served h p true s → let n := leAt p 0 2 % 512
  (n = 0 → exec (.keyZeroise h p) s = ended h p stDeniedState 0 s) ∧
  (n ≠ 0 → exec (.keyZeroise h p) s = .next (accepted h p [] p (.keyZeroise h p) [] s))) ∧
 (∀ h p s, let n := leAt p 0 2 % 512
  let t := applyEffect ⟨some (.keyZeroise h p), [], p⟩ s
  (keySlotAt s n).loaded → ((byteAt p 2).testBit 0 → keySlotAt t n = {}) ∧
   ((byteAt p 2).testBit 0 = false →
    keySlotAt t n = { keySlotAt s n with loaded := false, key := [], origin := .none }) ∧
   ∀ k, k ≠ n → keySlotAt t k = keySlotAt s k) ∧
 (∀ h p s, let r := exec (.pubkeyExport h p) s
  Served h p false s → exec (.keyInfo h p) s = answered h p (keyInfo s (leAt p 0 2 % 512)) s ∧
  (let k := anySlot s (leAt p 0 2 % 512)
   (k.attr = 4 → k.loaded → r =
    answered h p (pubKey k.key) s) ∧
   (k.attr ≠ 0 → k.attr ≠ 4 → r = ended h p stDeniedState 0 s) ∧
   ((k.attr = 0 ∨ k.attr = 4) → k.loaded = false →
    r = ended h p stUnknownObject 0 s))) ∧
 (∀ j s, let r := exec (.laneJobPost j) s
  (jobLimitsOk j = false → r = .next (failJob j .limit s)) ∧
  (∀ n, jobLimitsOk j → s.keys.queue = [] → freeLane s = some n → flowBusy s j = false →
   r = .next (beginJob n j s)) ∧
  (jobLimitsOk j → (freeLane s ≠ none ∨ j.level < 8 ∨ 15 < j.level) →
   r = .next (queueJob j s)) ∧
  (jobLimitsOk j → freeLane s = none → 8 ≤ j.level → j.level ≤ 15 →
   (∀ n, victimLane s j.level = some n → r = .next (preempt n j s)) ∧
   (victimLane s j.level = none → r =
    .next { s with keys.queue := insJob j s.keys.queue }))) ∧
 (∀ n j s, (∀ r, loadJob s j = .inl r → beginJob n j s = countUse j (setLane n { laneAt s n with job := some r } s)) ∧
  (∀ st, loadJob s j = .inr st → beginJob n j s = failJob j st s ∧ (jobKeyBad s j = none → st = .authFail)) ∧
  (∀ st, jobKeyBad s j = some st → loadJob s j = .inr st)) ∧
 (∀ (n : Fin 8) r s, (laneAt s n).job = some r →
  let b := (laneAt s n).budget
  let st := (jobResult r s).1
  (r.left ≤ b → exec (.laneJobComplete n st (jobCycles r.job)) s = .next (nextOnLane n (count 0x08 n (jobOps r.job)
   (finishJob r (setLane n { laneAt s n with budget := b - r.left } s))))) ∧
  (∀ x k, (b < r.left ∨ x ≠ st ∨ k ≠ jobCycles r.job) → exec (.laneJobComplete n x k) s = .next s)) ∧
 (∀ n s, let l := laneAt s n
  (∀ x r, l.suspended = x :: r → nextOnLane n s = setLane n { l with job := some x, suspended := r } s) ∧
  (l.suspended = [] → nextOnLane n s = startJobs (s.keys.queue.length + 8) (setLane n { l with job := none } s))) ∧
 (∀ (n : Fin 8) st k s, (laneAt s n).job = none → exec (.laneJobComplete n st k) s = .next s) ∧
 (∀ s, exec .entropyFail s = .next (logEv evEntropyFail []
  (wr P40.ENTROPY_OK 0 { s with keys.entropyBad := true }))) ∧
 (∀ s, s.pwr.mode = .dormant → exec .tamperLatch s =
   .next (wr P40.TAMPER_SEEN 1 { s with keys.tamperWait := true })) ∧
 (∀ s, s.pwr.mode ≠ .dormant → exec .tamperLatch s = .next s) ∧
 (∀ s, s.tidy → s.pwr.mode ≠ .dormant → s.pwr.mode ≠ .off → ∃ t, exec .zeroisedTamper s = .next t ∧
  t.keys.slots = [] ∧ t.keys.store = [] ∧ rd t P40.TAMPER_SEEN = 1 ∧ rd t P40.STORE_LOST = 1) ∧
 (∀ s, (s.pwr.mode = .dormant ∨ s.pwr.mode = .off) → exec .zeroisedTamper s = .next s)

/-- R505; R508; R510; R513; R515; R516; R517; R518. -/
def Obligations.RecorderComplete : Prop :=
 (∀ h p s, let r := exec (.eventRead h p) s
  Served h p false s →
  let q := leAt p 0 4
  let next := rd s P51.NEXT_SEQ
  let oldest := rd s P51.OLDEST_SEQ
  (byteAt p 4 = 0 → r = ended h p stOutOfRange 32 s) ∧
  (byteAt p 4 ≠ 0 → 3 < byteAt p 5 → r = ended h p stOutOfRange 40 s) ∧
  (byteAt p 4 ≠ 0 → byteAt p 5 ≤ 3 → seqAbove q next →
   r = ended h p stOutOfRange 0 s) ∧
  (byteAt p 4 ≠ 0 → byteAt p 5 ≤ 3 → seqAbove q next = false →
   r = .next (atBoundary h p (.eventRead h p) [] s))) ∧
 (∀ p s, let oldest := rd s P51.OLDEST_SEQ
  ∃ (l : List EvRec) (resume : Nat), l.length ≤ byteAt p 4 ∧ l.Sublist (s.ev.ring ++ s.ev.pend) ∧
   (∀ e ∈ l, byteAt p 5 ≤ e.flags % 4) ∧ eventReadData p s =
    leB 2 l.length ++ leB 1 (b2n (seqAbove oldest (leAt p 0 4))) ++ [0] ++ leB 4 resume ++ leB 4 oldest
     ++ leB 4 (rd s P51.NEXT_SEQ) ++ (l.map evBytes).flatten) ∧
 (∀ h p s, Served h p false s →
  (exec (.counterRead h p) s = .next (atBoundary h p (.counterRead h p) [] s) ∧
  (counterReadData s).length = 128) ∧
  ((configBad p = none → exec (.counterConfig h p) s = .next (atBoundary h p (.counterConfig h p) [] s)) ∧
  (∀ b, configBad p = some b → exec (.counterConfig h p) s = ended h p stOutOfRange b s))) ∧
 (∀ h p s, let r := exec (.selfTest h p) s
  Served h p false s →
  (byteAt p 0 ≠ 1 → r = ended h p stOutOfRange 0 s) ∧
  (byteAt p 0 = 1 → s.ctr.selfTest ≠ none → r = ended h p stBusy 0 s) ∧
  (byteAt p 0 = 1 → s.ctr.selfTest = none →
   (fnOf h ∉ [0x30, 0x40, 0x41, 0x42, 0x50, 0x52] →
    r = answered h p (leB 1 2 ++ zeros 15) s) ∧
   (fnOf h ∈ [0x30, 0x40, 0x41, 0x42, 0x50, 0x52] → r =
    .next (postItem ⟨56, some (flowOf h), false, 8, .selfTest h, 0, false, false⟩ { s with ctr.selfTest := some h })))) ∧
 (∀ s, (s.ev.flushPosted = false → s.ev.pend ≠ [] →
   (128 ≤ s.ev.pend.length ∨ s.ev.pendAt + rd s P51.EVENT_FLUSH_MS * 8 ≤ s.now) → exec .eventFlush s =
    .next (postItem ⟨56, none, false, 8, .eventFlush, 0, false, false⟩ { s with ev.flushPosted := true })) ∧
  ((s.ev.flushPosted ∨ s.ev.pend = []) → exec .eventFlush s = .next s)) ∧
 (∀ s, (3600 * 8000 ≤ s.ev.hourPart → exec .opHoursTick s =
   .next (bump P51.OP_HOURS { s with ev.hourPart := s.ev.hourPart - 3600 * 8000 })) ∧
  (s.ev.hourPart < 3600 * 8000 → exec .opHoursTick s = .next s)) ∧
 (∀ s, (s.beat.loaded → s.beat.number % rd s P52.BW_WINDOW = 0 → s.ctr.lastWin ≠ s.beat.number →
   ∃ t, exec .counterWindowEnd s = .next t ∧ t.ctr.lastWin = s.beat.number ∧ (s.tidy → ∀ n, n < 8 →
    let w := s.ctr.win.getD n 0
    let mode := rd s (cfgFld n) / 2 ^ 16 % 4
    rd t (pcFld n) = if mode = 1 then w % 2 ^ 48 else if mode = 2 then max (rd s (pcFld n)) w % 2 ^ 48
     else rd s (pcFld n))) ∧
  ((s.beat.loaded = false ∨ s.beat.number % rd s P52.BW_WINDOW ≠ 0 ∨ s.ctr.lastWin = s.beat.number) →
   exec .counterWindowEnd s = .next s)) ∧
 (∀ s, let n := rd s P52.SNAP_SEQ + 1
  (rd s P52.SNAP_PERIOD ≠ 0 → s.beat.loaded → s.beat.number % rd s P52.SNAP_PERIOD = 0 → silent s = false →
   s.ctr.lastSnap ≠ s.beat.number → exec .snapshotWrite s =
    .next (wr P52.SNAP_SEQ n {
     wrMems (snapBase s + (n - 1) % 4096 * 128) (snapWith s (snapPcs s) n) s with
     ctr := { s.ctr with perDeferred := 0, perHold := 0, perAccepted := 0, lastSnap := s.beat.number } })) ∧
  ((rd s P52.SNAP_PERIOD = 0 ∨ s.beat.loaded = false ∨ silent s ∨ s.ctr.lastSnap = s.beat.number) →
   exec .snapshotWrite s = .next s))

/-- R440; R441; R443; R445; R446; R447; R449; R464; R465; R466; R468; R469. -/
def Obligations.StoreAndMemoryComplete : Prop :=
 (∀ s, (granted s .journal → exec .journalCommit s = .next (commitPending (spend .journal s)) ∧
   (s.ftl.lastCommitAt + rd s P41.JOURNAL_MS * 8 ≤ s.now →
    exec .journalMsExpire s = .next (commitPending (spend .journal s)))) ∧
  (granted s .journal = false → exec .journalCommit s = .next s) ∧
  ((granted s .journal = false ∨ s.now < s.ftl.lastCommitAt + rd s P41.JOURNAL_MS * 8) →
   exec .journalMsExpire s = .next s)) ∧
 (∀ s, (commitPending s).ftl.pendRecs = [] ∧ (commitPending s).ftl.lastCommitAt = s.now ∧
  (commitPending s).ftl.commitNo = s.ftl.commitNo + (if s.ftl.pendRecs = [] then 0 else 1)) ∧
 (∀ s, (rd s P41.SNAP_PAGES ≤ s.ftl.sinceSnap → granted s .ftlSnap → ∃ u, exec .ftlSnapshot s = .next (releaseSystem
    (s.ftl.blks.filter (fun b => b.part == ptSystem && b.st == .closed)) u) ∧
   u.ftl.snapNo = s.ftl.snapNo + 1 ∧ u.ftl.sinceSnap = 0 ∧ u.ftl.commits = [] ∧
   u.ftl.anchorSeq = s.ftl.anchorSeq + 1 ∧ u.ftl.pendRecs = []) ∧
  ((s.ftl.sinceSnap < rd s P41.SNAP_PAGES ∨ granted s .ftlSnap = false) → exec .ftlSnapshot s = .next s)) ∧
 (∀ c d b s, (waitsErase s c d b → exec (.eraseFail c d b) s = .next (retireBlk c d b 2 s)) ∧
  (waitsErase s c d b = false → exec (.eraseFail c d b) s = .next s ∧ exec (.eraseDone c d b) s = .next s) ∧
  (∀ x, waitsErase s c d b → s.ftl.blks.find? (isBlk c d b) = some x → exec (.eraseDone c d b) s =
   .next (postRec ⟨4, x.part, c, dieBlk d b, x.erases + 1, 0⟩ { s with
    ftl := {
     s.ftl with
     blks := s.ftl.blks.map (fun y => if isBlk c d b y then { y with erases := y.erases + 1 } else y) } }))) ∧
 (∀ r s, exec (.readRefresh r) s = .next (afterRead r s) ∧
  (granted s .patrol → exec (.patrolRead r) s =
   .next (afterRead r (spend .patrol { s with ftl.lastPatrol := s.now }))) ∧
  (granted s .patrol = false → exec (.patrolRead r) s = .next s) ∧
  (∀ n, r.bits = some n → n ≤ rd s P41.REFRESH_BITS → afterRead r s = s) ∧
  (∀ n, r.bits = some n → rd s P41.REFRESH_BITS < n → afterRead r s = bump P41.REFRESHES (rewriteRead r s))) ∧
 (∀ c (d : Fin 16) busy s, ((busy || dieFails s c d) → (c, d.val) ∉ s.ftl.dieLost →
   ∃ t, exec (.flashDieLost c d busy) s = .next t ∧ (c, d.val) ∈ t.ftl.dieLost ∧ (s.tidy → rd t P41.MAP_SINGLE = 1) ∧
    ∃ i ∈ t.sett.queue, i.level = 7 ∧ i.work = .rereplicate ∧ i.thread) ∧
  (((busy || dieFails s c d) = false ∨ (c, d.val) ∈ s.ftl.dieLost) → exec (.flashDieLost c d busy) s = .next s)) ∧
 (∀ part c s, (∀ l, gcLevel s part c = some l →
   (gcQueued s part c l = false → ∃ t, exec (.gcPost part c) s = .next t ∧ (part, c) ∈ t.ftl.gcPosted ∧
    (∃ i ∈ t.sett.queue, i.level = l ∧ i.work = .gc part c) ∧ ∀ i ∈ s.sett.queue, i ∈ t.sett.queue) ∧
   (gcQueued s part c l → exec (.gcPost part c) s = .next s)) ∧
  (gcLevel s part c = none → exec (.gcPost part c) s = .next s)) ∧
 (∀ c s, let r := exec (.wearLevelMove c) s
  (∀ b, levelDue s c → granted s .wear →
   lowestErased (s.ftl.blks.filter (fun b => b.chan == c && b.st == .closed)) = some b →
   r = .next (levelBlk b (spend .wear { s with ftl.levelling := c :: s.ftl.levelling.filter (fun x => x != c) }))) ∧
  (levelDue s c → granted s .wear = false → r = .next s) ∧
  (levelDue s c = false → r =
   .next { s with ftl.levelling := s.ftl.levelling.filter (fun x => x != c) })) ∧
 (∀ h p s, Served h p false s →
  (exec (.ftlStatus h p) s = answered h p (ftlStatus s) s) ∧
  (let a := leAt p 0 8
  let n := leAt p 8 4
  let good := a % 16 = 0 ∧ 16 ≤ n ∧ n ≤ 4096 ∧ n % 16 = 0 ∧ addressable s a n
  (good → exec (.memRead h p) s = .next (finish h p stDone 0 (leB 8 a ++ leB 2 n
   ++ leB 1 (b2n ((List.range n).any (fun i => poisonedAt s (a + i))) + 2 * b2n (showsKey a n)) ++ zeros 5
   ++ (List.range n).map (fun i => if poisonedAt s (a + i) then 0 else memAt s (a + i)))
   { s with free := s.free + 1 })) ∧
  (¬ good → exec (.memRead h p) s = ended h p stOutOfRange 0 s)) ∧
  (let n := byteAt p 0
  let d := leB 32 (rd s (descFld n))
  ((n < 12 ∨ 15 < n) → exec (.dmaStart h p) s = ended h p stOutOfRange 0 s) ∧
  (12 ≤ n → n ≤ 15 →
   ((∃ r ∈ s.memory.runs, r.chan = n) → exec (.dmaStart h p) s = ended h p stBusy 0 s) ∧
   ((∀ r ∈ s.memory.runs, r.chan ≠ n) → descBad s d = none →
    (usesDst d → inScratch s (dDst d) (dLen d) = false →
     exec (.dmaStart h p) s = ended h p stDeniedState 0 s) ∧
    ((usesDst d → inScratch s (dDst d) (dLen d)) → exec (.dmaStart h p) s = .next (finish h p stDone 0
     (sliceB d 4 4 ++ leB 1 s.memory.runs.length ++ zeros 3)
     (dmaFields { s with memory := { s.memory with runs := s.memory.runs ++ [{ chan := n, desc := d }] } }))))))) ∧
 (∀ s, (s.memory.dmaOn = false → s.memory.runs ≠ [] →
   exec .dmaRunStart s = .next (dmaFields { s with memory.dmaOn := true })) ∧
  ((s.memory.dmaOn ∨ s.memory.runs = []) → exec .dmaRunStart s = .next s)) ∧
 (∀ r l s, s.memory.dmaOn → s.memory.runs = r :: l →
  (dLen r.desc ≤ dmaBytes r → ∃ t, exec .dmaRunComplete s = .next t ∧ t.memory.dmaOn = false ∧ t.memory.runs = l ∧
   (s.tidy → rd t P43.CQ_SEQ = (rd s P43.CQ_SEQ + 1) % 2 ^ 32 ∧ rd t P43.RUNNING = 0xFF)) ∧
  (dmaBytes r < dLen r.desc → exec .dmaRunComplete s = .next s)) ∧
 (∀ s, (s.memory.dmaOn = false ∨ s.memory.runs = []) → exec .dmaRunComplete s = .next s) ∧
 (∀ a s, exec (.memCorrected a) s = .next (corrected a s)) ∧
 (∀ a s, s.tidy → ∃ t, exec (.memUncorrectable a) s = .next t ∧ poisonedAt t a ∧
  rd t P42.LAST_UE_ADDR = a % 2 ^ 64) ∧
 (∀ a c live s,
  (a / 4096 ∈ s.memory.retired → exec (.dramPatrolScrub a c true live) s = .next (uncorrectable a s)) ∧
  (a / 4096 ∉ s.memory.retired → exec (.dramPatrolScrub a c true true) s = .next (memReset a (uncorrectable a s)) ∧
   exec (.dramPatrolScrub a c true false) s = .next (retirePage a (uncorrectable a s))) ∧
  exec (.dramPatrolScrub a true false live) s = .next (corrected (dramChan s a) s) ∧
  exec (.dramPatrolScrub a false false live) s = .next s) ∧
 (∀ n s, (s.memory.scrubAt + rd s P42.SRAM_SCRUB_MS * 8 ≤ s.now → exec (.sramScrub n) s = .next ((List.range n).foldl
   (fun t _ => corrected .sram t) { s with memory.scrubAt := s.now })) ∧
  (s.now < s.memory.scrubAt + rd s P42.SRAM_SCRUB_MS * 8 → exec (.sramScrub n) s = .next s)) ∧
 (∀ k fn s, ∃ t, exec (.poisonConsumed (.core k fn)) s = .next t ∧ (assocGet fn t.cmd.funcFailed).isSome ∧
  t.free = s.free + 1) ∧
 (∀ (n : Fin 8) s, (∀ j, (laneAt s n).job = some j → exec (.poisonConsumed (.lane n)) s =
   .next (endLane n (brokenStatus s.free) (Config.laneCycles s.free) (drawn s))) ∧
  ((laneAt s n).job = none → exec (.poisonConsumed (.lane n)) s = .next s)) ∧
 (∀ r l s, s.memory.dmaOn → s.memory.runs = r :: l → exec (.poisonConsumed .dma) s =
  .next { s with memory := { s.memory with runs := { r with poison := true } :: l } }) ∧
 (∀ a s, exec (.poisonConsumed (.rebuilt a)) s = .next (memReset a s)) ∧
 (∀ (n : Fin 32) s, (21 ≤ n.val → n.val ≤ 28 → exec (.poisonConsumed (.fifo n)) s = .next (dropBanked (n.val - 21) s)) ∧
  ((n.val < 21 ∨ 28 < n.val) → exec (.poisonConsumed (.fifo n)) s = .next (dropPoisoned n.val s)))

/-- R424; R425; R487; R488; R489; R493; R494; R495; R496; R497; R502; Table 15-2. -/
def Obligations.PairingCompletes : Prop :=
 (∀ h p s, Served h p true s →
  (let a := rd s P02.CHAIN_ADDR
  let near := byteAt p 0 + 1 = a ∨ byteAt p 0 = a + 1
  (¬ near → ∀ x, exec (.pair h p x) s = ended h p stOutOfRange 0 s) ∧
  (near → pairState s ≠ 0 → pairState s ≠ 4 → ∀ x, exec (.pair h p x) s = ended h p stDeniedState 0 s) ∧
  (near → (pairState s = 0 ∨ pairState s = 4) → exec (.pair h p none) s = ended h p stDeniedState 6 s ∧
   ∀ y : PartnerIn,
    (y.check ≠ leAt p 4 4 → exec (.pair h p (some y)) s = ended h p stAuthFailed 0 s) ∧
    (y.check = leAt p 4 4 → pairPlaced s → partnerPlaced y → y.versions = ownVersions s →
      partnerEligible ((byteAt p 1).testBit 0) s y →
     (y.beat = s.beat.number ∧ y.locked ∧ locked s → ∃ j, exec (.pair h p (some y)) s =
       .next (wr P50.PAIR_STATE 1 { s with pair.join := some j }) ∧
      j.hdr = h ∧ j.data = p ∧ j.began = s.now ∧ j.prev = pairState s) ∧
     (y.beat ≠ s.beat.number ∨ y.locked = false ∨ locked s = false →
      exec (.pair h p (some y)) s = ended h p stDeniedState 4 s)))) ∧
  (exec (.unpair h p) s = .next (accepted h p [] [] (.unpair h p) [] s))) ∧
 (∀ h p s, (paired s → applyEffect ⟨some (.unpair h p), [], p⟩ s =
   { s with pair.next := some (if pairState s = 2 then 0 else 7, s.beat.number + 1) }) ∧
  (paired s = false → applyEffect ⟨some (.unpair h p), [], p⟩ s = s)) ∧
 (∀ h p s, let r := exec (.promote h p) s
  Served h p true s →
  (byteAt p 0 = 1 → paired s →
   r = .next (accepted h p (zeros 8) [] (.promote h p) [] s)) ∧
  (byteAt p 0 = 1 → paired s = false → r = ended h p stDeniedState 0 s) ∧
  (byteAt p 0 ≠ 1 → r = ended h p stBadPayload 0 s)) ∧
 (∀ h p s, paired s → applyEffect ⟨some (.promote h p), [], p⟩ s =
  { s with pair.next := some (if pairState s = 2 then 3 else 2, s.beat.number + 1) }) ∧
 (∀ h p s, Served h p false s → exec (.pairStatus h p) s = answered h p     (leB 1 (pairState s) ++ leB 1 (b2n (pairState s == 2) + 2 * b2n s.pair.present) ++ leB 1 (rd s P50.PARTNER_ADDR)
   ++ [0] ++ leB 4 (rd s P50.PAIR_ID) ++ leB 8 (rd s P50.LAST_RELEASED) ++ leB 8 (rd s P50.DIVERGED_BEAT)
   ++ leB 4 s.pair.absent ++ leB 4 (rd s P50.MISMATCHES)) s) ∧
 (∀ h p s, let r := exec (.resolveDivergence h p) s
  Served h p true s →
  (pairState s = 5 → leAt p 4 4 = rd s P50.DIVERGED_BEAT % 2 ^ 32 → (byteAt p 0 = 1 ∨ byteAt p 0 = 2) →
   r =
    .next (accepted h p (leB 8 (rd s P50.DIVERGED_BEAT)) [] (.resolveDivergence h p) [] s)) ∧
  (pairState s = 5 → leAt p 4 4 ≠ rd s P50.DIVERGED_BEAT % 2 ^ 32 →
   r = ended h p stDeniedState 4 s) ∧
  (pairState s ≠ 5 → r = ended h p stDeniedState 0 s)) ∧
 (∀ h p s, pairState s = 5 → applyEffect ⟨some (.resolveDivergence h p), [], p⟩ s =
  if byteAt p 0 = 1 then standAlone 4 s else standMute 6 s) ∧
 (∀ n s, n < 16 → s.tidy → pairState (standMute n s) = n ∧ (standMute n s).out = s.out ∧
  (standMute n s).pair.own = [] ∧ pairState (standAlone n s) = n ∧ (standAlone n s).pair.own = []) ∧
 (∀ j s, s.pair.join = some j → pairState s = 1 → joinDrained s = false →
  j.began + 10 * rd s P50.JOIN_LIMIT * 8000 ≤ s.now → exec .joinLimitExpire s =
   .next (finish j.hdr j.data stDeniedState 5 []
    (wr P50.PAIR_STATE j.prev { s with pair.join := none }))) ∧
 (∀ s, (s.pair.join = none ∨ pairState s ≠ 1 ∨ joinDrained s) → exec .joinLimitExpire s = .next s) ∧
 (∀ g l j s, s.pair.join = some j → pairState s = 1 → joinDrained s → ∃ t, exec (.pairJoinStart (.primary g l)) s =
   .next (postEntry (commandEntry j.hdr j.data (leB 4 j.id ++ leB 4 ((s.now - j.began) / 8)) []
    { cmd := some (.pair j.hdr j.data none), data := j.data }) t) ∧
  t.ledger.nextGroup = max s.ledger.nextGroup g ∧ (s.tidy → rd t P50.PAIR_STATE = 2 ∧
   rd t P50.PARTNER_ADDR = byteAt j.data 0 ∧ rd t P50.PAIR_ID = j.id % 2 ^ 32 ∧
   rd t P12.NEXT_LSEQ = max (rd s P12.NEXT_LSEQ) l % 2 ^ 64)) ∧
 (∀ y s, (pairState s = 0 ∨ pairState s = 6 ∨ pairState s = 7) → ∃ t, exec (.pairJoinStart (.shadow y)) s =
   .next (postEntry (commandEntry y.hdr y.data y.reply [] { data := y.data }) t) ∧
  t.cmd.sess = y.sess ∧ (s.tidy → rd t P50.PAIR_STATE = 3 ∧ rd t P50.PAIR_ID = y.id % 2 ^ 32)) ∧
 (∀ port f s0, let r := exec (.beatFrameReceived port f) s0
  let s := heardOn port 74 s0
  (port ≠ pairPort s → r = .next s) ∧
  (port = pairPort s → paired s →
   let timely := f.beat + 1 == s.beat.number && s.pair.waited != some s.beat.number
   let t := { s with pair.theirs := s.pair.theirs ++ [f], pair.absent := if timely then 0 else s.pair.absent, pair.present := timely || s.pair.present, pair.admits := if pairState s = 3 then s.pair.admits ++ [(f.beat, f.admitCount)] else s.pair.admits }
   (s.pair.own = [] → r = .next t) ∧
   (∀ o, s.pair.own = [o] → s.pair.theirs = [] → f.beat = o.frame.beat →
    (f.digest = o.frame.digest → r = .next (releaseBeat o
     { t with pair.own := [], pair.theirs := [], pair.compared := s.pair.compared ++ [(o.frame, f)] })) ∧
    (f.digest ≠ o.frame.digest → r = .next (diverge o f t)))) ∧
  (port = pairPort s → pairState s = 5 →
   (f.flags.testBit 6 → r =
    .next { s with pair.next := some (6, s.beat.number + 1) }) ∧
   (f.flags.testBit 6 = false → f.flags.testBit 7 → r =
    .next { s with pair.next := some (4, s.beat.number + 1) }))) ∧
 (∀ o f s, s.tidy → s.pair.join = none → let t := diverge o f s
  let mine := bitAt o.frame.flags 1
  let his := bitAt f.flags 1
  rd t P50.DIVERGED_BEAT = f.beat % 2 ^ 64 ∧
   pairState t = (if mine ∧ his = false then 6 else if his ∧ mine = false then 4 else 5)) ∧
 (∀ s, let late := paired s ∧ (∃ o ∈ s.pair.own, o.frame.beat + 1 = s.beat.number) ∧
   (∀ f ∈ s.pair.theirs, f.beat + 1 ≠ s.beat.number) ∧ s.pair.waited ≠ some s.beat.number
  (late → exec .digestWaitExpire s = .next (bump P50.LATE_FRAMES { s with
   pair :=
    { s.pair with absent := s.pair.absent + 1, present := false, waited := some s.beat.number } })) ∧
   (¬ late → exec .digestWaitExpire s = .next s)) ∧
 (∀ s, (paired s → 8 ≤ s.pair.absent → exec .dovetailPromoted s =
   .next (standAlone 4 (logEv (if pairState s = 3 then evDovetailPromoted else evDovetailPartnerLost) [] s))) ∧
  ((paired s = false ∨ s.pair.absent < 8) → exec .dovetailPromoted s = .next s)) ∧
 (∀ s, (rd s P40.DEBUG_ACTIVE = 0 → ∃ t, exec .debugEnabled s = .next t ∧ t.keys.slots = [] ∧ t.keys.store = s.keys.store ∧
   (s.tidy → rd t P40.DEBUG_ACTIVE = 1 ∧ (paired s → pairState t = 6))) ∧
  (rd s P40.DEBUG_ACTIVE ≠ 0 → exec .debugEnabled s = .next s))

/-- R375; R378; R379; R380; R384; R386; R389; R390; R396; R399; R401; R69. -/
def Obligations.LegalCommandsComplete : Prop :=
 (∀ h p s, Served h p false s →
  (let n := byteAt p 2
  let l := legalIds.filter (fun i => decide (leAt p 0 2 ≤ i))
  ((n = 0 ∨ 63 < n) → exec (.readRegisters h p) s = ended h p stOutOfRange 16 s) ∧
  (1 ≤ n → n ≤ 63 → exec (.readRegisters h p) s = answered h p       (leB 2 (min n l.length) ++ leB 2 ((l.drop n).headD 0xFFFF) ++ leB 5 (legalSec s) ++ zeros 7
    ++ ((l.take n).map (regRecord s)).flatten) s)) ∧
  ((∀ b, s.legal.bills[byteAt p 0]? = some b → exec (.readBillingSet h p) s = answered h p (billData b) s) ∧
  (s.legal.bills.length ≤ byteAt p 0 → exec (.readBillingSet h p) s = ended h p stUnknownObject 0 s))) ∧
 (∀ h p s, let r := exec (.legalLogRead h p) s
  Served h p false s → let q := leAt p 0 4
  let l := (s.legal.log.filter (fun x => decide (q ≤ x.1))).take (byteAt p 4)
  ((q < oldestLog s ∨ rd s P30.LOG_NEXT < q) → r = ended h p stOutOfRange 0 s) ∧
  (oldestLog s ≤ q → q ≤ rd s P30.LOG_NEXT → byteAt p 4 = 0 →
   r = ended h p stOutOfRange 32 s) ∧
  (oldestLog s ≤ q → q ≤ rd s P30.LOG_NEXT → byteAt p 4 ≠ 0 → r = answered h p       (leB 2 l.length ++ [0, 0] ++ leB 4 (oldestLog s) ++ leB 4 (rd s P30.LOG_NEXT) ++ [0, 0, 0, 0]
    ++ (l.map (fun x => x.2 ++ leB 4 (crc32c x.2))).flatten) s)) ∧
 (∀ h p ok s, Served h p true s → authOk s (authCount p) ok = false →
  exec (.calendarLoad h p ok) s = ended h p stDeniedLegal 0 s ∧
  exec (.calendarActivate h p ok) s = ended h p stDeniedLegal 0 s ∧
  exec (.calibrate h p ok) s = ended h p stDeniedLegal 0 s ∧
  exec (.billingClose h p ok) s = ended h p stDeniedLegal 0 s) ∧
 (∀ h p ok s, Served h p true s → authOk s (authCount p) ok → let d := calData p
  byteAt p 0 = 1 → leAt p 4 4 = d.length → leAt p 8 4 = crc32c d →
   (calBad d = none → exec (.calendarLoad h p ok) s =
    .next (accepted h p (leB 4 (calId d) ++ leB 4 (crc32c d)) p (.calendarLoad h p ok) [authCount p] s)) ∧
   (∀ o, calBad d = some o → exec (.calendarLoad h p ok) s = ended h p stBadPayload (16 + o) s)) ∧
 (∀ h p ok s, let t := applyEffect ⟨some (.calendarLoad h p ok), [authCount p], p⟩ s
  t.legal.passive = calData p ∧ t.legal.active = s.legal.active ∧ (s.tidy →
   rd t P31.PASSIVE_CAL_ID = calId (calData p) % 2 ^ 32 ∧ rd t P30.AUTH_COUNT = authCount p % 2 ^ 64 ∧
   rd t P30.LOG_NEXT = (rd s P30.LOG_NEXT + 1) % 2 ^ 32)) ∧
 (∀ h p ok s, Served h p true s → authOk s (authCount p) ok → legalWaits s = false →
  rd s P31.PASSIVE_CAL_ID ≠ 0 → leAt p 0 4 = rd s P31.PASSIVE_CAL_ID → let at_ := leAt p 4 5
   ((at_ = 0 ∨ legalSec s < at_) → exec (.calendarActivate h p ok) s = .next (accepted h p
    (leB 4 (leAt p 0 4) ++ leB 4 ((if at_ = 0 then legalSec s else at_) % 2 ^ 32)) p (.calendarActivate h p ok)
    [authCount p] s)) ∧
   (at_ ≠ 0 → at_ ≤ legalSec s → exec (.calendarActivate h p ok) s = ended h p stOutOfRange 32 s)) ∧
 (∀ h p ok s, let s1 := wr P30.AUTH_COUNT (authCount p) s
  applyEffect ⟨some (.calendarActivate h p ok), [authCount p], p⟩ s =
   if leAt p 4 5 = 0 then activateCal (legalSec s) false s1 else wr P31.PENDING_AT (leAt p 4 5) s1) ∧
 (∀ h p ok s, let r := exec (.calibrate h p ok) s
  Served h p true s → authOk s (authCount p) ok →
  (rd s P30.SEAL_CAL ≠ 0 → rd s P30.SEAL_STATE = 0 →
   r = ended h p stDeniedSeal 0 s) ∧
  ((rd s P30.SEAL_CAL = 0 ∨ rd s P30.SEAL_STATE ≠ 0) → byteAt p 0 ≠ 0 →
   (∀ b, calRange p = some b → r = ended h p stOutOfRange b s) ∧
   (calRange p = none → let m := mergeCal p (newestCal s)
    let n := rd s P30.CAL_COUNT + 1
    let x := ownLog 0x02 0 (rd s P30.CAL_CRC) (crc32c m) s
    r = .next (postGroup
     [commandEntry h p (leB 4 (rd s P30.LOG_NEXT) ++ leB 4 n ++ leB 4 (crc32c m) ++ [0, 0, 0, 0]) p
      { cmd := some (.calibrate h p ok), args := [authCount p, n], data := p }, x.1]
     (putCal m none n x.2))))) ∧
 (∀ h p ok n s, applyEffect ⟨some (.calibrate h p ok), [authCount p, n], p⟩ s =
  wr P30.AUTH_COUNT (authCount p) (putCal (mergeCal p (newestCal s)) (some (legalSec s)) n s)) ∧
 (∀ h p ok s, Served h p true s → authOk s (authCount p) ok →
  ((legalWaits s ∨ leAt p 0 4 ≠ rd s P31.CLOSURES) →
   exec (.billingClose h p ok) s = ended h p stDeniedState 0 s) ∧
  (legalWaits s = false → leAt p 0 4 = rd s P31.CLOSURES → let b := billSet s 2 0 0
   ∃ e1 e2 t, exec (.billingClose h p ok) s = .next (postGroup [commandEntry h p
     (leB 4 (rd s P31.CLOSURES + 1) ++ leB 4 (rd s P30.LOG_NEXT)) []
     { cmd := some (.billingClose h p ok), args := [authCount p], data := p }, e1, e2] t) ∧
    t.legal.bills = (b :: s.legal.bills).take 15 ∧ t.legal.core.maxD = List.replicate 9 (0, 0) ∧
    t.legal.core.acc = s.legal.core.acc ∧ t.legal.core.nextNo = s.legal.core.nextNo + 2 ∧ t.legal.snap = t.legal.core ∧
    (s.tidy → rd t P31.CLOSURES = (rd s P31.CLOSURES + 1) % 2 ^ 32 ∧
     rd t P31.LAST_SCHED_AT = rd s P31.LAST_SCHED_AT))) ∧
 (∀ h p ok s, applyEffect ⟨some (.billingClose h p ok), [authCount p], p⟩ s = wr P30.AUTH_COUNT (authCount p) s) ∧
 (∀ h p s, Served h p true s → let n := byteAt p 1
  let l := dispItems p
  (byteAt p 0 = 1 ∨ byteAt p 0 = 2) → 1 ≤ n → n ≤ 124 → p.length = 16 + 4 * n →
   ((∀ i ∈ l, i.id ∈ legalIds) →
    exec (.displayList h p) s = .next (accepted h p (leB 4 n) p (.displayList h p) [] s)) ∧
   (¬ (∀ i ∈ l, i.id ∈ legalIds) → exec (.displayList h p) s = ended h p stUnknownObject 0 s)) ∧
 (∀ h p s, let t := applyEffect ⟨some (.displayList h p), [], p⟩ s
  (byteAt p 0 = 1 → t.disp.auto = dispItems p ∧ t.disp.autoAt = 0 ∧ t.disp.button = s.disp.button) ∧
  (byteAt p 0 ≠ 1 → t.disp.button = dispItems p ∧ t.disp.auto = s.disp.auto)) ∧
 (∀ h p s, Served h p true s → let v := newOutCmd s p
  ((∀ n, n < 8 → (byteAt p 0).testBit n → outMode s n = 2) → exec (.outputControl h p) s = .next (accepted h p
   (leB 1 (outBits (wr P32.OUT_CMD v s)) ++ leB 1 v ++ zeros 6) p (.outputControl h p) [] s)) ∧
  (∀ n, n < 8 → (byteAt p 0).testBit n → outMode s n ≠ 2 →
   exec (.outputControl h p) s = ended h p stDeniedState 0 s)) ∧
 (∀ h p s, applyEffect ⟨some (.outputControl h p), [], p⟩ s = driveOutputs (wr P32.OUT_CMD (newOutCmd s p) s)) ∧
 (∀ p s, s.tidy → ∀ n, n < 8 → (newOutCmd s p).testBit n =
  if (byteAt p 0).testBit n then (byteAt p 1).testBit n else (rd s P32.OUT_CMD).testBit n)

/-- R372; R381; R385; R386; R387; R388; R389; R391; R394; R398; R400; R501. -/
def Obligations.LegalEventsComplete : Prop :=
 (∀ s, (∀ k, (k ≠ legalSec s ∨ k = s.legal.lastSec) → exec (.legalSecondEnd k) s = .next s) ∧
  (legalSec s ≠ s.legal.lastSec →
   let u := endSets (legalSec s) (realign { s with legal.lastSec := legalSec s })
   let fresh := u.legal.sums.filter (fun x => !x.1)
   (legalIdle s → exec (.legalSecondEnd (legalSec s)) s = .next u) ∧
   (legalIdle s = false → ∃ t, exec (.legalSecondEnd (legalSec s)) s = .next t ∧ t.legal.lastSec = legalSec s ∧
    t.legal.check = t.legal.core.acc ∧ (∀ x ∈ t.legal.sums, x.1) ∧
    (fresh = [] → t.legal.core.acc = s.legal.core.acc) ∧
    (∀ m, fresh = [(false, m)] → 3 < s.legal.core.acc.length →
     let e := fun (k : Nat) => if creeps s (m.e.getD k 0) then 0 else m.e.getD k 0
     t.legal.core.acc.getD 3 0 = s.legal.core.acc.getD 3 0 + (e 0 + e 1 + e 2).toNat)) ∧
   (metroRuns s = false → u.legal.sums = s.legal.sums.drop (s.legal.sums.length - 64)))) ∧
 (∀ t s, legalIdle s = false → let c := s.legal.core
  (firstDue s (legalSec s) = some (t, 1) → c.prof.start < t → ∃ u, exec .profileIntervalEnd s = .next u ∧
   u.legal.core.prof.start = t ∧ u.legal.core.covered = max c.covered t ∧ u.legal.snap = u.legal.core ∧
   u.legal.core.acc = c.acc) ∧
  (firstDue s (legalSec s) = some (t, 2) → c.dem.start < t → rd s P30.DEMAND_METHOD = 0 →
   ∃ u, exec .demandIntervalEnd s = .next u ∧ u.legal.core.dem.start = t ∧ u.legal.core.dem.base = c.acc.getD 3 0 ∧
    u.legal.core.lastDemand = demandW s (c.acc.getD 3 0 - c.dem.base)) ∧
  (firstDue s (legalSec s) = some (t, 3) → ∃ u, exec .scheduledClosure s = .next u ∧
   u.legal.bills = (billSet s 1 t (2 * b2n (isSkipped s t)) :: s.legal.bills).take 15 ∧
   u.legal.core.maxD = List.replicate 9 (0, 0) ∧ u.legal.snap = u.legal.core ∧ u.legal.core.acc = c.acc ∧
   (s.tidy → rd u P31.CLOSURES = (rd s P31.CLOSURES + 1) % 2 ^ 32 ∧ rd u P31.LAST_SCHED_AT = t % 2 ^ 40)) ∧
  (firstDue s (legalSec s) = some (t, 4) → ∃ u, exec .calendarActivation s = .next u ∧
   u.legal.active = s.legal.passive ∧ u.legal.passive = s.legal.passive ∧
   (s.tidy → rd u P31.PENDING_AT = 0 ∧ rd u P31.ACTIVE_CAL_ID = calId s.legal.passive % 2 ^ 32))) ∧
 (∀ s, let first := (firstDue s (legalSec s)).map Prod.snd
  ((legalIdle s ∨ first ≠ some 1) → exec .profileIntervalEnd s = .next s) ∧
  ((legalIdle s ∨ first ≠ some 2) → exec .demandIntervalEnd s = .next s) ∧
  ((legalIdle s ∨ first ≠ some 3) → exec .scheduledClosure s = .next s) ∧
  ((legalIdle s ∨ first ≠ some 4) → exec .calendarActivation s = .next s)) ∧
 (∀ s, let m := thisMinute s
  (legalIdle s = false → s.legal.evalAt < m → firstDue s m = none → ∃ t, exec .calendarMinute s = .next t ∧
   t.legal.evalAt = m ∧ (s.tidy → rd t P31.RATE_NOW = (rateAt s m).1 % 16 ∧
    rd t P31.PATTERN_NOW = (rateAt s m).2 % 256)) ∧
  ((legalIdle s ∨ m ≤ s.legal.evalAt ∨ firstDue s m ≠ none) → exec .calendarMinute s = .next s)) ∧
 (∀ s, let old := rd s P31.DST_ON != 0
  ((legalIdle s ∨ dstAt s (legalSec s) = old) → exec .dstChange s = .next s) ∧
  (legalIdle s = false → dstAt s (legalSec s) ≠ old →
   let at_ := ((lastDst s (legalSec s)).map (fun x => x.1.toNat)).getD (legalSec s)
   let u := catchUp false at_
    (4 * (legalSec s - min s.legal.evalAt (min s.legal.core.prof.start s.legal.core.dem.start)) + 16) s
   ∃ t, exec .dstChange s = .next t ∧ t = driveOutputs (localChange at_ ((at_ : Int) + localOff u old) u) ∧
    t.legal.evalAt = at_ ∧ (s.tidy → rd t P31.DST_ON = b2n (dstAt u at_)))) ∧
 (∀ s, let r := exec .legalTimeStepped s
  (stepWaits s = none → r = .next s) ∧
  (∀ d, stepWaits s = some d → s.legal.restore = false →
   (legalIdle s → r = .next (stepAndNote d s)) ∧
   (legalIdle s = false →
    let s1 := splitBoth (legalSec s) (catchUpNow false s)
    let s2 := stepAndNote d s1
    r = .next (driveOutputs (legalFields
     (afterStep (legalSec s) (!rdB s1 P03.LEGAL_COMMISSIONED) (stepDetail s1)
      { s2 with legal.lastSec := legalSec s2 })))))) ∧
 (∀ d s, s.tidy → let t := stepAndNote d s
  rd t P03.LEGAL_COMMISSIONED = 1 ∧ rd t P03.LEGAL_INVALID = 0 ∧ t.plumb.legalDue = none ∧ t.plumb.legalReplayed = none ∧
   t.plumb.deltaL = d ∧ t.tally.stepped = s.tally.stepped ++ [legalNs s, legalNs t]) ∧
 (∀ s, let r := exec .legalLockstep s
  let recent := s.legal.mismatches.filter (fun t => decide (s.now < t + 86400 * 8000))
  (legalStopped s → r = .next s) ∧
  (legalStopped s = false → recent.length < 2 → ∃ t, r = .next t ∧
   (s.legal.sums.filter (fun x => !x.1) = [] → t.legal.core.acc = s.legal.check) ∧ t.legal.mismatches = recent ++ [s.now] ∧ legalStopped t = false ∧
   t.legal.core.nextNo = s.legal.core.nextNo) ∧
  (legalStopped s = false → 2 ≤ recent.length → ∃ t, r = .next t ∧
   assocGet 0x30 t.cmd.funcFailed = some 3 ∧ assocGet 0x31 t.cmd.funcFailed = some 3)) ∧
 (∀ b s, ((rd s P30.SEAL_STATE != 0) = b → exec (.sealNChange b) s = .next s) ∧
  ((rd s P30.SEAL_STATE != 0) ≠ b →
   let u := logEv (if b then evSealAsserted else evSealReleased) [] (wr P30.SEAL_STATE (b2n b) s)
   exec (.sealNChange b) s =
    .next (if legalStopped s then u else legalLog (if b then 0x06 else 0x07) 0 0 0 u))) ∧
 (∀ s, (s.disp.button ≠ [] → exec .buttonPress s = .next { s with disp.onButton := true, disp.pressTick := s.now, disp.buttonAt := if s.disp.onButton then (s.disp.buttonAt + 1) % s.disp.button.length else 0 }) ∧
  (s.disp.button = [] → exec .buttonPress s = .next s)) ∧
 (∀ s, let due := s.disp.onButton = false ∧ s.disp.auto ≠ [] ∧ s.disp.autoTick + rd s P32.SCROLL_S * 8000 ≤ s.now
  (due → exec .scrollExpire s = .next { s with disp.autoAt := (s.disp.autoAt + 1) % s.disp.auto.length, disp.autoTick := s.now }) ∧
  (¬ due → exec .scrollExpire s = .next s)) ∧
 (∀ s, let due := s.disp.onButton ∧ s.disp.pressTick + rd s P32.DISP_TIMEOUT * 8000 ≤ s.now
  (due → exec .dispTimeoutExpire s = .next { s with disp.onButton := false, disp.autoTick := s.now }) ∧
  (¬ due → exec .dispTimeoutExpire s = .next s)) ∧
 (∀ s,
  let u := emit (.display (rd s P32.DISP_ADDR) (displayFrame s))
   { s with disp.shown := some (shownItem s, s.now) }
  let due := rd s P32.DISP_EN ≠ 0 ∧ ∀ i a, s.disp.shown = some (i, a) → i ≠ shownItem s ∨ a + 8000 ≤ s.now
  (due → exec (.displayRefresh true) s = .next u ∧ exec (.displayRefresh false) s = .next (bump P32.DISP_ERRS u)) ∧
  (¬ due → ∀ a, exec (.displayRefresh a) s = .next s) ∧
  (displayFrame s).length = 17) ∧
 (∀ (n : Fin 8) s, let p := s.disp.pulses.getD n.val {}
  let ms := rd s P32.PULSE_MS
  let due := outReleased s = false ∧ outMode s n.val = 3 ∧ p.backlog ≠ 0 ∧
   ∀ t, p.from_ = some t → t + 2 * ms * 8 ≤ s.now
  (due → exec (.outputPulse n) s = .next (driveOutputs (emit (.pulse n.val ms) { s with
   disp := {
    s.disp with
    pulses := s.disp.pulses.set n.val {
     p with
     backlog := p.backlog - 1, from_ := some s.now, until_ := s.now + ms * 8 } } }))) ∧
  (¬ due → exec (.outputPulse n) s = .next s))

/-- R33; R523; R524; R525; R526; R527; R528; R529; R531; R532; R533; Table 17-3. -/
def Obligations.PowerEventsComplete : Prop :=
 (∀ l s, let low := 16 ≤ l.length ∧ ∀ x ∈ l.take 16, x * 100 < nodeAverage s * rd s P04.V_DETECT
  (low → exec (.mainsLost l) s = .next (declare .mains s)) ∧ (¬ low → exec (.mainsLost l) s = .next s)) ∧
 (∀ c s, let t := declare c s
  ((running s ∨ s.pwr.mode = .start) → t.pwr.mode = .holdup ∧ t.pwr.flush = some c ∧ t.pwr.flushEnded = false ∧
   t.legal.lossSince ∧ (s.tidy → rd t P04.HOLDUP_MODE = 1 ∧ rd t P04.TRIM_HOLDUP = 0)) ∧
  (running s = false → s.pwr.mode ≠ .start → t = s)) ∧
 (∀ s, let t := fun (b : Bool) => { s with pwr.resetN := b }
  exec (.resetNLow false) s = .next (t false) ∧
  (s.pwr.mode = .holdup → exec (.resetNLow true) s =
   .next { s with pwr.resetN := true, pwr.flush := some .resetN }) ∧
  (s.pwr.mode ≠ .holdup → exec (.resetNLow true) s = .next (declare .resetN (t true)))) ∧
 (∀ s, (s.pwr.mode = .holdup → s.pwr.flushEnded = false → ledgerQuiet s → granted s .flush → ∃ t, exec .flushEnd s = .next t ∧
   t.pwr.mode = .holdup ∧ t.pwr.flushEnded ∧ t.pwr.shutdownSeen ∧ t.pwr.selfRefresh ∧
   t.disp.released ∧ t.ftl.pendRecs = [] ∧ t.ftl.shutdown.isSome ∧ t.legal.snap = s.legal.core ∧
   t.legal.lossSince = false) ∧
  ((s.pwr.mode ≠ .holdup ∨ s.pwr.flushEnded ∨ ledgerQuiet s = false ∨ granted s .flush = false) → exec .flushEnd s = .next s)) ∧
 (∀ s, let may := s.pwr.mode = .holdup ∧ s.pwr.flushEnded ∧ s.pwr.pwrReq = none
  (∀ c, may → pwrReqCause s = some c →
   let u := logEv evPwrReq (leB 1 c) { s with pwr.pwrReq := some c }
   exec .pwrReq s = .next (if pinsHeld u then u else driveReq c u)) ∧
  ((¬ may ∨ pwrReqCause s = none) → exec .pwrReq s = .next s) ∧
  (s.pwr.dramRetired65 = false → s.pwr.flush = some .pwrCycle → pwrReqCause s = some 1) ∧
  (s.pwr.dramRetired65 = false → s.pwr.flush = some .thermal → pwrReqCause s = some 3)) ∧
 (∀ s, (s.pwr.mode = .holdup → exec .mainPowerLost s = .next (powerDown s)) ∧
  (s.pwr.mode ≠ .holdup → exec .mainPowerLost s = .next s)) ∧
 (∀ s, let t := powerDown s
  t.pwr.mode = (if s.batt.vbat then .dormant else .off) ∧ t.pwr.pwrReq = none ∧ t.disp.released ∧
   t.batt.valid = (s.batt.valid && s.batt.vbat) ∧ (∀ n, outOn t n = false)) ∧
 (∀ s, let r := exec .supplyMonitorTrip s
  ((s.pwr.mode = .dormant ∨ s.pwr.mode = .off) → r = .next s) ∧
  (s.pwr.mode = .holdup → r = .next (powerDown s)) ∧
  (s.pwr.mode ≠ .dormant → s.pwr.mode ≠ .off → s.pwr.mode ≠ .holdup → r =
   .next (powerDown { s with legal.lossSince := true }))) ∧
 (∀ s, exec .vbatRise s = .next {
  s with
  batt := { s.batt with vbat := true }
  pwr := { s.pwr with mode := if s.pwr.mode = .off then .dormant else s.pwr.mode } }) ∧
 (∀ s, (s.pwr.mode = .dormant → exec .vbatFall s = .next {
  s with
   batt := { s.batt with vbat := false, valid := false }
   pwr := { s.pwr with mode := .off } }) ∧
  (s.pwr.mode ≠ .dormant → exec .vbatFall s = .next { s with batt.vbat := false })) ∧
 (∀ s, let may := s.pwr.resetN = false ∧ (s.pwr.mode = .dormant ∨ s.pwr.mode = .off ∨
   (s.pwr.mode = .holdup ∧ s.pwr.flushEnded ∧ s.pwr.flush = some .resetN))
  (may → ∃ t, exec .powerOnReset s = .next t ∧ t.pwr.mode = .start ∧ t.pwr.cause = 1 ∧ t.pwr.step = 0 ∧
   t.disp.released ∧ t.beat.loaded = false ∧ t.ev.pend = [] ∧
   (s.tidy → rd t P51.NEXT_SEQ = nextSeqAfter s ∧ rd t P40.DEBUG_ACTIVE = 0)) ∧
  (¬ may → exec .powerOnReset s = .next s)) ∧
 (∀ b s, let r := exec (.startUp b) s
  let starts := s.pwr.mode = .start ∧ s.pwr.held = false ∧ (s.pwr.step = 0 ∨ s.pwr.step = 3)
  (starts → b.images.getD 0 false = false → ∃ t, r = .next t ∧ t.pwr.step = 4) ∧
  (starts → b.images.getD 0 false → (b.images.drop 1).take 4 ≠ [true, true, true, true] →
   ∃ t, r = .next t ∧ t.pwr.step = 7) ∧
  (starts → b.images.getD 0 false → (b.images.drop 1).take 4 = [true, true, true, true] →
   ∃ t, r = .next t ∧ (t.pwr.step = 9 ∨ (t.pwr.step = 10 ∧ (t.pwr.mode = .run ∨ t.pwr.mode = .trim)))) ∧
  (¬ starts → r = .next s)) ∧
 (∀ n s, exec .kernelHeartbeatMissing s = .next (deviceReset 4 s) ∧
  (resetMay s → (deviceReset n s).pwr.mode = .start ∧ (deviceReset n s).pwr.cause = n ∧
   (deviceReset n s).pwr.step = 3) ∧
  (resetMay s = false → deviceReset n s = s)) ∧
 (∀ (k : Fin 16) fn s, let r := exec (.coreWatchdog k fn) s
  let recent := s.pwr.wdTimes.filter (fun t => decide (s.now < t + 60 * 8000))
  let u := logEv evThreadOverrun (leB 1 k.val) {
   s with
   cmd := { s.cmd with funcFailed := assocSet fn 1 s.cmd.funcFailed }
   pwr := { s.pwr with wdTimes := recent ++ [s.now] } }
  ((running s ∨ s.pwr.mode = .start) →
   (recent.length < 2 → r = .next u ∧ assocGet fn u.cmd.funcFailed = some 1) ∧
   (2 ≤ recent.length → r = .next (deviceReset 4 u))) ∧
  (running s = false → s.pwr.mode ≠ .start → r = .next s))
end

