-- ==== Sys2Proof/Laws/Bytes.lean ====
section
/-! SUPPORT. Bytes written least significant first read back, and a CRC-32C has 32 bits. -/
namespace Sys2Proof.Machine

@[simp] theorem leB_length {n v : Nat} : (leB n v).length = n := by
  induction n generalizing v with
  | zero => rfl
  | succ n ih => simp [leB, ih]

theorem ofLE_leB {n v : Nat} : ofLE (leB n v) = v % 256 ^ n := by
  induction n generalizing v with
  | zero => simp [leB, ofLE]; omega
  | succ n ih =>
    simp only [leB, ofLE, ih]
    simp only [BitVec.toNat_ofNat, Nat.reducePow]
    rw [Nat.pow_succ, Nat.mul_comm (256 ^ n), Nat.mod_mul]

/-- A field of a byte string that starts where the bytes before it end. -/
theorem leAt_append {a b c : List Byte} {off n : Nat} (ha : a.length = off) (hb : b.length = n) :
    leAt (a ++ (b ++ c)) off n = ofLE b := by
  subst ha; subst hb
  simp [leAt]

theorem leAt_leB {a c : List Byte} {off n v : Nat} (ha : a.length = off) (hv : v < 256 ^ n) :
    leAt (a ++ (leB n v ++ c)) off n = v := by
  rw [leAt_append ha leB_length, ofLE_leB, Nat.mod_eq_of_lt hv]

theorem sliceB_append {a b c : List Byte} {off n : Nat} (ha : a.length = off) (hb : b.length = n) :
    sliceB (a ++ (b ++ c)) off n = b := by
  subst ha; subst hb
  simp [sliceB]

theorem crcBit_lt {c : Nat} (h : c < 2 ^ 32) : crcBit c < 2 ^ 32 := by
  unfold crcBit
  split
  · apply Nat.xor_lt_two_pow <;> omega
  · omega

theorem crcByte_lt {c : Nat} {b : Byte} (h : c < 2 ^ 32) : crcByte c b < 2 ^ 32 := by
  unfold crcByte
  have hb : b.toNat < 2 ^ 32 := by have := b.isLt; omega
  have := Nat.xor_lt_two_pow h hb
  repeat apply crcBit_lt
  exact this

theorem foldl_crcByte_lt {l : List Byte} {c : Nat} (h : c < 2 ^ 32) : l.foldl crcByte c < 2 ^ 32 := by
  induction l generalizing c with
  | nil => exact h
  | cons x l ih => exact ih (crcByte_lt h)

end Sys2Proof.Machine
end

