-- ==== Sys2Proof/Laws/State.lean ====
section
/-! SUPPORT. What each named update leaves alone: one lemma per update and field of State, each true by unfolding. -/
namespace Sys2Proof.Machine

@[simp] theorem wrI_mem {f : Fld} {i v : Nat} {s : State} : (wrI f i v s).mem = s.mem := rfl
@[simp] theorem wrI_beat {f : Fld} {i v : Nat} {s : State} : (wrI f i v s).beat = s.beat := rfl
@[simp] theorem wrI_den {f : Fld} {i v : Nat} {s : State} : (wrI f i v s).den = s.den := rfl
@[simp] theorem wrI_sett {f : Fld} {i v : Nat} {s : State} : (wrI f i v s).sett = s.sett := rfl
@[simp] theorem wrI_cmd {f : Fld} {i v : Nat} {s : State} : (wrI f i v s).cmd = s.cmd := rfl
@[simp] theorem wrI_chain {f : Fld} {i v : Nat} {s : State} : (wrI f i v s).chain = s.chain := rfl
@[simp] theorem wrI_plumb {f : Fld} {i v : Nat} {s : State} : (wrI f i v s).plumb = s.plumb := rfl
@[simp] theorem wrI_batt {f : Fld} {i v : Nat} {s : State} : (wrI f i v s).batt = s.batt := rfl
@[simp] theorem wrI_infeed {f : Fld} {i v : Nat} {s : State} : (wrI f i v s).infeed = s.infeed := rfl
@[simp] theorem wrI_grade {f : Fld} {i v : Nat} {s : State} : (wrI f i v s).grade = s.grade := rfl
@[simp] theorem wrI_ledger {f : Fld} {i v : Nat} {s : State} : (wrI f i v s).ledger = s.ledger := rfl
@[simp] theorem wrI_tally {f : Fld} {i v : Nat} {s : State} : (wrI f i v s).tally = s.tally := rfl
@[simp] theorem wrI_ftl {f : Fld} {i v : Nat} {s : State} : (wrI f i v s).ftl = s.ftl := rfl
@[simp] theorem wrI_memory {f : Fld} {i v : Nat} {s : State} : (wrI f i v s).memory = s.memory := rfl
@[simp] theorem wrI_keys {f : Fld} {i v : Nat} {s : State} : (wrI f i v s).keys = s.keys := rfl
@[simp] theorem wrI_radio {f : Fld} {i v : Nat} {s : State} : (wrI f i v s).radio = s.radio := rfl
@[simp] theorem wrI_plc {f : Fld} {i v : Nat} {s : State} : (wrI f i v s).plc = s.plc := rfl
@[simp] theorem wrI_dl {f : Fld} {i v : Nat} {s : State} : (wrI f i v s).dl = s.dl := rfl
@[simp] theorem wrI_legal {f : Fld} {i v : Nat} {s : State} : (wrI f i v s).legal = s.legal := rfl
@[simp] theorem wrI_disp {f : Fld} {i v : Nat} {s : State} : (wrI f i v s).disp = s.disp := rfl
@[simp] theorem wrI_ev {f : Fld} {i v : Nat} {s : State} : (wrI f i v s).ev = s.ev := rfl
@[simp] theorem wrI_ctr {f : Fld} {i v : Nat} {s : State} : (wrI f i v s).ctr = s.ctr := rfl
@[simp] theorem wrI_pair {f : Fld} {i v : Nat} {s : State} : (wrI f i v s).pair = s.pair := rfl
@[simp] theorem wrI_pwr {f : Fld} {i v : Nat} {s : State} : (wrI f i v s).pwr = s.pwr := rfl
@[simp] theorem wrI_out {f : Fld} {i v : Nat} {s : State} : (wrI f i v s).out = s.out := rfl
@[simp] theorem wrI_free {f : Fld} {i v : Nat} {s : State} : (wrI f i v s).free = s.free := rfl
@[simp] theorem wrI_pending {f : Fld} {i v : Nat} {s : State} : (wrI f i v s).pending = s.pending := rfl

@[simp] theorem wr_mem {f : Fld} {v : Nat} {s : State} : (wr f v s).mem = s.mem := rfl
@[simp] theorem wr_beat {f : Fld} {v : Nat} {s : State} : (wr f v s).beat = s.beat := rfl
@[simp] theorem wr_den {f : Fld} {v : Nat} {s : State} : (wr f v s).den = s.den := rfl
@[simp] theorem wr_sett {f : Fld} {v : Nat} {s : State} : (wr f v s).sett = s.sett := rfl
@[simp] theorem wr_cmd {f : Fld} {v : Nat} {s : State} : (wr f v s).cmd = s.cmd := rfl
@[simp] theorem wr_chain {f : Fld} {v : Nat} {s : State} : (wr f v s).chain = s.chain := rfl
@[simp] theorem wr_plumb {f : Fld} {v : Nat} {s : State} : (wr f v s).plumb = s.plumb := rfl
@[simp] theorem wr_batt {f : Fld} {v : Nat} {s : State} : (wr f v s).batt = s.batt := rfl
@[simp] theorem wr_infeed {f : Fld} {v : Nat} {s : State} : (wr f v s).infeed = s.infeed := rfl
@[simp] theorem wr_grade {f : Fld} {v : Nat} {s : State} : (wr f v s).grade = s.grade := rfl
@[simp] theorem wr_ledger {f : Fld} {v : Nat} {s : State} : (wr f v s).ledger = s.ledger := rfl
@[simp] theorem wr_tally {f : Fld} {v : Nat} {s : State} : (wr f v s).tally = s.tally := rfl
@[simp] theorem wr_ftl {f : Fld} {v : Nat} {s : State} : (wr f v s).ftl = s.ftl := rfl
@[simp] theorem wr_memory {f : Fld} {v : Nat} {s : State} : (wr f v s).memory = s.memory := rfl
@[simp] theorem wr_keys {f : Fld} {v : Nat} {s : State} : (wr f v s).keys = s.keys := rfl
@[simp] theorem wr_radio {f : Fld} {v : Nat} {s : State} : (wr f v s).radio = s.radio := rfl
@[simp] theorem wr_plc {f : Fld} {v : Nat} {s : State} : (wr f v s).plc = s.plc := rfl
@[simp] theorem wr_dl {f : Fld} {v : Nat} {s : State} : (wr f v s).dl = s.dl := rfl
@[simp] theorem wr_legal {f : Fld} {v : Nat} {s : State} : (wr f v s).legal = s.legal := rfl
@[simp] theorem wr_disp {f : Fld} {v : Nat} {s : State} : (wr f v s).disp = s.disp := rfl
@[simp] theorem wr_ev {f : Fld} {v : Nat} {s : State} : (wr f v s).ev = s.ev := rfl
@[simp] theorem wr_ctr {f : Fld} {v : Nat} {s : State} : (wr f v s).ctr = s.ctr := rfl
@[simp] theorem wr_pair {f : Fld} {v : Nat} {s : State} : (wr f v s).pair = s.pair := rfl
@[simp] theorem wr_pwr {f : Fld} {v : Nat} {s : State} : (wr f v s).pwr = s.pwr := rfl
@[simp] theorem wr_out {f : Fld} {v : Nat} {s : State} : (wr f v s).out = s.out := rfl
@[simp] theorem wr_free {f : Fld} {v : Nat} {s : State} : (wr f v s).free = s.free := rfl
@[simp] theorem wr_pending {f : Fld} {v : Nat} {s : State} : (wr f v s).pending = s.pending := rfl

@[simp] theorem wrS_mem {f : Fld} {v : Int} {s : State} : (wrS f v s).mem = s.mem := rfl
@[simp] theorem wrS_beat {f : Fld} {v : Int} {s : State} : (wrS f v s).beat = s.beat := rfl
@[simp] theorem wrS_den {f : Fld} {v : Int} {s : State} : (wrS f v s).den = s.den := rfl
@[simp] theorem wrS_sett {f : Fld} {v : Int} {s : State} : (wrS f v s).sett = s.sett := rfl
@[simp] theorem wrS_cmd {f : Fld} {v : Int} {s : State} : (wrS f v s).cmd = s.cmd := rfl
@[simp] theorem wrS_chain {f : Fld} {v : Int} {s : State} : (wrS f v s).chain = s.chain := rfl
@[simp] theorem wrS_plumb {f : Fld} {v : Int} {s : State} : (wrS f v s).plumb = s.plumb := rfl
@[simp] theorem wrS_batt {f : Fld} {v : Int} {s : State} : (wrS f v s).batt = s.batt := rfl
@[simp] theorem wrS_infeed {f : Fld} {v : Int} {s : State} : (wrS f v s).infeed = s.infeed := rfl
@[simp] theorem wrS_grade {f : Fld} {v : Int} {s : State} : (wrS f v s).grade = s.grade := rfl
@[simp] theorem wrS_ledger {f : Fld} {v : Int} {s : State} : (wrS f v s).ledger = s.ledger := rfl
@[simp] theorem wrS_tally {f : Fld} {v : Int} {s : State} : (wrS f v s).tally = s.tally := rfl
@[simp] theorem wrS_ftl {f : Fld} {v : Int} {s : State} : (wrS f v s).ftl = s.ftl := rfl
@[simp] theorem wrS_memory {f : Fld} {v : Int} {s : State} : (wrS f v s).memory = s.memory := rfl
@[simp] theorem wrS_keys {f : Fld} {v : Int} {s : State} : (wrS f v s).keys = s.keys := rfl
@[simp] theorem wrS_radio {f : Fld} {v : Int} {s : State} : (wrS f v s).radio = s.radio := rfl
@[simp] theorem wrS_plc {f : Fld} {v : Int} {s : State} : (wrS f v s).plc = s.plc := rfl
@[simp] theorem wrS_dl {f : Fld} {v : Int} {s : State} : (wrS f v s).dl = s.dl := rfl
@[simp] theorem wrS_legal {f : Fld} {v : Int} {s : State} : (wrS f v s).legal = s.legal := rfl
@[simp] theorem wrS_disp {f : Fld} {v : Int} {s : State} : (wrS f v s).disp = s.disp := rfl
@[simp] theorem wrS_ev {f : Fld} {v : Int} {s : State} : (wrS f v s).ev = s.ev := rfl
@[simp] theorem wrS_ctr {f : Fld} {v : Int} {s : State} : (wrS f v s).ctr = s.ctr := rfl
@[simp] theorem wrS_pair {f : Fld} {v : Int} {s : State} : (wrS f v s).pair = s.pair := rfl
@[simp] theorem wrS_pwr {f : Fld} {v : Int} {s : State} : (wrS f v s).pwr = s.pwr := rfl
@[simp] theorem wrS_out {f : Fld} {v : Int} {s : State} : (wrS f v s).out = s.out := rfl
@[simp] theorem wrS_free {f : Fld} {v : Int} {s : State} : (wrS f v s).free = s.free := rfl
@[simp] theorem wrS_pending {f : Fld} {v : Int} {s : State} : (wrS f v s).pending = s.pending := rfl

@[simp] theorem wrB_mem {f : Fld} {v : Bool} {s : State} : (wrB f v s).mem = s.mem := rfl
@[simp] theorem wrB_beat {f : Fld} {v : Bool} {s : State} : (wrB f v s).beat = s.beat := rfl
@[simp] theorem wrB_den {f : Fld} {v : Bool} {s : State} : (wrB f v s).den = s.den := rfl
@[simp] theorem wrB_sett {f : Fld} {v : Bool} {s : State} : (wrB f v s).sett = s.sett := rfl
@[simp] theorem wrB_cmd {f : Fld} {v : Bool} {s : State} : (wrB f v s).cmd = s.cmd := rfl
@[simp] theorem wrB_chain {f : Fld} {v : Bool} {s : State} : (wrB f v s).chain = s.chain := rfl
@[simp] theorem wrB_plumb {f : Fld} {v : Bool} {s : State} : (wrB f v s).plumb = s.plumb := rfl
@[simp] theorem wrB_batt {f : Fld} {v : Bool} {s : State} : (wrB f v s).batt = s.batt := rfl
@[simp] theorem wrB_infeed {f : Fld} {v : Bool} {s : State} : (wrB f v s).infeed = s.infeed := rfl
@[simp] theorem wrB_grade {f : Fld} {v : Bool} {s : State} : (wrB f v s).grade = s.grade := rfl
@[simp] theorem wrB_ledger {f : Fld} {v : Bool} {s : State} : (wrB f v s).ledger = s.ledger := rfl
@[simp] theorem wrB_tally {f : Fld} {v : Bool} {s : State} : (wrB f v s).tally = s.tally := rfl
@[simp] theorem wrB_ftl {f : Fld} {v : Bool} {s : State} : (wrB f v s).ftl = s.ftl := rfl
@[simp] theorem wrB_memory {f : Fld} {v : Bool} {s : State} : (wrB f v s).memory = s.memory := rfl
@[simp] theorem wrB_keys {f : Fld} {v : Bool} {s : State} : (wrB f v s).keys = s.keys := rfl
@[simp] theorem wrB_radio {f : Fld} {v : Bool} {s : State} : (wrB f v s).radio = s.radio := rfl
@[simp] theorem wrB_plc {f : Fld} {v : Bool} {s : State} : (wrB f v s).plc = s.plc := rfl
@[simp] theorem wrB_dl {f : Fld} {v : Bool} {s : State} : (wrB f v s).dl = s.dl := rfl
@[simp] theorem wrB_legal {f : Fld} {v : Bool} {s : State} : (wrB f v s).legal = s.legal := rfl
@[simp] theorem wrB_disp {f : Fld} {v : Bool} {s : State} : (wrB f v s).disp = s.disp := rfl
@[simp] theorem wrB_ev {f : Fld} {v : Bool} {s : State} : (wrB f v s).ev = s.ev := rfl
@[simp] theorem wrB_ctr {f : Fld} {v : Bool} {s : State} : (wrB f v s).ctr = s.ctr := rfl
@[simp] theorem wrB_pair {f : Fld} {v : Bool} {s : State} : (wrB f v s).pair = s.pair := rfl
@[simp] theorem wrB_pwr {f : Fld} {v : Bool} {s : State} : (wrB f v s).pwr = s.pwr := rfl
@[simp] theorem wrB_out {f : Fld} {v : Bool} {s : State} : (wrB f v s).out = s.out := rfl
@[simp] theorem wrB_free {f : Fld} {v : Bool} {s : State} : (wrB f v s).free = s.free := rfl
@[simp] theorem wrB_pending {f : Fld} {v : Bool} {s : State} : (wrB f v s).pending = s.pending := rfl

@[simp] theorem bumpI_mem {f : Fld} {i n : Nat} {s : State} : (bumpI f i n s).mem = s.mem := rfl
@[simp] theorem bumpI_beat {f : Fld} {i n : Nat} {s : State} : (bumpI f i n s).beat = s.beat := rfl
@[simp] theorem bumpI_den {f : Fld} {i n : Nat} {s : State} : (bumpI f i n s).den = s.den := rfl
@[simp] theorem bumpI_sett {f : Fld} {i n : Nat} {s : State} : (bumpI f i n s).sett = s.sett := rfl
@[simp] theorem bumpI_cmd {f : Fld} {i n : Nat} {s : State} : (bumpI f i n s).cmd = s.cmd := rfl
@[simp] theorem bumpI_chain {f : Fld} {i n : Nat} {s : State} : (bumpI f i n s).chain = s.chain := rfl
@[simp] theorem bumpI_plumb {f : Fld} {i n : Nat} {s : State} : (bumpI f i n s).plumb = s.plumb := rfl
@[simp] theorem bumpI_batt {f : Fld} {i n : Nat} {s : State} : (bumpI f i n s).batt = s.batt := rfl
@[simp] theorem bumpI_infeed {f : Fld} {i n : Nat} {s : State} : (bumpI f i n s).infeed = s.infeed := rfl
@[simp] theorem bumpI_grade {f : Fld} {i n : Nat} {s : State} : (bumpI f i n s).grade = s.grade := rfl
@[simp] theorem bumpI_ledger {f : Fld} {i n : Nat} {s : State} : (bumpI f i n s).ledger = s.ledger := rfl
@[simp] theorem bumpI_tally {f : Fld} {i n : Nat} {s : State} : (bumpI f i n s).tally = s.tally := rfl
@[simp] theorem bumpI_ftl {f : Fld} {i n : Nat} {s : State} : (bumpI f i n s).ftl = s.ftl := rfl
@[simp] theorem bumpI_memory {f : Fld} {i n : Nat} {s : State} : (bumpI f i n s).memory = s.memory := rfl
@[simp] theorem bumpI_keys {f : Fld} {i n : Nat} {s : State} : (bumpI f i n s).keys = s.keys := rfl
@[simp] theorem bumpI_radio {f : Fld} {i n : Nat} {s : State} : (bumpI f i n s).radio = s.radio := rfl
@[simp] theorem bumpI_plc {f : Fld} {i n : Nat} {s : State} : (bumpI f i n s).plc = s.plc := rfl
@[simp] theorem bumpI_dl {f : Fld} {i n : Nat} {s : State} : (bumpI f i n s).dl = s.dl := rfl
@[simp] theorem bumpI_legal {f : Fld} {i n : Nat} {s : State} : (bumpI f i n s).legal = s.legal := rfl
@[simp] theorem bumpI_disp {f : Fld} {i n : Nat} {s : State} : (bumpI f i n s).disp = s.disp := rfl
@[simp] theorem bumpI_ev {f : Fld} {i n : Nat} {s : State} : (bumpI f i n s).ev = s.ev := rfl
@[simp] theorem bumpI_ctr {f : Fld} {i n : Nat} {s : State} : (bumpI f i n s).ctr = s.ctr := rfl
@[simp] theorem bumpI_pair {f : Fld} {i n : Nat} {s : State} : (bumpI f i n s).pair = s.pair := rfl
@[simp] theorem bumpI_pwr {f : Fld} {i n : Nat} {s : State} : (bumpI f i n s).pwr = s.pwr := rfl
@[simp] theorem bumpI_out {f : Fld} {i n : Nat} {s : State} : (bumpI f i n s).out = s.out := rfl
@[simp] theorem bumpI_free {f : Fld} {i n : Nat} {s : State} : (bumpI f i n s).free = s.free := rfl
@[simp] theorem bumpI_pending {f : Fld} {i n : Nat} {s : State} : (bumpI f i n s).pending = s.pending := rfl

@[simp] theorem bump_mem {f : Fld} {s : State} : (bump f s).mem = s.mem := rfl
@[simp] theorem bump_beat {f : Fld} {s : State} : (bump f s).beat = s.beat := rfl
@[simp] theorem bump_den {f : Fld} {s : State} : (bump f s).den = s.den := rfl
@[simp] theorem bump_sett {f : Fld} {s : State} : (bump f s).sett = s.sett := rfl
@[simp] theorem bump_cmd {f : Fld} {s : State} : (bump f s).cmd = s.cmd := rfl
@[simp] theorem bump_chain {f : Fld} {s : State} : (bump f s).chain = s.chain := rfl
@[simp] theorem bump_plumb {f : Fld} {s : State} : (bump f s).plumb = s.plumb := rfl
@[simp] theorem bump_batt {f : Fld} {s : State} : (bump f s).batt = s.batt := rfl
@[simp] theorem bump_infeed {f : Fld} {s : State} : (bump f s).infeed = s.infeed := rfl
@[simp] theorem bump_grade {f : Fld} {s : State} : (bump f s).grade = s.grade := rfl
@[simp] theorem bump_ledger {f : Fld} {s : State} : (bump f s).ledger = s.ledger := rfl
@[simp] theorem bump_tally {f : Fld} {s : State} : (bump f s).tally = s.tally := rfl
@[simp] theorem bump_ftl {f : Fld} {s : State} : (bump f s).ftl = s.ftl := rfl
@[simp] theorem bump_memory {f : Fld} {s : State} : (bump f s).memory = s.memory := rfl
@[simp] theorem bump_keys {f : Fld} {s : State} : (bump f s).keys = s.keys := rfl
@[simp] theorem bump_radio {f : Fld} {s : State} : (bump f s).radio = s.radio := rfl
@[simp] theorem bump_plc {f : Fld} {s : State} : (bump f s).plc = s.plc := rfl
@[simp] theorem bump_dl {f : Fld} {s : State} : (bump f s).dl = s.dl := rfl
@[simp] theorem bump_legal {f : Fld} {s : State} : (bump f s).legal = s.legal := rfl
@[simp] theorem bump_disp {f : Fld} {s : State} : (bump f s).disp = s.disp := rfl
@[simp] theorem bump_ev {f : Fld} {s : State} : (bump f s).ev = s.ev := rfl
@[simp] theorem bump_ctr {f : Fld} {s : State} : (bump f s).ctr = s.ctr := rfl
@[simp] theorem bump_pair {f : Fld} {s : State} : (bump f s).pair = s.pair := rfl
@[simp] theorem bump_pwr {f : Fld} {s : State} : (bump f s).pwr = s.pwr := rfl
@[simp] theorem bump_out {f : Fld} {s : State} : (bump f s).out = s.out := rfl
@[simp] theorem bump_free {f : Fld} {s : State} : (bump f s).free = s.free := rfl
@[simp] theorem bump_pending {f : Fld} {s : State} : (bump f s).pending = s.pending := rfl

@[simp] theorem wrMem_regs {a : Nat} {b : Byte} {s : State} : (wrMem a b s).regs = s.regs := rfl
@[simp] theorem wrMem_beat {a : Nat} {b : Byte} {s : State} : (wrMem a b s).beat = s.beat := rfl
@[simp] theorem wrMem_den {a : Nat} {b : Byte} {s : State} : (wrMem a b s).den = s.den := rfl
@[simp] theorem wrMem_sett {a : Nat} {b : Byte} {s : State} : (wrMem a b s).sett = s.sett := rfl
@[simp] theorem wrMem_cmd {a : Nat} {b : Byte} {s : State} : (wrMem a b s).cmd = s.cmd := rfl
@[simp] theorem wrMem_chain {a : Nat} {b : Byte} {s : State} : (wrMem a b s).chain = s.chain := rfl
@[simp] theorem wrMem_plumb {a : Nat} {b : Byte} {s : State} : (wrMem a b s).plumb = s.plumb := rfl
@[simp] theorem wrMem_batt {a : Nat} {b : Byte} {s : State} : (wrMem a b s).batt = s.batt := rfl
@[simp] theorem wrMem_infeed {a : Nat} {b : Byte} {s : State} : (wrMem a b s).infeed = s.infeed := rfl
@[simp] theorem wrMem_grade {a : Nat} {b : Byte} {s : State} : (wrMem a b s).grade = s.grade := rfl
@[simp] theorem wrMem_ledger {a : Nat} {b : Byte} {s : State} : (wrMem a b s).ledger = s.ledger := rfl
@[simp] theorem wrMem_tally {a : Nat} {b : Byte} {s : State} : (wrMem a b s).tally = s.tally := rfl
@[simp] theorem wrMem_ftl {a : Nat} {b : Byte} {s : State} : (wrMem a b s).ftl = s.ftl := rfl
@[simp] theorem wrMem_memory {a : Nat} {b : Byte} {s : State} : (wrMem a b s).memory = s.memory := rfl
@[simp] theorem wrMem_keys {a : Nat} {b : Byte} {s : State} : (wrMem a b s).keys = s.keys := rfl
@[simp] theorem wrMem_radio {a : Nat} {b : Byte} {s : State} : (wrMem a b s).radio = s.radio := rfl
@[simp] theorem wrMem_plc {a : Nat} {b : Byte} {s : State} : (wrMem a b s).plc = s.plc := rfl
@[simp] theorem wrMem_dl {a : Nat} {b : Byte} {s : State} : (wrMem a b s).dl = s.dl := rfl
@[simp] theorem wrMem_legal {a : Nat} {b : Byte} {s : State} : (wrMem a b s).legal = s.legal := rfl
@[simp] theorem wrMem_disp {a : Nat} {b : Byte} {s : State} : (wrMem a b s).disp = s.disp := rfl
@[simp] theorem wrMem_ev {a : Nat} {b : Byte} {s : State} : (wrMem a b s).ev = s.ev := rfl
@[simp] theorem wrMem_ctr {a : Nat} {b : Byte} {s : State} : (wrMem a b s).ctr = s.ctr := rfl
@[simp] theorem wrMem_pair {a : Nat} {b : Byte} {s : State} : (wrMem a b s).pair = s.pair := rfl
@[simp] theorem wrMem_pwr {a : Nat} {b : Byte} {s : State} : (wrMem a b s).pwr = s.pwr := rfl
@[simp] theorem wrMem_out {a : Nat} {b : Byte} {s : State} : (wrMem a b s).out = s.out := rfl
@[simp] theorem wrMem_free {a : Nat} {b : Byte} {s : State} : (wrMem a b s).free = s.free := rfl
@[simp] theorem wrMem_pending {a : Nat} {b : Byte} {s : State} : (wrMem a b s).pending = s.pending := rfl

@[simp] theorem emit_regs {o : Out} {s : State} : (emit o s).regs = s.regs := rfl
@[simp] theorem emit_mem {o : Out} {s : State} : (emit o s).mem = s.mem := rfl
@[simp] theorem emit_beat {o : Out} {s : State} : (emit o s).beat = s.beat := rfl
@[simp] theorem emit_den {o : Out} {s : State} : (emit o s).den = s.den := rfl
@[simp] theorem emit_sett {o : Out} {s : State} : (emit o s).sett = s.sett := rfl
@[simp] theorem emit_cmd {o : Out} {s : State} : (emit o s).cmd = s.cmd := rfl
@[simp] theorem emit_chain {o : Out} {s : State} : (emit o s).chain = s.chain := rfl
@[simp] theorem emit_plumb {o : Out} {s : State} : (emit o s).plumb = s.plumb := rfl
@[simp] theorem emit_batt {o : Out} {s : State} : (emit o s).batt = s.batt := rfl
@[simp] theorem emit_infeed {o : Out} {s : State} : (emit o s).infeed = s.infeed := rfl
@[simp] theorem emit_grade {o : Out} {s : State} : (emit o s).grade = s.grade := rfl
@[simp] theorem emit_ledger {o : Out} {s : State} : (emit o s).ledger = s.ledger := rfl
@[simp] theorem emit_tally {o : Out} {s : State} : (emit o s).tally = s.tally := rfl
@[simp] theorem emit_ftl {o : Out} {s : State} : (emit o s).ftl = s.ftl := rfl
@[simp] theorem emit_memory {o : Out} {s : State} : (emit o s).memory = s.memory := rfl
@[simp] theorem emit_keys {o : Out} {s : State} : (emit o s).keys = s.keys := rfl
@[simp] theorem emit_radio {o : Out} {s : State} : (emit o s).radio = s.radio := rfl
@[simp] theorem emit_plc {o : Out} {s : State} : (emit o s).plc = s.plc := rfl
@[simp] theorem emit_dl {o : Out} {s : State} : (emit o s).dl = s.dl := rfl
@[simp] theorem emit_legal {o : Out} {s : State} : (emit o s).legal = s.legal := rfl
@[simp] theorem emit_disp {o : Out} {s : State} : (emit o s).disp = s.disp := rfl
@[simp] theorem emit_ev {o : Out} {s : State} : (emit o s).ev = s.ev := rfl
@[simp] theorem emit_ctr {o : Out} {s : State} : (emit o s).ctr = s.ctr := rfl
@[simp] theorem emit_pair {o : Out} {s : State} : (emit o s).pair = s.pair := rfl
@[simp] theorem emit_pwr {o : Out} {s : State} : (emit o s).pwr = s.pwr := rfl
@[simp] theorem emit_free {o : Out} {s : State} : (emit o s).free = s.free := rfl
@[simp] theorem emit_pending {o : Out} {s : State} : (emit o s).pending = s.pending := rfl

@[simp] theorem drawn_regs {s : State} : (drawn s).regs = s.regs := rfl
@[simp] theorem drawn_mem {s : State} : (drawn s).mem = s.mem := rfl
@[simp] theorem drawn_beat {s : State} : (drawn s).beat = s.beat := rfl
@[simp] theorem drawn_den {s : State} : (drawn s).den = s.den := rfl
@[simp] theorem drawn_sett {s : State} : (drawn s).sett = s.sett := rfl
@[simp] theorem drawn_cmd {s : State} : (drawn s).cmd = s.cmd := rfl
@[simp] theorem drawn_chain {s : State} : (drawn s).chain = s.chain := rfl
@[simp] theorem drawn_plumb {s : State} : (drawn s).plumb = s.plumb := rfl
@[simp] theorem drawn_batt {s : State} : (drawn s).batt = s.batt := rfl
@[simp] theorem drawn_infeed {s : State} : (drawn s).infeed = s.infeed := rfl
@[simp] theorem drawn_grade {s : State} : (drawn s).grade = s.grade := rfl
@[simp] theorem drawn_ledger {s : State} : (drawn s).ledger = s.ledger := rfl
@[simp] theorem drawn_tally {s : State} : (drawn s).tally = s.tally := rfl
@[simp] theorem drawn_ftl {s : State} : (drawn s).ftl = s.ftl := rfl
@[simp] theorem drawn_memory {s : State} : (drawn s).memory = s.memory := rfl
@[simp] theorem drawn_keys {s : State} : (drawn s).keys = s.keys := rfl
@[simp] theorem drawn_radio {s : State} : (drawn s).radio = s.radio := rfl
@[simp] theorem drawn_plc {s : State} : (drawn s).plc = s.plc := rfl
@[simp] theorem drawn_dl {s : State} : (drawn s).dl = s.dl := rfl
@[simp] theorem drawn_legal {s : State} : (drawn s).legal = s.legal := rfl
@[simp] theorem drawn_disp {s : State} : (drawn s).disp = s.disp := rfl
@[simp] theorem drawn_ev {s : State} : (drawn s).ev = s.ev := rfl
@[simp] theorem drawn_ctr {s : State} : (drawn s).ctr = s.ctr := rfl
@[simp] theorem drawn_pair {s : State} : (drawn s).pair = s.pair := rfl
@[simp] theorem drawn_pwr {s : State} : (drawn s).pwr = s.pwr := rfl
@[simp] theorem drawn_out {s : State} : (drawn s).out = s.out := rfl
@[simp] theorem drawn_pending {s : State} : (drawn s).pending = s.pending := rfl

@[simp] theorem postP256_regs {n : Nat} {s : State} : (postP256 n s).regs = s.regs := rfl
@[simp] theorem postP256_mem {n : Nat} {s : State} : (postP256 n s).mem = s.mem := rfl
@[simp] theorem postP256_beat {n : Nat} {s : State} : (postP256 n s).beat = s.beat := rfl
@[simp] theorem postP256_den {n : Nat} {s : State} : (postP256 n s).den = s.den := rfl
@[simp] theorem postP256_sett {n : Nat} {s : State} : (postP256 n s).sett = s.sett := rfl
@[simp] theorem postP256_cmd {n : Nat} {s : State} : (postP256 n s).cmd = s.cmd := rfl
@[simp] theorem postP256_chain {n : Nat} {s : State} : (postP256 n s).chain = s.chain := rfl
@[simp] theorem postP256_plumb {n : Nat} {s : State} : (postP256 n s).plumb = s.plumb := rfl
@[simp] theorem postP256_batt {n : Nat} {s : State} : (postP256 n s).batt = s.batt := rfl
@[simp] theorem postP256_infeed {n : Nat} {s : State} : (postP256 n s).infeed = s.infeed := rfl
@[simp] theorem postP256_grade {n : Nat} {s : State} : (postP256 n s).grade = s.grade := rfl
@[simp] theorem postP256_ledger {n : Nat} {s : State} : (postP256 n s).ledger = s.ledger := rfl
@[simp] theorem postP256_tally {n : Nat} {s : State} : (postP256 n s).tally = s.tally := rfl
@[simp] theorem postP256_ftl {n : Nat} {s : State} : (postP256 n s).ftl = s.ftl := rfl
@[simp] theorem postP256_memory {n : Nat} {s : State} : (postP256 n s).memory = s.memory := rfl
@[simp] theorem postP256_radio {n : Nat} {s : State} : (postP256 n s).radio = s.radio := rfl
@[simp] theorem postP256_plc {n : Nat} {s : State} : (postP256 n s).plc = s.plc := rfl
@[simp] theorem postP256_dl {n : Nat} {s : State} : (postP256 n s).dl = s.dl := rfl
@[simp] theorem postP256_legal {n : Nat} {s : State} : (postP256 n s).legal = s.legal := rfl
@[simp] theorem postP256_disp {n : Nat} {s : State} : (postP256 n s).disp = s.disp := rfl
@[simp] theorem postP256_ev {n : Nat} {s : State} : (postP256 n s).ev = s.ev := rfl
@[simp] theorem postP256_ctr {n : Nat} {s : State} : (postP256 n s).ctr = s.ctr := rfl
@[simp] theorem postP256_pair {n : Nat} {s : State} : (postP256 n s).pair = s.pair := rfl
@[simp] theorem postP256_pwr {n : Nat} {s : State} : (postP256 n s).pwr = s.pwr := rfl
@[simp] theorem postP256_out {n : Nat} {s : State} : (postP256 n s).out = s.out := rfl
@[simp] theorem postP256_free {n : Nat} {s : State} : (postP256 n s).free = s.free := rfl
@[simp] theorem postP256_pending {n : Nat} {s : State} : (postP256 n s).pending = s.pending := rfl

@[simp] theorem setSess_regs {n : Nat} {x : Sess} {s : State} : (setSess n x s).regs = s.regs := rfl
@[simp] theorem setSess_mem {n : Nat} {x : Sess} {s : State} : (setSess n x s).mem = s.mem := rfl
@[simp] theorem setSess_beat {n : Nat} {x : Sess} {s : State} : (setSess n x s).beat = s.beat := rfl
@[simp] theorem setSess_den {n : Nat} {x : Sess} {s : State} : (setSess n x s).den = s.den := rfl
@[simp] theorem setSess_sett {n : Nat} {x : Sess} {s : State} : (setSess n x s).sett = s.sett := rfl
@[simp] theorem setSess_chain {n : Nat} {x : Sess} {s : State} : (setSess n x s).chain = s.chain := rfl
@[simp] theorem setSess_plumb {n : Nat} {x : Sess} {s : State} : (setSess n x s).plumb = s.plumb := rfl
@[simp] theorem setSess_batt {n : Nat} {x : Sess} {s : State} : (setSess n x s).batt = s.batt := rfl
@[simp] theorem setSess_infeed {n : Nat} {x : Sess} {s : State} : (setSess n x s).infeed = s.infeed := rfl
@[simp] theorem setSess_grade {n : Nat} {x : Sess} {s : State} : (setSess n x s).grade = s.grade := rfl
@[simp] theorem setSess_ledger {n : Nat} {x : Sess} {s : State} : (setSess n x s).ledger = s.ledger := rfl
@[simp] theorem setSess_tally {n : Nat} {x : Sess} {s : State} : (setSess n x s).tally = s.tally := rfl
@[simp] theorem setSess_ftl {n : Nat} {x : Sess} {s : State} : (setSess n x s).ftl = s.ftl := rfl
@[simp] theorem setSess_memory {n : Nat} {x : Sess} {s : State} : (setSess n x s).memory = s.memory := rfl
@[simp] theorem setSess_keys {n : Nat} {x : Sess} {s : State} : (setSess n x s).keys = s.keys := rfl
@[simp] theorem setSess_radio {n : Nat} {x : Sess} {s : State} : (setSess n x s).radio = s.radio := rfl
@[simp] theorem setSess_plc {n : Nat} {x : Sess} {s : State} : (setSess n x s).plc = s.plc := rfl
@[simp] theorem setSess_dl {n : Nat} {x : Sess} {s : State} : (setSess n x s).dl = s.dl := rfl
@[simp] theorem setSess_legal {n : Nat} {x : Sess} {s : State} : (setSess n x s).legal = s.legal := rfl
@[simp] theorem setSess_disp {n : Nat} {x : Sess} {s : State} : (setSess n x s).disp = s.disp := rfl
@[simp] theorem setSess_ev {n : Nat} {x : Sess} {s : State} : (setSess n x s).ev = s.ev := rfl
@[simp] theorem setSess_ctr {n : Nat} {x : Sess} {s : State} : (setSess n x s).ctr = s.ctr := rfl
@[simp] theorem setSess_pair {n : Nat} {x : Sess} {s : State} : (setSess n x s).pair = s.pair := rfl
@[simp] theorem setSess_pwr {n : Nat} {x : Sess} {s : State} : (setSess n x s).pwr = s.pwr := rfl
@[simp] theorem setSess_out {n : Nat} {x : Sess} {s : State} : (setSess n x s).out = s.out := rfl
@[simp] theorem setSess_free {n : Nat} {x : Sess} {s : State} : (setSess n x s).free = s.free := rfl
@[simp] theorem setSess_pending {n : Nat} {x : Sess} {s : State} : (setSess n x s).pending = s.pending := rfl

@[simp] theorem closeCmd_regs {h : Hdr} {s : State} : (closeCmd h s).regs = s.regs := rfl
@[simp] theorem closeCmd_mem {h : Hdr} {s : State} : (closeCmd h s).mem = s.mem := rfl
@[simp] theorem closeCmd_beat {h : Hdr} {s : State} : (closeCmd h s).beat = s.beat := rfl
@[simp] theorem closeCmd_den {h : Hdr} {s : State} : (closeCmd h s).den = s.den := rfl
@[simp] theorem closeCmd_sett {h : Hdr} {s : State} : (closeCmd h s).sett = s.sett := rfl
@[simp] theorem closeCmd_chain {h : Hdr} {s : State} : (closeCmd h s).chain = s.chain := rfl
@[simp] theorem closeCmd_plumb {h : Hdr} {s : State} : (closeCmd h s).plumb = s.plumb := rfl
@[simp] theorem closeCmd_batt {h : Hdr} {s : State} : (closeCmd h s).batt = s.batt := rfl
@[simp] theorem closeCmd_infeed {h : Hdr} {s : State} : (closeCmd h s).infeed = s.infeed := rfl
@[simp] theorem closeCmd_grade {h : Hdr} {s : State} : (closeCmd h s).grade = s.grade := rfl
@[simp] theorem closeCmd_ledger {h : Hdr} {s : State} : (closeCmd h s).ledger = s.ledger := rfl
@[simp] theorem closeCmd_tally {h : Hdr} {s : State} : (closeCmd h s).tally = s.tally := rfl
@[simp] theorem closeCmd_ftl {h : Hdr} {s : State} : (closeCmd h s).ftl = s.ftl := rfl
@[simp] theorem closeCmd_memory {h : Hdr} {s : State} : (closeCmd h s).memory = s.memory := rfl
@[simp] theorem closeCmd_keys {h : Hdr} {s : State} : (closeCmd h s).keys = s.keys := rfl
@[simp] theorem closeCmd_radio {h : Hdr} {s : State} : (closeCmd h s).radio = s.radio := rfl
@[simp] theorem closeCmd_plc {h : Hdr} {s : State} : (closeCmd h s).plc = s.plc := rfl
@[simp] theorem closeCmd_dl {h : Hdr} {s : State} : (closeCmd h s).dl = s.dl := rfl
@[simp] theorem closeCmd_legal {h : Hdr} {s : State} : (closeCmd h s).legal = s.legal := rfl
@[simp] theorem closeCmd_disp {h : Hdr} {s : State} : (closeCmd h s).disp = s.disp := rfl
@[simp] theorem closeCmd_ev {h : Hdr} {s : State} : (closeCmd h s).ev = s.ev := rfl
@[simp] theorem closeCmd_ctr {h : Hdr} {s : State} : (closeCmd h s).ctr = s.ctr := rfl
@[simp] theorem closeCmd_pair {h : Hdr} {s : State} : (closeCmd h s).pair = s.pair := rfl
@[simp] theorem closeCmd_pwr {h : Hdr} {s : State} : (closeCmd h s).pwr = s.pwr := rfl
@[simp] theorem closeCmd_out {h : Hdr} {s : State} : (closeCmd h s).out = s.out := rfl
@[simp] theorem closeCmd_free {h : Hdr} {s : State} : (closeCmd h s).free = s.free := rfl
@[simp] theorem closeCmd_pending {h : Hdr} {s : State} : (closeCmd h s).pending = s.pending := rfl

@[simp] theorem modChan_regs {n : Nat} {f : RadChan → RadChan} {s : State} : (modChan n f s).regs = s.regs := rfl
@[simp] theorem modChan_mem {n : Nat} {f : RadChan → RadChan} {s : State} : (modChan n f s).mem = s.mem := rfl
@[simp] theorem modChan_beat {n : Nat} {f : RadChan → RadChan} {s : State} : (modChan n f s).beat = s.beat := rfl
@[simp] theorem modChan_den {n : Nat} {f : RadChan → RadChan} {s : State} : (modChan n f s).den = s.den := rfl
@[simp] theorem modChan_sett {n : Nat} {f : RadChan → RadChan} {s : State} : (modChan n f s).sett = s.sett := rfl
@[simp] theorem modChan_cmd {n : Nat} {f : RadChan → RadChan} {s : State} : (modChan n f s).cmd = s.cmd := rfl
@[simp] theorem modChan_chain {n : Nat} {f : RadChan → RadChan} {s : State} : (modChan n f s).chain = s.chain := rfl
@[simp] theorem modChan_plumb {n : Nat} {f : RadChan → RadChan} {s : State} : (modChan n f s).plumb = s.plumb := rfl
@[simp] theorem modChan_batt {n : Nat} {f : RadChan → RadChan} {s : State} : (modChan n f s).batt = s.batt := rfl
@[simp] theorem modChan_infeed {n : Nat} {f : RadChan → RadChan} {s : State} : (modChan n f s).infeed = s.infeed := rfl
@[simp] theorem modChan_grade {n : Nat} {f : RadChan → RadChan} {s : State} : (modChan n f s).grade = s.grade := rfl
@[simp] theorem modChan_ledger {n : Nat} {f : RadChan → RadChan} {s : State} : (modChan n f s).ledger = s.ledger := rfl
@[simp] theorem modChan_tally {n : Nat} {f : RadChan → RadChan} {s : State} : (modChan n f s).tally = s.tally := rfl
@[simp] theorem modChan_ftl {n : Nat} {f : RadChan → RadChan} {s : State} : (modChan n f s).ftl = s.ftl := rfl
@[simp] theorem modChan_memory {n : Nat} {f : RadChan → RadChan} {s : State} : (modChan n f s).memory = s.memory := rfl
@[simp] theorem modChan_keys {n : Nat} {f : RadChan → RadChan} {s : State} : (modChan n f s).keys = s.keys := rfl
@[simp] theorem modChan_plc {n : Nat} {f : RadChan → RadChan} {s : State} : (modChan n f s).plc = s.plc := rfl
@[simp] theorem modChan_dl {n : Nat} {f : RadChan → RadChan} {s : State} : (modChan n f s).dl = s.dl := rfl
@[simp] theorem modChan_legal {n : Nat} {f : RadChan → RadChan} {s : State} : (modChan n f s).legal = s.legal := rfl
@[simp] theorem modChan_disp {n : Nat} {f : RadChan → RadChan} {s : State} : (modChan n f s).disp = s.disp := rfl
@[simp] theorem modChan_ev {n : Nat} {f : RadChan → RadChan} {s : State} : (modChan n f s).ev = s.ev := rfl
@[simp] theorem modChan_ctr {n : Nat} {f : RadChan → RadChan} {s : State} : (modChan n f s).ctr = s.ctr := rfl
@[simp] theorem modChan_pair {n : Nat} {f : RadChan → RadChan} {s : State} : (modChan n f s).pair = s.pair := rfl
@[simp] theorem modChan_pwr {n : Nat} {f : RadChan → RadChan} {s : State} : (modChan n f s).pwr = s.pwr := rfl
@[simp] theorem modChan_out {n : Nat} {f : RadChan → RadChan} {s : State} : (modChan n f s).out = s.out := rfl
@[simp] theorem modChan_free {n : Nat} {f : RadChan → RadChan} {s : State} : (modChan n f s).free = s.free := rfl
@[simp] theorem modChan_pending {n : Nat} {f : RadChan → RadChan} {s : State} : (modChan n f s).pending = s.pending := rfl

@[simp] theorem modPhase_regs {n : Nat} {f : PlcPhase → PlcPhase} {s : State} : (modPhase n f s).regs = s.regs := rfl
@[simp] theorem modPhase_mem {n : Nat} {f : PlcPhase → PlcPhase} {s : State} : (modPhase n f s).mem = s.mem := rfl
@[simp] theorem modPhase_beat {n : Nat} {f : PlcPhase → PlcPhase} {s : State} : (modPhase n f s).beat = s.beat := rfl
@[simp] theorem modPhase_den {n : Nat} {f : PlcPhase → PlcPhase} {s : State} : (modPhase n f s).den = s.den := rfl
@[simp] theorem modPhase_sett {n : Nat} {f : PlcPhase → PlcPhase} {s : State} : (modPhase n f s).sett = s.sett := rfl
@[simp] theorem modPhase_cmd {n : Nat} {f : PlcPhase → PlcPhase} {s : State} : (modPhase n f s).cmd = s.cmd := rfl
@[simp] theorem modPhase_chain {n : Nat} {f : PlcPhase → PlcPhase} {s : State} : (modPhase n f s).chain = s.chain := rfl
@[simp] theorem modPhase_plumb {n : Nat} {f : PlcPhase → PlcPhase} {s : State} : (modPhase n f s).plumb = s.plumb := rfl
@[simp] theorem modPhase_batt {n : Nat} {f : PlcPhase → PlcPhase} {s : State} : (modPhase n f s).batt = s.batt := rfl
@[simp] theorem modPhase_infeed {n : Nat} {f : PlcPhase → PlcPhase} {s : State} : (modPhase n f s).infeed = s.infeed := rfl
@[simp] theorem modPhase_grade {n : Nat} {f : PlcPhase → PlcPhase} {s : State} : (modPhase n f s).grade = s.grade := rfl
@[simp] theorem modPhase_ledger {n : Nat} {f : PlcPhase → PlcPhase} {s : State} : (modPhase n f s).ledger = s.ledger := rfl
@[simp] theorem modPhase_tally {n : Nat} {f : PlcPhase → PlcPhase} {s : State} : (modPhase n f s).tally = s.tally := rfl
@[simp] theorem modPhase_ftl {n : Nat} {f : PlcPhase → PlcPhase} {s : State} : (modPhase n f s).ftl = s.ftl := rfl
@[simp] theorem modPhase_memory {n : Nat} {f : PlcPhase → PlcPhase} {s : State} : (modPhase n f s).memory = s.memory := rfl
@[simp] theorem modPhase_keys {n : Nat} {f : PlcPhase → PlcPhase} {s : State} : (modPhase n f s).keys = s.keys := rfl
@[simp] theorem modPhase_radio {n : Nat} {f : PlcPhase → PlcPhase} {s : State} : (modPhase n f s).radio = s.radio := rfl
@[simp] theorem modPhase_dl {n : Nat} {f : PlcPhase → PlcPhase} {s : State} : (modPhase n f s).dl = s.dl := rfl
@[simp] theorem modPhase_legal {n : Nat} {f : PlcPhase → PlcPhase} {s : State} : (modPhase n f s).legal = s.legal := rfl
@[simp] theorem modPhase_disp {n : Nat} {f : PlcPhase → PlcPhase} {s : State} : (modPhase n f s).disp = s.disp := rfl
@[simp] theorem modPhase_ev {n : Nat} {f : PlcPhase → PlcPhase} {s : State} : (modPhase n f s).ev = s.ev := rfl
@[simp] theorem modPhase_ctr {n : Nat} {f : PlcPhase → PlcPhase} {s : State} : (modPhase n f s).ctr = s.ctr := rfl
@[simp] theorem modPhase_pair {n : Nat} {f : PlcPhase → PlcPhase} {s : State} : (modPhase n f s).pair = s.pair := rfl
@[simp] theorem modPhase_pwr {n : Nat} {f : PlcPhase → PlcPhase} {s : State} : (modPhase n f s).pwr = s.pwr := rfl
@[simp] theorem modPhase_out {n : Nat} {f : PlcPhase → PlcPhase} {s : State} : (modPhase n f s).out = s.out := rfl
@[simp] theorem modPhase_free {n : Nat} {f : PlcPhase → PlcPhase} {s : State} : (modPhase n f s).free = s.free := rfl
@[simp] theorem modPhase_pending {n : Nat} {f : PlcPhase → PlcPhase} {s : State} : (modPhase n f s).pending = s.pending := rfl

@[simp] theorem queueRadio_regs {x : RadTx} {s : State} : (queueRadio x s).regs = s.regs := rfl
@[simp] theorem queueRadio_mem {x : RadTx} {s : State} : (queueRadio x s).mem = s.mem := rfl
@[simp] theorem queueRadio_beat {x : RadTx} {s : State} : (queueRadio x s).beat = s.beat := rfl
@[simp] theorem queueRadio_den {x : RadTx} {s : State} : (queueRadio x s).den = s.den := rfl
@[simp] theorem queueRadio_sett {x : RadTx} {s : State} : (queueRadio x s).sett = s.sett := rfl
@[simp] theorem queueRadio_cmd {x : RadTx} {s : State} : (queueRadio x s).cmd = s.cmd := rfl
@[simp] theorem queueRadio_chain {x : RadTx} {s : State} : (queueRadio x s).chain = s.chain := rfl
@[simp] theorem queueRadio_plumb {x : RadTx} {s : State} : (queueRadio x s).plumb = s.plumb := rfl
@[simp] theorem queueRadio_batt {x : RadTx} {s : State} : (queueRadio x s).batt = s.batt := rfl
@[simp] theorem queueRadio_infeed {x : RadTx} {s : State} : (queueRadio x s).infeed = s.infeed := rfl
@[simp] theorem queueRadio_grade {x : RadTx} {s : State} : (queueRadio x s).grade = s.grade := rfl
@[simp] theorem queueRadio_ledger {x : RadTx} {s : State} : (queueRadio x s).ledger = s.ledger := rfl
@[simp] theorem queueRadio_tally {x : RadTx} {s : State} : (queueRadio x s).tally = s.tally := rfl
@[simp] theorem queueRadio_ftl {x : RadTx} {s : State} : (queueRadio x s).ftl = s.ftl := rfl
@[simp] theorem queueRadio_memory {x : RadTx} {s : State} : (queueRadio x s).memory = s.memory := rfl
@[simp] theorem queueRadio_keys {x : RadTx} {s : State} : (queueRadio x s).keys = s.keys := rfl
@[simp] theorem queueRadio_plc {x : RadTx} {s : State} : (queueRadio x s).plc = s.plc := rfl
@[simp] theorem queueRadio_dl {x : RadTx} {s : State} : (queueRadio x s).dl = s.dl := rfl
@[simp] theorem queueRadio_legal {x : RadTx} {s : State} : (queueRadio x s).legal = s.legal := rfl
@[simp] theorem queueRadio_disp {x : RadTx} {s : State} : (queueRadio x s).disp = s.disp := rfl
@[simp] theorem queueRadio_ev {x : RadTx} {s : State} : (queueRadio x s).ev = s.ev := rfl
@[simp] theorem queueRadio_ctr {x : RadTx} {s : State} : (queueRadio x s).ctr = s.ctr := rfl
@[simp] theorem queueRadio_pair {x : RadTx} {s : State} : (queueRadio x s).pair = s.pair := rfl
@[simp] theorem queueRadio_pwr {x : RadTx} {s : State} : (queueRadio x s).pwr = s.pwr := rfl
@[simp] theorem queueRadio_out {x : RadTx} {s : State} : (queueRadio x s).out = s.out := rfl
@[simp] theorem queueRadio_free {x : RadTx} {s : State} : (queueRadio x s).free = s.free := rfl
@[simp] theorem queueRadio_pending {x : RadTx} {s : State} : (queueRadio x s).pending = s.pending := rfl

@[simp] theorem modItem_regs {n : Nat} {f : DlItem → DlItem} {s : State} : (modItem n f s).regs = s.regs := rfl
@[simp] theorem modItem_mem {n : Nat} {f : DlItem → DlItem} {s : State} : (modItem n f s).mem = s.mem := rfl
@[simp] theorem modItem_beat {n : Nat} {f : DlItem → DlItem} {s : State} : (modItem n f s).beat = s.beat := rfl
@[simp] theorem modItem_den {n : Nat} {f : DlItem → DlItem} {s : State} : (modItem n f s).den = s.den := rfl
@[simp] theorem modItem_sett {n : Nat} {f : DlItem → DlItem} {s : State} : (modItem n f s).sett = s.sett := rfl
@[simp] theorem modItem_cmd {n : Nat} {f : DlItem → DlItem} {s : State} : (modItem n f s).cmd = s.cmd := rfl
@[simp] theorem modItem_chain {n : Nat} {f : DlItem → DlItem} {s : State} : (modItem n f s).chain = s.chain := rfl
@[simp] theorem modItem_plumb {n : Nat} {f : DlItem → DlItem} {s : State} : (modItem n f s).plumb = s.plumb := rfl
@[simp] theorem modItem_batt {n : Nat} {f : DlItem → DlItem} {s : State} : (modItem n f s).batt = s.batt := rfl
@[simp] theorem modItem_infeed {n : Nat} {f : DlItem → DlItem} {s : State} : (modItem n f s).infeed = s.infeed := rfl
@[simp] theorem modItem_grade {n : Nat} {f : DlItem → DlItem} {s : State} : (modItem n f s).grade = s.grade := rfl
@[simp] theorem modItem_ledger {n : Nat} {f : DlItem → DlItem} {s : State} : (modItem n f s).ledger = s.ledger := rfl
@[simp] theorem modItem_tally {n : Nat} {f : DlItem → DlItem} {s : State} : (modItem n f s).tally = s.tally := rfl
@[simp] theorem modItem_ftl {n : Nat} {f : DlItem → DlItem} {s : State} : (modItem n f s).ftl = s.ftl := rfl
@[simp] theorem modItem_memory {n : Nat} {f : DlItem → DlItem} {s : State} : (modItem n f s).memory = s.memory := rfl
@[simp] theorem modItem_keys {n : Nat} {f : DlItem → DlItem} {s : State} : (modItem n f s).keys = s.keys := rfl
@[simp] theorem modItem_radio {n : Nat} {f : DlItem → DlItem} {s : State} : (modItem n f s).radio = s.radio := rfl
@[simp] theorem modItem_plc {n : Nat} {f : DlItem → DlItem} {s : State} : (modItem n f s).plc = s.plc := rfl
@[simp] theorem modItem_legal {n : Nat} {f : DlItem → DlItem} {s : State} : (modItem n f s).legal = s.legal := rfl
@[simp] theorem modItem_disp {n : Nat} {f : DlItem → DlItem} {s : State} : (modItem n f s).disp = s.disp := rfl
@[simp] theorem modItem_ev {n : Nat} {f : DlItem → DlItem} {s : State} : (modItem n f s).ev = s.ev := rfl
@[simp] theorem modItem_ctr {n : Nat} {f : DlItem → DlItem} {s : State} : (modItem n f s).ctr = s.ctr := rfl
@[simp] theorem modItem_pair {n : Nat} {f : DlItem → DlItem} {s : State} : (modItem n f s).pair = s.pair := rfl
@[simp] theorem modItem_pwr {n : Nat} {f : DlItem → DlItem} {s : State} : (modItem n f s).pwr = s.pwr := rfl
@[simp] theorem modItem_out {n : Nat} {f : DlItem → DlItem} {s : State} : (modItem n f s).out = s.out := rfl
@[simp] theorem modItem_free {n : Nat} {f : DlItem → DlItem} {s : State} : (modItem n f s).free = s.free := rfl
@[simp] theorem modItem_pending {n : Nat} {f : DlItem → DlItem} {s : State} : (modItem n f s).pending = s.pending := rfl

@[simp] theorem modCampaign_regs {n : Nat} {f : Camp → Camp} {s : State} : (modCampaign n f s).regs = s.regs := rfl
@[simp] theorem modCampaign_mem {n : Nat} {f : Camp → Camp} {s : State} : (modCampaign n f s).mem = s.mem := rfl
@[simp] theorem modCampaign_beat {n : Nat} {f : Camp → Camp} {s : State} : (modCampaign n f s).beat = s.beat := rfl
@[simp] theorem modCampaign_den {n : Nat} {f : Camp → Camp} {s : State} : (modCampaign n f s).den = s.den := rfl
@[simp] theorem modCampaign_sett {n : Nat} {f : Camp → Camp} {s : State} : (modCampaign n f s).sett = s.sett := rfl
@[simp] theorem modCampaign_cmd {n : Nat} {f : Camp → Camp} {s : State} : (modCampaign n f s).cmd = s.cmd := rfl
@[simp] theorem modCampaign_chain {n : Nat} {f : Camp → Camp} {s : State} : (modCampaign n f s).chain = s.chain := rfl
@[simp] theorem modCampaign_plumb {n : Nat} {f : Camp → Camp} {s : State} : (modCampaign n f s).plumb = s.plumb := rfl
@[simp] theorem modCampaign_batt {n : Nat} {f : Camp → Camp} {s : State} : (modCampaign n f s).batt = s.batt := rfl
@[simp] theorem modCampaign_infeed {n : Nat} {f : Camp → Camp} {s : State} : (modCampaign n f s).infeed = s.infeed := rfl
@[simp] theorem modCampaign_grade {n : Nat} {f : Camp → Camp} {s : State} : (modCampaign n f s).grade = s.grade := rfl
@[simp] theorem modCampaign_ledger {n : Nat} {f : Camp → Camp} {s : State} : (modCampaign n f s).ledger = s.ledger := rfl
@[simp] theorem modCampaign_tally {n : Nat} {f : Camp → Camp} {s : State} : (modCampaign n f s).tally = s.tally := rfl
@[simp] theorem modCampaign_ftl {n : Nat} {f : Camp → Camp} {s : State} : (modCampaign n f s).ftl = s.ftl := rfl
@[simp] theorem modCampaign_memory {n : Nat} {f : Camp → Camp} {s : State} : (modCampaign n f s).memory = s.memory := rfl
@[simp] theorem modCampaign_keys {n : Nat} {f : Camp → Camp} {s : State} : (modCampaign n f s).keys = s.keys := rfl
@[simp] theorem modCampaign_radio {n : Nat} {f : Camp → Camp} {s : State} : (modCampaign n f s).radio = s.radio := rfl
@[simp] theorem modCampaign_plc {n : Nat} {f : Camp → Camp} {s : State} : (modCampaign n f s).plc = s.plc := rfl
@[simp] theorem modCampaign_legal {n : Nat} {f : Camp → Camp} {s : State} : (modCampaign n f s).legal = s.legal := rfl
@[simp] theorem modCampaign_disp {n : Nat} {f : Camp → Camp} {s : State} : (modCampaign n f s).disp = s.disp := rfl
@[simp] theorem modCampaign_ev {n : Nat} {f : Camp → Camp} {s : State} : (modCampaign n f s).ev = s.ev := rfl
@[simp] theorem modCampaign_ctr {n : Nat} {f : Camp → Camp} {s : State} : (modCampaign n f s).ctr = s.ctr := rfl
@[simp] theorem modCampaign_pair {n : Nat} {f : Camp → Camp} {s : State} : (modCampaign n f s).pair = s.pair := rfl
@[simp] theorem modCampaign_pwr {n : Nat} {f : Camp → Camp} {s : State} : (modCampaign n f s).pwr = s.pwr := rfl
@[simp] theorem modCampaign_out {n : Nat} {f : Camp → Camp} {s : State} : (modCampaign n f s).out = s.out := rfl
@[simp] theorem modCampaign_free {n : Nat} {f : Camp → Camp} {s : State} : (modCampaign n f s).free = s.free := rfl
@[simp] theorem modCampaign_pending {n : Nat} {f : Camp → Camp} {s : State} : (modCampaign n f s).pending = s.pending := rfl

@[simp] theorem modPush_regs {n : Nat} {f : Push → Push} {s : State} : (modPush n f s).regs = s.regs := rfl
@[simp] theorem modPush_mem {n : Nat} {f : Push → Push} {s : State} : (modPush n f s).mem = s.mem := rfl
@[simp] theorem modPush_beat {n : Nat} {f : Push → Push} {s : State} : (modPush n f s).beat = s.beat := rfl
@[simp] theorem modPush_den {n : Nat} {f : Push → Push} {s : State} : (modPush n f s).den = s.den := rfl
@[simp] theorem modPush_sett {n : Nat} {f : Push → Push} {s : State} : (modPush n f s).sett = s.sett := rfl
@[simp] theorem modPush_cmd {n : Nat} {f : Push → Push} {s : State} : (modPush n f s).cmd = s.cmd := rfl
@[simp] theorem modPush_chain {n : Nat} {f : Push → Push} {s : State} : (modPush n f s).chain = s.chain := rfl
@[simp] theorem modPush_plumb {n : Nat} {f : Push → Push} {s : State} : (modPush n f s).plumb = s.plumb := rfl
@[simp] theorem modPush_batt {n : Nat} {f : Push → Push} {s : State} : (modPush n f s).batt = s.batt := rfl
@[simp] theorem modPush_infeed {n : Nat} {f : Push → Push} {s : State} : (modPush n f s).infeed = s.infeed := rfl
@[simp] theorem modPush_grade {n : Nat} {f : Push → Push} {s : State} : (modPush n f s).grade = s.grade := rfl
@[simp] theorem modPush_ledger {n : Nat} {f : Push → Push} {s : State} : (modPush n f s).ledger = s.ledger := rfl
@[simp] theorem modPush_tally {n : Nat} {f : Push → Push} {s : State} : (modPush n f s).tally = s.tally := rfl
@[simp] theorem modPush_ftl {n : Nat} {f : Push → Push} {s : State} : (modPush n f s).ftl = s.ftl := rfl
@[simp] theorem modPush_memory {n : Nat} {f : Push → Push} {s : State} : (modPush n f s).memory = s.memory := rfl
@[simp] theorem modPush_keys {n : Nat} {f : Push → Push} {s : State} : (modPush n f s).keys = s.keys := rfl
@[simp] theorem modPush_radio {n : Nat} {f : Push → Push} {s : State} : (modPush n f s).radio = s.radio := rfl
@[simp] theorem modPush_plc {n : Nat} {f : Push → Push} {s : State} : (modPush n f s).plc = s.plc := rfl
@[simp] theorem modPush_legal {n : Nat} {f : Push → Push} {s : State} : (modPush n f s).legal = s.legal := rfl
@[simp] theorem modPush_disp {n : Nat} {f : Push → Push} {s : State} : (modPush n f s).disp = s.disp := rfl
@[simp] theorem modPush_ev {n : Nat} {f : Push → Push} {s : State} : (modPush n f s).ev = s.ev := rfl
@[simp] theorem modPush_ctr {n : Nat} {f : Push → Push} {s : State} : (modPush n f s).ctr = s.ctr := rfl
@[simp] theorem modPush_pair {n : Nat} {f : Push → Push} {s : State} : (modPush n f s).pair = s.pair := rfl
@[simp] theorem modPush_pwr {n : Nat} {f : Push → Push} {s : State} : (modPush n f s).pwr = s.pwr := rfl
@[simp] theorem modPush_out {n : Nat} {f : Push → Push} {s : State} : (modPush n f s).out = s.out := rfl
@[simp] theorem modPush_free {n : Nat} {f : Push → Push} {s : State} : (modPush n f s).free = s.free := rfl
@[simp] theorem modPush_pending {n : Nat} {f : Push → Push} {s : State} : (modPush n f s).pending = s.pending := rfl

@[simp] theorem modComp_regs {n : Nat} {f : FwComp → FwComp} {s : State} : (modComp n f s).regs = s.regs := rfl
@[simp] theorem modComp_mem {n : Nat} {f : FwComp → FwComp} {s : State} : (modComp n f s).mem = s.mem := rfl
@[simp] theorem modComp_beat {n : Nat} {f : FwComp → FwComp} {s : State} : (modComp n f s).beat = s.beat := rfl
@[simp] theorem modComp_den {n : Nat} {f : FwComp → FwComp} {s : State} : (modComp n f s).den = s.den := rfl
@[simp] theorem modComp_sett {n : Nat} {f : FwComp → FwComp} {s : State} : (modComp n f s).sett = s.sett := rfl
@[simp] theorem modComp_cmd {n : Nat} {f : FwComp → FwComp} {s : State} : (modComp n f s).cmd = s.cmd := rfl
@[simp] theorem modComp_chain {n : Nat} {f : FwComp → FwComp} {s : State} : (modComp n f s).chain = s.chain := rfl
@[simp] theorem modComp_plumb {n : Nat} {f : FwComp → FwComp} {s : State} : (modComp n f s).plumb = s.plumb := rfl
@[simp] theorem modComp_batt {n : Nat} {f : FwComp → FwComp} {s : State} : (modComp n f s).batt = s.batt := rfl
@[simp] theorem modComp_infeed {n : Nat} {f : FwComp → FwComp} {s : State} : (modComp n f s).infeed = s.infeed := rfl
@[simp] theorem modComp_grade {n : Nat} {f : FwComp → FwComp} {s : State} : (modComp n f s).grade = s.grade := rfl
@[simp] theorem modComp_ledger {n : Nat} {f : FwComp → FwComp} {s : State} : (modComp n f s).ledger = s.ledger := rfl
@[simp] theorem modComp_tally {n : Nat} {f : FwComp → FwComp} {s : State} : (modComp n f s).tally = s.tally := rfl
@[simp] theorem modComp_ftl {n : Nat} {f : FwComp → FwComp} {s : State} : (modComp n f s).ftl = s.ftl := rfl
@[simp] theorem modComp_memory {n : Nat} {f : FwComp → FwComp} {s : State} : (modComp n f s).memory = s.memory := rfl
@[simp] theorem modComp_keys {n : Nat} {f : FwComp → FwComp} {s : State} : (modComp n f s).keys = s.keys := rfl
@[simp] theorem modComp_radio {n : Nat} {f : FwComp → FwComp} {s : State} : (modComp n f s).radio = s.radio := rfl
@[simp] theorem modComp_plc {n : Nat} {f : FwComp → FwComp} {s : State} : (modComp n f s).plc = s.plc := rfl
@[simp] theorem modComp_legal {n : Nat} {f : FwComp → FwComp} {s : State} : (modComp n f s).legal = s.legal := rfl
@[simp] theorem modComp_disp {n : Nat} {f : FwComp → FwComp} {s : State} : (modComp n f s).disp = s.disp := rfl
@[simp] theorem modComp_ev {n : Nat} {f : FwComp → FwComp} {s : State} : (modComp n f s).ev = s.ev := rfl
@[simp] theorem modComp_ctr {n : Nat} {f : FwComp → FwComp} {s : State} : (modComp n f s).ctr = s.ctr := rfl
@[simp] theorem modComp_pair {n : Nat} {f : FwComp → FwComp} {s : State} : (modComp n f s).pair = s.pair := rfl
@[simp] theorem modComp_pwr {n : Nat} {f : FwComp → FwComp} {s : State} : (modComp n f s).pwr = s.pwr := rfl
@[simp] theorem modComp_out {n : Nat} {f : FwComp → FwComp} {s : State} : (modComp n f s).out = s.out := rfl
@[simp] theorem modComp_free {n : Nat} {f : FwComp → FwComp} {s : State} : (modComp n f s).free = s.free := rfl
@[simp] theorem modComp_pending {n : Nat} {f : FwComp → FwComp} {s : State} : (modComp n f s).pending = s.pending := rfl

@[simp] theorem setFifo_regs {n : Nat} {f : Fifo} {s : State} : (setFifo n f s).regs = s.regs := rfl
@[simp] theorem setFifo_mem {n : Nat} {f : Fifo} {s : State} : (setFifo n f s).mem = s.mem := rfl
@[simp] theorem setFifo_beat {n : Nat} {f : Fifo} {s : State} : (setFifo n f s).beat = s.beat := rfl
@[simp] theorem setFifo_den {n : Nat} {f : Fifo} {s : State} : (setFifo n f s).den = s.den := rfl
@[simp] theorem setFifo_sett {n : Nat} {f : Fifo} {s : State} : (setFifo n f s).sett = s.sett := rfl
@[simp] theorem setFifo_cmd {n : Nat} {f : Fifo} {s : State} : (setFifo n f s).cmd = s.cmd := rfl
@[simp] theorem setFifo_chain {n : Nat} {f : Fifo} {s : State} : (setFifo n f s).chain = s.chain := rfl
@[simp] theorem setFifo_plumb {n : Nat} {f : Fifo} {s : State} : (setFifo n f s).plumb = s.plumb := rfl
@[simp] theorem setFifo_batt {n : Nat} {f : Fifo} {s : State} : (setFifo n f s).batt = s.batt := rfl
@[simp] theorem setFifo_infeed {n : Nat} {f : Fifo} {s : State} : (setFifo n f s).infeed = s.infeed := rfl
@[simp] theorem setFifo_grade {n : Nat} {f : Fifo} {s : State} : (setFifo n f s).grade = s.grade := rfl
@[simp] theorem setFifo_ledger {n : Nat} {f : Fifo} {s : State} : (setFifo n f s).ledger = s.ledger := rfl
@[simp] theorem setFifo_tally {n : Nat} {f : Fifo} {s : State} : (setFifo n f s).tally = s.tally := rfl
@[simp] theorem setFifo_ftl {n : Nat} {f : Fifo} {s : State} : (setFifo n f s).ftl = s.ftl := rfl
@[simp] theorem setFifo_keys {n : Nat} {f : Fifo} {s : State} : (setFifo n f s).keys = s.keys := rfl
@[simp] theorem setFifo_radio {n : Nat} {f : Fifo} {s : State} : (setFifo n f s).radio = s.radio := rfl
@[simp] theorem setFifo_plc {n : Nat} {f : Fifo} {s : State} : (setFifo n f s).plc = s.plc := rfl
@[simp] theorem setFifo_dl {n : Nat} {f : Fifo} {s : State} : (setFifo n f s).dl = s.dl := rfl
@[simp] theorem setFifo_legal {n : Nat} {f : Fifo} {s : State} : (setFifo n f s).legal = s.legal := rfl
@[simp] theorem setFifo_disp {n : Nat} {f : Fifo} {s : State} : (setFifo n f s).disp = s.disp := rfl
@[simp] theorem setFifo_ev {n : Nat} {f : Fifo} {s : State} : (setFifo n f s).ev = s.ev := rfl
@[simp] theorem setFifo_ctr {n : Nat} {f : Fifo} {s : State} : (setFifo n f s).ctr = s.ctr := rfl
@[simp] theorem setFifo_pair {n : Nat} {f : Fifo} {s : State} : (setFifo n f s).pair = s.pair := rfl
@[simp] theorem setFifo_pwr {n : Nat} {f : Fifo} {s : State} : (setFifo n f s).pwr = s.pwr := rfl
@[simp] theorem setFifo_out {n : Nat} {f : Fifo} {s : State} : (setFifo n f s).out = s.out := rfl
@[simp] theorem setFifo_free {n : Nat} {f : Fifo} {s : State} : (setFifo n f s).free = s.free := rfl
@[simp] theorem setFifo_pending {n : Nat} {f : Fifo} {s : State} : (setFifo n f s).pending = s.pending := rfl

@[simp] theorem setStr_regs {n : Nat} {x : Stream} {s : State} : (setStr n x s).regs = s.regs := rfl
@[simp] theorem setStr_mem {n : Nat} {x : Stream} {s : State} : (setStr n x s).mem = s.mem := rfl
@[simp] theorem setStr_beat {n : Nat} {x : Stream} {s : State} : (setStr n x s).beat = s.beat := rfl
@[simp] theorem setStr_den {n : Nat} {x : Stream} {s : State} : (setStr n x s).den = s.den := rfl
@[simp] theorem setStr_sett {n : Nat} {x : Stream} {s : State} : (setStr n x s).sett = s.sett := rfl
@[simp] theorem setStr_cmd {n : Nat} {x : Stream} {s : State} : (setStr n x s).cmd = s.cmd := rfl
@[simp] theorem setStr_chain {n : Nat} {x : Stream} {s : State} : (setStr n x s).chain = s.chain := rfl
@[simp] theorem setStr_plumb {n : Nat} {x : Stream} {s : State} : (setStr n x s).plumb = s.plumb := rfl
@[simp] theorem setStr_batt {n : Nat} {x : Stream} {s : State} : (setStr n x s).batt = s.batt := rfl
@[simp] theorem setStr_infeed {n : Nat} {x : Stream} {s : State} : (setStr n x s).infeed = s.infeed := rfl
@[simp] theorem setStr_grade {n : Nat} {x : Stream} {s : State} : (setStr n x s).grade = s.grade := rfl
@[simp] theorem setStr_ledger {n : Nat} {x : Stream} {s : State} : (setStr n x s).ledger = s.ledger := rfl
@[simp] theorem setStr_tally {n : Nat} {x : Stream} {s : State} : (setStr n x s).tally = s.tally := rfl
@[simp] theorem setStr_ftl {n : Nat} {x : Stream} {s : State} : (setStr n x s).ftl = s.ftl := rfl
@[simp] theorem setStr_keys {n : Nat} {x : Stream} {s : State} : (setStr n x s).keys = s.keys := rfl
@[simp] theorem setStr_radio {n : Nat} {x : Stream} {s : State} : (setStr n x s).radio = s.radio := rfl
@[simp] theorem setStr_plc {n : Nat} {x : Stream} {s : State} : (setStr n x s).plc = s.plc := rfl
@[simp] theorem setStr_dl {n : Nat} {x : Stream} {s : State} : (setStr n x s).dl = s.dl := rfl
@[simp] theorem setStr_legal {n : Nat} {x : Stream} {s : State} : (setStr n x s).legal = s.legal := rfl
@[simp] theorem setStr_disp {n : Nat} {x : Stream} {s : State} : (setStr n x s).disp = s.disp := rfl
@[simp] theorem setStr_ev {n : Nat} {x : Stream} {s : State} : (setStr n x s).ev = s.ev := rfl
@[simp] theorem setStr_ctr {n : Nat} {x : Stream} {s : State} : (setStr n x s).ctr = s.ctr := rfl
@[simp] theorem setStr_pair {n : Nat} {x : Stream} {s : State} : (setStr n x s).pair = s.pair := rfl
@[simp] theorem setStr_pwr {n : Nat} {x : Stream} {s : State} : (setStr n x s).pwr = s.pwr := rfl
@[simp] theorem setStr_out {n : Nat} {x : Stream} {s : State} : (setStr n x s).out = s.out := rfl
@[simp] theorem setStr_free {n : Nat} {x : Stream} {s : State} : (setStr n x s).free = s.free := rfl
@[simp] theorem setStr_pending {n : Nat} {x : Stream} {s : State} : (setStr n x s).pending = s.pending := rfl

@[simp] theorem modGroup_regs {n : Nat} {f : Group → Group} {s : State} : (modGroup n f s).regs = s.regs := rfl
@[simp] theorem modGroup_mem {n : Nat} {f : Group → Group} {s : State} : (modGroup n f s).mem = s.mem := rfl
@[simp] theorem modGroup_beat {n : Nat} {f : Group → Group} {s : State} : (modGroup n f s).beat = s.beat := rfl
@[simp] theorem modGroup_den {n : Nat} {f : Group → Group} {s : State} : (modGroup n f s).den = s.den := rfl
@[simp] theorem modGroup_sett {n : Nat} {f : Group → Group} {s : State} : (modGroup n f s).sett = s.sett := rfl
@[simp] theorem modGroup_cmd {n : Nat} {f : Group → Group} {s : State} : (modGroup n f s).cmd = s.cmd := rfl
@[simp] theorem modGroup_chain {n : Nat} {f : Group → Group} {s : State} : (modGroup n f s).chain = s.chain := rfl
@[simp] theorem modGroup_plumb {n : Nat} {f : Group → Group} {s : State} : (modGroup n f s).plumb = s.plumb := rfl
@[simp] theorem modGroup_batt {n : Nat} {f : Group → Group} {s : State} : (modGroup n f s).batt = s.batt := rfl
@[simp] theorem modGroup_infeed {n : Nat} {f : Group → Group} {s : State} : (modGroup n f s).infeed = s.infeed := rfl
@[simp] theorem modGroup_grade {n : Nat} {f : Group → Group} {s : State} : (modGroup n f s).grade = s.grade := rfl
@[simp] theorem modGroup_tally {n : Nat} {f : Group → Group} {s : State} : (modGroup n f s).tally = s.tally := rfl
@[simp] theorem modGroup_ftl {n : Nat} {f : Group → Group} {s : State} : (modGroup n f s).ftl = s.ftl := rfl
@[simp] theorem modGroup_memory {n : Nat} {f : Group → Group} {s : State} : (modGroup n f s).memory = s.memory := rfl
@[simp] theorem modGroup_keys {n : Nat} {f : Group → Group} {s : State} : (modGroup n f s).keys = s.keys := rfl
@[simp] theorem modGroup_radio {n : Nat} {f : Group → Group} {s : State} : (modGroup n f s).radio = s.radio := rfl
@[simp] theorem modGroup_plc {n : Nat} {f : Group → Group} {s : State} : (modGroup n f s).plc = s.plc := rfl
@[simp] theorem modGroup_dl {n : Nat} {f : Group → Group} {s : State} : (modGroup n f s).dl = s.dl := rfl
@[simp] theorem modGroup_legal {n : Nat} {f : Group → Group} {s : State} : (modGroup n f s).legal = s.legal := rfl
@[simp] theorem modGroup_disp {n : Nat} {f : Group → Group} {s : State} : (modGroup n f s).disp = s.disp := rfl
@[simp] theorem modGroup_ev {n : Nat} {f : Group → Group} {s : State} : (modGroup n f s).ev = s.ev := rfl
@[simp] theorem modGroup_ctr {n : Nat} {f : Group → Group} {s : State} : (modGroup n f s).ctr = s.ctr := rfl
@[simp] theorem modGroup_pair {n : Nat} {f : Group → Group} {s : State} : (modGroup n f s).pair = s.pair := rfl
@[simp] theorem modGroup_pwr {n : Nat} {f : Group → Group} {s : State} : (modGroup n f s).pwr = s.pwr := rfl
@[simp] theorem modGroup_out {n : Nat} {f : Group → Group} {s : State} : (modGroup n f s).out = s.out := rfl
@[simp] theorem modGroup_free {n : Nat} {f : Group → Group} {s : State} : (modGroup n f s).free = s.free := rfl
@[simp] theorem modGroup_pending {n : Nat} {f : Group → Group} {s : State} : (modGroup n f s).pending = s.pending := rfl

@[simp] theorem modCore_regs {f : LegalCore → LegalCore} {s : State} : (modCore f s).regs = s.regs := rfl
@[simp] theorem modCore_mem {f : LegalCore → LegalCore} {s : State} : (modCore f s).mem = s.mem := rfl
@[simp] theorem modCore_beat {f : LegalCore → LegalCore} {s : State} : (modCore f s).beat = s.beat := rfl
@[simp] theorem modCore_den {f : LegalCore → LegalCore} {s : State} : (modCore f s).den = s.den := rfl
@[simp] theorem modCore_sett {f : LegalCore → LegalCore} {s : State} : (modCore f s).sett = s.sett := rfl
@[simp] theorem modCore_cmd {f : LegalCore → LegalCore} {s : State} : (modCore f s).cmd = s.cmd := rfl
@[simp] theorem modCore_chain {f : LegalCore → LegalCore} {s : State} : (modCore f s).chain = s.chain := rfl
@[simp] theorem modCore_plumb {f : LegalCore → LegalCore} {s : State} : (modCore f s).plumb = s.plumb := rfl
@[simp] theorem modCore_batt {f : LegalCore → LegalCore} {s : State} : (modCore f s).batt = s.batt := rfl
@[simp] theorem modCore_infeed {f : LegalCore → LegalCore} {s : State} : (modCore f s).infeed = s.infeed := rfl
@[simp] theorem modCore_grade {f : LegalCore → LegalCore} {s : State} : (modCore f s).grade = s.grade := rfl
@[simp] theorem modCore_ledger {f : LegalCore → LegalCore} {s : State} : (modCore f s).ledger = s.ledger := rfl
@[simp] theorem modCore_tally {f : LegalCore → LegalCore} {s : State} : (modCore f s).tally = s.tally := rfl
@[simp] theorem modCore_ftl {f : LegalCore → LegalCore} {s : State} : (modCore f s).ftl = s.ftl := rfl
@[simp] theorem modCore_memory {f : LegalCore → LegalCore} {s : State} : (modCore f s).memory = s.memory := rfl
@[simp] theorem modCore_keys {f : LegalCore → LegalCore} {s : State} : (modCore f s).keys = s.keys := rfl
@[simp] theorem modCore_radio {f : LegalCore → LegalCore} {s : State} : (modCore f s).radio = s.radio := rfl
@[simp] theorem modCore_plc {f : LegalCore → LegalCore} {s : State} : (modCore f s).plc = s.plc := rfl
@[simp] theorem modCore_dl {f : LegalCore → LegalCore} {s : State} : (modCore f s).dl = s.dl := rfl
@[simp] theorem modCore_disp {f : LegalCore → LegalCore} {s : State} : (modCore f s).disp = s.disp := rfl
@[simp] theorem modCore_ev {f : LegalCore → LegalCore} {s : State} : (modCore f s).ev = s.ev := rfl
@[simp] theorem modCore_ctr {f : LegalCore → LegalCore} {s : State} : (modCore f s).ctr = s.ctr := rfl
@[simp] theorem modCore_pair {f : LegalCore → LegalCore} {s : State} : (modCore f s).pair = s.pair := rfl
@[simp] theorem modCore_pwr {f : LegalCore → LegalCore} {s : State} : (modCore f s).pwr = s.pwr := rfl
@[simp] theorem modCore_out {f : LegalCore → LegalCore} {s : State} : (modCore f s).out = s.out := rfl
@[simp] theorem modCore_free {f : LegalCore → LegalCore} {s : State} : (modCore f s).free = s.free := rfl
@[simp] theorem modCore_pending {f : LegalCore → LegalCore} {s : State} : (modCore f s).pending = s.pending := rfl

@[simp] theorem modMeter_regs {n : Nat} {f : Meter → Meter} {s : State} : (modMeter n f s).regs = s.regs := rfl
@[simp] theorem modMeter_mem {n : Nat} {f : Meter → Meter} {s : State} : (modMeter n f s).mem = s.mem := rfl
@[simp] theorem modMeter_beat {n : Nat} {f : Meter → Meter} {s : State} : (modMeter n f s).beat = s.beat := rfl
@[simp] theorem modMeter_den {n : Nat} {f : Meter → Meter} {s : State} : (modMeter n f s).den = s.den := rfl
@[simp] theorem modMeter_sett {n : Nat} {f : Meter → Meter} {s : State} : (modMeter n f s).sett = s.sett := rfl
@[simp] theorem modMeter_cmd {n : Nat} {f : Meter → Meter} {s : State} : (modMeter n f s).cmd = s.cmd := rfl
@[simp] theorem modMeter_chain {n : Nat} {f : Meter → Meter} {s : State} : (modMeter n f s).chain = s.chain := rfl
@[simp] theorem modMeter_plumb {n : Nat} {f : Meter → Meter} {s : State} : (modMeter n f s).plumb = s.plumb := rfl
@[simp] theorem modMeter_batt {n : Nat} {f : Meter → Meter} {s : State} : (modMeter n f s).batt = s.batt := rfl
@[simp] theorem modMeter_grade {n : Nat} {f : Meter → Meter} {s : State} : (modMeter n f s).grade = s.grade := rfl
@[simp] theorem modMeter_ledger {n : Nat} {f : Meter → Meter} {s : State} : (modMeter n f s).ledger = s.ledger := rfl
@[simp] theorem modMeter_tally {n : Nat} {f : Meter → Meter} {s : State} : (modMeter n f s).tally = s.tally := rfl
@[simp] theorem modMeter_ftl {n : Nat} {f : Meter → Meter} {s : State} : (modMeter n f s).ftl = s.ftl := rfl
@[simp] theorem modMeter_memory {n : Nat} {f : Meter → Meter} {s : State} : (modMeter n f s).memory = s.memory := rfl
@[simp] theorem modMeter_keys {n : Nat} {f : Meter → Meter} {s : State} : (modMeter n f s).keys = s.keys := rfl
@[simp] theorem modMeter_radio {n : Nat} {f : Meter → Meter} {s : State} : (modMeter n f s).radio = s.radio := rfl
@[simp] theorem modMeter_plc {n : Nat} {f : Meter → Meter} {s : State} : (modMeter n f s).plc = s.plc := rfl
@[simp] theorem modMeter_dl {n : Nat} {f : Meter → Meter} {s : State} : (modMeter n f s).dl = s.dl := rfl
@[simp] theorem modMeter_legal {n : Nat} {f : Meter → Meter} {s : State} : (modMeter n f s).legal = s.legal := rfl
@[simp] theorem modMeter_disp {n : Nat} {f : Meter → Meter} {s : State} : (modMeter n f s).disp = s.disp := rfl
@[simp] theorem modMeter_ev {n : Nat} {f : Meter → Meter} {s : State} : (modMeter n f s).ev = s.ev := rfl
@[simp] theorem modMeter_ctr {n : Nat} {f : Meter → Meter} {s : State} : (modMeter n f s).ctr = s.ctr := rfl
@[simp] theorem modMeter_pair {n : Nat} {f : Meter → Meter} {s : State} : (modMeter n f s).pair = s.pair := rfl
@[simp] theorem modMeter_pwr {n : Nat} {f : Meter → Meter} {s : State} : (modMeter n f s).pwr = s.pwr := rfl
@[simp] theorem modMeter_out {n : Nat} {f : Meter → Meter} {s : State} : (modMeter n f s).out = s.out := rfl
@[simp] theorem modMeter_free {n : Nat} {f : Meter → Meter} {s : State} : (modMeter n f s).free = s.free := rfl
@[simp] theorem modMeter_pending {n : Nat} {f : Meter → Meter} {s : State} : (modMeter n f s).pending = s.pending := rfl

@[simp] theorem setPres_regs {m c : Nat} {p : Presence} {s : State} : (setPres m c p s).regs = s.regs := rfl
@[simp] theorem setPres_mem {m c : Nat} {p : Presence} {s : State} : (setPres m c p s).mem = s.mem := rfl
@[simp] theorem setPres_beat {m c : Nat} {p : Presence} {s : State} : (setPres m c p s).beat = s.beat := rfl
@[simp] theorem setPres_den {m c : Nat} {p : Presence} {s : State} : (setPres m c p s).den = s.den := rfl
@[simp] theorem setPres_sett {m c : Nat} {p : Presence} {s : State} : (setPres m c p s).sett = s.sett := rfl
@[simp] theorem setPres_cmd {m c : Nat} {p : Presence} {s : State} : (setPres m c p s).cmd = s.cmd := rfl
@[simp] theorem setPres_chain {m c : Nat} {p : Presence} {s : State} : (setPres m c p s).chain = s.chain := rfl
@[simp] theorem setPres_plumb {m c : Nat} {p : Presence} {s : State} : (setPres m c p s).plumb = s.plumb := rfl
@[simp] theorem setPres_batt {m c : Nat} {p : Presence} {s : State} : (setPres m c p s).batt = s.batt := rfl
@[simp] theorem setPres_grade {m c : Nat} {p : Presence} {s : State} : (setPres m c p s).grade = s.grade := rfl
@[simp] theorem setPres_ledger {m c : Nat} {p : Presence} {s : State} : (setPres m c p s).ledger = s.ledger := rfl
@[simp] theorem setPres_tally {m c : Nat} {p : Presence} {s : State} : (setPres m c p s).tally = s.tally := rfl
@[simp] theorem setPres_ftl {m c : Nat} {p : Presence} {s : State} : (setPres m c p s).ftl = s.ftl := rfl
@[simp] theorem setPres_memory {m c : Nat} {p : Presence} {s : State} : (setPres m c p s).memory = s.memory := rfl
@[simp] theorem setPres_keys {m c : Nat} {p : Presence} {s : State} : (setPres m c p s).keys = s.keys := rfl
@[simp] theorem setPres_radio {m c : Nat} {p : Presence} {s : State} : (setPres m c p s).radio = s.radio := rfl
@[simp] theorem setPres_plc {m c : Nat} {p : Presence} {s : State} : (setPres m c p s).plc = s.plc := rfl
@[simp] theorem setPres_dl {m c : Nat} {p : Presence} {s : State} : (setPres m c p s).dl = s.dl := rfl
@[simp] theorem setPres_legal {m c : Nat} {p : Presence} {s : State} : (setPres m c p s).legal = s.legal := rfl
@[simp] theorem setPres_disp {m c : Nat} {p : Presence} {s : State} : (setPres m c p s).disp = s.disp := rfl
@[simp] theorem setPres_ev {m c : Nat} {p : Presence} {s : State} : (setPres m c p s).ev = s.ev := rfl
@[simp] theorem setPres_ctr {m c : Nat} {p : Presence} {s : State} : (setPres m c p s).ctr = s.ctr := rfl
@[simp] theorem setPres_pair {m c : Nat} {p : Presence} {s : State} : (setPres m c p s).pair = s.pair := rfl
@[simp] theorem setPres_pwr {m c : Nat} {p : Presence} {s : State} : (setPres m c p s).pwr = s.pwr := rfl
@[simp] theorem setPres_out {m c : Nat} {p : Presence} {s : State} : (setPres m c p s).out = s.out := rfl
@[simp] theorem setPres_free {m c : Nat} {p : Presence} {s : State} : (setPres m c p s).free = s.free := rfl
@[simp] theorem setPres_pending {m c : Nat} {p : Presence} {s : State} : (setPres m c p s).pending = s.pending := rfl

@[simp] theorem modFrame_regs {n : Nat} {f : FrameRec → FrameRec} {s : State} : (modFrame n f s).regs = s.regs := rfl
@[simp] theorem modFrame_mem {n : Nat} {f : FrameRec → FrameRec} {s : State} : (modFrame n f s).mem = s.mem := rfl
@[simp] theorem modFrame_beat {n : Nat} {f : FrameRec → FrameRec} {s : State} : (modFrame n f s).beat = s.beat := rfl
@[simp] theorem modFrame_den {n : Nat} {f : FrameRec → FrameRec} {s : State} : (modFrame n f s).den = s.den := rfl
@[simp] theorem modFrame_sett {n : Nat} {f : FrameRec → FrameRec} {s : State} : (modFrame n f s).sett = s.sett := rfl
@[simp] theorem modFrame_cmd {n : Nat} {f : FrameRec → FrameRec} {s : State} : (modFrame n f s).cmd = s.cmd := rfl
@[simp] theorem modFrame_chain {n : Nat} {f : FrameRec → FrameRec} {s : State} : (modFrame n f s).chain = s.chain := rfl
@[simp] theorem modFrame_plumb {n : Nat} {f : FrameRec → FrameRec} {s : State} : (modFrame n f s).plumb = s.plumb := rfl
@[simp] theorem modFrame_batt {n : Nat} {f : FrameRec → FrameRec} {s : State} : (modFrame n f s).batt = s.batt := rfl
@[simp] theorem modFrame_grade {n : Nat} {f : FrameRec → FrameRec} {s : State} : (modFrame n f s).grade = s.grade := rfl
@[simp] theorem modFrame_ledger {n : Nat} {f : FrameRec → FrameRec} {s : State} : (modFrame n f s).ledger = s.ledger := rfl
@[simp] theorem modFrame_tally {n : Nat} {f : FrameRec → FrameRec} {s : State} : (modFrame n f s).tally = s.tally := rfl
@[simp] theorem modFrame_ftl {n : Nat} {f : FrameRec → FrameRec} {s : State} : (modFrame n f s).ftl = s.ftl := rfl
@[simp] theorem modFrame_memory {n : Nat} {f : FrameRec → FrameRec} {s : State} : (modFrame n f s).memory = s.memory := rfl
@[simp] theorem modFrame_keys {n : Nat} {f : FrameRec → FrameRec} {s : State} : (modFrame n f s).keys = s.keys := rfl
@[simp] theorem modFrame_radio {n : Nat} {f : FrameRec → FrameRec} {s : State} : (modFrame n f s).radio = s.radio := rfl
@[simp] theorem modFrame_plc {n : Nat} {f : FrameRec → FrameRec} {s : State} : (modFrame n f s).plc = s.plc := rfl
@[simp] theorem modFrame_dl {n : Nat} {f : FrameRec → FrameRec} {s : State} : (modFrame n f s).dl = s.dl := rfl
@[simp] theorem modFrame_legal {n : Nat} {f : FrameRec → FrameRec} {s : State} : (modFrame n f s).legal = s.legal := rfl
@[simp] theorem modFrame_disp {n : Nat} {f : FrameRec → FrameRec} {s : State} : (modFrame n f s).disp = s.disp := rfl
@[simp] theorem modFrame_ev {n : Nat} {f : FrameRec → FrameRec} {s : State} : (modFrame n f s).ev = s.ev := rfl
@[simp] theorem modFrame_ctr {n : Nat} {f : FrameRec → FrameRec} {s : State} : (modFrame n f s).ctr = s.ctr := rfl
@[simp] theorem modFrame_pair {n : Nat} {f : FrameRec → FrameRec} {s : State} : (modFrame n f s).pair = s.pair := rfl
@[simp] theorem modFrame_pwr {n : Nat} {f : FrameRec → FrameRec} {s : State} : (modFrame n f s).pwr = s.pwr := rfl
@[simp] theorem modFrame_out {n : Nat} {f : FrameRec → FrameRec} {s : State} : (modFrame n f s).out = s.out := rfl
@[simp] theorem modFrame_free {n : Nat} {f : FrameRec → FrameRec} {s : State} : (modFrame n f s).free = s.free := rfl
@[simp] theorem modFrame_pending {n : Nat} {f : FrameRec → FrameRec} {s : State} : (modFrame n f s).pending = s.pending := rfl

@[simp] theorem modBatch_regs {n : Nat} {f : Batch → Batch} {s : State} : (modBatch n f s).regs = s.regs := rfl
@[simp] theorem modBatch_mem {n : Nat} {f : Batch → Batch} {s : State} : (modBatch n f s).mem = s.mem := rfl
@[simp] theorem modBatch_beat {n : Nat} {f : Batch → Batch} {s : State} : (modBatch n f s).beat = s.beat := rfl
@[simp] theorem modBatch_den {n : Nat} {f : Batch → Batch} {s : State} : (modBatch n f s).den = s.den := rfl
@[simp] theorem modBatch_sett {n : Nat} {f : Batch → Batch} {s : State} : (modBatch n f s).sett = s.sett := rfl
@[simp] theorem modBatch_cmd {n : Nat} {f : Batch → Batch} {s : State} : (modBatch n f s).cmd = s.cmd := rfl
@[simp] theorem modBatch_chain {n : Nat} {f : Batch → Batch} {s : State} : (modBatch n f s).chain = s.chain := rfl
@[simp] theorem modBatch_plumb {n : Nat} {f : Batch → Batch} {s : State} : (modBatch n f s).plumb = s.plumb := rfl
@[simp] theorem modBatch_batt {n : Nat} {f : Batch → Batch} {s : State} : (modBatch n f s).batt = s.batt := rfl
@[simp] theorem modBatch_grade {n : Nat} {f : Batch → Batch} {s : State} : (modBatch n f s).grade = s.grade := rfl
@[simp] theorem modBatch_ledger {n : Nat} {f : Batch → Batch} {s : State} : (modBatch n f s).ledger = s.ledger := rfl
@[simp] theorem modBatch_tally {n : Nat} {f : Batch → Batch} {s : State} : (modBatch n f s).tally = s.tally := rfl
@[simp] theorem modBatch_ftl {n : Nat} {f : Batch → Batch} {s : State} : (modBatch n f s).ftl = s.ftl := rfl
@[simp] theorem modBatch_memory {n : Nat} {f : Batch → Batch} {s : State} : (modBatch n f s).memory = s.memory := rfl
@[simp] theorem modBatch_keys {n : Nat} {f : Batch → Batch} {s : State} : (modBatch n f s).keys = s.keys := rfl
@[simp] theorem modBatch_radio {n : Nat} {f : Batch → Batch} {s : State} : (modBatch n f s).radio = s.radio := rfl
@[simp] theorem modBatch_plc {n : Nat} {f : Batch → Batch} {s : State} : (modBatch n f s).plc = s.plc := rfl
@[simp] theorem modBatch_dl {n : Nat} {f : Batch → Batch} {s : State} : (modBatch n f s).dl = s.dl := rfl
@[simp] theorem modBatch_legal {n : Nat} {f : Batch → Batch} {s : State} : (modBatch n f s).legal = s.legal := rfl
@[simp] theorem modBatch_disp {n : Nat} {f : Batch → Batch} {s : State} : (modBatch n f s).disp = s.disp := rfl
@[simp] theorem modBatch_ev {n : Nat} {f : Batch → Batch} {s : State} : (modBatch n f s).ev = s.ev := rfl
@[simp] theorem modBatch_ctr {n : Nat} {f : Batch → Batch} {s : State} : (modBatch n f s).ctr = s.ctr := rfl
@[simp] theorem modBatch_pair {n : Nat} {f : Batch → Batch} {s : State} : (modBatch n f s).pair = s.pair := rfl
@[simp] theorem modBatch_pwr {n : Nat} {f : Batch → Batch} {s : State} : (modBatch n f s).pwr = s.pwr := rfl
@[simp] theorem modBatch_out {n : Nat} {f : Batch → Batch} {s : State} : (modBatch n f s).out = s.out := rfl
@[simp] theorem modBatch_free {n : Nat} {f : Batch → Batch} {s : State} : (modBatch n f s).free = s.free := rfl
@[simp] theorem modBatch_pending {n : Nat} {f : Batch → Batch} {s : State} : (modBatch n f s).pending = s.pending := rfl

@[simp] theorem modNeigh_regs {c e : Nat} {f : Neigh → Neigh} {s : State} : (modNeigh c e f s).regs = s.regs := rfl
@[simp] theorem modNeigh_mem {c e : Nat} {f : Neigh → Neigh} {s : State} : (modNeigh c e f s).mem = s.mem := rfl
@[simp] theorem modNeigh_beat {c e : Nat} {f : Neigh → Neigh} {s : State} : (modNeigh c e f s).beat = s.beat := rfl
@[simp] theorem modNeigh_den {c e : Nat} {f : Neigh → Neigh} {s : State} : (modNeigh c e f s).den = s.den := rfl
@[simp] theorem modNeigh_sett {c e : Nat} {f : Neigh → Neigh} {s : State} : (modNeigh c e f s).sett = s.sett := rfl
@[simp] theorem modNeigh_cmd {c e : Nat} {f : Neigh → Neigh} {s : State} : (modNeigh c e f s).cmd = s.cmd := rfl
@[simp] theorem modNeigh_chain {c e : Nat} {f : Neigh → Neigh} {s : State} : (modNeigh c e f s).chain = s.chain := rfl
@[simp] theorem modNeigh_plumb {c e : Nat} {f : Neigh → Neigh} {s : State} : (modNeigh c e f s).plumb = s.plumb := rfl
@[simp] theorem modNeigh_batt {c e : Nat} {f : Neigh → Neigh} {s : State} : (modNeigh c e f s).batt = s.batt := rfl
@[simp] theorem modNeigh_infeed {c e : Nat} {f : Neigh → Neigh} {s : State} : (modNeigh c e f s).infeed = s.infeed := rfl
@[simp] theorem modNeigh_grade {c e : Nat} {f : Neigh → Neigh} {s : State} : (modNeigh c e f s).grade = s.grade := rfl
@[simp] theorem modNeigh_ledger {c e : Nat} {f : Neigh → Neigh} {s : State} : (modNeigh c e f s).ledger = s.ledger := rfl
@[simp] theorem modNeigh_tally {c e : Nat} {f : Neigh → Neigh} {s : State} : (modNeigh c e f s).tally = s.tally := rfl
@[simp] theorem modNeigh_ftl {c e : Nat} {f : Neigh → Neigh} {s : State} : (modNeigh c e f s).ftl = s.ftl := rfl
@[simp] theorem modNeigh_memory {c e : Nat} {f : Neigh → Neigh} {s : State} : (modNeigh c e f s).memory = s.memory := rfl
@[simp] theorem modNeigh_keys {c e : Nat} {f : Neigh → Neigh} {s : State} : (modNeigh c e f s).keys = s.keys := rfl
@[simp] theorem modNeigh_plc {c e : Nat} {f : Neigh → Neigh} {s : State} : (modNeigh c e f s).plc = s.plc := rfl
@[simp] theorem modNeigh_dl {c e : Nat} {f : Neigh → Neigh} {s : State} : (modNeigh c e f s).dl = s.dl := rfl
@[simp] theorem modNeigh_legal {c e : Nat} {f : Neigh → Neigh} {s : State} : (modNeigh c e f s).legal = s.legal := rfl
@[simp] theorem modNeigh_disp {c e : Nat} {f : Neigh → Neigh} {s : State} : (modNeigh c e f s).disp = s.disp := rfl
@[simp] theorem modNeigh_ev {c e : Nat} {f : Neigh → Neigh} {s : State} : (modNeigh c e f s).ev = s.ev := rfl
@[simp] theorem modNeigh_ctr {c e : Nat} {f : Neigh → Neigh} {s : State} : (modNeigh c e f s).ctr = s.ctr := rfl
@[simp] theorem modNeigh_pair {c e : Nat} {f : Neigh → Neigh} {s : State} : (modNeigh c e f s).pair = s.pair := rfl
@[simp] theorem modNeigh_pwr {c e : Nat} {f : Neigh → Neigh} {s : State} : (modNeigh c e f s).pwr = s.pwr := rfl
@[simp] theorem modNeigh_out {c e : Nat} {f : Neigh → Neigh} {s : State} : (modNeigh c e f s).out = s.out := rfl
@[simp] theorem modNeigh_free {c e : Nat} {f : Neigh → Neigh} {s : State} : (modNeigh c e f s).free = s.free := rfl
@[simp] theorem modNeigh_pending {c e : Nat} {f : Neigh → Neigh} {s : State} : (modNeigh c e f s).pending = s.pending := rfl

@[simp] theorem modSeen_regs {o q : Nat} {f : Seen → Seen} {s : State} : (modSeen o q f s).regs = s.regs := rfl
@[simp] theorem modSeen_mem {o q : Nat} {f : Seen → Seen} {s : State} : (modSeen o q f s).mem = s.mem := rfl
@[simp] theorem modSeen_beat {o q : Nat} {f : Seen → Seen} {s : State} : (modSeen o q f s).beat = s.beat := rfl
@[simp] theorem modSeen_den {o q : Nat} {f : Seen → Seen} {s : State} : (modSeen o q f s).den = s.den := rfl
@[simp] theorem modSeen_sett {o q : Nat} {f : Seen → Seen} {s : State} : (modSeen o q f s).sett = s.sett := rfl
@[simp] theorem modSeen_cmd {o q : Nat} {f : Seen → Seen} {s : State} : (modSeen o q f s).cmd = s.cmd := rfl
@[simp] theorem modSeen_chain {o q : Nat} {f : Seen → Seen} {s : State} : (modSeen o q f s).chain = s.chain := rfl
@[simp] theorem modSeen_plumb {o q : Nat} {f : Seen → Seen} {s : State} : (modSeen o q f s).plumb = s.plumb := rfl
@[simp] theorem modSeen_batt {o q : Nat} {f : Seen → Seen} {s : State} : (modSeen o q f s).batt = s.batt := rfl
@[simp] theorem modSeen_infeed {o q : Nat} {f : Seen → Seen} {s : State} : (modSeen o q f s).infeed = s.infeed := rfl
@[simp] theorem modSeen_grade {o q : Nat} {f : Seen → Seen} {s : State} : (modSeen o q f s).grade = s.grade := rfl
@[simp] theorem modSeen_ledger {o q : Nat} {f : Seen → Seen} {s : State} : (modSeen o q f s).ledger = s.ledger := rfl
@[simp] theorem modSeen_tally {o q : Nat} {f : Seen → Seen} {s : State} : (modSeen o q f s).tally = s.tally := rfl
@[simp] theorem modSeen_ftl {o q : Nat} {f : Seen → Seen} {s : State} : (modSeen o q f s).ftl = s.ftl := rfl
@[simp] theorem modSeen_memory {o q : Nat} {f : Seen → Seen} {s : State} : (modSeen o q f s).memory = s.memory := rfl
@[simp] theorem modSeen_keys {o q : Nat} {f : Seen → Seen} {s : State} : (modSeen o q f s).keys = s.keys := rfl
@[simp] theorem modSeen_plc {o q : Nat} {f : Seen → Seen} {s : State} : (modSeen o q f s).plc = s.plc := rfl
@[simp] theorem modSeen_dl {o q : Nat} {f : Seen → Seen} {s : State} : (modSeen o q f s).dl = s.dl := rfl
@[simp] theorem modSeen_legal {o q : Nat} {f : Seen → Seen} {s : State} : (modSeen o q f s).legal = s.legal := rfl
@[simp] theorem modSeen_disp {o q : Nat} {f : Seen → Seen} {s : State} : (modSeen o q f s).disp = s.disp := rfl
@[simp] theorem modSeen_ev {o q : Nat} {f : Seen → Seen} {s : State} : (modSeen o q f s).ev = s.ev := rfl
@[simp] theorem modSeen_ctr {o q : Nat} {f : Seen → Seen} {s : State} : (modSeen o q f s).ctr = s.ctr := rfl
@[simp] theorem modSeen_pair {o q : Nat} {f : Seen → Seen} {s : State} : (modSeen o q f s).pair = s.pair := rfl
@[simp] theorem modSeen_pwr {o q : Nat} {f : Seen → Seen} {s : State} : (modSeen o q f s).pwr = s.pwr := rfl
@[simp] theorem modSeen_out {o q : Nat} {f : Seen → Seen} {s : State} : (modSeen o q f s).out = s.out := rfl
@[simp] theorem modSeen_free {o q : Nat} {f : Seen → Seen} {s : State} : (modSeen o q f s).free = s.free := rfl
@[simp] theorem modSeen_pending {o q : Nat} {f : Seen → Seen} {s : State} : (modSeen o q f s).pending = s.pending := rfl

@[simp] theorem modCamp_regs {n : Nat} {f : ScribeCamp → ScribeCamp} {s : State} : (modCamp n f s).regs = s.regs := rfl
@[simp] theorem modCamp_mem {n : Nat} {f : ScribeCamp → ScribeCamp} {s : State} : (modCamp n f s).mem = s.mem := rfl
@[simp] theorem modCamp_beat {n : Nat} {f : ScribeCamp → ScribeCamp} {s : State} : (modCamp n f s).beat = s.beat := rfl
@[simp] theorem modCamp_den {n : Nat} {f : ScribeCamp → ScribeCamp} {s : State} : (modCamp n f s).den = s.den := rfl
@[simp] theorem modCamp_sett {n : Nat} {f : ScribeCamp → ScribeCamp} {s : State} : (modCamp n f s).sett = s.sett := rfl
@[simp] theorem modCamp_cmd {n : Nat} {f : ScribeCamp → ScribeCamp} {s : State} : (modCamp n f s).cmd = s.cmd := rfl
@[simp] theorem modCamp_chain {n : Nat} {f : ScribeCamp → ScribeCamp} {s : State} : (modCamp n f s).chain = s.chain := rfl
@[simp] theorem modCamp_plumb {n : Nat} {f : ScribeCamp → ScribeCamp} {s : State} : (modCamp n f s).plumb = s.plumb := rfl
@[simp] theorem modCamp_batt {n : Nat} {f : ScribeCamp → ScribeCamp} {s : State} : (modCamp n f s).batt = s.batt := rfl
@[simp] theorem modCamp_infeed {n : Nat} {f : ScribeCamp → ScribeCamp} {s : State} : (modCamp n f s).infeed = s.infeed := rfl
@[simp] theorem modCamp_grade {n : Nat} {f : ScribeCamp → ScribeCamp} {s : State} : (modCamp n f s).grade = s.grade := rfl
@[simp] theorem modCamp_ledger {n : Nat} {f : ScribeCamp → ScribeCamp} {s : State} : (modCamp n f s).ledger = s.ledger := rfl
@[simp] theorem modCamp_ftl {n : Nat} {f : ScribeCamp → ScribeCamp} {s : State} : (modCamp n f s).ftl = s.ftl := rfl
@[simp] theorem modCamp_memory {n : Nat} {f : ScribeCamp → ScribeCamp} {s : State} : (modCamp n f s).memory = s.memory := rfl
@[simp] theorem modCamp_keys {n : Nat} {f : ScribeCamp → ScribeCamp} {s : State} : (modCamp n f s).keys = s.keys := rfl
@[simp] theorem modCamp_radio {n : Nat} {f : ScribeCamp → ScribeCamp} {s : State} : (modCamp n f s).radio = s.radio := rfl
@[simp] theorem modCamp_plc {n : Nat} {f : ScribeCamp → ScribeCamp} {s : State} : (modCamp n f s).plc = s.plc := rfl
@[simp] theorem modCamp_dl {n : Nat} {f : ScribeCamp → ScribeCamp} {s : State} : (modCamp n f s).dl = s.dl := rfl
@[simp] theorem modCamp_legal {n : Nat} {f : ScribeCamp → ScribeCamp} {s : State} : (modCamp n f s).legal = s.legal := rfl
@[simp] theorem modCamp_disp {n : Nat} {f : ScribeCamp → ScribeCamp} {s : State} : (modCamp n f s).disp = s.disp := rfl
@[simp] theorem modCamp_ev {n : Nat} {f : ScribeCamp → ScribeCamp} {s : State} : (modCamp n f s).ev = s.ev := rfl
@[simp] theorem modCamp_ctr {n : Nat} {f : ScribeCamp → ScribeCamp} {s : State} : (modCamp n f s).ctr = s.ctr := rfl
@[simp] theorem modCamp_pair {n : Nat} {f : ScribeCamp → ScribeCamp} {s : State} : (modCamp n f s).pair = s.pair := rfl
@[simp] theorem modCamp_pwr {n : Nat} {f : ScribeCamp → ScribeCamp} {s : State} : (modCamp n f s).pwr = s.pwr := rfl
@[simp] theorem modCamp_out {n : Nat} {f : ScribeCamp → ScribeCamp} {s : State} : (modCamp n f s).out = s.out := rfl
@[simp] theorem modCamp_free {n : Nat} {f : ScribeCamp → ScribeCamp} {s : State} : (modCamp n f s).free = s.free := rfl
@[simp] theorem modCamp_pending {n : Nat} {f : ScribeCamp → ScribeCamp} {s : State} : (modCamp n f s).pending = s.pending := rfl

@[simp] theorem setGrp_regs {g : Nat} {x : GroupSt} {s : State} : (setGrp g x s).regs = s.regs := rfl
@[simp] theorem setGrp_mem {g : Nat} {x : GroupSt} {s : State} : (setGrp g x s).mem = s.mem := rfl
@[simp] theorem setGrp_beat {g : Nat} {x : GroupSt} {s : State} : (setGrp g x s).beat = s.beat := rfl
@[simp] theorem setGrp_den {g : Nat} {x : GroupSt} {s : State} : (setGrp g x s).den = s.den := rfl
@[simp] theorem setGrp_sett {g : Nat} {x : GroupSt} {s : State} : (setGrp g x s).sett = s.sett := rfl
@[simp] theorem setGrp_cmd {g : Nat} {x : GroupSt} {s : State} : (setGrp g x s).cmd = s.cmd := rfl
@[simp] theorem setGrp_chain {g : Nat} {x : GroupSt} {s : State} : (setGrp g x s).chain = s.chain := rfl
@[simp] theorem setGrp_plumb {g : Nat} {x : GroupSt} {s : State} : (setGrp g x s).plumb = s.plumb := rfl
@[simp] theorem setGrp_batt {g : Nat} {x : GroupSt} {s : State} : (setGrp g x s).batt = s.batt := rfl
@[simp] theorem setGrp_infeed {g : Nat} {x : GroupSt} {s : State} : (setGrp g x s).infeed = s.infeed := rfl
@[simp] theorem setGrp_grade {g : Nat} {x : GroupSt} {s : State} : (setGrp g x s).grade = s.grade := rfl
@[simp] theorem setGrp_ledger {g : Nat} {x : GroupSt} {s : State} : (setGrp g x s).ledger = s.ledger := rfl
@[simp] theorem setGrp_ftl {g : Nat} {x : GroupSt} {s : State} : (setGrp g x s).ftl = s.ftl := rfl
@[simp] theorem setGrp_memory {g : Nat} {x : GroupSt} {s : State} : (setGrp g x s).memory = s.memory := rfl
@[simp] theorem setGrp_keys {g : Nat} {x : GroupSt} {s : State} : (setGrp g x s).keys = s.keys := rfl
@[simp] theorem setGrp_radio {g : Nat} {x : GroupSt} {s : State} : (setGrp g x s).radio = s.radio := rfl
@[simp] theorem setGrp_plc {g : Nat} {x : GroupSt} {s : State} : (setGrp g x s).plc = s.plc := rfl
@[simp] theorem setGrp_dl {g : Nat} {x : GroupSt} {s : State} : (setGrp g x s).dl = s.dl := rfl
@[simp] theorem setGrp_legal {g : Nat} {x : GroupSt} {s : State} : (setGrp g x s).legal = s.legal := rfl
@[simp] theorem setGrp_disp {g : Nat} {x : GroupSt} {s : State} : (setGrp g x s).disp = s.disp := rfl
@[simp] theorem setGrp_ev {g : Nat} {x : GroupSt} {s : State} : (setGrp g x s).ev = s.ev := rfl
@[simp] theorem setGrp_ctr {g : Nat} {x : GroupSt} {s : State} : (setGrp g x s).ctr = s.ctr := rfl
@[simp] theorem setGrp_pair {g : Nat} {x : GroupSt} {s : State} : (setGrp g x s).pair = s.pair := rfl
@[simp] theorem setGrp_pwr {g : Nat} {x : GroupSt} {s : State} : (setGrp g x s).pwr = s.pwr := rfl
@[simp] theorem setGrp_out {g : Nat} {x : GroupSt} {s : State} : (setGrp g x s).out = s.out := rfl
@[simp] theorem setGrp_free {g : Nat} {x : GroupSt} {s : State} : (setGrp g x s).free = s.free := rfl
@[simp] theorem setGrp_pending {g : Nat} {x : GroupSt} {s : State} : (setGrp g x s).pending = s.pending := rfl

@[simp] theorem modPulse_regs {n : Nat} {f : PulseSt → PulseSt} {s : State} : (modPulse n f s).regs = s.regs := rfl
@[simp] theorem modPulse_mem {n : Nat} {f : PulseSt → PulseSt} {s : State} : (modPulse n f s).mem = s.mem := rfl
@[simp] theorem modPulse_beat {n : Nat} {f : PulseSt → PulseSt} {s : State} : (modPulse n f s).beat = s.beat := rfl
@[simp] theorem modPulse_den {n : Nat} {f : PulseSt → PulseSt} {s : State} : (modPulse n f s).den = s.den := rfl
@[simp] theorem modPulse_sett {n : Nat} {f : PulseSt → PulseSt} {s : State} : (modPulse n f s).sett = s.sett := rfl
@[simp] theorem modPulse_cmd {n : Nat} {f : PulseSt → PulseSt} {s : State} : (modPulse n f s).cmd = s.cmd := rfl
@[simp] theorem modPulse_chain {n : Nat} {f : PulseSt → PulseSt} {s : State} : (modPulse n f s).chain = s.chain := rfl
@[simp] theorem modPulse_plumb {n : Nat} {f : PulseSt → PulseSt} {s : State} : (modPulse n f s).plumb = s.plumb := rfl
@[simp] theorem modPulse_batt {n : Nat} {f : PulseSt → PulseSt} {s : State} : (modPulse n f s).batt = s.batt := rfl
@[simp] theorem modPulse_infeed {n : Nat} {f : PulseSt → PulseSt} {s : State} : (modPulse n f s).infeed = s.infeed := rfl
@[simp] theorem modPulse_grade {n : Nat} {f : PulseSt → PulseSt} {s : State} : (modPulse n f s).grade = s.grade := rfl
@[simp] theorem modPulse_ledger {n : Nat} {f : PulseSt → PulseSt} {s : State} : (modPulse n f s).ledger = s.ledger := rfl
@[simp] theorem modPulse_tally {n : Nat} {f : PulseSt → PulseSt} {s : State} : (modPulse n f s).tally = s.tally := rfl
@[simp] theorem modPulse_ftl {n : Nat} {f : PulseSt → PulseSt} {s : State} : (modPulse n f s).ftl = s.ftl := rfl
@[simp] theorem modPulse_memory {n : Nat} {f : PulseSt → PulseSt} {s : State} : (modPulse n f s).memory = s.memory := rfl
@[simp] theorem modPulse_keys {n : Nat} {f : PulseSt → PulseSt} {s : State} : (modPulse n f s).keys = s.keys := rfl
@[simp] theorem modPulse_radio {n : Nat} {f : PulseSt → PulseSt} {s : State} : (modPulse n f s).radio = s.radio := rfl
@[simp] theorem modPulse_plc {n : Nat} {f : PulseSt → PulseSt} {s : State} : (modPulse n f s).plc = s.plc := rfl
@[simp] theorem modPulse_dl {n : Nat} {f : PulseSt → PulseSt} {s : State} : (modPulse n f s).dl = s.dl := rfl
@[simp] theorem modPulse_legal {n : Nat} {f : PulseSt → PulseSt} {s : State} : (modPulse n f s).legal = s.legal := rfl
@[simp] theorem modPulse_ev {n : Nat} {f : PulseSt → PulseSt} {s : State} : (modPulse n f s).ev = s.ev := rfl
@[simp] theorem modPulse_ctr {n : Nat} {f : PulseSt → PulseSt} {s : State} : (modPulse n f s).ctr = s.ctr := rfl
@[simp] theorem modPulse_pair {n : Nat} {f : PulseSt → PulseSt} {s : State} : (modPulse n f s).pair = s.pair := rfl
@[simp] theorem modPulse_pwr {n : Nat} {f : PulseSt → PulseSt} {s : State} : (modPulse n f s).pwr = s.pwr := rfl
@[simp] theorem modPulse_out {n : Nat} {f : PulseSt → PulseSt} {s : State} : (modPulse n f s).out = s.out := rfl
@[simp] theorem modPulse_free {n : Nat} {f : PulseSt → PulseSt} {s : State} : (modPulse n f s).free = s.free := rfl
@[simp] theorem modPulse_pending {n : Nat} {f : PulseSt → PulseSt} {s : State} : (modPulse n f s).pending = s.pending := rfl

@[simp] theorem setLane_regs {n : Nat} {l : Lane} {s : State} : (setLane n l s).regs = s.regs := rfl
@[simp] theorem setLane_mem {n : Nat} {l : Lane} {s : State} : (setLane n l s).mem = s.mem := rfl
@[simp] theorem setLane_beat {n : Nat} {l : Lane} {s : State} : (setLane n l s).beat = s.beat := rfl
@[simp] theorem setLane_den {n : Nat} {l : Lane} {s : State} : (setLane n l s).den = s.den := rfl
@[simp] theorem setLane_sett {n : Nat} {l : Lane} {s : State} : (setLane n l s).sett = s.sett := rfl
@[simp] theorem setLane_cmd {n : Nat} {l : Lane} {s : State} : (setLane n l s).cmd = s.cmd := rfl
@[simp] theorem setLane_chain {n : Nat} {l : Lane} {s : State} : (setLane n l s).chain = s.chain := rfl
@[simp] theorem setLane_plumb {n : Nat} {l : Lane} {s : State} : (setLane n l s).plumb = s.plumb := rfl
@[simp] theorem setLane_batt {n : Nat} {l : Lane} {s : State} : (setLane n l s).batt = s.batt := rfl
@[simp] theorem setLane_infeed {n : Nat} {l : Lane} {s : State} : (setLane n l s).infeed = s.infeed := rfl
@[simp] theorem setLane_grade {n : Nat} {l : Lane} {s : State} : (setLane n l s).grade = s.grade := rfl
@[simp] theorem setLane_ledger {n : Nat} {l : Lane} {s : State} : (setLane n l s).ledger = s.ledger := rfl
@[simp] theorem setLane_tally {n : Nat} {l : Lane} {s : State} : (setLane n l s).tally = s.tally := rfl
@[simp] theorem setLane_ftl {n : Nat} {l : Lane} {s : State} : (setLane n l s).ftl = s.ftl := rfl
@[simp] theorem setLane_memory {n : Nat} {l : Lane} {s : State} : (setLane n l s).memory = s.memory := rfl
@[simp] theorem setLane_radio {n : Nat} {l : Lane} {s : State} : (setLane n l s).radio = s.radio := rfl
@[simp] theorem setLane_plc {n : Nat} {l : Lane} {s : State} : (setLane n l s).plc = s.plc := rfl
@[simp] theorem setLane_dl {n : Nat} {l : Lane} {s : State} : (setLane n l s).dl = s.dl := rfl
@[simp] theorem setLane_legal {n : Nat} {l : Lane} {s : State} : (setLane n l s).legal = s.legal := rfl
@[simp] theorem setLane_disp {n : Nat} {l : Lane} {s : State} : (setLane n l s).disp = s.disp := rfl
@[simp] theorem setLane_ev {n : Nat} {l : Lane} {s : State} : (setLane n l s).ev = s.ev := rfl
@[simp] theorem setLane_ctr {n : Nat} {l : Lane} {s : State} : (setLane n l s).ctr = s.ctr := rfl
@[simp] theorem setLane_pair {n : Nat} {l : Lane} {s : State} : (setLane n l s).pair = s.pair := rfl
@[simp] theorem setLane_pwr {n : Nat} {l : Lane} {s : State} : (setLane n l s).pwr = s.pwr := rfl
@[simp] theorem setLane_out {n : Nat} {l : Lane} {s : State} : (setLane n l s).out = s.out := rfl
@[simp] theorem setLane_free {n : Nat} {l : Lane} {s : State} : (setLane n l s).free = s.free := rfl
@[simp] theorem setLane_pending {n : Nat} {l : Lane} {s : State} : (setLane n l s).pending = s.pending := rfl

@[simp] theorem takeSnapshot_regs {s : State} : (takeSnapshot s).regs = s.regs := rfl
@[simp] theorem takeSnapshot_mem {s : State} : (takeSnapshot s).mem = s.mem := rfl
@[simp] theorem takeSnapshot_beat {s : State} : (takeSnapshot s).beat = s.beat := rfl
@[simp] theorem takeSnapshot_den {s : State} : (takeSnapshot s).den = s.den := rfl
@[simp] theorem takeSnapshot_sett {s : State} : (takeSnapshot s).sett = s.sett := rfl
@[simp] theorem takeSnapshot_cmd {s : State} : (takeSnapshot s).cmd = s.cmd := rfl
@[simp] theorem takeSnapshot_chain {s : State} : (takeSnapshot s).chain = s.chain := rfl
@[simp] theorem takeSnapshot_plumb {s : State} : (takeSnapshot s).plumb = s.plumb := rfl
@[simp] theorem takeSnapshot_batt {s : State} : (takeSnapshot s).batt = s.batt := rfl
@[simp] theorem takeSnapshot_infeed {s : State} : (takeSnapshot s).infeed = s.infeed := rfl
@[simp] theorem takeSnapshot_grade {s : State} : (takeSnapshot s).grade = s.grade := rfl
@[simp] theorem takeSnapshot_ledger {s : State} : (takeSnapshot s).ledger = s.ledger := rfl
@[simp] theorem takeSnapshot_tally {s : State} : (takeSnapshot s).tally = s.tally := rfl
@[simp] theorem takeSnapshot_ftl {s : State} : (takeSnapshot s).ftl = s.ftl := rfl
@[simp] theorem takeSnapshot_memory {s : State} : (takeSnapshot s).memory = s.memory := rfl
@[simp] theorem takeSnapshot_keys {s : State} : (takeSnapshot s).keys = s.keys := rfl
@[simp] theorem takeSnapshot_radio {s : State} : (takeSnapshot s).radio = s.radio := rfl
@[simp] theorem takeSnapshot_plc {s : State} : (takeSnapshot s).plc = s.plc := rfl
@[simp] theorem takeSnapshot_dl {s : State} : (takeSnapshot s).dl = s.dl := rfl
@[simp] theorem takeSnapshot_disp {s : State} : (takeSnapshot s).disp = s.disp := rfl
@[simp] theorem takeSnapshot_ev {s : State} : (takeSnapshot s).ev = s.ev := rfl
@[simp] theorem takeSnapshot_ctr {s : State} : (takeSnapshot s).ctr = s.ctr := rfl
@[simp] theorem takeSnapshot_pair {s : State} : (takeSnapshot s).pair = s.pair := rfl
@[simp] theorem takeSnapshot_pwr {s : State} : (takeSnapshot s).pwr = s.pwr := rfl
@[simp] theorem takeSnapshot_out {s : State} : (takeSnapshot s).out = s.out := rfl
@[simp] theorem takeSnapshot_free {s : State} : (takeSnapshot s).free = s.free := rfl
@[simp] theorem takeSnapshot_pending {s : State} : (takeSnapshot s).pending = s.pending := rfl

@[simp] theorem stopAt_regs {n : Nat} {s : State} : (stopAt n s).regs = s.regs := rfl
@[simp] theorem stopAt_mem {n : Nat} {s : State} : (stopAt n s).mem = s.mem := rfl
@[simp] theorem stopAt_beat {n : Nat} {s : State} : (stopAt n s).beat = s.beat := rfl
@[simp] theorem stopAt_den {n : Nat} {s : State} : (stopAt n s).den = s.den := rfl
@[simp] theorem stopAt_sett {n : Nat} {s : State} : (stopAt n s).sett = s.sett := rfl
@[simp] theorem stopAt_cmd {n : Nat} {s : State} : (stopAt n s).cmd = s.cmd := rfl
@[simp] theorem stopAt_chain {n : Nat} {s : State} : (stopAt n s).chain = s.chain := rfl
@[simp] theorem stopAt_plumb {n : Nat} {s : State} : (stopAt n s).plumb = s.plumb := rfl
@[simp] theorem stopAt_batt {n : Nat} {s : State} : (stopAt n s).batt = s.batt := rfl
@[simp] theorem stopAt_infeed {n : Nat} {s : State} : (stopAt n s).infeed = s.infeed := rfl
@[simp] theorem stopAt_grade {n : Nat} {s : State} : (stopAt n s).grade = s.grade := rfl
@[simp] theorem stopAt_ledger {n : Nat} {s : State} : (stopAt n s).ledger = s.ledger := rfl
@[simp] theorem stopAt_tally {n : Nat} {s : State} : (stopAt n s).tally = s.tally := rfl
@[simp] theorem stopAt_ftl {n : Nat} {s : State} : (stopAt n s).ftl = s.ftl := rfl
@[simp] theorem stopAt_memory {n : Nat} {s : State} : (stopAt n s).memory = s.memory := rfl
@[simp] theorem stopAt_keys {n : Nat} {s : State} : (stopAt n s).keys = s.keys := rfl
@[simp] theorem stopAt_radio {n : Nat} {s : State} : (stopAt n s).radio = s.radio := rfl
@[simp] theorem stopAt_plc {n : Nat} {s : State} : (stopAt n s).plc = s.plc := rfl
@[simp] theorem stopAt_dl {n : Nat} {s : State} : (stopAt n s).dl = s.dl := rfl
@[simp] theorem stopAt_legal {n : Nat} {s : State} : (stopAt n s).legal = s.legal := rfl
@[simp] theorem stopAt_disp {n : Nat} {s : State} : (stopAt n s).disp = s.disp := rfl
@[simp] theorem stopAt_ev {n : Nat} {s : State} : (stopAt n s).ev = s.ev := rfl
@[simp] theorem stopAt_ctr {n : Nat} {s : State} : (stopAt n s).ctr = s.ctr := rfl
@[simp] theorem stopAt_pair {n : Nat} {s : State} : (stopAt n s).pair = s.pair := rfl
@[simp] theorem stopAt_out {n : Nat} {s : State} : (stopAt n s).out = s.out := rfl
@[simp] theorem stopAt_free {n : Nat} {s : State} : (stopAt n s).free = s.free := rfl
@[simp] theorem stopAt_pending {n : Nat} {s : State} : (stopAt n s).pending = s.pending := rfl

@[simp] theorem setPort_regs {p : Port} {x : PortState} {s : State} : (setPort p x s).regs = s.regs := by cases p <;> rfl
@[simp] theorem setPort_mem {p : Port} {x : PortState} {s : State} : (setPort p x s).mem = s.mem := by cases p <;> rfl
@[simp] theorem setPort_beat {p : Port} {x : PortState} {s : State} : (setPort p x s).beat = s.beat := by cases p <;> rfl
@[simp] theorem setPort_den {p : Port} {x : PortState} {s : State} : (setPort p x s).den = s.den := by cases p <;> rfl
@[simp] theorem setPort_sett {p : Port} {x : PortState} {s : State} : (setPort p x s).sett = s.sett := by cases p <;> rfl
@[simp] theorem setPort_cmd {p : Port} {x : PortState} {s : State} : (setPort p x s).cmd = s.cmd := by cases p <;> rfl
@[simp] theorem setPort_plumb {p : Port} {x : PortState} {s : State} : (setPort p x s).plumb = s.plumb := by cases p <;> rfl
@[simp] theorem setPort_batt {p : Port} {x : PortState} {s : State} : (setPort p x s).batt = s.batt := by cases p <;> rfl
@[simp] theorem setPort_infeed {p : Port} {x : PortState} {s : State} : (setPort p x s).infeed = s.infeed := by cases p <;> rfl
@[simp] theorem setPort_grade {p : Port} {x : PortState} {s : State} : (setPort p x s).grade = s.grade := by cases p <;> rfl
@[simp] theorem setPort_ledger {p : Port} {x : PortState} {s : State} : (setPort p x s).ledger = s.ledger := by cases p <;> rfl
@[simp] theorem setPort_tally {p : Port} {x : PortState} {s : State} : (setPort p x s).tally = s.tally := by cases p <;> rfl
@[simp] theorem setPort_ftl {p : Port} {x : PortState} {s : State} : (setPort p x s).ftl = s.ftl := by cases p <;> rfl
@[simp] theorem setPort_memory {p : Port} {x : PortState} {s : State} : (setPort p x s).memory = s.memory := by cases p <;> rfl
@[simp] theorem setPort_keys {p : Port} {x : PortState} {s : State} : (setPort p x s).keys = s.keys := by cases p <;> rfl
@[simp] theorem setPort_radio {p : Port} {x : PortState} {s : State} : (setPort p x s).radio = s.radio := by cases p <;> rfl
@[simp] theorem setPort_plc {p : Port} {x : PortState} {s : State} : (setPort p x s).plc = s.plc := by cases p <;> rfl
@[simp] theorem setPort_dl {p : Port} {x : PortState} {s : State} : (setPort p x s).dl = s.dl := by cases p <;> rfl
@[simp] theorem setPort_legal {p : Port} {x : PortState} {s : State} : (setPort p x s).legal = s.legal := by cases p <;> rfl
@[simp] theorem setPort_disp {p : Port} {x : PortState} {s : State} : (setPort p x s).disp = s.disp := by cases p <;> rfl
@[simp] theorem setPort_ev {p : Port} {x : PortState} {s : State} : (setPort p x s).ev = s.ev := by cases p <;> rfl
@[simp] theorem setPort_ctr {p : Port} {x : PortState} {s : State} : (setPort p x s).ctr = s.ctr := by cases p <;> rfl
@[simp] theorem setPort_pair {p : Port} {x : PortState} {s : State} : (setPort p x s).pair = s.pair := by cases p <;> rfl
@[simp] theorem setPort_pwr {p : Port} {x : PortState} {s : State} : (setPort p x s).pwr = s.pwr := by cases p <;> rfl
@[simp] theorem setPort_out {p : Port} {x : PortState} {s : State} : (setPort p x s).out = s.out := by cases p <;> rfl
@[simp] theorem setPort_free {p : Port} {x : PortState} {s : State} : (setPort p x s).free = s.free := by cases p <;> rfl
@[simp] theorem setPort_pending {p : Port} {x : PortState} {s : State} : (setPort p x s).pending = s.pending := by cases p <;> rfl

end Sys2Proof.Machine
end

