-- ==== Sys2Proof/Laws/Command.lean ====
section
/-! SUPPORT. What the shared driver of host commands does: a command that is served gets its own answer. -/
namespace Sys2Proof.Machine

/-- A command that is served is answered by its own checks and effect. -/
theorem runCmd_served {h : Hdr} {p : List Byte} {acc : Bool} {body : State → Ans} {s : State} (hs : Served h p acc s) :
    runCmd h p acc body s = answer h p (body s) s := by
  obtain ⟨h1, h2, h3⟩ := hs
  cases acc with
  | false => simp [runCmd, h1, h2]
  | true => simp [runCmd, h1, h2, h3 rfl]

/-- A command a state refuses. -/
theorem runCmd_refused {h : Hdr} {p : List Byte} {acc : Bool} {body : State → Ans} {s : State} {st d : Nat}
    (hs : stateGate s h acc = .fail st d) : runCmd h p acc body s = finish h p st d [] s := by
  simp [runCmd, hs]

/-- On a running device that is not held the power state refuses nothing. -/
theorem startGate_running {s : State} {op fn : Nat} {acc : Bool} (h : s.pwr.mode = .run ∨ s.pwr.mode = .trim) :
    startGate s op fn acc = .pass := by
  rcases h with h | h <;> simp [startGate, h]

theorem localCmd_unpaired {s : State} {h : Hdr} (hp : pairState s = 0) : localCmd s h = false := by
  simp [localCmd, hp]

theorem paired_unpaired {s : State} (hp : pairState s = 0) : paired s = false := by
  simp [paired, hp]

/-- A ready device refuses nothing to a command whose subsystem is powered. -/
theorem stateGate_ready {s : State} {h : Hdr} {acc : Bool} (hr : Ready h s) (hp : powerGate s (fnOf h) = .pass) :
    stateGate s h acc = .pass := by
  obtain ⟨hm, hh, hq, hf, hb⟩ := hr
  simp [stateGate, hh, startGate_running hm, hp, localCmd_unpaired hq, paired_unpaired hq, hq, hf, hb]

/-- A control entry posted changes the ledger alone. -/
theorem postEntry_eq {e : Entry} {s : State} : ∃ l, postEntry e s = { s with ledger := l } := by
  unfold postEntry
  split <;> exact ⟨_, rfl⟩

end Sys2Proof.Machine
end

