-- ==== Sys2Proof/Laws/Regs.lean ====
section
/-! SUPPORT. Laws of the canonical lists, of the register fields and of memory bytes: a read after a write, a write to
another place, and that every write keeps the canonical form. -/
namespace Sys2Proof.Machine

/-! Canonical lists. -/

theorem rising_weaken {α : Type} {b : Nat} {l : List (Nat × α)} (h : rising (some b) l = true) :
    rising none l = true := by
  cases l with
  | nil => rfl
  | cons x l => obtain ⟨k, v⟩ := x; simp only [rising, Bool.and_eq_true] at h ⊢; exact h.2

theorem rising_lower {α : Type} {b c : Nat} {l : List (Nat × α)} (hbc : c ≤ b) (h : rising (some b) l = true) :
    rising (some c) l = true := by
  cases l with
  | nil => rfl
  | cons x l =>
    obtain ⟨k, v⟩ := x
    simp only [rising, Bool.and_eq_true, decide_eq_true_eq] at h ⊢
    exact ⟨by omega, h.2⟩

theorem cGet_below {α : Type} {k b : Nat} {l : List (Nat × α)} (hk : k ≤ b) (h : rising (some b) l = true) :
    cGet k l = none := by
  cases l with
  | nil => rfl
  | cons x l =>
    obtain ⟨k', v⟩ := x
    simp only [rising, Bool.and_eq_true, decide_eq_true_eq] at h
    simp only [cGet]
    rw [if_neg (by omega), if_pos (by omega)]

theorem rising_cPut_some {α : Type} [DecidableEq α] {k : Nat} {v d : α} {l : List (Nat × α)} :
    ∀ {b : Nat}, b < k → rising (some b) l = true → rising (some b) (cPut k v d l) = true := by
  induction l with
  | nil => intro b hb _; by_cases hv : v = d <;> simp [cPut, hv, rising, hb]
  | cons x l ih =>
    obtain ⟨k', v'⟩ := x
    intro b hb h
    simp only [rising, Bool.and_eq_true, decide_eq_true_eq] at h
    obtain ⟨h1, h2⟩ := h
    simp only [cPut]
    by_cases h3 : k < k'
    · by_cases hv : v = d <;> simp [h3, hv, rising, hb, h1, h2]
    · by_cases h4 : k = k'
      · subst h4
        by_cases hv : v = d
        · simpa [hv] using rising_lower (by omega) h2
        · simp [hv, rising, hb, h2]
      · simp [h3, h4, rising, h1, ih (b := k') (by omega) h2]

theorem rising_cPut {α : Type} [DecidableEq α] {k : Nat} {v d : α} {l : List (Nat × α)}
    (h : rising none l = true) : rising none (cPut k v d l) = true := by
  cases l with
  | nil => by_cases hv : v = d <;> simp [cPut, hv, rising]
  | cons x l =>
    obtain ⟨k', v'⟩ := x
    simp only [rising] at h
    simp only [cPut]
    by_cases h3 : k < k'
    · by_cases hv : v = d <;> simp [h3, hv, rising, h]
    · by_cases h4 : k = k'
      · subst h4
        by_cases hv : v = d
        · simpa [hv] using rising_weaken h
        · simp [hv, rising, h]
      · have e := rising_cPut_some (v := v) (d := d) (show k' < k by omega) h
        simp [h3, h4, rising, e]

theorem rising_filter_some {α : Type} {p : Nat × α → Bool} {l : List (Nat × α)} :
    ∀ {b : Nat}, rising (some b) l = true → rising (some b) (l.filter p) = true := by
  induction l with
  | nil => intro b _; rfl
  | cons x l ih =>
    obtain ⟨k, v⟩ := x
    intro b h
    simp only [rising, Bool.and_eq_true, decide_eq_true_eq] at h
    by_cases hp : p (k, v) = true
    · simp [List.filter_cons, hp, rising, h.1, ih h.2]
    · simp only [List.filter_cons, hp, if_false, Bool.false_eq_true]
      exact rising_lower (by omega) (ih h.2)

theorem rising_filter {α : Type} {p : Nat × α → Bool} {l : List (Nat × α)} (h : rising none l = true) :
    rising none (l.filter p) = true := by
  cases l with
  | nil => rfl
  | cons x l =>
    obtain ⟨k, v⟩ := x
    simp only [rising] at h
    by_cases hp : p (k, v) = true
    · simp [List.filter_cons, hp, rising, rising_filter_some h]
    · simp only [List.filter_cons, hp, if_false, Bool.false_eq_true]
      exact rising_weaken (rising_filter_some h)

theorem all_cPut {α : Type} [DecidableEq α] {p : Nat × α → Bool} {k : Nat} {v d : α} {l : List (Nat × α)}
    (h : l.all p = true) (hv : v ≠ d → p (k, v) = true) : (cPut k v d l).all p = true := by
  induction l with
  | nil => by_cases hd : v = d <;> simp [cPut, hd]; exact hv hd
  | cons x l ih =>
    obtain ⟨k', v'⟩ := x
    simp only [List.all_cons, Bool.and_eq_true] at h
    simp only [cPut]
    by_cases h3 : k < k'
    · by_cases hd : v = d
      · simp only [h3, hd, if_true, List.all_cons, Bool.and_eq_true]; exact h
      · simp only [h3, hd, if_true, if_false, List.all_cons, Bool.and_eq_true]; exact ⟨hv hd, h⟩
    · by_cases h4 : k = k'
      · by_cases hd : v = d
        · simp only [h3, h4, hd, if_true, if_false]; simpa [h4] using h.2
        · simp only [h3, h4, hd, if_true, if_false]
          subst h4
          simp only [Nat.lt_irrefl, if_false, if_true, List.all_cons, Bool.and_eq_true]; exact ⟨hv hd, h.2⟩
      · simp only [h3, h4, if_false, List.all_cons, Bool.and_eq_true]; exact ⟨h.1, ih h.2⟩

theorem cGet_cPut_self {α : Type} [DecidableEq α] {k : Nat} {v d : α} {l : List (Nat × α)}
    (h : rising none l = true) : cGet k (cPut k v d l) = if v = d then none else some v := by
  induction l with
  | nil => by_cases hd : v = d <;> simp [cPut, cGet, hd]
  | cons x l ih =>
    obtain ⟨k', v'⟩ := x
    simp only [rising] at h
    simp only [cPut]
    by_cases h3 : k < k'
    · by_cases hd : v = d
      · simp [h3, hd, cGet, Nat.ne_of_lt h3]
      · simp [h3, hd, cGet]
    · by_cases h4 : k = k'
      · subst h4
        by_cases hd : v = d
        · simp [hd, cGet_below (Nat.le_refl _) h]
        · simp [hd, cGet]
      · simp [h3, h4, cGet, ih (rising_weaken h)]

theorem cGet_cPut_ne {α : Type} [DecidableEq α] {j k : Nat} {v d : α} {l : List (Nat × α)}
    (hjk : j ≠ k) (h : rising none l = true) : cGet j (cPut k v d l) = cGet j l := by
  induction l with
  | nil => by_cases hd : v = d <;> simp [cPut, cGet, hd, hjk]
  | cons x l ih =>
    obtain ⟨k', v'⟩ := x
    simp only [rising] at h
    simp only [cPut]
    by_cases h3 : k < k'
    · by_cases hd : v = d
      · simp [h3, hd]
      · simp only [h3, hd, if_true, if_false, cGet, hjk]
        by_cases hj : j < k
        · simp [hj, show j < k' by omega, show j ≠ k' by omega]
        · simp [hj]
    · by_cases h4 : k = k'
      · subst h4
        by_cases hd : v = d
        · simp only [Nat.lt_irrefl, hd, if_false, if_true, cGet, hjk]
          by_cases hj : j < k
          · simp [hj, cGet_below (Nat.le_of_lt hj) h]
          · simp [hj]
        · simp [hd, cGet, hjk]
      · simp only [h3, h4, if_false, cGet, ih (rising_weaken h)]

/-! Register fields. -/

/-- A field of the tables: the key of each of its instances names it. -/
def Fld.known (f : Fld) : Prop := f.lo < 2048 ∧ fieldOfKey (fkey f 0) = some f

theorem fieldOfKey_fkey {f : Fld} (h : f.known) (i : Nat) : fieldOfKey (fkey f i) = some f := by
  obtain ⟨hl, hf⟩ := h
  have e : ∀ j, fieldOfKey (fkey f j) = (pageFields f.page).find? (fun g => g.lo == f.lo) := by
    intro j
    have h1 : fkey f j / 2048 / 16 = f.page := by unfold fkey; omega
    have h2 : fkey f j % 2048 = f.lo := by unfold fkey; omega
    simp only [fieldOfKey, h1, h2]
  rw [e i, ← e 0, hf]

theorem wrI_rising {f : Fld} {i v : Nat} {s : State} (h : rising none s.regs = true) :
    rising none (wrI f i v s).regs = true := rising_cPut h

theorem wrI_regsWf {f : Fld} {i v : Nat} {s : State} (hf : f.known) (h : regsWf s.regs = true) :
    regsWf (wrI f i v s).regs = true := by
  simp only [regsWf, Bool.and_eq_true] at h ⊢
  refine ⟨rising_cPut h.1, all_cPut h.2 ?_⟩
  intro hv
  simp [fieldOfKey_fkey hf i, hv]

/-- A field written reads back, cut to its width. -/
theorem rdI_wrI_self {f : Fld} {i v : Nat} {s : State} (h : rising none s.regs = true) :
    rdI (wrI f i v s) f i = v % 2 ^ f.width := by
  simp only [rdI, wrI, cGet_cPut_self h]
  by_cases hd : v % 2 ^ f.width = f.reset <;> simp [hd]

/-- A write to one field leaves every other field. -/
theorem rdI_wrI_ne {f g : Fld} {i j v : Nat} {s : State} (hk : fkey g j ≠ fkey f i) (h : rising none s.regs = true) :
    rdI (wrI f i v s) g j = rdI s g j := by
  simp only [rdI, wrI, cGet_cPut_ne hk h]

/-! Memory. -/

theorem wrMem_wf {a : Nat} {b : Byte} {s : State} (h : Memory.wf s.mem = true) : Memory.wf (wrMem a b s).mem = true := by
  simp only [Memory.wf, Bool.and_eq_true] at h ⊢
  refine ⟨rising_cPut h.1, all_cPut h.2 ?_⟩
  intro hv
  exact bne_iff_ne.mpr hv

theorem rdMem_wrMem_self {a : Nat} {b : Byte} {s : State} (h : Memory.wf s.mem = true) : rdMem (wrMem a b s) a = b := by
  simp only [Memory.wf, Bool.and_eq_true] at h
  simp only [rdMem, wrMem, cGet_cPut_self h.1]
  by_cases hd : b = 0
  · rw [if_pos hd]; exact hd.symm
  · rw [if_neg hd]; rfl

theorem rdMem_wrMem_ne {a c : Nat} {b : Byte} {s : State} (hc : c ≠ a) (h : Memory.wf s.mem = true) :
    rdMem (wrMem a b s) c = rdMem s c := by
  simp only [Memory.wf, Bool.and_eq_true] at h
  simp only [rdMem, wrMem, cGet_cPut_ne hc h.1]

theorem wf_filter {l : List Host.Cell} {p : Host.Cell → Bool} (h : Memory.wf l = true) :
    Memory.wf (l.filter p) = true := by
  simp only [Memory.wf, Bool.and_eq_true] at h ⊢
  refine ⟨rising_filter h.1, List.all_eq_true.mpr ?_⟩
  exact fun x hx => (List.all_eq_true.mp h.2) x (List.mem_filter.mp hx).1

theorem regsWf_filter {l : List (Nat × Nat)} {p : Nat × Nat → Bool} (h : regsWf l = true) :
    regsWf (l.filter p) = true := by
  simp only [regsWf, Bool.and_eq_true] at h ⊢
  refine ⟨rising_filter h.1, List.all_eq_true.mpr ?_⟩
  exact fun x hx => (List.all_eq_true.mp h.2) x (List.mem_filter.mp hx).1

end Sys2Proof.Machine
end

