-- ==== Sys2Proof/Laws/Known.lean ====
section
/-! SUPPORT. Every field is the one its key names. -/
namespace Sys2Proof.Machine

theorem P01.ROLE_known : P01.ROLE.known := ⟨by decide, rfl⟩
theorem P01.RADIO_EN_known : P01.RADIO_EN.known := ⟨by decide, rfl⟩
theorem P01.PLC_EN_known : P01.PLC_EN.known := ⟨by decide, rfl⟩
theorem P01.METRO_EN_known : P01.METRO_EN.known := ⟨by decide, rfl⟩
theorem P01.ROLE_ACTIVE_known : P01.ROLE_ACTIVE.known := ⟨by decide, rfl⟩
theorem P01.REPLY_LIMIT_known : P01.REPLY_LIMIT.known := ⟨by decide, rfl⟩
theorem P01.GAP_LIMIT_known : P01.GAP_LIMIT.known := ⟨by decide, rfl⟩
theorem P01.DRAM_FOUND_known : P01.DRAM_FOUND.known := ⟨by decide, rfl⟩
theorem P02.ETHERTYPE_known : P02.ETHERTYPE.known := ⟨by decide, rfl⟩
theorem P02.CHAIN_ADDR_known : P02.CHAIN_ADDR.known := ⟨by decide, rfl⟩
theorem P02.NEIGHBOUR_U_known : P02.NEIGHBOUR_U.known := ⟨by decide, rfl⟩
theorem P02.NEIGHBOUR_D_known : P02.NEIGHBOUR_D.known := ⟨by decide, rfl⟩
theorem P02.LINK_RTO_known : P02.LINK_RTO.known := ⟨by decide, rfl⟩
theorem P02.LINK_RETRY_MAX_known : P02.LINK_RETRY_MAX.known := ⟨by decide, rfl⟩
theorem P02.LINK_HOLD_known : P02.LINK_HOLD.known := ⟨by decide, rfl⟩
theorem P02.LINK_DEAD_known : P02.LINK_DEAD.known := ⟨by decide, rfl⟩
theorem P02.PROBE_MS_known : P02.PROBE_MS.known := ⟨by decide, rfl⟩
theorem P02.U_UP_known : P02.U_UP.known := ⟨by decide, rfl⟩
theorem P02.D_UP_known : P02.D_UP.known := ⟨by decide, rfl⟩
theorem P03.PTP_DOMAIN_known : P03.PTP_DOMAIN.known := ⟨by decide, rfl⟩
theorem P03.SYNC_LOG_known : P03.SYNC_LOG.known := ⟨by decide, rfl⟩
theorem P03.SERVO_KP_known : P03.SERVO_KP.known := ⟨by decide, rfl⟩
theorem P03.SERVO_KI_known : P03.SERVO_KI.known := ⟨by decide, rfl⟩
theorem P03.LOCK_NS_known : P03.LOCK_NS.known := ⟨by decide, rfl⟩
theorem P03.SYNC_LOSS_known : P03.SYNC_LOSS.known := ⟨by decide, rfl⟩
theorem P03.PLUMB_FREE_known : P03.PLUMB_FREE.known := ⟨by decide, rfl⟩
theorem P03.START_WAIT_known : P03.START_WAIT.known := ⟨by decide, rfl⟩
theorem P03.U_RX_ADJ_known : P03.U_RX_ADJ.known := ⟨by decide, rfl⟩
theorem P03.U_TX_ADJ_known : P03.U_TX_ADJ.known := ⟨by decide, rfl⟩
theorem P03.D_RX_ADJ_known : P03.D_RX_ADJ.known := ⟨by decide, rfl⟩
theorem P03.D_TX_ADJ_known : P03.D_TX_ADJ.known := ⟨by decide, rfl⟩
theorem P03.ADJ_LIMIT_known : P03.ADJ_LIMIT.known := ⟨by decide, rfl⟩
theorem P03.LEGAL_SLEW_known : P03.LEGAL_SLEW.known := ⟨by decide, rfl⟩
theorem P03.SLOT_SLEW_known : P03.SLOT_SLEW.known := ⟨by decide, rfl⟩
theorem P03.PPS_IN_EN_known : P03.PPS_IN_EN.known := ⟨by decide, rfl⟩
theorem P03.PPS_IN_DISC_known : P03.PPS_IN_DISC.known := ⟨by decide, rfl⟩
theorem P03.PPS_OUT_EN_known : P03.PPS_OUT_EN.known := ⟨by decide, rfl⟩
theorem P03.PPS_OUT_LEGAL_known : P03.PPS_OUT_LEGAL.known := ⟨by decide, rfl⟩
theorem P03.PPS_OUT_FREE_known : P03.PPS_OUT_FREE.known := ⟨by decide, rfl⟩
theorem P03.PPS_OUT_WIDTH_known : P03.PPS_OUT_WIDTH.known := ⟨by decide, rfl⟩
theorem P03.PPS_OUT_ADJ_known : P03.PPS_OUT_ADJ.known := ⟨by decide, rfl⟩
theorem P03.PLUMB_STATE_known : P03.PLUMB_STATE.known := ⟨by decide, rfl⟩
theorem P03.BEAT_DETACHED_known : P03.BEAT_DETACHED.known := ⟨by decide, rfl⟩
theorem P03.LEGAL_DIVERGED_known : P03.LEGAL_DIVERGED.known := ⟨by decide, rfl⟩
theorem P03.LEGAL_COMMISSIONED_known : P03.LEGAL_COMMISSIONED.known := ⟨by decide, rfl⟩
theorem P03.LEGAL_INVALID_known : P03.LEGAL_INVALID.known := ⟨by decide, rfl⟩
theorem P03.SLOT_STEPPED_known : P03.SLOT_STEPPED.known := ⟨by decide, rfl⟩
theorem P03.SLOT_DIVERGED_known : P03.SLOT_DIVERGED.known := ⟨by decide, rfl⟩
theorem P03.OFFSET_NS_known : P03.OFFSET_NS.known := ⟨by decide, rfl⟩
theorem P03.PPS_IN_OFFSET_known : P03.PPS_IN_OFFSET.known := ⟨by decide, rfl⟩
theorem P03.RATE_PPB_known : P03.RATE_PPB.known := ⟨by decide, rfl⟩
theorem P04.POWER_CAP_known : P04.POWER_CAP.known := ⟨by decide, rfl⟩
theorem P04.T_KNEE_known : P04.T_KNEE.known := ⟨by decide, rfl⟩
theorem P04.HOLD_C_known : P04.HOLD_C.known := ⟨by decide, rfl⟩
theorem P04.HOLD_VMIN_known : P04.HOLD_VMIN.known := ⟨by decide, rfl⟩
theorem P04.HOLD_DIV_known : P04.HOLD_DIV.known := ⟨by decide, rfl⟩
theorem P04.E_FIXED_known : P04.E_FIXED.known := ⟨by decide, rfl⟩
theorem P04.E_PAGE_known : P04.E_PAGE.known := ⟨by decide, rfl⟩
theorem P04.MARGIN_known : P04.MARGIN.known := ⟨by decide, rfl⟩
theorem P04.MAP_SHARE_known : P04.MAP_SHARE.known := ⟨by decide, rfl⟩
theorem P04.C_MEAS_known : P04.C_MEAS.known := ⟨by decide, rfl⟩
theorem P04.E_HOLD_known : P04.E_HOLD.known := ⟨by decide, rfl⟩
theorem P04.LIMIT_L_known : P04.LIMIT_L.known := ⟨by decide, rfl⟩
theorem P04.LIMIT_M_known : P04.LIMIT_M.known := ⟨by decide, rfl⟩
theorem P04.HOLDUP_MODE_known : P04.HOLDUP_MODE.known := ⟨by decide, rfl⟩
theorem P04.TRIM_THERMAL_known : P04.TRIM_THERMAL.known := ⟨by decide, rfl⟩
theorem P04.TRIM_HOLDUP_known : P04.TRIM_HOLDUP.known := ⟨by decide, rfl⟩
theorem P04.ACCEPT_STOPPED_known : P04.ACCEPT_STOPPED.known := ⟨by decide, rfl⟩
theorem P04.TH_VALID_known : P04.TH_VALID.known := ⟨by decide, rfl⟩
theorem P04.T_HOT_known : P04.T_HOT.known := ⟨by decide, rfl⟩
theorem P04.V_DETECT_known : P04.V_DETECT.known := ⟨by decide, rfl⟩
theorem P10.SLOW_RATE_known : P10.SLOW_RATE.known := ⟨by decide, rfl⟩
theorem P10.SLOW_BURST_known : P10.SLOW_BURST.known := ⟨by decide, rfl⟩
theorem P10.BATCH_HOLD_known : P10.BATCH_HOLD.known := ⟨by decide, rfl⟩
theorem P10.FUTURE_LIMIT_known : P10.FUTURE_LIMIT.known := ⟨by decide, rfl⟩
theorem P10.KEYGEN_OVERLAP_known : P10.KEYGEN_OVERLAP.known := ⟨by decide, rfl⟩
theorem P10.AUTH_FAIL_LIMIT_known : P10.AUTH_FAIL_LIMIT.known := ⟨by decide, rfl⟩
theorem P10.UTC_TAI_known : P10.UTC_TAI.known := ⟨by decide, rfl⟩
theorem P10.DEFAULT_DEVIATION_known : P10.DEFAULT_DEVIATION.known := ⟨by decide, rfl⟩
theorem P10.ALLOW_CLEAR_known : P10.ALLOW_CLEAR.known := ⟨by decide, rfl⟩
theorem P10.DLMS_EN_known : P10.DLMS_EN.known := ⟨by decide, rfl⟩
theorem P10.TEMPLATES_LOADED_known : P10.TEMPLATES_LOADED.known := ⟨by decide, rfl⟩
theorem P10.METERS_ENROLLED_known : P10.METERS_ENROLLED.known := ⟨by decide, rfl⟩
theorem P10.ENROL_LIMIT_known : P10.ENROL_LIMIT.known := ⟨by decide, rfl⟩
theorem P10.SLOW_DROPS_known : P10.SLOW_DROPS.known := ⟨by decide, rfl⟩
theorem P10.AUTH_FAILS_known : P10.AUTH_FAILS.known := ⟨by decide, rfl⟩
theorem P10.REPLAYS_known : P10.REPLAYS.known := ⟨by decide, rfl⟩
theorem P10.DUPS_SUPPRESSED_known : P10.DUPS_SUPPRESSED.known := ⟨by decide, rfl⟩
theorem P10.STALE_SUPPRESSED_known : P10.STALE_SUPPRESSED.known := ⟨by decide, rfl⟩
theorem P10.FUTURE_REFUSED_known : P10.FUTURE_REFUSED.known := ⟨by decide, rfl⟩
theorem P10.UNKNOWN_TITLE_known : P10.UNKNOWN_TITLE.known := ⟨by decide, rfl⟩
theorem P10.DUP_CONFLICTS_known : P10.DUP_CONFLICTS.known := ⟨by decide, rfl⟩
theorem P10.CLEAR_DROPPED_known : P10.CLEAR_DROPPED.known := ⟨by decide, rfl⟩
theorem P11.CLOCK_TOL_known : P11.CLOCK_TOL.known := ⟨by decide, rfl⟩
theorem P11.ALIGN_TOL_known : P11.ALIGN_TOL.known := ⟨by decide, rfl⟩
theorem P11.TAMPER_HOLD_known : P11.TAMPER_HOLD.known := ⟨by decide, rfl⟩
theorem P11.LEGAL_SUSPECT_known : P11.LEGAL_SUSPECT.known := ⟨by decide, rfl⟩
theorem P11.SPIKES_known : P11.SPIKES.known := ⟨by decide, rfl⟩
theorem P11.ROLLOVERS_known : P11.ROLLOVERS.known := ⟨by decide, rfl⟩
theorem P11.NON_MONOTONIC_known : P11.NON_MONOTONIC.known := ⟨by decide, rfl⟩
theorem P11.CLOCK_SUSPECTS_known : P11.CLOCK_SUSPECTS.known := ⟨by decide, rfl⟩
theorem P11.ESTIMATES_known : P11.ESTIMATES.known := ⟨by decide, rfl⟩
theorem P11.GAPS_LEFT_known : P11.GAPS_LEFT.known := ⟨by decide, rfl⟩
theorem P11.OUTAGE_MARKS_known : P11.OUTAGE_MARKS.known := ⟨by decide, rfl⟩
theorem P11.EDITS_known : P11.EDITS.known := ⟨by decide, rfl⟩
theorem P11.REBASES_known : P11.REBASES.known := ⟨by decide, rfl⟩
theorem P12.RETAIN_DAYS_known : P12.RETAIN_DAYS.known := ⟨by decide, rfl⟩
theorem P12.VERIFY_BITS_known : P12.VERIFY_BITS.known := ⟨by decide, rfl⟩
theorem P12.RESERVE_SEGS_known : P12.RESERVE_SEGS.known := ⟨by decide, rfl⟩
theorem P12.READONLY_known : P12.READONLY.known := ⟨by decide, rfl⟩
theorem P12.NO_DIE_PAIR_known : P12.NO_DIE_PAIR.known := ⟨by decide, rfl⟩
theorem P12.SINGLE_COPY_known : P12.SINGLE_COPY.known := ⟨by decide, rfl⟩
theorem P12.WORN_known : P12.WORN.known := ⟨by decide, rfl⟩
theorem P12.STREAMS_OPEN_known : P12.STREAMS_OPEN.known := ⟨by decide, rfl⟩
theorem P12.DIE_PAIRS_known : P12.DIE_PAIRS.known := ⟨by decide, rfl⟩
theorem P12.REREPLICATE_known : P12.REREPLICATE.known := ⟨by decide, rfl⟩
theorem P12.GROUPS_DISCARDED_known : P12.GROUPS_DISCARDED.known := ⟨by decide, rfl⟩
theorem P12.REWRITES_known : P12.REWRITES.known := ⟨by decide, rfl⟩
theorem P12.LAST_GROUP_known : P12.LAST_GROUP.known := ⟨by decide, rfl⟩
theorem P12.NEXT_LSEQ_known : P12.NEXT_LSEQ.known := ⟨by decide, rfl⟩
theorem P13.PERSIST_ON_known : P13.PERSIST_ON.known := ⟨by decide, rfl⟩
theorem P13.PERSIST_WIN_known : P13.PERSIST_WIN.known := ⟨by decide, rfl⟩
theorem P13.PERSIST_OFF_known : P13.PERSIST_OFF.known := ⟨by decide, rfl⟩
theorem P13.RHO_MIN_known : P13.RHO_MIN.known := ⟨by decide, rfl⟩
theorem P13.RHO_GAP_known : P13.RHO_GAP.known := ⟨by decide, rfl⟩
theorem P13.N_MIN_PCT_known : P13.N_MIN_PCT.known := ⟨by decide, rfl⟩
theorem P13.SCRIBE_WAIT_known : P13.SCRIBE_WAIT.known := ⟨by decide, rfl⟩
theorem P13.CLOSE_WAIT_known : P13.CLOSE_WAIT.known := ⟨by decide, rfl⟩
theorem P13.CAMPAIGNS_RUNNING_known : P13.CAMPAIGNS_RUNNING.known := ⟨by decide, rfl⟩
theorem P13.ZC_METRO_known : P13.ZC_METRO.known := ⟨by decide, rfl⟩
theorem P13.INTERVALS_CLOSED_known : P13.INTERVALS_CLOSED.known := ⟨by decide, rfl⟩
theorem P13.NOT_COUNTED_known : P13.NOT_COUNTED.known := ⟨by decide, rfl⟩
theorem P13.LATE_VALUES_known : P13.LATE_VALUES.known := ⟨by decide, rfl⟩
theorem P13.GROUPS_IN_LOSS_known : P13.GROUPS_IN_LOSS.known := ⟨by decide, rfl⟩
theorem P13.GROUPS_NEGATIVE_known : P13.GROUPS_NEGATIVE.known := ⟨by decide, rfl⟩
theorem P13.ANOMALIES_ACTIVE_known : P13.ANOMALIES_ACTIVE.known := ⟨by decide, rfl⟩
theorem P13.METERS_DECIDED_known : P13.METERS_DECIDED.known := ⟨by decide, rfl⟩
theorem P13.METERS_UNDECIDED_known : P13.METERS_UNDECIDED.known := ⟨by decide, rfl⟩
theorem P20.EN_known : P20.EN.known := ⟨by decide, rfl⟩
theorem P20.ROLE_known : P20.ROLE.known := ⟨by decide, rfl⟩
theorem P20.PORT_known : P20.PORT.known := ⟨by decide, rfl⟩
theorem P20.MOD_known : P20.MOD.known := ⟨by decide, rfl⟩
theorem P20.RATE_known : P20.RATE.known := ⟨by decide, rfl⟩
theorem P20.SPACING_known : P20.SPACING.known := ⟨by decide, rfl⟩
theorem P20.CHAN_NUM_known : P20.CHAN_NUM.known := ⟨by decide, rfl⟩
theorem P20.CH0_KHZ_known : P20.CH0_KHZ.known := ⟨by decide, rfl⟩
theorem P20.PAN_ID_known : P20.PAN_ID.known := ⟨by decide, rfl⟩
theorem P20.BO_known : P20.BO.known := ⟨by decide, rfl⟩
theorem P20.SO_known : P20.SO.known := ⟨by decide, rfl⟩
theorem P20.MIN_BE_known : P20.MIN_BE.known := ⟨by decide, rfl⟩
theorem P20.MAX_BE_known : P20.MAX_BE.known := ⟨by decide, rfl⟩
theorem P20.MAX_BACKOFFS_known : P20.MAX_BACKOFFS.known := ⟨by decide, rfl⟩
theorem P20.MAX_RETRIES_known : P20.MAX_RETRIES.known := ⟨by decide, rfl⟩
theorem P20.SEC_LEVEL_known : P20.SEC_LEVEL.known := ⟨by decide, rfl⟩
theorem P20.MAC_KEY_SLOT_known : P20.MAC_KEY_SLOT.known := ⟨by decide, rfl⟩
theorem P20.TX_LEVEL_known : P20.TX_LEVEL.known := ⟨by decide, rfl⟩
theorem P20.HOP_LIMIT_known : P20.HOP_LIMIT.known := ⟨by decide, rfl⟩
theorem P20.SUPPRESS_K_known : P20.SUPPRESS_K.known := ⟨by decide, rfl⟩
theorem P20.RELAY_JITTER_known : P20.RELAY_JITTER.known := ⟨by decide, rfl⟩
theorem P20.SEEN_HOLD_known : P20.SEEN_HOLD.known := ⟨by decide, rfl⟩
theorem P20.RELAY_LIST_known : P20.RELAY_LIST.known := ⟨by decide, rfl⟩
theorem P20.G0_known : P20.G0.known := ⟨by decide, rfl⟩
theorem P20.GMAX_known : P20.GMAX.known := ⟨by decide, rfl⟩
theorem P20.DRIFT_METER_known : P20.DRIFT_METER.known := ⟨by decide, rfl⟩
theorem P20.CELL_MS_known : P20.CELL_MS.known := ⟨by decide, rfl⟩
theorem P20.ORPHAN_HOLD_known : P20.ORPHAN_HOLD.known := ⟨by decide, rfl⟩
theorem P20.ADDR_HOLD_known : P20.ADDR_HOLD.known := ⟨by decide, rfl⟩
theorem P20.ORPHAN_MASK_known : P20.ORPHAN_MASK.known := ⟨by decide, rfl⟩
theorem P20.ORPHAN_BASE_known : P20.ORPHAN_BASE.known := ⟨by decide, rfl⟩
theorem P20.NET_ID_known : P20.NET_ID.known := ⟨by decide, rfl⟩
theorem P20.DEV_EXT_known : P20.DEV_EXT.known := ⟨by decide, rfl⟩
theorem P20.DRIFT_DEV_known : P20.DRIFT_DEV.known := ⟨by decide, rfl⟩
theorem P20.IQ_RATE_known : P20.IQ_RATE.known := ⟨by decide, rfl⟩
theorem P20.PORT_TX_MAX_known : P20.PORT_TX_MAX.known := ⟨by decide, rfl⟩
theorem P20.PORT_KHZ_known : P20.PORT_KHZ.known := ⟨by decide, rfl⟩
theorem P20.STATE_known : P20.STATE.known := ⟨by decide, rfl⟩
theorem P20.DEPTH_known : P20.DEPTH.known := ⟨by decide, rfl⟩
theorem P20.NEIGHBOURS_known : P20.NEIGHBOURS.known := ⟨by decide, rfl⟩
theorem P20.OUT_FC_known : P20.OUT_FC.known := ⟨by decide, rfl⟩
theorem P20.RX_FRAMES_known : P20.RX_FRAMES.known := ⟨by decide, rfl⟩
theorem P20.RX_FCS_ERR_known : P20.RX_FCS_ERR.known := ⟨by decide, rfl⟩
theorem P20.RX_SEC_FAIL_known : P20.RX_SEC_FAIL.known := ⟨by decide, rfl⟩
theorem P20.RX_CUT_known : P20.RX_CUT.known := ⟨by decide, rfl⟩
theorem P20.ACK_WITHHELD_known : P20.ACK_WITHHELD.known := ⟨by decide, rfl⟩
theorem P20.TX_FRAMES_known : P20.TX_FRAMES.known := ⟨by decide, rfl⟩
theorem P20.CCA_FAIL_known : P20.CCA_FAIL.known := ⟨by decide, rfl⟩
theorem P20.RELAYED_known : P20.RELAYED.known := ⟨by decide, rfl⟩
theorem P20.RELAY_SUPPRESSED_known : P20.RELAY_SUPPRESSED.known := ⟨by decide, rfl⟩
theorem P20.SEEN_FULL_known : P20.SEEN_FULL.known := ⟨by decide, rfl⟩
theorem P20.MISSED_SLOTS_known : P20.MISSED_SLOTS.known := ⟨by decide, rfl⟩
theorem P20.ADRIFT_NOW_known : P20.ADRIFT_NOW.known := ⟨by decide, rfl⟩
theorem P20.SLOTS_ASSIGNED_known : P20.SLOTS_ASSIGNED.known := ⟨by decide, rfl⟩
theorem P21.EN_known : P21.EN.known := ⟨by decide, rfl⟩
theorem P21.MAINS_HZ_known : P21.MAINS_HZ.known := ⟨by decide, rfl⟩
theorem P21.BAUD_known : P21.BAUD.known := ⟨by decide, rfl⟩
theorem P21.KEYING_known : P21.KEYING.known := ⟨by decide, rfl⟩
theorem P21.INJ_LEVEL_known : P21.INJ_LEVEL.known := ⟨by decide, rfl⟩
theorem P21.INJ_CEIL_known : P21.INJ_CEIL.known := ⟨by decide, rfl⟩
theorem P21.AFE_VFS_known : P21.AFE_VFS.known := ⟨by decide, rfl⟩
theorem P21.ZLINE_MIN_known : P21.ZLINE_MIN.known := ⟨by decide, rfl⟩
theorem P21.COMMON_MAP_known : P21.COMMON_MAP.known := ⟨by decide, rfl⟩
theorem P21.ZC_ADJ_known : P21.ZC_ADJ.known := ⟨by decide, rfl⟩
theorem P21.ZC_TOL_known : P21.ZC_TOL.known := ⟨by decide, rfl⟩
theorem P21.ZC_WINDOW_known : P21.ZC_WINDOW.known := ⟨by decide, rfl⟩
theorem P21.ZC_FLY_known : P21.ZC_FLY.known := ⟨by decide, rfl⟩
theorem P21.ZC_DEGLITCH_known : P21.ZC_DEGLITCH.known := ⟨by decide, rfl⟩
theorem P21.TM_PERIOD_known : P21.TM_PERIOD.known := ⟨by decide, rfl⟩
theorem P21.TM_SNR_known : P21.TM_SNR.known := ⟨by decide, rfl⟩
theorem P21.TM_BLANK_HOLD_known : P21.TM_BLANK_HOLD.known := ⟨by decide, rfl⟩
theorem P21.IMPULSE_DB_known : P21.IMPULSE_DB.known := ⟨by decide, rfl⟩
theorem P21.CS_DB_known : P21.CS_DB.known := ⟨by decide, rfl⟩
theorem P21.MIN_BE_known : P21.MIN_BE.known := ⟨by decide, rfl⟩
theorem P21.MAX_BE_known : P21.MAX_BE.known := ⟨by decide, rfl⟩
theorem P21.LINK_RETRIES_known : P21.LINK_RETRIES.known := ⟨by decide, rfl⟩
theorem P21.TRIP_LIMIT_known : P21.TRIP_LIMIT.known := ⟨by decide, rfl⟩
theorem P21.TRIP_BACKOFF_known : P21.TRIP_BACKOFF.known := ⟨by decide, rfl⟩
theorem P21.ADV_PERIOD_known : P21.ADV_PERIOD.known := ⟨by decide, rfl⟩
theorem P21.REG_PERIOD_known : P21.REG_PERIOD.known := ⟨by decide, rfl⟩
theorem P21.ROUTE_HYST_known : P21.ROUTE_HYST.known := ⟨by decide, rfl⟩
theorem P21.ROUTE_HOLD_known : P21.ROUTE_HOLD.known := ⟨by decide, rfl⟩
theorem P21.ROUTE_AGE_known : P21.ROUTE_AGE.known := ⟨by decide, rfl⟩
theorem P21.COST_HOP_known : P21.COST_HOP.known := ⟨by decide, rfl⟩
theorem P21.ADDR_HOLD_known : P21.ADDR_HOLD.known := ⟨by decide, rfl⟩
theorem P21.PLC_KEY_SLOT_known : P21.PLC_KEY_SLOT.known := ⟨by decide, rfl⟩
theorem P21.OUT_FC_known : P21.OUT_FC.known := ⟨by decide, rfl⟩
theorem P21.MAINS_PERIOD_known : P21.MAINS_PERIOD.known := ⟨by decide, rfl⟩
theorem P21.METERS_JOINED_known : P21.METERS_JOINED.known := ⟨by decide, rfl⟩
theorem P21.STATE_known : P21.STATE.known := ⟨by decide, rfl⟩
theorem P21.RX_FRAMES_known : P21.RX_FRAMES.known := ⟨by decide, rfl⟩
theorem P21.RX_RECOVERED_known : P21.RX_RECOVERED.known := ⟨by decide, rfl⟩
theorem P21.RX_CRC_FAIL_known : P21.RX_CRC_FAIL.known := ⟨by decide, rfl⟩
theorem P21.RX_MISALIGNED_known : P21.RX_MISALIGNED.known := ⟨by decide, rfl⟩
theorem P21.ACK_WITHHELD_known : P21.ACK_WITHHELD.known := ⟨by decide, rfl⟩
theorem P21.TX_FRAMES_known : P21.TX_FRAMES.known := ⟨by decide, rfl⟩
theorem P21.TX_ABORTS_known : P21.TX_ABORTS.known := ⟨by decide, rfl⟩
theorem P21.INJ_CEIL_HITS_known : P21.INJ_CEIL_HITS.known := ⟨by decide, rfl⟩
theorem P21.ZC_FLYWHEEL_known : P21.ZC_FLYWHEEL.known := ⟨by decide, rfl⟩
theorem P21.LINK_FAILS_known : P21.LINK_FAILS.known := ⟨by decide, rfl⟩
theorem P21.ROUTE_ERRS_known : P21.ROUTE_ERRS.known := ⟨by decide, rfl⟩
theorem P21.BLANKS_PROPOSED_known : P21.BLANKS_PROPOSED.known := ⟨by decide, rfl⟩
theorem P30.PROFILE_PERIOD_known : P30.PROFILE_PERIOD.known := ⟨by decide, rfl⟩
theorem P30.DEMAND_METHOD_known : P30.DEMAND_METHOD.known := ⟨by decide, rfl⟩
theorem P30.DEMAND_PERIOD_known : P30.DEMAND_PERIOD.known := ⟨by decide, rfl⟩
theorem P30.DEMAND_SUBS_known : P30.DEMAND_SUBS.known := ⟨by decide, rfl⟩
theorem P30.SEAL_CAL_known : P30.SEAL_CAL.known := ⟨by decide, rfl⟩
theorem P30.VFS_MV_known : P30.VFS_MV.known := ⟨by decide, rfl⟩
theorem P30.IFS_MA_known : P30.IFS_MA.known := ⟨by decide, rfl⟩
theorem P30.INFS_MA_known : P30.INFS_MA.known := ⟨by decide, rfl⟩
theorem P30.P_CREEP_known : P30.P_CREEP.known := ⟨by decide, rfl⟩
theorem P30.CAL_CRC_known : P30.CAL_CRC.known := ⟨by decide, rfl⟩
theorem P30.CAL_COUNT_known : P30.CAL_COUNT.known := ⟨by decide, rfl⟩
theorem P30.LOG_NEXT_known : P30.LOG_NEXT.known := ⟨by decide, rfl⟩
theorem P30.LOG_OVERWRITTEN_known : P30.LOG_OVERWRITTEN.known := ⟨by decide, rfl⟩
theorem P30.AUTH_COUNT_known : P30.AUTH_COUNT.known := ⟨by decide, rfl⟩
theorem P30.SEAL_STATE_known : P30.SEAL_STATE.known := ⟨by decide, rfl⟩
theorem P30.METRO_RUN_known : P30.METRO_RUN.known := ⟨by decide, rfl⟩
theorem P30.LEGAL_KEY_SET_known : P30.LEGAL_KEY_SET.known := ⟨by decide, rfl⟩
theorem P30.LEGAL_KEY_known : P30.LEGAL_KEY.known := ⟨by decide, rfl⟩
theorem P31.DEFAULT_RATE_known : P31.DEFAULT_RATE.known := ⟨by decide, rfl⟩
theorem P31.CLOSE_DAY_known : P31.CLOSE_DAY.known := ⟨by decide, rfl⟩
theorem P31.CLOSE_HOUR_known : P31.CLOSE_HOUR.known := ⟨by decide, rfl⟩
theorem P31.CLOSE_MIN_known : P31.CLOSE_MIN.known := ⟨by decide, rfl⟩
theorem P31.TZ_MIN_known : P31.TZ_MIN.known := ⟨by decide, rfl⟩
theorem P31.DST_DELTA_known : P31.DST_DELTA.known := ⟨by decide, rfl⟩
theorem P31.DST_START_MONTH_known : P31.DST_START_MONTH.known := ⟨by decide, rfl⟩
theorem P31.DST_START_WEEK_known : P31.DST_START_WEEK.known := ⟨by decide, rfl⟩
theorem P31.DST_START_DAY_known : P31.DST_START_DAY.known := ⟨by decide, rfl⟩
theorem P31.DST_START_HOUR_known : P31.DST_START_HOUR.known := ⟨by decide, rfl⟩
theorem P31.DST_END_MONTH_known : P31.DST_END_MONTH.known := ⟨by decide, rfl⟩
theorem P31.DST_END_WEEK_known : P31.DST_END_WEEK.known := ⟨by decide, rfl⟩
theorem P31.DST_END_DAY_known : P31.DST_END_DAY.known := ⟨by decide, rfl⟩
theorem P31.DST_END_HOUR_known : P31.DST_END_HOUR.known := ⟨by decide, rfl⟩
theorem P31.ACTIVE_CAL_ID_known : P31.ACTIVE_CAL_ID.known := ⟨by decide, rfl⟩
theorem P31.PASSIVE_CAL_ID_known : P31.PASSIVE_CAL_ID.known := ⟨by decide, rfl⟩
theorem P31.PENDING_AT_known : P31.PENDING_AT.known := ⟨by decide, rfl⟩
theorem P31.LAST_SCHED_AT_known : P31.LAST_SCHED_AT.known := ⟨by decide, rfl⟩
theorem P31.CLOSURES_known : P31.CLOSURES.known := ⟨by decide, rfl⟩
theorem P31.RATE_NOW_known : P31.RATE_NOW.known := ⟨by decide, rfl⟩
theorem P31.DST_ON_known : P31.DST_ON.known := ⟨by decide, rfl⟩
theorem P31.CAL_WAITING_known : P31.CAL_WAITING.known := ⟨by decide, rfl⟩
theorem P31.PATTERN_NOW_known : P31.PATTERN_NOW.known := ⟨by decide, rfl⟩
theorem P32.DISP_EN_known : P32.DISP_EN.known := ⟨by decide, rfl⟩
theorem P32.DISP_ADDR_known : P32.DISP_ADDR.known := ⟨by decide, rfl⟩
theorem P32.SCROLL_S_known : P32.SCROLL_S.known := ⟨by decide, rfl⟩
theorem P32.DISP_TIMEOUT_known : P32.DISP_TIMEOUT.known := ⟨by decide, rfl⟩
theorem P32.OUT_MODE_known : P32.OUT_MODE.known := ⟨by decide, rfl⟩
theorem P32.OUT_CMD_known : P32.OUT_CMD.known := ⟨by decide, rfl⟩
theorem P32.OUT_STATE_known : P32.OUT_STATE.known := ⟨by decide, rfl⟩
theorem P32.PULSE_IMP_KWH_known : P32.PULSE_IMP_KWH.known := ⟨by decide, rfl⟩
theorem P32.PULSE_MS_known : P32.PULSE_MS.known := ⟨by decide, rfl⟩
theorem P32.AUTO_COUNT_known : P32.AUTO_COUNT.known := ⟨by decide, rfl⟩
theorem P32.BUTTON_COUNT_known : P32.BUTTON_COUNT.known := ⟨by decide, rfl⟩
theorem P32.DISP_ERRS_known : P32.DISP_ERRS.known := ⟨by decide, rfl⟩
theorem P40.PLAIN_IMPORT_known : P40.PLAIN_IMPORT.known := ⟨by decide, rfl⟩
theorem P40.STORE_LOST_known : P40.STORE_LOST.known := ⟨by decide, rfl⟩
theorem P40.DEBUG_ACTIVE_known : P40.DEBUG_ACTIVE.known := ⟨by decide, rfl⟩
theorem P40.ENTROPY_OK_known : P40.ENTROPY_OK.known := ⟨by decide, rfl⟩
theorem P40.TAMPER_SEEN_known : P40.TAMPER_SEEN.known := ⟨by decide, rfl⟩
theorem P40.SLOTS_LOADED_known : P40.SLOTS_LOADED.known := ⟨by decide, rfl⟩
theorem P40.SLOTS_PERSISTED_known : P40.SLOTS_PERSISTED.known := ⟨by decide, rfl⟩
theorem P40.ZEROISATIONS_known : P40.ZEROISATIONS.known := ⟨by decide, rfl⟩
theorem P40.LANE_JOBS_known : P40.LANE_JOBS.known := ⟨by decide, rfl⟩
theorem P40.PREEMPTIONS_known : P40.PREEMPTIONS.known := ⟨by decide, rfl⟩
theorem P40.AUTH_FAIL_JOBS_known : P40.AUTH_FAIL_JOBS.known := ⟨by decide, rfl⟩
theorem P41.GC_START_known : P41.GC_START.known := ⟨by decide, rfl⟩
theorem P41.GC_LOW_known : P41.GC_LOW.known := ⟨by decide, rfl⟩
theorem P41.REFRESH_BITS_known : P41.REFRESH_BITS.known := ⟨by decide, rfl⟩
theorem P41.WL_SPREAD_known : P41.WL_SPREAD.known := ⟨by decide, rfl⟩
theorem P41.SNAP_PAGES_known : P41.SNAP_PAGES.known := ⟨by decide, rfl⟩
theorem P41.JOURNAL_MS_known : P41.JOURNAL_MS.known := ⟨by decide, rfl⟩
theorem P41.PATROL_DAYS_known : P41.PATROL_DAYS.known := ⟨by decide, rfl⟩
theorem P41.DIE_FAIL_PCT_known : P41.DIE_FAIL_PCT.known := ⟨by decide, rfl⟩
theorem P41.ENDURANCE_known : P41.ENDURANCE.known := ⟨by decide, rfl⟩
theorem P41.FORMATTED_known : P41.FORMATTED.known := ⟨by decide, rfl⟩
theorem P41.WORN_known : P41.WORN.known := ⟨by decide, rfl⟩
theorem P41.MAP_SINGLE_known : P41.MAP_SINGLE.known := ⟨by decide, rfl⟩
theorem P41.REPLAY_REPAIRED_known : P41.REPLAY_REPAIRED.known := ⟨by decide, rfl⟩
theorem P41.MAP_PENDING_known : P41.MAP_PENDING.known := ⟨by decide, rfl⟩
theorem P41.ERASE_MIN_known : P41.ERASE_MIN.known := ⟨by decide, rfl⟩
theorem P41.ERASE_MAX_known : P41.ERASE_MAX.known := ⟨by decide, rfl⟩
theorem P41.GROWN_BAD_known : P41.GROWN_BAD.known := ⟨by decide, rfl⟩
theorem P41.GC_COPIES_known : P41.GC_COPIES.known := ⟨by decide, rfl⟩
theorem P41.WL_MOVES_known : P41.WL_MOVES.known := ⟨by decide, rfl⟩
theorem P41.REFRESHES_known : P41.REFRESHES.known := ⟨by decide, rfl⟩
theorem P41.UNCORR_RECOVERED_known : P41.UNCORR_RECOVERED.known := ⟨by decide, rfl⟩
theorem P41.LOST_COPIES_known : P41.LOST_COPIES.known := ⟨by decide, rfl⟩
theorem P42.SCRUB_HOURS_known : P42.SCRUB_HOURS.known := ⟨by decide, rfl⟩
theorem P42.CE_EVENT_LIMIT_known : P42.CE_EVENT_LIMIT.known := ⟨by decide, rfl⟩
theorem P42.SRAM_SCRUB_MS_known : P42.SRAM_SCRUB_MS.known := ⟨by decide, rfl⟩
theorem P42.CH0_GIB_known : P42.CH0_GIB.known := ⟨by decide, rfl⟩
theorem P42.CH1_GIB_known : P42.CH1_GIB.known := ⟨by decide, rfl⟩
theorem P42.RETIRED_PAGES_known : P42.RETIRED_PAGES.known := ⟨by decide, rfl⟩
theorem P42.UE_COUNT_known : P42.UE_COUNT.known := ⟨by decide, rfl⟩
theorem P42.DRAM_CE_0_known : P42.DRAM_CE_0.known := ⟨by decide, rfl⟩
theorem P42.DRAM_CE_1_known : P42.DRAM_CE_1.known := ⟨by decide, rfl⟩
theorem P42.SRAM_CE_known : P42.SRAM_CE.known := ⟨by decide, rfl⟩
theorem P42.LAST_UE_ADDR_known : P42.LAST_UE_ADDR.known := ⟨by decide, rfl⟩
theorem P43.DESC_12_known : P43.DESC_12.known := ⟨by decide, rfl⟩
theorem P43.DESC_13_known : P43.DESC_13.known := ⟨by decide, rfl⟩
theorem P43.DESC_14_known : P43.DESC_14.known := ⟨by decide, rfl⟩
theorem P43.DESC_15_known : P43.DESC_15.known := ⟨by decide, rfl⟩
theorem P43.CQ_SEQ_known : P43.CQ_SEQ.known := ⟨by decide, rfl⟩
theorem P43.RUNS_DONE_known : P43.RUNS_DONE.known := ⟨by decide, rfl⟩
theorem P43.CHAN_BUSY_known : P43.CHAN_BUSY.known := ⟨by decide, rfl⟩
theorem P43.RUNNING_known : P43.RUNNING.known := ⟨by decide, rfl⟩
theorem P44.STALL_BEATS_known : P44.STALL_BEATS.known := ⟨by decide, rfl⟩
theorem P44.NOTICE_WORDS_known : P44.NOTICE_WORDS.known := ⟨by decide, rfl⟩
theorem P44.STATE_known : P44.STATE.known := ⟨by decide, rfl⟩
theorem P44.PKT_NEXT_known : P44.PKT_NEXT.known := ⟨by decide, rfl⟩
theorem P44.WORDS_IN_known : P44.WORDS_IN.known := ⟨by decide, rfl⟩
theorem P44.CREDIT_END_known : P44.CREDIT_END.known := ⟨by decide, rfl⟩
theorem P44.DONE_THRU_known : P44.DONE_THRU.known := ⟨by decide, rfl⟩
theorem P44.LAST_DROPPED_known : P44.LAST_DROPPED.known := ⟨by decide, rfl⟩
theorem P44.DROP_FROM_known : P44.DROP_FROM.known := ⟨by decide, rfl⟩
theorem P44.DROPPED_known : P44.DROPPED.known := ⟨by decide, rfl⟩
theorem P44.OVERRUN_known : P44.OVERRUN.known := ⟨by decide, rfl⟩
theorem P44.DISCARDED_known : P44.DISCARDED.known := ⟨by decide, rfl⟩
theorem P50.DIGEST_WAIT_known : P50.DIGEST_WAIT.known := ⟨by decide, rfl⟩
theorem P50.JOIN_LIMIT_known : P50.JOIN_LIMIT.known := ⟨by decide, rfl⟩
theorem P50.PAIR_PORT_D_known : P50.PAIR_PORT_D.known := ⟨by decide, rfl⟩
theorem P50.PAIR_STATE_known : P50.PAIR_STATE.known := ⟨by decide, rfl⟩
theorem P50.PARTNER_ADDR_known : P50.PARTNER_ADDR.known := ⟨by decide, rfl⟩
theorem P50.PAIR_ID_known : P50.PAIR_ID.known := ⟨by decide, rfl⟩
theorem P50.LOCKSTEP_MISMATCHES_known : P50.LOCKSTEP_MISMATCHES.known := ⟨by decide, rfl⟩
theorem P50.LATE_FRAMES_known : P50.LATE_FRAMES.known := ⟨by decide, rfl⟩
theorem P50.MISMATCHES_known : P50.MISMATCHES.known := ⟨by decide, rfl⟩
theorem P50.DIVERGED_BEAT_known : P50.DIVERGED_BEAT.known := ⟨by decide, rfl⟩
theorem P50.LAST_RELEASED_known : P50.LAST_RELEASED.known := ⟨by decide, rfl⟩
theorem P51.NOTICE_SEV_MIN_known : P51.NOTICE_SEV_MIN.known := ⟨by decide, rfl⟩
theorem P51.EVENT_FLUSH_MS_known : P51.EVENT_FLUSH_MS.known := ⟨by decide, rfl⟩
theorem P51.NOTICE_CODES_known : P51.NOTICE_CODES.known := ⟨by decide, rfl⟩
theorem P51.POWER_CYCLES_known : P51.POWER_CYCLES.known := ⟨by decide, rfl⟩
theorem P51.OP_HOURS_known : P51.OP_HOURS.known := ⟨by decide, rfl⟩
theorem P51.CACHE_PENDING_known : P51.CACHE_PENDING.known := ⟨by decide, rfl⟩
theorem P51.OLDEST_SEQ_known : P51.OLDEST_SEQ.known := ⟨by decide, rfl⟩
theorem P51.NEXT_SEQ_known : P51.NEXT_SEQ.known := ⟨by decide, rfl⟩
theorem P51.EVENTS_LOST_known : P51.EVENTS_LOST.known := ⟨by decide, rfl⟩
theorem P52.CYCLES_known : P52.CYCLES.known := ⟨by decide, rfl⟩
theorem P52.PC_0_known : P52.PC_0.known := ⟨by decide, rfl⟩
theorem P52.PC_1_known : P52.PC_1.known := ⟨by decide, rfl⟩
theorem P52.PC_2_known : P52.PC_2.known := ⟨by decide, rfl⟩
theorem P52.PC_3_known : P52.PC_3.known := ⟨by decide, rfl⟩
theorem P52.PC_4_known : P52.PC_4.known := ⟨by decide, rfl⟩
theorem P52.PC_5_known : P52.PC_5.known := ⟨by decide, rfl⟩
theorem P52.PC_6_known : P52.PC_6.known := ⟨by decide, rfl⟩
theorem P52.PC_7_known : P52.PC_7.known := ⟨by decide, rfl⟩
theorem P52.CFG_0_known : P52.CFG_0.known := ⟨by decide, rfl⟩
theorem P52.CFG_1_known : P52.CFG_1.known := ⟨by decide, rfl⟩
theorem P52.CFG_2_known : P52.CFG_2.known := ⟨by decide, rfl⟩
theorem P52.CFG_3_known : P52.CFG_3.known := ⟨by decide, rfl⟩
theorem P52.CFG_4_known : P52.CFG_4.known := ⟨by decide, rfl⟩
theorem P52.CFG_5_known : P52.CFG_5.known := ⟨by decide, rfl⟩
theorem P52.CFG_6_known : P52.CFG_6.known := ⟨by decide, rfl⟩
theorem P52.CFG_7_known : P52.CFG_7.known := ⟨by decide, rfl⟩
theorem P52.WRAP_known : P52.WRAP.known := ⟨by decide, rfl⟩
theorem P52.BW_WINDOW_known : P52.BW_WINDOW.known := ⟨by decide, rfl⟩
theorem P52.SNAP_PERIOD_known : P52.SNAP_PERIOD.known := ⟨by decide, rfl⟩
theorem P52.SNAP_SEQ_known : P52.SNAP_SEQ.known := ⟨by decide, rfl⟩
theorem P60.DL_LIFE_known : P60.DL_LIFE.known := ⟨by decide, rfl⟩
theorem P60.DL_PER_METER_known : P60.DL_PER_METER.known := ⟨by decide, rfl⟩
theorem P60.DL_ATTEMPTS_known : P60.DL_ATTEMPTS.known := ⟨by decide, rfl⟩
theorem P60.DL_RESEND_known : P60.DL_RESEND.known := ⟨by decide, rfl⟩
theorem P60.TARIFF_PARALLEL_known : P60.TARIFF_PARALLEL.known := ⟨by decide, rfl⟩
theorem P60.BLOCK_RATE_known : P60.BLOCK_RATE.known := ⟨by decide, rfl⟩
theorem P60.SLEEPY_BLOCKS_known : P60.SLEEPY_BLOCKS.known := ⟨by decide, rfl⟩
theorem P60.BOOT_WINDOW_known : P60.BOOT_WINDOW.known := ⟨by decide, rfl⟩
theorem P60.CONFIRM_S_known : P60.CONFIRM_S.known := ⟨by decide, rfl⟩
theorem P60.LEGAL_UPD_MODE_known : P60.LEGAL_UPD_MODE.known := ⟨by decide, rfl⟩
theorem P60.BOOT_TRIES_known : P60.BOOT_TRIES.known := ⟨by decide, rfl⟩
theorem P60.CAMPAIGNS_RUNNING_known : P60.CAMPAIGNS_RUNNING.known := ⟨by decide, rfl⟩
theorem P60.ROUND_WAIT_known : P60.ROUND_WAIT.known := ⟨by decide, rfl⟩
theorem P60.DL_OPEN_known : P60.DL_OPEN.known := ⟨by decide, rfl⟩
theorem P60.DL_SENT_FRAMES_known : P60.DL_SENT_FRAMES.known := ⟨by decide, rfl⟩
theorem P60.DL_CONCLUDED_known : P60.DL_CONCLUDED.known := ⟨by decide, rfl⟩
theorem P60.DL_EXPIRED_known : P60.DL_EXPIRED.known := ⟨by decide, rfl⟩

theorem find_of_nodup {l : List Fld} {f : Fld} (hl : (l.map Fld.lo).Nodup) (h : f ∈ l) :
    l.find? (fun g => g.lo == f.lo) = some f := by
  induction l with
  | nil => cases h
  | cons g l ih =>
    simp only [List.map_cons, List.nodup_cons] at hl
    rcases List.mem_cons.mp h with rfl | h'
    · simp
    · have hne : g.lo ≠ f.lo := fun e => hl.1 (e ▸ List.mem_map_of_mem h')
      simp only [List.find?_cons]
      rw [show (g.lo == f.lo) = false by simpa using hne]
      exact ih hl.2 h'

/-- The table of a page lists its own fields, within the page, one for each place. -/
def tableOk (p : Nat) (l : List Fld) : Bool :=
  l.all (fun f => decide (f.lo < 2048) && f.page == p) && decide (l.map Fld.lo).Nodup

theorem pageFields_ok (p : Nat) : tableOk p (pageFields p) = true := by
  unfold pageFields
  split <;> first | rfl | decide

/-- Every field of a page's table is known. -/
theorem pageFields_known {p : Nat} {f : Fld} (h : f ∈ pageFields p) : f.known := by
  have ok := pageFields_ok p
  simp only [tableOk, Bool.and_eq_true, List.all_eq_true, decide_eq_true_eq, beq_iff_eq] at ok
  obtain ⟨hl, hp⟩ := ok.1 f h
  refine ⟨hl, ?_⟩
  have h1 : fkey f 0 / 2048 / 16 = p := by unfold fkey; omega
  have h2 : fkey f 0 % 2048 = f.lo := by unfold fkey; omega
  simp only [fieldOfKey, h1, h2]
  exact find_of_nodup ok.2 h

theorem fieldOfKey_known {k : Nat} {f : Fld} (h : fieldOfKey k = some f) : f.known :=
  pageFields_known (List.mem_of_find?_eq_some h)

end Sys2Proof.Machine
end

