-- ==== Sys2Proof/Laws/Fields.lean ====
section
/-! SUPPORT. Fields by their pages: a field of a page's list names that page, and keys of different fields or instances
differ. -/
namespace Sys2Proof.Machine

/-- A field of a page's list names the page. -/
theorem pageFields_page {p : Nat} {f : Fld} (h : f ∈ pageFields p) : f.page = p := by
  have ok := pageFields_ok p
  simp only [tableOk, Bool.and_eq_true, List.all_eq_true, decide_eq_true_eq, beq_iff_eq] at ok
  exact (ok.1 f h).2

theorem fkey_ne {f g : Fld} {i j : Nat} (hf : f.lo < 2048) (hg : g.lo < 2048)
    (h : f.page ≠ g.page ∨ f.lo ≠ g.lo ∨ i % 16 ≠ j % 16) : fkey g j ≠ fkey f i := by
  unfold fkey; omega

/-- Two fields of the tables with one page and one lowest bit are the same field. -/
theorem field_ext {f g : Fld} (hf : f.known) (hg : g.known) (hp : f.page = g.page) (hl : f.lo = g.lo) : f = g := by
  have e : fkey f 0 = fkey g 0 := by unfold fkey; rw [hp, hl]
  have := hf.2
  rw [e, hg.2] at this
  exact (Option.some.inj this).symm

/-- A write to a field leaves a field of another place or instance. -/
theorem rdI_wrI_other {f g : Fld} {i j v : Nat} {s : State} (hf : f.known) (hg : g.known)
    (h : f.page ≠ g.page ∨ f.lo ≠ g.lo ∨ i % 16 ≠ j % 16) (hs : s.tidy = true) : rdI (wrI f i v s) g j = rdI s g j := by
  simp only [State.tidy, regsWf, Bool.and_eq_true] at hs
  exact rdI_wrI_ne (fkey_ne hf.1 hg.1 h) hs.1.1

/-- Reads depend on the register list alone. -/
theorem rdI_congr {f : Fld} {i : Nat} {s t : State} (h : t.regs = s.regs) : rdI t f i = rdI s f i := by
  simp only [rdI, h]

theorem rd_congr {f : Fld} {s t : State} (h : t.regs = s.regs) : rd t f = rd s f := rdI_congr h

end Sys2Proof.Machine
end

