-- ==== Sys2Proof/Laws/KeptBase.lean ====
section
/-! SUPPORT. What every operation keeps: the queue of waiting commands, what was sent, the canonical form of the stored
tables, and the model's clock. -/
namespace Sys2Proof.Machine

/-- From `s` to `t` no waiting command moved, nothing sent was taken back, the stored tables stayed canonical, and the
clock stands. -/
structure Kept (s t : State) : Prop where
  pending : t.pending = s.pending
  sent : s.out <+: t.out
  tidy : s.tidy = true → t.tidy = true
  ticks : t.beat.ticks = s.beat.ticks

theorem Kept.refl (s : State) : Kept s s := ⟨rfl, List.prefix_refl _, id, rfl⟩

theorem Kept.trans {s t u : State} (h : Kept s t) (g : Kept t u) : Kept s u :=
  ⟨g.pending.trans h.pending, h.sent.trans g.sent, fun x => g.tidy (h.tidy x), g.ticks.trans h.ticks⟩

/-- A state whose queue, output, registers, memory and clock are another's. -/
theorem Kept.same {s t u : State} (h : Kept s t) (hp : u.pending = t.pending) (ho : u.out = t.out)
    (hr : u.regs = t.regs) (hm : u.mem = t.mem) (hb : u.beat.ticks = t.beat.ticks) : Kept s u := by
  refine h.trans ⟨hp, ho ▸ List.prefix_refl _, ?_, hb⟩
  intro x
  simpa [State.tidy, hr, hm] using x

theorem Kept.of_pair {α : Type} {s y : State} {r : State × α} {z : α} (h : Kept s r.1) (e : r = (y, z)) : Kept s y := by
  subst e; exact h

/-- What `Kept` says of a state's parts. -/
def Kept4 (s : State) (regs : List (Nat × Nat)) (mem : List Host.Cell) (out : List Out) (pending : List Instr)
    (ticks : Nat) : Prop :=
  pending = s.pending ∧ s.out <+: out ∧ (s.tidy = true → (regsWf regs && Memory.wf mem) = true) ∧ ticks = s.beat.ticks

/-- A record update counts by its parts alone. -/
theorem Kept.mk_iff {s : State} {regs mem beat den sett cmd chain plumb batt infeed grade ledger tally ftl memory keys
    radio plc dl legal disp ev ctr pair pwr out free pending} :
    Kept s (State.mk regs mem beat den sett cmd chain plumb batt infeed grade ledger tally ftl memory keys radio
      plc dl legal disp ev ctr pair pwr out free pending) ↔ Kept4 s regs mem out pending beat.ticks :=
  ⟨fun h => ⟨h.pending, h.sent, h.tidy, h.ticks⟩, fun h => ⟨h.1, h.2.1, h.2.2.1, h.2.2.2⟩⟩

theorem Kept4.of {s t : State} (h : Kept s t) : Kept4 s t.regs t.mem t.out t.pending t.beat.ticks :=
  ⟨h.pending, h.sent, h.tidy, h.ticks⟩

theorem Kept4.regs_filter {s : State} {regs mem out pending ticks} {p : Nat × Nat → Bool} (h : Kept4 s regs mem out pending ticks) :
    Kept4 s (regs.filter p) mem out pending ticks := by
  refine ⟨h.1, h.2.1, fun x => ?_, h.2.2.2⟩
  have y := h.2.2.1 x
  simp only [Bool.and_eq_true] at y ⊢
  exact ⟨regsWf_filter y.1, y.2⟩

theorem Kept4.mem_filter {s : State} {regs mem out pending ticks} {p : Host.Cell → Bool} (h : Kept4 s regs mem out pending ticks) :
    Kept4 s regs (mem.filter p) out pending ticks := by
  refine ⟨h.1, h.2.1, fun x => ?_, h.2.2.2⟩
  have y := h.2.2.1 x
  simp only [Bool.and_eq_true] at y ⊢
  exact ⟨y.1, wf_filter y.2⟩

theorem Kept4.mem_nil {s : State} {regs mem out pending ticks} (h : Kept4 s regs mem out pending ticks) :
    Kept4 s regs [] out pending ticks := by
  refine ⟨h.1, h.2.1, fun x => ?_, h.2.2.2⟩
  have y := h.2.2.1 x
  simp only [Bool.and_eq_true] at y ⊢
  exact ⟨y.1, rfl⟩

theorem Kept.tidied {s t u : State} (h : Kept s t) (hp : u.pending = t.pending) (ho : u.out = t.out)
    (ht : t.tidy = true → u.tidy = true) (hb : u.beat.ticks = t.beat.ticks) : Kept s u :=
  h.trans ⟨hp, ho ▸ List.prefix_refl _, ht, hb⟩

theorem wrI_kept {s0 s : State} {f : Fld} {i v : Nat} (hf : f.known) (h : Kept s0 s) : Kept s0 (wrI f i v s) := by
  refine h.tidied rfl rfl ?_ rfl
  simp only [State.tidy, Bool.and_eq_true]
  exact fun x => ⟨wrI_regsWf hf x.1, x.2⟩

theorem wrMem_kept {s0 s : State} {a : Nat} {b : Byte} (h : Kept s0 s) : Kept s0 (wrMem a b s) := by
  refine h.tidied rfl rfl ?_ rfl
  simp only [State.tidy, Bool.and_eq_true]
  exact fun x => ⟨x.1, wrMem_wf x.2⟩

theorem emit_kept {s0 s : State} {o : Out} (h : Kept s0 s) : Kept s0 (emit o s) :=
  h.trans ⟨rfl, ⟨[o], rfl⟩, id, rfl⟩

theorem Kept.foldl_mem {α : Type} {s0 s : State} {f : State → α → State} {l : List α}
    (hf : ∀ x ∈ l, ∀ t, Kept s0 t → Kept s0 (f t x)) (h : Kept s0 s) : Kept s0 (l.foldl f s) := by
  induction l generalizing s with
  | nil => exact h
  | cons x l ih =>
    exact ih (fun y hy => hf y (List.mem_cons_of_mem _ hy)) (hf x List.mem_cons_self s h)

theorem Kept.foldl {α : Type} {s0 s : State} {f : State → α → State} {l : List α}
    (hf : ∀ x t, Kept s0 t → Kept s0 (f t x)) (h : Kept s0 s) : Kept s0 (l.foldl f s) := by
  induction l generalizing s with
  | nil => exact h
  | cons x l ih => exact ih (hf x s h)

theorem Kept.getD {s0 s : State} {o : Option State} (ho : ∀ t, o = some t → Kept s0 t) (h : Kept s0 s) :
    Kept s0 (o.getD s) := by
  cases o with
  | none => exact h
  | some t => exact ho t rfl

/-- A state whose clock is one tick on. -/
def State.ticked (s : State) : State := { s with beat := { s.beat with ticks := s.beat.ticks + 1 } }

/-- What a command's body answers keeps. -/
def Ans.kept (s0 : State) : Ans → Prop
  | .fail _ _ => True
  | .refuse _ _ => True
  | .done _ t => Kept s0 t
  | .doneAtBeat _ t => Kept s0 t
  | .accept _ _ _ t => Kept s0 t
  | .stays t => Kept s0 t

theorem Ans.kept_fail {s0 : State} {a b : Nat} : Ans.kept s0 (.fail a b) := True.intro

theorem Ans.kept_refuse {s0 : State} {a b : Nat} : Ans.kept s0 (.refuse a b) := True.intro

theorem Ans.kept_done {s0 t : State} {a : List Byte} (h : Kept s0 t) : Ans.kept s0 (.done a t) := h

theorem Ans.kept_doneAtBeat {s0 t : State} {e : Eff} (h : Kept s0 t) : Ans.kept s0 (.doneAtBeat e t) := h

theorem Ans.kept_accept {s0 t : State} {a b : List Byte} {e : Eff} (h : Kept s0 t) : Ans.kept s0 (.accept a b e t) := h

theorem Ans.kept_stays {s0 t : State} (h : Kept s0 t) : Ans.kept s0 (.stays t) := h

theorem Ans.kept_ite {s0 : State} {c : Prop} [Decidable c] {a b : Ans} (ha : Ans.kept s0 a) (hb : Ans.kept s0 b) :
    Ans.kept s0 (if c then a else b) := by
  by_cases h : c <;> simp only [h, if_true, if_false] <;> assumption

/-- What an outcome keeps. -/
def Outcome.kept (s0 : State) (o : Host.Outcome State Fault Refusal) : Prop := ∀ t, o = .next t → Kept s0 t

theorem Outcome.kept_next {s0 t : State} (h : Kept s0 t) : Outcome.kept s0 (.next t) := by
  intro u hu; cases hu; exact h

end Sys2Proof.Machine
end

