-- ==== Sys2Proof/Laws/Kept/Ops.lean ====
section
/-! SUPPORT. What the operations of Machine/Ops.lean keep: the waiting commands, what was sent, the stored tables. -/
namespace Sys2Proof.Machine

theorem wr_kept {s0 : State} {x0 : Fld} {x1 : Nat} {x2 : State} (hf0 : x0.known) (h : Kept s0 x2) :
    Kept s0 (wr x0 x1 x2) := by
  unfold wr
  try dsimp only
  with_reducible repeat' first
    | assumption | apply wrI_kept | apply Kept.foldl | apply Kept4.of | simp only [Kept.mk_iff] | split | intro _

theorem wrS_kept {s0 : State} {x0 : Fld} {x1 : Int} {x2 : State} (hf0 : x0.known) (h : Kept s0 x2) :
    Kept s0 (wrS x0 x1 x2) := by
  unfold wrS
  try dsimp only
  with_reducible repeat' first
    | assumption | apply wr_kept | apply Kept.foldl | apply Kept4.of | simp only [Kept.mk_iff] | split | intro _

theorem wrB_kept {s0 : State} {x0 : Fld} {x1 : Bool} {x2 : State} (hf0 : x0.known) (h : Kept s0 x2) :
    Kept s0 (wrB x0 x1 x2) := by
  unfold wrB
  try dsimp only
  with_reducible repeat' first
    | assumption | apply wr_kept | apply Kept.foldl | apply Kept4.of | simp only [Kept.mk_iff] | split | intro _

theorem bumpI_kept {s0 : State} {x0 : Fld} {x1 : Nat} {x2 : Nat} {x3 : State} (hf0 : x0.known) (h : Kept s0 x3) :
    Kept s0 (bumpI x0 x1 x2 x3) := by
  unfold bumpI
  try dsimp only
  with_reducible repeat' first
    | assumption | apply wrI_kept | apply Kept.foldl | apply Kept4.of | simp only [Kept.mk_iff] | split | intro _

theorem bump_kept {s0 : State} {x0 : Fld} {x1 : State} (hf0 : x0.known) (h : Kept s0 x1) :
    Kept s0 (bump x0 x1) := by
  unfold bump
  try dsimp only
  with_reducible repeat' first
    | assumption | apply bumpI_kept | apply Kept.foldl | apply Kept4.of | simp only [Kept.mk_iff] | split | intro _

theorem wrMems_kept {s0 : State} {l : List Byte} : ∀ {a : Nat} {s : State}, Kept s0 s → Kept s0 (wrMems a l s) := by
  induction l with
  | nil => exact fun h => h
  | cons b l ih => exact fun h => ih (wrMem_kept h)

theorem drawn_kept {s0 : State} {x0 : State} (h : Kept s0 x0) :
    Kept s0 (drawn x0) := by
  unfold drawn
  try dsimp only
  with_reducible repeat' first
    | assumption | apply Kept.foldl | apply Kept4.of | simp only [Kept.mk_iff] | split | intro _

theorem addRec_kept {s0 : State} {x0 : List Nat} {x1 : State} (h : Kept s0 x1) :
    Kept s0 (addRec x0 x1) := by
  unfold addRec
  try dsimp only
  with_reducible repeat' first
    | assumption | apply Kept.foldl | apply Kept4.of | simp only [Kept.mk_iff] | split | intro _

theorem postP256_kept {s0 : State} {x0 : Nat} {x1 : State} (h : Kept s0 x1) :
    Kept s0 (postP256 x0 x1) := by
  unfold postP256
  try dsimp only
  with_reducible repeat' first
    | assumption | apply Kept.foldl | apply Kept4.of | simp only [Kept.mk_iff] | split | intro _

theorem postItem_kept {s0 : State} {x0 : SettItem} {x1 : State} (h : Kept s0 x1) :
    Kept s0 (postItem x0 x1) := by
  unfold postItem
  try dsimp only
  with_reducible repeat' first
    | assumption | apply Kept.foldl | apply Kept4.of | simp only [Kept.mk_iff] | split | intro _

theorem dropItems_kept {s0 : State} {x0 : SettItem → Bool} {x1 : State} (h : Kept s0 x1) :
    Kept s0 (dropItems x0 x1) := by
  unfold dropItems
  try dsimp only
  with_reducible repeat' first
    | assumption | apply Kept.foldl | apply Kept4.of | simp only [Kept.mk_iff] | split | intro _

theorem spend_kept {s0 : State} {x0 : Task} {x1 : State} (h : Kept s0 x1) :
    Kept s0 (spend x0 x1) := by
  unfold spend
  try dsimp only
  with_reducible repeat' first
    | assumption | apply Kept.foldl | apply Kept4.of | simp only [Kept.mk_iff] | split | intro _

end Sys2Proof.Machine
end

