-- ==== Sys2Proof/Laws/Kept/Counters.lean ====
section
/-! SUPPORT. What the operations of Machine/Counters.lean keep: the waiting commands, what was sent, the stored tables. -/
namespace Sys2Proof.Machine

theorem cfgFld_known (n : Nat) : (cfgFld n).known := by
  unfold cfgFld; split <;> exact ⟨by decide, rfl⟩

theorem pcFld_known (n : Nat) : (pcFld n).known := by
  unfold pcFld; split <;> exact ⟨by decide, rfl⟩

theorem pcAdd_kept {s0 : State} {x0 : Nat} {x1 : Nat} {x2 : State} (h : Kept s0 x2) :
    Kept s0 (pcAdd x0 x1 x2) := by
  unfold pcAdd
  try dsimp only
  with_reducible repeat' first
    | assumption | apply wr_kept | exact cfgFld_known _ | exact P52.WRAP_known | exact pcFld_known _ | apply Kept.foldl | apply Kept4.of | simp only [Kept.mk_iff] | split | intro _

theorem countIf_kept {s0 : State} {x0 : Nat} {x1 : Nat → Bool} {x2 : Nat} {x3 : State} (h : Kept s0 x3) :
    Kept s0 (countIf x0 x1 x2 x3) := by
  unfold countIf
  try dsimp only
  with_reducible repeat' first
    | assumption | apply pcAdd_kept | exact cfgFld_known _ | apply Kept.foldl | apply Kept4.of | simp only [Kept.mk_iff] | split | intro _

theorem count_kept {s0 : State} {x0 : Nat} {x1 : Nat} {x2 : Nat} {x3 : State} (h : Kept s0 x3) :
    Kept s0 (count x0 x1 x2 x3) := by
  unfold count
  try dsimp only
  with_reducible repeat' first
    | assumption | apply countIf_kept | apply Kept.foldl | apply Kept4.of | simp only [Kept.mk_iff] | split | intro _

end Sys2Proof.Machine
end

