-- ==== Sys2Proof/Laws/Kept/Joist.lean ====
section
/-! SUPPORT. What the operations of Machine/Joist.lean keep: the waiting commands, what was sent, the stored tables. -/
namespace Sys2Proof.Machine

theorem setPort_kept {s0 : State} {x0 : Port} {x1 : PortState} {x2 : State} (h : Kept s0 x2) :
    Kept s0 (setPort x0 x1 x2) := by
  unfold setPort
  try dsimp only
  with_reducible repeat' first
    | assumption | apply Kept.foldl | apply Kept4.of | simp only [Kept.mk_iff] | split | intro _

theorem sentOn_kept {s0 : State} {x0 : Port} {x1 : Nat} {x2 : State} (h : Kept s0 x2) :
    Kept s0 (sentOn x0 x1 x2) := by
  unfold sentOn
  try dsimp only
  with_reducible repeat' first
    | assumption | apply setPort_kept | apply count_kept | apply Kept.foldl | apply Kept4.of | simp only [Kept.mk_iff] | split | intro _

theorem heardOn_kept {s0 : State} {x0 : Port} {x1 : Nat} {x2 : State} (h : Kept s0 x2) :
    Kept s0 (heardOn x0 x1 x2) := by
  unfold heardOn
  try dsimp only
  with_reducible repeat' first
    | assumption | apply setPort_kept | apply count_kept | apply Kept.foldl | apply Kept4.of | simp only [Kept.mk_iff] | split | intro _

theorem sendFrame_kept {s0 : State} {x0 : Port} {x1 : LinkPkt} {x2 : State} (h : Kept s0 x2) :
    Kept s0 (sendFrame x0 x1 x2) := by
  unfold sendFrame
  try dsimp only
  with_reducible repeat' first
    | assumption | apply emit_kept | apply sentOn_kept | apply setPort_kept | apply Kept.foldl | apply Kept4.of | simp only [Kept.mk_iff] | split | intro _

theorem pump_kept {s0 : State} {x0 : Port} {x1 : State} (h : Kept s0 x1) :
    Kept s0 (pump x0 x1) := by
  unfold pump
  try dsimp only
  with_reducible repeat' first
    | assumption | apply sendFrame_kept | apply setPort_kept | apply Kept.foldl | apply Kept4.of | simp only [Kept.mk_iff] | split | intro _

theorem queuePkt_kept {s0 : State} {x0 : Port} {x1 : LinkPkt} {x2 : State} (h : Kept s0 x2) :
    Kept s0 (queuePkt x0 x1 x2) := by
  unfold queuePkt
  try dsimp only
  with_reducible repeat' first
    | assumption | apply pump_kept | apply setPort_kept | apply Kept.foldl | apply Kept4.of | simp only [Kept.mk_iff] | split | intro _

theorem linkSend_kept {s0 : State} {x0 : Port} {x1 : List Byte} {x2 : State} (h : Kept s0 x2) :
    Kept s0 (linkSend x0 x1 x2) := by
  unfold linkSend
  try dsimp only
  with_reducible repeat' first
    | assumption | apply queuePkt_kept | apply Kept.foldl | apply Kept4.of | simp only [Kept.mk_iff] | split | intro _

theorem linkForward_kept {s0 : State} {x0 : Port} {x1 : List Byte} {x2 : State} (h : Kept s0 x2) :
    Kept s0 (linkForward x0 x1 x2) := by
  unfold linkForward
  try dsimp only
  with_reducible repeat' first
    | assumption | apply queuePkt_kept | apply Kept.foldl | apply Kept4.of | simp only [Kept.mk_iff] | split | intro _

theorem sendCtl_kept {s0 : State} {x0 : Port} {x1 : Nat} {x2 : State} (h : Kept s0 x2) :
    Kept s0 (sendCtl x0 x1 x2) := by
  unfold sendCtl
  try dsimp only
  with_reducible repeat' first
    | assumption | apply emit_kept | apply sentOn_kept | apply Kept.foldl | apply Kept4.of | simp only [Kept.mk_iff] | split | intro _

end Sys2Proof.Machine
end

