-- ==== Sys2Proof/Laws/Kept/Events.lean ====
section
/-! SUPPORT. What the operations of Machine/Events.lean keep: the waiting commands, what was sent, the stored tables. -/
namespace Sys2Proof.Machine

theorem sendNotice_kept {s0 : State} {x0 : EvRec} {x1 : State} (h : Kept s0 x1) :
    Kept s0 (sendNotice x0 x1) := by
  unfold sendNotice
  try dsimp only
  with_reducible repeat' first
    | assumption | apply emit_kept | apply linkSend_kept | apply Kept.foldl | apply Kept4.of | simp only [Kept.mk_iff] | split | intro _

theorem postNotice_kept {s0 : State} {x0 : EvRec} {x1 : State} (h : Kept s0 x1) :
    Kept s0 (postNotice x0 x1) := by
  unfold postNotice
  try dsimp only
  with_reducible repeat' first
    | assumption | apply sendNotice_kept | apply Kept.foldl | apply Kept4.of | simp only [Kept.mk_iff] | split | intro _

theorem evFields_kept {s0 : State} {x0 : State} (h : Kept s0 x0) :
    Kept s0 (evFields x0) := by
  unfold evFields
  try dsimp only
  with_reducible repeat' first
    | assumption | apply wr_kept | exact P51.OLDEST_SEQ_known | exact P51.NEXT_SEQ_known | exact P51.CACHE_PENDING_known | apply Kept.foldl | apply Kept4.of | simp only [Kept.mk_iff] | split | intro _

theorem record_kept {s0 : State} {x0 : Nat} {x1 : List Byte} {x2 : State} (h : Kept s0 x2) :
    Kept s0 (record x0 x1 x2) := by
  unfold record
  try dsimp only
  with_reducible repeat' first
    | assumption | apply countIf_kept | apply evFields_kept | apply wr_kept | apply postNotice_kept | exact P51.NEXT_SEQ_known | apply Kept.foldl | apply Kept4.of | simp only [Kept.mk_iff] | split | intro _

theorem logDropped_kept {s0 : State} {x0 : State} (h : Kept s0 x0) :
    Kept s0 (logDropped x0) := by
  unfold logDropped
  try dsimp only
  with_reducible repeat' first
    | assumption | apply record_kept | exact P51.EVENTS_LOST_known | apply Kept.foldl | apply Kept4.of | simp only [Kept.mk_iff] | split | intro _

theorem logEv_kept {s0 : State} {x0 : Nat} {x1 : List Byte} {x2 : State} (h : Kept s0 x2) :
    Kept s0 (logEv x0 x1 x2) := by
  unfold logEv
  try dsimp only
  with_reducible repeat' first
    | assumption | apply bump_kept | apply logDropped_kept | apply record_kept | exact P51.EVENTS_LOST_known | apply Kept.foldl | apply Kept4.of | simp only [Kept.mk_iff] | split | intro _

theorem flushEvents_kept {s0 : State} {x0 : State} (h : Kept s0 x0) :
    Kept s0 (flushEvents x0) := by
  unfold flushEvents
  try dsimp only
  with_reducible repeat' first
    | assumption | apply evFields_kept | apply logDropped_kept | apply Kept.foldl | apply Kept4.of | simp only [Kept.mk_iff] | split | intro _

end Sys2Proof.Machine
end

