-- ==== Sys2Proof/Laws/Kept/Ledger.lean ====
section
/-! SUPPORT. What the operations of Machine/Ledger.lean keep: the waiting commands, what was sent, the stored tables. -/
namespace Sys2Proof.Machine

theorem appendEntry_kept {s0 : State} {x0 : Entry} {x1 : State} (h : Kept s0 x1) :
    Kept s0 (appendEntry x0 x1) := by
  unfold appendEntry
  try dsimp only
  with_reducible repeat' first
    | assumption | apply Kept.foldl | apply Kept4.of | simp only [Kept.mk_iff] | split | intro _

theorem postEntry_kept {s0 : State} {x0 : Entry} {x1 : State} (h : Kept s0 x1) :
    Kept s0 (postEntry x0 x1) := by
  unfold postEntry
  try dsimp only
  with_reducible repeat' first
    | assumption | apply appendEntry_kept | apply Kept.foldl | apply Kept4.of | simp only [Kept.mk_iff] | split | intro _

theorem postGroup_kept {s0 : State} {x0 : List Entry} {x1 : State} (h : Kept s0 x1) :
    Kept s0 (postGroup x0 x1) := by
  unfold postGroup
  try dsimp only
  with_reducible repeat' first
    | assumption | apply appendEntry_kept | apply Kept.foldl | apply Kept4.of | simp only [Kept.mk_iff] | split | intro _

theorem takeReserve_kept {s0 : State} {x0 : List Entry} {x1 : State} (h : Kept s0 x1) :
    Kept s0 (takeReserve x0 x1) := by
  induction x0 generalizing x1 with
  | nil =>
    unfold takeReserve
    try dsimp only
    with_reducible repeat' first
      | assumption | apply appendEntry_kept | apply Kept.foldl | apply Kept4.of | simp only [Kept.mk_iff] | split | intro _
  | cons y l ih =>
    unfold takeReserve
    try dsimp only
    with_reducible repeat' first
      | assumption | apply ih | apply appendEntry_kept | apply Kept.foldl | apply Kept4.of | simp only [Kept.mk_iff] | split | intro _

theorem takeWaiting_kept {s0 : State} {x0 : List Entry} {x1 : State} (h : Kept s0 x1) :
    Kept s0 (takeWaiting x0 x1) := by
  induction x0 generalizing x1 with
  | nil =>
    unfold takeWaiting
    try dsimp only
    with_reducible repeat' first
      | assumption | apply appendEntry_kept | apply takeReserve_kept | apply Kept.foldl | apply Kept4.of | simp only [Kept.mk_iff] | split | intro _
  | cons y l ih =>
    unfold takeWaiting
    try dsimp only
    with_reducible repeat' first
      | assumption | apply ih | apply appendEntry_kept | apply takeReserve_kept | apply Kept.foldl | apply Kept4.of | simp only [Kept.mk_iff] | split | intro _

end Sys2Proof.Machine
end

