-- ==== Sys2Proof/Laws/Kept/Flash.lean ====
section
/-! SUPPORT. What the operations of Machine/Flash.lean keep: the waiting commands, what was sent, the stored tables. -/
namespace Sys2Proof.Machine

theorem openFresh_kept {s0 : State} {x0 : Chan} {x1 : Nat} {x2 : Nat} {x3 : Nat} {x4 : State} (h : Kept s0 x4) :
    Kept s0 (openFresh x0 x1 x2 x3 x4) := by
  unfold openFresh
  try dsimp only
  with_reducible repeat' first
    | assumption | apply Kept.foldl | apply Kept4.of | simp only [Kept.mk_iff] | split | intro _

theorem openAgain_kept {s0 : State} {x0 : Chan} {x1 : Nat} {x2 : Blk} {x3 : State} (h : Kept s0 x3) :
    Kept s0 (openAgain x0 x1 x2 x3) := by
  unfold openAgain
  try dsimp only
  with_reducible repeat' first
    | assumption | apply Kept.foldl | apply Kept4.of | simp only [Kept.mk_iff] | split | intro _

theorem openBlk_kept {s0 : State} {x0 : Chan} {x1 : Nat} {x2 : State} (h : Kept s0 x2) :
    Kept s0 (openBlk x0 x1 x2) := by
  unfold openBlk
  try dsimp only
  with_reducible repeat' first
    | assumption | apply openFresh_kept | apply openAgain_kept | apply Kept.foldl | apply Kept4.of | simp only [Kept.mk_iff] | split | intro _

theorem takeFrom_kept {s0 : State} {x0 : Chan} {x1 : Blk} {x2 : State} (h : Kept s0 x2) :
    Kept s0 (takeFrom x0 x1 x2).1 := by
  unfold takeFrom
  try dsimp only
  with_reducible repeat' first
    | assumption | apply Kept.foldl | apply Kept4.of | simp only [Kept.mk_iff] | split | intro _

theorem takeFrom_pair {s0 : State} {x0 : Chan} {x1 : Blk} {x2 : State} {y : State} {z} (e : (takeFrom x0 x1 x2) = (y, z)) (h : Kept s0 x2) :
    Kept s0 y := by
  have g : Kept s0 (takeFrom x0 x1 x2).1 := takeFrom_kept h
  rw [e] at g
  exact g

theorem takePage_kept {s0 : State} {x0 : Chan} {x1 : Nat} {x2 : State} (h : Kept s0 x2) :
    Kept s0 (takePage x0 x1 x2).1 := by
  unfold takePage
  try dsimp only
  with_reducible repeat' first
    | assumption | apply openBlk_kept | apply takeFrom_kept | refine takeFrom_pair (by assumption) ?_ | apply Kept.foldl | apply Kept4.of | simp only [Kept.mk_iff] | split | intro _

theorem takePage_pair {s0 : State} {x0 : Chan} {x1 : Nat} {x2 : State} {y : State} {z} (e : (takePage x0 x1 x2) = (y, z)) (h : Kept s0 x2) :
    Kept s0 y := by
  have g : Kept s0 (takePage x0 x1 x2).1 := takePage_kept h
  rw [e] at g
  exact g

theorem applyRec_kept {s0 : State} {x0 : JRec} {x1 : State} (h : Kept s0 x1) :
    Kept s0 (applyRec x0 x1) := by
  unfold applyRec
  try dsimp only
  with_reducible repeat' first
    | assumption | apply Kept.foldl | apply Kept4.of | simp only [Kept.mk_iff] | split | intro _

theorem ftlFields_kept {s0 : State} {x0 : State} (h : Kept s0 x0) :
    Kept s0 (ftlFields x0) := by
  unfold ftlFields
  try dsimp only
  with_reducible repeat' first
    | assumption | apply wr_kept | exact P41.ERASE_MIN_known | exact P41.ERASE_MAX_known | exact P41.MAP_PENDING_known | apply Kept.foldl | apply Kept4.of | simp only [Kept.mk_iff] | split | intro _

theorem program_kept {s0 : State} {x0 : Chan} {x1 : Nat} {x2 : Nat} {x3 : Nat} {x4 : Nat} {x5 : Nat} {x6 : List Byte} {x7 : List Byte} {x8 : State} (h : Kept s0 x8) :
    Kept s0 (program x0 x1 x2 x3 x4 x5 x6 x7 x8) := by
  unfold program
  try dsimp only
  with_reducible repeat' first
    | assumption | apply emit_kept | apply Kept.foldl | apply Kept4.of | simp only [Kept.mk_iff] | split | intro _

theorem takeSystem_kept {s0 : State} {x0 : Nat} {x1 : State} (h : Kept s0 x1) :
    Kept s0 (takeSystem x0 x1) := by
  unfold takeSystem
  try dsimp only
  with_reducible repeat' first
    | assumption | apply takePage_kept | refine takePage_pair (by assumption) ?_ | apply Kept.foldl | apply Kept4.of | simp only [Kept.mk_iff] | split | intro _

theorem journalCopy_kept {s0 : State} {x0 : Chan} {x1 : Nat} {x2 : Nat} {x3 : List Byte} {x4 : List Byte} {x5 : State} (h : Kept s0 x5) :
    Kept s0 (journalCopy x0 x1 x2 x3 x4 x5) := by
  unfold journalCopy
  try dsimp only
  with_reducible repeat' first
    | assumption | apply program_kept | apply takePage_kept | refine takePage_pair (by assumption) ?_ | apply Kept.foldl | apply Kept4.of | simp only [Kept.mk_iff] | split | intro _

theorem writeCommit_kept {s0 : State} {x0 : List (Nat × Nat × List Byte × List Byte)} {x1 : State} (h : Kept s0 x1) :
    Kept s0 (writeCommit x0 x1) := by
  unfold writeCommit
  try dsimp only
  with_reducible repeat' first
    | assumption | apply journalCopy_kept | apply Kept.foldl | apply Kept4.of | simp only [Kept.mk_iff] | split | intro _

theorem commitPending_kept {s0 : State} {x0 : State} (h : Kept s0 x0) :
    Kept s0 (commitPending x0) := by
  unfold commitPending
  try dsimp only
  with_reducible repeat' first
    | assumption | apply ftlFields_kept | apply writeCommit_kept | apply applyRec_kept | apply count_kept | apply Kept.foldl | apply Kept4.of | simp only [Kept.mk_iff] | split | intro _

theorem postRec_kept {s0 : State} {x0 : JRec} {x1 : State} (h : Kept s0 x1) :
    Kept s0 (postRec x0 x1) := by
  unfold postRec
  try dsimp only
  with_reducible repeat' first
    | assumption | apply ftlFields_kept | apply commitPending_kept | exact P04.LIMIT_M_known | apply Kept.foldl | apply Kept4.of | simp only [Kept.mk_iff] | split | intro _

theorem dropValid_kept {s0 : State} {x0 : Chan} {x1 : Nat} {x2 : State} (h : Kept s0 x2) :
    Kept s0 (dropValid x0 x1 x2) := by
  unfold dropValid
  try dsimp only
  with_reducible repeat' first
    | assumption | apply Kept.foldl | apply Kept4.of | simp only [Kept.mk_iff] | split | intro _

theorem copyTo_kept {s0 : State} {x0 : Chan} {x1 : Nat} {x2 : Nat} {x3 : Option Nat} {x4 : State} (h : Kept s0 x4) :
    Kept s0 (copyTo x0 x1 x2 x3 x4) := by
  unfold copyTo
  try dsimp only
  with_reducible repeat' first
    | assumption | apply dropValid_kept | apply postRec_kept | apply count_kept | apply Kept.foldl | apply Kept4.of | simp only [Kept.mk_iff] | split | intro _

theorem writeCopy_kept {s0 : State} {x0 : Chan} {x1 : Nat} {x2 : Nat} {x3 : State} (h : Kept s0 x3) :
    Kept s0 (writeCopy x0 x1 x2 x3) := by
  unfold writeCopy
  try dsimp only
  with_reducible repeat' first
    | assumption | apply copyTo_kept | apply takePage_kept | refine takePage_pair (by assumption) ?_ | apply Kept.foldl | apply Kept4.of | simp only [Kept.mk_iff] | split | intro _

theorem writePage2_kept {s0 : State} {x0 : Nat} {x1 : Nat} {x2 : State} (h : Kept s0 x2) :
    Kept s0 (writePage2 x0 x1 x2) := by
  unfold writePage2
  try dsimp only
  with_reducible repeat' first
    | assumption | apply writeCopy_kept | apply Kept.foldl | apply Kept4.of | simp only [Kept.mk_iff] | split | intro _

theorem writePages_kept {s0 : State} {x0 : Nat} {x1 : Nat} {x2 : Nat} {x3 : State} (h : Kept s0 x3) :
    Kept s0 (writePages x0 x1 x2 x3) := by
  unfold writePages
  try dsimp only
  with_reducible repeat' first
    | assumption | apply writePage2_kept | apply Kept.foldl | apply Kept4.of | simp only [Kept.mk_iff] | split | intro _

theorem relocate_kept {s0 : State} {x0 : Chan} {x1 : Nat} {x2 : Nat} {x3 : State} (h : Kept s0 x3) :
    Kept s0 (relocate x0 x1 x2 x3) := by
  unfold relocate
  try dsimp only
  with_reducible repeat' first
    | assumption | apply bump_kept | apply writeCopy_kept | exact P41.GC_COPIES_known | apply Kept.foldl | apply Kept4.of | simp only [Kept.mk_iff] | split | intro _

theorem setBlkSt_kept {s0 : State} {x0 : Chan} {x1 : Nat} {x2 : Nat} {x3 : Nat} {x4 : BlkSt} {x5 : State} (h : Kept s0 x5) :
    Kept s0 (setBlkSt x0 x1 x2 x3 x4 x5) := by
  unfold setBlkSt
  try dsimp only
  with_reducible repeat' first
    | assumption | apply Kept.foldl | apply Kept4.of | simp only [Kept.mk_iff] | split | intro _

theorem checkWorn_kept {s0 : State} {x0 : State} (h : Kept s0 x0) :
    Kept s0 (checkWorn x0) := by
  unfold checkWorn
  try dsimp only
  with_reducible repeat' first
    | assumption | apply wr_kept | exact P41.WORN_known | apply Kept.foldl | apply Kept4.of | simp only [Kept.mk_iff] | split | intro _

theorem shrink_kept {s0 : State} {x0 : Chan} {x1 : State} (h : Kept s0 x1) :
    Kept s0 (shrink x0 x1) := by
  unfold shrink
  try dsimp only
  with_reducible repeat' first
    | assumption | apply logEv_kept | apply Kept.foldl | apply Kept4.of | simp only [Kept.mk_iff] | split | intro _

theorem retireBlk_kept {s0 : State} {x0 : Chan} {x1 : Nat} {x2 : Nat} {x3 : Nat} {x4 : State} (h : Kept s0 x4) :
    Kept s0 (retireBlk x0 x1 x2 x3 x4) := by
  unfold retireBlk
  try dsimp only
  with_reducible repeat' first
    | assumption | apply shrink_kept | apply bump_kept | apply setBlkSt_kept | apply postRec_kept | apply checkWorn_kept | exact P41.GROWN_BAD_known | apply Kept.foldl | apply Kept4.of | simp only [Kept.mk_iff] | split | intro _

theorem failBlk_kept {s0 : State} {x0 : Chan} {x1 : Nat} {x2 : Nat} {x3 : Nat} {x4 : State} (h : Kept s0 x4) :
    Kept s0 (failBlk x0 x1 x2 x3 x4) := by
  unfold failBlk
  try dsimp only
  with_reducible repeat' first
    | assumption | apply retireBlk_kept | apply relocate_kept | apply Kept.foldl | apply Kept4.of | simp only [Kept.mk_iff] | split | intro _

theorem blkOn_kept {s0 : State} {x0 : Chan} {x1 : Nat} {x2 : Nat} {x3 : State} (h : Kept s0 x3) :
    Kept s0 (blkOn x0 x1 x2 x3).1 := by
  unfold blkOn
  try dsimp only
  with_reducible repeat' first
    | assumption | apply openFresh_kept | apply openAgain_kept | apply Kept.foldl | apply Kept4.of | simp only [Kept.mk_iff] | split | intro _

theorem blkOn_pair {s0 : State} {x0 : Chan} {x1 : Nat} {x2 : Nat} {x3 : State} {y : State} {z} (e : (blkOn x0 x1 x2 x3) = (y, z)) (h : Kept s0 x3) :
    Kept s0 y := by
  have g : Kept s0 (blkOn x0 x1 x2 x3).1 := blkOn_kept h
  rw [e] at g
  exact g

theorem closeBlk_kept {s0 : State} {x0 : Chan} {x1 : Nat × Nat} {x2 : Nat} {x3 : State} (h : Kept s0 x3) :
    Kept s0 (closeBlk x0 x1 x2 x3) := by
  unfold closeBlk
  try dsimp only
  with_reducible repeat' first
    | assumption | apply Kept.foldl | apply Kept4.of | simp only [Kept.mk_iff] | split | intro _

theorem closeSeg_kept {s0 : State} {x0 : Nat × Nat} {x1 : State} (h : Kept s0 x1) :
    Kept s0 (closeSeg x0 x1) := by
  unfold closeSeg
  try dsimp only
  with_reducible repeat' first
    | assumption | apply closeBlk_kept | apply Kept.foldl | apply Kept4.of | simp only [Kept.mk_iff] | split | intro _

theorem openSeg_kept {s0 : State} {x0 : Nat × Nat} {x1 : Nat} {x2 : State} (h : Kept s0 x2) :
    Kept s0 (openSeg x0 x1 x2).1 := by
  unfold openSeg
  try dsimp only
  with_reducible repeat' first
    | assumption | apply blkOn_kept | refine blkOn_pair (by assumption) ?_ | apply postRec_kept | apply Kept.foldl | apply Kept4.of | simp only [Kept.mk_iff] | split | intro _

theorem openSeg_pair {s0 : State} {x0 : Nat × Nat} {x1 : Nat} {x2 : State} {y : State} {z} (e : (openSeg x0 x1 x2) = (y, z)) (h : Kept s0 x2) :
    Kept s0 y := by
  have g : Kept s0 (openSeg x0 x1 x2).1 := openSeg_kept h
  rw [e] at g
  exact g

theorem segFor_kept {s0 : State} {x0 : Nat × Nat} {x1 : State} (h : Kept s0 x1) :
    Kept s0 (segFor x0 x1).1 := by
  unfold segFor
  try dsimp only
  with_reducible repeat' first
    | assumption | apply closeSeg_kept | apply openSeg_kept | refine openSeg_pair (by assumption) ?_ | apply Kept.foldl | apply Kept4.of | simp only [Kept.mk_iff] | split | intro _

theorem segFor_pair {s0 : State} {x0 : Nat × Nat} {x1 : State} {y : State} {z} (e : (segFor x0 x1) = (y, z)) (h : Kept s0 x1) :
    Kept s0 y := by
  have g : Kept s0 (segFor x0 x1).1 := segFor_kept h
  rw [e] at g
  exact g

end Sys2Proof.Machine
end

