-- ==== Sys2Proof/Laws/Kept/Command.lean ====
section
/-! SUPPORT. What the operations of Machine/Command.lean keep: the waiting commands, what was sent, the stored tables. -/
namespace Sys2Proof.Machine

theorem sendReplyNow_kept {s0 : State} {x0 : Hdr} {x1 : Nat} {x2 : Nat} {x3 : List Byte} {x4 : State} (h : Kept s0 x4) :
    Kept s0 (sendReplyNow x0 x1 x2 x3 x4) := by
  unfold sendReplyNow
  try dsimp only
  with_reducible repeat' first
    | assumption | apply emit_kept | apply linkSend_kept | apply Kept.foldl | apply Kept4.of | simp only [Kept.mk_iff] | split | intro _

theorem holdOut_kept {s0 : State} {x0 : Hdr} {x1 : Nat} {x2 : Nat} {x3 : List Byte} {x4 : State} (h : Kept s0 x4) :
    Kept s0 (holdOut x0 x1 x2 x3 x4) := by
  unfold holdOut
  try dsimp only
  with_reducible repeat' first
    | assumption | apply addRec_kept | apply Kept.foldl | apply Kept4.of | simp only [Kept.mk_iff] | split | intro _

theorem sendReply_kept {s0 : State} {x0 : Hdr} {x1 : Nat} {x2 : Nat} {x3 : List Byte} {x4 : State} (h : Kept s0 x4) :
    Kept s0 (sendReply x0 x1 x2 x3 x4) := by
  unfold sendReply
  try dsimp only
  with_reducible repeat' first
    | assumption | apply holdOut_kept | apply sendReplyNow_kept | apply Kept.foldl | apply Kept4.of | simp only [Kept.mk_iff] | split | intro _

theorem setSess_kept {s0 : State} {x0 : Nat} {x1 : Sess} {x2 : State} (h : Kept s0 x2) :
    Kept s0 (setSess x0 x1 x2) := by
  unfold setSess
  try dsimp only
  with_reducible repeat' first
    | assumption | apply Kept.foldl | apply Kept4.of | simp only [Kept.mk_iff] | split | intro _

theorem hold_kept {s0 : State} {x0 : Held} {x1 : State} (h : Kept s0 x1) :
    Kept s0 (hold x0 x1) := by
  unfold hold
  try dsimp only
  with_reducible repeat' first
    | assumption | apply setSess_kept | apply Kept.foldl | apply Kept4.of | simp only [Kept.mk_iff] | split | intro _

theorem closeCmd_kept {s0 : State} {x0 : Hdr} {x1 : State} (h : Kept s0 x1) :
    Kept s0 (closeCmd x0 x1) := by
  unfold closeCmd
  try dsimp only
  with_reducible repeat' first
    | assumption | apply Kept.foldl | apply Kept4.of | simp only [Kept.mk_iff] | split | intro _

theorem finish_kept {s0 : State} {x0 : Hdr} {x1 : List Byte} {x2 : Nat} {x3 : Nat} {x4 : List Byte} {x5 : State} (h : Kept s0 x5) :
    Kept s0 (finish x0 x1 x2 x3 x4 x5) := by
  unfold finish
  try dsimp only
  with_reducible repeat' first
    | assumption | apply sendReply_kept | apply hold_kept | apply closeCmd_kept | apply Kept.foldl | apply Kept4.of | simp only [Kept.mk_iff] | split | intro _

theorem answer_kept {s0 : State} {h : Hdr} {p : List Byte} {a : Ans} {s : State} (ha : Ans.kept s0 a) (hs : Kept s0 s) :
    Kept s0 (answer h p a s) := by
  cases a with
  | fail st d => exact finish_kept hs
  | refuse st d => exact sendReply_kept hs
  | done data t => exact finish_kept ha
  | doneAtBeat eff t => exact Kept.same ha rfl rfl rfl rfl rfl
  | accept data eb eff t => exact postEntry_kept ha
  | stays t => exact ha

theorem runCmd_kept {s0 : State} {h : Hdr} {p : List Byte} {acc : Bool} {body : State → Ans} {s : State}
    (hb : ∀ t, Kept s0 t → Ans.kept s0 (body t)) (hs : Kept s0 s) : Kept s0 (runCmd h p acc body s) := by
  unfold runCmd
  repeat' first
    | with_reducible assumption | with_reducible apply finish_kept | with_reducible apply answer_kept | exact hb _ hs | split

end Sys2Proof.Machine
end

