-- ==== Sys2Proof/Laws/Kept/Param.lean ====
section
/-! SUPPORT. What the operations of Machine/Param.lean keep: the waiting commands, what was sent, the stored tables. -/
namespace Sys2Proof.Machine

theorem applyField_kept {s0 : State} {x0 : PWrite} {x1 : Fld} {x2 : State} (hf1 : x1.known) (h : Kept s0 x2) :
    Kept s0 (applyField x0 x1 x2) := by
  unfold applyField
  try dsimp only
  with_reducible repeat' first
    | assumption | apply wrI_kept | apply Kept.foldl | apply Kept4.of | simp only [Kept.mk_iff] | split | intro _

theorem writePage_kept {s0 s : State} {w : PWrite} (h : Kept s0 s) : Kept s0 (writePage w s) :=
  Kept.foldl_mem (fun _ hf _ ht => applyField_kept (pageFields_known hf) ht) h

theorem raiseCap_kept {s0 : State} {x0 : State} (h : Kept s0 x0) :
    Kept s0 (raiseCap x0) := by
  unfold raiseCap
  try dsimp only
  with_reducible repeat' first
    | assumption | apply wr_kept | apply logEv_kept | exact P04.POWER_CAP_known | apply Kept.foldl | apply Kept4.of | simp only [Kept.mk_iff] | split | intro _

end Sys2Proof.Machine
end

