-- ==== Sys2Proof/Laws/Kept/Brixrum.lean ====
section
/-! SUPPORT. What the operations of Machine/Brixrum.lean keep: the waiting commands, what was sent, the stored tables. -/
namespace Sys2Proof.Machine

theorem execNop_kept {s0 : State} {x0 : Hdr} {x1 : List Byte} {x2 : State} (h : Kept s0 x2) :
    Outcome.kept s0 (execNop x0 x1 x2) := by
  unfold execNop
  try dsimp only
  with_reducible repeat' first
    | assumption | apply Outcome.kept_next | apply runCmd_kept | exact Ans.kept_fail | exact Ans.kept_refuse | apply Ans.kept_done | apply Ans.kept_doneAtBeat | apply Ans.kept_accept | apply Ans.kept_stays | apply Kept.foldl | apply Kept4.of | simp only [Kept.mk_iff] | split | intro _

theorem openAdmit_kept {s0 : State} {x0 : Hdr} {x1 : State} (h : Kept s0 x1) :
    Kept s0 (openAdmit x0 x1) := by
  unfold openAdmit
  try dsimp only
  with_reducible repeat' first
    | assumption | apply setSess_kept | apply Kept.foldl | apply Kept4.of | simp only [Kept.mk_iff] | split | intro _

theorem openSession_kept {s0 : State} {x0 : Hdr} {x1 : List Byte} {x2 : State} (h : Kept s0 x2) :
    Kept s0 (openSession x0 x1 x2) := by
  unfold openSession
  try dsimp only
  with_reducible repeat' first
    | assumption | apply finish_kept | apply answer_kept | apply sendReply_kept | apply openAdmit_kept | exact Ans.kept_fail | exact Ans.kept_refuse | apply Ans.kept_done | apply Ans.kept_doneAtBeat | apply Ans.kept_accept | apply Ans.kept_stays | apply Kept.foldl | apply Kept4.of | simp only [Kept.mk_iff] | split | intro _

theorem execOpenSession_kept {s0 : State} {x0 : Hdr} {x1 : List Byte} {x2 : State} (h : Kept s0 x2) :
    Outcome.kept s0 (execOpenSession x0 x1 x2) := by
  unfold execOpenSession
  try dsimp only
  with_reducible repeat' first
    | assumption | apply Outcome.kept_next | apply openSession_kept | apply Kept.foldl | apply Kept4.of | simp only [Kept.mk_iff] | split | intro _

theorem effOpenSession_kept {s0 : State} {x0 : Hdr} {x1 : State} (h : Kept s0 x1) :
    Kept s0 (effOpenSession x0 x1) := by
  unfold effOpenSession
  try dsimp only
  with_reducible repeat' first
    | assumption | apply setSess_kept | apply Kept.foldl | apply Kept4.of | simp only [Kept.mk_iff] | split | intro _

theorem execCloseSession_kept {s0 : State} {x0 : Hdr} {x1 : List Byte} {x2 : State} (h : Kept s0 x2) :
    Outcome.kept s0 (execCloseSession x0 x1 x2) := by
  unfold execCloseSession
  try dsimp only
  with_reducible repeat' first
    | assumption | apply Outcome.kept_next | apply runCmd_kept | exact Ans.kept_fail | exact Ans.kept_refuse | apply Ans.kept_done | apply Ans.kept_doneAtBeat | apply Ans.kept_accept | apply Ans.kept_stays | apply Kept.foldl | apply Kept4.of | simp only [Kept.mk_iff] | split | intro _

theorem effCloseSession_kept {s0 : State} {x0 : Hdr} {x1 : State} (h : Kept s0 x1) :
    Kept s0 (effCloseSession x0 x1) := by
  unfold effCloseSession
  try dsimp only
  with_reducible repeat' first
    | assumption | apply setSess_kept | apply Kept.foldl | apply Kept4.of | simp only [Kept.mk_iff] | split | intro _

theorem execGetSession_kept {s0 : State} {x0 : Hdr} {x1 : List Byte} {x2 : State} (h : Kept s0 x2) :
    Outcome.kept s0 (execGetSession x0 x1 x2) := by
  unfold execGetSession
  try dsimp only
  with_reducible repeat' first
    | assumption | apply Outcome.kept_next | apply runCmd_kept | exact Ans.kept_fail | exact Ans.kept_refuse | apply Ans.kept_done | apply Ans.kept_doneAtBeat | apply Ans.kept_accept | apply Ans.kept_stays | apply Kept.foldl | apply Kept4.of | simp only [Kept.mk_iff] | split | intro _

theorem execGetStatus_kept {s0 : State} {x0 : Hdr} {x1 : List Byte} {x2 : State} (h : Kept s0 x2) :
    Outcome.kept s0 (execGetStatus x0 x1 x2) := by
  unfold execGetStatus
  try dsimp only
  with_reducible repeat' first
    | assumption | apply Outcome.kept_next | apply runCmd_kept | exact Ans.kept_fail | exact Ans.kept_refuse | apply Ans.kept_done | apply Ans.kept_doneAtBeat | apply Ans.kept_accept | apply Ans.kept_stays | apply Kept.foldl | apply Kept4.of | simp only [Kept.mk_iff] | split | intro _

theorem execPendingReply_kept {s0 : State} {x0 : Fin 16} {x1 : Nat} {x2 : Nat} {x3 : State} (h : Kept s0 x3) :
    Outcome.kept s0 (execPendingReply x0 x1 x2 x3) := by
  unfold execPendingReply
  try dsimp only
  with_reducible repeat' first
    | assumption | apply Outcome.kept_next | apply sendReply_kept | exact P01.REPLY_LIMIT_known | apply Kept.foldl | apply Kept4.of | simp only [Kept.mk_iff] | split | intro _

theorem execReorderGapExpire_kept {s0 : State} {x0 : Fin 16} {x1 : Nat} {x2 : State} (h : Kept s0 x2) :
    Outcome.kept s0 (execReorderGapExpire x0 x1 x2) := by
  unfold execReorderGapExpire
  try dsimp only
  with_reducible repeat' first
    | assumption | apply Outcome.kept_next | apply setSess_kept | exact P01.GAP_LIMIT_known | apply Kept.foldl | apply Kept4.of | simp only [Kept.mk_iff] | split | intro _

end Sys2Proof.Machine
end

