-- ==== Sys2Proof/Laws/Kept/Chain.lean ====
section
/-! SUPPORT. What the operations of Machine/Chain.lean keep: the waiting commands, what was sent, the stored tables. -/
namespace Sys2Proof.Machine

theorem upFld_known (p : Port) : (upFld p).known := by cases p <;> exact ⟨by decide, rfl⟩

theorem neighFld_known (p : Port) : (neighFld p).known := by cases p <;> exact ⟨by decide, rfl⟩

theorem setNeigh_kept {s0 : State} {x0 : Port} {x1 : Nat} {x2 : State} (h : Kept s0 x2) :
    Kept s0 (setNeigh x0 x1 x2) := by
  unfold setNeigh
  try dsimp only
  with_reducible repeat' first
    | assumption | apply wr_kept | exact neighFld_known _ | exact P02.NEIGHBOUR_U_known | apply Kept.foldl | apply Kept4.of | simp only [Kept.mk_iff] | split | intro _

theorem hear_kept {s0 : State} {x0 : Port} {x1 : Nat} {x2 : LinkCtl} {x3 : State} (h : Kept s0 x3) :
    Kept s0 (hear x0 x1 x2 x3) := by
  unfold hear
  try dsimp only
  with_reducible repeat' first
    | assumption | apply heardOn_kept | apply pump_kept | apply setNeigh_kept | apply setPort_kept | apply Kept.foldl | apply Kept4.of | simp only [Kept.mk_iff] | split | intro _

theorem portDown_kept {s0 : State} {x0 : Port} {x1 : State} (h : Kept s0 x1) :
    Kept s0 (portDown x0 x1) := by
  unfold portDown
  try dsimp only
  with_reducible repeat' first
    | assumption | apply wr_kept | apply logEv_kept | apply setPort_kept | exact upFld_known _ | apply Kept.foldl | apply Kept4.of | simp only [Kept.mk_iff] | split | intro _

theorem resendFrame_kept {s0 : State} {x0 : Port} {x1 : Nat × LinkPkt} {x2 : State} (h : Kept s0 x2) :
    Kept s0 (resendFrame x0 x1 x2) := by
  unfold resendFrame
  try dsimp only
  with_reducible repeat' first
    | assumption | apply emit_kept | apply sentOn_kept | apply setPort_kept | apply count_kept | apply Kept.foldl | apply Kept4.of | simp only [Kept.mk_iff] | split | intro _

theorem retransmit_kept {s0 : State} {x0 : Port} {x1 : State} (h : Kept s0 x1) :
    Kept s0 (retransmit x0 x1) := by
  unfold retransmit
  try dsimp only
  with_reducible repeat' first
    | assumption | apply resendFrame_kept | apply portDown_kept | apply setPort_kept | exact P02.LINK_RETRY_MAX_known | apply Kept.foldl | apply Kept4.of | simp only [Kept.mk_iff] | split | intro _

theorem execLinkAck_kept {s0 : State} {x0 : Port} {x1 : LinkCtl} {x2 : State} (h : Kept s0 x2) :
    Outcome.kept s0 (execLinkAck x0 x1 x2) := by
  unfold execLinkAck
  try dsimp only
  with_reducible repeat' first
    | assumption | apply Outcome.kept_next | apply hear_kept | apply Kept.foldl | apply Kept4.of | simp only [Kept.mk_iff] | split | intro _

theorem execLinkNack_kept {s0 : State} {x0 : Port} {x1 : LinkCtl} {x2 : State} (h : Kept s0 x2) :
    Outcome.kept s0 (execLinkNack x0 x1 x2) := by
  unfold execLinkNack
  try dsimp only
  with_reducible repeat' first
    | assumption | apply Outcome.kept_next | apply retransmit_kept | apply hear_kept | apply Kept.foldl | apply Kept4.of | simp only [Kept.mk_iff] | split | intro _

theorem execLinkRtoExpire_kept {s0 : State} {x0 : Port} {x1 : State} (h : Kept s0 x1) :
    Outcome.kept s0 (execLinkRtoExpire x0 x1) := by
  unfold execLinkRtoExpire
  try dsimp only
  with_reducible repeat' first
    | assumption | apply Outcome.kept_next | apply retransmit_kept | apply Kept.foldl | apply Kept4.of | simp only [Kept.mk_iff] | split | intro _

theorem checkNeighbour_kept {s0 : State} {x0 : Nat} {x1 : State} (h : Kept s0 x1) :
    Kept s0 (checkNeighbour x0 x1) := by
  unfold checkNeighbour
  try dsimp only
  with_reducible repeat' first
    | assumption | apply logEv_kept | apply Kept.foldl | apply Kept4.of | simp only [Kept.mk_iff] | split | intro _

theorem execLinkProbe_kept {s0 : State} {x0 : Port} {x1 : LinkCtl} {x2 : State} (h : Kept s0 x2) :
    Outcome.kept s0 (execLinkProbe x0 x1 x2) := by
  unfold execLinkProbe
  try dsimp only
  with_reducible repeat' first
    | assumption | apply Outcome.kept_next | apply hear_kept | apply sendCtl_kept | apply checkNeighbour_kept | apply Kept.foldl | apply Kept4.of | simp only [Kept.mk_iff] | split | intro _

theorem execLinkProbeSend_kept {s0 : State} {x0 : Port} {x1 : State} (h : Kept s0 x1) :
    Outcome.kept s0 (execLinkProbeSend x0 x1) := by
  unfold execLinkProbeSend
  try dsimp only
  with_reducible repeat' first
    | assumption | apply Outcome.kept_next | apply sendCtl_kept | exact P02.PROBE_MS_known | apply Kept.foldl | apply Kept4.of | simp only [Kept.mk_iff] | split | intro _

theorem execLinkUp_kept {s0 : State} {x0 : Port} {x1 : Nat} {x2 : State} (h : Kept s0 x2) :
    Outcome.kept s0 (execLinkUp x0 x1 x2) := by
  unfold execLinkUp
  try dsimp only
  with_reducible repeat' first
    | assumption | apply Outcome.kept_next | apply setNeigh_kept | apply wr_kept | apply logEv_kept | apply sendCtl_kept | apply setPort_kept | exact upFld_known _ | exact P02.LINK_HOLD_known | apply Kept.foldl | apply Kept4.of | simp only [Kept.mk_iff] | split | intro _

theorem execLinkResync_kept {s0 : State} {x0 : Port} {x1 : LinkCtl} {x2 : State} (h : Kept s0 x2) :
    Outcome.kept s0 (execLinkResync x0 x1 x2) := by
  unfold execLinkResync
  try dsimp only
  with_reducible repeat' first
    | assumption | apply Outcome.kept_next | apply heardOn_kept | apply pump_kept | apply setNeigh_kept | apply sendCtl_kept | apply setPort_kept | apply Kept.foldl | apply Kept4.of | simp only [Kept.mk_iff] | split | intro _

theorem execLinkHoldExpire_kept {s0 : State} {x0 : Port} {x1 : State} (h : Kept s0 x1) :
    Outcome.kept s0 (execLinkHoldExpire x0 x1) := by
  unfold execLinkHoldExpire
  try dsimp only
  with_reducible repeat' first
    | assumption | apply Outcome.kept_next | apply setPort_kept | exact P02.LINK_HOLD_known | apply Kept.foldl | apply Kept4.of | simp only [Kept.mk_iff] | split | intro _

theorem execLinkDown_kept {s0 : State} {x0 : Port} {x1 : Bool} {x2 : State} (h : Kept s0 x2) :
    Outcome.kept s0 (execLinkDown x0 x1 x2) := by
  unfold execLinkDown
  try dsimp only
  with_reducible repeat' first
    | assumption | apply Outcome.kept_next | apply portDown_kept | exact P02.LINK_DEAD_known | apply Kept.foldl | apply Kept4.of | simp only [Kept.mk_iff] | split | intro _

theorem execPauseFrameDrop_kept {s0 : State} {x0 : Port} {x1 : State} (h : Kept s0 x1) :
    Outcome.kept s0 (execPauseFrameDrop x0 x1) := by
  unfold execPauseFrameDrop
  try dsimp only
  with_reducible repeat' first
    | assumption | apply Outcome.kept_next | apply heardOn_kept | apply setPort_kept | apply Kept.foldl | apply Kept4.of | simp only [Kept.mk_iff] | split | intro _

theorem sendHeld_kept {s0 : State} {x0 : Held} {x1 : State} (h : Kept s0 x1) :
    Kept s0 (sendHeld x0 x1) := by
  unfold sendHeld
  try dsimp only
  with_reducible repeat' first
    | assumption | apply sendReplyNow_kept | apply Kept.foldl | apply Kept4.of | simp only [Kept.mk_iff] | split | intro _

theorem admitCmd_kept {s0 : State} {x0 : Hdr} {x1 : List Byte} {x2 : State} (h : Kept s0 x2) :
    Kept s0 (admitCmd x0 x1 x2) := by
  unfold admitCmd
  try dsimp only
  with_reducible repeat' first
    | assumption | apply setSess_kept | apply Kept.foldl | apply Kept4.of | simp only [Kept.mk_iff] | split | intro _

theorem admitEarly_kept {s0 : State} {x0 : Nat} {x1 : Nat} {x2 : State} (h : Kept s0 x2) :
    Kept s0 (admitEarly x0 x1 x2) := by
  induction x1 generalizing x0 x2 with
  | zero =>
    unfold admitEarly
    try dsimp only
    with_reducible repeat' first
      | assumption | apply admitCmd_kept | apply setSess_kept | apply Kept.foldl | apply Kept4.of | simp only [Kept.mk_iff] | split | intro _
  | succ k ih =>
    unfold admitEarly
    try dsimp only
    with_reducible repeat' first
      | assumption | apply ih | apply admitCmd_kept | apply setSess_kept | apply Kept.foldl | apply Kept4.of | simp only [Kept.mk_iff] | split | intro _

theorem answerHeld_kept {s0 : State} {x0 : Hdr} {x1 : List Byte} {x2 : Held} {x3 : State} (h : Kept s0 x3) :
    Kept s0 (answerHeld x0 x1 x2 x3) := by
  unfold answerHeld
  try dsimp only
  with_reducible repeat' first
    | assumption | apply sendHeld_kept | apply sendReply_kept | apply Kept.foldl | apply Kept4.of | simp only [Kept.mk_iff] | split | intro _

theorem answerOpen_kept {s0 : State} {x0 : Hdr} {x1 : List Byte} {x2 : OpenCmd} {x3 : State} (h : Kept s0 x3) :
    Kept s0 (answerOpen x0 x1 x2 x3) := by
  unfold answerOpen
  try dsimp only
  with_reducible repeat' first
    | assumption | apply sendReply_kept | apply Kept.foldl | apply Kept4.of | simp only [Kept.mk_iff] | split | intro _

theorem sessionRules_kept {s0 : State} {x0 : Hdr} {x1 : List Byte} {x2 : State} (h : Kept s0 x2) :
    Kept s0 (sessionRules x0 x1 x2) := by
  unfold sessionRules
  try dsimp only
  with_reducible repeat' first
    | assumption | apply admitCmd_kept | apply sendReply_kept | apply admitEarly_kept | apply openAdmit_kept | apply answerHeld_kept | apply setSess_kept | apply answerOpen_kept | apply Kept.foldl | apply Kept4.of | simp only [Kept.mk_iff] | split | intro _

theorem dropBroadcast_kept {s0 : State} {x0 : Nat} {x1 : State} (h : Kept s0 x1) :
    Kept s0 (dropBroadcast x0 x1) := by
  unfold dropBroadcast
  try dsimp only
  with_reducible repeat' first
    | assumption | apply Kept.foldl | apply Kept4.of | simp only [Kept.mk_iff] | split | intro _

theorem takePacket_kept {s0 : State} {x0 : List Byte} {x1 : State} (h : Kept s0 x1) :
    Kept s0 (takePacket x0 x1) := by
  unfold takePacket
  try dsimp only
  with_reducible repeat' first
    | assumption | apply dropBroadcast_kept | apply sendReply_kept | apply sessionRules_kept | apply Kept.foldl | apply Kept4.of | simp only [Kept.mk_iff] | split | intro _

theorem dropFwd_kept {s0 : State} {x0 : State} (h : Kept s0 x0) :
    Kept s0 (dropFwd x0) := by
  unfold dropFwd
  try dsimp only
  with_reducible repeat' first
    | assumption | apply Kept.foldl | apply Kept4.of | simp only [Kept.mk_iff] | split | intro _

theorem fwdDown_kept {s0 : State} {x0 : List Byte} {x1 : State} (h : Kept s0 x1) :
    Kept s0 (fwdDown x0 x1) := by
  unfold fwdDown
  try dsimp only
  with_reducible repeat' first
    | assumption | apply linkForward_kept | apply dropFwd_kept | apply Kept.foldl | apply Kept4.of | simp only [Kept.mk_iff] | split | intro _

theorem toThisChip_kept {s0 : State} {x0 : List Byte} {x1 : State} (h : Kept s0 x1) :
    Kept s0 (toThisChip x0 x1) := by
  unfold toThisChip
  try dsimp only
  with_reducible repeat' first
    | assumption | apply takePacket_kept | apply linkSend_kept | apply sendReplyNow_kept | apply Kept.foldl | apply Kept4.of | simp only [Kept.mk_iff] | split | intro _

theorem forward_kept {s0 : State} {x0 : Port} {x1 : List Byte} {x2 : State} (h : Kept s0 x2) :
    Kept s0 (forward x0 x1 x2) := by
  unfold forward
  try dsimp only
  with_reducible repeat' first
    | assumption | apply takePacket_kept | apply linkForward_kept | apply dropFwd_kept | apply toThisChip_kept | apply fwdDown_kept | apply Kept.foldl | apply Kept4.of | simp only [Kept.mk_iff] | split | intro _

theorem execLinkDataFrame_kept {s0 : State} {x0 : Port} {x1 : LinkFrame} {x2 : State} (h : Kept s0 x2) :
    Outcome.kept s0 (execLinkDataFrame x0 x1 x2) := by
  unfold execLinkDataFrame
  try dsimp only
  with_reducible repeat' first
    | assumption | apply Outcome.kept_next | apply heardOn_kept | apply hear_kept | apply forward_kept | apply sendCtl_kept | apply setPort_kept | exact P02.ETHERTYPE_known | apply Kept.foldl | apply Kept4.of | simp only [Kept.mk_iff] | split | intro _

theorem enumBody_kept {s0 : State} {x0 : Hdr} {x1 : List Byte} {x2 : State} (h : Kept s0 x2) :
    Ans.kept s0 (enumBody x0 x1 x2) := by
  unfold enumBody
  try dsimp only
  with_reducible repeat' first
    | assumption | exact P02.NEIGHBOUR_U_known | exact Ans.kept_fail | exact Ans.kept_refuse | apply Ans.kept_done | apply Ans.kept_doneAtBeat | apply Ans.kept_accept | apply Ans.kept_stays | apply Kept.foldl | apply Kept4.of | simp only [Kept.mk_iff] | split | intro _

theorem execEnumerate_kept {s0 : State} {x0 : Hdr} {x1 : List Byte} {x2 : State} (h : Kept s0 x2) :
    Outcome.kept s0 (execEnumerate x0 x1 x2) := by
  unfold execEnumerate
  try dsimp only
  with_reducible repeat' first
    | assumption | apply Outcome.kept_next | apply runCmd_kept | apply enumBody_kept | exact Ans.kept_fail | exact Ans.kept_refuse | apply Ans.kept_done | apply Ans.kept_doneAtBeat | apply Ans.kept_accept | apply Ans.kept_stays | apply Kept.foldl | apply Kept4.of | simp only [Kept.mk_iff] | split | intro _

theorem execGetLinkStatus_kept {s0 : State} {x0 : Hdr} {x1 : List Byte} {x2 : State} (h : Kept s0 x2) :
    Outcome.kept s0 (execGetLinkStatus x0 x1 x2) := by
  unfold execGetLinkStatus
  try dsimp only
  with_reducible repeat' first
    | assumption | apply Outcome.kept_next | apply runCmd_kept | exact Ans.kept_fail | exact Ans.kept_refuse | apply Ans.kept_done | apply Ans.kept_doneAtBeat | apply Ans.kept_accept | apply Ans.kept_stays | apply Kept.foldl | apply Kept4.of | simp only [Kept.mk_iff] | split | intro _

theorem execPdelayReqSend_kept {s0 : State} {x0 : Port} {x1 : State} (h : Kept s0 x1) :
    Outcome.kept s0 (execPdelayReqSend x0 x1) := by
  unfold execPdelayReqSend
  try dsimp only
  with_reducible repeat' first
    | assumption | apply Outcome.kept_next | apply emit_kept | apply sentOn_kept | apply setPort_kept | apply Kept.foldl | apply Kept4.of | simp only [Kept.mk_iff] | split | intro _

theorem otherDomain_kept {s0 : State} {x0 : State} (h : Kept s0 x0) :
    Kept s0 (otherDomain x0) := by
  unfold otherDomain
  try dsimp only
  with_reducible repeat' first
    | assumption | apply Kept.foldl | apply Kept4.of | simp only [Kept.mk_iff] | split | intro _

theorem execPdelayReq_kept {s0 : State} {x0 : Port} {x1 : Nat} {x2 : Int} {x3 : State} (h : Kept s0 x3) :
    Outcome.kept s0 (execPdelayReq x0 x1 x2 x3) := by
  unfold execPdelayReq
  try dsimp only
  with_reducible repeat' first
    | assumption | apply Outcome.kept_next | apply otherDomain_kept | apply heardOn_kept | apply emit_kept | apply sentOn_kept | exact P03.PTP_DOMAIN_known | apply Kept.foldl | apply Kept4.of | simp only [Kept.mk_iff] | split | intro _

theorem execPdelayResp_kept {s0 : State} {x0 : Port} {x1 : Nat} {x2 : Int} {x3 : State} (h : Kept s0 x3) :
    Outcome.kept s0 (execPdelayResp x0 x1 x2 x3) := by
  unfold execPdelayResp
  try dsimp only
  with_reducible repeat' first
    | assumption | apply Outcome.kept_next | apply otherDomain_kept | apply heardOn_kept | apply setPort_kept | exact P03.PTP_DOMAIN_known | apply Kept.foldl | apply Kept4.of | simp only [Kept.mk_iff] | split | intro _

theorem execAnnounceForward_kept {s0 : State} {x0 : List Byte} {x1 : State} (h : Kept s0 x1) :
    Outcome.kept s0 (execAnnounceForward x0 x1) := by
  unfold execAnnounceForward
  try dsimp only
  with_reducible repeat' first
    | assumption | apply Outcome.kept_next | apply heardOn_kept | apply emit_kept | apply sentOn_kept | apply Kept.foldl | apply Kept4.of | simp only [Kept.mk_iff] | split | intro _

end Sys2Proof.Machine
end

