-- ==== Sys2Proof/Laws/Kept/Plumb.lean ====
section
/-! SUPPORT. What the operations of Machine/Plumb.lean keep: the waiting commands, what was sent, the stored tables. -/
namespace Sys2Proof.Machine

theorem servo_kept {s0 : State} {x0 : Int} {x1 : State} (h : Kept s0 x1) :
    Kept s0 (servo x0 x1) := by
  unfold servo
  try dsimp only
  with_reducible repeat' first
    | assumption | apply wrS_kept | exact P03.SERVO_KI_known | exact P03.OFFSET_NS_known | exact P03.RATE_PPB_known | exact P03.SERVO_KP_known | apply Kept.foldl | apply Kept4.of | simp only [Kept.mk_iff] | split | intro _

theorem offsetEpisode_kept {s0 : State} {x0 : Int} {x1 : State} (h : Kept s0 x1) :
    Kept s0 (offsetEpisode x0 x1) := by
  unfold offsetEpisode
  try dsimp only
  with_reducible repeat' first
    | assumption | apply logEv_kept | apply Kept.foldl | apply Kept4.of | simp only [Kept.mk_iff] | split | intro _

theorem establish_kept {s0 : State} {x0 : State} (h : Kept s0 x0) :
    Kept s0 (establish x0) := by
  unfold establish
  try dsimp only
  with_reducible repeat' first
    | assumption | apply Kept.foldl | apply Kept4.of | simp only [Kept.mk_iff] | split | intro _

theorem tryRun_kept {s0 : State} {x0 : State} (h : Kept s0 x0) :
    Kept s0 (tryRun x0) := by
  unfold tryRun
  try dsimp only
  with_reducible repeat' first
    | assumption | apply logEv_kept | apply Kept.foldl | apply Kept4.of | simp only [Kept.mk_iff] | split | intro _

theorem closeOpen_kept {s0 : State} {x0 : State} (h : Kept s0 x0) :
    Kept s0 (closeOpen x0) := by
  unfold closeOpen
  try dsimp only
  with_reducible repeat' first
    | assumption | apply takeWaiting_kept | apply Kept.foldl | apply Kept4.of | simp only [Kept.mk_iff] | split | intro _

theorem loadBeat_kept {s0 : State} {x0 : State} (h : Kept s0 x0) :
    Kept s0 (loadBeat x0) := by
  unfold loadBeat
  try dsimp only
  with_reducible repeat' first
    | assumption | apply tryRun_kept | apply closeOpen_kept | apply Kept.foldl | apply Kept4.of | simp only [Kept.mk_iff] | split | intro _

theorem checkDiverged_kept {s0 : State} {x0 : State} (h : Kept s0 x0) :
    Kept s0 (checkDiverged x0) := by
  unfold checkDiverged
  try dsimp only
  with_reducible repeat' first
    | assumption | apply wrB_kept | apply logEv_kept | exact P03.SLOT_DIVERGED_known | exact P03.LEGAL_DIVERGED_known | exact P03.ADJ_LIMIT_known | apply Kept.foldl | apply Kept4.of | simp only [Kept.mk_iff] | split | intro _

theorem radioSlotStep_kept {s0 : State} {x0 : Int} {x1 : State} (h : Kept s0 x1) :
    Kept s0 (radioSlotStep x0 x1) := by
  unfold radioSlotStep
  try dsimp only
  with_reducible repeat' first
    | assumption | apply Kept.foldl | apply Kept4.of | simp only [Kept.mk_iff] | split | intro _

theorem stepSlot_kept {s0 : State} {x0 : Int} {x1 : State} (h : Kept s0 x1) :
    Kept s0 (stepSlot x0 x1) := by
  unfold stepSlot
  try dsimp only
  with_reducible repeat' first
    | assumption | apply checkDiverged_kept | apply radioSlotStep_kept | apply wr_kept | apply establish_kept | exact P03.SLOT_STEPPED_known | apply Kept.foldl | apply Kept4.of | simp only [Kept.mk_iff] | split | intro _

theorem slotStepDue_kept {s0 : State} {x0 : State} (h : Kept s0 x0) :
    Kept s0 (slotStepDue x0) := by
  unfold slotStepDue
  try dsimp only
  with_reducible repeat' first
    | assumption | apply stepSlot_kept | apply Kept.foldl | apply Kept4.of | simp only [Kept.mk_iff] | split | intro _

theorem plumbReached_kept {s0 : State} {x0 : Nat} {x1 : State} (h : Kept s0 x1) :
    Kept s0 (plumbReached x0 x1) := by
  unfold plumbReached
  try dsimp only
  with_reducible repeat' first
    | assumption | apply loadBeat_kept | apply slotStepDue_kept | apply wr_kept | apply establish_kept | exact P03.PLUMB_STATE_known | apply Kept.foldl | apply Kept4.of | simp only [Kept.mk_iff] | split | intro _

theorem stepChain_kept {s0 : State} {x0 : Int} {x1 : State} (h : Kept s0 x1) :
    Kept s0 (stepChain x0 x1) := by
  unfold stepChain
  try dsimp only
  with_reducible repeat' first
    | assumption | apply wr_kept | exact P03.PLUMB_STATE_known | apply Kept.foldl | apply Kept4.of | simp only [Kept.mk_iff] | split | intro _

theorem lockCount_kept {s0 : State} {x0 : Int} {x1 : State} (h : Kept s0 x1) :
    Kept s0 (lockCount x0 x1) := by
  unfold lockCount
  try dsimp only
  with_reducible repeat' first
    | assumption | apply plumbReached_kept | exact P03.LOCK_NS_known | apply Kept.foldl | apply Kept4.of | simp only [Kept.mk_iff] | split | intro _

theorem takeOffset_kept {s0 : State} {x0 : Int} {x1 : State} (h : Kept s0 x1) :
    Kept s0 (takeOffset x0 x1) := by
  unfold takeOffset
  try dsimp only
  with_reducible repeat' first
    | assumption | apply servo_kept | apply offsetEpisode_kept | apply lockCount_kept | apply stepChain_kept | apply wr_kept | exact P03.PLUMB_STATE_known | apply Kept.foldl | apply Kept4.of | simp only [Kept.mk_iff] | split | intro _

theorem forwardSync_kept {s0 : State} {x0 : SyncMsg} {x1 : State} (h : Kept s0 x1) :
    Kept s0 (forwardSync x0 x1) := by
  unfold forwardSync
  try dsimp only
  with_reducible repeat' first
    | assumption | apply emit_kept | apply sentOn_kept | apply Kept.foldl | apply Kept4.of | simp only [Kept.mk_iff] | split | intro _

theorem execSync_kept {s0 : State} {x0 : SyncMsg} {x1 : State} (h : Kept s0 x1) :
    Outcome.kept s0 (execSync x0 x1) := by
  unfold execSync
  try dsimp only
  with_reducible repeat' first
    | assumption | apply Outcome.kept_next | apply otherDomain_kept | apply heardOn_kept | apply forwardSync_kept | apply takeOffset_kept | exact P03.PTP_DOMAIN_known | apply Kept.foldl | apply Kept4.of | simp only [Kept.mk_iff] | split | intro _

theorem execSyncLossExpire_kept {s0 : State} {x0 : State} (h : Kept s0 x0) :
    Outcome.kept s0 (execSyncLossExpire x0) := by
  unfold execSyncLossExpire
  try dsimp only
  with_reducible repeat' first
    | assumption | apply Outcome.kept_next | apply wrS_kept | apply wr_kept | exact P03.SERVO_KI_known | exact P03.PLUMB_STATE_known | exact P03.RATE_PPB_known | apply Kept.foldl | apply Kept4.of | simp only [Kept.mk_iff] | split | intro _

theorem execStartWaitExpire_kept {s0 : State} {x0 : State} (h : Kept s0 x0) :
    Outcome.kept s0 (execStartWaitExpire x0) := by
  unfold execStartWaitExpire
  try dsimp only
  with_reducible repeat' first
    | assumption | apply Outcome.kept_next | apply plumbReached_kept | exact P03.START_WAIT_known | exact P03.PLUMB_STATE_known | exact P03.PLUMB_FREE_known | apply Kept.foldl | apply Kept4.of | simp only [Kept.mk_iff] | split | intro _

theorem stepLegal_kept {s0 : State} {x0 : Int} {x1 : State} (h : Kept s0 x1) :
    Kept s0 (stepLegal x0 x1) := by
  unfold stepLegal
  try dsimp only
  with_reducible repeat' first
    | assumption | apply checkDiverged_kept | apply wr_kept | apply logEv_kept | apply establish_kept | exact P03.LEGAL_INVALID_known | exact P03.LEGAL_DIVERGED_known | exact P03.LEGAL_COMMISSIONED_known | apply Kept.foldl | apply Kept4.of | simp only [Kept.mk_iff] | split | intro _

theorem legalTimeBody_kept {s0 : State} {x0 : List Byte} {x1 : Instr} {x2 : Bool} {x3 : State} (h : Kept s0 x3) :
    Ans.kept s0 (legalTimeBody x0 x1 x2 x3) := by
  unfold legalTimeBody
  try dsimp only
  with_reducible repeat' first
    | assumption | exact P03.LEGAL_INVALID_known | exact P03.LEGAL_DIVERGED_known | exact P03.LEGAL_COMMISSIONED_known | exact Ans.kept_fail | exact Ans.kept_refuse | apply Ans.kept_done | apply Ans.kept_doneAtBeat | apply Ans.kept_accept | apply Ans.kept_stays | apply Kept.foldl | apply Kept4.of | simp only [Kept.mk_iff] | split | intro _

theorem execSetLegalTime_kept {s0 : State} {x0 : Hdr} {x1 : List Byte} {x2 : Bool} {x3 : State} (h : Kept s0 x3) :
    Outcome.kept s0 (execSetLegalTime x0 x1 x2 x3) := by
  unfold execSetLegalTime
  try dsimp only
  with_reducible repeat' first
    | assumption | apply Outcome.kept_next | apply runCmd_kept | apply legalTimeBody_kept | exact Ans.kept_fail | exact Ans.kept_refuse | apply Ans.kept_done | apply Ans.kept_doneAtBeat | apply Ans.kept_accept | apply Ans.kept_stays | apply Kept.foldl | apply Kept4.of | simp only [Kept.mk_iff] | split | intro _

theorem effSetLegalTime_kept {s0 : State} {x0 : Eff} {x1 : State} (h : Kept s0 x1) :
    Kept s0 (effSetLegalTime x0 x1) := by
  unfold effSetLegalTime
  try dsimp only
  with_reducible repeat' first
    | assumption | apply wr_kept | exact P30.AUTH_COUNT_known | apply Kept.foldl | apply Kept4.of | simp only [Kept.mk_iff] | split | intro _

theorem execSetSlotTime_kept {s0 : State} {x0 : Hdr} {x1 : List Byte} {x2 : State} (h : Kept s0 x2) :
    Outcome.kept s0 (execSetSlotTime x0 x1 x2) := by
  unfold execSetSlotTime
  try dsimp only
  with_reducible repeat' first
    | assumption | apply Outcome.kept_next | apply runCmd_kept | exact P03.SLOT_STEPPED_known | exact Ans.kept_fail | exact Ans.kept_refuse | apply Ans.kept_done | apply Ans.kept_doneAtBeat | apply Ans.kept_accept | apply Ans.kept_stays | apply Kept.foldl | apply Kept4.of | simp only [Kept.mk_iff] | split | intro _

theorem effSetSlotTime_kept {s0 : State} {x0 : Eff} {x1 : State} (h : Kept s0 x1) :
    Kept s0 (effSetSlotTime x0 x1) := by
  unfold effSetSlotTime
  try dsimp only
  with_reducible repeat' first
    | assumption | apply stepSlot_kept | exact P03.SLOT_STEPPED_known | apply Kept.foldl | apply Kept4.of | simp only [Kept.mk_iff] | split | intro _

theorem execGetTime_kept {s0 : State} {x0 : Hdr} {x1 : List Byte} {x2 : State} (h : Kept s0 x2) :
    Outcome.kept s0 (execGetTime x0 x1 x2) := by
  unfold execGetTime
  try dsimp only
  with_reducible repeat' first
    | assumption | apply Outcome.kept_next | apply runCmd_kept | exact Ans.kept_fail | exact Ans.kept_refuse | apply Ans.kept_done | apply Ans.kept_doneAtBeat | apply Ans.kept_accept | apply Ans.kept_stays | apply Kept.foldl | apply Kept4.of | simp only [Kept.mk_iff] | split | intro _

/-- The clock moves here and nowhere else. -/
theorem advanceBeat_kept {s0 s : State} (h : Kept s0 s) : Kept s0.ticked (advanceBeat s) := by
  unfold advanceBeat State.ticked
  refine ⟨h.pending, h.sent, fun x => h.tidy x, ?_⟩
  dsimp only
  rw [← h.ticks]
  split <;> rfl

theorem trimBeat_kept {s0 : State} {x0 : State} (h : Kept s0 x0) :
    Kept s0 (trimBeat x0) := by
  unfold trimBeat
  try dsimp only
  with_reducible repeat' first
    | assumption | apply wr_kept | apply logEv_kept | exact P03.BEAT_DETACHED_known | apply Kept.foldl | apply Kept4.of | simp only [Kept.mk_iff] | split | intro _

theorem slew_kept {s0 : State} {x0 : State} (h : Kept s0 x0) :
    Kept s0 (slew x0) := by
  unfold slew
  try dsimp only
  with_reducible repeat' first
    | assumption | exact P03.LEGAL_DIVERGED_known | exact P03.SLOT_SLEW_known | exact P03.LEGAL_SLEW_known | apply Kept.foldl | apply Kept4.of | simp only [Kept.mk_iff] | split | intro _

theorem execPpsInEdge_kept {s0 : State} {x0 : Nat} {x1 : State} (h : Kept s0 x1) :
    Outcome.kept s0 (execPpsInEdge x0 x1) := by
  unfold execPpsInEdge
  try dsimp only
  with_reducible repeat' first
    | assumption | apply Outcome.kept_next | apply servo_kept | apply wrS_kept | exact P03.PPS_IN_EN_known | exact P03.PPS_IN_DISC_known | exact P03.PLUMB_STATE_known | exact P03.PPS_IN_OFFSET_known | apply Kept.foldl | apply Kept4.of | simp only [Kept.mk_iff] | split | intro _

theorem execPpsOutPulse_kept {s0 : State} {x0 : State} (h : Kept s0 x0) :
    Outcome.kept s0 (execPpsOutPulse x0) := by
  unfold execPpsOutPulse
  try dsimp only
  with_reducible repeat' first
    | assumption | apply Outcome.kept_next | exact P03.PPS_OUT_WIDTH_known | apply Kept.foldl | apply Kept4.of | simp only [Kept.mk_iff] | split | intro _

theorem ppsFalls_kept {s0 : State} {x0 : State} (h : Kept s0 x0) :
    Kept s0 (ppsFalls x0) := by
  unfold ppsFalls
  try dsimp only
  with_reducible repeat' first
    | assumption | apply Kept.foldl | apply Kept4.of | simp only [Kept.mk_iff] | split | intro _

end Sys2Proof.Machine
end

