-- ==== Sys2Proof/Laws/Kept/LedgerRows.lean ====
section
/-! SUPPORT. What the operations of Machine/LedgerRows.lean keep: the waiting commands, what was sent, the stored tables. -/
namespace Sys2Proof.Machine

theorem sealEntry_kept {s0 : State} {x0 : Entry} {x1 : Nat} {x2 : State} (h : Kept s0 x2) :
    Kept s0 (sealEntry x0 x1 x2).1 := by
  unfold sealEntry
  try dsimp only
  with_reducible repeat' first
    | assumption | apply wr_kept | exact P12.NEXT_LSEQ_known | apply Kept.foldl | apply Kept4.of | simp only [Kept.mk_iff] | split | intro _

theorem sealEntry_pair {s0 : State} {x0 : Entry} {x1 : Nat} {x2 : State} {y : State} {z} (e : (sealEntry x0 x1 x2) = (y, z)) (h : Kept s0 x2) :
    Kept s0 y := by
  have g : Kept s0 (sealEntry x0 x1 x2).1 := sealEntry_kept h
  rw [e] at g
  exact g

theorem sealEntries_kept {s0 : State} {x0 : List (Entry × Nat)} {x1 : State} (h : Kept s0 x1) :
    Kept s0 (sealEntries x0 x1).1 := by
  induction x0 generalizing x1 with
  | nil =>
    unfold sealEntries
    try dsimp only
    with_reducible repeat' first
      | assumption | apply sealEntry_kept | refine sealEntry_pair (by assumption) ?_ | apply Kept.foldl | apply Kept4.of | simp only [Kept.mk_iff] | split | intro _
  | cons y l ih =>
    unfold sealEntries
    try dsimp only
    with_reducible repeat' first
      | assumption | apply ih | refine (ih ?_).of_pair (by assumption) | apply sealEntry_kept | refine sealEntry_pair (by assumption) ?_ | apply Kept.foldl | apply Kept4.of | simp only [Kept.mk_iff] | split | intro _

theorem sealEntries_pair {s0 : State} {x0 : List (Entry × Nat)} {x1 : State} {y : State} {z} (e : (sealEntries x0 x1) = (y, z)) (h : Kept s0 x1) :
    Kept s0 y := by
  have g : Kept s0 (sealEntries x0 x1).1 := sealEntries_kept h
  rw [e] at g
  exact g

theorem placePages_kept {s0 : State} {x0 : List Nat} {x1 : State} (h : Kept s0 x1) :
    Kept s0 (placePages x0 x1).1 := by
  induction x0 generalizing x1 with
  | nil =>
    unfold placePages
    try dsimp only
    with_reducible repeat' first
      | assumption | apply segFor_kept | refine segFor_pair (by assumption) ?_ | apply Kept.foldl | apply Kept4.of | simp only [Kept.mk_iff] | split | intro _
  | cons y l ih =>
    unfold placePages
    try dsimp only
    with_reducible repeat' first
      | assumption | apply ih | refine (ih ?_).of_pair (by assumption) | apply segFor_kept | refine segFor_pair (by assumption) ?_ | apply Kept.foldl | apply Kept4.of | simp only [Kept.mk_iff] | split | intro _

theorem placePages_pair {s0 : State} {x0 : List Nat} {x1 : State} {y : State} {z} (e : (placePages x0 x1) = (y, z)) (h : Kept s0 x1) :
    Kept s0 y := by
  have g : Kept s0 (placePages x0 x1).1 := placePages_kept h
  rw [e] at g
  exact g

theorem programCopy_kept {s0 : State} {x0 : Chan} {x1 : PageRec} {x2 : State} (h : Kept s0 x2) :
    Kept s0 (programCopy x0 x1 x2) := by
  unfold programCopy
  try dsimp only
  with_reducible repeat' first
    | assumption | apply program_kept | apply Kept.foldl | apply Kept4.of | simp only [Kept.mk_iff] | split | intro _

theorem programGroup_kept {s0 : State} {x0 : Group} {x1 : State} (h : Kept s0 x1) :
    Kept s0 (programGroup x0 x1) := by
  unfold programGroup
  try dsimp only
  with_reducible repeat' first
    | assumption | apply programCopy_kept | apply Kept.foldl | apply Kept4.of | simp only [Kept.mk_iff] | split | intro _

theorem checkSpace_kept {s0 : State} {x0 : State} (h : Kept s0 x0) :
    Kept s0 (checkSpace x0) := by
  unfold checkSpace
  try dsimp only
  with_reducible repeat' first
    | assumption | apply wr_kept | apply logEv_kept | exact P12.WORN_known | exact P12.READONLY_known | apply Kept.foldl | apply Kept4.of | simp only [Kept.mk_iff] | split | intro _

theorem forgetXseq_kept {s0 : State} {x0 : Nat} {x1 : State} (h : Kept s0 x1) :
    Kept s0 (forgetXseq x0 x1) := by
  unfold forgetXseq
  try dsimp only
  with_reducible repeat' first
    | assumption | apply Kept.foldl | apply Kept4.of | simp only [Kept.mk_iff] | split | intro _

theorem openAtSeal_kept {s0 : State} {x0 : List Byte} {x1 : State} (h : Kept s0 x1) :
    Kept s0 (openAtSeal x0 x1) := by
  unfold openAtSeal
  try dsimp only
  with_reducible repeat' first
    | assumption | apply forgetXseq_kept | apply Kept.foldl | apply Kept4.of | simp only [Kept.mk_iff] | split | intro _

theorem sealOpens_kept {s0 : State} {x0 : List Entry} {x1 : State} (h : Kept s0 x1) :
    Kept s0 (sealOpens x0 x1) := by
  unfold sealOpens
  try dsimp only
  with_reducible repeat' first
    | assumption | apply openAtSeal_kept | apply Kept.foldl | apply Kept4.of | simp only [Kept.mk_iff] | split | intro _

theorem sealGroup_kept {s0 : State} {x0 : List Entry} {x1 : State} (h : Kept s0 x1) :
    Kept s0 (sealGroup x0 x1) := by
  unfold sealGroup
  try dsimp only
  with_reducible repeat' first
    | assumption | apply addRec_kept | apply sealOpens_kept | apply placePages_kept | refine placePages_pair (by assumption) ?_ | apply sealEntries_kept | refine sealEntries_pair (by assumption) ?_ | apply programGroup_kept | apply Kept.foldl | apply Kept4.of | simp only [Kept.mk_iff] | split | intro _

theorem execLedgerGroupSeal_kept {s0 : State} {x0 : State} (h : Kept s0 x0) :
    Outcome.kept s0 (execLedgerGroupSeal x0) := by
  unfold execLedgerGroupSeal
  try dsimp only
  with_reducible repeat' first
    | assumption | apply Outcome.kept_next | apply checkSpace_kept | apply sealGroup_kept | exact P12.NO_DIE_PAIR_known | apply Kept.foldl | apply Kept4.of | simp only [Kept.mk_iff] | split | intro _

theorem mapGroups_kept {s0 : State} {x0 : Group → Group} {x1 : State} (h : Kept s0 x1) :
    Kept s0 (mapGroups x0 x1) := by
  unfold mapGroups
  try dsimp only
  with_reducible repeat' first
    | assumption | apply Kept.foldl | apply Kept4.of | simp only [Kept.mk_iff] | split | intro _

theorem modGroup_kept {s0 : State} {x0 : Nat} {x1 : Group → Group} {x2 : State} (h : Kept s0 x2) :
    Kept s0 (modGroup x0 x1 x2) := by
  unfold modGroup
  try dsimp only
  with_reducible repeat' first
    | assumption | apply mapGroups_kept | apply Kept.foldl | apply Kept4.of | simp only [Kept.mk_iff] | split | intro _

theorem modCopy_kept {s0 : State} {x0 : Nat} {x1 : Nat} {x2 : Chan} {x3 : Nat} {x4 : CopySt} {x5 : State} (h : Kept s0 x5) :
    Kept s0 (modCopy x0 x1 x2 x3 x4 x5) := by
  unfold modCopy
  try dsimp only
  with_reducible repeat' first
    | assumption | apply modGroup_kept | apply Kept.foldl | apply Kept4.of | simp only [Kept.mk_iff] | split | intro _

theorem placeCopy_kept {s0 : State} {x0 : Nat} {x1 : Nat} {x2 : Chan} {x3 : Nat} {x4 : CopySt} {x5 : State} (h : Kept s0 x5) :
    Kept s0 (placeCopy x0 x1 x2 x3 x4 x5) := by
  unfold placeCopy
  try dsimp only
  with_reducible repeat' first
    | assumption | apply modGroup_kept | apply modCopy_kept | apply segFor_kept | refine segFor_pair (by assumption) ?_ | apply programCopy_kept | apply Kept.foldl | apply Kept4.of | simp only [Kept.mk_iff] | split | intro _

theorem moveCopies_kept {s0 : State} {x0 : Chan} {x1 : Nat} {x2 : List (Nat × Nat × CopySt)} {x3 : State} (h : Kept s0 x3) :
    Kept s0 (moveCopies x0 x1 x2 x3) := by
  unfold moveCopies
  try dsimp only
  with_reducible repeat' first
    | assumption | apply placeCopy_kept | apply Kept.foldl | apply Kept4.of | simp only [Kept.mk_iff] | split | intro _

theorem failLedger_kept {s0 : State} {x0 : Chan} {x1 : Nat} {x2 : Nat} {x3 : Nat} {x4 : State} (h : Kept s0 x4) :
    Kept s0 (failLedger x0 x1 x2 x3 x4) := by
  unfold failLedger
  try dsimp only
  with_reducible repeat' first
    | assumption | apply retireBlk_kept | apply closeSeg_kept | apply moveCopies_kept | apply Kept.foldl | apply Kept4.of | simp only [Kept.mk_iff] | split | intro _

theorem repFields_kept {s0 : State} {x0 : State} (h : Kept s0 x0) :
    Kept s0 (repFields x0) := by
  unfold repFields
  try dsimp only
  with_reducible repeat' first
    | assumption | apply wr_kept | exact P12.REREPLICATE_known | exact P12.DIE_PAIRS_known | apply Kept.foldl | apply Kept4.of | simp only [Kept.mk_iff] | split | intro _

theorem rewriteCopy_kept {s0 : State} {x0 : Nat} {x1 : Nat} {x2 : Chan} {x3 : PageRec} {x4 : State} (h : Kept s0 x4) :
    Kept s0 (rewriteCopy x0 x1 x2 x3 x4) := by
  unfold rewriteCopy
  try dsimp only
  with_reducible repeat' first
    | assumption | apply retireBlk_kept | apply modGroup_kept | apply bump_kept | apply failLedger_kept | apply placeCopy_kept | apply wr_kept | apply modCopy_kept | exact P12.REWRITES_known | exact P12.NO_DIE_PAIR_known | apply Kept.foldl | apply Kept4.of | simp only [Kept.mk_iff] | split | intro _

theorem execPageProgramDone_kept {s0 : State} {x0 : Nat} {x1 : Nat} {x2 : Chan} {x3 : Bool} {x4 : State} (h : Kept s0 x4) :
    Outcome.kept s0 (execPageProgramDone x0 x1 x2 x3 x4) := by
  unfold execPageProgramDone
  try dsimp only
  with_reducible repeat' first
    | assumption | apply Outcome.kept_next | apply rewriteCopy_kept | apply modCopy_kept | apply count_kept | apply Kept.foldl | apply Kept4.of | simp only [Kept.mk_iff] | split | intro _

theorem execCopyVerified_kept {s0 : State} {x0 : Nat} {x1 : Nat} {x2 : Chan} {x3 : Nat} {x4 : Bool} {x5 : State} (h : Kept s0 x5) :
    Outcome.kept s0 (execCopyVerified x0 x1 x2 x3 x4 x5) := by
  unfold execCopyVerified
  try dsimp only
  with_reducible repeat' first
    | assumption | apply Outcome.kept_next | apply rewriteCopy_kept | apply repFields_kept | apply modCopy_kept | apply Kept.foldl | apply Kept4.of | simp only [Kept.mk_iff] | split | intro _

theorem accRec_kept {s0 : State} {x0 : Nat} {x1 : State} (h : Kept s0 x1) :
    Kept s0 (accRec x0 x1) := by
  unfold accRec
  try dsimp only
  with_reducible repeat' first
    | assumption | apply addRec_kept | apply Kept.foldl | apply Kept4.of | simp only [Kept.mk_iff] | split | intro _

theorem execGroupAccept_kept {s0 : State} {x0 : State} (h : Kept s0 x0) :
    Outcome.kept s0 (execGroupAccept x0) := by
  unfold execGroupAccept
  try dsimp only
  with_reducible repeat' first
    | assumption | apply Outcome.kept_next | apply modGroup_kept | apply wr_kept | apply accRec_kept | exact P12.LAST_GROUP_known | apply Kept.foldl | apply Kept4.of | simp only [Kept.mk_iff] | split | intro _

theorem loseCopies_kept {s0 : State} {x0 : Chan} {x1 : Nat} {x2 : State} (h : Kept s0 x2) :
    Kept s0 (loseCopies x0 x1 x2) := by
  unfold loseCopies
  try dsimp only
  with_reducible repeat' first
    | assumption | apply closeSeg_kept | apply mapGroups_kept | apply moveCopies_kept | apply Kept.foldl | apply Kept4.of | simp only [Kept.mk_iff] | split | intro _

theorem replaceCopies_kept {s0 : State} {x0 : State} (h : Kept s0 x0) :
    Kept s0 (replaceCopies x0) := by
  unfold replaceCopies
  try dsimp only
  with_reducible repeat' first
    | assumption | apply placeCopy_kept | apply Kept.foldl | apply Kept4.of | simp only [Kept.mk_iff] | split | intro _

theorem noteRewrites_kept {s0 : State} {x0 : List (Nat × Nat × Chan)} {x1 : State} (h : Kept s0 x1) :
    Kept s0 (noteRewrites x0 x1) := by
  unfold noteRewrites
  try dsimp only
  with_reducible repeat' first
    | assumption | apply bumpI_kept | exact P12.REWRITES_known | apply Kept.foldl | apply Kept4.of | simp only [Kept.mk_iff] | split | intro _

theorem execLedgerDieLost_kept {s0 : State} {x0 : Chan} {x1 : Fin 16} {x2 : State} (h : Kept s0 x2) :
    Outcome.kept s0 (execLedgerDieLost x0 x1 x2) := by
  unfold execLedgerDieLost
  try dsimp only
  with_reducible repeat' first
    | assumption | apply Outcome.kept_next | apply repFields_kept | apply wr_kept | apply logEv_kept | apply loseCopies_kept | apply noteRewrites_kept | exact P12.NO_DIE_PAIR_known | exact P12.SINGLE_COPY_known | apply Kept.foldl | apply Kept4.of | simp only [Kept.mk_iff] | split | intro _

theorem execRereplicationDone_kept {s0 : State} {x0 : State} (h : Kept s0 x0) :
    Outcome.kept s0 (execRereplicationDone x0) := by
  unfold execRereplicationDone
  try dsimp only
  with_reducible repeat' first
    | assumption | apply Outcome.kept_next | apply repFields_kept | apply wr_kept | exact P12.SINGLE_COPY_known | apply Kept.foldl | apply Kept4.of | simp only [Kept.mk_iff] | split | intro _

theorem execLedgerWorn_kept {s0 : State} {x0 : State} (h : Kept s0 x0) :
    Outcome.kept s0 (execLedgerWorn x0) := by
  unfold execLedgerWorn
  try dsimp only
  with_reducible repeat' first
    | assumption | apply Outcome.kept_next | apply wr_kept | apply logEv_kept | exact P12.WORN_known | exact P12.READONLY_known | exact P41.WORN_known | apply Kept.foldl | apply Kept4.of | simp only [Kept.mk_iff] | split | intro _

theorem setStream_kept {s0 : State} {x0 : Nat} {x1 : ExpStream} {x2 : State} (h : Kept s0 x2) :
    Kept s0 (setStream x0 x1 x2) := by
  unfold setStream
  try dsimp only
  with_reducible repeat' first
    | assumption | apply wr_kept | exact P12.STREAMS_OPEN_known | apply Kept.foldl | apply Kept4.of | simp only [Kept.mk_iff] | split | intro _

theorem exportOpenBody_kept {s0 : State} {x0 : Hdr} {x1 : List Byte} {x2 : State} (h : Kept s0 x2) :
    Ans.kept s0 (exportOpenBody x0 x1 x2) := by
  unfold exportOpenBody
  try dsimp only
  with_reducible repeat' first
    | assumption | exact Ans.kept_fail | exact Ans.kept_refuse | apply Ans.kept_done | apply Ans.kept_doneAtBeat | apply Ans.kept_accept | apply Ans.kept_stays | apply Kept.foldl | apply Kept4.of | simp only [Kept.mk_iff] | split | intro _

theorem execExportOpen_kept {s0 : State} {x0 : Hdr} {x1 : List Byte} {x2 : State} (h : Kept s0 x2) :
    Outcome.kept s0 (execExportOpen x0 x1 x2) := by
  unfold execExportOpen
  try dsimp only
  with_reducible repeat' first
    | assumption | apply Outcome.kept_next | apply runCmd_kept | apply exportOpenBody_kept | exact Ans.kept_fail | exact Ans.kept_refuse | apply Ans.kept_done | apply Ans.kept_doneAtBeat | apply Ans.kept_accept | apply Ans.kept_stays | apply Kept.foldl | apply Kept4.of | simp only [Kept.mk_iff] | split | intro _

theorem effExportOpen_kept {s0 : State} {x0 : Eff} {x1 : State} (h : Kept s0 x1) :
    Kept s0 (effExportOpen x0 x1) := by
  unfold effExportOpen
  try dsimp only
  with_reducible repeat' first
    | assumption | apply setStream_kept | apply Kept.foldl | apply Kept4.of | simp only [Kept.mk_iff] | split | intro _

theorem exportReadBody_kept {s0 : State} {x0 : List Byte} {x1 : State} (h : Kept s0 x1) :
    Ans.kept s0 (exportReadBody x0 x1) := by
  unfold exportReadBody
  try dsimp only
  with_reducible repeat' first
    | assumption | exact Ans.kept_fail | exact Ans.kept_refuse | apply Ans.kept_done | apply Ans.kept_doneAtBeat | apply Ans.kept_accept | apply Ans.kept_stays | apply Kept.foldl | apply Kept4.of | simp only [Kept.mk_iff] | split | intro _

theorem execExportRead_kept {s0 : State} {x0 : Hdr} {x1 : List Byte} {x2 : State} (h : Kept s0 x2) :
    Outcome.kept s0 (execExportRead x0 x1 x2) := by
  unfold execExportRead
  try dsimp only
  with_reducible repeat' first
    | assumption | apply Outcome.kept_next | apply runCmd_kept | apply exportReadBody_kept | exact Ans.kept_fail | exact Ans.kept_refuse | apply Ans.kept_done | apply Ans.kept_doneAtBeat | apply Ans.kept_accept | apply Ans.kept_stays | apply Kept.foldl | apply Kept4.of | simp only [Kept.mk_iff] | split | intro _

theorem exportAckBody_kept {s0 : State} {x0 : Hdr} {x1 : List Byte} {x2 : State} (h : Kept s0 x2) :
    Ans.kept s0 (exportAckBody x0 x1 x2) := by
  unfold exportAckBody
  try dsimp only
  with_reducible repeat' first
    | assumption | exact Ans.kept_fail | exact Ans.kept_refuse | apply Ans.kept_done | apply Ans.kept_doneAtBeat | apply Ans.kept_accept | apply Ans.kept_stays | apply Kept.foldl | apply Kept4.of | simp only [Kept.mk_iff] | split | intro _

theorem execExportAck_kept {s0 : State} {x0 : Hdr} {x1 : List Byte} {x2 : State} (h : Kept s0 x2) :
    Outcome.kept s0 (execExportAck x0 x1 x2) := by
  unfold execExportAck
  try dsimp only
  with_reducible repeat' first
    | assumption | apply Outcome.kept_next | apply runCmd_kept | apply exportAckBody_kept | exact Ans.kept_fail | exact Ans.kept_refuse | apply Ans.kept_done | apply Ans.kept_doneAtBeat | apply Ans.kept_accept | apply Ans.kept_stays | apply Kept.foldl | apply Kept4.of | simp only [Kept.mk_iff] | split | intro _

theorem effExportAck_kept {s0 : State} {x0 : Eff} {x1 : State} (h : Kept s0 x1) :
    Kept s0 (effExportAck x0 x1) := by
  unfold effExportAck
  try dsimp only
  with_reducible repeat' first
    | assumption | apply setStream_kept | apply Kept.foldl | apply Kept4.of | simp only [Kept.mk_iff] | split | intro _

theorem execExportClose_kept {s0 : State} {x0 : Hdr} {x1 : List Byte} {x2 : State} (h : Kept s0 x2) :
    Outcome.kept s0 (execExportClose x0 x1 x2) := by
  unfold execExportClose
  try dsimp only
  with_reducible repeat' first
    | assumption | apply Outcome.kept_next | apply runCmd_kept | exact Ans.kept_fail | exact Ans.kept_refuse | apply Ans.kept_done | apply Ans.kept_doneAtBeat | apply Ans.kept_accept | apply Ans.kept_stays | apply Kept.foldl | apply Kept4.of | simp only [Kept.mk_iff] | split | intro _

theorem effExportClose_kept {s0 : State} {x0 : Eff} {x1 : State} (h : Kept s0 x1) :
    Kept s0 (effExportClose x0 x1) := by
  unfold effExportClose
  try dsimp only
  with_reducible repeat' first
    | assumption | apply setStream_kept | apply Kept.foldl | apply Kept4.of | simp only [Kept.mk_iff] | split | intro _

theorem execLedgerQuery_kept {s0 : State} {x0 : Hdr} {x1 : List Byte} {x2 : State} (h : Kept s0 x2) :
    Outcome.kept s0 (execLedgerQuery x0 x1 x2) := by
  unfold execLedgerQuery
  try dsimp only
  with_reducible repeat' first
    | assumption | apply Outcome.kept_next | apply runCmd_kept | exact Ans.kept_fail | exact Ans.kept_refuse | apply Ans.kept_done | apply Ans.kept_doneAtBeat | apply Ans.kept_accept | apply Ans.kept_stays | apply Kept.foldl | apply Kept4.of | simp only [Kept.mk_iff] | split | intro _

theorem rollSec_kept {s0 : State} {x0 : State} (h : Kept s0 x0) :
    Kept s0 (rollSec x0) := by
  unfold rollSec
  try dsimp only
  with_reducible repeat' first
    | assumption | apply Kept.foldl | apply Kept4.of | simp only [Kept.mk_iff] | split | intro _

theorem execLedgerStatus_kept {s0 : State} {x0 : Hdr} {x1 : List Byte} {x2 : State} (h : Kept s0 x2) :
    Outcome.kept s0 (execLedgerStatus x0 x1 x2) := by
  unfold execLedgerStatus
  try dsimp only
  with_reducible repeat' first
    | assumption | apply Outcome.kept_next | apply runCmd_kept | exact Ans.kept_fail | exact Ans.kept_refuse | apply Ans.kept_done | apply Ans.kept_doneAtBeat | apply Ans.kept_accept | apply Ans.kept_stays | apply Kept.foldl | apply Kept4.of | simp only [Kept.mk_iff] | split | intro _

end Sys2Proof.Machine
end

