-- ==== Sys2Proof/Laws/Kept/Ftl.lean ====
section
/-! SUPPORT. What the operations of Machine/Ftl.lean keep: the waiting commands, what was sent, the stored tables. -/
namespace Sys2Proof.Machine

theorem execJournalCommit_kept {s0 : State} {x0 : State} (h : Kept s0 x0) :
    Outcome.kept s0 (execJournalCommit x0) := by
  unfold execJournalCommit
  try dsimp only
  with_reducible repeat' first
    | assumption | apply Outcome.kept_next | apply spend_kept | apply commitPending_kept | apply Kept.foldl | apply Kept4.of | simp only [Kept.mk_iff] | split | intro _

theorem execJournalMsExpire_kept {s0 : State} {x0 : State} (h : Kept s0 x0) :
    Outcome.kept s0 (execJournalMsExpire x0) := by
  unfold execJournalMsExpire
  try dsimp only
  with_reducible repeat' first
    | assumption | apply Outcome.kept_next | apply spend_kept | apply commitPending_kept | exact P41.JOURNAL_MS_known | apply Kept.foldl | apply Kept4.of | simp only [Kept.mk_iff] | split | intro _

theorem releaseSystem_kept {s0 : State} {x0 : List Blk} {x1 : State} (h : Kept s0 x1) :
    Kept s0 (releaseSystem x0 x1) := by
  unfold releaseSystem
  try dsimp only
  with_reducible repeat' first
    | assumption | apply setBlkSt_kept | apply postRec_kept | apply Kept.foldl | apply Kept4.of | simp only [Kept.mk_iff] | split | intro _

theorem execFtlSnapshot_kept {s0 : State} {x0 : State} (h : Kept s0 x0) :
    Outcome.kept s0 (execFtlSnapshot x0) := by
  unfold execFtlSnapshot
  try dsimp only
  with_reducible repeat' first
    | assumption | apply Outcome.kept_next | apply postRec_kept | apply spend_kept | apply takeSystem_kept | apply releaseSystem_kept | apply commitPending_kept | exact P41.SNAP_PAGES_known | apply Kept.foldl | apply Kept4.of | simp only [Kept.mk_iff] | split | intro _

theorem execEraseFail_kept {s0 : State} {x0 : Chan} {x1 : Nat} {x2 : Nat} {x3 : State} (h : Kept s0 x3) :
    Outcome.kept s0 (execEraseFail x0 x1 x2 x3) := by
  unfold execEraseFail
  try dsimp only
  with_reducible repeat' first
    | assumption | apply Outcome.kept_next | apply retireBlk_kept | apply Kept.foldl | apply Kept4.of | simp only [Kept.mk_iff] | split | intro _

theorem execEraseDone_kept {s0 : State} {x0 : Chan} {x1 : Nat} {x2 : Nat} {x3 : State} (h : Kept s0 x3) :
    Outcome.kept s0 (execEraseDone x0 x1 x2 x3) := by
  unfold execEraseDone
  try dsimp only
  with_reducible repeat' first
    | assumption | apply Outcome.kept_next | apply postRec_kept | apply Kept.foldl | apply Kept4.of | simp only [Kept.mk_iff] | split | intro _

theorem rewriteRead_kept {s0 : State} {x0 : PageRead} {x1 : State} (h : Kept s0 x1) :
    Kept s0 (rewriteRead x0 x1) := by
  unfold rewriteRead
  try dsimp only
  with_reducible repeat' first
    | assumption | apply writeCopy_kept | apply moveCopies_kept | apply Kept.foldl | apply Kept4.of | simp only [Kept.mk_iff] | split | intro _

theorem failRead_kept {s0 : State} {x0 : PageRead} {x1 : State} (h : Kept s0 x1) :
    Kept s0 (failRead x0 x1) := by
  unfold failRead
  try dsimp only
  with_reducible repeat' first
    | assumption | apply failBlk_kept | apply failLedger_kept | apply Kept.foldl | apply Kept4.of | simp only [Kept.mk_iff] | split | intro _

theorem afterRead_kept {s0 : State} {x0 : PageRead} {x1 : State} (h : Kept s0 x1) :
    Kept s0 (afterRead x0 x1) := by
  unfold afterRead
  try dsimp only
  with_reducible repeat' first
    | assumption | apply rewriteRead_kept | apply bump_kept | apply failRead_kept | exact P41.UNCORR_RECOVERED_known | exact P41.REFRESH_BITS_known | exact P41.REFRESHES_known | apply Kept.foldl | apply Kept4.of | simp only [Kept.mk_iff] | split | intro _

theorem execReadRefresh_kept {s0 : State} {x0 : PageRead} {x1 : State} (h : Kept s0 x1) :
    Outcome.kept s0 (execReadRefresh x0 x1) := by
  unfold execReadRefresh
  try dsimp only
  with_reducible repeat' first
    | assumption | apply Outcome.kept_next | apply afterRead_kept | apply Kept.foldl | apply Kept4.of | simp only [Kept.mk_iff] | split | intro _

theorem execPatrolRead_kept {s0 : State} {x0 : PageRead} {x1 : State} (h : Kept s0 x1) :
    Outcome.kept s0 (execPatrolRead x0 x1) := by
  unfold execPatrolRead
  try dsimp only
  with_reducible repeat' first
    | assumption | apply Outcome.kept_next | apply spend_kept | apply afterRead_kept | apply Kept.foldl | apply Kept4.of | simp only [Kept.mk_iff] | split | intro _

theorem execFlashDieLost_kept {s0 : State} {x0 : Chan} {x1 : Fin 16} {x2 : Bool} {x3 : State} (h : Kept s0 x3) :
    Outcome.kept s0 (execFlashDieLost x0 x1 x2 x3) := by
  unfold execFlashDieLost
  try dsimp only
  with_reducible repeat' first
    | assumption | apply Outcome.kept_next | apply postRec_kept | apply wr_kept | apply logEv_kept | apply postItem_kept | apply commitPending_kept | exact P41.MAP_SINGLE_known | apply Kept.foldl | apply Kept4.of | simp only [Kept.mk_iff] | split | intro _

theorem rereplicate_kept {s0 : State} {x0 : State} (h : Kept s0 x0) :
    Kept s0 (rereplicate x0) := by
  unfold rereplicate
  try dsimp only
  with_reducible repeat' first
    | assumption | apply writeCopy_kept | apply wr_kept | exact P41.MAP_SINGLE_known | apply Kept.foldl | apply Kept4.of | simp only [Kept.mk_iff] | split | intro _

theorem postGc_kept {s0 : State} {x0 : Nat} {x1 : Chan} {x2 : Nat} {x3 : State} (h : Kept s0 x3) :
    Kept s0 (postGc x0 x1 x2 x3) := by
  unfold postGc
  try dsimp only
  with_reducible repeat' first
    | assumption | apply postItem_kept | apply Kept.foldl | apply Kept4.of | simp only [Kept.mk_iff] | split | intro _

theorem execGcPost_kept {s0 : State} {x0 : Nat} {x1 : Chan} {x2 : State} (h : Kept s0 x2) :
    Outcome.kept s0 (execGcPost x0 x1 x2) := by
  unfold execGcPost
  try dsimp only
  with_reducible repeat' first
    | assumption | apply Outcome.kept_next | apply postGc_kept | apply Kept.foldl | apply Kept4.of | simp only [Kept.mk_iff] | split | intro _

theorem pendErase_kept {s0 : State} {x0 : Blk} {x1 : State} (h : Kept s0 x1) :
    Kept s0 (pendErase x0 x1) := by
  unfold pendErase
  try dsimp only
  with_reducible repeat' first
    | assumption | apply setBlkSt_kept | apply postRec_kept | apply commitPending_kept | apply Kept.foldl | apply Kept4.of | simp only [Kept.mk_iff] | split | intro _

theorem emptyBlk_kept {s0 : State} {x0 : Blk} {x1 : State} (h : Kept s0 x1) :
    Kept s0 (emptyBlk x0 x1) := by
  unfold emptyBlk
  try dsimp only
  with_reducible repeat' first
    | assumption | apply pendErase_kept | apply relocate_kept | apply Kept.foldl | apply Kept4.of | simp only [Kept.mk_iff] | split | intro _

theorem gcCollect_kept {s0 : State} {x0 : Nat} {x1 : Chan} {x2 : State} (h : Kept s0 x2) :
    Kept s0 (gcCollect x0 x1 x2) := by
  unfold gcCollect
  try dsimp only
  with_reducible repeat' first
    | assumption | apply postGc_kept | apply emptyBlk_kept | apply Kept.foldl | apply Kept4.of | simp only [Kept.mk_iff] | split | intro _

theorem openWarm_kept {s0 : State} {x0 : Chan} {x1 : Nat} {x2 : State} (h : Kept s0 x2) :
    Kept s0 (openWarm x0 x1 x2).1 := by
  unfold openWarm
  try dsimp only
  with_reducible repeat' first
    | assumption | apply openFresh_kept | apply openAgain_kept | apply Kept.foldl | apply Kept4.of | simp only [Kept.mk_iff] | split | intro _

theorem openWarm_pair {s0 : State} {x0 : Chan} {x1 : Nat} {x2 : State} {y : State} {z} (e : (openWarm x0 x1 x2) = (y, z)) (h : Kept s0 x2) :
    Kept s0 y := by
  have g : Kept s0 (openWarm x0 x1 x2).1 := openWarm_kept h
  rw [e] at g
  exact g

theorem takeIn_kept {s0 : State} {x0 : Chan} {x1 : Nat × Nat} {x2 : State} (h : Kept s0 x2) :
    Kept s0 (takeIn x0 x1 x2).1 := by
  unfold takeIn
  try dsimp only
  with_reducible repeat' first
    | assumption | apply takeFrom_kept | refine takeFrom_pair (by assumption) ?_ | apply Kept.foldl | apply Kept4.of | simp only [Kept.mk_iff] | split | intro _

theorem takeIn_pair {s0 : State} {x0 : Chan} {x1 : Nat × Nat} {x2 : State} {y : State} {z} (e : (takeIn x0 x1 x2) = (y, z)) (h : Kept s0 x2) :
    Kept s0 y := by
  have g : Kept s0 (takeIn x0 x1 x2).1 := takeIn_kept h
  rw [e] at g
  exact g

theorem moveCopy_kept {s0 : State} {x0 : Chan} {x1 : Nat × Nat} {x2 : Nat} {x3 : Nat} {x4 : State} (h : Kept s0 x4) :
    Kept s0 (moveCopy x0 x1 x2 x3 x4) := by
  unfold moveCopy
  try dsimp only
  with_reducible repeat' first
    | assumption | apply copyTo_kept | apply takeIn_kept | refine takeIn_pair (by assumption) ?_ | apply Kept.foldl | apply Kept4.of | simp only [Kept.mk_iff] | split | intro _

theorem moveSeg_kept {s0 : State} {x0 : Chan} {x1 : Nat} {x2 : Nat × Nat} {x3 : State} (h : Kept s0 x3) :
    Kept s0 (moveSeg x0 x1 x2 x3) := by
  unfold moveSeg
  try dsimp only
  with_reducible repeat' first
    | assumption | apply postRec_kept | apply mapGroups_kept | apply Kept.foldl | apply Kept4.of | simp only [Kept.mk_iff] | split | intro _

theorem levelBlk_kept {s0 : State} {x0 : Blk} {x1 : State} (h : Kept s0 x1) :
    Kept s0 (levelBlk x0 x1) := by
  unfold levelBlk
  try dsimp only
  with_reducible repeat' first
    | assumption | apply bump_kept | apply moveCopy_kept | apply closeBlk_kept | apply openWarm_kept | refine openWarm_pair (by assumption) ?_ | apply pendErase_kept | apply moveSeg_kept | exact P41.WL_MOVES_known | apply Kept.foldl | apply Kept4.of | simp only [Kept.mk_iff] | split | intro _

theorem execWearLevelMove_kept {s0 : State} {x0 : Chan} {x1 : State} (h : Kept s0 x1) :
    Outcome.kept s0 (execWearLevelMove x0 x1) := by
  unfold execWearLevelMove
  try dsimp only
  with_reducible repeat' first
    | assumption | apply Outcome.kept_next | apply spend_kept | apply levelBlk_kept | apply Kept.foldl | apply Kept4.of | simp only [Kept.mk_iff] | split | intro _

theorem execFtlStatus_kept {s0 : State} {x0 : Hdr} {x1 : List Byte} {x2 : State} (h : Kept s0 x2) :
    Outcome.kept s0 (execFtlStatus x0 x1 x2) := by
  unfold execFtlStatus
  try dsimp only
  with_reducible repeat' first
    | assumption | apply Outcome.kept_next | apply runCmd_kept | exact Ans.kept_fail | exact Ans.kept_refuse | apply Ans.kept_done | apply Ans.kept_doneAtBeat | apply Ans.kept_accept | apply Ans.kept_stays | apply Kept.foldl | apply Kept4.of | simp only [Kept.mk_iff] | split | intro _

end Sys2Proof.Machine
end

