-- ==== Sys2Proof/Laws/Kept/Den.lean ====
section
/-! SUPPORT. What the operations of Machine/Den.lean keep: the waiting commands, what was sent, the stored tables. -/
namespace Sys2Proof.Machine

theorem senseOne_kept {s0 : State} {x0 : Int} {x1 : Nat} {x2 : Int} {x3 : State} (h : Kept s0 x3) :
    Kept s0 (senseOne x0 x1 x2 x3) := by
  unfold senseOne
  try dsimp only
  with_reducible repeat' first
    | assumption | apply logEv_kept | apply Kept.foldl | apply Kept4.of | simp only [Kept.mk_iff] | split | intro _

theorem senseAll_kept {s0 : State} {x0 : List Int} {x1 : State} (h : Kept s0 x1) :
    Kept s0 (senseAll x0 x1) := by
  unfold senseAll
  try dsimp only
  with_reducible repeat' first
    | assumption | apply senseOne_kept | apply Kept.foldl | apply Kept4.of | simp only [Kept.mk_iff] | split | intro _

theorem execDenSensorRestored_kept {s0 : State} {x0 : Fin 6} {x1 : State} (h : Kept s0 x1) :
    Outcome.kept s0 (execDenSensorRestored x0 x1) := by
  unfold execDenSensorRestored
  try dsimp only
  with_reducible repeat' first
    | assumption | apply Outcome.kept_next | apply Kept.foldl | apply Kept4.of | simp only [Kept.mk_iff] | split | intro _

theorem sensorsLost_kept {s0 : State} {x0 : State} (h : Kept s0 x0) :
    Kept s0 (sensorsLost x0) := by
  unfold sensorsLost
  try dsimp only
  with_reducible repeat' first
    | assumption | apply logEv_kept | apply Kept.foldl | apply Kept4.of | simp only [Kept.mk_iff] | split | intro _

theorem denBudget_kept {s0 : State} {x0 : List Int} {x1 : State} (h : Kept s0 x1) :
    Kept s0 (denBudget x0 x1) := by
  unfold denBudget
  try dsimp only
  with_reducible repeat' first
    | assumption | apply wrB_kept | apply senseAll_kept | apply wrS_kept | apply wr_kept | apply sensorsLost_kept | exact P04.T_HOT_known | exact P04.TH_VALID_known | exact P04.TRIM_THERMAL_known | apply Kept.foldl | apply Kept4.of | simp only [Kept.mk_iff] | split | intro _

theorem holdAccept_kept {s0 : State} {x0 : Nat} {x1 : Nat} {x2 : State} (h : Kept s0 x2) :
    Kept s0 (holdAccept x0 x1 x2) := by
  unfold holdAccept
  try dsimp only
  with_reducible repeat' first
    | assumption | apply wr_kept | apply logEv_kept | exact P04.ACCEPT_STOPPED_known | apply Kept.foldl | apply Kept4.of | simp only [Kept.mk_iff] | split | intro _

theorem trimMode_kept {s0 : State} {x0 : State} (h : Kept s0 x0) :
    Kept s0 (trimMode x0) := by
  unfold trimMode
  try dsimp only
  with_reducible repeat' first
    | assumption | apply Kept.foldl | apply Kept4.of | simp only [Kept.mk_iff] | split | intro _

theorem denHoldup_kept {s0 : State} {x0 : List Nat} {x1 : State} (h : Kept s0 x1) :
    Kept s0 (denHoldup x0 x1) := by
  unfold denHoldup
  try dsimp only
  with_reducible repeat' first
    | assumption | apply wrB_kept | apply holdAccept_kept | apply wr_kept | apply trimMode_kept | exact P04.LIMIT_L_known | exact P04.TRIM_HOLDUP_known | exact P04.LIMIT_M_known | exact P04.E_HOLD_known | exact P04.MAP_SHARE_known | apply Kept.foldl | apply Kept4.of | simp only [Kept.mk_iff] | split | intro _

theorem demandCheckpoint_kept {s0 : State} {x0 : State} (h : Kept s0 x0) :
    Kept s0 (demandCheckpoint x0) := by
  unfold demandCheckpoint
  try dsimp only
  with_reducible repeat' first
    | assumption | apply logEv_kept | exact P04.LIMIT_L_known | exact P04.LIMIT_M_known | apply Kept.foldl | apply Kept4.of | simp only [Kept.mk_iff] | split | intro _

end Sys2Proof.Machine
end

