-- ==== Sys2Proof/Laws/Kept/Sett.lean ====
section
/-! SUPPORT. What the operations of Machine/Sett.lean keep: the waiting commands, what was sent, the stored tables. -/
namespace Sys2Proof.Machine

theorem countDeferred_kept {s0 : State} {x0 : List Nat} {x1 : State} (h : Kept s0 x1) :
    Kept s0 (countDeferred x0 x1) := by
  unfold countDeferred
  try dsimp only
  with_reducible repeat' first
    | assumption | apply count_kept | apply Kept.foldl | apply Kept4.of | simp only [Kept.mk_iff] | split | intro _

theorem settDispatch_kept {s0 : State} {x0 : State} (h : Kept s0 x0) :
    Kept s0 (settDispatch x0).1 := by
  unfold settDispatch
  try dsimp only
  with_reducible repeat' first
    | assumption | apply countDeferred_kept | apply count_kept | apply Kept.foldl | apply Kept4.of | simp only [Kept.mk_iff] | split | intro _

theorem settDispatch_pair {s0 : State} {x0 : State} {y : State} {z} (e : (settDispatch x0) = (y, z)) (h : Kept s0 x0) :
    Kept s0 y := by
  have g : Kept s0 (settDispatch x0).1 := settDispatch_kept h
  rw [e] at g
  exact g

theorem execItemOwed_kept {s0 : State} {x0 : State} (h : Kept s0 x0) :
    Outcome.kept s0 (execItemOwed x0) := by
  unfold execItemOwed
  try dsimp only
  with_reducible repeat' first
    | assumption | apply Outcome.kept_next | apply Kept.foldl | apply Kept4.of | simp only [Kept.mk_iff] | split | intro _

end Sys2Proof.Machine
end

