-- ==== Sys2Proof/Laws/Kept/Fifo.lean ====
section
/-! SUPPORT. What the operations of Machine/Fifo.lean keep: the waiting commands, what was sent, the stored tables. -/
namespace Sys2Proof.Machine

theorem setFifo_kept {s0 : State} {x0 : Nat} {x1 : Fifo} {x2 : State} (h : Kept s0 x2) :
    Kept s0 (setFifo x0 x1 x2) := by
  unfold setFifo
  try dsimp only
  with_reducible repeat' first
    | assumption | apply Kept.foldl | apply Kept4.of | simp only [Kept.mk_iff] | split | intro _

theorem putItemW_kept {s0 s : State} {n : Nat} {it : FifoItem} {w : Nat} (h : Kept s0 s) {y : State}
    (e : putItemW n it w s = some y) : Kept s0 y := by
  unfold putItemW at e
  dsimp only at e
  split at e
  · split at e
    · cases e; exact setFifo_kept h
    · cases e
  · cases e

theorem putItem_kept {s0 s : State} {n : Nat} {it : FifoItem} (h : Kept s0 s) {y : State}
    (e : putItem n it s = some y) : Kept s0 y := putItemW_kept h e

theorem execFifoBankClose_kept {s0 : State} {x0 : Fin 32} {x1 : State} (h : Kept s0 x1) :
    Outcome.kept s0 (execFifoBankClose x0 x1) := by
  unfold execFifoBankClose
  try dsimp only
  with_reducible repeat' first
    | assumption | apply Outcome.kept_next | apply setFifo_kept | apply Kept.foldl | apply Kept4.of | simp only [Kept.mk_iff] | split | intro _

theorem execHoldAssert_kept {s0 : State} {x0 : Fin 32} {x1 : State} (h : Kept s0 x1) :
    Outcome.kept s0 (execHoldAssert x0 x1) := by
  unfold execHoldAssert
  try dsimp only
  with_reducible repeat' first
    | assumption | apply Outcome.kept_next | apply Kept.foldl | apply Kept4.of | simp only [Kept.mk_iff] | split | intro _

theorem execHoldRelease_kept {s0 : State} {x0 : Fin 32} {x1 : State} (h : Kept s0 x1) :
    Outcome.kept s0 (execHoldRelease x0 x1) := by
  unfold execHoldRelease
  try dsimp only
  with_reducible repeat' first
    | assumption | apply Outcome.kept_next | apply Kept.foldl | apply Kept4.of | simp only [Kept.mk_iff] | split | intro _

end Sys2Proof.Machine
end

