-- ==== Sys2Proof/Laws/Kept/Presence.lean ====
section
/-! SUPPORT. What the operations of Machine/Presence.lean keep: the waiting commands, what was sent, the stored tables. -/
namespace Sys2Proof.Machine

theorem modMeter_kept {s0 : State} {x0 : Nat} {x1 : Meter → Meter} {x2 : State} (h : Kept s0 x2) :
    Kept s0 (modMeter x0 x1 x2) := by
  unfold modMeter
  try dsimp only
  with_reducible repeat' first
    | assumption | apply Kept.foldl | apply Kept4.of | simp only [Kept.mk_iff] | split | intro _

theorem setPres_kept {s0 : State} {x0 : Nat} {x1 : Nat} {x2 : Presence} {x3 : State} (h : Kept s0 x3) :
    Kept s0 (setPres x0 x1 x2 x3) := by
  unfold setPres
  try dsimp only
  with_reducible repeat' first
    | assumption | apply Kept.foldl | apply Kept4.of | simp only [Kept.mk_iff] | split | intro _

theorem markPending_kept {s0 : State} {x0 : Nat} {x1 : Nat} {x2 : Nat} {x3 : State} (h : Kept s0 x3) :
    Kept s0 (markPending x0 x1 x2 x3) := by
  unfold markPending
  try dsimp only
  with_reducible repeat' first
    | assumption | apply setPres_kept | apply Kept.foldl | apply Kept4.of | simp only [Kept.mk_iff] | split | intro _

theorem acceptSlot_kept {s0 : State} {x0 : Nat} {x1 : Nat} {x2 : Nat} {x3 : Bool} {x4 : State} (h : Kept s0 x4) :
    Kept s0 (acceptSlot x0 x1 x2 x3 x4) := by
  unfold acceptSlot
  try dsimp only
  with_reducible repeat' first
    | assumption | apply setPres_kept | apply Kept.foldl | apply Kept4.of | simp only [Kept.mk_iff] | split | intro _

theorem revertSlot_kept {s0 : State} {x0 : Nat} {x1 : Nat} {x2 : Nat} {x3 : State} (h : Kept s0 x3) :
    Kept s0 (revertSlot x0 x1 x2 x3) := by
  unfold revertSlot
  try dsimp only
  with_reducible repeat' first
    | assumption | apply setPres_kept | apply Kept.foldl | apply Kept4.of | simp only [Kept.mk_iff] | split | intro _

theorem modFrame_kept {s0 : State} {x0 : Nat} {x1 : FrameRec → FrameRec} {x2 : State} (h : Kept s0 x2) :
    Kept s0 (modFrame x0 x1 x2) := by
  unfold modFrame
  try dsimp only
  with_reducible repeat' first
    | assumption | apply Kept.foldl | apply Kept4.of | simp only [Kept.mk_iff] | split | intro _

theorem modBatch_kept {s0 : State} {x0 : Nat} {x1 : Batch → Batch} {x2 : State} (h : Kept s0 x2) :
    Kept s0 (modBatch x0 x1 x2) := by
  unfold modBatch
  try dsimp only
  with_reducible repeat' first
    | assumption | apply Kept.foldl | apply Kept4.of | simp only [Kept.mk_iff] | split | intro _

theorem countBatch_kept {s0 : State} {x0 : Way} {x1 : Nat} {x2 : Nat} {x3 : State} (h : Kept s0 x3) :
    Kept s0 (countBatch x0 x1 x2 x3) := by
  unfold countBatch
  try dsimp only
  with_reducible repeat' first
    | assumption | apply modBatch_kept | apply Kept.foldl | apply Kept4.of | simp only [Kept.mk_iff] | split | intro _

theorem postCounter_kept {s0 : State} {x0 : FrameRec} {x1 : State} (h : Kept s0 x1) :
    Kept s0 (postCounter x0 x1) := by
  unfold postCounter
  try dsimp only
  with_reducible repeat' first
    | assumption | apply modFrame_kept | apply postEntry_kept | apply Kept.foldl | apply Kept4.of | simp only [Kept.mk_iff] | split | intro _

theorem postCounters_kept {s0 : State} {x0 : State} (h : Kept s0 x0) :
    Kept s0 (postCounters x0) := by
  unfold postCounters
  try dsimp only
  with_reducible repeat' first
    | assumption | apply postCounter_kept | apply Kept.foldl | apply Kept4.of | simp only [Kept.mk_iff] | split | intro _

end Sys2Proof.Machine
end

