-- ==== Sys2Proof/Laws/Kept/Acks.lean ====
section
/-! SUPPORT. What the operations of Machine/Acks.lean keep: the waiting commands, what was sent, the stored tables. -/
namespace Sys2Proof.Machine

theorem modChan_kept {s0 : State} {x0 : Nat} {x1 : RadChan → RadChan} {x2 : State} (h : Kept s0 x2) :
    Kept s0 (modChan x0 x1 x2) := by
  unfold modChan
  try dsimp only
  with_reducible repeat' first
    | assumption | apply Kept.foldl | apply Kept4.of | simp only [Kept.mk_iff] | split | intro _

theorem modPhase_kept {s0 : State} {x0 : Nat} {x1 : PlcPhase → PlcPhase} {x2 : State} (h : Kept s0 x2) :
    Kept s0 (modPhase x0 x1 x2) := by
  unfold modPhase
  try dsimp only
  with_reducible repeat' first
    | assumption | apply Kept.foldl | apply Kept4.of | simp only [Kept.mk_iff] | split | intro _

theorem queueRadio_kept {s0 : State} {x0 : RadTx} {x1 : State} (h : Kept s0 x1) :
    Kept s0 (queueRadio x0 x1) := by
  unfold queueRadio
  try dsimp only
  with_reducible repeat' first
    | assumption | apply Kept.foldl | apply Kept4.of | simp only [Kept.mk_iff] | split | intro _

theorem queuePlc_kept {s0 : State} {x0 : Nat} {x1 : PlcTx} {x2 : State} (h : Kept s0 x2) :
    Kept s0 (queuePlc x0 x1 x2) := by
  unfold queuePlc
  try dsimp only
  with_reducible repeat' first
    | assumption | apply modPhase_kept | apply Kept.foldl | apply Kept4.of | simp only [Kept.mk_iff] | split | intro _

theorem queueAck_kept {s0 : State} {x0 : Way} {x1 : Nat} {x2 : Nat} {x3 : Nat × Nat × Nat} {x4 : State} (h : Kept s0 x4) :
    Kept s0 (queueAck x0 x1 x2 x3 x4) := by
  unfold queueAck
  try dsimp only
  with_reducible repeat' first
    | assumption | apply modPhase_kept | apply queueRadio_kept | apply queuePlc_kept | apply Kept.foldl | apply Kept4.of | simp only [Kept.mk_iff] | split | intro _

theorem appAck_kept {s0 : State} {x0 : Nat} {x1 : Nat} {x2 : Nat} {x3 : Way} {x4 : Nat} {x5 : Bool} {x6 : Nat} {x7 : State} (h : Kept s0 x7) :
    Kept s0 (appAck x0 x1 x2 x3 x4 x5 x6 x7) := by
  unfold appAck
  try dsimp only
  with_reducible repeat' first
    | assumption | apply queueAck_kept | apply Kept.foldl | apply Kept4.of | simp only [Kept.mk_iff] | split | intro _

end Sys2Proof.Machine
end

