-- ==== Sys2Proof/Laws/Kept/Stream.lean ====
section
/-! SUPPORT. What the operations of Machine/Stream.lean keep: the waiting commands, what was sent, the stored tables. -/
namespace Sys2Proof.Machine

theorem setStr_kept {s0 : State} {x0 : Nat} {x1 : Stream} {x2 : State} (h : Kept s0 x2) :
    Kept s0 (setStr x0 x1 x2) := by
  unfold setStr
  try dsimp only
  with_reducible repeat' first
    | assumption | apply Kept.foldl | apply Kept4.of | simp only [Kept.mk_iff] | split | intro _

theorem closeDone_kept {s0 : State} {x0 : Nat} {x1 : State} (h : Kept s0 x1) :
    Kept s0 (closeDone x0 x1) := by
  unfold closeDone
  try dsimp only
  with_reducible repeat' first
    | assumption | apply setStr_kept | apply Kept.foldl | apply Kept4.of | simp only [Kept.mk_iff] | split | intro _

theorem strFields_kept {s0 : State} {x0 : Nat} {x1 : State} (h : Kept s0 x1) :
    Kept s0 (strFields x0 x1) := by
  unfold strFields
  try dsimp only
  with_reducible repeat' first
    | assumption | apply closeDone_kept | apply wrI_kept | exact P44.DONE_THRU_known | exact P44.STATE_known | apply Kept.foldl | apply Kept4.of | simp only [Kept.mk_iff] | split | intro _

theorem strFieldsAll_kept {s0 : State} {x0 : State} (h : Kept s0 x0) :
    Kept s0 (strFieldsAll x0) := by
  unfold strFieldsAll
  try dsimp only
  with_reducible repeat' first
    | assumption | apply strFields_kept | apply Kept.foldl | apply Kept4.of | simp only [Kept.mk_iff] | split | intro _

theorem credit_kept {s0 : State} {x0 : Nat} {x1 : State} (h : Kept s0 x1) :
    Kept s0 (credit x0 x1) := by
  unfold credit
  try dsimp only
  with_reducible repeat' first
    | assumption | apply wrI_kept | exact P44.WORDS_IN_known | exact P44.CREDIT_END_known | apply Kept.foldl | apply Kept4.of | simp only [Kept.mk_iff] | split | intro _

theorem creditAll_kept {s0 : State} {x0 : State} (h : Kept s0 x0) :
    Kept s0 (creditAll x0) := by
  unfold creditAll
  try dsimp only
  with_reducible repeat' first
    | assumption | apply strFieldsAll_kept | apply credit_kept | apply Kept.foldl | apply Kept4.of | simp only [Kept.mk_iff] | split | intro _

theorem dropPacket_kept {s0 : State} {x0 : Nat} {x1 : Nat} {x2 : State} (h : Kept s0 x2) :
    Kept s0 (dropPacket x0 x1 x2) := by
  unfold dropPacket
  try dsimp only
  with_reducible repeat' first
    | assumption | apply wrI_kept | apply logEv_kept | apply bumpI_kept | apply strFields_kept | apply setStr_kept | exact P44.DROPPED_known | exact P44.DROP_FROM_known | exact P44.PKT_NEXT_known | exact P44.LAST_DROPPED_known | apply Kept.foldl | apply Kept4.of | simp only [Kept.mk_iff] | split | intro _

theorem streamDone_kept {s0 : State} {x0 : Way} {x1 : State} (h : Kept s0 x1) :
    Kept s0 (streamDone x0 x1) := by
  unfold streamDone
  try dsimp only
  with_reducible repeat' first
    | assumption | apply strFields_kept | apply setStr_kept | apply Kept.foldl | apply Kept4.of | simp only [Kept.mk_iff] | split | intro _

theorem openPort_kept {s0 : State} {x0 : Nat} {x1 : State} (h : Kept s0 x1) :
    Kept s0 (openPort x0 x1) := by
  unfold openPort
  try dsimp only
  with_reducible repeat' first
    | assumption | apply wrI_kept | apply strFields_kept | apply setStr_kept | apply credit_kept | exact P44.DONE_THRU_known | exact P44.PKT_NEXT_known | exact P44.WORDS_IN_known | exact P44.CREDIT_END_known | apply Kept.foldl | apply Kept4.of | simp only [Kept.mk_iff] | split | intro _

theorem execStreamOpen_kept {s0 : State} {x0 : Hdr} {x1 : List Byte} {x2 : State} (h : Kept s0 x2) :
    Outcome.kept s0 (execStreamOpen x0 x1 x2) := by
  unfold execStreamOpen
  try dsimp only
  with_reducible repeat' first
    | assumption | apply Outcome.kept_next | apply runCmd_kept | apply openPort_kept | exact Ans.kept_fail | exact Ans.kept_refuse | apply Ans.kept_done | apply Ans.kept_doneAtBeat | apply Ans.kept_accept | apply Ans.kept_stays | apply Kept.foldl | apply Kept4.of | simp only [Kept.mk_iff] | split | intro _

theorem closePort_kept {s0 : State} {x0 : Nat} {x1 : State} (h : Kept s0 x1) :
    Kept s0 (closePort x0 x1) := by
  unfold closePort
  try dsimp only
  with_reducible repeat' first
    | assumption | apply dropPacket_kept | apply strFields_kept | apply setStr_kept | exact P44.PKT_NEXT_known | apply Kept.foldl | apply Kept4.of | simp only [Kept.mk_iff] | split | intro _

theorem execStreamClose_kept {s0 : State} {x0 : Hdr} {x1 : List Byte} {x2 : State} (h : Kept s0 x2) :
    Outcome.kept s0 (execStreamClose x0 x1 x2) := by
  unfold execStreamClose
  try dsimp only
  with_reducible repeat' first
    | assumption | apply Outcome.kept_next | apply runCmd_kept | exact Ans.kept_fail | exact Ans.kept_refuse | apply Ans.kept_done | apply Ans.kept_doneAtBeat | apply Ans.kept_accept | apply Ans.kept_stays | apply Kept.foldl | apply Kept4.of | simp only [Kept.mk_iff] | split | intro _

theorem effStreamClose_kept {s0 : State} {x0 : Eff} {x1 : State} (h : Kept s0 x1) :
    Kept s0 (effStreamClose x0 x1) := by
  unfold effStreamClose
  try dsimp only
  with_reducible repeat' first
    | assumption | apply closePort_kept | apply Kept.foldl | apply Kept4.of | simp only [Kept.mk_iff] | split | intro _

theorem discardWords_kept {s0 : State} {x0 : Nat} {x1 : Nat} {x2 : State} (h : Kept s0 x2) :
    Kept s0 (discardWords x0 x1 x2) := by
  unfold discardWords
  try dsimp only
  with_reducible repeat' first
    | assumption | apply bumpI_kept | exact P44.DISCARDED_known | apply Kept.foldl | apply Kept4.of | simp only [Kept.mk_iff] | split | intro _

theorem storeWords_kept {s0 : State} {x0 : Nat} {x1 : Nat} {x2 : Nat} {x3 : Partial} {x4 : State} (h : Kept s0 x4) :
    Kept s0 (storeWords x0 x1 x2 x3 x4) := by
  unfold storeWords
  try dsimp only
  with_reducible repeat' first
    | assumption | apply wrI_kept | refine putItemW_kept ?_ (by assumption) | apply strFields_kept | apply setStr_kept | exact P44.PKT_NEXT_known | apply Kept.getD | apply Kept.foldl | apply Kept4.of | simp only [Kept.mk_iff] | split | intro _

theorem startPacket_kept {s0 : State} {x0 : Nat} {x1 : Nat} {x2 : Nat} {x3 : Nat} {x4 : List Byte} {x5 : State} (h : Kept s0 x5) :
    Kept s0 (startPacket x0 x1 x2 x3 x4 x5) := by
  unfold startPacket
  try dsimp only
  with_reducible repeat' first
    | assumption | apply storeWords_kept | apply discardWords_kept | apply setFifo_kept | apply Kept.foldl | apply Kept4.of | simp only [Kept.mk_iff] | split | intro _

theorem fragment_kept {s0 : State} {x0 : Nat} {x1 : Nat} {x2 : List Byte} {x3 : State} (h : Kept s0 x3) :
    Kept s0 (fragment x0 x1 x2 x3) := by
  unfold fragment
  try dsimp only
  with_reducible repeat' first
    | assumption | apply storeWords_kept | apply dropPacket_kept | apply wrI_kept | apply discardWords_kept | apply startPacket_kept | apply bumpI_kept | apply setStr_kept | exact P44.PKT_NEXT_known | exact P44.WORDS_IN_known | exact P44.CREDIT_END_known | exact P44.OVERRUN_known | apply Kept.foldl | apply Kept4.of | simp only [Kept.mk_iff] | split | intro _

theorem execStreamData_kept {s0 : State} {x0 : Hdr} {x1 : List Byte} {x2 : State} (h : Kept s0 x2) :
    Outcome.kept s0 (execStreamData x0 x1 x2) := by
  unfold execStreamData
  try dsimp only
  with_reducible repeat' first
    | assumption | apply Outcome.kept_next | apply discardWords_kept | apply fragment_kept | apply count_kept | apply Kept.foldl | apply Kept4.of | simp only [Kept.mk_iff] | split | intro _

theorem execStreamDrop_kept {s0 : State} {x0 : Fin 8} {x1 : State} (h : Kept s0 x1) :
    Outcome.kept s0 (execStreamDrop x0 x1) := by
  unfold execStreamDrop
  try dsimp only
  with_reducible repeat' first
    | assumption | apply Outcome.kept_next | apply dropPacket_kept | exact P44.PKT_NEXT_known | exact P44.STALL_BEATS_known | apply Kept.foldl | apply Kept4.of | simp only [Kept.mk_iff] | split | intro _

theorem execStreamProgress_kept {s0 : State} {x0 : Fin 8} {x1 : State} (h : Kept s0 x1) :
    Outcome.kept s0 (execStreamProgress x0 x1) := by
  unfold execStreamProgress
  try dsimp only
  with_reducible repeat' first
    | assumption | apply Outcome.kept_next | apply logEv_kept | apply setStr_kept | exact P44.DONE_THRU_known | exact P44.CREDIT_END_known | apply Kept.foldl | apply Kept4.of | simp only [Kept.mk_iff] | split | intro _

theorem resetPort_kept {s0 : State} {x0 : Nat} {x1 : State} (h : Kept s0 x1) :
    Kept s0 (resetPort x0 x1) := by
  unfold resetPort
  try dsimp only
  with_reducible repeat' first
    | assumption | apply dropPacket_kept | apply wrI_kept | apply setFifo_kept | apply logEv_kept | apply bumpI_kept | apply strFields_kept | apply setStr_kept | apply credit_kept | exact P44.DROPPED_known | exact P44.DROP_FROM_known | exact P44.PKT_NEXT_known | exact P44.LAST_DROPPED_known | apply Kept.foldl | apply Kept4.of | simp only [Kept.mk_iff] | split | intro _

theorem dropBanked_kept {s0 : State} {x0 : Nat} {x1 : State} (h : Kept s0 x1) :
    Kept s0 (dropBanked x0 x1) := by
  unfold dropBanked
  try dsimp only
  with_reducible repeat' first
    | assumption | apply wrI_kept | apply setFifo_kept | apply logEv_kept | apply bumpI_kept | apply strFields_kept | apply setStr_kept | exact P44.DROPPED_known | exact P44.DROP_FROM_known | exact P44.LAST_DROPPED_known | apply Kept.foldl | apply Kept4.of | simp only [Kept.mk_iff] | split | intro _

end Sys2Proof.Machine
end

