-- ==== Sys2Proof/Laws/Kept/Discard.lean ====
section
/-! SUPPORT. What the operations of Machine/Discard.lean keep: the waiting commands, what was sent, the stored tables. -/
namespace Sys2Proof.Machine

theorem setTail_kept {s0 : State} {x0 : Nat} {x1 : Nat} {x2 : Tail} {x3 : State} (h : Kept s0 x3) :
    Kept s0 (setTail x0 x1 x2 x3) := by
  unfold setTail
  try dsimp only
  with_reducible repeat' first
    | assumption | apply Kept.foldl | apply Kept4.of | simp only [Kept.mk_iff] | split | intro _

theorem rebuildTail_kept {s0 : State} {x0 : Nat} {x1 : Nat} {x2 : State} (h : Kept s0 x2) :
    Kept s0 (rebuildTail x0 x1 x2) := by
  unfold rebuildTail
  try dsimp only
  with_reducible repeat' first
    | assumption | apply setTail_kept | apply Kept.foldl | apply Kept4.of | simp only [Kept.mk_iff] | split | intro _

theorem keepEntries_kept {s0 : State} {x0 : Entry → Bool} {x1 : State} (h : Kept s0 x1) :
    Kept s0 (keepEntries x0 x1) := by
  unfold keepEntries
  try dsimp only
  with_reducible repeat' first
    | assumption | apply Kept.foldl | apply Kept4.of | simp only [Kept.mk_iff] | split | intro _

theorem killFrames_kept {s0 : State} {x0 : FrameRec → Bool} {x1 : State} (h : Kept s0 x1) :
    Kept s0 (killFrames x0 x1) := by
  unfold killFrames
  try dsimp only
  with_reducible repeat' first
    | assumption | apply keepEntries_kept | apply Kept.foldl | apply Kept4.of | simp only [Kept.mk_iff] | split | intro _

theorem giveUp_kept {s0 : State} {x0 : List SlotKey} {x1 : State} (h : Kept s0 x1) :
    Kept s0 (giveUp x0 x1) := by
  unfold giveUp
  try dsimp only
  with_reducible repeat' first
    | assumption | apply killFrames_kept | apply revertSlot_kept | apply Kept.foldl | apply Kept4.of | simp only [Kept.mk_iff] | split | intro _

theorem rebuildTails_kept {s0 : State} {x0 : List (Nat × Nat)} {x1 : State} (h : Kept s0 x1) :
    Kept s0 (rebuildTails x0 x1) := by
  unfold rebuildTails
  try dsimp only
  with_reducible repeat' first
    | assumption | apply rebuildTail_kept | apply Kept.foldl | apply Kept4.of | simp only [Kept.mk_iff] | split | intro _

theorem discardWork_kept {s0 : State} {x0 : GradeIn → Bool} {x1 : Entry → Bool} {x2 : State} (h : Kept s0 x2) :
    Kept s0 (discardWork x0 x1 x2) := by
  unfold discardWork
  try dsimp only
  with_reducible repeat' first
    | assumption | apply rebuildTails_kept | apply keepEntries_kept | apply giveUp_kept | apply Kept.foldl | apply Kept4.of | simp only [Kept.mk_iff] | split | intro _

theorem abandonBatch_kept {s0 : State} {x0 : Nat} {x1 : Nat} {x2 : Nat} {x3 : State} (h : Kept s0 x3) :
    Kept s0 (abandonBatch x0 x1 x2 x3) := by
  unfold abandonBatch
  try dsimp only
  with_reducible repeat' first
    | assumption | apply killFrames_kept | apply finish_kept | apply rebuildTails_kept | apply keepEntries_kept | apply giveUp_kept | apply Kept.foldl | apply Kept4.of | simp only [Kept.mk_iff] | split | intro _

theorem abandonAll_kept {s0 : State} {x0 : Nat} {x1 : Nat} {x2 : State} (h : Kept s0 x2) :
    Kept s0 (abandonAll x0 x1 x2) := by
  unfold abandonAll
  try dsimp only
  with_reducible repeat' first
    | assumption | apply abandonBatch_kept | apply Kept.foldl | apply Kept4.of | simp only [Kept.mk_iff] | split | intro _

end Sys2Proof.Machine
end

