-- ==== Sys2Proof/Laws/Kept/LaneOps.lean ====
section
/-! SUPPORT. What the operations of Machine/LaneOps.lean keep: the waiting commands, what was sent, the stored tables. -/
namespace Sys2Proof.Machine

theorem jobDone_kept {s0 : State} {x0 : LaneJob} {x1 : JobStatus} {x2 : Nat} {x3 : State} (h : Kept s0 x3) :
    Kept s0 (jobDone x0 x1 x2 x3) := by
  unfold jobDone
  try dsimp only
  with_reducible repeat' first
    | assumption | apply bump_kept | apply emit_kept | apply bumpI_kept | exact P40.LANE_JOBS_known | exact P40.AUTH_FAIL_JOBS_known | apply Kept.foldl | apply Kept4.of | simp only [Kept.mk_iff] | split | intro _

theorem infeedTold_kept {s0 : State} {x0 : LaneJob} {x1 : JobStatus} {x2 : List Byte} {x3 : State} (h : Kept s0 x3) :
    Kept s0 (infeedTold x0 x1 x2 x3) := by
  unfold infeedTold
  try dsimp only
  with_reducible repeat' first
    | assumption | apply Kept.foldl | apply Kept4.of | simp only [Kept.mk_iff] | split | intro _

theorem zeroOut_kept {s0 : State} {x0 : LaneJob} {x1 : State} (h : Kept s0 x1) :
    Kept s0 (zeroOut x0 x1) := by
  unfold zeroOut
  try dsimp only
  with_reducible repeat' first
    | assumption | apply wrMems_kept | apply Kept.foldl | apply Kept4.of | simp only [Kept.mk_iff] | split | intro _

theorem abortJob_kept {s0 : State} {x0 : LaneJob} {x1 : State} (h : Kept s0 x1) :
    Kept s0 (abortJob x0 x1) := by
  unfold abortJob
  try dsimp only
  with_reducible repeat' first
    | assumption | apply jobDone_kept | apply drawn_kept | apply zeroOut_kept | apply infeedTold_kept | apply Kept.foldl | apply Kept4.of | simp only [Kept.mk_iff] | split | intro _

theorem setLane_kept {s0 : State} {x0 : Nat} {x1 : Lane} {x2 : State} (h : Kept s0 x2) :
    Kept s0 (setLane x0 x1 x2) := by
  unfold setLane
  try dsimp only
  with_reducible repeat' first
    | assumption | apply Kept.foldl | apply Kept4.of | simp only [Kept.mk_iff] | split | intro _

theorem countUse_kept {s0 : State} {x0 : LaneJob} {x1 : State} (h : Kept s0 x1) :
    Kept s0 (countUse x0 x1) := by
  unfold countUse
  try dsimp only
  with_reducible repeat' first
    | assumption | apply Kept.foldl | apply Kept4.of | simp only [Kept.mk_iff] | split | intro _

theorem failJob_kept {s0 : State} {x0 : LaneJob} {x1 : JobStatus} {x2 : State} (h : Kept s0 x2) :
    Kept s0 (failJob x0 x1 x2) := by
  unfold failJob
  try dsimp only
  with_reducible repeat' first
    | assumption | apply jobDone_kept | apply infeedTold_kept | apply Kept.foldl | apply Kept4.of | simp only [Kept.mk_iff] | split | intro _

theorem beginJob_kept {s0 : State} {x0 : Nat} {x1 : LaneJob} {x2 : State} (h : Kept s0 x2) :
    Kept s0 (beginJob x0 x1 x2) := by
  unfold beginJob
  try dsimp only
  with_reducible repeat' first
    | assumption | apply countUse_kept | apply failJob_kept | apply setLane_kept | apply Kept.foldl | apply Kept4.of | simp only [Kept.mk_iff] | split | intro _

theorem startJobs_kept {s0 : State} {x0 : Nat} {x1 : State} (h : Kept s0 x1) :
    Kept s0 (startJobs x0 x1) := by
  induction x0 generalizing x1 with
  | zero =>
    unfold startJobs
    try dsimp only
    with_reducible repeat' first
      | assumption | apply beginJob_kept | apply Kept.foldl | apply Kept4.of | simp only [Kept.mk_iff] | split | intro _
  | succ k ih =>
    unfold startJobs
    try dsimp only
    with_reducible repeat' first
      | assumption | apply ih | apply beginJob_kept | apply Kept.foldl | apply Kept4.of | simp only [Kept.mk_iff] | split | intro _

theorem queueJob_kept {s0 : State} {x0 : LaneJob} {x1 : State} (h : Kept s0 x1) :
    Kept s0 (queueJob x0 x1) := by
  unfold queueJob
  try dsimp only
  with_reducible repeat' first
    | assumption | apply startJobs_kept | apply Kept.foldl | apply Kept4.of | simp only [Kept.mk_iff] | split | intro _

theorem preempt_kept {s0 : State} {x0 : Nat} {x1 : LaneJob} {x2 : State} (h : Kept s0 x2) :
    Kept s0 (preempt x0 x1 x2) := by
  unfold preempt
  try dsimp only
  with_reducible repeat' first
    | assumption | apply bump_kept | apply countUse_kept | apply failJob_kept | apply setLane_kept | apply count_kept | exact P40.PREEMPTIONS_known | apply Kept.foldl | apply Kept4.of | simp only [Kept.mk_iff] | split | intro _

theorem postJob_kept {s0 : State} {x0 : LaneJob} {x1 : State} (h : Kept s0 x1) :
    Kept s0 (postJob x0 x1) := by
  unfold postJob
  try dsimp only
  with_reducible repeat' first
    | assumption | apply queueJob_kept | apply preempt_kept | apply Kept.foldl | apply Kept4.of | simp only [Kept.mk_iff] | split | intro _

end Sys2Proof.Machine
end

