-- ==== Sys2Proof/Laws/Kept/Infeed.lean ====
section
/-! SUPPORT. What the operations of Machine/Infeed.lean keep: the waiting commands, what was sent, the stored tables. -/
namespace Sys2Proof.Machine

theorem refuseItem_kept {s0 : State} {x0 : Way} {x1 : State} (h : Kept s0 x1) :
    Kept s0 (refuseItem x0 x1) := by
  unfold refuseItem
  try dsimp only
  with_reducible repeat' first
    | assumption | apply streamDone_kept | apply countBatch_kept | apply Kept.foldl | apply Kept4.of | simp only [Kept.mk_iff] | split | intro _

theorem dropMalformed_kept {s0 : State} {x0 : Way} {x1 : State} (h : Kept s0 x1) :
    Kept s0 (dropMalformed x0 x1) := by
  unfold dropMalformed
  try dsimp only
  with_reducible repeat' first
    | assumption | apply refuseItem_kept | apply Kept.foldl | apply Kept4.of | simp only [Kept.mk_iff] | split | intro _

theorem dropUnknown_kept {s0 : State} {x0 : Nat} {x1 : Way} {x2 : State} (h : Kept s0 x2) :
    Kept s0 (dropUnknown x0 x1 x2) := by
  unfold dropUnknown
  try dsimp only
  with_reducible repeat' first
    | assumption | apply bump_kept | apply refuseItem_kept | apply logEv_kept | exact P10.UNKNOWN_TITLE_known | apply Kept.foldl | apply Kept4.of | simp only [Kept.mk_iff] | split | intro _

theorem authFail_kept {s0 : State} {x0 : Nat} {x1 : Way} {x2 : State} (h : Kept s0 x2) :
    Kept s0 (authFail x0 x1 x2) := by
  unfold authFail
  try dsimp only
  with_reducible repeat' first
    | assumption | apply bump_kept | apply refuseItem_kept | apply modMeter_kept | apply logEv_kept | exact P10.AUTH_FAILS_known | exact P10.AUTH_FAIL_LIMIT_known | apply Kept.foldl | apply Kept4.of | simp only [Kept.mk_iff] | split | intro _

theorem refillTokens_kept {s0 : State} {x0 : State} (h : Kept s0 x0) :
    Kept s0 (refillTokens x0) := by
  unfold refillTokens
  try dsimp only
  with_reducible repeat' first
    | assumption | exact P10.SLOW_RATE_known | exact P10.SLOW_BURST_known | apply Kept.foldl | apply Kept4.of | simp only [Kept.mk_iff] | split | intro _

theorem fillTokens_kept {s0 : State} {x0 : State} (h : Kept s0 x0) :
    Kept s0 (fillTokens x0) := by
  unfold fillTokens
  try dsimp only
  with_reducible repeat' first
    | assumption | exact P10.SLOW_BURST_known | apply Kept.foldl | apply Kept4.of | simp only [Kept.mk_iff] | split | intro _

theorem slowPath_kept {s0 : State} {x0 : FifoItem} {x1 : Option Nat} {x2 : State} (h : Kept s0 x2) :
    Kept s0 (slowPath x0 x1 x2) := by
  unfold slowPath
  try dsimp only
  with_reducible repeat' first
    | assumption | apply bump_kept | apply refuseItem_kept | apply postItem_kept | exact P10.SLOW_DROPS_known | apply Kept.foldl | apply Kept4.of | simp only [Kept.mk_iff] | split | intro _

theorem slowServed_kept {s0 : State} {x0 : Nat} {x1 : State} (h : Kept s0 x1) :
    Kept s0 (slowServed x0 x1) := by
  unfold slowServed
  try dsimp only
  with_reducible repeat' first
    | assumption | apply Kept.foldl | apply Kept4.of | simp only [Kept.mk_iff] | split | intro _

theorem dupConflict_kept {s0 : State} {x0 : Nat} {x1 : Rdg} {x2 : State} (h : Kept s0 x2) :
    Kept s0 (dupConflict x0 x1 x2) := by
  unfold dupConflict
  try dsimp only
  with_reducible repeat' first
    | assumption | apply bump_kept | apply logEv_kept | exact P10.DUP_CONFLICTS_known | apply Kept.foldl | apply Kept4.of | simp only [Kept.mk_iff] | split | intro _

theorem passReading_kept {s0 : State} {x0 : FrameIn} {x1 : Nat} {x2 : Rdg} {x3 : State} (h : Kept s0 x3) :
    Kept s0 (passReading x0 x1 x2 x3) := by
  unfold passReading
  try dsimp only
  with_reducible repeat' first
    | assumption | apply markPending_kept | apply Kept.foldl | apply Kept4.of | simp only [Kept.mk_iff] | split | intro _

theorem dedupOne_kept {s0 : State} {x0 : Meter} {x1 : FrameIn} {x2 : Nat} {x3 : Rdg} {x4 : State} (h : Kept s0 x4) :
    Kept s0 (dedupOne x0 x1 x2 x3 x4).1 := by
  unfold dedupOne
  try dsimp only
  with_reducible repeat' first
    | assumption | apply bump_kept | apply passReading_kept | apply dupConflict_kept | apply countBatch_kept | exact P10.FUTURE_LIMIT_known | exact P10.FUTURE_REFUSED_known | exact P10.STALE_SUPPRESSED_known | exact P10.DUPS_SUPPRESSED_known | apply Kept.foldl | apply Kept4.of | simp only [Kept.mk_iff] | split | intro _

theorem dedupOne_pair {s0 : State} {x0 : Meter} {x1 : FrameIn} {x2 : Nat} {x3 : Rdg} {x4 : State} {y : State} {z} (e : (dedupOne x0 x1 x2 x3 x4) = (y, z)) (h : Kept s0 x4) :
    Kept s0 y := by
  have g : Kept s0 (dedupOne x0 x1 x2 x3 x4).1 := dedupOne_kept h
  rw [e] at g
  exact g

theorem dedupAll_kept {s0 : State} {x0 : Meter} {x1 : FrameIn} {x2 : Nat} {x3 : List Rdg} {x4 : State} (h : Kept s0 x4) :
    Kept s0 (dedupAll x0 x1 x2 x3 x4).1 := by
  induction x3 generalizing x0 x1 x2 x4 with
  | nil =>
    unfold dedupAll
    try dsimp only
    with_reducible repeat' first
      | assumption | apply dedupOne_kept | refine dedupOne_pair (by assumption) ?_ | apply Kept.foldl | apply Kept4.of | simp only [Kept.mk_iff] | split | intro _
  | cons y l ih =>
    unfold dedupAll
    try dsimp only
    with_reducible repeat' first
      | assumption | apply ih | refine (ih ?_).of_pair (by assumption) | apply dedupOne_kept | refine dedupOne_pair (by assumption) ?_ | apply Kept.foldl | apply Kept4.of | simp only [Kept.mk_iff] | split | intro _

theorem dedupAll_pair {s0 : State} {x0 : Meter} {x1 : FrameIn} {x2 : Nat} {x3 : List Rdg} {x4 : State} {y : State} {z} (e : (dedupAll x0 x1 x2 x3 x4) = (y, z)) (h : Kept s0 x4) :
    Kept s0 y := by
  have g : Kept s0 (dedupAll x0 x1 x2 x3 x4).1 := dedupAll_kept h
  rw [e] at g
  exact g

theorem admitFrame_kept {s0 : State} {x0 : Meter} {x1 : FrameIn} {x2 : List Rdg} {x3 : State} (h : Kept s0 x3) :
    Kept s0 (admitFrame x0 x1 x2 x3) := by
  unfold admitFrame
  try dsimp only
  with_reducible repeat' first
    | assumption | apply dedupAll_kept | refine dedupAll_pair (by assumption) ?_ | apply Kept.foldl | apply Kept4.of | simp only [Kept.mk_iff] | split | intro _

theorem dedupFrame_kept {s0 : State} {x0 : Meter} {x1 : FrameIn} {x2 : List Rdg} {x3 : State} (h : Kept s0 x3) :
    Kept s0 (dedupFrame x0 x1 x2 x3) := by
  unfold dedupFrame
  try dsimp only
  with_reducible repeat' first
    | assumption | apply admitFrame_kept | apply abandonBatch_kept | apply modBatch_kept | apply Kept.foldl | apply Kept4.of | simp only [Kept.mk_iff] | split | intro _

theorem afterCheck_kept {s0 : State} {x0 : Meter} {x1 : FrameIn} {x2 : Nat} {x3 : State → State} {x4 : State} (h3 : ∀ t, Kept s0 t → Kept s0 (x3 t)) (h : Kept s0 x4) :
    Kept s0 (afterCheck x0 x1 x2 x3 x4) := by
  unfold afterCheck
  try dsimp only
  with_reducible repeat' first
    | assumption | apply h3 | apply bump_kept | apply appAck_kept | apply streamDone_kept | apply countBatch_kept | exact P10.REPLAYS_known | apply Kept.foldl | apply Kept4.of | simp only [Kept.mk_iff] | split | intro _

theorem cifPlain_kept {s0 : State} {x0 : Meter} {x1 : FifoItem} {x2 : Nat} {x3 : List Byte} {x4 : State} (h : Kept s0 x4) :
    Kept s0 (cifPlain x0 x1 x2 x3 x4) := by
  unfold cifPlain
  try dsimp only
  with_reducible repeat' first
    | assumption | apply afterCheck_kept | apply bump_kept | apply refuseItem_kept | apply dropMalformed_kept | apply dedupFrame_kept | exact P10.REPLAYS_known | apply Kept.foldl | apply Kept4.of | simp only [Kept.mk_iff] | split | intro _

theorem dlmsPlain_kept {s0 : State} {x0 : Meter} {x1 : UnsealJob} {x2 : List Byte} {x3 : State} (h : Kept s0 x3) :
    Kept s0 (dlmsPlain x0 x1 x2 x3) := by
  unfold dlmsPlain
  try dsimp only
  with_reducible repeat' first
    | assumption | apply afterCheck_kept | apply dropMalformed_kept | apply dedupFrame_kept | apply slowPath_kept | apply Kept.foldl | apply Kept4.of | simp only [Kept.mk_iff] | split | intro _

theorem joinFlow_kept {s0 : State} {x0 : UnsealJob} {x1 : State} (h : Kept s0 x1) :
    Kept s0 (joinFlow x0 x1) := by
  unfold joinFlow
  try dsimp only
  with_reducible repeat' first
    | assumption | apply Kept.foldl | apply Kept4.of | simp only [Kept.mk_iff] | split | intro _

theorem normItem_kept {s0 : State} {x0 : SlowRet} {x1 : Way} {x2 : State} (h : Kept s0 x2) :
    Kept s0 (normItem x0 x1 x2) := by
  unfold normItem
  try dsimp only
  with_reducible repeat' first
    | assumption | apply afterCheck_kept | apply refuseItem_kept | apply dedupFrame_kept | apply Kept.foldl | apply Kept4.of | simp only [Kept.mk_iff] | split | intro _

theorem flowStep_kept {s0 : State} {x0 : UnsealJob} {x1 : State} (h : Kept s0 x1) :
    Kept s0 (flowStep x0 x1) := by
  unfold flowStep
  try dsimp only
  with_reducible repeat' first
    | assumption | apply dropUnknown_kept | apply normItem_kept | apply cifPlain_kept | apply Kept.foldl | apply Kept4.of | simp only [Kept.mk_iff] | split | intro _

theorem drainFlow_kept {s0 : State} {x0 : Nat} {x1 : Nat} {x2 : State} (h : Kept s0 x2) :
    Kept s0 (drainFlow x0 x1 x2) := by
  induction x1 generalizing x0 x2 with
  | zero =>
    unfold drainFlow
    try dsimp only
    with_reducible repeat' first
      | assumption | apply flowStep_kept | apply Kept.foldl | apply Kept4.of | simp only [Kept.mk_iff] | split | intro _
  | succ k ih =>
    unfold drainFlow
    try dsimp only
    with_reducible repeat' first
      | assumption | apply ih | apply flowStep_kept | apply Kept.foldl | apply Kept4.of | simp only [Kept.mk_iff] | split | intro _

theorem flowWork_kept {s0 : State} {x0 : UnsealJob} {x1 : State} (h : Kept s0 x1) :
    Kept s0 (flowWork x0 x1) := by
  unfold flowWork
  try dsimp only
  with_reducible repeat' first
    | assumption | apply joinFlow_kept | apply flowStep_kept | apply Kept.foldl | apply Kept4.of | simp only [Kept.mk_iff] | split | intro _

theorem startJob_kept {s0 : State} {x0 : Meter} {x1 : FifoItem} {x2 : Bool} {x3 : Nat} {x4 : Nat} {x5 : State} (h : Kept s0 x5) :
    Kept s0 (startJob x0 x1 x2 x3 x4 x5) := by
  unfold startJob
  try dsimp only
  with_reducible repeat' first
    | assumption | apply queueJob_kept | apply joinFlow_kept | apply Kept.foldl | apply Kept4.of | simp only [Kept.mk_iff] | split | intro _

theorem unsealIt_kept {s0 : State} {x0 : Meter} {x1 : FifoItem} {x2 : Bool} {x3 : Nat} {x4 : Option Bool} {x5 : State} (h : Kept s0 x5) :
    Kept s0 (unsealIt x0 x1 x2 x3 x4 x5) := by
  unfold unsealIt
  try dsimp only
  with_reducible repeat' first
    | assumption | apply authFail_kept | apply startJob_kept | apply Kept.foldl | apply Kept4.of | simp only [Kept.mk_iff] | split | intro _

theorem parseCif_kept {s0 : State} {x0 : FifoItem} {x1 : State} (h : Kept s0 x1) :
    Kept s0 (parseCif x0 x1) := by
  unfold parseCif
  try dsimp only
  with_reducible repeat' first
    | assumption | apply dropUnknown_kept | apply bump_kept | apply refuseItem_kept | apply dropMalformed_kept | apply unsealIt_kept | apply flowWork_kept | exact P10.ALLOW_CLEAR_known | exact P10.CLEAR_DROPPED_known | apply Kept.foldl | apply Kept4.of | simp only [Kept.mk_iff] | split | intro _

theorem parseDlms_kept {s0 : State} {x0 : FifoItem} {x1 : State} (h : Kept s0 x1) :
    Kept s0 (parseDlms x0 x1) := by
  unfold parseDlms
  try dsimp only
  with_reducible repeat' first
    | assumption | apply dropUnknown_kept | apply unsealIt_kept | apply slowPath_kept | exact P10.DLMS_EN_known | apply Kept.foldl | apply Kept4.of | simp only [Kept.mk_iff] | split | intro _

theorem parseItem_kept {s0 : State} {x0 : FifoItem} {x1 : State} (h : Kept s0 x1) :
    Kept s0 (parseItem x0 x1) := by
  unfold parseItem
  try dsimp only
  with_reducible repeat' first
    | assumption | apply parseDlms_kept | apply parseCif_kept | apply dropMalformed_kept | apply flowWork_kept | apply slowPath_kept | apply count_kept | apply Kept.foldl | apply Kept4.of | simp only [Kept.mk_iff] | split | intro _

theorem takeItems_kept {s0 : State} {x0 : Nat} {x1 : Nat} {x2 : State} (h : Kept s0 x2) :
    Kept s0 (takeItems x0 x1 x2).2 := by
  unfold takeItems
  try dsimp only
  with_reducible repeat' first
    | assumption | apply setFifo_kept | apply modBatch_kept | apply Kept.foldl | apply Kept4.of | simp only [Kept.mk_iff] | split | intro _

theorem takeItems_pair {s0 : State} {x0 : Nat} {x1 : Nat} {x2 : State} {y : State} {z} (e : (takeItems x0 x1 x2) = (z, y)) (h : Kept s0 x2) :
    Kept s0 y := by
  have g : Kept s0 (takeItems x0 x1 x2).2 := takeItems_kept h
  rw [e] at g
  exact g

theorem visit_kept {s0 : State} {x0 : List Nat} {x1 : Nat} {x2 : State} (h : Kept s0 x2) :
    Kept s0 (visit x0 x1 x2) := by
  induction x0 generalizing x1 x2 with
  | nil =>
    unfold visit
    try dsimp only
    with_reducible repeat' first
      | assumption | apply parseItem_kept | apply takeItems_kept | refine takeItems_pair (by assumption) ?_ | apply Kept.foldl | apply Kept4.of | simp only [Kept.mk_iff] | split | intro _
  | cons y l ih =>
    unfold visit
    try dsimp only
    with_reducible repeat' first
      | assumption | apply ih | apply parseItem_kept | apply takeItems_kept | refine takeItems_pair (by assumption) ?_ | apply Kept.foldl | apply Kept4.of | simp only [Kept.mk_iff] | split | intro _

theorem infeedSlot_kept {s0 : State} {x0 : State} (h : Kept s0 x0) :
    Kept s0 (infeedSlot x0) := by
  unfold infeedSlot
  try dsimp only
  with_reducible repeat' first
    | assumption | apply visit_kept | apply Kept.foldl | apply Kept4.of | simp only [Kept.mk_iff] | split | intro _

theorem leaveFlow_kept {s0 : State} {x0 : UnsealJob} {x1 : State → State} {x2 : State} (h1 : ∀ t, Kept s0 t → Kept s0 (x1 t)) (h : Kept s0 x2) :
    Kept s0 (leaveFlow x0 x1 x2) := by
  unfold leaveFlow
  try dsimp only
  with_reducible repeat' first
    | assumption | apply h1 | apply startJobs_kept | apply drainFlow_kept | apply Kept.foldl | apply Kept4.of | simp only [Kept.mk_iff] | split | intro _

theorem retryJob_kept {s0 : State} {x0 : Meter} {x1 : UnsealJob} {x2 : State} (h : Kept s0 x2) :
    Kept s0 (retryJob x0 x1 x2) := by
  unfold retryJob
  try dsimp only
  with_reducible repeat' first
    | assumption | apply queueJob_kept | apply Kept.foldl | apply Kept4.of | simp only [Kept.mk_iff] | split | intro _

theorem unsealed__kept {s0 : State} {x0 : UnsealJob} {x1 : JobStatus} {x2 : List Byte} {x3 : State} (h : Kept s0 x3) :
    Kept s0 (unsealed_ x0 x1 x2 x3) := by
  unfold unsealed_
  try dsimp only
  with_reducible repeat' first
    | assumption | apply dropUnknown_kept | apply cifPlain_kept | apply authFail_kept | apply abandonBatch_kept | apply dlmsPlain_kept | apply Kept.foldl | apply Kept4.of | simp only [Kept.mk_iff] | split | intro _

theorem unsealDone_kept {s0 : State} {x0 : Nat} {x1 : JobStatus} {x2 : State} (h : Kept s0 x2) :
    Kept s0 (unsealDone x0 x1 x2) := by
  unfold unsealDone
  try dsimp only
  with_reducible repeat' first
    | assumption | apply retryJob_kept | apply unsealed__kept | apply leaveFlow_kept | apply Kept.foldl | apply Kept4.of | simp only [Kept.mk_iff] | split | intro _

theorem slowReturn_kept {s0 : State} {x0 : SlowRet} {x1 : State} (h : Kept s0 x1) :
    Kept s0 (slowReturn x0 x1) := by
  unfold slowReturn
  try dsimp only
  with_reducible repeat' first
    | assumption | refine putItemW_kept ?_ (by assumption) | apply Kept.getD | apply Kept.foldl | apply Kept4.of | simp only [Kept.mk_iff] | split | intro _

theorem execSlowPathReturn_kept {s0 : State} {x0 : SlowRet} {x1 : State} (h : Kept s0 x1) :
    Outcome.kept s0 (execSlowPathReturn x0 x1) := by
  unfold execSlowPathReturn
  try dsimp only
  with_reducible repeat' first
    | assumption | apply Outcome.kept_next | apply slowReturn_kept | apply Kept.foldl | apply Kept4.of | simp only [Kept.mk_iff] | split | intro _

end Sys2Proof.Machine
end

