-- ==== Sys2Proof/Laws/Kept/Enrol.lean ====
section
/-! SUPPORT. What the operations of Machine/Enrol.lean keep: the waiting commands, what was sent, the stored tables. -/
namespace Sys2Proof.Machine

theorem reEnrol_kept {s0 : State} {x0 : Hdr} {x1 : List Byte} {x2 : Meter} {x3 : State} (h : Kept s0 x3) :
    Ans.kept s0 (reEnrol x0 x1 x2 x3) := by
  unfold reEnrol
  try dsimp only
  with_reducible repeat' first
    | assumption | exact Ans.kept_fail | exact Ans.kept_refuse | apply Ans.kept_done | apply Ans.kept_doneAtBeat | apply Ans.kept_accept | apply Ans.kept_stays | apply Kept.foldl | apply Kept4.of | simp only [Kept.mk_iff] | split | intro _

theorem enrolBody_kept {s0 : State} {x0 : Hdr} {x1 : List Byte} {x2 : State} (h : Kept s0 x2) :
    Ans.kept s0 (enrolBody x0 x1 x2) := by
  unfold enrolBody
  try dsimp only
  with_reducible repeat' first
    | assumption | apply reEnrol_kept | exact Ans.kept_fail | exact Ans.kept_refuse | apply Ans.kept_done | apply Ans.kept_doneAtBeat | apply Ans.kept_accept | apply Ans.kept_stays | apply Kept.foldl | apply Kept4.of | simp only [Kept.mk_iff] | split | intro _

theorem execEnrolMeter_kept {s0 : State} {x0 : Hdr} {x1 : List Byte} {x2 : State} (h : Kept s0 x2) :
    Outcome.kept s0 (execEnrolMeter x0 x1 x2) := by
  unfold execEnrolMeter
  try dsimp only
  with_reducible repeat' first
    | assumption | apply Outcome.kept_next | apply runCmd_kept | apply enrolBody_kept | exact Ans.kept_fail | exact Ans.kept_refuse | apply Ans.kept_done | apply Ans.kept_doneAtBeat | apply Ans.kept_accept | apply Ans.kept_stays | apply Kept.foldl | apply Kept4.of | simp only [Kept.mk_iff] | split | intro _

theorem meterCount_kept {s0 : State} {x0 : State} (h : Kept s0 x0) :
    Kept s0 (meterCount x0) := by
  unfold meterCount
  try dsimp only
  with_reducible repeat' first
    | assumption | apply wr_kept | exact P10.METERS_ENROLLED_known | apply Kept.foldl | apply Kept4.of | simp only [Kept.mk_iff] | split | intro _

theorem effEnrolMeter_kept {s0 : State} {x0 : Eff} {x1 : State} (h : Kept s0 x1) :
    Kept s0 (effEnrolMeter x0 x1) := by
  unfold effEnrolMeter
  try dsimp only
  with_reducible repeat' first
    | assumption | apply modMeter_kept | apply meterCount_kept | apply Kept.foldl | apply Kept4.of | simp only [Kept.mk_iff] | split | intro _

theorem execRetireMeter_kept {s0 : State} {x0 : Hdr} {x1 : List Byte} {x2 : State} (h : Kept s0 x2) :
    Outcome.kept s0 (execRetireMeter x0 x1 x2) := by
  unfold execRetireMeter
  try dsimp only
  with_reducible repeat' first
    | assumption | apply Outcome.kept_next | apply runCmd_kept | exact Ans.kept_fail | exact Ans.kept_refuse | apply Ans.kept_done | apply Ans.kept_doneAtBeat | apply Ans.kept_accept | apply Ans.kept_stays | apply Kept.foldl | apply Kept4.of | simp only [Kept.mk_iff] | split | intro _

theorem retireRecord_kept {s0 : State} {x0 : Nat} {x1 : State} (h : Kept s0 x1) :
    Kept s0 (retireRecord x0 x1) := by
  unfold retireRecord
  try dsimp only
  with_reducible repeat' first
    | assumption | apply modMeter_kept | apply meterCount_kept | apply Kept.foldl | apply Kept4.of | simp only [Kept.mk_iff] | split | intro _

theorem execGetMeter_kept {s0 : State} {x0 : Hdr} {x1 : List Byte} {x2 : State} (h : Kept s0 x2) :
    Outcome.kept s0 (execGetMeter x0 x1 x2) := by
  unfold execGetMeter
  try dsimp only
  with_reducible repeat' first
    | assumption | apply Outcome.kept_next | apply runCmd_kept | exact Ans.kept_fail | exact Ans.kept_refuse | apply Ans.kept_done | apply Ans.kept_doneAtBeat | apply Ans.kept_accept | apply Ans.kept_stays | apply Kept.foldl | apply Kept4.of | simp only [Kept.mk_iff] | split | intro _

theorem templateBody_kept {s0 : State} {x0 : Hdr} {x1 : List Byte} {x2 : State} (h : Kept s0 x2) :
    Ans.kept s0 (templateBody x0 x1 x2) := by
  unfold templateBody
  try dsimp only
  with_reducible repeat' first
    | assumption | exact Ans.kept_fail | exact Ans.kept_refuse | apply Ans.kept_done | apply Ans.kept_doneAtBeat | apply Ans.kept_accept | apply Ans.kept_stays | apply Kept.foldl | apply Kept4.of | simp only [Kept.mk_iff] | split | intro _

theorem execLoadProfileTemplate_kept {s0 : State} {x0 : Hdr} {x1 : List Byte} {x2 : State} (h : Kept s0 x2) :
    Outcome.kept s0 (execLoadProfileTemplate x0 x1 x2) := by
  unfold execLoadProfileTemplate
  try dsimp only
  with_reducible repeat' first
    | assumption | apply Outcome.kept_next | apply runCmd_kept | apply templateBody_kept | exact Ans.kept_fail | exact Ans.kept_refuse | apply Ans.kept_done | apply Ans.kept_doneAtBeat | apply Ans.kept_accept | apply Ans.kept_stays | apply Kept.foldl | apply Kept4.of | simp only [Kept.mk_iff] | split | intro _

theorem effLoadProfileTemplate_kept {s0 : State} {x0 : Eff} {x1 : State} (h : Kept s0 x1) :
    Kept s0 (effLoadProfileTemplate x0 x1) := by
  unfold effLoadProfileTemplate
  try dsimp only
  with_reducible repeat' first
    | assumption | apply wr_kept | exact P10.TEMPLATES_LOADED_known | apply Kept.foldl | apply Kept4.of | simp only [Kept.mk_iff] | split | intro _

theorem putBatch_kept {s0 : State} {x0 : Batch} {x1 : State} (h : Kept s0 x1) :
    Kept s0 (putBatch x0 x1) := by
  unfold putBatch
  try dsimp only
  with_reducible repeat' first
    | assumption | apply Kept.foldl | apply Kept4.of | simp only [Kept.mk_iff] | split | intro _

theorem holdPart_kept {s0 : State} {x0 : Hdr} {x1 : List Byte} {x2 : Batch} {x3 : State} (h : Kept s0 x3) :
    Kept s0 (holdPart x0 x1 x2 x3) := by
  unfold holdPart
  try dsimp only
  with_reducible repeat' first
    | assumption | apply sendReply_kept | apply putBatch_kept | apply Kept.foldl | apply Kept4.of | simp only [Kept.mk_iff] | split | intro _

theorem ingestBody_kept {s0 : State} {x0 : Hdr} {x1 : List Byte} {x2 : State} (h : Kept s0 x2) :
    Ans.kept s0 (ingestBody x0 x1 x2) := by
  unfold ingestBody
  try dsimp only
  with_reducible repeat' first
    | assumption | apply holdPart_kept | exact Ans.kept_fail | exact Ans.kept_refuse | apply Ans.kept_done | apply Ans.kept_doneAtBeat | apply Ans.kept_accept | apply Ans.kept_stays | apply Kept.foldl | apply Kept4.of | simp only [Kept.mk_iff] | split | intro _

theorem execIngestBatch_kept {s0 : State} {x0 : Hdr} {x1 : List Byte} {x2 : State} (h : Kept s0 x2) :
    Outcome.kept s0 (execIngestBatch x0 x1 x2) := by
  unfold execIngestBatch
  try dsimp only
  with_reducible repeat' first
    | assumption | apply Outcome.kept_next | apply runCmd_kept | apply ingestBody_kept | exact Ans.kept_fail | exact Ans.kept_refuse | apply Ans.kept_done | apply Ans.kept_doneAtBeat | apply Ans.kept_accept | apply Ans.kept_stays | apply Kept.foldl | apply Kept4.of | simp only [Kept.mk_iff] | split | intro _

theorem execGetBatchStatus_kept {s0 : State} {x0 : Hdr} {x1 : List Byte} {x2 : State} (h : Kept s0 x2) :
    Outcome.kept s0 (execGetBatchStatus x0 x1 x2) := by
  unfold execGetBatchStatus
  try dsimp only
  with_reducible repeat' first
    | assumption | apply Outcome.kept_next | apply runCmd_kept | exact P10.BATCH_HOLD_known | exact Ans.kept_fail | exact Ans.kept_refuse | apply Ans.kept_done | apply Ans.kept_doneAtBeat | apply Ans.kept_accept | apply Ans.kept_stays | apply Kept.foldl | apply Kept4.of | simp only [Kept.mk_iff] | split | intro _

theorem execBatchExpired_kept {s0 : State} {x0 : Nat} {x1 : State} (h : Kept s0 x1) :
    Outcome.kept s0 (execBatchExpired x0 x1) := by
  unfold execBatchExpired
  try dsimp only
  with_reducible repeat' first
    | assumption | apply Outcome.kept_next | apply finish_kept | apply logEv_kept | exact P10.BATCH_HOLD_known | apply Kept.foldl | apply Kept4.of | simp only [Kept.mk_iff] | split | intro _

theorem closeBatch_kept {s0 : State} {x0 : Batch} {x1 : State} (h : Kept s0 x1) :
    Kept s0 (closeBatch x0 x1) := by
  unfold closeBatch
  try dsimp only
  with_reducible repeat' first
    | assumption | apply appendEntry_kept | apply modBatch_kept | apply Kept.foldl | apply Kept4.of | simp only [Kept.mk_iff] | split | intro _

theorem closeBatches_kept {s0 : State} {x0 : State} (h : Kept s0 x0) :
    Kept s0 (closeBatches x0) := by
  unfold closeBatches
  try dsimp only
  with_reducible repeat' first
    | assumption | apply closeBatch_kept | apply Kept.foldl | apply Kept4.of | simp only [Kept.mk_iff] | split | intro _

theorem settleFrames_kept {s0 : State} {x0 : State} (h : Kept s0 x0) :
    Kept s0 (settleFrames x0) := by
  unfold settleFrames
  try dsimp only
  with_reducible repeat' first
    | assumption | apply postCounters_kept | apply closeBatches_kept | apply Kept.foldl | apply Kept4.of | simp only [Kept.mk_iff] | split | intro _

end Sys2Proof.Machine
end

