-- ==== Sys2Proof/Laws/Kept/RadioOps.lean ====
section
/-! SUPPORT. What the operations of Machine/RadioOps.lean keep: the waiting commands, what was sent, the stored tables. -/
namespace Sys2Proof.Machine

theorem bumpCh_kept {s0 : State} {x0 : Fld} {x1 : Nat} {x2 : State} (hf0 : x0.known) (h : Kept s0 x2) :
    Kept s0 (bumpCh x0 x1 x2) := by
  unfold bumpCh
  try dsimp only
  with_reducible repeat' first
    | assumption | apply bumpI_kept | apply Kept.foldl | apply Kept4.of | simp only [Kept.mk_iff] | split | intro _

theorem cutRx_kept {s0 : State} {x0 : Nat} {x1 : State} (h : Kept s0 x1) :
    Kept s0 (cutRx x0 x1) := by
  unfold cutRx
  try dsimp only
  with_reducible repeat' first
    | assumption | apply modChan_kept | apply bumpCh_kept | exact P20.RX_CUT_known | apply Kept.foldl | apply Kept4.of | simp only [Kept.mk_iff] | split | intro _

theorem spendFc_kept {s0 : State} {x0 : Nat} {x1 : State} (h : Kept s0 x1) :
    Kept s0 (spendFc x0 x1) := by
  unfold spendFc
  try dsimp only
  with_reducible repeat' first
    | assumption | apply wrI_kept | apply modChan_kept | apply logEv_kept | exact P20.OUT_FC_known | apply Kept.foldl | apply Kept4.of | simp only [Kept.mk_iff] | split | intro _

theorem startFc_kept {s0 : State} {x0 : Nat} {x1 : State} (h : Kept s0 x1) :
    Kept s0 (startFc x0 x1) := by
  unfold startFc
  try dsimp only
  with_reducible repeat' first
    | assumption | apply wrI_kept | apply modChan_kept | apply logEv_kept | exact P20.OUT_FC_known | apply Kept.foldl | apply Kept4.of | simp only [Kept.mk_iff] | split | intro _

theorem airOut_kept {s0 : State} {x0 : Nat} {x1 : Nat} {x2 : Int} {x3 : Out} {x4 : State} (h : Kept s0 x4) :
    Kept s0 (airOut x0 x1 x2 x3 x4) := by
  unfold airOut
  try dsimp only
  with_reducible repeat' first
    | assumption | apply modChan_kept | apply emit_kept | apply bumpCh_kept | apply spendFc_kept | apply count_kept | exact P20.TX_FRAMES_known | apply Kept.foldl | apply Kept4.of | simp only [Kept.mk_iff] | split | intro _

theorem modNeigh_kept {s0 : State} {x0 : Nat} {x1 : Nat} {x2 : Neigh → Neigh} {x3 : State} (h : Kept s0 x3) :
    Kept s0 (modNeigh x0 x1 x2 x3) := by
  unfold modNeigh
  try dsimp only
  with_reducible repeat' first
    | assumption | apply Kept.foldl | apply Kept4.of | simp only [Kept.mk_iff] | split | intro _

theorem radCounts_kept {s0 : State} {x0 : Nat} {x1 : State} (h : Kept s0 x1) :
    Kept s0 (radCounts x0 x1) := by
  unfold radCounts
  try dsimp only
  with_reducible repeat' first
    | assumption | apply wrI_kept | exact P20.NEIGHBOURS_known | exact P20.SLOTS_ASSIGNED_known | exact P20.ADRIFT_NOW_known | apply Kept.foldl | apply Kept4.of | simp only [Kept.mk_iff] | split | intro _

theorem modSeen_kept {s0 : State} {x0 : Nat} {x1 : Nat} {x2 : Seen → Seen} {x3 : State} (h : Kept s0 x3) :
    Kept s0 (modSeen x0 x1 x2 x3) := by
  unfold modSeen
  try dsimp only
  with_reducible repeat' first
    | assumption | apply Kept.foldl | apply Kept4.of | simp only [Kept.mk_iff] | split | intro _

theorem seenInsert_kept {s0 s : State} {o n : Nat} (h : Kept s0 s) {y : State} (e : seenInsert o n s = some y) :
    Kept s0 y := by
  unfold seenInsert at e
  dsimp only at e
  split at e
  · cases e; exact h.same rfl rfl rfl rfl rfl
  · split at e
    · cases e; exact h.same rfl rfl rfl rfl rfl
    · cases e

end Sys2Proof.Machine
end

