-- ==== Sys2Proof/Laws/Kept/Downlink.lean ====
section
/-! SUPPORT. What the operations of Machine/Downlink.lean keep: the waiting commands, what was sent, the stored tables. -/
namespace Sys2Proof.Machine

theorem modItem_kept {s0 : State} {x0 : Nat} {x1 : DlItem → DlItem} {x2 : State} (h : Kept s0 x2) :
    Kept s0 (modItem x0 x1 x2) := by
  unfold modItem
  try dsimp only
  with_reducible repeat' first
    | assumption | apply Kept.foldl | apply Kept4.of | simp only [Kept.mk_iff] | split | intro _

theorem dlCount_kept {s0 : State} {x0 : State} (h : Kept s0 x0) :
    Kept s0 (dlCount x0) := by
  unfold dlCount
  try dsimp only
  with_reducible repeat' first
    | assumption | apply wr_kept | exact P60.DL_OPEN_known | apply Kept.foldl | apply Kept4.of | simp only [Kept.mk_iff] | split | intro _

theorem takeLane_kept {s0 : State} {x0 : Meter} {x1 : DlItem} {x2 : State} (h : Kept s0 x2) :
    Kept s0 (takeLane x0 x1 x2) := by
  unfold takeLane
  try dsimp only
  with_reducible repeat' first
    | assumption | apply postJob_kept | apply Kept.foldl | apply Kept4.of | simp only [Kept.mk_iff] | split | intro _

theorem takeDlc_kept {s0 : State} {x0 : Nat} {x1 : State} (h : Kept s0 x1) :
    Kept s0 (takeDlc x0 x1) := by
  unfold takeDlc
  try dsimp only
  with_reducible repeat' first
    | assumption | apply Kept.foldl | apply Kept4.of | simp only [Kept.mk_iff] | split | intro _

theorem unqueueItem_kept {s0 : State} {x0 : Nat} {x1 : State} (h : Kept s0 x1) :
    Kept s0 (unqueueItem x0 x1) := by
  unfold unqueueItem
  try dsimp only
  with_reducible repeat' first
    | assumption | apply Kept.foldl | apply Kept4.of | simp only [Kept.mk_iff] | split | intro _

theorem queueFrag_kept {s0 : State} {x0 : DlItem} {x1 : DlWay} {x2 : Nat} {x3 : State} (h : Kept s0 x3) :
    Kept s0 (queueFrag x0 x1 x2 x3) := by
  unfold queueFrag
  try dsimp only
  with_reducible repeat' first
    | assumption | apply queueRadio_kept | apply queuePlc_kept | apply Kept.foldl | apply Kept4.of | simp only [Kept.mk_iff] | split | intro _

theorem transmitItem_kept {s0 : State} {x0 : DlItem} {x1 : State} (h : Kept s0 x1) :
    Kept s0 (transmitItem x0 x1) := by
  unfold transmitItem
  try dsimp only
  with_reducible repeat' first
    | assumption | apply queueFrag_kept | apply Kept.foldl | apply Kept4.of | simp only [Kept.mk_iff] | split | intro _

theorem execDlDispatch_kept {s0 : State} {x0 : Nat} {x1 : Bool} {x2 : State} (h : Kept s0 x2) :
    Outcome.kept s0 (execDlDispatch x0 x1 x2) := by
  unfold execDlDispatch
  try dsimp only
  with_reducible repeat' first
    | assumption | apply Outcome.kept_next | apply modItem_kept | apply takeDlc_kept | apply postEntry_kept | apply spend_kept | apply takeLane_kept | apply Kept.foldl | apply Kept4.of | simp only [Kept.mk_iff] | split | intro _

theorem addItem_kept {s0 : State} {x0 : DlItem} {x1 : State} (h : Kept s0 x1) :
    Kept s0 (addItem x0 x1) := by
  unfold addItem
  try dsimp only
  with_reducible repeat' first
    | assumption | apply Kept.foldl | apply Kept4.of | simp only [Kept.mk_iff] | split | intro _

theorem createItem_kept {s0 : State} {x0 : DlItem} {x1 : State} (h : Kept s0 x1) :
    Kept s0 (createItem x0 x1) := by
  unfold createItem
  try dsimp only
  with_reducible repeat' first
    | assumption | apply postEntry_kept | apply addItem_kept | apply Kept.foldl | apply Kept4.of | simp only [Kept.mk_iff] | split | intro _

theorem queryMeter_kept {s0 : State} {x0 : Camp} {x1 : Nat} {x2 : Nat} {x3 : State} (h : Kept s0 x3) :
    Kept s0 (queryMeter x0 x1 x2 x3) := by
  unfold queryMeter
  try dsimp only
  with_reducible repeat' first
    | assumption | apply createItem_kept | apply Kept.foldl | apply Kept4.of | simp only [Kept.mk_iff] | split | intro _

theorem modCampaign_kept {s0 : State} {x0 : Nat} {x1 : Camp → Camp} {x2 : State} (h : Kept s0 x2) :
    Kept s0 (modCampaign x0 x1 x2) := by
  unfold modCampaign
  try dsimp only
  with_reducible repeat' first
    | assumption | apply Kept.foldl | apply Kept4.of | simp only [Kept.mk_iff] | split | intro _

theorem passDone_kept {s0 : State} {x0 : Nat} {x1 : Option Nat} {x2 : State} (h : Kept s0 x2) :
    Kept s0 (passDone x0 x1 x2) := by
  unfold passDone
  try dsimp only
  with_reducible repeat' first
    | assumption | apply queryMeter_kept | apply modCampaign_kept | apply Kept.foldl | apply Kept4.of | simp only [Kept.mk_iff] | split | intro _

theorem noteSent_kept {s0 : State} {x0 : Cargo} {x1 : Option Nat} {x2 : State} (h : Kept s0 x2) :
    Kept s0 (noteSent x0 x1 x2) := by
  unfold noteSent
  try dsimp only
  with_reducible repeat' first
    | assumption | apply passDone_kept | apply bump_kept | apply modItem_kept | exact P60.DL_SENT_FRAMES_known | apply Kept.foldl | apply Kept4.of | simp only [Kept.mk_iff] | split | intro _

theorem dlQueueBody_kept {s0 : State} {x0 : Bool} {x1 : Hdr} {x2 : List Byte} {x3 : State} (h : Kept s0 x3) :
    Ans.kept s0 (dlQueueBody x0 x1 x2 x3) := by
  unfold dlQueueBody
  try dsimp only
  with_reducible repeat' first
    | assumption | apply postGroup_kept | apply modItem_kept | apply takeDlc_kept | apply takeLane_kept | apply addItem_kept | exact P60.DL_ATTEMPTS_known | exact P60.DL_LIFE_known | exact P60.DL_PER_METER_known | exact Ans.kept_fail | exact Ans.kept_refuse | apply Ans.kept_done | apply Ans.kept_doneAtBeat | apply Ans.kept_accept | apply Ans.kept_stays | apply Kept.foldl | apply Kept4.of | simp only [Kept.mk_iff] | split | intro _

theorem execDlQueue_kept {s0 : State} {x0 : Hdr} {x1 : List Byte} {x2 : State} (h : Kept s0 x2) :
    Outcome.kept s0 (execDlQueue x0 x1 x2) := by
  unfold execDlQueue
  try dsimp only
  with_reducible repeat' first
    | assumption | apply Outcome.kept_next | apply runCmd_kept | apply dlQueueBody_kept | exact Ans.kept_fail | exact Ans.kept_refuse | apply Ans.kept_done | apply Ans.kept_doneAtBeat | apply Ans.kept_accept | apply Ans.kept_stays | apply Kept.foldl | apply Kept4.of | simp only [Kept.mk_iff] | split | intro _

theorem execDlUrgent_kept {s0 : State} {x0 : Hdr} {x1 : List Byte} {x2 : State} (h : Kept s0 x2) :
    Outcome.kept s0 (execDlUrgent x0 x1 x2) := by
  unfold execDlUrgent
  try dsimp only
  with_reducible repeat' first
    | assumption | apply Outcome.kept_next | apply runCmd_kept | apply dlQueueBody_kept | exact Ans.kept_fail | exact Ans.kept_refuse | apply Ans.kept_done | apply Ans.kept_doneAtBeat | apply Ans.kept_accept | apply Ans.kept_stays | apply Kept.foldl | apply Kept4.of | simp only [Kept.mk_iff] | split | intro _

theorem markPosted_kept {s0 : State} {x0 : Nat} {x1 : Nat} {x2 : State} (h : Kept s0 x2) :
    Kept s0 (markPosted x0 x1 x2) := by
  unfold markPosted
  try dsimp only
  with_reducible repeat' first
    | assumption | apply modItem_kept | apply Kept.foldl | apply Kept4.of | simp only [Kept.mk_iff] | split | intro _

theorem expireItem_kept {s0 : State} {x0 : DlItem} {x1 : Nat} {x2 : State} (h : Kept s0 x2) :
    Kept s0 (expireItem x0 x1 x2) := by
  unfold expireItem
  try dsimp only
  with_reducible repeat' first
    | assumption | apply modItem_kept | apply postEntry_kept | apply unqueueItem_kept | apply markPosted_kept | apply Kept.foldl | apply Kept4.of | simp only [Kept.mk_iff] | split | intro _

theorem execDlResendExpire_kept {s0 : State} {x0 : Nat} {x1 : State} (h : Kept s0 x1) :
    Outcome.kept s0 (execDlResendExpire x0 x1) := by
  unfold execDlResendExpire
  try dsimp only
  with_reducible repeat' first
    | assumption | apply Outcome.kept_next | apply transmitItem_kept | apply expireItem_kept | exact P60.DL_RESEND_known | apply Kept.foldl | apply Kept4.of | simp only [Kept.mk_iff] | split | intro _

theorem execDlExpiry_kept {s0 : State} {x0 : Nat} {x1 : State} (h : Kept s0 x1) :
    Outcome.kept s0 (execDlExpiry x0 x1) := by
  unfold execDlExpiry
  try dsimp only
  with_reducible repeat' first
    | assumption | apply Outcome.kept_next | apply expireItem_kept | apply Kept.foldl | apply Kept4.of | simp only [Kept.mk_iff] | split | intro _

theorem execDlStatus_kept {s0 : State} {x0 : Hdr} {x1 : List Byte} {x2 : State} (h : Kept s0 x2) :
    Outcome.kept s0 (execDlStatus x0 x1 x2) := by
  unfold execDlStatus
  try dsimp only
  with_reducible repeat' first
    | assumption | apply Outcome.kept_next | apply runCmd_kept | exact Ans.kept_fail | exact Ans.kept_refuse | apply Ans.kept_done | apply Ans.kept_doneAtBeat | apply Ans.kept_accept | apply Ans.kept_stays | apply Kept.foldl | apply Kept4.of | simp only [Kept.mk_iff] | split | intro _

theorem dlCancelBody_kept {s0 : State} {x0 : Hdr} {x1 : List Byte} {x2 : State} (h : Kept s0 x2) :
    Ans.kept s0 (dlCancelBody x0 x1 x2) := by
  unfold dlCancelBody
  try dsimp only
  with_reducible repeat' first
    | assumption | apply postGroup_kept | apply postEntry_kept | apply markPosted_kept | exact Ans.kept_fail | exact Ans.kept_refuse | apply Ans.kept_done | apply Ans.kept_doneAtBeat | apply Ans.kept_accept | apply Ans.kept_stays | apply Kept.foldl | apply Kept4.of | simp only [Kept.mk_iff] | split | intro _

theorem execDlCancel_kept {s0 : State} {x0 : Hdr} {x1 : List Byte} {x2 : State} (h : Kept s0 x2) :
    Outcome.kept s0 (execDlCancel x0 x1 x2) := by
  unfold execDlCancel
  try dsimp only
  with_reducible repeat' first
    | assumption | apply Outcome.kept_next | apply runCmd_kept | apply dlCancelBody_kept | exact Ans.kept_fail | exact Ans.kept_refuse | apply Ans.kept_done | apply Ans.kept_doneAtBeat | apply Ans.kept_accept | apply Ans.kept_stays | apply Kept.foldl | apply Kept4.of | simp only [Kept.mk_iff] | split | intro _

theorem dlRetire_kept {s0 : State} {x0 : Nat} {x1 : State} (h : Kept s0 x1) :
    Kept s0 (dlRetire x0 x1) := by
  unfold dlRetire
  try dsimp only
  with_reducible repeat' first
    | assumption | apply postEntry_kept | apply unqueueItem_kept | apply markPosted_kept | apply Kept.foldl | apply Kept4.of | simp only [Kept.mk_iff] | split | intro _

theorem dlReseal_kept {s0 : State} {x0 : Nat} {x1 : State} (h : Kept s0 x1) :
    Kept s0 (dlReseal x0 x1) := by
  unfold dlReseal
  try dsimp only
  with_reducible repeat' first
    | assumption | apply modItem_kept | apply postEntry_kept | apply unqueueItem_kept | apply takeLane_kept | apply Kept.foldl | apply Kept4.of | simp only [Kept.mk_iff] | split | intro _

theorem handedFrame_kept {s0 : State} {x0 : Handed} {x1 : Meter} {x2 : State} (h : Kept s0 x2) :
    Kept s0 (handedFrame x0 x1 x2) := by
  unfold handedFrame
  try dsimp only
  with_reducible repeat' first
    | assumption | apply admitFrame_kept | apply Kept.foldl | apply Kept4.of | simp only [Kept.mk_iff] | split | intro _

theorem strayResponse_kept {s0 : State} {x0 : Nat} {x1 : State} (h : Kept s0 x1) :
    Kept s0 (strayResponse x0 x1) := by
  unfold strayResponse
  try dsimp only
  with_reducible repeat' first
    | assumption | apply logEv_kept | apply Kept.foldl | apply Kept4.of | simp only [Kept.mk_iff] | split | intro _

theorem dlResponse_kept {s0 : State} {x0 : Handed} {x1 : Meter} {x2 : State} (h : Kept s0 x2) :
    Kept s0 (dlResponse x0 x1 x2) := by
  unfold dlResponse
  try dsimp only
  with_reducible repeat' first
    | assumption | apply modItem_kept | apply postEntry_kept | apply unqueueItem_kept | apply strayResponse_kept | apply handedFrame_kept | apply Kept.foldl | apply Kept4.of | simp only [Kept.mk_iff] | split | intro _

theorem meterEvents_kept {s0 : State} {x0 : Handed} {x1 : Meter} {x2 : State} (h : Kept s0 x2) :
    Kept s0 (meterEvents x0 x1 x2) := by
  unfold meterEvents
  try dsimp only
  with_reducible repeat' first
    | assumption | apply postEntry_kept | apply dropMalformed_kept | apply handedFrame_kept | apply Kept.foldl | apply Kept4.of | simp only [Kept.mk_iff] | split | intro _

theorem handleOne_kept {s0 : State} {x0 : Handed} {x1 : State} (h : Kept s0 x1) :
    Kept s0 (handleOne x0 x1) := by
  unfold handleOne
  try dsimp only
  with_reducible repeat' first
    | assumption | apply dropUnknown_kept | apply dlResponse_kept | apply meterEvents_kept | apply dropMalformed_kept | apply Kept.foldl | apply Kept4.of | simp only [Kept.mk_iff] | split | intro _

theorem handleHanded_kept {s0 : State} {x0 : State} (h : Kept s0 x0) :
    Kept s0 (handleHanded x0) := by
  unfold handleHanded
  try dsimp only
  with_reducible repeat' first
    | assumption | apply postCounters_kept | apply handleOne_kept | apply Kept.foldl | apply Kept4.of | simp only [Kept.mk_iff] | split | intro _

end Sys2Proof.Machine
end

