-- ==== Sys2Proof/Laws/Kept/Campaign.lean ====
section
/-! SUPPORT. What the operations of Machine/Campaign.lean keep: the waiting commands, what was sent, the stored tables. -/
namespace Sys2Proof.Machine

theorem meterStep10_kept {s0 : State} {x0 : Camp} {x1 : CampMeter} {x2 : Nat} {x3 : Nat} {x4 : List Byte} {x5 : State} (h : Kept s0 x5) :
    Kept s0 (meterStep10 x0 x1 x2 x3 x4 x5) := by
  unfold meterStep10
  try dsimp only
  with_reducible repeat' first
    | assumption | apply postEntry_kept | apply Kept.foldl | apply Kept4.of | simp only [Kept.mk_iff] | split | intro _

theorem modCampMeter_kept {s0 : State} {x0 : Nat} {x1 : Nat} {x2 : CampMeter → CampMeter} {x3 : State} (h : Kept s0 x3) :
    Kept s0 (modCampMeter x0 x1 x2 x3) := by
  unfold modCampMeter
  try dsimp only
  with_reducible repeat' first
    | assumption | apply modCampaign_kept | apply Kept.foldl | apply Kept4.of | simp only [Kept.mk_iff] | split | intro _

theorem fwCampFields_kept {s0 : State} {x0 : State} (h : Kept s0 x0) :
    Kept s0 (fwCampFields x0) := by
  unfold fwCampFields
  try dsimp only
  with_reducible repeat' first
    | assumption | apply wr_kept | exact P60.CAMPAIGNS_RUNNING_known | apply Kept.foldl | apply Kept4.of | simp only [Kept.mk_iff] | split | intro _

theorem dropBlocks_kept {s0 : State} {x0 : Nat} {x1 : State} (h : Kept s0 x1) :
    Kept s0 (dropBlocks x0 x1) := by
  unfold dropBlocks
  try dsimp only
  with_reducible repeat' first
    | assumption | apply Kept.foldl | apply Kept4.of | simp only [Kept.mk_iff] | split | intro _

theorem keyFields_kept {s0 : State} {x0 : State} (h : Kept s0 x0) :
    Kept s0 (keyFields x0) := by
  unfold keyFields
  try dsimp only
  with_reducible repeat' first
    | assumption | apply wr_kept | exact P40.SLOTS_PERSISTED_known | exact P40.SLOTS_LOADED_known | apply Kept.foldl | apply Kept4.of | simp only [Kept.mk_iff] | split | intro _

theorem endCampaign_kept {s0 : State} {x0 : Camp} {x1 : Nat} {x2 : State} (h : Kept s0 x2) :
    Kept s0 (endCampaign x0 x1 x2) := by
  unfold endCampaign
  try dsimp only
  with_reducible repeat' first
    | assumption | apply dropBlocks_kept | apply keyFields_kept | apply fwCampFields_kept | apply postEntry_kept | apply logEv_kept | apply modCampaign_kept | exact P40.DEBUG_ACTIVE_known | apply Kept.foldl | apply Kept4.of | simp only [Kept.mk_iff] | split | intro _

theorem abortMeter_kept {s0 : State} {x0 : Camp} {x1 : Nat} {x2 : State} (h : Kept s0 x2) :
    Kept s0 (abortMeter x0 x1 x2) := by
  unfold abortMeter
  try dsimp only
  with_reducible repeat' first
    | assumption | apply meterStep10_kept | apply Kept.foldl | apply Kept4.of | simp only [Kept.mk_iff] | split | intro _

theorem activateMeter_kept {s0 : State} {x0 : Camp} {x1 : Nat} {x2 : State} (h : Kept s0 x2) :
    Kept s0 (activateMeter x0 x1 x2) := by
  unfold activateMeter
  try dsimp only
  with_reducible repeat' first
    | assumption | apply createItem_kept | apply Kept.foldl | apply Kept4.of | simp only [Kept.mk_iff] | split | intro _

theorem wakeMeter_kept {s0 : State} {x0 : Camp} {x1 : State} {x2 : CampMeter} (h : Kept s0 x1) :
    Kept s0 (wakeMeter x0 x1 x2) := by
  unfold wakeMeter
  try dsimp only
  with_reducible repeat' first
    | assumption | apply activateMeter_kept | apply createItem_kept | apply Kept.foldl | apply Kept4.of | simp only [Kept.mk_iff] | split | intro _

theorem wakeCampaign_kept {s0 : State} {x0 : Camp} {x1 : State} (h : Kept s0 x1) :
    Kept s0 (wakeCampaign x0 x1) := by
  unfold wakeCampaign
  try dsimp only
  with_reducible repeat' first
    | assumption | apply wakeMeter_kept | apply Kept.foldl | apply Kept4.of | simp only [Kept.mk_iff] | split | intro _

theorem campConcluded_kept {s0 : State} {x0 : Camp} {x1 : DlItem} {x2 : List Byte} {x3 : State} (h : Kept s0 x3) :
    Kept s0 (campConcluded x0 x1 x2 x3) := by
  unfold campConcluded
  try dsimp only
  with_reducible repeat' first
    | assumption | apply queryMeter_kept | apply modCampMeter_kept | apply meterStep10_kept | apply Kept.foldl | apply Kept4.of | simp only [Kept.mk_iff] | split | intro _

theorem campLeft_kept {s0 : State} {x0 : Camp} {x1 : DlItem} {x2 : Bool} {x3 : State} (h : Kept s0 x3) :
    Kept s0 (campLeft x0 x1 x2 x3) := by
  unfold campLeft
  try dsimp only
  with_reducible repeat' first
    | assumption | apply abortMeter_kept | apply meterStep10_kept | apply Kept.foldl | apply Kept4.of | simp only [Kept.mk_iff] | split | intro _

theorem stepRelease_kept {s0 : State} {x0 : Entry} {x1 : State} (h : Kept s0 x1) :
    Kept s0 (stepRelease x0 x1) := by
  unfold stepRelease
  try dsimp only
  with_reducible repeat' first
    | assumption | apply dropBlocks_kept | apply fwCampFields_kept | apply activateMeter_kept | apply abortMeter_kept | apply modCampMeter_kept | apply wakeCampaign_kept | apply modCampaign_kept | apply endCampaign_kept | apply Kept.foldl | apply Kept4.of | simp only [Kept.mk_iff] | split | intro _

theorem modPush_kept {s0 : State} {x0 : Nat} {x1 : Push → Push} {x2 : State} (h : Kept s0 x2) :
    Kept s0 (modPush x0 x1 x2) := by
  unfold modPush
  try dsimp only
  with_reducible repeat' first
    | assumption | apply Kept.foldl | apply Kept4.of | simp only [Kept.mk_iff] | split | intro _

theorem pushMeter_kept {s0 : State} {x0 : Nat} {x1 : Nat} {x2 : Nat} {x3 : State} (h : Kept s0 x3) :
    Kept s0 (pushMeter x0 x1 x2 x3) := by
  unfold pushMeter
  try dsimp only
  with_reducible repeat' first
    | assumption | apply modPush_kept | apply Kept.foldl | apply Kept4.of | simp only [Kept.mk_iff] | split | intro _

theorem enterMeter_kept {s0 : State} {x0 : Push} {x1 : Nat} {x2 : State} (h : Kept s0 x2) :
    Kept s0 (enterMeter x0 x1 x2) := by
  unfold enterMeter
  try dsimp only
  with_reducible repeat' first
    | assumption | apply pushMeter_kept | apply createItem_kept | exact P60.DL_ATTEMPTS_known | apply Kept.foldl | apply Kept4.of | simp only [Kept.mk_iff] | split | intro _

theorem enterMore_kept {s0 : State} {x0 : Nat} {x1 : Nat} {x2 : State} (h : Kept s0 x2) :
    Kept s0 (enterMore x0 x1 x2) := by
  induction x1 generalizing x0 x2 with
  | zero =>
    unfold enterMore
    try dsimp only
    with_reducible repeat' first
      | assumption | apply enterMeter_kept | apply pushMeter_kept | exact P60.TARIFF_PARALLEL_known | exact P60.DL_PER_METER_known | apply Kept.foldl | apply Kept4.of | simp only [Kept.mk_iff] | split | intro _
  | succ k ih =>
    unfold enterMore
    try dsimp only
    with_reducible repeat' first
      | assumption | apply ih | apply enterMeter_kept | apply pushMeter_kept | exact P60.TARIFF_PARALLEL_known | exact P60.DL_PER_METER_known | apply Kept.foldl | apply Kept4.of | simp only [Kept.mk_iff] | split | intro _

theorem tariffEntry_kept {s0 : State} {x0 : State} (h : Kept s0 x0) :
    Kept s0 (tariffEntry x0) := by
  unfold tariffEntry
  try dsimp only
  with_reducible repeat' first
    | assumption | apply enterMore_kept | apply Kept.foldl | apply Kept4.of | simp only [Kept.mk_iff] | split | intro _

theorem pushProgress_kept {s0 : State} {x0 : Nat} {x1 : Nat} {x2 : State} (h : Kept s0 x2) :
    Kept s0 (pushProgress x0 x1 x2) := by
  unfold pushProgress
  try dsimp only
  with_reducible repeat' first
    | assumption | apply pushMeter_kept | apply Kept.foldl | apply Kept4.of | simp only [Kept.mk_iff] | split | intro _

theorem ownerEnded_kept {s0 : State} {x0 : DlItem} {x1 : List Byte} {x2 : State} (h : Kept s0 x2) :
    Kept s0 (ownerEnded x0 x1 x2) := by
  unfold ownerEnded
  try dsimp only
  with_reducible repeat' first
    | assumption | apply pushProgress_kept | apply campConcluded_kept | apply campLeft_kept | apply Kept.foldl | apply Kept4.of | simp only [Kept.mk_iff] | split | intro _

theorem sentReleased_kept {s0 : State} {x0 : DlItem} {x1 : State} (h : Kept s0 x1) :
    Kept s0 (sentReleased x0 x1) := by
  unfold sentReleased
  try dsimp only
  with_reducible repeat' first
    | assumption | apply transmitItem_kept | apply meterStep10_kept | apply Kept.foldl | apply Kept4.of | simp only [Kept.mk_iff] | split | intro _

theorem dlRelease_kept {s0 : State} {x0 : Entry} {x1 : Nat} {x2 : Nat} {x3 : State} (h : Kept s0 x3) :
    Kept s0 (dlRelease x0 x1 x2 x3) := by
  unfold dlRelease
  try dsimp only
  with_reducible repeat' first
    | assumption | apply bump_kept | apply modItem_kept | apply modPush_kept | apply sentReleased_kept | apply ownerEnded_kept | apply tariffEntry_kept | apply dlCount_kept | exact P60.DL_EXPIRED_known | exact P60.DL_CONCLUDED_known | apply Kept.foldl | apply Kept4.of | simp only [Kept.mk_iff] | split | intro _

theorem queueBlock_kept {s0 : State} {x0 : Camp} {x1 : DlWay} {x2 : Option Nat} {x3 : Nat} {x4 : Nat} {x5 : State} (h : Kept s0 x5) :
    Kept s0 (queueBlock x0 x1 x2 x3 x4 x5) := by
  unfold queueBlock
  try dsimp only
  with_reducible repeat' first
    | assumption | apply queueRadio_kept | apply queuePlc_kept | exact P20.HOP_LIMIT_known | apply Kept.foldl | apply Kept4.of | simp only [Kept.mk_iff] | split | intro _

theorem multicastRound_kept {s0 : State} {x0 : Camp} {x1 : State} (h : Kept s0 x1) :
    Kept s0 (multicastRound x0 x1) := by
  unfold multicastRound
  try dsimp only
  with_reducible repeat' first
    | assumption | apply queueBlock_kept | exact P60.BLOCK_RATE_known | apply Kept.foldl | apply Kept4.of | simp only [Kept.mk_iff] | split | intro _

theorem unicastRound_kept {s0 : State} {x0 : Camp} {x1 : State} (h : Kept s0 x1) :
    Kept s0 (unicastRound x0 x1) := by
  unfold unicastRound
  try dsimp only
  with_reducible repeat' first
    | assumption | apply queueBlock_kept | apply Kept.foldl | apply Kept4.of | simp only [Kept.mk_iff] | split | intro _

theorem beginRound_kept {s0 : State} {x0 : Camp} {x1 : State} (h : Kept s0 x1) :
    Kept s0 (beginRound x0 x1) := by
  unfold beginRound
  try dsimp only
  with_reducible repeat' first
    | assumption | apply multicastRound_kept | apply unicastRound_kept | apply postEntry_kept | apply modCampaign_kept | apply Kept.foldl | apply Kept4.of | simp only [Kept.mk_iff] | split | intro _

theorem startCampaign_kept {s0 : State} {x0 : Camp} {x1 : State} (h : Kept s0 x1) :
    Kept s0 (startCampaign x0 x1) := by
  unfold startCampaign
  try dsimp only
  with_reducible repeat' first
    | assumption | apply wakeCampaign_kept | apply modCampaign_kept | apply Kept.foldl | apply Kept4.of | simp only [Kept.mk_iff] | split | intro _

theorem execCampaignRound_kept {s0 : State} {x0 : Nat} {x1 : State} (h : Kept s0 x1) :
    Outcome.kept s0 (execCampaignRound x0 x1) := by
  unfold execCampaignRound
  try dsimp only
  with_reducible repeat' first
    | assumption | apply Outcome.kept_next | apply startCampaign_kept | apply spend_kept | apply beginRound_kept | apply Kept.foldl | apply Kept4.of | simp only [Kept.mk_iff] | split | intro _

theorem execRoundWaitExpire_kept {s0 : State} {x0 : Nat} {x1 : State} (h : Kept s0 x1) :
    Outcome.kept s0 (execRoundWaitExpire x0 x1) := by
  unfold execRoundWaitExpire
  try dsimp only
  with_reducible repeat' first
    | assumption | apply Outcome.kept_next | apply spend_kept | apply beginRound_kept | exact P60.ROUND_WAIT_known | apply Kept.foldl | apply Kept4.of | simp only [Kept.mk_iff] | split | intro _

theorem execCampaignEnded_kept {s0 : State} {x0 : Nat} {x1 : State} (h : Kept s0 x1) :
    Outcome.kept s0 (execCampaignEnded x0 x1) := by
  unfold execCampaignEnded
  try dsimp only
  with_reducible repeat' first
    | assumption | apply Outcome.kept_next | apply meterStep10_kept | apply endCampaign_kept | apply Kept.foldl | apply Kept4.of | simp only [Kept.mk_iff] | split | intro _

theorem campRetire_kept {s0 : State} {x0 : Nat} {x1 : State} (h : Kept s0 x1) :
    Kept s0 (campRetire x0 x1) := by
  unfold campRetire
  try dsimp only
  with_reducible repeat' first
    | assumption | apply meterStep10_kept | apply Kept.foldl | apply Kept4.of | simp only [Kept.mk_iff] | split | intro _

theorem imageLoadBody_kept {s0 : State} {x0 : Hdr} {x1 : List Byte} {x2 : State} (h : Kept s0 x2) :
    Ans.kept s0 (imageLoadBody x0 x1 x2) := by
  unfold imageLoadBody
  try dsimp only
  with_reducible repeat' first
    | assumption | apply finish_kept | exact Ans.kept_fail | exact Ans.kept_refuse | apply Ans.kept_done | apply Ans.kept_doneAtBeat | apply Ans.kept_accept | apply Ans.kept_stays | apply Kept.foldl | apply Kept4.of | simp only [Kept.mk_iff] | split | intro _

theorem execMeterImageLoad_kept {s0 : State} {x0 : Hdr} {x1 : List Byte} {x2 : State} (h : Kept s0 x2) :
    Outcome.kept s0 (execMeterImageLoad x0 x1 x2) := by
  unfold execMeterImageLoad
  try dsimp only
  with_reducible repeat' first
    | assumption | apply Outcome.kept_next | apply runCmd_kept | apply imageLoadBody_kept | exact Ans.kept_fail | exact Ans.kept_refuse | apply Ans.kept_done | apply Ans.kept_doneAtBeat | apply Ans.kept_accept | apply Ans.kept_stays | apply Kept.foldl | apply Kept4.of | simp only [Kept.mk_iff] | split | intro _

theorem campaignCreateBody_kept {s0 s : State} {h : Hdr} {p : List Byte} (hs : Kept s0 s) :
    Ans.kept s0 (campaignCreateBody h p s) := by
  unfold campaignCreateBody
  dsimp only
  refine Ans.kept_ite Ans.kept_fail ?_
  generalize (assocGet (byteAt p 0) s.dl.images).filter _ = o
  cases o with
  | none => exact Ans.kept_fail
  | some m =>
    repeat' first
      | with_reducible exact Ans.kept_fail | with_reducible apply Ans.kept_ite
    refine Ans.kept_stays (postGroup_kept (keyFields_kept ?_))
    simp only [Kept.mk_iff]
    refine Kept4.of (drawn_kept ?_)
    simp only [Kept.mk_iff]
    exact Kept4.of hs

theorem execCampaignCreate_kept {s0 : State} {x0 : Hdr} {x1 : List Byte} {x2 : State} (h : Kept s0 x2) :
    Outcome.kept s0 (execCampaignCreate x0 x1 x2) := by
  unfold execCampaignCreate
  try dsimp only
  with_reducible repeat' first
    | assumption | apply Outcome.kept_next | apply runCmd_kept | apply campaignCreateBody_kept | exact Ans.kept_fail | exact Ans.kept_refuse | apply Ans.kept_done | apply Ans.kept_doneAtBeat | apply Ans.kept_accept | apply Ans.kept_stays | apply Kept.foldl | apply Kept4.of | simp only [Kept.mk_iff] | split | intro _

theorem campaignControlBody_kept {s0 : State} {x0 : Hdr} {x1 : List Byte} {x2 : State} (h : Kept s0 x2) :
    Ans.kept s0 (campaignControlBody x0 x1 x2) := by
  unfold campaignControlBody
  try dsimp only
  with_reducible repeat' first
    | assumption | apply postGroup_kept | apply postEntry_kept | apply markPosted_kept | exact Ans.kept_fail | exact Ans.kept_refuse | apply Ans.kept_done | apply Ans.kept_doneAtBeat | apply Ans.kept_accept | apply Ans.kept_stays | apply Kept.foldl | apply Kept4.of | simp only [Kept.mk_iff] | split | intro _

theorem execCampaignControl_kept {s0 : State} {x0 : Hdr} {x1 : List Byte} {x2 : State} (h : Kept s0 x2) :
    Outcome.kept s0 (execCampaignControl x0 x1 x2) := by
  unfold execCampaignControl
  try dsimp only
  with_reducible repeat' first
    | assumption | apply Outcome.kept_next | apply runCmd_kept | apply campaignControlBody_kept | exact Ans.kept_fail | exact Ans.kept_refuse | apply Ans.kept_done | apply Ans.kept_doneAtBeat | apply Ans.kept_accept | apply Ans.kept_stays | apply Kept.foldl | apply Kept4.of | simp only [Kept.mk_iff] | split | intro _

theorem execCampaignStatus_kept {s0 : State} {x0 : Hdr} {x1 : List Byte} {x2 : State} (h : Kept s0 x2) :
    Outcome.kept s0 (execCampaignStatus x0 x1 x2) := by
  unfold execCampaignStatus
  try dsimp only
  with_reducible repeat' first
    | assumption | apply Outcome.kept_next | apply runCmd_kept | exact Ans.kept_fail | exact Ans.kept_refuse | apply Ans.kept_done | apply Ans.kept_doneAtBeat | apply Ans.kept_accept | apply Ans.kept_stays | apply Kept.foldl | apply Kept4.of | simp only [Kept.mk_iff] | split | intro _

end Sys2Proof.Machine
end

