-- ==== Sys2Proof/Laws/Kept/PlcOps.lean ====
section
/-! SUPPORT. What the operations of Machine/PlcOps.lean keep: the waiting commands, what was sent, the stored tables. -/
namespace Sys2Proof.Machine

theorem wrPh_kept {s0 : State} {x0 : Fld} {x1 : Nat} {x2 : Nat} {x3 : State} (hf0 : x0.known) (h : Kept s0 x3) :
    Kept s0 (wrPh x0 x1 x2 x3) := by
  unfold wrPh
  try dsimp only
  with_reducible repeat' first
    | assumption | apply wrI_kept | apply Kept.foldl | apply Kept4.of | simp only [Kept.mk_iff] | split | intro _

theorem bumpPh_kept {s0 : State} {x0 : Fld} {x1 : Nat} {x2 : State} (hf0 : x0.known) (h : Kept s0 x2) :
    Kept s0 (bumpPh x0 x1 x2) := by
  unfold bumpPh
  try dsimp only
  with_reducible repeat' first
    | assumption | apply bumpI_kept | apply Kept.foldl | apply Kept4.of | simp only [Kept.mk_iff] | split | intro _

theorem modLink_kept {s0 : State} {x0 : Nat} {x1 : Nat} {x2 : PlcLink → PlcLink} {x3 : State} (h : Kept s0 x3) :
    Kept s0 (modLink x0 x1 x2 x3) := by
  unfold modLink
  try dsimp only
  with_reducible repeat' first
    | assumption | apply modPhase_kept | apply Kept.foldl | apply Kept4.of | simp only [Kept.mk_iff] | split | intro _

theorem modRoute_kept {s0 : State} {x0 : Nat} {x1 : Nat} {x2 : PlcRoute → PlcRoute} {x3 : State} (h : Kept s0 x3) :
    Kept s0 (modRoute x0 x1 x2 x3) := by
  unfold modRoute
  try dsimp only
  with_reducible repeat' first
    | assumption | apply modPhase_kept | apply Kept.foldl | apply Kept4.of | simp only [Kept.mk_iff] | split | intro _

theorem breakRoute_kept {s0 : State} {x0 : Nat} {x1 : Nat} {x2 : State} (h : Kept s0 x2) :
    Kept s0 (breakRoute x0 x1 x2) := by
  unfold breakRoute
  try dsimp only
  with_reducible repeat' first
    | assumption | apply bumpPh_kept | apply logEv_kept | apply modRoute_kept | exact P21.ROUTE_ERRS_known | apply Kept.foldl | apply Kept4.of | simp only [Kept.mk_iff] | split | intro _

theorem requeueFront_kept {s0 : State} {x0 : Nat} {x1 : PlcTx} {x2 : State} (h : Kept s0 x2) :
    Kept s0 (requeueFront x0 x1 x2) := by
  unfold requeueFront
  try dsimp only
  with_reducible repeat' first
    | assumption | apply modPhase_kept | apply Kept.foldl | apply Kept4.of | simp only [Kept.mk_iff] | split | intro _

theorem rerouted_kept {s0 : State} {x0 : Nat} {x1 : PlcTx} {x2 : State} (h : Kept s0 x2) :
    Kept s0 (rerouted x0 x1 x2) := by
  unfold rerouted
  try dsimp only
  with_reducible repeat' first
    | assumption | apply breakRoute_kept | apply requeueFront_kept | apply Kept.foldl | apply Kept4.of | simp only [Kept.mk_iff] | split | intro _

theorem plcSpendFc_kept {s0 : State} {x0 : Nat} {x1 : State} (h : Kept s0 x1) :
    Kept s0 (plcSpendFc x0 x1) := by
  unfold plcSpendFc
  try dsimp only
  with_reducible repeat' first
    | assumption | apply wrPh_kept | apply modPhase_kept | apply logEv_kept | exact P21.OUT_FC_known | apply Kept.foldl | apply Kept4.of | simp only [Kept.mk_iff] | split | intro _

theorem plcStartFc_kept {s0 : State} {x0 : Nat} {x1 : State} (h : Kept s0 x1) :
    Kept s0 (plcStartFc x0 x1) := by
  unfold plcStartFc
  try dsimp only
  with_reducible repeat' first
    | assumption | apply wrPh_kept | apply modPhase_kept | apply logEv_kept | exact P21.OUT_FC_known | apply Kept.foldl | apply Kept4.of | simp only [Kept.mk_iff] | split | intro _

theorem buildPlc_kept {s0 : State} {x0 : Nat} {x1 : PlcTx} {x2 : State} (h : Kept s0 x2) :
    Kept s0 (buildPlc x0 x1 x2).1 := by
  unfold buildPlc
  try dsimp only
  with_reducible repeat' first
    | assumption | apply modLink_kept | apply plcSpendFc_kept | exact P21.OUT_FC_known | apply Kept.foldl | apply Kept4.of | simp only [Kept.mk_iff] | split | intro _

theorem buildPlc_pair {s0 : State} {x0 : Nat} {x1 : PlcTx} {x2 : State} {y : State} {z} (e : (buildPlc x0 x1 x2) = (y, z)) (h : Kept s0 x2) :
    Kept s0 y := by
  have g : Kept s0 (buildPlc x0 x1 x2).1 := buildPlc_kept h
  rw [e] at g
  exact g

theorem joinCount_kept {s0 : State} {x0 : Nat} {x1 : State} (h : Kept s0 x1) :
    Kept s0 (joinCount x0 x1) := by
  unfold joinCount
  try dsimp only
  with_reducible repeat' first
    | assumption | apply wrPh_kept | exact P21.METERS_JOINED_known | apply Kept.foldl | apply Kept4.of | simp only [Kept.mk_iff] | split | intro _

end Sys2Proof.Machine
end

