-- ==== Sys2Proof/Laws/Kept/Keys.lean ====
section
/-! SUPPORT. What the operations of Machine/Keys.lean keep: the waiting commands, what was sent, the stored tables. -/
namespace Sys2Proof.Machine

theorem putSlot_kept {s0 : State} {x0 : Nat} {x1 : KeySlot} {x2 : State} (h : Kept s0 x2) :
    Kept s0 (putSlot x0 x1 x2) := by
  unfold putSlot
  try dsimp only
  with_reducible repeat' first
    | assumption | apply keyFields_kept | apply Kept.foldl | apply Kept4.of | simp only [Kept.mk_iff] | split | intro _

theorem freeSlot_kept {s0 : State} {x0 : Nat} {x1 : State} (h : Kept s0 x1) :
    Kept s0 (freeSlot x0 x1) := by
  unfold freeSlot
  try dsimp only
  with_reducible repeat' first
    | assumption | apply keyFields_kept | exact P40.DEBUG_ACTIVE_known | apply Kept.foldl | apply Kept4.of | simp only [Kept.mk_iff] | split | intro _

theorem freshCounters_kept {s0 : State} {x0 : Nat} {x1 : State} (h : Kept s0 x1) :
    Kept s0 (freshCounters x0 x1) := by
  unfold freshCounters
  try dsimp only
  with_reducible repeat' first
    | assumption | apply wrPh_kept | apply wrI_kept | apply modChan_kept | apply modPhase_kept | exact P21.PLC_KEY_SLOT_known | exact P20.MAC_KEY_SLOT_known | exact P21.OUT_FC_known | exact P20.OUT_FC_known | apply Kept.foldl | apply Kept4.of | simp only [Kept.mk_iff] | split | intro _

theorem fillSlot_kept {s0 : State} {x0 : Hdr} {x1 : Nat} {x2 : Nat} {x3 : Nat} {x4 : Nat} {x5 : Bool} {x6 : List Byte} {x7 : Origin} {x8 : State} (h : Kept s0 x8) :
    Kept s0 (fillSlot x0 x1 x2 x3 x4 x5 x6 x7 x8) := by
  unfold fillSlot
  try dsimp only
  with_reducible repeat' first
    | assumption | apply freshCounters_kept | apply putSlot_kept | apply wr_kept | exact P40.STORE_LOST_known | apply Kept.foldl | apply Kept4.of | simp only [Kept.mk_iff] | split | intro _

theorem fillAnswer_kept {s0 : State} {x0 : Instr} {x1 : Nat} {x2 : State} (h : Kept s0 x2) :
    Ans.kept s0 (fillAnswer x0 x1 x2) := by
  unfold fillAnswer
  try dsimp only
  with_reducible repeat' first
    | assumption | exact Ans.kept_fail | exact Ans.kept_refuse | apply Ans.kept_done | apply Ans.kept_doneAtBeat | apply Ans.kept_accept | apply Ans.kept_stays | apply Kept.foldl | apply Kept4.of | simp only [Kept.mk_iff] | split | intro _

theorem effFill_kept {s0 : State} {x0 : Eff} {x1 : State} (h : Kept s0 x1) :
    Kept s0 (effFill x0 x1) := by
  unfold effFill
  try dsimp only
  with_reducible repeat' first
    | assumption | apply Kept.foldl | apply Kept4.of | simp only [Kept.mk_iff] | split | intro _

theorem importKey_kept {s0 : State} {x0 : Hdr} {x1 : List Byte} {x2 : Instr} {x3 : List Byte} {x4 : Origin} {x5 : State} (h : Kept s0 x5) :
    Ans.kept s0 (importKey x0 x1 x2 x3 x4 x5) := by
  unfold importKey
  try dsimp only
  with_reducible repeat' first
    | assumption | apply fillAnswer_kept | apply fillSlot_kept | exact Ans.kept_fail | exact Ans.kept_refuse | apply Ans.kept_done | apply Ans.kept_doneAtBeat | apply Ans.kept_accept | apply Ans.kept_stays | apply Kept.foldl | apply Kept4.of | simp only [Kept.mk_iff] | split | intro _

theorem importSlot_kept {s0 : State} {x0 : Hdr} {x1 : List Byte} {x2 : State} (h : Kept s0 x2) :
    Ans.kept s0 (importSlot x0 x1 x2) := by
  unfold importSlot
  try dsimp only
  with_reducible repeat' first
    | assumption | apply importKey_kept | exact Ans.kept_fail | exact Ans.kept_refuse | apply Ans.kept_done | apply Ans.kept_doneAtBeat | apply Ans.kept_accept | apply Ans.kept_stays | apply Kept.foldl | apply Kept4.of | simp only [Kept.mk_iff] | split | intro _

theorem importMeter_kept {s0 : State} {x0 : Hdr} {x1 : List Byte} {x2 : State} (h : Kept s0 x2) :
    Ans.kept s0 (importMeter x0 x1 x2) := by
  unfold importMeter
  try dsimp only
  with_reducible repeat' first
    | assumption | exact Ans.kept_fail | exact Ans.kept_refuse | apply Ans.kept_done | apply Ans.kept_doneAtBeat | apply Ans.kept_accept | apply Ans.kept_stays | apply Kept.foldl | apply Kept4.of | simp only [Kept.mk_iff] | split | intro _

theorem keyImportBody_kept {s0 : State} {x0 : Hdr} {x1 : List Byte} {x2 : State} (h : Kept s0 x2) :
    Ans.kept s0 (keyImportBody x0 x1 x2) := by
  unfold keyImportBody
  try dsimp only
  with_reducible repeat' first
    | assumption | apply importSlot_kept | apply importMeter_kept | exact P40.PLAIN_IMPORT_known | exact Ans.kept_fail | exact Ans.kept_refuse | apply Ans.kept_done | apply Ans.kept_doneAtBeat | apply Ans.kept_accept | apply Ans.kept_stays | apply Kept.foldl | apply Kept4.of | simp only [Kept.mk_iff] | split | intro _

theorem execKeyImport_kept {s0 : State} {x0 : Hdr} {x1 x2 : List Byte} {x3 : State} (h : Kept s0 x3) :
    Outcome.kept s0 (execKeyImport x0 x1 x2 x3) := by
  unfold execKeyImport
  try dsimp only
  with_reducible repeat' first
    | assumption | apply Outcome.kept_next | apply runCmd_kept | apply keyImportBody_kept | exact Ans.kept_fail | exact Ans.kept_refuse | apply Ans.kept_done | apply Ans.kept_doneAtBeat | apply Ans.kept_accept | apply Ans.kept_stays | apply Kept.foldl | apply Kept4.of | simp only [Kept.mk_iff] | split | intro _

theorem effKeyImport_kept {s0 : State} {x0 : Eff} {x1 : State} (h : Kept s0 x1) :
    Kept s0 (effKeyImport x0 x1) := by
  unfold effKeyImport
  try dsimp only
  with_reducible repeat' first
    | assumption | apply effFill_kept | apply Kept.foldl | apply Kept4.of | simp only [Kept.mk_iff] | split | intro _

theorem keyGenerateBody_kept {s0 : State} {x0 : Hdr} {x1 : List Byte} {x2 : State} (h : Kept s0 x2) :
    Ans.kept s0 (keyGenerateBody x0 x1 x2) := by
  unfold keyGenerateBody
  try dsimp only
  with_reducible repeat' first
    | assumption | apply fillAnswer_kept | apply drawn_kept | apply postP256_kept | apply fillSlot_kept | exact Ans.kept_fail | exact Ans.kept_refuse | apply Ans.kept_done | apply Ans.kept_doneAtBeat | apply Ans.kept_accept | apply Ans.kept_stays | apply Kept.foldl | apply Kept4.of | simp only [Kept.mk_iff] | split | intro _

theorem execKeyGenerate_kept {s0 : State} {x0 : Hdr} {x1 : List Byte} {x2 : State} (h : Kept s0 x2) :
    Outcome.kept s0 (execKeyGenerate x0 x1 x2) := by
  unfold execKeyGenerate
  try dsimp only
  with_reducible repeat' first
    | assumption | apply Outcome.kept_next | apply runCmd_kept | apply keyGenerateBody_kept | exact Ans.kept_fail | exact Ans.kept_refuse | apply Ans.kept_done | apply Ans.kept_doneAtBeat | apply Ans.kept_accept | apply Ans.kept_stays | apply Kept.foldl | apply Kept4.of | simp only [Kept.mk_iff] | split | intro _

theorem keyAgreeBody_kept {s0 : State} {x0 : Hdr} {x1 : List Byte} {x2 : Bool} {x3 : State} (h : Kept s0 x3) :
    Ans.kept s0 (keyAgreeBody x0 x1 x2 x3) := by
  unfold keyAgreeBody
  try dsimp only
  with_reducible repeat' first
    | assumption | apply fillAnswer_kept | apply postP256_kept | apply fillSlot_kept | exact Ans.kept_fail | exact Ans.kept_refuse | apply Ans.kept_done | apply Ans.kept_doneAtBeat | apply Ans.kept_accept | apply Ans.kept_stays | apply Kept.foldl | apply Kept4.of | simp only [Kept.mk_iff] | split | intro _

theorem execKeyAgree_kept {s0 : State} {x0 : Hdr} {x1 : List Byte} {x2 : Bool} {x3 : State} (h : Kept s0 x3) :
    Outcome.kept s0 (execKeyAgree x0 x1 x2 x3) := by
  unfold execKeyAgree
  try dsimp only
  with_reducible repeat' first
    | assumption | apply Outcome.kept_next | apply runCmd_kept | apply keyAgreeBody_kept | exact Ans.kept_fail | exact Ans.kept_refuse | apply Ans.kept_done | apply Ans.kept_doneAtBeat | apply Ans.kept_accept | apply Ans.kept_stays | apply Kept.foldl | apply Kept4.of | simp only [Kept.mk_iff] | split | intro _

theorem execKeyZeroise_kept {s0 : State} {x0 : Hdr} {x1 : List Byte} {x2 : State} (h : Kept s0 x2) :
    Outcome.kept s0 (execKeyZeroise x0 x1 x2) := by
  unfold execKeyZeroise
  try dsimp only
  with_reducible repeat' first
    | assumption | apply Outcome.kept_next | apply runCmd_kept | exact Ans.kept_fail | exact Ans.kept_refuse | apply Ans.kept_done | apply Ans.kept_doneAtBeat | apply Ans.kept_accept | apply Ans.kept_stays | apply Kept.foldl | apply Kept4.of | simp only [Kept.mk_iff] | split | intro _

theorem zeroiseSlot_kept {s0 : State} {x0 : Nat} {x1 : State} (h : Kept s0 x1) :
    Kept s0 (zeroiseSlot x0 x1) := by
  unfold zeroiseSlot
  try dsimp only
  with_reducible repeat' first
    | assumption | apply putSlot_kept | apply Kept.foldl | apply Kept4.of | simp only [Kept.mk_iff] | split | intro _

theorem effKeyZeroise_kept {s0 : State} {x0 : Eff} {x1 : State} (h : Kept s0 x1) :
    Kept s0 (effKeyZeroise x0 x1) := by
  unfold effKeyZeroise
  try dsimp only
  with_reducible repeat' first
    | assumption | apply bump_kept | apply freeSlot_kept | apply zeroiseSlot_kept | exact P40.ZEROISATIONS_known | apply Kept.foldl | apply Kept4.of | simp only [Kept.mk_iff] | split | intro _

theorem execKeyInfo_kept {s0 : State} {x0 : Hdr} {x1 : List Byte} {x2 : State} (h : Kept s0 x2) :
    Outcome.kept s0 (execKeyInfo x0 x1 x2) := by
  unfold execKeyInfo
  try dsimp only
  with_reducible repeat' first
    | assumption | apply Outcome.kept_next | apply runCmd_kept | exact Ans.kept_fail | exact Ans.kept_refuse | apply Ans.kept_done | apply Ans.kept_doneAtBeat | apply Ans.kept_accept | apply Ans.kept_stays | apply Kept.foldl | apply Kept4.of | simp only [Kept.mk_iff] | split | intro _

theorem execPubkeyExport_kept {s0 : State} {x0 : Hdr} {x1 : List Byte} {x2 : State} (h : Kept s0 x2) :
    Outcome.kept s0 (execPubkeyExport x0 x1 x2) := by
  unfold execPubkeyExport
  try dsimp only
  with_reducible repeat' first
    | assumption | apply Outcome.kept_next | apply runCmd_kept | exact Ans.kept_fail | exact Ans.kept_refuse | apply Ans.kept_done | apply Ans.kept_doneAtBeat | apply Ans.kept_accept | apply Ans.kept_stays | apply Kept.foldl | apply Kept4.of | simp only [Kept.mk_iff] | split | intro _

theorem execEntropyFail_kept {s0 : State} {x0 : State} (h : Kept s0 x0) :
    Outcome.kept s0 (execEntropyFail x0) := by
  unfold execEntropyFail
  try dsimp only
  with_reducible repeat' first
    | assumption | apply Outcome.kept_next | apply wr_kept | apply logEv_kept | exact P40.ENTROPY_OK_known | apply Kept.foldl | apply Kept4.of | simp only [Kept.mk_iff] | split | intro _

theorem reloadSlots_kept {s0 : State} {x0 : State} (h : Kept s0 x0) :
    Kept s0 (reloadSlots x0) := by
  unfold reloadSlots
  try dsimp only
  with_reducible repeat' first
    | assumption | apply keyFields_kept | exact P40.DEBUG_ACTIVE_known | apply Kept.foldl | apply Kept4.of | simp only [Kept.mk_iff] | split | intro _

theorem clearLanes_kept {s0 : State} {x0 : State} (h : Kept s0 x0) :
    Kept s0 (clearLanes x0) := by
  unfold clearLanes
  try dsimp only
  with_reducible repeat' first
    | assumption | apply Kept.foldl | apply Kept4.of | simp only [Kept.mk_iff] | split | intro _

theorem dropBadKeys_kept {s0 : State} {x0 : List Nat} {x1 : State} (h : Kept s0 x1) :
    Kept s0 (dropBadKeys x0 x1) := by
  unfold dropBadKeys
  try dsimp only
  with_reducible repeat' first
    | assumption | apply logEv_kept | exact P40.DEBUG_ACTIVE_known | apply Kept.foldl | apply Kept4.of | simp only [Kept.mk_iff] | split | intro _

theorem keyStoreRead_kept {s0 : State} {x0 : Bool} {x1 : List Nat} {x2 : State} (h : Kept s0 x2) :
    Kept s0 (keyStoreRead x0 x1 x2) := by
  unfold keyStoreRead
  try dsimp only
  with_reducible repeat' first
    | assumption | apply wrB_kept | apply reloadSlots_kept | apply dropBadKeys_kept | exact P40.STORE_LOST_known | apply Kept.foldl | apply Kept4.of | simp only [Kept.mk_iff] | split | intro _

theorem undoFills_kept {s0 : State} {x0 : Hdr → Bool} {x1 : State} (h : Kept s0 x1) :
    Kept s0 (undoFills x0 x1) := by
  unfold undoFills
  try dsimp only
  with_reducible repeat' first
    | assumption | apply reloadSlots_kept | apply Kept.foldl | apply Kept4.of | simp only [Kept.mk_iff] | split | intro _

theorem wipeKeys_kept {s0 : State} {x0 : State} (h : Kept s0 x0) :
    Kept s0 (wipeKeys x0) := by
  unfold wipeKeys
  try dsimp only
  with_reducible repeat' first
    | assumption | apply keyFields_kept | apply abortJob_kept | apply Kept.foldl | apply Kept4.of | simp only [Kept.mk_iff] | split | intro _

theorem execTamperLatch_kept {s0 : State} {x0 : State} (h : Kept s0 x0) :
    Outcome.kept s0 (execTamperLatch x0) := by
  unfold execTamperLatch
  try dsimp only
  with_reducible repeat' first
    | assumption | apply Outcome.kept_next | apply wr_kept | exact P40.TAMPER_SEEN_known | apply Kept.foldl | apply Kept4.of | simp only [Kept.mk_iff] | split | intro _

end Sys2Proof.Machine
end

