-- ==== Sys2Proof/Laws/Kept/Recorder.lean ====
section
/-! SUPPORT. What the operations of Machine/Recorder.lean keep: the waiting commands, what was sent, the stored tables. -/
namespace Sys2Proof.Machine

theorem eventReadBody_kept {s0 : State} {x0 : Hdr} {x1 : List Byte} {x2 : State} (h : Kept s0 x2) :
    Ans.kept s0 (eventReadBody x0 x1 x2) := by
  unfold eventReadBody
  try dsimp only
  with_reducible repeat' first
    | assumption | exact P51.NEXT_SEQ_known | exact Ans.kept_fail | exact Ans.kept_refuse | apply Ans.kept_done | apply Ans.kept_doneAtBeat | apply Ans.kept_accept | apply Ans.kept_stays | apply Kept.foldl | apply Kept4.of | simp only [Kept.mk_iff] | split | intro _

theorem execEventRead_kept {s0 : State} {x0 : Hdr} {x1 : List Byte} {x2 : State} (h : Kept s0 x2) :
    Outcome.kept s0 (execEventRead x0 x1 x2) := by
  unfold execEventRead
  try dsimp only
  with_reducible repeat' first
    | assumption | apply Outcome.kept_next | apply eventReadBody_kept | apply runCmd_kept | exact Ans.kept_fail | exact Ans.kept_refuse | apply Ans.kept_done | apply Ans.kept_doneAtBeat | apply Ans.kept_accept | apply Ans.kept_stays | apply Kept.foldl | apply Kept4.of | simp only [Kept.mk_iff] | split | intro _

theorem execEventFlush_kept {s0 : State} {x0 : State} (h : Kept s0 x0) :
    Outcome.kept s0 (execEventFlush x0) := by
  unfold execEventFlush
  try dsimp only
  with_reducible repeat' first
    | assumption | apply Outcome.kept_next | apply postItem_kept | exact P51.EVENT_FLUSH_MS_known | apply Kept.foldl | apply Kept4.of | simp only [Kept.mk_iff] | split | intro _

theorem execOpHoursTick_kept {s0 : State} {x0 : State} (h : Kept s0 x0) :
    Outcome.kept s0 (execOpHoursTick x0) := by
  unfold execOpHoursTick
  try dsimp only
  with_reducible repeat' first
    | assumption | apply Outcome.kept_next | apply bump_kept | exact P51.OP_HOURS_known | apply Kept.foldl | apply Kept4.of | simp only [Kept.mk_iff] | split | intro _

theorem execCounterRead_kept {s0 : State} {x0 : Hdr} {x1 : List Byte} {x2 : State} (h : Kept s0 x2) :
    Outcome.kept s0 (execCounterRead x0 x1 x2) := by
  unfold execCounterRead
  try dsimp only
  with_reducible repeat' first
    | assumption | apply Outcome.kept_next | apply runCmd_kept | exact Ans.kept_fail | exact Ans.kept_refuse | apply Ans.kept_done | apply Ans.kept_doneAtBeat | apply Ans.kept_accept | apply Ans.kept_stays | apply Kept.foldl | apply Kept4.of | simp only [Kept.mk_iff] | split | intro _

theorem clearPc_kept {s0 : State} {x0 : Nat} {x1 : State} (h : Kept s0 x1) :
    Kept s0 (clearPc x0 x1) := by
  unfold clearPc
  try dsimp only
  with_reducible repeat' first
    | assumption | apply wr_kept | exact P52.WRAP_known | exact pcFld_known _ | apply Kept.foldl | apply Kept4.of | simp only [Kept.mk_iff] | split | intro _

theorem setPc_kept {s0 : State} {x0 : Nat} {x1 : Nat} {x2 : Bool} {x3 : State} (h : Kept s0 x3) :
    Kept s0 (setPc x0 x1 x2 x3) := by
  unfold setPc
  try dsimp only
  with_reducible repeat' first
    | assumption | apply clearPc_kept | apply wr_kept | exact cfgFld_known _ | apply Kept.foldl | apply Kept4.of | simp only [Kept.mk_iff] | split | intro _

theorem execCounterConfig_kept {s0 : State} {x0 : Hdr} {x1 : List Byte} {x2 : State} (h : Kept s0 x2) :
    Outcome.kept s0 (execCounterConfig x0 x1 x2) := by
  unfold execCounterConfig
  try dsimp only
  with_reducible repeat' first
    | assumption | apply Outcome.kept_next | apply runCmd_kept | exact Ans.kept_fail | exact Ans.kept_refuse | apply Ans.kept_done | apply Ans.kept_doneAtBeat | apply Ans.kept_accept | apply Ans.kept_stays | apply Kept.foldl | apply Kept4.of | simp only [Kept.mk_iff] | split | intro _

theorem keepPcs_kept {s0 : State} {x0 : State} (h : Kept s0 x0) :
    Kept s0 (keepPcs x0) := by
  unfold keepPcs
  try dsimp only
  with_reducible repeat' first
    | assumption | apply Kept.foldl | apply Kept4.of | simp only [Kept.mk_iff] | split | intro _

theorem effCounterConfig_kept {s0 : State} {x0 : Eff} {x1 : State} (h : Kept s0 x1) :
    Kept s0 (effCounterConfig x0 x1) := by
  unfold effCounterConfig
  try dsimp only
  with_reducible repeat' first
    | assumption | apply keepPcs_kept | apply setPc_kept | apply Kept.foldl | apply Kept4.of | simp only [Kept.mk_iff] | split | intro _

theorem latchPc_kept {s0 : State} {x0 : State} {x1 : Nat} (h : Kept s0 x0) :
    Kept s0 (latchPc x0 x1) := by
  unfold latchPc
  try dsimp only
  with_reducible repeat' first
    | assumption | apply wr_kept | exact cfgFld_known _ | exact pcFld_known _ | apply Kept.foldl | apply Kept4.of | simp only [Kept.mk_iff] | split | intro _

theorem execCounterWindowEnd_kept {s0 : State} {x0 : State} (h : Kept s0 x0) :
    Outcome.kept s0 (execCounterWindowEnd x0) := by
  unfold execCounterWindowEnd
  try dsimp only
  with_reducible repeat' first
    | assumption | apply Outcome.kept_next | apply latchPc_kept | exact P52.BW_WINDOW_known | apply Kept.foldl | apply Kept4.of | simp only [Kept.mk_iff] | split | intro _

theorem execSnapshotWrite_kept {s0 : State} {x0 : State} (h : Kept s0 x0) :
    Outcome.kept s0 (execSnapshotWrite x0) := by
  unfold execSnapshotWrite
  try dsimp only
  with_reducible repeat' first
    | assumption | apply Outcome.kept_next | apply wrMems_kept | apply wr_kept | exact P52.SNAP_SEQ_known | exact P52.SNAP_PERIOD_known | apply Kept.foldl | apply Kept4.of | simp only [Kept.mk_iff] | split | intro _

theorem clearWrap_kept {s0 : State} {x0 : Nat} {x1 : State} (h : Kept s0 x1) :
    Kept s0 (clearWrap x0 x1) := by
  unfold clearWrap
  try dsimp only
  with_reducible repeat' first
    | assumption | apply wr_kept | exact P52.WRAP_known | apply Kept.foldl | apply Kept4.of | simp only [Kept.mk_iff] | split | intro _

theorem selfTestBody_kept {s0 : State} {x0 : Hdr} {x1 : List Byte} {x2 : State} (h : Kept s0 x2) :
    Ans.kept s0 (selfTestBody x0 x1 x2) := by
  unfold selfTestBody
  try dsimp only
  with_reducible repeat' first
    | assumption | apply postItem_kept | exact Ans.kept_fail | exact Ans.kept_refuse | apply Ans.kept_done | apply Ans.kept_doneAtBeat | apply Ans.kept_accept | apply Ans.kept_stays | apply Kept.foldl | apply Kept4.of | simp only [Kept.mk_iff] | split | intro _

theorem execSelfTest_kept {s0 : State} {x0 : Hdr} {x1 : List Byte} {x2 : State} (h : Kept s0 x2) :
    Outcome.kept s0 (execSelfTest x0 x1 x2) := by
  unfold execSelfTest
  try dsimp only
  with_reducible repeat' first
    | assumption | apply Outcome.kept_next | apply runCmd_kept | apply selfTestBody_kept | exact Ans.kept_fail | exact Ans.kept_refuse | apply Ans.kept_done | apply Ans.kept_doneAtBeat | apply Ans.kept_accept | apply Ans.kept_stays | apply Kept.foldl | apply Kept4.of | simp only [Kept.mk_iff] | split | intro _

theorem selfTestDone_kept {s0 : State} {x0 : Hdr} {x1 : State} (h : Kept s0 x1) :
    Kept s0 (selfTestDone x0 x1) := by
  unfold selfTestDone
  try dsimp only
  with_reducible repeat' first
    | assumption | apply finish_kept | apply drawn_kept | apply logEv_kept | apply Kept.foldl | apply Kept4.of | simp only [Kept.mk_iff] | split | intro _

end Sys2Proof.Machine
end

