-- ==== Sys2Proof/Laws/Kept/MemOps.lean ====
section
/-! SUPPORT. What the operations of Machine/MemOps.lean keep: the waiting commands, what was sent, the stored tables. -/
namespace Sys2Proof.Machine

theorem descFld_known (n : Nat) : (descFld n).known := by
  unfold descFld; split <;> exact ⟨by decide, rfl⟩

theorem ceFld_known (a : MemArray) : (ceFld a).1.known := by cases a <;> exact ⟨by decide, rfl⟩

theorem memReadBody_kept {s0 : State} {x0 : List Byte} {x1 : State} (h : Kept s0 x1) :
    Ans.kept s0 (memReadBody x0 x1) := by
  unfold memReadBody
  try dsimp only
  with_reducible repeat' first
    | assumption | apply drawn_kept | exact Ans.kept_fail | exact Ans.kept_refuse | apply Ans.kept_done | apply Ans.kept_doneAtBeat | apply Ans.kept_accept | apply Ans.kept_stays | apply Kept.foldl | apply Kept4.of | simp only [Kept.mk_iff] | split | intro _

theorem execMemRead_kept {s0 : State} {x0 : Hdr} {x1 : List Byte} {x2 : State} (h : Kept s0 x2) :
    Outcome.kept s0 (execMemRead x0 x1 x2) := by
  unfold execMemRead
  try dsimp only
  with_reducible repeat' first
    | assumption | apply Outcome.kept_next | apply runCmd_kept | apply memReadBody_kept | exact Ans.kept_fail | exact Ans.kept_refuse | apply Ans.kept_done | apply Ans.kept_doneAtBeat | apply Ans.kept_accept | apply Ans.kept_stays | apply Kept.foldl | apply Kept4.of | simp only [Kept.mk_iff] | split | intro _

theorem logCorrected_kept {s0 : State} {x0 : State} (h : Kept s0 x0) :
    Kept s0 (logCorrected x0) := by
  unfold logCorrected
  try dsimp only
  with_reducible repeat' first
    | assumption | apply logEv_kept | exact P42.CE_EVENT_LIMIT_known | apply Kept.foldl | apply Kept4.of | simp only [Kept.mk_iff] | split | intro _

theorem corrected_kept {s0 : State} {x0 : MemArray} {x1 : State} (h : Kept s0 x1) :
    Kept s0 (corrected x0 x1) := by
  unfold corrected
  try dsimp only
  with_reducible repeat' first
    | assumption | apply bump_kept | apply logCorrected_kept | apply count_kept | exact ceFld_known _ | apply Kept.foldl | apply Kept4.of | simp only [Kept.mk_iff] | split | intro _

theorem execMemCorrected_kept {s0 : State} {x0 : MemArray} {x1 : State} (h : Kept s0 x1) :
    Outcome.kept s0 (execMemCorrected x0 x1) := by
  unfold execMemCorrected
  try dsimp only
  with_reducible repeat' first
    | assumption | apply Outcome.kept_next | apply corrected_kept | apply Kept.foldl | apply Kept4.of | simp only [Kept.mk_iff] | split | intro _

theorem markPoison_kept {s0 : State} {x0 : Nat} {x1 : State} (h : Kept s0 x1) :
    Kept s0 (markPoison x0 x1) := by
  unfold markPoison
  try dsimp only
  with_reducible repeat' first
    | assumption | apply Kept.foldl | apply Kept4.of | simp only [Kept.mk_iff] | split | intro _

theorem uncorrectable_kept {s0 : State} {x0 : Nat} {x1 : State} (h : Kept s0 x1) :
    Kept s0 (uncorrectable x0 x1) := by
  unfold uncorrectable
  try dsimp only
  with_reducible repeat' first
    | assumption | apply bump_kept | apply markPoison_kept | apply wr_kept | apply logEv_kept | exact P42.LAST_UE_ADDR_known | exact P42.UE_COUNT_known | apply Kept.foldl | apply Kept4.of | simp only [Kept.mk_iff] | split | intro _

theorem execMemUncorrectable_kept {s0 : State} {x0 : Nat} {x1 : State} (h : Kept s0 x1) :
    Outcome.kept s0 (execMemUncorrectable x0 x1) := by
  unfold execMemUncorrectable
  try dsimp only
  with_reducible repeat' first
    | assumption | apply Outcome.kept_next | apply uncorrectable_kept | apply Kept.foldl | apply Kept4.of | simp only [Kept.mk_iff] | split | intro _

theorem execSramScrub_kept {s0 : State} {x0 : Nat} {x1 : State} (h : Kept s0 x1) :
    Outcome.kept s0 (execSramScrub x0 x1) := by
  unfold execSramScrub
  try dsimp only
  with_reducible repeat' first
    | assumption | apply Outcome.kept_next | apply corrected_kept | exact P42.SRAM_SCRUB_MS_known | apply Kept.foldl | apply Kept4.of | simp only [Kept.mk_iff] | split | intro _

theorem dmaFields_kept {s0 : State} {x0 : State} (h : Kept s0 x0) :
    Kept s0 (dmaFields x0) := by
  unfold dmaFields
  try dsimp only
  with_reducible repeat' first
    | assumption | apply wr_kept | exact P43.RUNNING_known | exact P43.CHAN_BUSY_known | apply Kept.foldl | apply Kept4.of | simp only [Kept.mk_iff] | split | intro _

theorem dmaStartBody_kept {s0 : State} {x0 : List Byte} {x1 : State} (h : Kept s0 x1) :
    Ans.kept s0 (dmaStartBody x0 x1) := by
  unfold dmaStartBody
  try dsimp only
  with_reducible repeat' first
    | assumption | apply dmaFields_kept | exact descFld_known _ | exact Ans.kept_fail | exact Ans.kept_refuse | apply Ans.kept_done | apply Ans.kept_doneAtBeat | apply Ans.kept_accept | apply Ans.kept_stays | apply Kept.foldl | apply Kept4.of | simp only [Kept.mk_iff] | split | intro _

theorem execDmaStart_kept {s0 : State} {x0 : Hdr} {x1 : List Byte} {x2 : State} (h : Kept s0 x2) :
    Outcome.kept s0 (execDmaStart x0 x1 x2) := by
  unfold execDmaStart
  try dsimp only
  with_reducible repeat' first
    | assumption | apply Outcome.kept_next | apply runCmd_kept | apply dmaStartBody_kept | exact Ans.kept_fail | exact Ans.kept_refuse | apply Ans.kept_done | apply Ans.kept_doneAtBeat | apply Ans.kept_accept | apply Ans.kept_stays | apply Kept.foldl | apply Kept4.of | simp only [Kept.mk_iff] | split | intro _

theorem execDmaRunStart_kept {s0 : State} {x0 : State} (h : Kept s0 x0) :
    Outcome.kept s0 (execDmaRunStart x0) := by
  unfold execDmaRunStart
  try dsimp only
  with_reducible repeat' first
    | assumption | apply Outcome.kept_next | apply dmaFields_kept | apply Kept.foldl | apply Kept4.of | simp only [Kept.mk_iff] | split | intro _

theorem clearPoison_kept {s0 : State} {x0 : Nat} {x1 : Nat} {x2 : State} (h : Kept s0 x2) :
    Kept s0 (clearPoison x0 x1 x2) := by
  unfold clearPoison
  try dsimp only
  with_reducible repeat' first
    | assumption | apply Kept.foldl | apply Kept4.of | simp only [Kept.mk_iff] | split | intro _

theorem copySegs_kept {s0 : State} {x0 : Nat} {x1 : Nat} {x2 : Nat} {x3 : Nat} {x4 : State} (h : Kept s0 x4) :
    Kept s0 (copySegs x0 x1 x2 x3 x4) := by
  induction x0 generalizing x1 x2 x3 x4 with
  | zero =>
    unfold copySegs
    try dsimp only
    with_reducible repeat' first
      | assumption | apply wrMems_kept | apply Kept.foldl | apply Kept4.of | simp only [Kept.mk_iff] | split | intro _
  | succ k ih =>
    unfold copySegs
    try dsimp only
    with_reducible repeat' first
      | assumption | apply ih | apply wrMems_kept | apply Kept.foldl | apply Kept4.of | simp only [Kept.mk_iff] | split | intro _

theorem dmaPart_kept {s0 : State} {x0 : DmaRun} {x1 : Nat} {x2 : Nat} {x3 : State} (h : Kept s0 x3) :
    Kept s0 (dmaPart x0 x1 x2 x3).2 := by
  unfold dmaPart
  try dsimp only
  with_reducible repeat' first
    | assumption | apply wrMems_kept | apply drawn_kept | apply markPoison_kept | apply clearPoison_kept | apply copySegs_kept | apply Kept.foldl | apply Kept4.of | simp only [Kept.mk_iff] | split | intro _

theorem dmaPart_pair {s0 : State} {x0 : DmaRun} {x1 : Nat} {x2 : Nat} {x3 : State} {y : State} {z} (e : (dmaPart x0 x1 x2 x3) = (z, y)) (h : Kept s0 x3) :
    Kept s0 y := by
  have g : Kept s0 (dmaPart x0 x1 x2 x3).2 := dmaPart_kept h
  rw [e] at g
  exact g

theorem dmaSlot_kept {s0 : State} {x0 : State} (h : Kept s0 x0) :
    Kept s0 (dmaSlot x0) := by
  unfold dmaSlot
  try dsimp only
  with_reducible repeat' first
    | assumption | apply dmaPart_kept | refine dmaPart_pair (by assumption) ?_ | apply count_kept | apply Kept.foldl | apply Kept4.of | simp only [Kept.mk_iff] | split | intro _

theorem endRun_kept {s0 : State} {x0 : DmaRun} {x1 : Nat} {x2 : Nat} {x3 : State} (h : Kept s0 x3) :
    Kept s0 (endRun x0 x1 x2 x3) := by
  unfold endRun
  try dsimp only
  with_reducible repeat' first
    | assumption | apply bump_kept | apply wrMems_kept | apply wr_kept | exact P43.RUNS_DONE_known | exact P43.CQ_SEQ_known | apply Kept.foldl | apply Kept4.of | simp only [Kept.mk_iff] | split | intro _

theorem execDmaRunComplete_kept {s0 : State} {x0 : State} (h : Kept s0 x0) :
    Outcome.kept s0 (execDmaRunComplete x0) := by
  unfold execDmaRunComplete
  try dsimp only
  with_reducible repeat' first
    | assumption | apply Outcome.kept_next | apply dmaFields_kept | apply endRun_kept | apply Kept.foldl | apply Kept4.of | simp only [Kept.mk_iff] | split | intro _

theorem abortRuns_kept {s0 : State} {x0 : State} (h : Kept s0 x0) :
    Kept s0 (abortRuns x0) := by
  unfold abortRuns
  try dsimp only
  with_reducible repeat' first
    | assumption | apply dmaFields_kept | apply endRun_kept | apply wr_kept | exact descFld_known _ | apply Kept.foldl | apply Kept4.of | simp only [Kept.mk_iff] | split | intro _

theorem clearMemCounters_kept {s0 s : State} (h : Kept s0 s) : Kept s0 (clearMemCounters s) := by
  refine Kept.foldl_mem (fun f hf t ht => wr_kept ?_ ht) (h.same rfl rfl rfl rfl rfl)
  unfold Fld.known
  revert f; decide

end Sys2Proof.Machine
end

