-- ==== Sys2Proof/Laws/Kept/Legal.lean ====
section
/-! SUPPORT. What the operations of Machine/Legal.lean keep: the waiting commands, what was sent, the stored tables. -/
namespace Sys2Proof.Machine

theorem modCore_kept {s0 : State} {x0 : LegalCore → LegalCore} {x1 : State} (h : Kept s0 x1) :
    Kept s0 (modCore x0 x1) := by
  unfold modCore
  try dsimp only
  with_reducible repeat' first
    | assumption | apply Kept.foldl | apply Kept4.of | simp only [Kept.mk_iff] | split | intro _

theorem postOne_kept {s0 : State} {x0 : LegalEnt} {x1 : State} (h : Kept s0 x1) :
    Kept s0 (postOne x0 x1) := by
  unfold postOne
  try dsimp only
  with_reducible repeat' first
    | assumption | apply postEntry_kept | apply modCore_kept | apply Kept.foldl | apply Kept4.of | simp only [Kept.mk_iff] | split | intro _

theorem legalPost_kept {s0 : State} {x0 : State} (h : Kept s0 x0) :
    Kept s0 (legalPost x0) := by
  unfold legalPost
  try dsimp only
  with_reducible repeat' first
    | assumption | apply postOne_kept | apply Kept.foldl | apply Kept4.of | simp only [Kept.mk_iff] | split | intro _

theorem keepEnt_kept {s0 : State} {x0 : Nat} {x1 : List Byte} {x2 : List Byte} {x3 : Bool} {x4 : State} (h : Kept s0 x4) :
    Kept s0 (keepEnt x0 x1 x2 x3 x4) := by
  unfold keepEnt
  try dsimp only
  with_reducible repeat' first
    | assumption | apply modCore_kept | apply Kept.foldl | apply Kept4.of | simp only [Kept.mk_iff] | split | intro _

theorem newEnt_kept {s0 : State} {x0 : Nat} {x1 : List Byte} {x2 : List Byte} {x3 : State} (h : Kept s0 x3) :
    Kept s0 (newEnt x0 x1 x2 x3) := by
  unfold newEnt
  try dsimp only
  with_reducible repeat' first
    | assumption | apply legalPost_kept | apply logEv_kept | apply keepEnt_kept | apply Kept.foldl | apply Kept4.of | simp only [Kept.mk_iff] | split | intro _

theorem ownEnt_kept {s0 : State} {x0 : Nat} {x1 : List Byte} {x2 : List Byte} {x3 : State} (h : Kept s0 x3) :
    Kept s0 (ownEnt x0 x1 x2 x3).2 := by
  unfold ownEnt
  try dsimp only
  with_reducible repeat' first
    | assumption | apply keepEnt_kept | apply Kept.foldl | apply Kept4.of | simp only [Kept.mk_iff] | split | intro _

theorem ownEnt_pair {s0 : State} {x0 : Nat} {x1 : List Byte} {x2 : List Byte} {x3 : State} {y : State} {z} (e : (ownEnt x0 x1 x2 x3) = (z, y)) (h : Kept s0 x3) :
    Kept s0 y := by
  have g : Kept s0 (ownEnt x0 x1 x2 x3).2 := ownEnt_kept h
  rw [e] at g
  exact g

theorem legalAccepted_kept {s0 : State} {x0 : Nat} {x1 : State} (h : Kept s0 x1) :
    Kept s0 (legalAccepted x0 x1) := by
  unfold legalAccepted
  try dsimp only
  with_reducible repeat' first
    | assumption | apply Kept.foldl | apply Kept4.of | simp only [Kept.mk_iff] | split | intro _

theorem legalRepost_kept {s0 : State} {x0 : State} (h : Kept s0 x0) :
    Kept s0 (legalRepost x0) := by
  unfold legalRepost
  try dsimp only
  with_reducible repeat' first
    | assumption | apply legalPost_kept | apply modCore_kept | apply Kept.foldl | apply Kept4.of | simp only [Kept.mk_iff] | split | intro _

theorem logRing_kept {s0 : State} {x0 : Nat} {x1 : Nat} {x2 : Nat} {x3 : Nat} {x4 : State} (h : Kept s0 x4) :
    Kept s0 (logRing x0 x1 x2 x3 x4) := by
  unfold logRing
  try dsimp only
  with_reducible repeat' first
    | assumption | apply bump_kept | apply wr_kept | exact P30.LOG_NEXT_known | exact P30.LOG_OVERWRITTEN_known | apply Kept.foldl | apply Kept4.of | simp only [Kept.mk_iff] | split | intro _

theorem legalLog_kept {s0 : State} {x0 : Nat} {x1 : Nat} {x2 : Nat} {x3 : Nat} {x4 : State} (h : Kept s0 x4) :
    Kept s0 (legalLog x0 x1 x2 x3 x4) := by
  unfold legalLog
  try dsimp only
  with_reducible repeat' first
    | assumption | apply logRing_kept | apply newEnt_kept | apply Kept.foldl | apply Kept4.of | simp only [Kept.mk_iff] | split | intro _

theorem ownLog_kept {s0 : State} {x0 : Nat} {x1 : Nat} {x2 : Nat} {x3 : Nat} {x4 : State} (h : Kept s0 x4) :
    Kept s0 (ownLog x0 x1 x2 x3 x4).2 := by
  unfold ownLog
  try dsimp only
  with_reducible repeat' first
    | assumption | apply logRing_kept | apply ownEnt_kept | refine ownEnt_pair (by assumption) ?_ | apply Kept.foldl | apply Kept4.of | simp only [Kept.mk_iff] | split | intro _

theorem ownLog_pair {s0 : State} {x0 : Nat} {x1 : Nat} {x2 : Nat} {x3 : Nat} {x4 : State} {y : State} {z} (e : (ownLog x0 x1 x2 x3 x4) = (z, y)) (h : Kept s0 x4) :
    Kept s0 y := by
  have g : Kept s0 (ownLog x0 x1 x2 x3 x4).2 := ownLog_kept h
  rw [e] at g
  exact g

theorem startProfile_kept {s0 : State} {x0 : Nat} {x1 : Bool} {x2 : State} (h : Kept s0 x2) :
    Kept s0 (startProfile x0 x1 x2) := by
  unfold startProfile
  try dsimp only
  with_reducible repeat' first
    | assumption | apply modCore_kept | apply Kept.foldl | apply Kept4.of | simp only [Kept.mk_iff] | split | intro _

theorem takeSnapshot_kept {s0 : State} {x0 : State} (h : Kept s0 x0) :
    Kept s0 (takeSnapshot x0) := by
  unfold takeSnapshot
  try dsimp only
  with_reducible repeat' first
    | assumption | apply Kept.foldl | apply Kept4.of | simp only [Kept.mk_iff] | split | intro _

theorem profileMultiple_kept {s0 : State} {x0 : Nat} {x1 : State} (h : Kept s0 x1) :
    Kept s0 (profileMultiple x0 x1) := by
  unfold profileMultiple
  try dsimp only
  with_reducible repeat' first
    | assumption | apply modCore_kept | exact P30.PROFILE_PERIOD_known | apply Kept.foldl | apply Kept4.of | simp only [Kept.mk_iff] | split | intro _

theorem profileClose_kept {s0 : State} {x0 : Nat} {x1 : Bool} {x2 : Bool} {x3 : State} (h : Kept s0 x3) :
    Kept s0 (profileClose x0 x1 x2 x3) := by
  unfold profileClose
  try dsimp only
  with_reducible repeat' first
    | assumption | apply newEnt_kept | apply profileMultiple_kept | apply takeSnapshot_kept | apply startProfile_kept | apply modCore_kept | exact P31.RATE_NOW_known | apply Kept.foldl | apply Kept4.of | simp only [Kept.mk_iff] | split | intro _

theorem demandRecord_kept {s0 : State} {x0 : Nat} {x1 : Nat} {x2 : Nat} {x3 : Bool} {x4 : Bool} {x5 : State} (h : Kept s0 x5) :
    Kept s0 (demandRecord x0 x1 x2 x3 x4 x5) := by
  unfold demandRecord
  try dsimp only
  with_reducible repeat' first
    | assumption | apply newEnt_kept | apply modCore_kept | exact P30.DEMAND_METHOD_known | exact P31.RATE_NOW_known | apply Kept.foldl | apply Kept4.of | simp only [Kept.mk_iff] | split | intro _

theorem startDemand_kept {s0 : State} {x0 : Nat} {x1 : List Nat} {x2 : Bool} {x3 : State} (h : Kept s0 x3) :
    Kept s0 (startDemand x0 x1 x2 x3) := by
  unfold startDemand
  try dsimp only
  with_reducible repeat' first
    | assumption | apply modCore_kept | apply Kept.foldl | apply Kept4.of | simp only [Kept.mk_iff] | split | intro _

theorem demandClose_kept {s0 : State} {x0 : Nat} {x1 : Bool} {x2 : Bool} {x3 : State} (h : Kept s0 x3) :
    Kept s0 (demandClose x0 x1 x2 x3) := by
  unfold demandClose
  try dsimp only
  with_reducible repeat' first
    | assumption | apply startDemand_kept | apply demandRecord_kept | apply modCore_kept | exact P30.DEMAND_SUBS_known | exact P30.DEMAND_METHOD_known | exact P30.DEMAND_PERIOD_known | apply Kept.foldl | apply Kept4.of | simp only [Kept.mk_iff] | split | intro _

theorem closePeriod_kept {s0 : State} {x0 : BillSet} {x1 : State} (h : Kept s0 x1) :
    Kept s0 (closePeriod x0 x1) := by
  unfold closePeriod
  try dsimp only
  with_reducible repeat' first
    | assumption | apply logRing_kept | apply wr_kept | apply modCore_kept | exact P31.CLOSURES_known | apply Kept.foldl | apply Kept4.of | simp only [Kept.mk_iff] | split | intro _

theorem runClosure_kept {s0 : State} {x0 : Nat} {x1 : Bool} {x2 : Bool} {x3 : State} (h : Kept s0 x3) :
    Kept s0 (runClosure x0 x1 x2 x3) := by
  unfold runClosure
  try dsimp only
  with_reducible repeat' first
    | assumption | apply newEnt_kept | apply closePeriod_kept | apply takeSnapshot_kept | apply wr_kept | apply modCore_kept | exact P31.LAST_SCHED_AT_known | apply Kept.foldl | apply Kept4.of | simp only [Kept.mk_iff] | split | intro _

theorem instantEnt_kept {s0 : State} {x0 : Nat} {x1 : Nat} {x2 : Bool} {x3 : Bool} {x4 : Nat} {x5 : Nat} {x6 : Nat} {x7 : Nat} {x8 : State} (h : Kept s0 x8) :
    Kept s0 (instantEnt x0 x1 x2 x3 x4 x5 x6 x7 x8) := by
  unfold instantEnt
  try dsimp only
  with_reducible repeat' first
    | assumption | apply newEnt_kept | apply Kept.foldl | apply Kept4.of | simp only [Kept.mk_iff] | split | intro _

theorem setRate_kept {s0 : State} {x0 : Nat} {x1 : Nat} {x2 : State} (h : Kept s0 x2) :
    Kept s0 (setRate x0 x1 x2) := by
  unfold setRate
  try dsimp only
  with_reducible repeat' first
    | assumption | apply wr_kept | exact P31.PATTERN_NOW_known | exact P31.RATE_NOW_known | apply Kept.foldl | apply Kept4.of | simp only [Kept.mk_iff] | split | intro _

theorem evalRate_kept {s0 : State} {x0 : Nat} {x1 : Bool} {x2 : Bool} {x3 : Bool} {x4 : State} (h : Kept s0 x4) :
    Kept s0 (evalRate x0 x1 x2 x3 x4) := by
  unfold evalRate
  try dsimp only
  with_reducible repeat' first
    | assumption | apply demandClose_kept | apply instantEnt_kept | apply setRate_kept | exact P31.PATTERN_NOW_known | exact P31.RATE_NOW_known | apply Kept.foldl | apply Kept4.of | simp only [Kept.mk_iff] | split | intro _

theorem activateCal_kept {s0 : State} {x0 : Nat} {x1 : Bool} {x2 : State} (h : Kept s0 x2) :
    Kept s0 (activateCal x0 x1 x2) := by
  unfold activateCal
  try dsimp only
  with_reducible repeat' first
    | assumption | apply legalLog_kept | apply wr_kept | apply instantEnt_kept | exact P31.ACTIVE_CAL_ID_known | exact P31.PATTERN_NOW_known | exact P31.RATE_NOW_known | exact P31.PENDING_AT_known | apply Kept.foldl | apply Kept4.of | simp only [Kept.mk_iff] | split | intro _

theorem doDue_kept {s0 : State} {x0 : Nat × Nat} {x1 : Bool} {x2 : State} (h : Kept s0 x2) :
    Kept s0 (doDue x0 x1 x2) := by
  unfold doDue
  try dsimp only
  with_reducible repeat' first
    | assumption | apply profileClose_kept | apply runClosure_kept | apply demandClose_kept | apply activateCal_kept | apply Kept.foldl | apply Kept4.of | simp only [Kept.mk_iff] | split | intro _

theorem catchUp_kept {s0 : State} {x0 : Bool} {x1 : Nat} {x2 : Nat} {x3 : State} (h : Kept s0 x3) :
    Kept s0 (catchUp x0 x1 x2 x3) := by
  induction x2 generalizing x0 x1 x3 with
  | zero =>
    unfold catchUp
    try dsimp only
    with_reducible repeat' first
      | assumption | apply evalRate_kept | apply doDue_kept | apply Kept.foldl | apply Kept4.of | simp only [Kept.mk_iff] | split | intro _
  | succ k ih =>
    unfold catchUp
    try dsimp only
    with_reducible repeat' first
      | assumption | apply ih | apply evalRate_kept | apply doDue_kept | apply Kept.foldl | apply Kept4.of | simp only [Kept.mk_iff] | split | intro _

theorem catchUpNow_kept {s0 : State} {x0 : Bool} {x1 : State} (h : Kept s0 x1) :
    Kept s0 (catchUpNow x0 x1) := by
  unfold catchUpNow
  try dsimp only
  with_reducible repeat' first
    | assumption | apply catchUp_kept | apply Kept.foldl | apply Kept4.of | simp only [Kept.mk_iff] | split | intro _

theorem splitBoth_kept {s0 : State} {x0 : Nat} {x1 : State} (h : Kept s0 x1) :
    Kept s0 (splitBoth x0 x1) := by
  unfold splitBoth
  try dsimp only
  with_reducible repeat' first
    | assumption | apply profileClose_kept | apply demandClose_kept | apply Kept.foldl | apply Kept4.of | simp only [Kept.mk_iff] | split | intro _

theorem startBoth_kept {s0 : State} {x0 : Nat} {x1 : Bool} {x2 : State} (h : Kept s0 x2) :
    Kept s0 (startBoth x0 x1 x2) := by
  unfold startBoth
  try dsimp only
  with_reducible repeat' first
    | assumption | apply startDemand_kept | apply startProfile_kept | apply Kept.foldl | apply Kept4.of | simp only [Kept.mk_iff] | split | intro _

theorem runSkipped_kept {s0 : State} {x0 : Nat} {x1 : State} (h : Kept s0 x1) :
    Kept s0 (runSkipped x0 x1) := by
  unfold runSkipped
  try dsimp only
  with_reducible repeat' first
    | assumption | apply runClosure_kept | exact P31.LAST_SCHED_AT_known | apply Kept.foldl | apply Kept4.of | simp only [Kept.mk_iff] | split | intro _

theorem localChange_kept {s0 : State} {x0 : Nat} {x1 : Int} {x2 : State} (h : Kept s0 x2) :
    Kept s0 (localChange x0 x1 x2) := by
  unfold localChange
  try dsimp only
  with_reducible repeat' first
    | assumption | apply wrB_kept | apply runSkipped_kept | apply evalRate_kept | apply demandClose_kept | apply instantEnt_kept | exact P31.DST_ON_known | exact P31.PATTERN_NOW_known | exact P31.RATE_NOW_known | apply Kept.foldl | apply Kept4.of | simp only [Kept.mk_iff] | split | intro _

theorem passClosures_kept {s0 : State} {x0 : Nat} {x1 : Nat} {x2 : State} (h : Kept s0 x2) :
    Kept s0 (passClosures x0 x1 x2) := by
  unfold passClosures
  try dsimp only
  with_reducible repeat' first
    | assumption | apply legalLog_kept | apply runClosure_kept | exact P31.LAST_SCHED_AT_known | exact P31.CLOSURES_known | apply Kept.foldl | apply Kept4.of | simp only [Kept.mk_iff] | split | intro _

theorem afterStep_kept {s0 : State} {x0 : Nat} {x1 : Bool} {x2 : Nat} {x3 : State} (h : Kept s0 x3) :
    Kept s0 (afterStep x0 x1 x2 x3) := by
  unfold afterStep
  try dsimp only
  with_reducible repeat' first
    | assumption | apply wrB_kept | apply passClosures_kept | apply evalRate_kept | apply startBoth_kept | apply legalLog_kept | apply wr_kept | apply modCore_kept | exact P31.DST_ON_known | exact P31.LAST_SCHED_AT_known | apply Kept.foldl | apply Kept4.of | simp only [Kept.mk_iff] | split | intro _

theorem outageStart_kept {s0 : State} {x0 : State} (h : Kept s0 x0) :
    Kept s0 (outageStart x0) := by
  unfold outageStart
  try dsimp only
  with_reducible repeat' first
    | assumption | apply splitBoth_kept | apply catchUpNow_kept | apply modCore_kept | apply Kept.foldl | apply Kept4.of | simp only [Kept.mk_iff] | split | intro _

theorem outageSnapshot_kept {s0 : State} {x0 : State} (h : Kept s0 x0) :
    Kept s0 (outageSnapshot x0) := by
  unfold outageSnapshot
  try dsimp only
  with_reducible repeat' first
    | assumption | apply takeSnapshot_kept | apply Kept.foldl | apply Kept4.of | simp only [Kept.mk_iff] | split | intro _

theorem legalResume_kept {s0 : State} {x0 : State} (h : Kept s0 x0) :
    Kept s0 (legalResume x0) := by
  unfold legalResume
  try dsimp only
  with_reducible repeat' first
    | assumption | apply logRing_kept | apply wr_kept | apply logEv_kept | apply keepEnt_kept | exact P30.CAL_CRC_known | apply Kept.foldl | apply Kept4.of | simp only [Kept.mk_iff] | split | intro _

theorem outageRestore_kept {s0 : State} {x0 : State} (h : Kept s0 x0) :
    Kept s0 (outageRestore x0) := by
  unfold outageRestore
  try dsimp only
  with_reducible repeat' first
    | assumption | apply wrB_kept | apply evalRate_kept | apply startBoth_kept | apply legalLog_kept | apply catchUpNow_kept | apply legalRepost_kept | apply modCore_kept | exact P31.DST_ON_known | exact P03.LEGAL_INVALID_known | apply Kept.foldl | apply Kept4.of | simp only [Kept.mk_iff] | split | intro _

end Sys2Proof.Machine
end

