-- ==== Sys2Proof/Laws/Kept/Carry.lean ====
section
/-! SUPPORT. What the operations of Machine/Carry.lean keep: the waiting commands, what was sent, the stored tables. -/
namespace Sys2Proof.Machine

theorem carryGroup_kept {s0 : State} {x0 : List Entry} {x1 : State} (h : Kept s0 x1) :
    Kept s0 (carryGroup x0 x1).1 := by
  unfold carryGroup
  try dsimp only
  with_reducible repeat' first
    | assumption | apply placePages_kept | refine placePages_pair (by assumption) ?_ | apply programGroup_kept | apply Kept.foldl | apply Kept4.of | simp only [Kept.mk_iff] | split | intro _

theorem carryGroup_pair {s0 : State} {x0 : List Entry} {x1 : State} {y : State} {z} (e : (carryGroup x0 x1) = (y, z)) (h : Kept s0 x1) :
    Kept s0 y := by
  have g : Kept s0 (carryGroup x0 x1).1 := carryGroup_kept h
  rw [e] at g
  exact g

theorem keepCarry_kept {s0 : State} {x0 : Group} {x1 : State} (h : Kept s0 x1) :
    Kept s0 (keepCarry x0 x1) := by
  unfold keepCarry
  try dsimp only
  with_reducible repeat' first
    | assumption | apply Kept.foldl | apply Kept4.of | simp only [Kept.mk_iff] | split | intro _

theorem carryPages_kept {s0 : State} {x0 : List Entry} {x1 : List Entry} {x2 : State} (h : Kept s0 x2) :
    Kept s0 (carryPages x0 x1 x2) := by
  unfold carryPages
  try dsimp only
  with_reducible repeat' first
    | assumption | apply wr_kept | apply keepCarry_kept | apply carryGroup_kept | refine carryGroup_pair (by assumption) ?_ | apply count_kept | exact P12.NEXT_LSEQ_known | apply Kept.foldl | apply Kept4.of | simp only [Kept.mk_iff] | split | intro _

theorem dropSeg_kept {s0 : State} {x0 : Nat} {x1 : State} (h : Kept s0 x1) :
    Kept s0 (dropSeg x0 x1) := by
  unfold dropSeg
  try dsimp only
  with_reducible repeat' first
    | assumption | apply Kept.foldl | apply Kept4.of | simp only [Kept.mk_iff] | split | intro _

theorem checkpoint_kept {s0 : State} {x0 : List Entry} {x1 : State} (h : Kept s0 x1) :
    Kept s0 (checkpoint x0 x1) := by
  unfold checkpoint
  try dsimp only
  with_reducible repeat' first
    | assumption | apply writePages_kept | apply Kept.foldl | apply Kept4.of | simp only [Kept.mk_iff] | split | intro _

theorem beginReclaim_kept {s0 : State} {x0 : Nat} {x1 : State} (h : Kept s0 x1) :
    Kept s0 (beginReclaim x0 x1) := by
  unfold beginReclaim
  try dsimp only
  with_reducible repeat' first
    | assumption | apply checkpoint_kept | apply postEntry_kept | apply carryGroup_kept | refine carryGroup_pair (by assumption) ?_ | apply Kept.foldl | apply Kept4.of | simp only [Kept.mk_iff] | split | intro _

theorem pendSegBlks_kept {s0 : State} {x0 : Nat} {x1 : State} (h : Kept s0 x1) :
    Kept s0 (pendSegBlks x0 x1) := by
  unfold pendSegBlks
  try dsimp only
  with_reducible repeat' first
    | assumption | apply setBlkSt_kept | apply postRec_kept | apply commitPending_kept | apply Kept.foldl | apply Kept4.of | simp only [Kept.mk_iff] | split | intro _

theorem endReclaim_kept {s0 : State} {x0 : CarryJob} {x1 : State} (h : Kept s0 x1) :
    Kept s0 (endReclaim x0 x1) := by
  unfold endReclaim
  try dsimp only
  with_reducible repeat' first
    | assumption | apply ftlFields_kept | apply checkSpace_kept | apply postRec_kept | apply dropSeg_kept | apply pendSegBlks_kept | apply keepCarry_kept | apply Kept.foldl | apply Kept4.of | simp only [Kept.mk_iff] | split | intro _

theorem execSegmentReclaim_kept {s0 : State} {x0 : Nat} {x1 : State} (h : Kept s0 x1) :
    Outcome.kept s0 (execSegmentReclaim x0 x1) := by
  unfold execSegmentReclaim
  try dsimp only
  with_reducible repeat' first
    | assumption | apply Outcome.kept_next | apply endReclaim_kept | apply beginReclaim_kept | apply spend_kept | apply Kept.foldl | apply Kept4.of | simp only [Kept.mk_iff] | split | intro _

end Sys2Proof.Machine
end

