-- ==== Sys2Proof/Laws/Kept/Display.lean ====
section
/-! SUPPORT. What the operations of Machine/Display.lean keep: the waiting commands, what was sent, the stored tables. -/
namespace Sys2Proof.Machine

theorem drivePins_kept {s0 : State} {x0 : Nat} {x1 : State} (h : Kept s0 x1) :
    Kept s0 (drivePins x0 x1) := by
  unfold drivePins
  try dsimp only
  with_reducible repeat' first
    | assumption | apply emit_kept | apply Kept.foldl | apply Kept4.of | simp only [Kept.mk_iff] | split | intro _

theorem driveReq_kept {s0 : State} {x0 : Nat} {x1 : State} (h : Kept s0 x1) :
    Kept s0 (driveReq x0 x1) := by
  unfold driveReq
  try dsimp only
  with_reducible repeat' first
    | assumption | apply emit_kept | apply Kept.foldl | apply Kept4.of | simp only [Kept.mk_iff] | split | intro _

theorem driveOutputs_kept {s0 : State} {x0 : State} (h : Kept s0 x0) :
    Kept s0 (driveOutputs x0) := by
  unfold driveOutputs
  try dsimp only
  with_reducible repeat' first
    | assumption | apply wr_kept | apply drivePins_kept | exact P32.OUT_STATE_known | apply Kept.foldl | apply Kept4.of | simp only [Kept.mk_iff] | split | intro _

theorem modPulse_kept {s0 : State} {x0 : Nat} {x1 : PulseSt → PulseSt} {x2 : State} (h : Kept s0 x2) :
    Kept s0 (modPulse x0 x1 x2) := by
  unfold modPulse
  try dsimp only
  with_reducible repeat' first
    | assumption | apply Kept.foldl | apply Kept4.of | simp only [Kept.mk_iff] | split | intro _

theorem feedPulse_kept {s0 : State} {x0 : Nat} {x1 : State} {x2 : Nat} (h : Kept s0 x1) :
    Kept s0 (feedPulse x0 x1 x2) := by
  unfold feedPulse
  try dsimp only
  with_reducible repeat' first
    | assumption | apply modPulse_kept | exact P32.PULSE_IMP_KWH_known | apply Kept.foldl | apply Kept4.of | simp only [Kept.mk_iff] | split | intro _

theorem feedPulses_kept {s0 : State} {x0 : Nat} {x1 : State} (h : Kept s0 x1) :
    Kept s0 (feedPulses x0 x1) := by
  unfold feedPulses
  try dsimp only
  with_reducible repeat' first
    | assumption | apply feedPulse_kept | apply Kept.foldl | apply Kept4.of | simp only [Kept.mk_iff] | split | intro _

theorem execOutputPulse_kept {s0 : State} {x0 : Fin 8} {x1 : State} (h : Kept s0 x1) :
    Outcome.kept s0 (execOutputPulse x0 x1) := by
  unfold execOutputPulse
  try dsimp only
  with_reducible repeat' first
    | assumption | apply Outcome.kept_next | apply modPulse_kept | apply emit_kept | apply driveOutputs_kept | exact P32.PULSE_MS_known | apply Kept.foldl | apply Kept4.of | simp only [Kept.mk_iff] | split | intro _

theorem execDisplayRefresh_kept {s0 : State} {x0 : Bool} {x1 : State} (h : Kept s0 x1) :
    Outcome.kept s0 (execDisplayRefresh x0 x1) := by
  unfold execDisplayRefresh
  try dsimp only
  with_reducible repeat' first
    | assumption | apply Outcome.kept_next | apply bump_kept | apply emit_kept | exact P32.DISP_EN_known | exact P32.DISP_ADDR_known | exact P32.DISP_ERRS_known | apply Kept.foldl | apply Kept4.of | simp only [Kept.mk_iff] | split | intro _

theorem execButtonPress_kept {s0 : State} {x0 : State} (h : Kept s0 x0) :
    Outcome.kept s0 (execButtonPress x0) := by
  unfold execButtonPress
  try dsimp only
  with_reducible repeat' first
    | assumption | apply Outcome.kept_next | apply Kept.foldl | apply Kept4.of | simp only [Kept.mk_iff] | split | intro _

theorem execScrollExpire_kept {s0 : State} {x0 : State} (h : Kept s0 x0) :
    Outcome.kept s0 (execScrollExpire x0) := by
  unfold execScrollExpire
  try dsimp only
  with_reducible repeat' first
    | assumption | apply Outcome.kept_next | exact P32.SCROLL_S_known | apply Kept.foldl | apply Kept4.of | simp only [Kept.mk_iff] | split | intro _

theorem execDispTimeoutExpire_kept {s0 : State} {x0 : State} (h : Kept s0 x0) :
    Outcome.kept s0 (execDispTimeoutExpire x0) := by
  unfold execDispTimeoutExpire
  try dsimp only
  with_reducible repeat' first
    | assumption | apply Outcome.kept_next | exact P32.DISP_TIMEOUT_known | apply Kept.foldl | apply Kept4.of | simp only [Kept.mk_iff] | split | intro _

theorem displayListBody_kept {s0 : State} {x0 : Hdr} {x1 : List Byte} {x2 : State} (h : Kept s0 x2) :
    Ans.kept s0 (displayListBody x0 x1 x2) := by
  unfold displayListBody
  try dsimp only
  with_reducible repeat' first
    | assumption | exact Ans.kept_fail | exact Ans.kept_refuse | apply Ans.kept_done | apply Ans.kept_doneAtBeat | apply Ans.kept_accept | apply Ans.kept_stays | apply Kept.foldl | apply Kept4.of | simp only [Kept.mk_iff] | split | intro _

theorem execDisplayList_kept {s0 : State} {x0 : Hdr} {x1 : List Byte} {x2 : State} (h : Kept s0 x2) :
    Outcome.kept s0 (execDisplayList x0 x1 x2) := by
  unfold execDisplayList
  try dsimp only
  with_reducible repeat' first
    | assumption | apply Outcome.kept_next | apply runCmd_kept | apply displayListBody_kept | exact Ans.kept_fail | exact Ans.kept_refuse | apply Ans.kept_done | apply Ans.kept_doneAtBeat | apply Ans.kept_accept | apply Ans.kept_stays | apply Kept.foldl | apply Kept4.of | simp only [Kept.mk_iff] | split | intro _

theorem effDisplayList_kept {s0 : State} {x0 : Eff} {x1 : State} (h : Kept s0 x1) :
    Kept s0 (effDisplayList x0 x1) := by
  unfold effDisplayList
  try dsimp only
  with_reducible repeat' first
    | assumption | apply wr_kept | exact P32.AUTO_COUNT_known | exact P32.BUTTON_COUNT_known | apply Kept.foldl | apply Kept4.of | simp only [Kept.mk_iff] | split | intro _

theorem outputControlBody_kept {s0 : State} {x0 : Hdr} {x1 : List Byte} {x2 : State} (h : Kept s0 x2) :
    Ans.kept s0 (outputControlBody x0 x1 x2) := by
  unfold outputControlBody
  try dsimp only
  with_reducible repeat' first
    | assumption | apply wr_kept | exact P32.OUT_CMD_known | exact Ans.kept_fail | exact Ans.kept_refuse | apply Ans.kept_done | apply Ans.kept_doneAtBeat | apply Ans.kept_accept | apply Ans.kept_stays | apply Kept.foldl | apply Kept4.of | simp only [Kept.mk_iff] | split | intro _

theorem execOutputControl_kept {s0 : State} {x0 : Hdr} {x1 : List Byte} {x2 : State} (h : Kept s0 x2) :
    Outcome.kept s0 (execOutputControl x0 x1 x2) := by
  unfold execOutputControl
  try dsimp only
  with_reducible repeat' first
    | assumption | apply Outcome.kept_next | apply outputControlBody_kept | apply runCmd_kept | exact Ans.kept_fail | exact Ans.kept_refuse | apply Ans.kept_done | apply Ans.kept_doneAtBeat | apply Ans.kept_accept | apply Ans.kept_stays | apply Kept.foldl | apply Kept4.of | simp only [Kept.mk_iff] | split | intro _

theorem effOutputControl_kept {s0 : State} {x0 : Eff} {x1 : State} (h : Kept s0 x1) :
    Kept s0 (effOutputControl x0 x1) := by
  unfold effOutputControl
  try dsimp only
  with_reducible repeat' first
    | assumption | apply wr_kept | apply driveOutputs_kept | exact P32.OUT_CMD_known | apply Kept.foldl | apply Kept4.of | simp only [Kept.mk_iff] | split | intro _

end Sys2Proof.Machine
end

