-- ==== Sys2Proof/Laws/Kept/Lanes.lean ====
section
/-! SUPPORT. What the operations of Machine/Lanes.lean keep: the waiting commands, what was sent, the stored tables. -/
namespace Sys2Proof.Machine

theorem execLaneJobPost_kept {s0 : State} {x0 : LaneJob} {x1 : State} (h : Kept s0 x1) :
    Outcome.kept s0 (execLaneJobPost x0 x1) := by
  unfold execLaneJobPost
  try dsimp only
  with_reducible repeat' first
    | assumption | apply Outcome.kept_next | apply postJob_kept | apply failJob_kept | apply Kept.foldl | apply Kept4.of | simp only [Kept.mk_iff] | split | intro _

theorem nextOnLane_kept {s0 : State} {x0 : Nat} {x1 : State} (h : Kept s0 x1) :
    Kept s0 (nextOnLane x0 x1) := by
  unfold nextOnLane
  try dsimp only
  with_reducible repeat' first
    | assumption | apply startJobs_kept | apply setLane_kept | apply Kept.foldl | apply Kept4.of | simp only [Kept.mk_iff] | split | intro _

theorem finishJob_kept {s0 : State} {x0 : RunJob} {x1 : State} (h : Kept s0 x1) :
    Kept s0 (finishJob x0 x1) := by
  unfold finishJob
  try dsimp only
  with_reducible repeat' first
    | assumption | apply jobDone_kept | apply wrMems_kept | apply infeedTold_kept | apply Kept.foldl | apply Kept4.of | simp only [Kept.mk_iff] | split | intro _

theorem endLane_kept {s0 : State} {x0 : Nat} {x1 : JobStatus} {x2 : Nat} {x3 : State} (h : Kept s0 x3) :
    Kept s0 (endLane x0 x1 x2 x3) := by
  unfold endLane
  try dsimp only
  with_reducible repeat' first
    | assumption | apply jobDone_kept | apply nextOnLane_kept | apply zeroOut_kept | apply infeedTold_kept | apply count_kept | apply Kept.foldl | apply Kept4.of | simp only [Kept.mk_iff] | split | intro _

theorem execLaneJobComplete_kept {s0 : State} {x0 : Fin 8} {x1 : JobStatus} {x2 : Nat} {x3 : State} (h : Kept s0 x3) :
    Outcome.kept s0 (execLaneJobComplete x0 x1 x2 x3) := by
  unfold execLaneJobComplete
  try dsimp only
  with_reducible repeat' first
    | assumption | apply Outcome.kept_next | apply finishJob_kept | apply nextOnLane_kept | apply setLane_kept | apply count_kept | apply Kept.foldl | apply Kept4.of | simp only [Kept.mk_iff] | split | intro _

theorem wipeAll_kept {s0 : State} {x0 : State} (h : Kept s0 x0) :
    Kept s0 (wipeAll x0) := by
  unfold wipeAll
  try dsimp only
  with_reducible repeat' first
    | assumption | apply startJobs_kept | apply wipeKeys_kept | apply Kept.foldl | apply Kept4.of | simp only [Kept.mk_iff] | split | intro _

theorem execZeroisedTamper_kept {s0 : State} {x0 : State} (h : Kept s0 x0) :
    Outcome.kept s0 (execZeroisedTamper x0) := by
  unfold execZeroisedTamper
  try dsimp only
  with_reducible repeat' first
    | assumption | apply Outcome.kept_next | apply bump_kept | apply keyFields_kept | apply wipeAll_kept | apply wr_kept | apply logEv_kept | exact P40.STORE_LOST_known | exact P40.TAMPER_SEEN_known | exact P40.ZEROISATIONS_known | apply Kept.foldl | apply Kept4.of | simp only [Kept.mk_iff] | split | intro _

end Sys2Proof.Machine
end

