-- ==== Sys2Proof/Laws/Kept/Totalizer.lean ====
section
/-! SUPPORT. What the operations of Machine/Totalizer.lean keep: the waiting commands, what was sent, the stored tables. -/
namespace Sys2Proof.Machine

theorem takeSets_kept {s0 : State} {x0 : BeatIn} {x1 : State} (h : Kept s0 x1) :
    Kept s0 (takeSets x0 x1) := by
  unfold takeSets
  try dsimp only
  with_reducible repeat' first
    | assumption | apply Kept.foldl | apply Kept4.of | simp only [Kept.mk_iff] | split | intro _

theorem measure_kept {s0 : State} {x0 : LegalSecIn} {x1 : State} (h : Kept s0 x1) :
    Kept s0 (measure x0 x1) := by
  unfold measure
  try dsimp only
  with_reducible repeat' first
    | assumption | apply feedPulses_kept | apply modCore_kept | exact P31.RATE_NOW_known | apply Kept.foldl | apply Kept4.of | simp only [Kept.mk_iff] | split | intro _

theorem applyCal_kept {s0 : State} {x0 : Nat} {x1 : State} (h : Kept s0 x1) :
    Kept s0 (applyCal x0 x1) := by
  unfold applyCal
  try dsimp only
  with_reducible repeat' first
    | assumption | apply modCore_kept | apply Kept.foldl | apply Kept4.of | simp only [Kept.mk_iff] | split | intro _

theorem realign_kept {s0 : State} {x0 : State} (h : Kept s0 x0) :
    Kept s0 (realign x0) := by
  unfold realign
  try dsimp only
  with_reducible repeat' first
    | assumption | apply Kept.foldl | apply Kept4.of | simp only [Kept.mk_iff] | split | intro _

theorem endSets_kept {s0 : State} {x0 : Nat} {x1 : State} (h : Kept s0 x1) :
    Kept s0 (endSets x0 x1) := by
  unfold endSets
  try dsimp only
  with_reducible repeat' first
    | assumption | apply Kept.foldl | apply Kept4.of | simp only [Kept.mk_iff] | split | intro _

theorem applySums_kept {s0 : State} {x0 : State} (h : Kept s0 x0) :
    Kept s0 (applySums x0) := by
  unfold applySums
  try dsimp only
  with_reducible repeat' first
    | assumption | apply measure_kept | apply Kept.foldl | apply Kept4.of | simp only [Kept.mk_iff] | split | intro _

theorem checkpointPair_kept {s0 : State} {x0 : State} (h : Kept s0 x0) :
    Kept s0 (checkpointPair x0) := by
  unfold checkpointPair
  try dsimp only
  with_reducible repeat' first
    | assumption | apply Kept.foldl | apply Kept4.of | simp only [Kept.mk_iff] | split | intro _

theorem execLegalSecondEnd_kept {s0 : State} {x0 : Nat} {x1 : State} (h : Kept s0 x1) :
    Outcome.kept s0 (execLegalSecondEnd x0 x1) := by
  unfold execLegalSecondEnd
  try dsimp only
  with_reducible repeat' first
    | assumption | apply Outcome.kept_next | apply applyCal_kept | apply checkpointPair_kept | apply realign_kept | apply applySums_kept | apply endSets_kept | apply Kept.foldl | apply Kept4.of | simp only [Kept.mk_iff] | split | intro _

theorem legalFields_kept {s0 : State} {x0 : State} (h : Kept s0 x0) :
    Kept s0 (legalFields x0) := by
  unfold legalFields
  try dsimp only
  with_reducible repeat' first
    | assumption | apply wrB_kept | apply evalRate_kept | exact P31.CAL_WAITING_known | exact P31.DEFAULT_RATE_known | exact P30.METRO_RUN_known | exact P31.PATTERN_NOW_known | exact P31.RATE_NOW_known | apply Kept.foldl | apply Kept4.of | simp only [Kept.mk_iff] | split | intro _

theorem legalBeat_kept {s0 : State} {x0 : State} (h : Kept s0 x0) :
    Kept s0 (legalBeat x0) := by
  unfold legalBeat
  try dsimp only
  with_reducible repeat' first
    | assumption | apply legalFields_kept | apply legalPost_kept | apply driveOutputs_kept | apply outageRestore_kept | apply Kept.foldl | apply Kept4.of | simp only [Kept.mk_iff] | split | intro _

theorem dueOf_kept {s0 : State} {x0 : Nat} {x1 : State} (h : Kept s0 x1) :
    Kept s0 (dueOf x0 x1) := by
  unfold dueOf
  try dsimp only
  with_reducible repeat' first
    | assumption | apply doDue_kept | apply Kept.foldl | apply Kept4.of | simp only [Kept.mk_iff] | split | intro _

theorem execProfileIntervalEnd_kept {s0 : State} {x0 : State} (h : Kept s0 x0) :
    Outcome.kept s0 (execProfileIntervalEnd x0) := by
  unfold execProfileIntervalEnd
  try dsimp only
  with_reducible repeat' first
    | assumption | apply Outcome.kept_next | apply dueOf_kept | apply Kept.foldl | apply Kept4.of | simp only [Kept.mk_iff] | split | intro _

theorem execDemandIntervalEnd_kept {s0 : State} {x0 : State} (h : Kept s0 x0) :
    Outcome.kept s0 (execDemandIntervalEnd x0) := by
  unfold execDemandIntervalEnd
  try dsimp only
  with_reducible repeat' first
    | assumption | apply Outcome.kept_next | apply dueOf_kept | apply Kept.foldl | apply Kept4.of | simp only [Kept.mk_iff] | split | intro _

theorem execScheduledClosure_kept {s0 : State} {x0 : State} (h : Kept s0 x0) :
    Outcome.kept s0 (execScheduledClosure x0) := by
  unfold execScheduledClosure
  try dsimp only
  with_reducible repeat' first
    | assumption | apply Outcome.kept_next | apply dueOf_kept | apply Kept.foldl | apply Kept4.of | simp only [Kept.mk_iff] | split | intro _

theorem execCalendarActivation_kept {s0 : State} {x0 : State} (h : Kept s0 x0) :
    Outcome.kept s0 (execCalendarActivation x0) := by
  unfold execCalendarActivation
  try dsimp only
  with_reducible repeat' first
    | assumption | apply Outcome.kept_next | apply dueOf_kept | apply Kept.foldl | apply Kept4.of | simp only [Kept.mk_iff] | split | intro _

theorem execCalendarMinute_kept {s0 : State} {x0 : State} (h : Kept s0 x0) :
    Outcome.kept s0 (execCalendarMinute x0) := by
  unfold execCalendarMinute
  try dsimp only
  with_reducible repeat' first
    | assumption | apply Outcome.kept_next | apply evalRate_kept | apply driveOutputs_kept | apply Kept.foldl | apply Kept4.of | simp only [Kept.mk_iff] | split | intro _

theorem execDstChange_kept {s0 : State} {x0 : State} (h : Kept s0 x0) :
    Outcome.kept s0 (execDstChange x0) := by
  unfold execDstChange
  try dsimp only
  with_reducible repeat' first
    | assumption | apply Outcome.kept_next | apply localChange_kept | apply driveOutputs_kept | apply catchUp_kept | exact P31.DST_ON_known | apply Kept.foldl | apply Kept4.of | simp only [Kept.mk_iff] | split | intro _

theorem stepAndNote_kept {s0 : State} {x0 : Int} {x1 : State} (h : Kept s0 x1) :
    Kept s0 (stepAndNote x0 x1) := by
  unfold stepAndNote
  try dsimp only
  with_reducible repeat' first
    | assumption | apply stepLegal_kept | apply Kept.foldl | apply Kept4.of | simp only [Kept.mk_iff] | split | intro _

theorem execLegalTimeStepped_kept {s0 : State} {x0 : State} (h : Kept s0 x0) :
    Outcome.kept s0 (execLegalTimeStepped x0) := by
  unfold execLegalTimeStepped
  try dsimp only
  with_reducible repeat' first
    | assumption | apply Outcome.kept_next | apply afterStep_kept | apply stepAndNote_kept | apply legalFields_kept | apply splitBoth_kept | apply catchUpNow_kept | apply driveOutputs_kept | apply outageRestore_kept | exact P03.LEGAL_COMMISSIONED_known | apply Kept.foldl | apply Kept4.of | simp only [Kept.mk_iff] | split | intro _

theorem execLegalLockstep_kept {s0 : State} {x0 : State} (h : Kept s0 x0) :
    Outcome.kept s0 (execLegalLockstep x0) := by
  unfold execLegalLockstep
  try dsimp only
  with_reducible repeat' first
    | assumption | apply Outcome.kept_next | apply bump_kept | apply logEv_kept | apply applySums_kept | apply legalRepost_kept | apply modCore_kept | exact P50.LOCKSTEP_MISMATCHES_known | apply Kept.foldl | apply Kept4.of | simp only [Kept.mk_iff] | split | intro _

theorem execSealNChange_kept {s0 : State} {x0 : Bool} {x1 : State} (h : Kept s0 x1) :
    Outcome.kept s0 (execSealNChange x0 x1) := by
  unfold execSealNChange
  try dsimp only
  with_reducible repeat' first
    | assumption | apply Outcome.kept_next | apply wrB_kept | apply legalLog_kept | apply logEv_kept | exact P30.SEAL_STATE_known | apply Kept.foldl | apply Kept4.of | simp only [Kept.mk_iff] | split | intro _

end Sys2Proof.Machine
end

