-- ==== Sys2Proof/Laws/Kept/Update.lean ====
section
/-! SUPPORT. What the operations of Machine/Update.lean keep: the waiting commands, what was sent, the stored tables. -/
namespace Sys2Proof.Machine

theorem tariffPushBody_kept {s0 : State} {x0 : Hdr} {x1 : List Byte} {x2 : State} (h : Kept s0 x2) :
    Ans.kept s0 (tariffPushBody x0 x1 x2) := by
  unfold tariffPushBody
  try dsimp only
  with_reducible repeat' first
    | assumption | apply postGroup_kept | exact P03.LEGAL_INVALID_known | exact Ans.kept_fail | exact Ans.kept_refuse | apply Ans.kept_done | apply Ans.kept_doneAtBeat | apply Ans.kept_accept | apply Ans.kept_stays | apply Kept.foldl | apply Kept4.of | simp only [Kept.mk_iff] | split | intro _

theorem execTariffPush_kept {s0 : State} {x0 : Hdr} {x1 : List Byte} {x2 : State} (h : Kept s0 x2) :
    Outcome.kept s0 (execTariffPush x0 x1 x2) := by
  unfold execTariffPush
  try dsimp only
  with_reducible repeat' first
    | assumption | apply Outcome.kept_next | apply runCmd_kept | apply tariffPushBody_kept | exact Ans.kept_fail | exact Ans.kept_refuse | apply Ans.kept_done | apply Ans.kept_doneAtBeat | apply Ans.kept_accept | apply Ans.kept_stays | apply Kept.foldl | apply Kept4.of | simp only [Kept.mk_iff] | split | intro _

theorem modComp_kept {s0 : State} {x0 : Nat} {x1 : FwComp → FwComp} {x2 : State} (h : Kept s0 x2) :
    Kept s0 (modComp x0 x1 x2) := by
  unfold modComp
  try dsimp only
  with_reducible repeat' first
    | assumption | apply Kept.foldl | apply Kept4.of | simp only [Kept.mk_iff] | split | intro _

theorem imageBeginBody_kept {s0 : State} {x0 : Hdr} {x1 : List Byte} {x2 : State} (h : Kept s0 x2) :
    Ans.kept s0 (imageBeginBody x0 x1 x2) := by
  unfold imageBeginBody
  try dsimp only
  with_reducible repeat' first
    | assumption | exact Ans.kept_fail | exact Ans.kept_refuse | apply Ans.kept_done | apply Ans.kept_doneAtBeat | apply Ans.kept_accept | apply Ans.kept_stays | apply Kept.foldl | apply Kept4.of | simp only [Kept.mk_iff] | split | intro _

theorem execImageBegin_kept {s0 : State} {x0 : Hdr} {x1 : List Byte} {x2 : State} (h : Kept s0 x2) :
    Outcome.kept s0 (execImageBegin x0 x1 x2) := by
  unfold execImageBegin
  try dsimp only
  with_reducible repeat' first
    | assumption | apply Outcome.kept_next | apply runCmd_kept | apply imageBeginBody_kept | exact Ans.kept_fail | exact Ans.kept_refuse | apply Ans.kept_done | apply Ans.kept_doneAtBeat | apply Ans.kept_accept | apply Ans.kept_stays | apply Kept.foldl | apply Kept4.of | simp only [Kept.mk_iff] | split | intro _

theorem effImageBegin_kept {s0 : State} {x0 : Eff} {x1 : State} (h : Kept s0 x1) :
    Kept s0 (effImageBegin x0 x1) := by
  unfold effImageBegin
  try dsimp only
  with_reducible repeat' first
    | assumption | apply modComp_kept | apply logEv_kept | apply Kept.foldl | apply Kept4.of | simp only [Kept.mk_iff] | split | intro _

theorem imageBlockBody_kept {s0 : State} {x0 : List Byte} {x1 : State} (h : Kept s0 x1) :
    Ans.kept s0 (imageBlockBody x0 x1) := by
  unfold imageBlockBody
  try dsimp only
  with_reducible repeat' first
    | assumption | apply modComp_kept | exact Ans.kept_fail | exact Ans.kept_refuse | apply Ans.kept_done | apply Ans.kept_doneAtBeat | apply Ans.kept_accept | apply Ans.kept_stays | apply Kept.foldl | apply Kept4.of | simp only [Kept.mk_iff] | split | intro _

theorem execImageBlock_kept {s0 : State} {x0 : Hdr} {x1 : List Byte} {x2 : State} (h : Kept s0 x2) :
    Outcome.kept s0 (execImageBlock x0 x1 x2) := by
  unfold execImageBlock
  try dsimp only
  with_reducible repeat' first
    | assumption | apply Outcome.kept_next | apply runCmd_kept | apply imageBlockBody_kept | exact Ans.kept_fail | exact Ans.kept_refuse | apply Ans.kept_done | apply Ans.kept_doneAtBeat | apply Ans.kept_accept | apply Ans.kept_stays | apply Kept.foldl | apply Kept4.of | simp only [Kept.mk_iff] | split | intro _

theorem imageCommitBody_kept {s0 : State} {x0 : Hdr} {x1 : List Byte} {x2 : Bool} {x3 : State} (h : Kept s0 x3) :
    Ans.kept s0 (imageCommitBody x0 x1 x2 x3) := by
  unfold imageCommitBody
  try dsimp only
  with_reducible repeat' first
    | assumption | apply finish_kept | apply postP256_kept | apply modComp_kept | exact Ans.kept_fail | exact Ans.kept_refuse | apply Ans.kept_done | apply Ans.kept_doneAtBeat | apply Ans.kept_accept | apply Ans.kept_stays | apply Kept.foldl | apply Kept4.of | simp only [Kept.mk_iff] | split | intro _

theorem execImageCommit_kept {s0 : State} {x0 : Hdr} {x1 : List Byte} {x2 : Bool} {x3 : State} (h : Kept s0 x3) :
    Outcome.kept s0 (execImageCommit x0 x1 x2 x3) := by
  unfold execImageCommit
  try dsimp only
  with_reducible repeat' first
    | assumption | apply Outcome.kept_next | apply runCmd_kept | apply imageCommitBody_kept | exact Ans.kept_fail | exact Ans.kept_refuse | apply Ans.kept_done | apply Ans.kept_doneAtBeat | apply Ans.kept_accept | apply Ans.kept_stays | apply Kept.foldl | apply Kept4.of | simp only [Kept.mk_iff] | split | intro _

theorem effImageCommit_kept {s0 : State} {x0 : Eff} {x1 : State} (h : Kept s0 x1) :
    Kept s0 (effImageCommit x0 x1) := by
  unfold effImageCommit
  try dsimp only
  with_reducible repeat' first
    | assumption | apply modComp_kept | apply Kept.foldl | apply Kept4.of | simp only [Kept.mk_iff] | split | intro _

theorem imageActivateBody_kept {s0 : State} {x0 : Hdr} {x1 : List Byte} {x2 : State} (h : Kept s0 x2) :
    Ans.kept s0 (imageActivateBody x0 x1 x2) := by
  unfold imageActivateBody
  try dsimp only
  with_reducible repeat' first
    | assumption | exact Ans.kept_fail | exact Ans.kept_refuse | apply Ans.kept_done | apply Ans.kept_doneAtBeat | apply Ans.kept_accept | apply Ans.kept_stays | apply Kept.foldl | apply Kept4.of | simp only [Kept.mk_iff] | split | intro _

theorem execImageActivate_kept {s0 : State} {x0 : Hdr} {x1 : List Byte} {x2 : State} (h : Kept s0 x2) :
    Outcome.kept s0 (execImageActivate x0 x1 x2) := by
  unfold execImageActivate
  try dsimp only
  with_reducible repeat' first
    | assumption | apply Outcome.kept_next | apply runCmd_kept | apply imageActivateBody_kept | exact Ans.kept_fail | exact Ans.kept_refuse | apply Ans.kept_done | apply Ans.kept_doneAtBeat | apply Ans.kept_accept | apply Ans.kept_stays | apply Kept.foldl | apply Kept4.of | simp only [Kept.mk_iff] | split | intro _

theorem markSet_kept {s0 : State} {x0 : Nat} {x1 : Nat} {x2 : State} (h : Kept s0 x2) :
    Kept s0 (markSet x0 x1 x2) := by
  unfold markSet
  try dsimp only
  with_reducible repeat' first
    | assumption | apply modComp_kept | apply Kept.foldl | apply Kept4.of | simp only [Kept.mk_iff] | split | intro _

theorem effImageActivate_kept {s0 : State} {x0 : Eff} {x1 : State} (h : Kept s0 x1) :
    Kept s0 (effImageActivate x0 x1) := by
  unfold effImageActivate
  try dsimp only
  with_reducible repeat' first
    | assumption | apply markSet_kept | apply Kept.foldl | apply Kept4.of | simp only [Kept.mk_iff] | split | intro _

theorem execImageStatus_kept {s0 : State} {x0 : Hdr} {x1 : List Byte} {x2 : State} (h : Kept s0 x2) :
    Outcome.kept s0 (execImageStatus x0 x1 x2) := by
  unfold execImageStatus
  try dsimp only
  with_reducible repeat' first
    | assumption | apply Outcome.kept_next | apply runCmd_kept | exact P60.BOOT_TRIES_known | exact P30.SEAL_STATE_known | exact P60.LEGAL_UPD_MODE_known | exact Ans.kept_fail | exact Ans.kept_refuse | apply Ans.kept_done | apply Ans.kept_doneAtBeat | apply Ans.kept_accept | apply Ans.kept_stays | apply Kept.foldl | apply Kept4.of | simp only [Kept.mk_iff] | split | intro _

theorem execUpdateConfirmed_kept {s0 : State} {x0 : State} (h : Kept s0 x0) :
    Outcome.kept s0 (execUpdateConfirmed x0) := by
  unfold execUpdateConfirmed
  try dsimp only
  with_reducible repeat' first
    | assumption | apply Outcome.kept_next | apply modComp_kept | apply wr_kept | apply logEv_kept | exact P60.CONFIRM_S_known | exact P60.BOOT_TRIES_known | apply Kept.foldl | apply Kept4.of | simp only [Kept.mk_iff] | split | intro _

theorem rollBack_kept {s0 : State} {x0 : State} (h : Kept s0 x0) :
    Kept s0 (rollBack x0) := by
  unfold rollBack
  try dsimp only
  with_reducible repeat' first
    | assumption | apply markSet_kept | apply wr_kept | apply logEv_kept | exact P60.BOOT_TRIES_known | apply Kept.foldl | apply Kept4.of | simp only [Kept.mk_iff] | split | intro _

theorem bootTrial_kept {s0 : State} {x0 : Bool} {x1 : State} (h : Kept s0 x1) :
    Kept s0 (bootTrial x0 x1) := by
  unfold bootTrial
  try dsimp only
  with_reducible repeat' first
    | assumption | apply markSet_kept | apply legalLog_kept | apply wr_kept | apply rollBack_kept | exact P60.BOOT_TRIES_known | apply Kept.foldl | apply Kept4.of | simp only [Kept.mk_iff] | split | intro _

end Sys2Proof.Machine
end

