-- ==== Sys2Proof/Laws/Kept/Pair.lean ====
section
/-! SUPPORT. What the operations of Machine/Pair.lean keep: the waiting commands, what was sent, the stored tables. -/
namespace Sys2Proof.Machine

theorem releaseOut_kept {s0 : State} {x0 : HeldOut} {x1 : State} (h : Kept s0 x1) :
    Kept s0 (releaseOut x0 x1) := by
  unfold releaseOut
  try dsimp only
  with_reducible repeat' first
    | assumption | apply sendReplyNow_kept | apply Kept.foldl | apply Kept4.of | simp only [Kept.mk_iff] | split | intro _

theorem releasePins_kept {s0 : State} {x0 : Nat} {x1 : Option Nat} {x2 : State} (h : Kept s0 x2) :
    Kept s0 (releasePins x0 x1 x2) := by
  unfold releasePins
  try dsimp only
  with_reducible repeat' first
    | assumption | apply driveReq_kept | apply drivePins_kept | apply Kept.foldl | apply Kept4.of | simp only [Kept.mk_iff] | split | intro _

theorem releaseBeat_kept {s0 : State} {x0 : OwnBeat} {x1 : State} (h : Kept s0 x1) :
    Kept s0 (releaseBeat x0 x1) := by
  unfold releaseBeat
  try dsimp only
  with_reducible repeat' first
    | assumption | apply releaseOut_kept | apply releasePins_kept | apply wr_kept | exact P50.LAST_RELEASED_known | apply Kept.foldl | apply Kept4.of | simp only [Kept.mk_iff] | split | intro _

theorem clearPair_kept {s0 : State} {x0 : State} (h : Kept s0 x0) :
    Kept s0 (clearPair x0) := by
  unfold clearPair
  try dsimp only
  with_reducible repeat' first
    | assumption | apply Kept.foldl | apply Kept4.of | simp only [Kept.mk_iff] | split | intro _

theorem standAlone_kept {s0 : State} {x0 : Nat} {x1 : State} (h : Kept s0 x1) :
    Kept s0 (standAlone x0 x1) := by
  unfold standAlone
  try dsimp only
  with_reducible repeat' first
    | assumption | apply releaseOut_kept | apply clearPair_kept | apply releasePins_kept | apply wr_kept | apply releaseBeat_kept | exact P50.PAIR_STATE_known | apply Kept.foldl | apply Kept4.of | simp only [Kept.mk_iff] | split | intro _

theorem standMute_kept {s0 : State} {x0 : Nat} {x1 : State} (h : Kept s0 x1) :
    Kept s0 (standMute x0 x1) := by
  unfold standMute
  try dsimp only
  with_reducible repeat' first
    | assumption | apply clearPair_kept | apply wr_kept | exact P50.PAIR_STATE_known | apply Kept.foldl | apply Kept4.of | simp only [Kept.mk_iff] | split | intro _

theorem pairBody_kept {s0 : State} {x0 : Hdr} {x1 : List Byte} {x2 : Option PartnerIn} {x3 : State} (h : Kept s0 x3) :
    Ans.kept s0 (pairBody x0 x1 x2 x3) := by
  unfold pairBody
  try dsimp only
  with_reducible repeat' first
    | assumption | apply wr_kept | exact P02.CHAIN_ADDR_known | exact P50.PAIR_ID_known | exact P50.PAIR_STATE_known | exact Ans.kept_fail | exact Ans.kept_refuse | apply Ans.kept_done | apply Ans.kept_doneAtBeat | apply Ans.kept_accept | apply Ans.kept_stays | apply Kept.foldl | apply Kept4.of | simp only [Kept.mk_iff] | split | intro _

theorem execPair_kept {s0 : State} {x0 : Hdr} {x1 : List Byte} {x2 : Option PartnerIn} {x3 : State} (h : Kept s0 x3) :
    Outcome.kept s0 (execPair x0 x1 x2 x3) := by
  unfold execPair
  try dsimp only
  with_reducible repeat' first
    | assumption | apply Outcome.kept_next | apply runCmd_kept | apply pairBody_kept | exact Ans.kept_fail | exact Ans.kept_refuse | apply Ans.kept_done | apply Ans.kept_doneAtBeat | apply Ans.kept_accept | apply Ans.kept_stays | apply Kept.foldl | apply Kept4.of | simp only [Kept.mk_iff] | split | intro _

theorem failJoin_kept {s0 : State} {x0 : Nat} {x1 : State} (h : Kept s0 x1) :
    Kept s0 (failJoin x0 x1) := by
  unfold failJoin
  try dsimp only
  with_reducible repeat' first
    | assumption | apply finish_kept | apply wr_kept | exact P50.PAIR_STATE_known | apply Kept.foldl | apply Kept4.of | simp only [Kept.mk_iff] | split | intro _

theorem execJoinLimitExpire_kept {s0 : State} {x0 : State} (h : Kept s0 x0) :
    Outcome.kept s0 (execJoinLimitExpire x0) := by
  unfold execJoinLimitExpire
  try dsimp only
  with_reducible repeat' first
    | assumption | apply Outcome.kept_next | apply failJoin_kept | exact P50.JOIN_LIMIT_known | apply Kept.foldl | apply Kept4.of | simp only [Kept.mk_iff] | split | intro _

theorem alignNumbers_kept {s0 : State} {x0 : Nat} {x1 : Nat} {x2 : State} (h : Kept s0 x2) :
    Kept s0 (alignNumbers x0 x1 x2) := by
  unfold alignNumbers
  try dsimp only
  with_reducible repeat' first
    | assumption | apply wr_kept | exact P12.NEXT_LSEQ_known | apply Kept.foldl | apply Kept4.of | simp only [Kept.mk_iff] | split | intro _

theorem takePlace_kept {s0 : State} {x0 : Nat} {x1 : Nat} {x2 : Nat} {x3 : State} (h : Kept s0 x3) :
    Kept s0 (takePlace x0 x1 x2 x3) := by
  unfold takePlace
  try dsimp only
  with_reducible repeat' first
    | assumption | apply wrB_kept | apply wr_kept | exact P50.PARTNER_ADDR_known | exact P50.PAIR_PORT_D_known | exact P02.CHAIN_ADDR_known | exact P50.PAIR_ID_known | exact P50.PAIR_STATE_known | apply Kept.foldl | apply Kept4.of | simp only [Kept.mk_iff] | split | intro _

theorem takeSettings_kept {s0 s : State} {l : List (Nat × Nat)} (h : Kept s0 s) : Kept s0 (takeSettings l s) := by
  refine Kept.foldl ?_ (Kept.mk_iff.mpr (Kept4.regs_filter (Kept4.of h)))
  intro x t ht
  split
  · next f hf =>
    split
    · exact wrI_kept (fieldOfKey_known hf) ht
    · exact ht
  · exact ht

theorem takeXfer_kept {s0 : State} {x0 : PairXfer} {x1 : State} (h : Kept s0 x1) :
    Kept s0 (takeXfer x0 x1) := by
  unfold takeXfer
  try dsimp only
  with_reducible repeat' first
    | assumption | apply takeSettings_kept | apply keyFields_kept | apply meterCount_kept | apply carryPages_kept | apply alignNumbers_kept | apply Kept.foldl | apply Kept4.of | simp only [Kept.mk_iff] | split | intro _

theorem execPairJoinStart_kept {s0 : State} {x0 : PairStart} {x1 : State} (h : Kept s0 x1) :
    Outcome.kept s0 (execPairJoinStart x0 x1) := by
  unfold execPairJoinStart
  try dsimp only
  with_reducible repeat' first
    | assumption | apply Outcome.kept_next | apply clearPair_kept | apply takeXfer_kept | apply takePlace_kept | apply postEntry_kept | apply alignNumbers_kept | apply Kept.foldl | apply Kept4.of | simp only [Kept.mk_iff] | split | intro _

theorem effPair_kept {s0 : State} {x0 : State} (h : Kept s0 x0) :
    Kept s0 (effPair x0) := by
  unfold effPair
  try dsimp only
  with_reducible repeat' first
    | assumption | apply Kept.foldl | apply Kept4.of | simp only [Kept.mk_iff] | split | intro _

theorem diverge_kept {s0 : State} {x0 : OwnBeat} {x1 : BeatFrame} {x2 : State} (h : Kept s0 x2) :
    Kept s0 (diverge x0 x1 x2) := by
  unfold diverge
  try dsimp only
  with_reducible repeat' first
    | assumption | apply bump_kept | apply clearPair_kept | apply standMute_kept | apply wr_kept | apply logEv_kept | apply failJoin_kept | apply standAlone_kept | exact P50.PAIR_STATE_known | exact P50.DIVERGED_BEAT_known | exact P50.MISMATCHES_known | apply Kept.foldl | apply Kept4.of | simp only [Kept.mk_iff] | split | intro _

theorem compareAll_kept {s0 : State} {x0 : Nat} {x1 : State} (h : Kept s0 x1) :
    Kept s0 (compareAll x0 x1) := by
  induction x0 generalizing x1 with
  | zero =>
    unfold compareAll
    try dsimp only
    with_reducible repeat' first
      | assumption | apply diverge_kept | apply releaseBeat_kept | apply Kept.foldl | apply Kept4.of | simp only [Kept.mk_iff] | split | intro _
  | succ k ih =>
    unfold compareAll
    try dsimp only
    with_reducible repeat' first
      | assumption | apply ih | apply diverge_kept | apply releaseBeat_kept | apply Kept.foldl | apply Kept4.of | simp only [Kept.mk_iff] | split | intro _

theorem execBeatFrameReceived_kept {s0 : State} {x0 : Port} {x1 : BeatFrame} {x2 : State} (h : Kept s0 x2) :
    Outcome.kept s0 (execBeatFrameReceived x0 x1 x2) := by
  unfold execBeatFrameReceived
  try dsimp only
  with_reducible repeat' first
    | assumption | apply Outcome.kept_next | apply heardOn_kept | apply compareAll_kept | apply Kept.foldl | apply Kept4.of | simp only [Kept.mk_iff] | split | intro _

theorem execDigestWaitExpire_kept {s0 : State} {x0 : State} (h : Kept s0 x0) :
    Outcome.kept s0 (execDigestWaitExpire x0) := by
  unfold execDigestWaitExpire
  try dsimp only
  with_reducible repeat' first
    | assumption | apply Outcome.kept_next | apply bump_kept | exact P50.DIGEST_WAIT_known | exact P50.LATE_FRAMES_known | apply Kept.foldl | apply Kept4.of | simp only [Kept.mk_iff] | split | intro _

theorem execDovetailPromoted_kept {s0 : State} {x0 : State} (h : Kept s0 x0) :
    Outcome.kept s0 (execDovetailPromoted x0) := by
  unfold execDovetailPromoted
  try dsimp only
  with_reducible repeat' first
    | assumption | apply Outcome.kept_next | apply logEv_kept | apply standAlone_kept | apply Kept.foldl | apply Kept4.of | simp only [Kept.mk_iff] | split | intro _

theorem pairEnd_kept {s0 : State} {x0 : State} (h : Kept s0 x0) :
    Kept s0 (pairEnd x0) := by
  unfold pairEnd
  try dsimp only
  with_reducible repeat' first
    | assumption | apply compareAll_kept | apply emit_kept | apply sentOn_kept | apply Kept.foldl | apply Kept4.of | simp only [Kept.mk_iff] | split | intro _

theorem pairUse_kept {s0 : State} {x0 : State} (h : Kept s0 x0) :
    Kept s0 (pairUse x0) := by
  unfold pairUse
  try dsimp only
  with_reducible repeat' first
    | assumption | apply wr_kept | exact P04.LIMIT_L_known | exact P04.LIMIT_M_known | apply Kept.foldl | apply Kept4.of | simp only [Kept.mk_iff] | split | intro _

theorem pairPost_kept {s0 : State} {x0 : State} (h : Kept s0 x0) :
    Kept s0 (pairPost x0) := by
  unfold pairPost
  try dsimp only
  with_reducible repeat' first
    | assumption | apply takePacket_kept | apply logEv_kept | apply Kept.foldl | apply Kept4.of | simp only [Kept.mk_iff] | split | intro _

theorem pairNext_kept {s0 : State} {x0 : State} (h : Kept s0 x0) :
    Kept s0 (pairNext x0) := by
  unfold pairNext
  try dsimp only
  with_reducible repeat' first
    | assumption | apply standMute_kept | apply wr_kept | apply standAlone_kept | exact P50.PAIR_STATE_known | apply Kept.foldl | apply Kept4.of | simp only [Kept.mk_iff] | split | intro _

theorem execUnpair_kept {s0 : State} {x0 : Hdr} {x1 : List Byte} {x2 : State} (h : Kept s0 x2) :
    Outcome.kept s0 (execUnpair x0 x1 x2) := by
  unfold execUnpair
  try dsimp only
  with_reducible repeat' first
    | assumption | apply Outcome.kept_next | apply runCmd_kept | exact Ans.kept_fail | exact Ans.kept_refuse | apply Ans.kept_done | apply Ans.kept_doneAtBeat | apply Ans.kept_accept | apply Ans.kept_stays | apply Kept.foldl | apply Kept4.of | simp only [Kept.mk_iff] | split | intro _

theorem effUnpair_kept {s0 : State} {x0 : State} (h : Kept s0 x0) :
    Kept s0 (effUnpair x0) := by
  unfold effUnpair
  try dsimp only
  with_reducible repeat' first
    | assumption | apply Kept.foldl | apply Kept4.of | simp only [Kept.mk_iff] | split | intro _

theorem execPromote_kept {s0 : State} {x0 : Hdr} {x1 : List Byte} {x2 : State} (h : Kept s0 x2) :
    Outcome.kept s0 (execPromote x0 x1 x2) := by
  unfold execPromote
  try dsimp only
  with_reducible repeat' first
    | assumption | apply Outcome.kept_next | apply runCmd_kept | exact Ans.kept_fail | exact Ans.kept_refuse | apply Ans.kept_done | apply Ans.kept_doneAtBeat | apply Ans.kept_accept | apply Ans.kept_stays | apply Kept.foldl | apply Kept4.of | simp only [Kept.mk_iff] | split | intro _

theorem effPromote_kept {s0 : State} {x0 : State} (h : Kept s0 x0) :
    Kept s0 (effPromote x0) := by
  unfold effPromote
  try dsimp only
  with_reducible repeat' first
    | assumption | apply Kept.foldl | apply Kept4.of | simp only [Kept.mk_iff] | split | intro _

theorem execPairStatus_kept {s0 : State} {x0 : Hdr} {x1 : List Byte} {x2 : State} (h : Kept s0 x2) :
    Outcome.kept s0 (execPairStatus x0 x1 x2) := by
  unfold execPairStatus
  try dsimp only
  with_reducible repeat' first
    | assumption | apply Outcome.kept_next | apply runCmd_kept | exact P50.PARTNER_ADDR_known | exact P50.LAST_RELEASED_known | exact P50.PAIR_ID_known | exact P50.DIVERGED_BEAT_known | exact P50.MISMATCHES_known | exact Ans.kept_fail | exact Ans.kept_refuse | apply Ans.kept_done | apply Ans.kept_doneAtBeat | apply Ans.kept_accept | apply Ans.kept_stays | apply Kept.foldl | apply Kept4.of | simp only [Kept.mk_iff] | split | intro _

theorem execResolveDivergence_kept {s0 : State} {x0 : Hdr} {x1 : List Byte} {x2 : State} (h : Kept s0 x2) :
    Outcome.kept s0 (execResolveDivergence x0 x1 x2) := by
  unfold execResolveDivergence
  try dsimp only
  with_reducible repeat' first
    | assumption | apply Outcome.kept_next | apply runCmd_kept | exact P50.DIVERGED_BEAT_known | exact Ans.kept_fail | exact Ans.kept_refuse | apply Ans.kept_done | apply Ans.kept_doneAtBeat | apply Ans.kept_accept | apply Ans.kept_stays | apply Kept.foldl | apply Kept4.of | simp only [Kept.mk_iff] | split | intro _

theorem effResolveDivergence_kept {s0 : State} {x0 : Eff} {x1 : State} (h : Kept s0 x1) :
    Kept s0 (effResolveDivergence x0 x1) := by
  unfold effResolveDivergence
  try dsimp only
  with_reducible repeat' first
    | assumption | apply standMute_kept | apply standAlone_kept | apply Kept.foldl | apply Kept4.of | simp only [Kept.mk_iff] | split | intro _

theorem execDebugEnabled_kept {s0 : State} {x0 : State} (h : Kept s0 x0) :
    Outcome.kept s0 (execDebugEnabled x0) := by
  unfold execDebugEnabled
  try dsimp only
  with_reducible repeat' first
    | assumption | apply Outcome.kept_next | apply wipeAll_kept | apply standMute_kept | apply wr_kept | apply logEv_kept | exact P40.DEBUG_ACTIVE_known | apply Kept.foldl | apply Kept4.of | simp only [Kept.mk_iff] | split | intro _

end Sys2Proof.Machine
end

