-- ==== Sys2Proof/Laws/Kept/Grade.lean ====
section
/-! SUPPORT. What the operations of Machine/Grade.lean keep: the waiting commands, what was sent, the stored tables. -/
namespace Sys2Proof.Machine

theorem tamperLog_kept {s0 : State} {x0 : Meter} {x1 : Nat} {x2 : State} (h : Kept s0 x2) :
    Kept s0 (tamperLog x0 x1 x2) := by
  unfold tamperLog
  try dsimp only
  with_reducible repeat' first
    | assumption | apply modMeter_kept | apply logEv_kept | exact P11.TAMPER_HOLD_known | apply Kept.foldl | apply Kept4.of | simp only [Kept.mk_iff] | split | intro _

theorem gradeCounts_kept {s0 : State} {x0 : Nat} {x1 : Judged} {x2 : List OutRec} {x3 : Bool} {x4 : State} (h : Kept s0 x4) :
    Kept s0 (gradeCounts x0 x1 x2 x3 x4) := by
  unfold gradeCounts
  try dsimp only
  with_reducible repeat' first
    | assumption | apply modMeter_kept | apply bumpI_kept | exact P11.OUTAGE_MARKS_known | exact P11.CLOCK_SUSPECTS_known | exact P11.ESTIMATES_known | exact P11.ROLLOVERS_known | exact P11.GAPS_LEFT_known | exact P11.REBASES_known | exact P11.SPIKES_known | exact P11.NON_MONOTONIC_known | apply Kept.foldl | apply Kept4.of | simp only [Kept.mk_iff] | split | intro _

theorem countReleased_kept {s0 : State} {x0 : Nat} {x1 : Nat} {x2 : State} (h : Kept s0 x2) :
    Kept s0 (countReleased x0 x1 x2) := by
  unfold countReleased
  try dsimp only
  with_reducible repeat' first
    | assumption | apply pcAdd_kept | exact cfgFld_known _ | apply Kept.foldl | apply Kept4.of | simp only [Kept.mk_iff] | split | intro _

theorem fixRows_kept {s0 : State} {x0 : Meter} {x1 : Nat} {x2 : State} (h : Kept s0 x2) :
    Kept s0 (fixRows x0 x1 x2) := by
  unfold fixRows
  try dsimp only
  with_reducible repeat' first
    | assumption | apply Kept.foldl | apply Kept4.of | simp only [Kept.mk_iff] | split | intro _

theorem gradeOne_kept {s0 s : State} {left : Nat} (h : Kept s0 s) {y : State} {u : Nat}
    (e : gradeOne left s = some (y, u)) : Kept s0 y := by
  unfold gradeOne at e
  dsimp only at e
  split at e
  · cases e
  · split at e
    · cases e; exact h.same rfl rfl rfl rfl rfl
    · repeat' split at e
      all_goals first
        | (cases e; done)
        | (simp only [Option.some.injEq, Prod.mk.injEq] at e
           rw [← e.1]
           repeat' first
             | with_reducible assumption | with_reducible apply countReleased_kept
             | with_reducible apply logEv_kept | with_reducible apply setTail_kept
             | with_reducible apply gradeCounts_kept | with_reducible apply tamperLog_kept
             | with_reducible apply modFrame_kept | with_reducible apply appendEntry_kept
             | with_reducible apply fixRows_kept | with_reducible apply Kept.foldl | with_reducible apply Kept4.of
             | simp only [Kept.mk_iff] | intro _)

theorem gradeUnits_kept {s0 : State} {x0 : Nat} {x1 : Nat} {x2 : State} (h : Kept s0 x2) :
    Kept s0 (gradeUnits x0 x1 x2) := by
  induction x0 generalizing x1 x2 with
  | zero =>
    unfold gradeUnits
    try dsimp only
    with_reducible repeat' first
      | assumption | refine gradeOne_kept ?_ (by assumption) | apply postCounters_kept | apply Kept.foldl | apply Kept4.of | simp only [Kept.mk_iff] | split | intro _
  | succ k ih =>
    unfold gradeUnits
    try dsimp only
    with_reducible repeat' first
      | assumption | apply ih | refine gradeOne_kept ?_ (by assumption) | apply postCounters_kept | apply Kept.foldl | apply Kept4.of | simp only [Kept.mk_iff] | split | intro _

theorem ctlFirst_kept {s0 : State} {x0 : Nat} {x1 : State} (h : Kept s0 x1) :
    Kept s0 (ctlFirst x0 x1) := by
  unfold ctlFirst
  try dsimp only
  with_reducible repeat' first
    | assumption | apply Kept.foldl | apply Kept4.of | simp only [Kept.mk_iff] | split | intro _

theorem gradeSlot_kept {s0 : State} {x0 : State} (h : Kept s0 x0) :
    Kept s0 (gradeSlot x0) := by
  unfold gradeSlot
  try dsimp only
  with_reducible repeat' first
    | assumption | apply ctlFirst_kept | apply gradeUnits_kept | apply Kept.foldl | apply Kept4.of | simp only [Kept.mk_iff] | split | intro _

theorem gradeOpen_kept {s0 : State} {x0 : State} (h : Kept s0 x0) :
    Kept s0 (gradeOpen x0) := by
  unfold gradeOpen
  try dsimp only
  with_reducible repeat' first
    | assumption | exact P03.LEGAL_INVALID_known | exact P03.LEGAL_DIVERGED_known | apply Kept.foldl | apply Kept4.of | simp only [Kept.mk_iff] | split | intro _

theorem applyRules_kept {s0 : State} {x0 : List Byte} {x1 : State} (h : Kept s0 x1) :
    Kept s0 (applyRules x0 x1) := by
  unfold applyRules
  try dsimp only
  with_reducible repeat' first
    | assumption | apply Kept.foldl | apply Kept4.of | simp only [Kept.mk_iff] | split | intro _

theorem rulesBody_kept {s0 : State} {x0 : Hdr} {x1 : List Byte} {x2 : State} (h : Kept s0 x2) :
    Ans.kept s0 (rulesBody x0 x1 x2) := by
  unfold rulesBody
  try dsimp only
  with_reducible repeat' first
    | assumption | apply applyRules_kept | exact Ans.kept_fail | exact Ans.kept_refuse | apply Ans.kept_done | apply Ans.kept_doneAtBeat | apply Ans.kept_accept | apply Ans.kept_stays | apply Kept.foldl | apply Kept4.of | simp only [Kept.mk_iff] | split | intro _

theorem execSetRules_kept {s0 : State} {x0 : Hdr} {x1 : List Byte} {x2 : State} (h : Kept s0 x2) :
    Outcome.kept s0 (execSetRules x0 x1 x2) := by
  unfold execSetRules
  try dsimp only
  with_reducible repeat' first
    | assumption | apply Outcome.kept_next | apply runCmd_kept | apply rulesBody_kept | exact Ans.kept_fail | exact Ans.kept_refuse | apply Ans.kept_done | apply Ans.kept_doneAtBeat | apply Ans.kept_accept | apply Ans.kept_stays | apply Kept.foldl | apply Kept4.of | simp only [Kept.mk_iff] | split | intro _

theorem effSetRules_kept {s0 : State} {x0 : Eff} {x1 : State} (h : Kept s0 x1) :
    Kept s0 (effSetRules x0 x1) := by
  unfold effSetRules
  try dsimp only
  with_reducible repeat' first
    | assumption | apply applyRules_kept | apply Kept.foldl | apply Kept4.of | simp only [Kept.mk_iff] | split | intro _

theorem editBody_kept {s0 : State} {x0 : Hdr} {x1 : List Byte} {x2 : State} (h : Kept s0 x2) :
    Ans.kept s0 (editBody x0 x1 x2) := by
  unfold editBody
  try dsimp only
  with_reducible repeat' first
    | assumption | apply postGroup_kept | apply setTail_kept | exact Ans.kept_fail | exact Ans.kept_refuse | apply Ans.kept_done | apply Ans.kept_doneAtBeat | apply Ans.kept_accept | apply Ans.kept_stays | apply Kept.foldl | apply Kept4.of | simp only [Kept.mk_iff] | split | intro _

theorem execEditReading_kept {s0 : State} {x0 : Hdr} {x1 : List Byte} {x2 : State} (h : Kept s0 x2) :
    Outcome.kept s0 (execEditReading x0 x1 x2) := by
  unfold execEditReading
  try dsimp only
  with_reducible repeat' first
    | assumption | apply Outcome.kept_next | apply runCmd_kept | apply editBody_kept | exact Ans.kept_fail | exact Ans.kept_refuse | apply Ans.kept_done | apply Ans.kept_doneAtBeat | apply Ans.kept_accept | apply Ans.kept_stays | apply Kept.foldl | apply Kept4.of | simp only [Kept.mk_iff] | split | intro _

end Sys2Proof.Machine
end

