-- ==== Sys2Proof/Laws/Kept/Tally.lean ====
section
/-! SUPPORT. What the operations of Machine/Tally.lean keep: the waiting commands, what was sent, the stored tables. -/
namespace Sys2Proof.Machine

theorem setGrp_kept {s0 : State} {x0 : Nat} {x1 : GroupSt} {x2 : State} (h : Kept s0 x2) :
    Kept s0 (setGrp x0 x1 x2) := by
  unfold setGrp
  try dsimp only
  with_reducible repeat' first
    | assumption | apply Kept.foldl | apply Kept4.of | simp only [Kept.mk_iff] | split | intro _

theorem tallyFields_kept {s0 : State} {x0 : State} (h : Kept s0 x0) :
    Kept s0 (tallyFields x0) := by
  unfold tallyFields
  try dsimp only
  with_reducible repeat' first
    | assumption | apply wr_kept | exact P13.GROUPS_IN_LOSS_known | exact P13.GROUPS_NEGATIVE_known | exact P13.ANOMALIES_ACTIVE_known | apply Kept.foldl | apply Kept4.of | simp only [Kept.mk_iff] | split | intro _

theorem logAlarm_kept {s0 : State} {x0 : Bool} {x1 : Bool} {x2 : Nat} {x3 : Nat} {x4 : Nat} {x5 : Nat} {x6 : State} (h : Kept s0 x6) :
    Kept s0 (logAlarm x0 x1 x2 x3 x4 x5 x6) := by
  unfold logAlarm
  try dsimp only
  with_reducible repeat' first
    | assumption | apply logEv_kept | apply Kept.foldl | apply Kept4.of | simp only [Kept.mk_iff] | split | intro _

theorem setAnom_kept {s0 : State} {x0 : Nat} {x1 : Anom} {x2 : State} (h : Kept s0 x2) :
    Kept s0 (setAnom x0 x1 x2) := by
  unfold setAnom
  try dsimp only
  with_reducible repeat' first
    | assumption | apply Kept.foldl | apply Kept4.of | simp only [Kept.mk_iff] | split | intro _

theorem anomChange_kept {s0 : State} {x0 : Nat} {x1 : Nat} {x2 : Nat} {x3 : Nat} {x4 : Nat} {x5 : Anom} {x6 : State} (h : Kept s0 x6) :
    Kept s0 (anomChange x0 x1 x2 x3 x4 x5 x6) := by
  unfold anomChange
  try dsimp only
  with_reducible repeat' first
    | assumption | apply postEntry_kept | apply logEv_kept | apply setAnom_kept | apply Kept.foldl | apply Kept4.of | simp only [Kept.mk_iff] | split | intro _

theorem anomRule_kept {s0 : State} {x0 : GroupDef} {x1 : Nat} {x2 : Nat} {x3 : State} {x4 : Meter} {x5 : Int} {x6 : State} {x7 : Nat} (h : Kept s0 x6) :
    Kept s0 (anomRule x0 x1 x2 x3 x4 x5 x6 x7) := by
  unfold anomRule
  try dsimp only
  with_reducible repeat' first
    | assumption | apply anomChange_kept | apply Kept.foldl | apply Kept4.of | simp only [Kept.mk_iff] | split | intro _

theorem anomMember_kept {s0 : State} {x0 : GroupDef} {x1 : Nat} {x2 : Nat} {x3 : State} {x4 : Meter} {x5 : Int} {x6 : State} (h : Kept s0 x6) :
    Kept s0 (anomMember x0 x1 x2 x3 x4 x5 x6) := by
  unfold anomMember
  try dsimp only
  with_reducible repeat' first
    | assumption | apply setAnom_kept | apply anomRule_kept | apply Kept.foldl | apply Kept4.of | simp only [Kept.mk_iff] | split | intro _

theorem markTheft_kept {s0 : State} {x0 : Nat} {x1 : Nat} {x2 : State} {x3 : Meter} (h : Kept s0 x2) :
    Kept s0 (markTheft x0 x1 x2 x3) := by
  unfold markTheft
  try dsimp only
  with_reducible repeat' first
    | assumption | apply anomChange_kept | apply Kept.foldl | apply Kept4.of | simp only [Kept.mk_iff] | split | intro _

theorem anomalies_kept {s0 : State} {x0 : GroupDef} {x1 : Nat} {x2 : Nat} {x3 : Bool} {x4 : State} {x5 : List Meter} {x6 : State} (h : Kept s0 x6) :
    Kept s0 (anomalies x0 x1 x2 x3 x4 x5 x6) := by
  unfold anomalies
  try dsimp only
  with_reducible repeat' first
    | assumption | apply markTheft_kept | apply anomMember_kept | apply Kept.foldl | apply Kept4.of | simp only [Kept.mk_iff] | split | intro _

theorem switchDef_kept {s0 : State} {x0 : Nat} {x1 : GroupDef} {x2 : State} (h : Kept s0 x2) :
    Kept s0 (switchDef x0 x1 x2) := by
  unfold switchDef
  try dsimp only
  with_reducible repeat' first
    | assumption | apply setGrp_kept | apply logEv_kept | apply Kept.foldl | apply Kept4.of | simp only [Kept.mk_iff] | split | intro _

theorem withoutFresh_kept {s0 : State} {x0 : State} (h : Kept s0 x0) :
    Kept s0 (withoutFresh x0) := by
  unfold withoutFresh
  try dsimp only
  with_reducible repeat' first
    | assumption | apply Kept.foldl | apply Kept4.of | simp only [Kept.mk_iff] | split | intro _

theorem viewFor_kept {s0 : State} {x0 : State} {x1 : Nat} (h : Kept s0 x0) :
    Kept s0 (viewFor x0 x1) := by
  unfold viewFor
  try dsimp only
  with_reducible repeat' first
    | assumption | apply withoutFresh_kept | apply Kept.foldl | apply Kept4.of | simp only [Kept.mk_iff] | split | intro _

theorem closeInterval_kept {s0 : State} {x0 : Nat} {x1 : GroupDef} {x2 : Nat} {x3 : State} (h : Kept s0 x3) :
    Kept s0 (closeInterval x0 x1 x2 x3) := by
  unfold closeInterval
  try dsimp only
  with_reducible repeat' first
    | assumption | apply bump_kept | apply setGrp_kept | apply logAlarm_kept | apply drawn_kept | apply postEntry_kept | apply tallyFields_kept | apply viewFor_kept | apply bumpI_kept | apply switchDef_kept | apply anomalies_kept | exact P13.NOT_COUNTED_known | exact P13.INTERVALS_CLOSED_known | exact P13.LATE_VALUES_known | apply Kept.foldl | apply Kept4.of | simp only [Kept.mk_iff] | split | intro _

theorem execIntervalClose_kept {s0 : State} {x0 : Nat} {x1 : State} (h : Kept s0 x1) :
    Outcome.kept s0 (execIntervalClose x0 x1) := by
  unfold execIntervalClose
  try dsimp only
  with_reducible repeat' first
    | assumption | apply Outcome.kept_next | apply closeInterval_kept | apply Kept.foldl | apply Kept4.of | simp only [Kept.mk_iff] | split | intro _

theorem tallyValue_kept {s0 : State} {x0 : Entry} {x1 : State} (h : Kept s0 x1) :
    Kept s0 (tallyValue x0 x1) := by
  unfold tallyValue
  try dsimp only
  with_reducible repeat' first
    | assumption | apply bump_kept | exact P13.LATE_VALUES_known | apply Kept.foldl | apply Kept4.of | simp only [Kept.mk_iff] | split | intro _

theorem groupSetBody_kept {s0 : State} {x0 : Hdr} {x1 : List Byte} {x2 : State} (h : Kept s0 x2) :
    Ans.kept s0 (groupSetBody x0 x1 x2) := by
  unfold groupSetBody
  try dsimp only
  with_reducible repeat' first
    | assumption | exact Ans.kept_fail | exact Ans.kept_refuse | apply Ans.kept_done | apply Ans.kept_doneAtBeat | apply Ans.kept_accept | apply Ans.kept_stays | apply Kept.foldl | apply Kept4.of | simp only [Kept.mk_iff] | split | intro _

theorem execBalanceGroupSet_kept {s0 : State} {x0 : Hdr} {x1 : List Byte} {x2 : State} (h : Kept s0 x2) :
    Outcome.kept s0 (execBalanceGroupSet x0 x1 x2) := by
  unfold execBalanceGroupSet
  try dsimp only
  with_reducible repeat' first
    | assumption | apply Outcome.kept_next | apply runCmd_kept | apply groupSetBody_kept | exact Ans.kept_fail | exact Ans.kept_refuse | apply Ans.kept_done | apply Ans.kept_doneAtBeat | apply Ans.kept_accept | apply Ans.kept_stays | apply Kept.foldl | apply Kept4.of | simp only [Kept.mk_iff] | split | intro _

theorem setDef_kept {s0 : State} {x0 : Nat} {x1 : GroupDef} {x2 : State} (h : Kept s0 x2) :
    Kept s0 (setDef x0 x1 x2) := by
  unfold setDef
  try dsimp only
  with_reducible repeat' first
    | assumption | apply setGrp_kept | apply Kept.foldl | apply Kept4.of | simp only [Kept.mk_iff] | split | intro _

theorem effBalanceGroupSet_kept {s0 : State} {x0 : Eff} {x1 : State} (h : Kept s0 x1) :
    Kept s0 (effBalanceGroupSet x0 x1) := by
  unfold effBalanceGroupSet
  try dsimp only
  with_reducible repeat' first
    | assumption | apply modMeter_kept | apply setDef_kept | apply Kept.foldl | apply Kept4.of | simp only [Kept.mk_iff] | split | intro _

end Sys2Proof.Machine
end

