-- ==== Sys2Proof/Laws/Kept/Scribe.lean ====
section
/-! SUPPORT. What the operations of Machine/Scribe.lean keep: the waiting commands, what was sent, the stored tables. -/
namespace Sys2Proof.Machine

theorem modCamp_kept {s0 : State} {x0 : Nat} {x1 : ScribeCamp → ScribeCamp} {x2 : State} (h : Kept s0 x2) :
    Kept s0 (modCamp x0 x1 x2) := by
  unfold modCamp
  try dsimp only
  with_reducible repeat' first
    | assumption | apply Kept.foldl | apply Kept4.of | simp only [Kept.mk_iff] | split | intro _

theorem campFields_kept {s0 : State} {x0 : State} (h : Kept s0 x0) :
    Kept s0 (campFields x0) := by
  unfold campFields
  try dsimp only
  with_reducible repeat' first
    | assumption | apply wr_kept | exact P13.CAMPAIGNS_RUNNING_known | apply Kept.foldl | apply Kept4.of | simp only [Kept.mk_iff] | split | intro _

theorem scribeBody_kept {s0 : State} {x0 : Hdr} {x1 : List Byte} {x2 : State} (h : Kept s0 x2) :
    Ans.kept s0 (scribeBody x0 x1 x2) := by
  unfold scribeBody
  try dsimp only
  with_reducible repeat' first
    | assumption | exact Ans.kept_fail | exact Ans.kept_refuse | apply Ans.kept_done | apply Ans.kept_doneAtBeat | apply Ans.kept_accept | apply Ans.kept_stays | apply Kept.foldl | apply Kept4.of | simp only [Kept.mk_iff] | split | intro _

theorem execScribeCampaign_kept {s0 : State} {x0 : Hdr} {x1 : List Byte} {x2 : State} (h : Kept s0 x2) :
    Outcome.kept s0 (execScribeCampaign x0 x1 x2) := by
  unfold execScribeCampaign
  try dsimp only
  with_reducible repeat' first
    | assumption | apply Outcome.kept_next | apply runCmd_kept | apply scribeBody_kept | exact Ans.kept_fail | exact Ans.kept_refuse | apply Ans.kept_done | apply Ans.kept_doneAtBeat | apply Ans.kept_accept | apply Ans.kept_stays | apply Kept.foldl | apply Kept4.of | simp only [Kept.mk_iff] | split | intro _

theorem effScribeCampaign_kept {s0 : State} {x0 : Eff} {x1 : State} (h : Kept s0 x1) :
    Kept s0 (effScribeCampaign x0 x1) := by
  unfold effScribeCampaign
  try dsimp only
  with_reducible repeat' first
    | assumption | apply modCamp_kept | apply campFields_kept | apply logEv_kept | apply Kept.foldl | apply Kept4.of | simp only [Kept.mk_iff] | split | intro _

theorem mapRefs_kept {s0 : State} {x0 : Nat} {x1 : ScribeCamp → Nat → ScribeCamp} {x2 : State} (h : Kept s0 x2) :
    Kept s0 (mapRefs x0 x1 x2) := by
  unfold mapRefs
  try dsimp only
  with_reducible repeat' first
    | assumption | apply Kept.foldl | apply Kept4.of | simp only [Kept.mk_iff] | split | intro _

theorem refCrossing_kept {s0 : State} {x0 : Nat} {x1 : Int} {x2 : Nat} {x3 : Nat} {x4 : Bool} {x5 : State} (h : Kept s0 x5) :
    Kept s0 (refCrossing x0 x1 x2 x3 x4 x5) := by
  unfold refCrossing
  try dsimp only
  with_reducible repeat' first
    | assumption | apply mapRefs_kept | apply Kept.foldl | apply Kept4.of | simp only [Kept.mk_iff] | split | intro _

theorem execScribeEvaluate_kept {s0 : State} {x0 : Nat} {x1 : Nat} {x2 : State} (h : Kept s0 x2) :
    Outcome.kept s0 (execScribeEvaluate x0 x1 x2) := by
  unfold execScribeEvaluate
  try dsimp only
  with_reducible repeat' first
    | assumption | apply Outcome.kept_next | apply bump_kept | apply postEntry_kept | apply modCamp_kept | apply campFields_kept | apply logEv_kept | exact P13.METERS_UNDECIDED_known | exact P13.METERS_DECIDED_known | apply Kept.foldl | apply Kept4.of | simp only [Kept.mk_iff] | split | intro _

theorem scribeSlot_kept {s0 : State} {x0 : State} (h : Kept s0 x0) :
    Kept s0 (scribeSlot x0) := by
  unfold scribeSlot
  try dsimp only
  with_reducible repeat' first
    | assumption | apply modCamp_kept | apply Kept.foldl | apply Kept4.of | simp only [Kept.mk_iff] | split | intro _

theorem restartCamp_kept {s0 : State} {x0 : State} {x1 : ScribeCamp} (h : Kept s0 x0) :
    Kept s0 (restartCamp x0 x1) := by
  unfold restartCamp
  try dsimp only
  with_reducible repeat' first
    | assumption | apply modCamp_kept | apply logEv_kept | apply Kept.foldl | apply Kept4.of | simp only [Kept.mk_iff] | split | intro _

theorem execTallyQuery_kept {s0 : State} {x0 : Hdr} {x1 : List Byte} {x2 : State} (h : Kept s0 x2) :
    Outcome.kept s0 (execTallyQuery x0 x1 x2) := by
  unfold execTallyQuery
  try dsimp only
  with_reducible repeat' first
    | assumption | apply Outcome.kept_next | apply runCmd_kept | exact Ans.kept_fail | exact Ans.kept_refuse | apply Ans.kept_done | apply Ans.kept_doneAtBeat | apply Ans.kept_accept | apply Ans.kept_stays | apply Kept.foldl | apply Kept4.of | simp only [Kept.mk_iff] | split | intro _

end Sys2Proof.Machine
end

