-- ==== Sys2Proof/Laws/Kept/Release.lean ====
section
/-! SUPPORT. What the operations of Machine/Release.lean keep: the waiting commands, what was sent, the stored tables. -/
namespace Sys2Proof.Machine

theorem frameComplete_kept {s0 : State} {x0 : Nat} {x1 : State} (h : Kept s0 x1) :
    Kept s0 (frameComplete x0 x1) := by
  unfold frameComplete
  try dsimp only
  with_reducible repeat' first
    | assumption | apply appAck_kept | apply streamDone_kept | apply modMeter_kept | apply Kept.foldl | apply Kept4.of | simp only [Kept.mk_iff] | split | intro _

theorem counterStands_kept {s0 : State} {x0 : Entry} {x1 : Nat} {x2 : State} (h : Kept s0 x2) :
    Kept s0 (counterStands x0 x1 x2) := by
  unfold counterStands
  try dsimp only
  with_reducible repeat' first
    | assumption | apply frameComplete_kept | apply modMeter_kept | apply logEv_kept | apply Kept.foldl | apply Kept4.of | simp only [Kept.mk_iff] | split | intro _

theorem readingStands_kept {s0 : State} {x0 : Entry} {x1 : Option Nat} {x2 : Bool} {x3 : State} (h : Kept s0 x3) :
    Kept s0 (readingStands x0 x1 x2 x3) := by
  unfold readingStands
  try dsimp only
  with_reducible repeat' first
    | assumption | apply bump_kept | apply modFrame_kept | apply tallyValue_kept | apply acceptSlot_kept | apply count_kept | exact P11.EDITS_known | apply Kept.foldl | apply Kept4.of | simp only [Kept.mk_iff] | split | intro _

theorem recordStands_kept {s0 : State} {x0 : Entry} {x1 : State} (h : Kept s0 x1) :
    Kept s0 (recordStands x0 x1) := by
  unfold recordStands
  try dsimp only
  with_reducible repeat' first
    | assumption | apply readingStands_kept | apply counterStands_kept | apply Kept.foldl | apply Kept4.of | simp only [Kept.mk_iff] | split | intro _

theorem closeStands_kept {s0 : State} {x0 : Nat} {x1 : Nat} {x2 : State} (h : Kept s0 x2) :
    Kept s0 (closeStands x0 x1 x2) := by
  unfold closeStands
  try dsimp only
  with_reducible repeat' first
    | assumption | apply recordStands_kept | apply modBatch_kept | apply Kept.foldl | apply Kept4.of | simp only [Kept.mk_iff] | split | intro _

theorem effAtRelease_kept {s0 s : State} {e : Eff} {f : State → State} (g : effAtRelease e = some f) (h : Kept s0 s) :
    Kept s0 (f s) := by
  unfold effAtRelease at g
  split at g
  · cases g; exact effScribeCampaign_kept h
  · cases g; exact effOutputControl_kept h
  · cases g

theorem commandStands_kept {s0 s : State} {x0 : Bool} {x1 : Hdr} {x2 x3 x4 : Nat} {x5 : List Byte} {x6 : Eff} (h : Kept s0 s) :
    Kept s0 (commandStands x0 x1 x2 x3 x4 x5 x6 s) := by
  unfold commandStands
  dsimp only
  split
  · next g =>
    refine effAtRelease_kept g ?_
    with_reducible repeat' first
      | assumption | apply sendReply_kept | apply hold_kept | apply closeCmd_kept | split
  · with_reducible repeat' first
      | assumption | apply sendReply_kept | apply hold_kept | apply closeCmd_kept | apply Kept4.of | simp only [Kept.mk_iff] | split

theorem entryStands_kept {s0 : State} {x0 : Bool} {x1 : Nat} {x2 : Entry} {x3 : State} (h : Kept s0 x3) :
    Kept s0 (entryStands x0 x1 x2 x3) := by
  unfold entryStands
  try dsimp only
  with_reducible repeat' first
    | assumption | apply commandStands_kept | apply dlRelease_kept | apply closeStands_kept | apply legalAccepted_kept | apply recordStands_kept | apply stepRelease_kept | apply Kept.foldl | apply Kept4.of | simp only [Kept.mk_iff] | split | intro _

theorem releaseGroup_kept {s0 : State} {x0 : Bool} {x1 : Group} {x2 : State} (h : Kept s0 x2) :
    Kept s0 (releaseGroup x0 x1 x2) := by
  unfold releaseGroup
  try dsimp only
  with_reducible repeat' first
    | assumption | apply entryStands_kept | apply modGroup_kept | apply rollSec_kept | apply Kept.foldl | apply Kept4.of | simp only [Kept.mk_iff] | split | intro _

theorem settleReleases_kept {s0 : State} {x0 : State} (h : Kept s0 x0) :
    Kept s0 (settleReleases x0) := by
  unfold settleReleases
  try dsimp only
  with_reducible repeat' first
    | assumption | apply settleFrames_kept | apply legalPost_kept | apply tariffEntry_kept | apply Kept.foldl | apply Kept4.of | simp only [Kept.mk_iff] | split | intro _

theorem execGroupRelease_kept {s0 : State} {x0 : State} (h : Kept s0 x0) :
    Outcome.kept s0 (execGroupRelease x0) := by
  unfold execGroupRelease
  try dsimp only
  with_reducible repeat' first
    | assumption | apply Outcome.kept_next | apply releaseGroup_kept | apply settleReleases_kept | apply Kept.foldl | apply Kept4.of | simp only [Kept.mk_iff] | split | intro _

theorem execUnsealComplete_kept {s0 : State} {x0 : Nat} {x1 : JobStatus} {x2 : State} (h : Kept s0 x2) :
    Outcome.kept s0 (execUnsealComplete x0 x1 x2) := by
  unfold execUnsealComplete
  try dsimp only
  with_reducible repeat' first
    | assumption | apply Outcome.kept_next | apply settleFrames_kept | apply handleHanded_kept | apply unsealDone_kept | apply Kept.foldl | apply Kept4.of | simp only [Kept.mk_iff] | split | intro _

end Sys2Proof.Machine
end

