-- ==== Sys2Proof/Laws/Kept/LegalCmds.lean ====
section
/-! SUPPORT. What the operations of Machine/LegalCmds.lean keep: the waiting commands, what was sent, the stored tables. -/
namespace Sys2Proof.Machine

theorem readRegistersBody_kept {s0 : State} {x0 : List Byte} {x1 : State} (h : Kept s0 x1) :
    Ans.kept s0 (readRegistersBody x0 x1) := by
  unfold readRegistersBody
  try dsimp only
  with_reducible repeat' first
    | assumption | exact Ans.kept_fail | exact Ans.kept_refuse | apply Ans.kept_done | apply Ans.kept_doneAtBeat | apply Ans.kept_accept | apply Ans.kept_stays | apply Kept.foldl | apply Kept4.of | simp only [Kept.mk_iff] | split | intro _

theorem execReadRegisters_kept {s0 : State} {x0 : Hdr} {x1 : List Byte} {x2 : State} (h : Kept s0 x2) :
    Outcome.kept s0 (execReadRegisters x0 x1 x2) := by
  unfold execReadRegisters
  try dsimp only
  with_reducible repeat' first
    | assumption | apply Outcome.kept_next | apply readRegistersBody_kept | apply runCmd_kept | exact Ans.kept_fail | exact Ans.kept_refuse | apply Ans.kept_done | apply Ans.kept_doneAtBeat | apply Ans.kept_accept | apply Ans.kept_stays | apply Kept.foldl | apply Kept4.of | simp only [Kept.mk_iff] | split | intro _

theorem execReadBillingSet_kept {s0 : State} {x0 : Hdr} {x1 : List Byte} {x2 : State} (h : Kept s0 x2) :
    Outcome.kept s0 (execReadBillingSet x0 x1 x2) := by
  unfold execReadBillingSet
  try dsimp only
  with_reducible repeat' first
    | assumption | apply Outcome.kept_next | apply runCmd_kept | exact Ans.kept_fail | exact Ans.kept_refuse | apply Ans.kept_done | apply Ans.kept_doneAtBeat | apply Ans.kept_accept | apply Ans.kept_stays | apply Kept.foldl | apply Kept4.of | simp only [Kept.mk_iff] | split | intro _

theorem legalLogReadBody_kept {s0 : State} {x0 : List Byte} {x1 : State} (h : Kept s0 x1) :
    Ans.kept s0 (legalLogReadBody x0 x1) := by
  unfold legalLogReadBody
  try dsimp only
  with_reducible repeat' first
    | assumption | exact P30.LOG_NEXT_known | exact Ans.kept_fail | exact Ans.kept_refuse | apply Ans.kept_done | apply Ans.kept_doneAtBeat | apply Ans.kept_accept | apply Ans.kept_stays | apply Kept.foldl | apply Kept4.of | simp only [Kept.mk_iff] | split | intro _

theorem execLegalLogRead_kept {s0 : State} {x0 : Hdr} {x1 : List Byte} {x2 : State} (h : Kept s0 x2) :
    Outcome.kept s0 (execLegalLogRead x0 x1 x2) := by
  unfold execLegalLogRead
  try dsimp only
  with_reducible repeat' first
    | assumption | apply Outcome.kept_next | apply runCmd_kept | apply legalLogReadBody_kept | exact Ans.kept_fail | exact Ans.kept_refuse | apply Ans.kept_done | apply Ans.kept_doneAtBeat | apply Ans.kept_accept | apply Ans.kept_stays | apply Kept.foldl | apply Kept4.of | simp only [Kept.mk_iff] | split | intro _

theorem putCal_kept {s0 : State} {x0 : List Byte} {x1 : Option Nat} {x2 : Nat} {x3 : State} (h : Kept s0 x3) :
    Kept s0 (putCal x0 x1 x2 x3) := by
  unfold putCal
  try dsimp only
  with_reducible repeat' first
    | assumption | apply wr_kept | exact P30.CAL_CRC_known | exact P30.CAL_COUNT_known | apply Kept.foldl | apply Kept4.of | simp only [Kept.mk_iff] | split | intro _

theorem calibrateBody_kept {s0 : State} {x0 : Hdr} {x1 : List Byte} {x2 : Bool} {x3 : State} (h : Kept s0 x3) :
    Ans.kept s0 (calibrateBody x0 x1 x2 x3) := by
  unfold calibrateBody
  try dsimp only
  with_reducible repeat' first
    | assumption | apply postGroup_kept | apply putCal_kept | apply ownLog_kept | refine ownLog_pair (by assumption) ?_ | exact P30.CAL_CRC_known | exact P30.LOG_NEXT_known | exact P30.SEAL_CAL_known | exact P30.SEAL_STATE_known | exact P30.CAL_COUNT_known | exact Ans.kept_fail | exact Ans.kept_refuse | apply Ans.kept_done | apply Ans.kept_doneAtBeat | apply Ans.kept_accept | apply Ans.kept_stays | apply Kept.foldl | apply Kept4.of | simp only [Kept.mk_iff] | split | intro _

theorem execCalibrate_kept {s0 : State} {x0 : Hdr} {x1 : List Byte} {x2 : Bool} {x3 : State} (h : Kept s0 x3) :
    Outcome.kept s0 (execCalibrate x0 x1 x2 x3) := by
  unfold execCalibrate
  try dsimp only
  with_reducible repeat' first
    | assumption | apply Outcome.kept_next | apply runCmd_kept | apply calibrateBody_kept | exact Ans.kept_fail | exact Ans.kept_refuse | apply Ans.kept_done | apply Ans.kept_doneAtBeat | apply Ans.kept_accept | apply Ans.kept_stays | apply Kept.foldl | apply Kept4.of | simp only [Kept.mk_iff] | split | intro _

theorem effCalibrate_kept {s0 : State} {x0 : Eff} {x1 : State} (h : Kept s0 x1) :
    Kept s0 (effCalibrate x0 x1) := by
  unfold effCalibrate
  try dsimp only
  with_reducible repeat' first
    | assumption | apply putCal_kept | apply wr_kept | exact P30.AUTH_COUNT_known | apply Kept.foldl | apply Kept4.of | simp only [Kept.mk_iff] | split | intro _

theorem calendarLoadBody_kept {s0 : State} {x0 : Hdr} {x1 : List Byte} {x2 : Bool} {x3 : State} (h : Kept s0 x3) :
    Ans.kept s0 (calendarLoadBody x0 x1 x2 x3) := by
  unfold calendarLoadBody
  try dsimp only
  with_reducible repeat' first
    | assumption | exact Ans.kept_fail | exact Ans.kept_refuse | apply Ans.kept_done | apply Ans.kept_doneAtBeat | apply Ans.kept_accept | apply Ans.kept_stays | apply Kept.foldl | apply Kept4.of | simp only [Kept.mk_iff] | split | intro _

theorem execCalendarLoad_kept {s0 : State} {x0 : Hdr} {x1 : List Byte} {x2 : Bool} {x3 : State} (h : Kept s0 x3) :
    Outcome.kept s0 (execCalendarLoad x0 x1 x2 x3) := by
  unfold execCalendarLoad
  try dsimp only
  with_reducible repeat' first
    | assumption | apply Outcome.kept_next | apply runCmd_kept | apply calendarLoadBody_kept | exact Ans.kept_fail | exact Ans.kept_refuse | apply Ans.kept_done | apply Ans.kept_doneAtBeat | apply Ans.kept_accept | apply Ans.kept_stays | apply Kept.foldl | apply Kept4.of | simp only [Kept.mk_iff] | split | intro _

theorem effCalendarLoad_kept {s0 : State} {x0 : Eff} {x1 : State} (h : Kept s0 x1) :
    Kept s0 (effCalendarLoad x0 x1) := by
  unfold effCalendarLoad
  try dsimp only
  with_reducible repeat' first
    | assumption | apply legalLog_kept | apply wr_kept | exact P30.AUTH_COUNT_known | exact P31.PASSIVE_CAL_ID_known | apply Kept.foldl | apply Kept4.of | simp only [Kept.mk_iff] | split | intro _

theorem calendarActivateBody_kept {s0 : State} {x0 : Hdr} {x1 : List Byte} {x2 : Bool} {x3 : State} (h : Kept s0 x3) :
    Ans.kept s0 (calendarActivateBody x0 x1 x2 x3) := by
  unfold calendarActivateBody
  try dsimp only
  with_reducible repeat' first
    | assumption | exact P31.PASSIVE_CAL_ID_known | exact Ans.kept_fail | exact Ans.kept_refuse | apply Ans.kept_done | apply Ans.kept_doneAtBeat | apply Ans.kept_accept | apply Ans.kept_stays | apply Kept.foldl | apply Kept4.of | simp only [Kept.mk_iff] | split | intro _

theorem execCalendarActivate_kept {s0 : State} {x0 : Hdr} {x1 : List Byte} {x2 : Bool} {x3 : State} (h : Kept s0 x3) :
    Outcome.kept s0 (execCalendarActivate x0 x1 x2 x3) := by
  unfold execCalendarActivate
  try dsimp only
  with_reducible repeat' first
    | assumption | apply Outcome.kept_next | apply runCmd_kept | apply calendarActivateBody_kept | exact Ans.kept_fail | exact Ans.kept_refuse | apply Ans.kept_done | apply Ans.kept_doneAtBeat | apply Ans.kept_accept | apply Ans.kept_stays | apply Kept.foldl | apply Kept4.of | simp only [Kept.mk_iff] | split | intro _

theorem effCalendarActivate_kept {s0 : State} {x0 : Eff} {x1 : State} (h : Kept s0 x1) :
    Kept s0 (effCalendarActivate x0 x1) := by
  unfold effCalendarActivate
  try dsimp only
  with_reducible repeat' first
    | assumption | apply wr_kept | apply activateCal_kept | exact P30.AUTH_COUNT_known | exact P31.PENDING_AT_known | apply Kept.foldl | apply Kept4.of | simp only [Kept.mk_iff] | split | intro _

theorem billingCloseBody_kept {s0 : State} {x0 : Hdr} {x1 : List Byte} {x2 : Bool} {x3 : State} (h : Kept s0 x3) :
    Ans.kept s0 (billingCloseBody x0 x1 x2 x3) := by
  unfold billingCloseBody
  try dsimp only
  with_reducible repeat' first
    | assumption | apply postGroup_kept | apply closePeriod_kept | apply takeSnapshot_kept | apply ownEnt_kept | refine ownEnt_pair (by assumption) ?_ | exact P30.LOG_NEXT_known | exact P31.CLOSURES_known | exact Ans.kept_fail | exact Ans.kept_refuse | apply Ans.kept_done | apply Ans.kept_doneAtBeat | apply Ans.kept_accept | apply Ans.kept_stays | apply Kept.foldl | apply Kept4.of | simp only [Kept.mk_iff] | split | intro _

theorem execBillingClose_kept {s0 : State} {x0 : Hdr} {x1 : List Byte} {x2 : Bool} {x3 : State} (h : Kept s0 x3) :
    Outcome.kept s0 (execBillingClose x0 x1 x2 x3) := by
  unfold execBillingClose
  try dsimp only
  with_reducible repeat' first
    | assumption | apply Outcome.kept_next | apply runCmd_kept | apply billingCloseBody_kept | exact Ans.kept_fail | exact Ans.kept_refuse | apply Ans.kept_done | apply Ans.kept_doneAtBeat | apply Ans.kept_accept | apply Ans.kept_stays | apply Kept.foldl | apply Kept4.of | simp only [Kept.mk_iff] | split | intro _

theorem effBillingClose_kept {s0 : State} {x0 : Eff} {x1 : State} (h : Kept s0 x1) :
    Kept s0 (effBillingClose x0 x1) := by
  unfold effBillingClose
  try dsimp only
  with_reducible repeat' first
    | assumption | apply wr_kept | exact P30.AUTH_COUNT_known | apply Kept.foldl | apply Kept4.of | simp only [Kept.mk_iff] | split | intro _

end Sys2Proof.Machine
end

