-- ==== Sys2Proof/Laws/Kept/Radio.lean ====
section
/-! SUPPORT. What the operations of Machine/Radio.lean keep: the waiting commands, what was sent, the stored tables. -/
namespace Sys2Proof.Machine

theorem execPhrDecoded_kept {s0 : State} {x0 : Fin 16} {x1 : Nat} {x2 : Bool} {x3 : Int} {x4 : State} (h : Kept s0 x4) :
    Outcome.kept s0 (execPhrDecoded x0 x1 x2 x3 x4) := by
  unfold execPhrDecoded
  try dsimp only
  with_reducible repeat' first
    | assumption | apply Outcome.kept_next | apply modChan_kept | apply bumpCh_kept | exact P20.RX_FCS_ERR_known | apply Kept.foldl | apply Kept4.of | simp only [Kept.mk_iff] | split | intro _

theorem hearFrame_kept {s0 : State} {x0 : Nat} {x1 : RadioRx} {x2 : RadRx} {x3 : State} (h : Kept s0 x3) :
    Kept s0 (hearFrame x0 x1 x2 x3) := by
  unfold hearFrame
  try dsimp only
  with_reducible repeat' first
    | assumption | apply radCounts_kept | apply modNeigh_kept | apply Kept.foldl | apply Kept4.of | simp only [Kept.mk_iff] | split | intro _

theorem enhAck_kept {s0 : State} {x0 : Nat} {x1 : RadioRx} {x2 : RadRx} {x3 : State} (h : Kept s0 x3) :
    Kept s0 (enhAck x0 x1 x2 x3) := by
  unfold enhAck
  try dsimp only
  with_reducible repeat' first
    | assumption | apply bumpCh_kept | apply cutRx_kept | apply airOut_kept | exact P20.ACK_WITHHELD_known | exact P20.PORT_TX_MAX_known | exact P20.RX_CUT_known | apply Kept.foldl | apply Kept4.of | simp only [Kept.mk_iff] | split | intro _

theorem dispatchPayload_kept {s0 : State} {x0 : Nat} {x1 : RadRx} {x2 : Nat} {x3 : Nat} {x4 : List Byte} {x5 : State} (h : Kept s0 x5) :
    Kept s0 (dispatchPayload x0 x1 x2 x3 x4 x5) := by
  unfold dispatchPayload
  try dsimp only
  with_reducible repeat' first
    | assumption | refine putItem_kept ?_ (by assumption) | apply bumpCh_kept | exact P20.RX_FCS_ERR_known | apply Kept.getD | apply Kept.foldl | apply Kept4.of | simp only [Kept.mk_iff] | split | intro _

theorem floodCopy_kept {s0 : State} {x0 : Nat} {x1 : Nat} {x2 : List Byte} {x3 : State} (h : Kept s0 x3) :
    Kept s0 (floodCopy x0 x1 x2 x3) := by
  unfold floodCopy
  try dsimp only
  with_reducible repeat' first
    | assumption | apply bump_kept | refine seenInsert_kept ?_ (by assumption) | apply modSeen_kept | apply bumpCh_kept | exact P20.DEPTH_known | exact P20.RELAY_JITTER_known | exact P20.STATE_known | exact P20.SUPPRESS_K_known | exact P20.RELAY_SUPPRESSED_known | exact P20.SEEN_FULL_known | apply Kept.getD | apply Kept.foldl | apply Kept4.of | simp only [Kept.mk_iff] | split | intro _

theorem dataFrame_kept {s0 : State} {x0 : Nat} {x1 : Nat} {x2 : RadRx} {x3 : List Byte} {x4 : State} (h : Kept s0 x4) :
    Kept s0 (dataFrame x0 x1 x2 x3 x4) := by
  unfold dataFrame
  try dsimp only
  with_reducible repeat' first
    | assumption | apply bumpCh_kept | apply floodCopy_kept | apply dispatchPayload_kept | exact P20.RX_FCS_ERR_known | exact P20.ROLE_known | apply Kept.foldl | apply Kept4.of | simp only [Kept.mk_iff] | split | intro _

theorem dropNeigh_kept {s0 : State} {x0 : Nat} {x1 : Nat} {x2 : State} (h : Kept s0 x2) :
    Kept s0 (dropNeigh x0 x1 x2) := by
  unfold dropNeigh
  try dsimp only
  with_reducible repeat' first
    | assumption | apply modChan_kept | apply radCounts_kept | apply Kept.foldl | apply Kept4.of | simp only [Kept.mk_iff] | split | intro _

theorem cancelRelays_kept {s0 : State} {x0 : Nat} {x1 : State} (h : Kept s0 x1) :
    Kept s0 (cancelRelays x0 x1) := by
  unfold cancelRelays
  try dsimp only
  with_reducible repeat' first
    | assumption | apply Kept.foldl | apply Kept4.of | simp only [Kept.mk_iff] | split | intro _

theorem leaveHeard_kept {s0 : State} {x0 : Nat} {x1 : RadioRx} {x2 : State} (h : Kept s0 x2) :
    Kept s0 (leaveHeard x0 x1 x2) := by
  unfold leaveHeard
  try dsimp only
  with_reducible repeat' first
    | assumption | apply wrI_kept | apply modChan_kept | apply cancelRelays_kept | apply dropNeigh_kept | exact P20.STATE_known | exact P20.ROLE_known | apply Kept.foldl | apply Kept4.of | simp only [Kept.mk_iff] | split | intro _

theorem slotAnswer_kept {s0 : State} {x0 : Neigh} {x1 : List Byte} {x2 : State} (h : Kept s0 x2) :
    Kept s0 (slotAnswer x0 x1 x2) := by
  unfold slotAnswer
  try dsimp only
  with_reducible repeat' first
    | assumption | apply queueRadio_kept | apply Kept.foldl | apply Kept4.of | simp only [Kept.mk_iff] | split | intro _

theorem rdvData_kept {s0 : State} {x0 : Nat} {x1 : RadioRx} {x2 : RadRx} {x3 : State} (h : Kept s0 x3) :
    Kept s0 (rdvData x0 x1 x2 x3) := by
  unfold rdvData
  try dsimp only
  with_reducible repeat' first
    | assumption | apply slotAnswer_kept | apply Kept.foldl | apply Kept4.of | simp only [Kept.mk_iff] | split | intro _

theorem checkedFrame_kept {s0 : State} {x0 : Nat} {x1 : RadioRx} {x2 : RadRx} {x3 : State} (h : Kept s0 x3) :
    Kept s0 (checkedFrame x0 x1 x2 x3) := by
  unfold checkedFrame
  try dsimp only
  with_reducible repeat' first
    | assumption | apply leaveHeard_kept | apply modChan_kept | apply hearFrame_kept | apply enhAck_kept | apply dataFrame_kept | apply rdvData_kept | apply Kept.foldl | apply Kept4.of | simp only [Kept.mk_iff] | split | intro _

theorem execRadioFrameReceived_kept {s0 : State} {x0 : Fin 16} {x1 : RadioRx} {x2 : State} (h : Kept s0 x2) :
    Outcome.kept s0 (execRadioFrameReceived x0 x1 x2) := by
  unfold execRadioFrameReceived
  try dsimp only
  with_reducible repeat' first
    | assumption | apply Outcome.kept_next | apply modChan_kept | apply bumpCh_kept | apply checkedFrame_kept | apply count_kept | exact P20.RX_FCS_ERR_known | exact P20.RX_FRAMES_known | exact P20.RX_SEC_FAIL_known | apply Kept.foldl | apply Kept4.of | simp only [Kept.mk_iff] | split | intro _

theorem execFloodRelay_kept {s0 : State} {x0 : Nat} {x1 : Nat} {x2 : State} (h : Kept s0 x2) :
    Outcome.kept s0 (execFloodRelay x0 x1 x2) := by
  unfold execFloodRelay
  try dsimp only
  with_reducible repeat' first
    | assumption | apply Outcome.kept_next | apply modSeen_kept | apply bumpCh_kept | apply queueRadio_kept | exact P20.DEPTH_known | exact P20.RELAYED_known | apply Kept.foldl | apply Kept4.of | simp only [Kept.mk_iff] | split | intro _

theorem execSeenEntryExpire_kept {s0 : State} {x0 : Nat} {x1 : Nat} {x2 : State} (h : Kept s0 x2) :
    Outcome.kept s0 (execSeenEntryExpire x0 x1 x2) := by
  unfold execSeenEntryExpire
  try dsimp only
  with_reducible repeat' first
    | assumption | apply Outcome.kept_next | apply Kept.foldl | apply Kept4.of | simp only [Kept.mk_iff] | split | intro _

theorem macCommand_kept {s0 : State} {x0 : Nat} {x1 : Nat} {x2 : Nat} {x3 : Bool} {x4 : List Byte} {x5 : State} (h : Kept s0 x5) :
    Kept s0 (macCommand x0 x1 x2 x3 x4 x5) := by
  unfold macCommand
  try dsimp only
  with_reducible repeat' first
    | assumption | apply queueRadio_kept | apply Kept.foldl | apply Kept4.of | simp only [Kept.mk_iff] | split | intro _

theorem newTitle_kept {s0 : State} {x0 : Nat} {x1 : State} (h : Kept s0 x1) :
    Kept s0 (newTitle x0 x1) := by
  unfold newTitle
  try dsimp only
  with_reducible repeat' first
    | assumption | apply logEv_kept | apply Kept.foldl | apply Kept4.of | simp only [Kept.mk_iff] | split | intro _

theorem admitAssoc_kept {s0 : State} {x0 : Nat} {x1 : Nat} {x2 : Bool} {x3 : State} (h : Kept s0 x3) :
    Kept s0 (admitAssoc x0 x1 x2 x3) := by
  unfold admitAssoc
  try dsimp only
  with_reducible repeat' first
    | assumption | apply radCounts_kept | apply modNeigh_kept | apply macCommand_kept | exact P20.DRIFT_METER_known | apply Kept.foldl | apply Kept4.of | simp only [Kept.mk_iff] | split | intro _

theorem execAssociationRequest_kept {s0 : State} {x0 : Fin 16} {x1 : Nat} {x2 : Bool} {x3 : State} (h : Kept s0 x3) :
    Outcome.kept s0 (execAssociationRequest x0 x1 x2 x3) := by
  unfold execAssociationRequest
  try dsimp only
  with_reducible repeat' first
    | assumption | apply Outcome.kept_next | apply newTitle_kept | apply admitAssoc_kept | apply macCommand_kept | apply Kept.foldl | apply Kept4.of | simp only [Kept.mk_iff] | split | intro _

theorem execOrphanNotification_kept {s0 : State} {x0 : Fin 16} {x1 : Nat} {x2 : State} (h : Kept s0 x2) :
    Outcome.kept s0 (execOrphanNotification x0 x1 x2) := by
  unfold execOrphanNotification
  try dsimp only
  with_reducible repeat' first
    | assumption | apply Outcome.kept_next | apply macCommand_kept | exact P20.PAN_ID_known | apply Kept.foldl | apply Kept4.of | simp only [Kept.mk_iff] | split | intro _

theorem radioRetire_kept {s0 : State} {x0 : Nat} {x1 : State} (h : Kept s0 x1) :
    Kept s0 (radioRetire x0 x1) := by
  unfold radioRetire
  try dsimp only
  with_reducible repeat' first
    | assumption | apply dropNeigh_kept | apply macCommand_kept | apply Kept.foldl | apply Kept4.of | simp only [Kept.mk_iff] | split | intro _

theorem execShortAddrReleased_kept {s0 : State} {x0 : Fin 16} {x1 : Nat} {x2 : State} (h : Kept s0 x2) :
    Outcome.kept s0 (execShortAddrReleased x0 x1 x2) := by
  unfold execShortAddrReleased
  try dsimp only
  with_reducible repeat' first
    | assumption | apply Outcome.kept_next | apply modChan_kept | apply radCounts_kept | apply logEv_kept | exact P20.ADDR_HOLD_known | apply Kept.foldl | apply Kept4.of | simp only [Kept.mk_iff] | split | intro _

theorem execDataRequest_kept {s0 : State} {x0 : Fin 16} {x1 : Nat} {x2 : State} (h : Kept s0 x2) :
    Outcome.kept s0 (execDataRequest x0 x1 x2) := by
  unfold execDataRequest
  try dsimp only
  with_reducible repeat' first
    | assumption | apply Outcome.kept_next | exact P60.SLEEPY_BLOCKS_known | apply Kept.foldl | apply Kept4.of | simp only [Kept.mk_iff] | split | intro _

theorem execSlotRequest_kept {s0 : State} {x0 : Fin 16} {x1 : SlotIn} {x2 : State} (h : Kept s0 x2) :
    Outcome.kept s0 (execSlotRequest x0 x1 x2) := by
  unfold execSlotRequest
  try dsimp only
  with_reducible repeat' first
    | assumption | apply Outcome.kept_next | apply radCounts_kept | apply slotAnswer_kept | apply modNeigh_kept | exact P20.DRIFT_DEV_known | exact P20.CELL_MS_known | apply Kept.foldl | apply Kept4.of | simp only [Kept.mk_iff] | split | intro _

theorem execSlotRelease_kept {s0 : State} {x0 : Fin 16} {x1 : Nat} {x2 : State} (h : Kept s0 x2) :
    Outcome.kept s0 (execSlotRelease x0 x1 x2) := by
  unfold execSlotRelease
  try dsimp only
  with_reducible repeat' first
    | assumption | apply Outcome.kept_next | apply radCounts_kept | apply modNeigh_kept | apply Kept.foldl | apply Kept4.of | simp only [Kept.mk_iff] | split | intro _

theorem countMiss_kept {s0 : State} {x0 : Neigh} {x1 : State} (h : Kept s0 x1) :
    Kept s0 (countMiss x0 x1) := by
  unfold countMiss
  try dsimp only
  with_reducible repeat' first
    | assumption | apply bumpCh_kept | apply logEv_kept | apply modNeigh_kept | exact P20.MISSED_SLOTS_known | apply Kept.foldl | apply Kept4.of | simp only [Kept.mk_iff] | split | intro _

theorem execSlotMissed_kept {s0 : State} {x0 : Fin 16} {x1 : Nat} {x2 : Nat} {x3 : State} (h : Kept s0 x3) :
    Outcome.kept s0 (execSlotMissed x0 x1 x2 x3) := by
  unfold execSlotMissed
  try dsimp only
  with_reducible repeat' first
    | assumption | apply Outcome.kept_next | apply radCounts_kept | apply modNeigh_kept | apply countMiss_kept | apply Kept.foldl | apply Kept4.of | simp only [Kept.mk_iff] | split | intro _

theorem onTime_kept {s0 : State} {x0 : Nat} {x1 : Nat} {x2 : Int} {x3 : Out} {x4 : State} (h : Kept s0 x4) :
    Kept s0 (onTime x0 x1 x2 x3 x4) := by
  unfold onTime
  try dsimp only
  with_reducible repeat' first
    | assumption | apply bumpCh_kept | apply cutRx_kept | apply airOut_kept | exact P20.PORT_TX_MAX_known | exact P20.RX_CUT_known | apply Kept.foldl | apply Kept4.of | simp only [Kept.mk_iff] | split | intro _

theorem execBeaconTransmit_kept {s0 : State} {x0 : Fin 16} {x1 : Nat} {x2 : State} (h : Kept s0 x2) :
    Outcome.kept s0 (execBeaconTransmit x0 x1 x2) := by
  unfold execBeaconTransmit
  try dsimp only
  with_reducible repeat' first
    | assumption | apply Outcome.kept_next | apply modChan_kept | apply onTime_kept | apply Kept.foldl | apply Kept4.of | simp only [Kept.mk_iff] | split | intro _

theorem execRendezvousSlot_kept {s0 : State} {x0 : Fin 16} {x1 : Nat} {x2 : Nat} {x3 : State} (h : Kept s0 x3) :
    Outcome.kept s0 (execRendezvousSlot x0 x1 x2 x3) := by
  unfold execRendezvousSlot
  try dsimp only
  with_reducible repeat' first
    | assumption | apply Outcome.kept_next | apply modChan_kept | apply onTime_kept | exact P20.NET_ID_known | apply Kept.foldl | apply Kept4.of | simp only [Kept.mk_iff] | split | intro _

theorem modParent_kept {s0 : State} {x0 : Nat} {x1 : Parent → Parent} {x2 : State} (h : Kept s0 x2) :
    Kept s0 (modParent x0 x1 x2) := by
  unfold modParent
  try dsimp only
  with_reducible repeat' first
    | assumption | apply modChan_kept | apply Kept.foldl | apply Kept4.of | simp only [Kept.mk_iff] | split | intro _

theorem execBeaconReceived_kept {s0 : State} {x0 : Fin 16} {x1 : BeaconIn} {x2 : State} (h : Kept s0 x2) :
    Outcome.kept s0 (execBeaconReceived x0 x1 x2) := by
  unfold execBeaconReceived
  try dsimp only
  with_reducible repeat' first
    | assumption | apply Outcome.kept_next | apply wrI_kept | apply modParent_kept | apply logEv_kept | exact P20.DEPTH_known | exact P20.PAN_ID_known | exact P20.STATE_known | exact P20.ORPHAN_HOLD_known | apply Kept.foldl | apply Kept4.of | simp only [Kept.mk_iff] | split | intro _

theorem execRadioParentLost_kept {s0 : State} {x0 : Fin 16} {x1 : State} (h : Kept s0 x1) :
    Outcome.kept s0 (execRadioParentLost x0 x1) := by
  unfold execRadioParentLost
  try dsimp only
  with_reducible repeat' first
    | assumption | apply Outcome.kept_next | apply wrI_kept | apply modParent_kept | apply cancelRelays_kept | apply logEv_kept | exact P20.STATE_known | apply Kept.foldl | apply Kept4.of | simp only [Kept.mk_iff] | split | intro _

theorem queueScan_kept {s0 : State} {x0 : Nat} {x1 : Nat} {x2 : State} (h : Kept s0 x2) :
    Kept s0 (queueScan x0 x1 x2) := by
  unfold queueScan
  try dsimp only
  with_reducible repeat' first
    | assumption | apply queueRadio_kept | apply Kept.foldl | apply Kept4.of | simp only [Kept.mk_iff] | split | intro _

theorem execRadioOrphanScan_kept {s0 : State} {x0 : Fin 16} {x1 : State} (h : Kept s0 x1) :
    Outcome.kept s0 (execRadioOrphanScan x0 x1) := by
  unfold execRadioOrphanScan
  try dsimp only
  with_reducible repeat' first
    | assumption | apply Outcome.kept_next | apply wrI_kept | apply modChan_kept | apply modParent_kept | apply queueScan_kept | apply logEv_kept | exact P20.STATE_known | apply Kept.foldl | apply Kept4.of | simp only [Kept.mk_iff] | split | intro _

theorem execOrphanHoldExpire_kept {s0 : State} {x0 : Fin 16} {x1 : State} (h : Kept s0 x1) :
    Outcome.kept s0 (execOrphanHoldExpire x0 x1) := by
  unfold execOrphanHoldExpire
  try dsimp only
  with_reducible repeat' first
    | assumption | apply Outcome.kept_next | apply wrI_kept | apply modChan_kept | exact P20.STATE_known | exact P20.ORPHAN_HOLD_known | apply Kept.foldl | apply Kept4.of | simp only [Kept.mk_iff] | split | intro _

theorem execRadioJoin_kept {s0 : State} {x0 : Fin 16} {x1 : Option JoinIn} {x2 : State} (h : Kept s0 x2) :
    Outcome.kept s0 (execRadioJoin x0 x1 x2) := by
  unfold execRadioJoin
  try dsimp only
  with_reducible repeat' first
    | assumption | apply Outcome.kept_next | apply wrI_kept | apply modChan_kept | apply queueScan_kept | exact P20.DEPTH_known | exact P20.PAN_ID_known | exact P20.STATE_known | exact P20.NET_ID_known | exact P20.ROLE_known | apply Kept.foldl | apply Kept4.of | simp only [Kept.mk_iff] | split | intro _

theorem execRadioNeighbours_kept {s0 : State} {x0 : Hdr} {x1 : List Byte} {x2 : State} (h : Kept s0 x2) :
    Outcome.kept s0 (execRadioNeighbours x0 x1 x2) := by
  unfold execRadioNeighbours
  try dsimp only
  with_reducible repeat' first
    | assumption | apply Outcome.kept_next | apply runCmd_kept | exact Ans.kept_fail | exact Ans.kept_refuse | apply Ans.kept_done | apply Ans.kept_doneAtBeat | apply Ans.kept_accept | apply Ans.kept_stays | apply Kept.foldl | apply Kept4.of | simp only [Kept.mk_iff] | split | intro _

theorem radioFlush_kept {s0 : State} {x0 : State} (h : Kept s0 x0) :
    Kept s0 (radioFlush x0) := by
  unfold radioFlush
  try dsimp only
  with_reducible repeat' first
    | assumption | apply Kept.foldl | apply Kept4.of | simp only [Kept.mk_iff] | split | intro _

theorem radChanStart_kept {s0 : State} {x0 : Nat} {x1 : State} (h : Kept s0 x1) :
    Kept s0 (radChanStart x0 x1) := by
  unfold radChanStart
  try dsimp only
  with_reducible repeat' first
    | assumption | apply wrI_kept | apply modChan_kept | exact P20.STATE_known | exact P20.EN_known | exact P20.ROLE_known | apply Kept.foldl | apply Kept4.of | simp only [Kept.mk_iff] | split | intro _

theorem radioStart_kept {s0 : State} {x0 : State} (h : Kept s0 x0) :
    Kept s0 (radioStart x0) := by
  unfold radioStart
  try dsimp only
  with_reducible repeat' first
    | assumption | apply radChanStart_kept | apply Kept.foldl | apply Kept4.of | simp only [Kept.mk_iff] | split | intro _

theorem radioStop_kept {s0 : State} {x0 : State} (h : Kept s0 x0) :
    Kept s0 (radioStop x0) := by
  unfold radioStop
  try dsimp only
  with_reducible repeat' first
    | assumption | apply wrI_kept | apply radioFlush_kept | exact P20.STATE_known | exact P20.EN_known | apply Kept.foldl | apply Kept4.of | simp only [Kept.mk_iff] | split | intro _

theorem radioRetain_kept {s0 : State} {x0 : Bool} {x1 : State} (h : Kept s0 x1) :
    Kept s0 (radioRetain x0 x1) := by
  unfold radioRetain
  try dsimp only
  with_reducible repeat' first
    | assumption | apply radioFlush_kept | apply Kept.foldl | apply Kept4.of | simp only [Kept.mk_iff] | split | intro _

end Sys2Proof.Machine
end

