-- ==== Sys2Proof/Laws/Kept/Powerline.lean ====
section
/-! SUPPORT. What the operations of Machine/Powerline.lean keep: the waiting commands, what was sent, the stored tables. -/
namespace Sys2Proof.Machine

theorem startFrame_kept {s0 : State} {x0 : Nat} {x1 : PlcTx} {x2 : State} (h : Kept s0 x2) :
    Kept s0 (startFrame x0 x1 x2) := by
  unfold startFrame
  try dsimp only
  with_reducible repeat' first
    | assumption | apply bumpPh_kept | apply modLink_kept | apply modPhase_kept | apply buildPlc_kept | refine buildPlc_pair (by assumption) ?_ | apply emit_kept | apply count_kept | exact P21.INJ_LEVEL_known | exact P21.TX_FRAMES_known | apply Kept.foldl | apply Kept4.of | simp only [Kept.mk_iff] | split | intro _

theorem tryStart_kept {s0 : State} {x0 : Nat} {x1 : Crossing} {x2 : State} (h : Kept s0 x2) :
    Kept s0 (tryStart x0 x1 x2) := by
  unfold tryStart
  try dsimp only
  with_reducible repeat' first
    | assumption | apply modPhase_kept | apply startFrame_kept | exact P21.MAX_BE_known | exact P21.CS_DB_known | exact P21.MIN_BE_known | apply Kept.foldl | apply Kept4.of | simp only [Kept.mk_iff] | split | intro _

theorem frameEnds_kept {s0 : State} {x0 : Nat} {x1 : PlcTx} {x2 : State} (h : Kept s0 x2) :
    Kept s0 (frameEnds x0 x1 x2) := by
  unfold frameEnds
  try dsimp only
  with_reducible repeat' first
    | assumption | apply modPhase_kept | apply noteSent_kept | apply Kept.foldl | apply Kept4.of | simp only [Kept.mk_iff] | split | intro _

theorem lineCycle_kept {s0 : State} {x0 : Nat} {x1 : State} (h : Kept s0 x1) :
    Kept s0 (lineCycle x0 x1) := by
  unfold lineCycle
  try dsimp only
  with_reducible repeat' first
    | assumption | apply modPhase_kept | apply frameEnds_kept | apply Kept.foldl | apply Kept4.of | simp only [Kept.mk_iff] | split | intro _

theorem injHits_kept {s0 : State} {x0 : Nat} {x1 : List Nat} {x2 : State} (h : Kept s0 x2) :
    Kept s0 (injHits x0 x1 x2) := by
  unfold injHits
  try dsimp only
  with_reducible repeat' first
    | assumption | apply modPhase_kept | apply logEv_kept | apply bumpI_kept | exact P21.INJ_CEIL_HITS_known | apply Kept.foldl | apply Kept4.of | simp only [Kept.mk_iff] | split | intro _

theorem cycleWork_kept {s0 : State} {x0 : Nat} {x1 : Crossing} {x2 : State} (h : Kept s0 x2) :
    Kept s0 (cycleWork x0 x1 x2) := by
  unfold cycleWork
  try dsimp only
  with_reducible repeat' first
    | assumption | apply injHits_kept | apply tryStart_kept | apply lineCycle_kept | apply Kept.foldl | apply Kept4.of | simp only [Kept.mk_iff] | split | intro _

theorem countCrossing_kept {s0 : State} {x0 : Nat} {x1 : State} (h : Kept s0 x1) :
    Kept s0 (countCrossing x0 x1) := by
  unfold countCrossing
  try dsimp only
  with_reducible repeat' first
    | assumption | apply Kept.foldl | apply Kept4.of | simp only [Kept.mk_iff] | split | intro _

theorem stampCrossing_kept {s0 : State} {x0 : Nat} {x1 : Int} {x2 : Crossing} {x3 : State} (h : Kept s0 x3) :
    Kept s0 (stampCrossing x0 x1 x2 x3) := by
  unfold stampCrossing
  try dsimp only
  with_reducible repeat' first
    | assumption | apply refCrossing_kept | apply Kept.foldl | apply Kept4.of | simp only [Kept.mk_iff] | split | intro _

theorem zcFields_kept {s0 : State} {x0 : State} (h : Kept s0 x0) :
    Kept s0 (zcFields x0) := by
  unfold zcFields
  try dsimp only
  with_reducible repeat' first
    | assumption | apply wr_kept | exact P13.ZC_METRO_known | apply Kept.foldl | apply Kept4.of | simp only [Kept.mk_iff] | split | intro _

theorem lapseRefs_kept {s0 : State} {x0 : State} (h : Kept s0 x0) :
    Kept s0 (lapseRefs x0) := by
  unfold lapseRefs
  try dsimp only
  with_reducible repeat' first
    | assumption | apply mapRefs_kept | apply Kept.foldl | apply Kept4.of | simp only [Kept.mk_iff] | split | intro _

theorem periodField_kept {s0 : State} {x0 : Nat} {x1 : State} (h : Kept s0 x1) :
    Kept s0 (periodField x0 x1) := by
  unfold periodField
  try dsimp only
  with_reducible repeat' first
    | assumption | apply wrPh_kept | exact P21.MAINS_PERIOD_known | apply Kept.foldl | apply Kept4.of | simp only [Kept.mk_iff] | split | intro _

theorem advertise_kept {s0 : State} {x0 : Nat} {x1 : State} (h : Kept s0 x1) :
    Kept s0 (advertise x0 x1) := by
  unfold advertise
  try dsimp only
  with_reducible repeat' first
    | assumption | apply modPhase_kept | apply queuePlc_kept | exact P21.REG_PERIOD_known | apply Kept.foldl | apply Kept4.of | simp only [Kept.mk_iff] | split | intro _

theorem candidate_kept {s0 : State} {x0 : Nat} {x1 : Int} {x2 : State} (h : Kept s0 x2) :
    Kept s0 (candidate x0 x1 x2) := by
  unfold candidate
  try dsimp only
  with_reducible repeat' first
    | assumption | apply wrPh_kept | apply modPhase_kept | apply advertise_kept | apply logEv_kept | exact P21.STATE_known | apply Kept.foldl | apply Kept4.of | simp only [Kept.mk_iff] | split | intro _

theorem execZeroCrossing_kept {s0 : State} {x0 : Fin 3} {x1 : Nat} {x2 : Crossing} {x3 : State} (h : Kept s0 x3) :
    Outcome.kept s0 (execZeroCrossing x0 x1 x2 x3) := by
  unfold execZeroCrossing
  try dsimp only
  with_reducible repeat' first
    | assumption | apply Outcome.kept_next | apply periodField_kept | apply modPhase_kept | apply candidate_kept | apply stampCrossing_kept | apply cycleWork_kept | apply zcFields_kept | apply countCrossing_kept | exact P21.ZC_DEGLITCH_known | exact P21.STATE_known | exact P21.ZC_WINDOW_known | exact P21.ZC_ADJ_known | apply Kept.foldl | apply Kept4.of | simp only [Kept.mk_iff] | split | intro _

theorem zcLost_kept {s0 : State} {x0 : Nat} {x1 : State} (h : Kept s0 x1) :
    Kept s0 (zcLost x0 x1) := by
  unfold zcLost
  try dsimp only
  with_reducible repeat' first
    | assumption | apply wrPh_kept | apply modPhase_kept | apply logEv_kept | apply requeueFront_kept | exact P21.STATE_known | apply Kept.foldl | apply Kept4.of | simp only [Kept.mk_iff] | split | intro _

theorem execFlywheelCycle_kept {s0 : State} {x0 : Fin 3} {x1 : Crossing} {x2 : State} (h : Kept s0 x2) :
    Outcome.kept s0 (execFlywheelCycle x0 x1 x2) := by
  unfold execFlywheelCycle
  try dsimp only
  with_reducible repeat' first
    | assumption | apply Outcome.kept_next | apply bumpPh_kept | apply modPhase_kept | apply zcLost_kept | apply cycleWork_kept | apply countCrossing_kept | exact P21.STATE_known | exact P21.ZC_WINDOW_known | exact P21.ZC_FLY_known | exact P21.ZC_FLYWHEEL_known | apply Kept.foldl | apply Kept4.of | simp only [Kept.mk_iff] | split | intro _

theorem queueToneMap_kept {s0 : State} {x0 : Nat} {x1 : Nat} {x2 : Nat} {x3 : State} (h : Kept s0 x3) :
    Kept s0 (queueToneMap x0 x1 x2 x3) := by
  unfold queueToneMap
  try dsimp only
  with_reducible repeat' first
    | assumption | apply queuePlc_kept | apply Kept.foldl | apply Kept4.of | simp only [Kept.mk_iff] | split | intro _

theorem execPlcHeaderDecoded_kept {s0 : State} {x0 : Fin 3} {x1 : List (Option Nat)} {x2 : Int} {x3 : Int} {x4 : State} (h : Kept s0 x4) :
    Outcome.kept s0 (execPlcHeaderDecoded x0 x1 x2 x3 x4) := by
  unfold execPlcHeaderDecoded
  try dsimp only
  with_reducible repeat' first
    | assumption | apply Outcome.kept_next | apply bumpPh_kept | apply modPhase_kept | exact P21.ACK_WITHHELD_known | exact P21.RX_MISALIGNED_known | exact P21.ZC_TOL_known | apply Kept.foldl | apply Kept4.of | simp only [Kept.mk_iff] | split | intro _

theorem countFailure_kept {s0 : State} {x0 : Nat} {x1 : Nat} {x2 : Nat} {x3 : State} (h : Kept s0 x3) :
    Kept s0 (countFailure x0 x1 x2 x3) := by
  unfold countFailure
  try dsimp only
  with_reducible repeat' first
    | assumption | apply bumpPh_kept | apply modLink_kept | apply logEv_kept | exact P21.BLANKS_PROPOSED_known | apply Kept.foldl | apply Kept4.of | simp only [Kept.mk_iff] | split | intro _

theorem markImpulses_kept {s0 : State} {x0 : Nat} {x1 : Nat} {x2 : List Nat} {x3 : State} (h : Kept s0 x3) :
    Kept s0 (markImpulses x0 x1 x2 x3) := by
  unfold markImpulses
  try dsimp only
  with_reducible repeat' first
    | assumption | apply modLink_kept | apply Kept.foldl | apply Kept4.of | simp only [Kept.mk_iff] | split | intro _

theorem queueLinkAck_kept {s0 : State} {x0 : Nat} {x1 : PlcRx} {x2 : Option ToneMap} {x3 : State} (h : Kept s0 x3) :
    Kept s0 (queueLinkAck x0 x1 x2 x3) := by
  unfold queueLinkAck
  try dsimp only
  with_reducible repeat' first
    | assumption | apply queuePlc_kept | apply Kept.foldl | apply Kept4.of | simp only [Kept.mk_iff] | split | intro _

theorem plcData_kept {s0 : State} {x0 : Nat} {x1 : PlcRx} {x2 : Mesh} {x3 : State} (h : Kept s0 x3) :
    Kept s0 (plcData x0 x1 x2 x3) := by
  unfold plcData
  try dsimp only
  with_reducible repeat' first
    | assumption | apply bumpPh_kept | refine putItem_kept ?_ (by assumption) | exact P21.RX_CRC_FAIL_known | apply Kept.getD | apply Kept.foldl | apply Kept4.of | simp only [Kept.mk_iff] | split | intro _

theorem toneMapFrame_kept {s0 : State} {x0 : Nat} {x1 : PlcRx} {x2 : Mesh} {x3 : State} (h : Kept s0 x3) :
    Kept s0 (toneMapFrame x0 x1 x2 x3) := by
  unfold toneMapFrame
  try dsimp only
  with_reducible repeat' first
    | assumption | apply modLink_kept | apply queueToneMap_kept | apply Kept.foldl | apply Kept4.of | simp only [Kept.mk_iff] | split | intro _

theorem joinResponse_kept {s0 : State} {x0 : Nat} {x1 : Nat} {x2 : Nat} {x3 : Nat} {x4 : PlcRx} {x5 : Mesh} {x6 : State} (h : Kept s0 x6) :
    Kept s0 (joinResponse x0 x1 x2 x3 x4 x5 x6) := by
  unfold joinResponse
  try dsimp only
  with_reducible repeat' first
    | assumption | apply queuePlc_kept | apply Kept.foldl | apply Kept4.of | simp only [Kept.mk_iff] | split | intro _

theorem joinRequest_kept {s0 : State} {x0 : Nat} {x1 : PlcRx} {x2 : Mesh} {x3 : State} (h : Kept s0 x3) :
    Kept s0 (joinRequest x0 x1 x2 x3) := by
  unfold joinRequest
  try dsimp only
  with_reducible repeat' first
    | assumption | apply joinCount_kept | apply joinResponse_kept | apply newTitle_kept | apply modPhase_kept | apply Kept.foldl | apply Kept4.of | simp only [Kept.mk_iff] | split | intro _

theorem routeRegistration_kept {s0 : State} {x0 : Nat} {x1 : Mesh} {x2 : State} (h : Kept s0 x2) :
    Kept s0 (routeRegistration x0 x1 x2) := by
  unfold routeRegistration
  try dsimp only
  with_reducible repeat' first
    | assumption | apply modPhase_kept | apply Kept.foldl | apply Kept4.of | simp only [Kept.mk_iff] | split | intro _

theorem routeError_kept {s0 : State} {x0 : Nat} {x1 : Mesh} {x2 : State} (h : Kept s0 x2) :
    Kept s0 (routeError x0 x1 x2) := by
  unfold routeError
  try dsimp only
  with_reducible repeat' first
    | assumption | apply breakRoute_kept | apply rerouted_kept | apply Kept.foldl | apply Kept4.of | simp only [Kept.mk_iff] | split | intro _

theorem plcType_kept {s0 : State} {x0 : Nat} {x1 : Nat} {x2 : PlcRx} {x3 : Mesh} {x4 : State} (h : Kept s0 x4) :
    Kept s0 (plcType x0 x1 x2 x3 x4) := by
  unfold plcType
  try dsimp only
  with_reducible repeat' first
    | assumption | apply toneMapFrame_kept | apply routeError_kept | apply joinRequest_kept | apply routeRegistration_kept | apply plcData_kept | apply Kept.foldl | apply Kept4.of | simp only [Kept.mk_iff] | split | intro _

theorem linkAckIn_kept {s0 : State} {x0 : Nat} {x1 : PlcRx} {x2 : State} (h : Kept s0 x2) :
    Kept s0 (linkAckIn x0 x1 x2) := by
  unfold linkAckIn
  try dsimp only
  with_reducible repeat' first
    | assumption | apply modLink_kept | apply modPhase_kept | apply queueToneMap_kept | apply Kept.foldl | apply Kept4.of | simp only [Kept.mk_iff] | split | intro _

theorem plcChecked_kept {s0 : State} {x0 : Nat} {x1 : Nat} {x2 : List Byte} {x3 : PlcRx} {x4 : State} (h : Kept s0 x4) :
    Kept s0 (plcChecked x0 x1 x2 x3 x4) := by
  unfold plcChecked
  try dsimp only
  with_reducible repeat' first
    | assumption | apply queueLinkAck_kept | apply bumpPh_kept | apply modLink_kept | apply modPhase_kept | apply plcType_kept | exact P21.RX_CRC_FAIL_known | apply Kept.foldl | apply Kept4.of | simp only [Kept.mk_iff] | split | intro _

theorem heardPlc_kept {s0 : State} {x0 : Nat} {x1 : State} (h : Kept s0 x1) :
    Kept s0 (heardPlc x0 x1) := by
  unfold heardPlc
  try dsimp only
  with_reducible repeat' first
    | assumption | apply bumpPh_kept | apply count_kept | exact P21.RX_FRAMES_known | apply Kept.foldl | apply Kept4.of | simp only [Kept.mk_iff] | split | intro _

theorem execPlcFrameReceived_kept {s0 : State} {x0 : Fin 3} {x1 : PlcHeard} {x2 : State} (h : Kept s0 x2) :
    Outcome.kept s0 (execPlcFrameReceived x0 x1 x2) := by
  unfold execPlcFrameReceived
  try dsimp only
  with_reducible repeat' first
    | assumption | apply Outcome.kept_next | apply bumpPh_kept | apply plcChecked_kept | apply modPhase_kept | apply heardPlc_kept | apply queueToneMap_kept | apply markImpulses_kept | apply linkAckIn_kept | apply countFailure_kept | exact P21.RX_CRC_FAIL_known | exact P21.RX_RECOVERED_known | apply Kept.foldl | apply Kept4.of | simp only [Kept.mk_iff] | split | intro _

theorem execPlcLinkAckTimeout_kept {s0 : State} {x0 : Fin 3} {x1 : State} (h : Kept s0 x1) :
    Outcome.kept s0 (execPlcLinkAckTimeout x0 x1) := by
  unfold execPlcLinkAckTimeout
  try dsimp only
  with_reducible repeat' first
    | assumption | apply Outcome.kept_next | apply bumpPh_kept | apply modLink_kept | apply modPhase_kept | apply requeueFront_kept | apply rerouted_kept | exact P21.LINK_FAILS_known | exact P21.LINK_RETRIES_known | apply Kept.foldl | apply Kept4.of | simp only [Kept.mk_iff] | split | intro _

theorem linkPeriod_kept {s0 : State} {x0 : Nat} {x1 : List ToneMeas} {x2 : PlcLink} {x3 : State} (h : Kept s0 x3) :
    Kept s0 (linkPeriod x0 x1 x2 x3) := by
  unfold linkPeriod
  try dsimp only
  with_reducible repeat' first
    | assumption | apply modLink_kept | apply queueToneMap_kept | apply Kept.foldl | apply Kept4.of | simp only [Kept.mk_iff] | split | intro _

theorem execTmPeriodBoundary_kept {s0 : State} {x0 : Fin 3} {x1 : List ToneMeas} {x2 : State} (h : Kept s0 x2) :
    Outcome.kept s0 (execTmPeriodBoundary x0 x1 x2) := by
  unfold execTmPeriodBoundary
  try dsimp only
  with_reducible repeat' first
    | assumption | apply Outcome.kept_next | apply modPhase_kept | apply linkPeriod_kept | exact P21.TM_PERIOD_known | apply Kept.foldl | apply Kept4.of | simp only [Kept.mk_iff] | split | intro _

theorem execTmBlankHoldExpire_kept {s0 : State} {x0 : Fin 3} {x1 : Nat} {x2 : Fin 8} {x3 : State} (h : Kept s0 x3) :
    Outcome.kept s0 (execTmBlankHoldExpire x0 x1 x2 x3) := by
  unfold execTmBlankHoldExpire
  try dsimp only
  with_reducible repeat' first
    | assumption | apply Outcome.kept_next | apply modLink_kept | exact P21.TM_BLANK_HOLD_known | apply Kept.foldl | apply Kept4.of | simp only [Kept.mk_iff] | split | intro _

theorem execRouteAdvertisement_kept {s0 : State} {x0 : Fin 3} {x1 : State} (h : Kept s0 x1) :
    Outcome.kept s0 (execRouteAdvertisement x0 x1) := by
  unfold execRouteAdvertisement
  try dsimp only
  with_reducible repeat' first
    | assumption | apply Outcome.kept_next | apply advertise_kept | exact P21.ADV_PERIOD_known | apply Kept.foldl | apply Kept4.of | simp only [Kept.mk_iff] | split | intro _

theorem execRouteAgeExpire_kept {s0 : State} {x0 : Fin 3} {x1 : Nat} {x2 : State} (h : Kept s0 x2) :
    Outcome.kept s0 (execRouteAgeExpire x0 x1 x2) := by
  unfold execRouteAgeExpire
  try dsimp only
  with_reducible repeat' first
    | assumption | apply Outcome.kept_next | apply modRoute_kept | exact P21.ROUTE_AGE_known | apply Kept.foldl | apply Kept4.of | simp only [Kept.mk_iff] | split | intro _

theorem execPlcAddrHoldExpire_kept {s0 : State} {x0 : Fin 3} {x1 : Nat} {x2 : State} (h : Kept s0 x2) :
    Outcome.kept s0 (execPlcAddrHoldExpire x0 x1 x2) := by
  unfold execPlcAddrHoldExpire
  try dsimp only
  with_reducible repeat' first
    | assumption | apply Outcome.kept_next | apply modPhase_kept | exact P21.ADDR_HOLD_known | apply Kept.foldl | apply Kept4.of | simp only [Kept.mk_iff] | split | intro _

theorem plcRetire_kept {s0 : State} {x0 : Nat} {x1 : State} (h : Kept s0 x1) :
    Kept s0 (plcRetire x0 x1) := by
  unfold plcRetire
  try dsimp only
  with_reducible repeat' first
    | assumption | apply joinCount_kept | apply modPhase_kept | apply Kept.foldl | apply Kept4.of | simp only [Kept.mk_iff] | split | intro _

theorem execTxAbortImpedance_kept {s0 : State} {x0 : Fin 3} {x1 : State} (h : Kept s0 x1) :
    Outcome.kept s0 (execTxAbortImpedance x0 x1) := by
  unfold execTxAbortImpedance
  try dsimp only
  with_reducible repeat' first
    | assumption | apply Outcome.kept_next | apply wrPh_kept | apply bumpPh_kept | apply modPhase_kept | apply logEv_kept | apply drawn_kept | apply requeueFront_kept | exact P21.STATE_known | exact P21.TRIP_LIMIT_known | exact P21.TX_ABORTS_known | apply Kept.foldl | apply Kept4.of | simp only [Kept.mk_iff] | split | intro _

theorem execTripRetryExpire_kept {s0 : State} {x0 : Fin 3} {x1 : State} (h : Kept s0 x1) :
    Outcome.kept s0 (execTripRetryExpire x0 x1) := by
  unfold execTripRetryExpire
  try dsimp only
  with_reducible repeat' first
    | assumption | apply Outcome.kept_next | apply modPhase_kept | apply Kept.foldl | apply Kept4.of | simp only [Kept.mk_iff] | split | intro _

theorem execTripBackoffExpire_kept {s0 : State} {x0 : Fin 3} {x1 : State} (h : Kept s0 x1) :
    Outcome.kept s0 (execTripBackoffExpire x0 x1) := by
  unfold execTripBackoffExpire
  try dsimp only
  with_reducible repeat' first
    | assumption | apply Outcome.kept_next | apply wrPh_kept | apply modPhase_kept | exact P21.STATE_known | exact P21.TRIP_BACKOFF_known | apply Kept.foldl | apply Kept4.of | simp only [Kept.mk_iff] | split | intro _

theorem execPlcRoutes_kept {s0 : State} {x0 : Hdr} {x1 : List Byte} {x2 : State} (h : Kept s0 x2) :
    Outcome.kept s0 (execPlcRoutes x0 x1 x2) := by
  unfold execPlcRoutes
  try dsimp only
  with_reducible repeat' first
    | assumption | apply Outcome.kept_next | apply runCmd_kept | exact Ans.kept_fail | exact Ans.kept_refuse | apply Ans.kept_done | apply Ans.kept_doneAtBeat | apply Ans.kept_accept | apply Ans.kept_stays | apply Kept.foldl | apply Kept4.of | simp only [Kept.mk_iff] | split | intro _

theorem plcFlush_kept {s0 : State} {x0 : State} (h : Kept s0 x0) :
    Kept s0 (plcFlush x0) := by
  unfold plcFlush
  try dsimp only
  with_reducible repeat' first
    | assumption | apply Kept.foldl | apply Kept4.of | simp only [Kept.mk_iff] | split | intro _

theorem plcPhaseStart_kept {s0 : State} {x0 : Nat} {x1 : State} (h : Kept s0 x1) :
    Kept s0 (plcPhaseStart x0 x1) := by
  unfold plcPhaseStart
  try dsimp only
  with_reducible repeat' first
    | assumption | apply wrPh_kept | apply periodField_kept | apply modPhase_kept | exact P21.STATE_known | exact P21.EN_known | apply Kept.foldl | apply Kept4.of | simp only [Kept.mk_iff] | split | intro _

theorem plcStart_kept {s0 : State} {x0 : State} (h : Kept s0 x0) :
    Kept s0 (plcStart x0) := by
  unfold plcStart
  try dsimp only
  with_reducible repeat' first
    | assumption | apply plcPhaseStart_kept | apply Kept.foldl | apply Kept4.of | simp only [Kept.mk_iff] | split | intro _

theorem plcStop_kept {s0 : State} {x0 : State} (h : Kept s0 x0) :
    Kept s0 (plcStop x0) := by
  unfold plcStop
  try dsimp only
  with_reducible repeat' first
    | assumption | apply wrPh_kept | apply plcFlush_kept | exact P21.STATE_known | exact P21.EN_known | apply Kept.foldl | apply Kept4.of | simp only [Kept.mk_iff] | split | intro _

theorem plcRetain_kept {s0 : State} {x0 : Bool} {x1 : State} (h : Kept s0 x1) :
    Kept s0 (plcRetain x0 x1) := by
  unfold plcRetain
  try dsimp only
  with_reducible repeat' first
    | assumption | apply plcFlush_kept | apply Kept.foldl | apply Kept4.of | simp only [Kept.mk_iff] | split | intro _

end Sys2Proof.Machine
end

