-- ==== Sys2Proof/Laws/Kept/RadioSend.lean ====
section
/-! SUPPORT. What the operations of Machine/RadioSend.lean keep: the waiting commands, what was sent, the stored tables. -/
namespace Sys2Proof.Machine

theorem originate_kept {s0 : State} {x0 : RadTx} {x1 : State} (h : Kept s0 x1) :
    Kept s0 (originate x0 x1) := by
  unfold originate
  try dsimp only
  with_reducible repeat' first
    | assumption | apply bump_kept | refine seenInsert_kept ?_ (by assumption) | exact P20.SEEN_HOLD_known | exact P20.SEEN_FULL_known | apply Kept.getD | apply Kept.foldl | apply Kept4.of | simp only [Kept.mk_iff] | split | intro _

theorem retryOrDrop_kept {s0 : State} {x0 : RadTx} {x1 : State} (h : Kept s0 x1) :
    Kept s0 (retryOrDrop x0 x1) := by
  unfold retryOrDrop
  try dsimp only
  with_reducible repeat' first
    | assumption | exact P20.MAX_RETRIES_known | apply Kept.foldl | apply Kept4.of | simp only [Kept.mk_iff] | split | intro _

theorem goOnAir_kept {s0 : State} {x0 : RadTx} {x1 : Nat} {x2 : State} (h : Kept s0 x2) :
    Kept s0 (goOnAir x0 x1 x2) := by
  unfold goOnAir
  try dsimp only
  with_reducible repeat' first
    | assumption | apply modChan_kept | apply noteSent_kept | apply originate_kept | apply airOut_kept | apply Kept.foldl | apply Kept4.of | simp only [Kept.mk_iff] | split | intro _

theorem execRadioTransmit_kept {s0 : State} {x0 : Fin 16} {x1 : Nat} {x2 : Access} {x3 : State} (h : Kept s0 x3) :
    Outcome.kept s0 (execRadioTransmit x0 x1 x2 x3) := by
  unfold execRadioTransmit
  try dsimp only
  with_reducible repeat' first
    | assumption | apply Outcome.kept_next | apply goOnAir_kept | apply bumpCh_kept | apply retryOrDrop_kept | exact P20.PORT_TX_MAX_known | exact P20.CCA_FAIL_known | apply Kept.foldl | apply Kept4.of | simp only [Kept.mk_iff] | split | intro _

theorem execEnhAckWaitExpire_kept {s0 : State} {x0 : Fin 16} {x1 : State} (h : Kept s0 x1) :
    Outcome.kept s0 (execEnhAckWaitExpire x0 x1) := by
  unfold execEnhAckWaitExpire
  try dsimp only
  with_reducible repeat' first
    | assumption | apply Outcome.kept_next | apply modChan_kept | apply retryOrDrop_kept | apply Kept.foldl | apply Kept4.of | simp only [Kept.mk_iff] | split | intro _

end Sys2Proof.Machine
end

