-- ==== Sys2Proof/Laws/Kept/Settings.lean ====
section
/-! SUPPORT. What the operations of Machine/Settings.lean keep: the waiting commands, what was sent, the stored tables. -/
namespace Sys2Proof.Machine

theorem radChanStop_kept {s0 : State} {x0 : Nat} {x1 : State} (h : Kept s0 x1) :
    Kept s0 (radChanStop x0 x1) := by
  unfold radChanStop
  try dsimp only
  with_reducible repeat' first
    | assumption | apply wrI_kept | apply modChan_kept | exact P20.STATE_known | apply Kept.foldl | apply Kept4.of | simp only [Kept.mk_iff] | split | intro _

theorem plcPhaseStop_kept {s0 : State} {x0 : Nat} {x1 : State} (h : Kept s0 x1) :
    Kept s0 (plcPhaseStop x0 x1) := by
  unfold plcPhaseStop
  try dsimp only
  with_reducible repeat' first
    | assumption | apply wrPh_kept | apply modPhase_kept | apply requeueFront_kept | exact P21.STATE_known | apply Kept.foldl | apply Kept4.of | simp only [Kept.mk_iff] | split | intro _

theorem powerSubsystems_kept {s0 : State} {x0 : State} {x1 : State} (h : Kept s0 x1) :
    Kept s0 (powerSubsystems x0 x1) := by
  unfold powerSubsystems
  try dsimp only
  with_reducible repeat' first
    | assumption | apply radioStart_kept | apply plcStart_kept | apply startBoth_kept | apply radioStop_kept | apply raiseCap_kept | apply plcStop_kept | apply Kept.foldl | apply Kept4.of | simp only [Kept.mk_iff] | split | intro _

theorem legalRecords_kept {s0 : State} {x0 : PWrite} {x1 : State} {x2 : State} (h : Kept s0 x2) :
    Kept s0 (legalRecords x0 x1 x2) := by
  unfold legalRecords
  try dsimp only
  with_reducible repeat' first
    | assumption | apply legalLog_kept | apply wr_kept | exact P30.LEGAL_KEY_SET_known | exact P30.SEAL_CAL_known | exact P30.LEGAL_KEY_known | exact P60.LEGAL_UPD_MODE_known | apply Kept.foldl | apply Kept4.of | simp only [Kept.mk_iff] | split | intro _

theorem beforeWrite_kept {s0 : State} {x0 : PWrite} {x1 : State} (h : Kept s0 x1) :
    Kept s0 (beforeWrite x0 x1) := by
  unfold beforeWrite
  try dsimp only
  with_reducible repeat' first
    | assumption | apply catchUpNow_kept | apply demandClose_kept | exact P30.DEMAND_SUBS_known | exact P30.DEMAND_METHOD_known | exact P30.DEMAND_PERIOD_known | apply Kept.foldl | apply Kept4.of | simp only [Kept.mk_iff] | split | intro _

theorem calendarWrite_kept {s0 : State} {x0 : PWrite} {x1 : State} {x2 : State} (h : Kept s0 x2) :
    Kept s0 (calendarWrite x0 x1 x2) := by
  unfold calendarWrite
  try dsimp only
  with_reducible repeat' first
    | assumption | apply localChange_kept | apply modCore_kept | exact P31.CLOSE_HOUR_known | exact P31.CLOSE_DAY_known | exact P31.CLOSE_MIN_known | apply Kept.foldl | apply Kept4.of | simp only [Kept.mk_iff] | split | intro _

theorem counterWrite_kept {s0 : State} {x0 : PWrite} {x1 : State} {x2 : State} (h : Kept s0 x2) :
    Kept s0 (counterWrite x0 x1 x2) := by
  unfold counterWrite
  try dsimp only
  with_reducible repeat' first
    | assumption | apply wr_kept | apply setPc_kept | exact cfgFld_known _ | apply Kept.foldl | apply Kept4.of | simp only [Kept.mk_iff] | split | intro _

theorem afterWrite_kept {s0 : State} {x0 : PWrite} {x1 : State} {x2 : State} (h : Kept s0 x2) :
    Kept s0 (afterWrite x0 x1 x2) := by
  unfold afterWrite
  try dsimp only
  with_reducible repeat' first
    | assumption | apply plcPhaseStop_kept | apply calendarWrite_kept | apply counterWrite_kept | apply powerSubsystems_kept | apply driveOutputs_kept | apply plcPhaseStart_kept | apply radChanStart_kept | apply radChanStop_kept | exact P21.EN_known | exact P20.EN_known | apply Kept.foldl | apply Kept4.of | simp only [Kept.mk_iff] | split | intro _

theorem applyWrite_kept {s0 : State} {x0 : PWrite} {x1 : State} (h : Kept s0 x1) :
    Kept s0 (applyWrite x0 x1) := by
  unfold applyWrite
  try dsimp only
  with_reducible repeat' first
    | assumption | apply legalRecords_kept | apply writePage_kept | apply beforeWrite_kept | apply afterWrite_kept | apply Kept.foldl | apply Kept4.of | simp only [Kept.mk_iff] | split | intro _

theorem effSetParam_kept {s0 : State} {x0 : Eff} {x1 : State} (h : Kept s0 x1) :
    Kept s0 (effSetParam x0 x1) := by
  unfold effSetParam
  try dsimp only
  with_reducible repeat' first
    | assumption | apply applyWrite_kept | apply wr_kept | exact P30.AUTH_COUNT_known | apply Kept.foldl | apply Kept4.of | simp only [Kept.mk_iff] | split | intro _

theorem effRestoreDefaults_kept {s0 : State} {x0 : Eff} {x1 : State} (h : Kept s0 x1) :
    Kept s0 (effRestoreDefaults x0 x1) := by
  unfold effRestoreDefaults
  try dsimp only
  with_reducible repeat' first
    | assumption | apply applyWrite_kept | apply Kept.foldl | apply Kept4.of | simp only [Kept.mk_iff] | split | intro _

theorem setParamBody_kept {s0 : State} {x0 : Hdr} {x1 : List Byte} {x2 : Bool} {x3 : State} (h : Kept s0 x3) :
    Ans.kept s0 (setParamBody x0 x1 x2 x3) := by
  unfold setParamBody
  try dsimp only
  with_reducible repeat' first
    | assumption | exact Ans.kept_fail | exact Ans.kept_refuse | apply Ans.kept_done | apply Ans.kept_doneAtBeat | apply Ans.kept_accept | apply Ans.kept_stays | apply Kept.foldl | apply Kept4.of | simp only [Kept.mk_iff] | split | intro _

theorem paramCmd_kept {s0 : State} {x0 : Hdr} {x1 : List Byte} {x2 : Bool} {x3 : State} (h : Kept s0 x3) :
    Kept s0 (paramCmd x0 x1 x2 x3) := by
  unfold paramCmd
  try dsimp only
  with_reducible repeat' first
    | assumption | apply runCmd_kept | apply setParamBody_kept | exact Ans.kept_fail | exact Ans.kept_refuse | apply Ans.kept_done | apply Ans.kept_doneAtBeat | apply Ans.kept_accept | apply Ans.kept_stays | apply Kept.foldl | apply Kept4.of | simp only [Kept.mk_iff] | split | intro _

theorem execSetParam_kept {s0 : State} {x0 : Hdr} {x1 : List Byte} {x2 : Bool} {x3 : State} (h : Kept s0 x3) :
    Outcome.kept s0 (execSetParam x0 x1 x2 x3) := by
  unfold execSetParam
  try dsimp only
  with_reducible repeat' first
    | assumption | apply Outcome.kept_next | apply paramCmd_kept | apply Kept.foldl | apply Kept4.of | simp only [Kept.mk_iff] | split | intro _

theorem pageRead_kept {s0 : State} {x0 : List Byte} {x1 : State → Nat → Nat → Nat} {x2 : State} (h : Kept s0 x2) :
    Ans.kept s0 (pageRead x0 x1 x2) := by
  unfold pageRead
  try dsimp only
  with_reducible repeat' first
    | assumption | exact Ans.kept_fail | exact Ans.kept_refuse | apply Ans.kept_done | apply Ans.kept_doneAtBeat | apply Ans.kept_accept | apply Ans.kept_stays | apply Kept.foldl | apply Kept4.of | simp only [Kept.mk_iff] | split | intro _

theorem execGetParam_kept {s0 : State} {x0 : Hdr} {x1 : List Byte} {x2 : State} (h : Kept s0 x2) :
    Outcome.kept s0 (execGetParam x0 x1 x2) := by
  unfold execGetParam
  try dsimp only
  with_reducible repeat' first
    | assumption | apply Outcome.kept_next | apply pageRead_kept | apply runCmd_kept | exact Ans.kept_fail | exact Ans.kept_refuse | apply Ans.kept_done | apply Ans.kept_doneAtBeat | apply Ans.kept_accept | apply Ans.kept_stays | apply Kept.foldl | apply Kept4.of | simp only [Kept.mk_iff] | split | intro _

theorem execGetParamDefaults_kept {s0 : State} {x0 : Hdr} {x1 : List Byte} {x2 : State} (h : Kept s0 x2) :
    Outcome.kept s0 (execGetParamDefaults x0 x1 x2) := by
  unfold execGetParamDefaults
  try dsimp only
  with_reducible repeat' first
    | assumption | apply Outcome.kept_next | apply pageRead_kept | apply runCmd_kept | exact Ans.kept_fail | exact Ans.kept_refuse | apply Ans.kept_done | apply Ans.kept_doneAtBeat | apply Ans.kept_accept | apply Ans.kept_stays | apply Kept.foldl | apply Kept4.of | simp only [Kept.mk_iff] | split | intro _

theorem restoreBody_kept {s0 : State} {x0 : Hdr} {x1 : List Byte} {x2 : State} (h : Kept s0 x2) :
    Ans.kept s0 (restoreBody x0 x1 x2) := by
  unfold restoreBody
  try dsimp only
  with_reducible repeat' first
    | assumption | exact Ans.kept_fail | exact Ans.kept_refuse | apply Ans.kept_done | apply Ans.kept_doneAtBeat | apply Ans.kept_accept | apply Ans.kept_stays | apply Kept.foldl | apply Kept4.of | simp only [Kept.mk_iff] | split | intro _

theorem execRestoreDefaults_kept {s0 : State} {x0 : Hdr} {x1 : List Byte} {x2 : State} (h : Kept s0 x2) :
    Outcome.kept s0 (execRestoreDefaults x0 x1 x2) := by
  unfold execRestoreDefaults
  try dsimp only
  with_reducible repeat' first
    | assumption | apply Outcome.kept_next | apply runCmd_kept | apply restoreBody_kept | exact Ans.kept_fail | exact Ans.kept_refuse | apply Ans.kept_done | apply Ans.kept_doneAtBeat | apply Ans.kept_accept | apply Ans.kept_stays | apply Kept.foldl | apply Kept4.of | simp only [Kept.mk_iff] | split | intro _

theorem execRoleWrite_kept {s0 : State} {x0 : Hdr} {x1 : Nat} {x2 : State} (h : Kept s0 x2) :
    Outcome.kept s0 (execRoleWrite x0 x1 x2) := by
  unfold execRoleWrite
  try dsimp only
  with_reducible repeat' first
    | assumption | apply Outcome.kept_next | apply paramCmd_kept | exact P01.ROLE_known | apply Kept.foldl | apply Kept4.of | simp only [Kept.mk_iff] | split | intro _

theorem execRadioEnWrite_kept {s0 : State} {x0 : Hdr} {x1 : Bool} {x2 : State} (h : Kept s0 x2) :
    Outcome.kept s0 (execRadioEnWrite x0 x1 x2) := by
  unfold execRadioEnWrite
  try dsimp only
  with_reducible repeat' first
    | assumption | apply Outcome.kept_next | apply paramCmd_kept | exact P01.RADIO_EN_known | apply Kept.foldl | apply Kept4.of | simp only [Kept.mk_iff] | split | intro _

theorem execPlcEnWrite_kept {s0 : State} {x0 : Hdr} {x1 : Bool} {x2 : State} (h : Kept s0 x2) :
    Outcome.kept s0 (execPlcEnWrite x0 x1 x2) := by
  unfold execPlcEnWrite
  try dsimp only
  with_reducible repeat' first
    | assumption | apply Outcome.kept_next | apply paramCmd_kept | exact P01.PLC_EN_known | apply Kept.foldl | apply Kept4.of | simp only [Kept.mk_iff] | split | intro _

theorem execMetroEnWrite_kept {s0 : State} {x0 : Hdr} {x1 : Bool} {x2 : State} (h : Kept s0 x2) :
    Outcome.kept s0 (execMetroEnWrite x0 x1 x2) := by
  unfold execMetroEnWrite
  try dsimp only
  with_reducible repeat' first
    | assumption | apply Outcome.kept_next | apply paramCmd_kept | exact P01.METRO_EN_known | apply Kept.foldl | apply Kept4.of | simp only [Kept.mk_iff] | split | intro _

theorem execPowerCapWrite_kept {s0 : State} {x0 : Hdr} {x1 : Nat} {x2 : State} (h : Kept s0 x2) :
    Outcome.kept s0 (execPowerCapWrite x0 x1 x2) := by
  unfold execPowerCapWrite
  try dsimp only
  with_reducible repeat' first
    | assumption | apply Outcome.kept_next | apply paramCmd_kept | exact P04.POWER_CAP_known | apply Kept.foldl | apply Kept4.of | simp only [Kept.mk_iff] | split | intro _

theorem execHoldCWrite_kept {s0 : State} {x0 : Hdr} {x1 : Nat} {x2 : State} (h : Kept s0 x2) :
    Outcome.kept s0 (execHoldCWrite x0 x1 x2) := by
  unfold execHoldCWrite
  try dsimp only
  with_reducible repeat' first
    | assumption | apply Outcome.kept_next | apply paramCmd_kept | exact P04.HOLD_C_known | apply Kept.foldl | apply Kept4.of | simp only [Kept.mk_iff] | split | intro _

theorem execHoldDivWrite_kept {s0 : State} {x0 : Hdr} {x1 : Nat} {x2 : State} (h : Kept s0 x2) :
    Outcome.kept s0 (execHoldDivWrite x0 x1 x2) := by
  unfold execHoldDivWrite
  try dsimp only
  with_reducible repeat' first
    | assumption | apply Outcome.kept_next | apply paramCmd_kept | exact P04.HOLD_DIV_known | apply Kept.foldl | apply Kept4.of | simp only [Kept.mk_iff] | split | intro _

theorem execCMeasClear_kept {s0 : State} {x0 : Hdr} {x1 : State} (h : Kept s0 x1) :
    Outcome.kept s0 (execCMeasClear x0 x1) := by
  unfold execCMeasClear
  try dsimp only
  with_reducible repeat' first
    | assumption | apply Outcome.kept_next | apply paramCmd_kept | exact P04.C_MEAS_known | apply Kept.foldl | apply Kept4.of | simp only [Kept.mk_iff] | split | intro _

theorem execEthertypeWrite_kept {s0 : State} {x0 : Hdr} {x1 : Nat} {x2 : State} (h : Kept s0 x2) :
    Outcome.kept s0 (execEthertypeWrite x0 x1 x2) := by
  unfold execEthertypeWrite
  try dsimp only
  with_reducible repeat' first
    | assumption | apply Outcome.kept_next | apply paramCmd_kept | exact P02.ETHERTYPE_known | apply Kept.foldl | apply Kept4.of | simp only [Kept.mk_iff] | split | intro _

theorem execRadioChannelEnWrite_kept {s0 : State} {x0 : Hdr} {x1 : Fin 16} {x2 : Bool} {x3 : State} (h : Kept s0 x3) :
    Outcome.kept s0 (execRadioChannelEnWrite x0 x1 x2 x3) := by
  unfold execRadioChannelEnWrite
  try dsimp only
  with_reducible repeat' first
    | assumption | apply Outcome.kept_next | apply paramCmd_kept | exact P20.EN_known | apply Kept.foldl | apply Kept4.of | simp only [Kept.mk_iff] | split | intro _

theorem execPlcPhaseEnWrite_kept {s0 : State} {x0 : Hdr} {x1 : Fin 3} {x2 : Bool} {x3 : State} (h : Kept s0 x3) :
    Outcome.kept s0 (execPlcPhaseEnWrite x0 x1 x2 x3) := by
  unfold execPlcPhaseEnWrite
  try dsimp only
  with_reducible repeat' first
    | assumption | apply Outcome.kept_next | apply paramCmd_kept | exact P21.EN_known | apply Kept.foldl | apply Kept4.of | simp only [Kept.mk_iff] | split | intro _

theorem execLegalUpdModeWrite_kept {s0 : State} {x0 : Hdr} {x1 : Bool} {x2 : Option AuthBlk} {x3 : State} (h : Kept s0 x3) :
    Outcome.kept s0 (execLegalUpdModeWrite x0 x1 x2 x3) := by
  unfold execLegalUpdModeWrite
  try dsimp only
  with_reducible repeat' first
    | assumption | apply Outcome.kept_next | apply paramCmd_kept | exact P60.LEGAL_UPD_MODE_known | apply Kept.foldl | apply Kept4.of | simp only [Kept.mk_iff] | split | intro _

theorem execSealCalWrite_kept {s0 : State} {x0 : Hdr} {x1 : Bool} {x2 : Option AuthBlk} {x3 : State} (h : Kept s0 x3) :
    Outcome.kept s0 (execSealCalWrite x0 x1 x2 x3) := by
  unfold execSealCalWrite
  try dsimp only
  with_reducible repeat' first
    | assumption | apply Outcome.kept_next | apply paramCmd_kept | exact P30.SEAL_CAL_known | apply Kept.foldl | apply Kept4.of | simp only [Kept.mk_iff] | split | intro _

theorem execLegalKeyWrite_kept {s0 : State} {x0 : Hdr} {x1 : Nat} {x2 : Option AuthBlk} {x3 : State} (h : Kept s0 x3) :
    Outcome.kept s0 (execLegalKeyWrite x0 x1 x2 x3) := by
  unfold execLegalKeyWrite
  try dsimp only
  with_reducible repeat' first
    | assumption | apply Outcome.kept_next | apply paramCmd_kept | exact P30.LEGAL_KEY_known | apply Kept.foldl | apply Kept4.of | simp only [Kept.mk_iff] | split | intro _

theorem execPlainImportWrite_kept {s0 : State} {x0 : Hdr} {x1 : Bool} {x2 : State} (h : Kept s0 x2) :
    Outcome.kept s0 (execPlainImportWrite x0 x1 x2) := by
  unfold execPlainImportWrite
  try dsimp only
  with_reducible repeat' first
    | assumption | apply Outcome.kept_next | apply paramCmd_kept | exact P40.PLAIN_IMPORT_known | apply Kept.foldl | apply Kept4.of | simp only [Kept.mk_iff] | split | intro _

theorem execTamperSeenClear_kept {s0 : State} {x0 : Hdr} {x1 : State} (h : Kept s0 x1) :
    Outcome.kept s0 (execTamperSeenClear x0 x1) := by
  unfold execTamperSeenClear
  try dsimp only
  with_reducible repeat' first
    | assumption | apply Outcome.kept_next | apply paramCmd_kept | exact P40.TAMPER_SEEN_known | apply Kept.foldl | apply Kept4.of | simp only [Kept.mk_iff] | split | intro _

theorem execWrapClear_kept {s0 : State} {x0 : Hdr} {x1 : Nat} {x2 : State} (h : Kept s0 x2) :
    Outcome.kept s0 (execWrapClear x0 x1 x2) := by
  unfold execWrapClear
  try dsimp only
  with_reducible repeat' first
    | assumption | apply Outcome.kept_next | apply paramCmd_kept | exact P52.WRAP_known | apply Kept.foldl | apply Kept4.of | simp only [Kept.mk_iff] | split | intro _

theorem execProfilePeriodWrite_kept {s0 : State} {x0 : Hdr} {x1 : Nat} {x2 : Option AuthBlk} {x3 : State} (h : Kept s0 x3) :
    Outcome.kept s0 (execProfilePeriodWrite x0 x1 x2 x3) := by
  unfold execProfilePeriodWrite
  try dsimp only
  with_reducible repeat' first
    | assumption | apply Outcome.kept_next | apply paramCmd_kept | exact P30.PROFILE_PERIOD_known | apply Kept.foldl | apply Kept4.of | simp only [Kept.mk_iff] | split | intro _

theorem execDemandSettingWrite_kept {s0 : State} {x0 : Hdr} {x1 : Nat} {x2 : Nat} {x3 : Nat} {x4 : Option AuthBlk} {x5 : State} (h : Kept s0 x5) :
    Outcome.kept s0 (execDemandSettingWrite x0 x1 x2 x3 x4 x5) := by
  unfold execDemandSettingWrite
  try dsimp only
  with_reducible repeat' first
    | assumption | apply Outcome.kept_next | apply paramCmd_kept | exact P30.DEMAND_SUBS_known | exact P30.DEMAND_METHOD_known | exact P30.DEMAND_PERIOD_known | apply Kept.foldl | apply Kept4.of | simp only [Kept.mk_iff] | split | intro _

theorem execTzDstWrite_kept {s0 : State} {x0 : Hdr} {x1 : TzDst} {x2 : Option AuthBlk} {x3 : State} (h : Kept s0 x3) :
    Outcome.kept s0 (execTzDstWrite x0 x1 x2 x3) := by
  unfold execTzDstWrite
  try dsimp only
  with_reducible repeat' first
    | assumption | apply Outcome.kept_next | apply paramCmd_kept | apply Kept.foldl | apply Kept4.of | simp only [Kept.mk_iff] | split | intro _

end Sys2Proof.Machine
end

