-- ==== Sys2Proof/Laws/Kept/Effects.lean ====
section
/-! SUPPORT. What the operations of Machine/Effects.lean keep: the waiting commands, what was sent, the stored tables. -/
namespace Sys2Proof.Machine

theorem effRetireMeter_kept {s0 : State} {x0 : Eff} {x1 : State} (h : Kept s0 x1) :
    Kept s0 (effRetireMeter x0 x1) := by
  unfold effRetireMeter
  try dsimp only
  with_reducible repeat' first
    | assumption | apply plcRetire_kept | apply retireRecord_kept | apply radioRetire_kept | apply campRetire_kept | apply dlRetire_kept | apply Kept.foldl | apply Kept4.of | simp only [Kept.mk_iff] | split | intro _

theorem effEnrol_kept {s0 : State} {x0 : Eff} {x1 : State} (h : Kept s0 x1) :
    Kept s0 (effEnrol x0 x1) := by
  unfold effEnrol
  try dsimp only
  with_reducible repeat' first
    | assumption | apply dlReseal_kept | apply effEnrolMeter_kept | apply Kept.foldl | apply Kept4.of | simp only [Kept.mk_iff] | split | intro _

theorem applyEffect_kept {s0 : State} {x0 : Eff} {x1 : State} (h : Kept s0 x1) :
    Kept s0 (applyEffect x0 x1) := by
  unfold applyEffect
  try dsimp only
  with_reducible repeat' first
    | assumption | apply effSetSlotTime_kept | apply effBillingClose_kept | apply effImageBegin_kept | apply effExportOpen_kept | apply effSetParam_kept | apply effExportClose_kept | apply effUnpair_kept | apply effSetRules_kept | apply effExportAck_kept | apply effCloseSession_kept | apply effPromote_kept | apply effImageCommit_kept | apply effKeyZeroise_kept | apply effSetLegalTime_kept | apply effResolveDivergence_kept | apply effKeyImport_kept | apply effCalendarActivate_kept | apply effCounterConfig_kept | apply effBalanceGroupSet_kept | apply effLoadProfileTemplate_kept | apply effEnrol_kept | apply effRetireMeter_kept | apply effDisplayList_kept | apply effStreamClose_kept | apply effFill_kept | apply effCalibrate_kept | apply effCalendarLoad_kept | apply effOutputControl_kept | apply effImageActivate_kept | apply effScribeCampaign_kept | apply effPair_kept | apply effOpenSession_kept | apply effRestoreDefaults_kept | apply Kept.foldl | apply Kept4.of | simp only [Kept.mk_iff] | split | intro _

theorem applyDone_kept {s0 : State} {x0 : State} (h : Kept s0 x0) :
    Kept s0 (applyDone x0) := by
  unfold applyDone
  try dsimp only
  with_reducible repeat' first
    | assumption | apply applyEffect_kept | apply finish_kept | apply Kept.foldl | apply Kept4.of | simp only [Kept.mk_iff] | split | intro _

theorem applyDue_kept {s0 : State} {x0 : State} (h : Kept s0 x0) :
    Kept s0 (applyDue x0) := by
  unfold applyDue
  try dsimp only
  with_reducible repeat' first
    | assumption | apply applyEffect_kept | apply Kept.foldl | apply Kept4.of | simp only [Kept.mk_iff] | split | intro _

theorem applyWrites_kept {s0 : State} {x0 : State} (h : Kept s0 x0) :
    Kept s0 (applyWrites x0) := by
  unfold applyWrites
  try dsimp only
  with_reducible repeat' first
    | assumption | apply applyEffect_kept | apply applyDone_kept | apply Kept.foldl | apply Kept4.of | simp only [Kept.mk_iff] | split | intro _

end Sys2Proof.Machine
end

