-- ==== Sys2Proof/Laws/Kept/Discards.lean ====
section
/-! SUPPORT. What the operations of Machine/Discards.lean keep: the waiting commands, what was sent, the stored tables. -/
namespace Sys2Proof.Machine

theorem cutUnsealed_kept {s0 : State} {x0 : Hdr → Bool} {x1 : State} (h : Kept s0 x1) :
    Kept s0 (cutUnsealed x0 x1) := by
  unfold cutUnsealed
  try dsimp only
  with_reducible repeat' first
    | assumption | apply Kept.foldl | apply Kept4.of | simp only [Kept.mk_iff] | split | intro _

theorem undoFillsOf_kept {s0 : State} {x0 : Hdr → Bool} {x1 : State} (h : Kept s0 x1) :
    Kept s0 (undoFillsOf x0 x1) := by
  unfold undoFillsOf
  try dsimp only
  with_reducible repeat' first
    | assumption | apply undoFills_kept | apply Kept.foldl | apply Kept4.of | simp only [Kept.mk_iff] | split | intro _

theorem abortCmds_kept {s0 : State} {x0 : Hdr → Bool} {x1 : State} (h : Kept s0 x1) :
    Kept s0 (abortCmds x0 x1) := by
  unfold abortCmds
  try dsimp only
  with_reducible repeat' first
    | assumption | apply undoFillsOf_kept | apply finish_kept | apply rebuildTails_kept | apply dropItems_kept | apply cutUnsealed_kept | apply Kept.foldl | apply Kept4.of | simp only [Kept.mk_iff] | split | intro _

theorem fixMarks_kept {s0 : State} {x0 : State} (h : Kept s0 x0) :
    Kept s0 (fixMarks x0) := by
  unfold fixMarks
  try dsimp only
  with_reducible repeat' first
    | assumption | apply fwCampFields_kept | apply dlCount_kept | apply Kept.foldl | apply Kept4.of | simp only [Kept.mk_iff] | split | intro _

theorem dropResults_kept {s0 : State} {x0 : List Entry} {x1 : State} (h : Kept s0 x1) :
    Kept s0 (dropResults x0 x1) := by
  unfold dropResults
  try dsimp only
  with_reducible repeat' first
    | assumption | apply campFields_kept | apply Kept.foldl | apply Kept4.of | simp only [Kept.mk_iff] | split | intro _

theorem discardInfeed_kept {s0 : State} {x0 : State} (h : Kept s0 x0) :
    Kept s0 (discardInfeed x0) := by
  unfold discardInfeed
  try dsimp only
  with_reducible repeat' first
    | assumption | apply discardWork_kept | apply killFrames_kept | apply abandonAll_kept | apply dropItems_kept | apply Kept.foldl | apply Kept4.of | simp only [Kept.mk_iff] | split | intro _

theorem dropUnsealed_kept {s0 : State} {x0 : State} (h : Kept s0 x0) :
    Kept s0 (dropUnsealed x0) := by
  unfold dropUnsealed
  try dsimp only
  with_reducible repeat' first
    | assumption | apply dropResults_kept | apply Kept.foldl | apply Kept4.of | simp only [Kept.mk_iff] | split | intro _

end Sys2Proof.Machine
end

