-- ==== Sys2Proof/Laws/Kept/Resets.lean ====
section
/-! SUPPORT. What the operations of Machine/Resets.lean keep: the waiting commands, what was sent, the stored tables. -/
namespace Sys2Proof.Machine

theorem resetRegs_kept {s0 : State} {x0 : Bool} {x1 : State} (h : Kept s0 x1) :
    Kept s0 (resetRegs x0 x1) := by
  unfold resetRegs
  try dsimp only
  with_reducible repeat' first
    | assumption | apply Kept4.regs_filter | apply wr_kept | exact P01.ROLE_known | exact P01.ROLE_ACTIVE_known | apply Kept.foldl | apply Kept4.of | simp only [Kept.mk_iff] | split | intro _

theorem resetCore_kept {s0 : State} {x0 : State} (h : Kept s0 x0) :
    Kept s0 (resetCore x0) := by
  unfold resetCore
  try dsimp only
  with_reducible repeat' first
    | assumption | exact P10.SLOW_BURST_known | apply Kept.foldl | apply Kept4.of | simp only [Kept.mk_iff] | split | intro _

theorem resetMemory_kept {s0 s : State} {b : Bool} (h : Kept s0 s) : Kept s0 (resetMemory b s) := by
  refine clearLanes_kept ?_
  simp only [Kept.mk_iff]
  exact Kept4.mem_nil (Kept4.of h)

theorem resetMedia_kept {s0 : State} {x0 : Bool} {x1 : State} (h : Kept s0 x1) :
    Kept s0 (resetMedia x0 x1) := by
  unfold resetMedia
  try dsimp only
  with_reducible repeat' first
    | assumption | apply radioStop_kept | apply radioRetain_kept | apply plcRetain_kept | apply plcStop_kept | apply Kept.foldl | apply Kept4.of | simp only [Kept.mk_iff] | split | intro _

theorem resetEvents_kept {s0 : State} {x0 : State} (h : Kept s0 x0) :
    Kept s0 (resetEvents x0) := by
  unfold resetEvents
  try dsimp only
  with_reducible repeat' first
    | assumption | apply Kept.foldl | apply Kept4.of | simp only [Kept.mk_iff] | split | intro _

theorem resetPair_kept {s0 : State} {x0 : State} (h : Kept s0 x0) :
    Kept s0 (resetPair x0) := by
  unfold resetPair
  try dsimp only
  with_reducible repeat' first
    | assumption | apply clearPair_kept | apply wr_kept | exact P50.PAIR_ID_known | exact P50.PAIR_STATE_known | apply Kept.foldl | apply Kept4.of | simp only [Kept.mk_iff] | split | intro _

theorem deviceReset_kept {s0 : State} {x0 : Nat} {x1 : State} (h : Kept s0 x1) :
    Kept s0 (deviceReset x0 x1) := by
  unfold deviceReset
  try dsimp only
  with_reducible repeat' first
    | assumption | apply flushEvents_kept | apply dropUnsealed_kept | apply applyDue_kept | apply resetRegs_kept | apply resetMedia_kept | apply resetPair_kept | apply abortCmds_kept | apply resetMemory_kept | apply discardInfeed_kept | apply fixMarks_kept | apply commitPending_kept | apply resetCore_kept | apply resetEvents_kept | apply Kept.foldl | apply Kept4.of | simp only [Kept.mk_iff] | split | intro _

theorem execResetNow_kept {s0 : State} {x0 : State} (h : Kept s0 x0) :
    Outcome.kept s0 (execResetNow x0) := by
  unfold execResetNow
  try dsimp only
  with_reducible repeat' first
    | assumption | apply Outcome.kept_next | apply deviceReset_kept | apply Kept.foldl | apply Kept4.of | simp only [Kept.mk_iff] | split | intro _

theorem execKernelHeartbeatMissing_kept {s0 : State} {x0 : State} (h : Kept s0 x0) :
    Outcome.kept s0 (execKernelHeartbeatMissing x0) := by
  unfold execKernelHeartbeatMissing
  try dsimp only
  with_reducible repeat' first
    | assumption | apply Outcome.kept_next | apply deviceReset_kept | apply Kept.foldl | apply Kept4.of | simp only [Kept.mk_iff] | split | intro _

theorem execCoreWatchdog_kept {s0 : State} {x0 : Fin 16} {x1 : Nat} {x2 : State} (h : Kept s0 x2) :
    Outcome.kept s0 (execCoreWatchdog x0 x1 x2) := by
  unfold execCoreWatchdog
  try dsimp only
  with_reducible repeat' first
    | assumption | apply Outcome.kept_next | apply logEv_kept | apply deviceReset_kept | apply Kept.foldl | apply Kept4.of | simp only [Kept.mk_iff] | split | intro _

theorem execBootWindowExpire_kept {s0 : State} {x0 : Fin 5} {x1 : State} (h : Kept s0 x1) :
    Outcome.kept s0 (execBootWindowExpire x0 x1) := by
  unfold execBootWindowExpire
  try dsimp only
  with_reducible repeat' first
    | assumption | apply Outcome.kept_next | apply deviceReset_kept | exact P60.BOOT_WINDOW_known | apply Kept.foldl | apply Kept4.of | simp only [Kept.mk_iff] | split | intro _

theorem declare_kept {s0 : State} {x0 : FlushCause} {x1 : State} (h : Kept s0 x1) :
    Kept s0 (declare x0 x1) := by
  unfold declare
  try dsimp only
  with_reducible repeat' first
    | assumption | apply outageStart_kept | apply wr_kept | apply logEv_kept | exact P04.HOLDUP_MODE_known | exact P04.TRIM_HOLDUP_known | apply Kept.foldl | apply Kept4.of | simp only [Kept.mk_iff] | split | intro _

theorem retirePage_kept {s0 : State} {x0 : Nat} {x1 : State} (h : Kept s0 x1) :
    Kept s0 (retirePage x0 x1) := by
  unfold retirePage
  try dsimp only
  with_reducible repeat' first
    | assumption | apply declare_kept | apply wr_kept | exact P42.RETIRED_PAGES_known | apply Kept.foldl | apply Kept4.of | simp only [Kept.mk_iff] | split | intro _

theorem memReset_kept {s0 : State} {x0 : Nat} {x1 : State} (h : Kept s0 x1) :
    Kept s0 (memReset x0 x1) := by
  unfold memReset
  try dsimp only
  with_reducible repeat' first
    | assumption | apply retirePage_kept | apply logEv_kept | apply deviceReset_kept | apply Kept.foldl | apply Kept4.of | simp only [Kept.mk_iff] | split | intro _

theorem dropPoisoned_kept {s0 : State} {x0 : Nat} {x1 : State} (h : Kept s0 x1) :
    Kept s0 (dropPoisoned x0 x1) := by
  unfold dropPoisoned
  try dsimp only
  with_reducible repeat' first
    | assumption | apply setFifo_kept | apply abandonBatch_kept | apply Kept.foldl | apply Kept4.of | simp only [Kept.mk_iff] | split | intro _

theorem execPoisonConsumed_kept {s0 : State} {x0 : Consumer} {x1 : State} (h : Kept s0 x1) :
    Outcome.kept s0 (execPoisonConsumed x0 x1) := by
  unfold execPoisonConsumed
  try dsimp only
  with_reducible repeat' first
    | assumption | apply Outcome.kept_next | apply dropPoisoned_kept | apply drawn_kept | apply memReset_kept | apply endLane_kept | apply dropBanked_kept | apply Kept.foldl | apply Kept4.of | simp only [Kept.mk_iff] | split | intro _

theorem execDramPatrolScrub_kept {s0 : State} {x0 : Nat} {x1 : Bool} {x2 : Bool} {x3 : Bool} {x4 : State} (h : Kept s0 x4) :
    Outcome.kept s0 (execDramPatrolScrub x0 x1 x2 x3 x4) := by
  unfold execDramPatrolScrub
  try dsimp only
  with_reducible repeat' first
    | assumption | apply Outcome.kept_next | apply retirePage_kept | apply memReset_kept | apply corrected_kept | apply uncorrectable_kept | apply Kept.foldl | apply Kept4.of | simp only [Kept.mk_iff] | split | intro _

end Sys2Proof.Machine
end

