-- ==== Sys2Proof/Laws/Kept/Power.lean ====
section
/-! SUPPORT. What the operations of Machine/Power.lean keep: the waiting commands, what was sent, the stored tables. -/
namespace Sys2Proof.Machine

theorem execMainsLost_kept {s0 : State} {x0 : List Nat} {x1 : State} (h : Kept s0 x1) :
    Outcome.kept s0 (execMainsLost x0 x1) := by
  unfold execMainsLost
  try dsimp only
  with_reducible repeat' first
    | assumption | apply Outcome.kept_next | apply declare_kept | apply Kept.foldl | apply Kept4.of | simp only [Kept.mk_iff] | split | intro _

theorem execDenThermalTrip_kept {s0 : State} {x0 : State} (h : Kept s0 x0) :
    Outcome.kept s0 (execDenThermalTrip x0) := by
  unfold execDenThermalTrip
  try dsimp only
  with_reducible repeat' first
    | assumption | apply Outcome.kept_next | apply declare_kept | apply Kept.foldl | apply Kept4.of | simp only [Kept.mk_iff] | split | intro _

theorem execResetNLow_kept {s0 : State} {x0 : Bool} {x1 : State} (h : Kept s0 x1) :
    Outcome.kept s0 (execResetNLow x0 x1) := by
  unfold execResetNLow
  try dsimp only
  with_reducible repeat' first
    | assumption | apply Outcome.kept_next | apply declare_kept | apply Kept.foldl | apply Kept4.of | simp only [Kept.mk_iff] | split | intro _

theorem derateNode_kept {s0 : State} {x0 : State} (h : Kept s0 x0) :
    Kept s0 (derateNode x0) := by
  unfold derateNode
  try dsimp only
  with_reducible repeat' first
    | assumption | apply wr_kept | apply logEv_kept | exact P04.C_MEAS_known | exact P04.HOLD_C_known | apply Kept.foldl | apply Kept4.of | simp only [Kept.mk_iff] | split | intro _

theorem execFlushEnd_kept {s0 : State} {x0 : State} (h : Kept s0 x0) :
    Outcome.kept s0 (execFlushEnd x0) := by
  unfold execFlushEnd
  try dsimp only
  with_reducible repeat' first
    | assumption | apply Outcome.kept_next | apply outageSnapshot_kept | apply flushEvents_kept | apply derateNode_kept | apply spend_kept | apply driveOutputs_kept | apply commitPending_kept | apply Kept.foldl | apply Kept4.of | simp only [Kept.mk_iff] | split | intro _

theorem execPwrReq_kept {s0 : State} {x0 : State} (h : Kept s0 x0) :
    Outcome.kept s0 (execPwrReq x0) := by
  unfold execPwrReq
  try dsimp only
  with_reducible repeat' first
    | assumption | apply Outcome.kept_next | apply logEv_kept | apply driveReq_kept | apply Kept.foldl | apply Kept4.of | simp only [Kept.mk_iff] | split | intro _

theorem toBattery_kept {s0 : State} {x0 : State} (h : Kept s0 x0) :
    Kept s0 (toBattery x0) := by
  unfold toBattery
  try dsimp only
  with_reducible repeat' first
    | assumption | apply Kept.foldl | apply Kept4.of | simp only [Kept.mk_iff] | split | intro _

theorem powerDown_kept {s0 : State} {x0 : State} (h : Kept s0 x0) :
    Kept s0 (powerDown x0) := by
  unfold powerDown
  try dsimp only
  with_reducible repeat' first
    | assumption | apply toBattery_kept | apply driveOutputs_kept | apply Kept.foldl | apply Kept4.of | simp only [Kept.mk_iff] | split | intro _

theorem execMainPowerLost_kept {s0 : State} {x0 : State} (h : Kept s0 x0) :
    Outcome.kept s0 (execMainPowerLost x0) := by
  unfold execMainPowerLost
  try dsimp only
  with_reducible repeat' first
    | assumption | apply Outcome.kept_next | apply powerDown_kept | apply Kept.foldl | apply Kept4.of | simp only [Kept.mk_iff] | split | intro _

theorem execSupplyMonitorTrip_kept {s0 : State} {x0 : State} (h : Kept s0 x0) :
    Outcome.kept s0 (execSupplyMonitorTrip x0) := by
  unfold execSupplyMonitorTrip
  try dsimp only
  with_reducible repeat' first
    | assumption | apply Outcome.kept_next | apply powerDown_kept | apply Kept.foldl | apply Kept4.of | simp only [Kept.mk_iff] | split | intro _

theorem execVbatRise_kept {s0 : State} {x0 : State} (h : Kept s0 x0) :
    Outcome.kept s0 (execVbatRise x0) := by
  unfold execVbatRise
  try dsimp only
  with_reducible repeat' first
    | assumption | apply Outcome.kept_next | apply Kept.foldl | apply Kept4.of | simp only [Kept.mk_iff] | split | intro _

theorem execVbatFall_kept {s0 : State} {x0 : State} (h : Kept s0 x0) :
    Outcome.kept s0 (execVbatFall x0) := by
  unfold execVbatFall
  try dsimp only
  with_reducible repeat' first
    | assumption | apply Outcome.kept_next | apply Kept.foldl | apply Kept4.of | simp only [Kept.mk_iff] | split | intro _

theorem dropRecs_kept {s0 : State} {x0 : State} (h : Kept s0 x0) :
    Kept s0 (dropRecs x0) := by
  unfold dropRecs
  try dsimp only
  with_reducible repeat' first
    | assumption | apply Kept.foldl | apply Kept4.of | simp only [Kept.mk_iff] | split | intro _

theorem loseWork_kept {s0 : State} {x0 : State} (h : Kept s0 x0) :
    Kept s0 (loseWork x0) := by
  unfold loseWork
  try dsimp only
  with_reducible repeat' first
    | assumption | apply dropUnsealed_kept | apply applyDue_kept | apply dropRecs_kept | apply Kept.foldl | apply Kept4.of | simp only [Kept.mk_iff] | split | intro _

theorem powerOn_kept {s0 : State} {x0 : State} (h : Kept s0 x0) :
    Kept s0 (powerOn x0) := by
  unfold powerOn
  try dsimp only
  with_reducible repeat' first
    | assumption | apply bump_kept | apply toBattery_kept | apply evFields_kept | apply resetRegs_kept | apply resetMedia_kept | apply resetPair_kept | apply loseWork_kept | apply wr_kept | apply resetMemory_kept | apply fixMarks_kept | apply resetCore_kept | apply resetEvents_kept | exact P51.NEXT_SEQ_known | exact P51.POWER_CYCLES_known | apply Kept.foldl | apply Kept4.of | simp only [Kept.mk_iff] | split | intro _

theorem execPowerOnReset_kept {s0 : State} {x0 : State} (h : Kept s0 x0) :
    Outcome.kept s0 (execPowerOnReset x0) := by
  unfold execPowerOnReset
  try dsimp only
  with_reducible repeat' first
    | assumption | apply Outcome.kept_next | apply powerOn_kept | apply Kept.foldl | apply Kept4.of | simp only [Kept.mk_iff] | split | intro _

theorem resetBody_kept {s0 : State} {x0 : Nat} {x1 : State → State} {x2 : Hdr} {x3 : List Byte} {x4 : State} (h1 : ∀ t, Kept s0 t → Kept s0 (x1 t)) (h : Kept s0 x4) :
    Ans.kept s0 (resetBody x0 x1 x2 x3 x4) := by
  unfold resetBody
  try dsimp only
  with_reducible repeat' first
    | assumption | apply h1 | apply finish_kept | exact Ans.kept_fail | exact Ans.kept_refuse | apply Ans.kept_done | apply Ans.kept_doneAtBeat | apply Ans.kept_accept | apply Ans.kept_stays | apply Kept.foldl | apply Kept4.of | simp only [Kept.mk_iff] | split | intro _

theorem execDevReset_kept {s0 : State} {x0 : Hdr} {x1 : List Byte} {x2 : State} (h : Kept s0 x2) :
    Outcome.kept s0 (execDevReset x0 x1 x2) := by
  unfold execDevReset
  try dsimp only
  with_reducible repeat' first
    | assumption | apply Outcome.kept_next | apply resetBody_kept | apply runCmd_kept | apply deviceReset_kept | exact Ans.kept_fail | exact Ans.kept_refuse | apply Ans.kept_done | apply Ans.kept_doneAtBeat | apply Ans.kept_accept | apply Ans.kept_stays | apply Kept.foldl | apply Kept4.of | simp only [Kept.mk_iff] | split | intro _

theorem execPwrCycleReq_kept {s0 : State} {x0 : Hdr} {x1 : List Byte} {x2 : State} (h : Kept s0 x2) :
    Outcome.kept s0 (execPwrCycleReq x0 x1 x2) := by
  unfold execPwrCycleReq
  try dsimp only
  with_reducible repeat' first
    | assumption | apply Outcome.kept_next | apply resetBody_kept | apply runCmd_kept | apply declare_kept | exact Ans.kept_fail | exact Ans.kept_refuse | apply Ans.kept_done | apply Ans.kept_doneAtBeat | apply Ans.kept_accept | apply Ans.kept_stays | apply Kept.foldl | apply Kept4.of | simp only [Kept.mk_iff] | split | intro _

theorem resetWhenSent_kept {s0 : State} {x0 : State} (h : Kept s0 x0) :
    Kept s0 (resetWhenSent x0) := by
  unfold resetWhenSent
  try dsimp only
  with_reducible repeat' first
    | assumption | apply declare_kept | apply deviceReset_kept | apply Kept.foldl | apply Kept4.of | simp only [Kept.mk_iff] | split | intro _

end Sys2Proof.Machine
end

