-- ==== Sys2Proof/Laws/Kept/BeatRow.lean ====
section
/-! SUPPORT. What the operations of Machine/BeatRow.lean keep: the waiting commands, what was sent, the stored tables. -/
namespace Sys2Proof.Machine

theorem p256Slot_kept {s0 : State} {x0 : State} (h : Kept s0 x0) :
    Kept s0 (p256Slot x0) := by
  unfold p256Slot
  try dsimp only
  with_reducible repeat' first
    | assumption | apply Kept.foldl | apply Kept4.of | simp only [Kept.mk_iff] | split | intro _

theorem laneSlot_kept {s0 : State} {x0 : Nat} {x1 : State} (h : Kept s0 x1) :
    Kept s0 (laneSlot x0 x1) := by
  unfold laneSlot
  try dsimp only
  with_reducible repeat' first
    | assumption | apply setLane_kept | apply Kept.foldl | apply Kept4.of | simp only [Kept.mk_iff] | split | intro _

theorem doTask_kept {s0 : State} {x0 : Task} {x1 : State} (h : Kept s0 x1) :
    Kept s0 (doTask x0 x1) := by
  unfold doTask
  try dsimp only
  with_reducible repeat' first
    | assumption | apply replaceCopies_kept | apply commitPending_kept | apply Kept.foldl | apply Kept4.of | simp only [Kept.mk_iff] | split | intro _

theorem doWork_kept {s0 : State} {x0 : Work} {x1 : State} (h : Kept s0 x1) :
    Kept s0 (doWork x0 x1) := by
  unfold doWork
  try dsimp only
  with_reducible repeat' first
    | assumption | apply postCounters_kept | apply laneSlot_kept | apply slowServed_kept | apply infeedSlot_kept | apply flushEvents_kept | apply gcCollect_kept | apply gradeSlot_kept | apply p256Slot_kept | apply handleHanded_kept | apply rereplicate_kept | apply dmaSlot_kept | apply selfTestDone_kept | apply doTask_kept | apply scribeSlot_kept | apply Kept.foldl | apply Kept4.of | simp only [Kept.mk_iff] | split | intro _

theorem itemEnds_kept {s0 : State} {x0 : SettItem} {x1 : State} (h : Kept s0 x1) :
    Kept s0 (itemEnds x0 x1) := by
  unfold itemEnds
  try dsimp only
  with_reducible repeat' first
    | assumption | apply Kept.foldl | apply Kept4.of | simp only [Kept.mk_iff] | split | intro _

theorem runThread_kept {s0 : State} {x0 : Nat} {x1 : SettItem} {x2 : State} (h : Kept s0 x2) :
    Kept s0 (runThread x0 x1 x2) := by
  unfold runThread
  try dsimp only
  with_reducible repeat' first
    | assumption | apply doWork_kept | apply drawn_kept | apply logEv_kept | apply postItem_kept | apply itemEnds_kept | apply count_kept | apply Kept.foldl | apply Kept4.of | simp only [Kept.mk_iff] | split | intro _

theorem runItems_kept {s0 : State} {x0 : List SettItem} {x1 : Nat} {x2 : State} (h : Kept s0 x2) :
    Kept s0 (runItems x0 x1 x2) := by
  induction x0 generalizing x1 x2 with
  | nil =>
    unfold runItems
    try dsimp only
    with_reducible repeat' first
      | assumption | apply doWork_kept | apply runThread_kept | apply itemEnds_kept | apply Kept.foldl | apply Kept4.of | simp only [Kept.mk_iff] | split | intro _
  | cons y l ih =>
    unfold runItems
    try dsimp only
    with_reducible repeat' first
      | assumption | apply ih | apply doWork_kept | apply runThread_kept | apply itemEnds_kept | apply Kept.foldl | apply Kept4.of | simp only [Kept.mk_iff] | split | intro _

theorem runWork_kept {s0 : State} {x0 : State} (h : Kept s0 x0) :
    Kept s0 (runWork x0) := by
  unfold runWork
  try dsimp only
  with_reducible repeat' first
    | assumption | apply runItems_kept | apply Kept.foldl | apply Kept4.of | simp only [Kept.mk_iff] | split | intro _

theorem frameEnd_kept {s0 : State} {x0 : State} (h : Kept s0 x0) :
    Kept s0 (frameEnd x0) := by
  unfold frameEnd
  try dsimp only
  with_reducible repeat' first
    | assumption | apply closeOpen_kept | apply Kept.foldl | apply Kept4.of | simp only [Kept.mk_iff] | split | intro _

theorem episode_kept {s0 : State} {x0 : State} (h : Kept s0 x0) :
    Kept s0 (episode x0) := by
  unfold episode
  try dsimp only
  with_reducible repeat' first
    | assumption | apply Kept.foldl | apply Kept4.of | simp only [Kept.mk_iff] | split | intro _

theorem tickCounters_kept {s0 : State} {x0 : State} (h : Kept s0 x0) :
    Kept s0 (tickCounters x0) := by
  unfold tickCounters
  try dsimp only
  with_reducible repeat' first
    | assumption | apply wr_kept | exact P52.CYCLES_known | apply Kept.foldl | apply Kept4.of | simp only [Kept.mk_iff] | split | intro _

theorem divergeCheck_kept {s0 : State} {x0 : State} (h : Kept s0 x0) :
    Kept s0 (divergeCheck x0) := by
  unfold divergeCheck
  try dsimp only
  with_reducible repeat' first
    | assumption | apply checkDiverged_kept | apply Kept.foldl | apply Kept4.of | simp only [Kept.mk_iff] | split | intro _

theorem timeStep_kept {s0 s : State} (h : Kept s0 s) : Kept s0.ticked (timeStep s) :=
  slew_kept (divergeCheck_kept (trimBeat_kept (advanceBeat_kept (tickCounters_kept h))))

theorem takeAddr_kept {s0 : State} {x0 : State} (h : Kept s0 x0) :
    Kept s0 (takeAddr x0) := by
  unfold takeAddr
  try dsimp only
  with_reducible repeat' first
    | assumption | apply wr_kept | exact P02.CHAIN_ADDR_known | apply Kept.foldl | apply Kept4.of | simp only [Kept.mk_iff] | split | intro _

theorem sendNotices_kept {s0 : State} {x0 : Nat} {x1 : State} (h : Kept s0 x1) :
    Kept s0 (sendNotices x0 x1) := by
  induction x0 generalizing x1 with
  | zero =>
    unfold sendNotices
    try dsimp only
    with_reducible repeat' first
      | assumption | apply sendNotice_kept | apply Kept.foldl | apply Kept4.of | simp only [Kept.mk_iff] | split | intro _
  | succ k ih =>
    unfold sendNotices
    try dsimp only
    with_reducible repeat' first
      | assumption | apply ih | apply sendNotice_kept | apply Kept.foldl | apply Kept4.of | simp only [Kept.mk_iff] | split | intro _

theorem beatNotices_kept {s0 : State} {x0 : State} (h : Kept s0 x0) :
    Kept s0 (beatNotices x0) := by
  unfold beatNotices
  try dsimp only
  with_reducible repeat' first
    | assumption | apply sendNotices_kept | apply Kept.foldl | apply Kept4.of | simp only [Kept.mk_iff] | split | intro _

theorem storeFullBatch_kept {s0 : State} {x0 : State} (h : Kept s0 x0) :
    Kept s0 (storeFullBatch x0) := by
  unfold storeFullBatch
  try dsimp only
  with_reducible repeat' first
    | assumption | apply abandonBatch_kept | exact P12.NO_DIE_PAIR_known | apply Kept.foldl | apply Kept4.of | simp only [Kept.mk_iff] | split | intro _

theorem ledgerBeat_kept {s0 : State} {x0 : State} (h : Kept s0 x0) :
    Kept s0 (ledgerBeat x0) := by
  unfold ledgerBeat
  try dsimp only
  with_reducible repeat' first
    | assumption | apply storeFullBatch_kept | apply takeWaiting_kept | apply rollSec_kept | apply Kept.foldl | apply Kept4.of | simp only [Kept.mk_iff] | split | intro _

theorem runEntered_kept {s0 : State} {x0 : State} (h : Kept s0 x0) :
    Kept s0 (runEntered x0) := by
  unfold runEntered
  try dsimp only
  with_reducible repeat' first
    | assumption | apply Kept.foldl | apply Kept4.of | simp only [Kept.mk_iff] | split | intro _

theorem postWork_kept {s0 : State} {x0 : State} (h : Kept s0 x0) :
    Kept s0 (postWork x0) := by
  unfold postWork
  try dsimp only
  with_reducible repeat' first
    | assumption | apply postItem_kept | apply Kept.foldl | apply Kept4.of | simp only [Kept.mk_iff] | split | intro _

theorem grantLanes_kept {s0 : State} {x0 : List SettItem} {x1 : State} (h : Kept s0 x1) :
    Kept s0 (grantLanes x0 x1) := by
  unfold grantLanes
  try dsimp only
  with_reducible repeat' first
    | assumption | apply Kept.foldl | apply Kept4.of | simp only [Kept.mk_iff] | split | intro _

theorem dispatch_kept {s0 : State} {x0 : State} (h : Kept s0 x0) :
    Kept s0 (dispatch x0) := by
  unfold dispatch
  try dsimp only
  with_reducible repeat' first
    | assumption | apply postWork_kept | apply grantLanes_kept | apply settDispatch_kept | refine settDispatch_pair (by assumption) ?_ | apply gradeOpen_kept | apply Kept.foldl | apply Kept4.of | simp only [Kept.mk_iff] | split | intro _

theorem boundarySettings_kept {s0 : State} {x0 : State} (h : Kept s0 x0) :
    Kept s0 (boundarySettings x0) := by
  unfold boundarySettings
  try dsimp only
  with_reducible repeat' first
    | assumption | apply takeAddr_kept | apply applyWrites_kept | apply Kept.foldl | apply Kept4.of | simp only [Kept.mk_iff] | split | intro _

theorem boundaryPair_kept {s0 : State} {x0 : State} (h : Kept s0 x0) :
    Kept s0 (boundaryPair x0) := by
  unfold boundaryPair
  try dsimp only
  with_reducible repeat' first
    | assumption | apply pairNext_kept | apply pairUse_kept | apply pairPost_kept | apply Kept.foldl | apply Kept4.of | simp only [Kept.mk_iff] | split | intro _

theorem boundaryRest_kept {s0 : State} {x0 : State} (h : Kept s0 x0) :
    Kept s0 (boundaryRest x0) := by
  unfold boundaryRest
  try dsimp only
  with_reducible repeat' first
    | assumption | apply lapseRefs_kept | apply settleFrames_kept | apply ledgerBeat_kept | apply legalBeat_kept | apply ppsFalls_kept | apply beatNotices_kept | apply creditAll_kept | apply refillTokens_kept | apply runEntered_kept | apply zcFields_kept | apply dispatch_kept | apply Kept.foldl | apply Kept4.of | simp only [Kept.mk_iff] | split | intro _

theorem denBeat_kept {s0 : State} {x0 : BeatIn} {x1 : State} (h : Kept s0 x1) :
    Kept s0 (denBeat x0 x1) := by
  unfold denBeat
  try dsimp only
  with_reducible repeat' first
    | assumption | apply demandCheckpoint_kept | apply denBudget_kept | apply denHoldup_kept | apply Kept.foldl | apply Kept4.of | simp only [Kept.mk_iff] | split | intro _

theorem endBeat_kept {s0 : State} {x0 : State} (h : Kept s0 x0) :
    Kept s0 (endBeat x0) := by
  unfold endBeat
  try dsimp only
  with_reducible repeat' first
    | assumption | apply frameEnd_kept | apply pairEnd_kept | apply resetWhenSent_kept | apply runWork_kept | apply Kept.foldl | apply Kept4.of | simp only [Kept.mk_iff] | split | intro _

theorem beginBeat_kept {s0 s : State} {i : BeatIn} (h : Kept s0 s) : Kept s0.ticked (beginBeat i s) :=
  boundaryRest_kept (boundaryPair_kept (denBeat_kept (boundarySettings_kept (timeStep_kept (takeSets_kept h)))))

theorem holdupBeat_kept {s0 s : State} {i : BeatIn} (h : Kept s0 s) : Kept s0.ticked (holdupBeat i s) :=
  dispatch_kept (denBeat_kept (episode_kept (timeStep_kept h)))

theorem radioWatch_kept {s0 : State} {x0 : State} (h : Kept s0 x0) :
    Kept s0 (radioWatch x0) := by
  unfold radioWatch
  try dsimp only
  with_reducible repeat' first
    | assumption | apply Kept.foldl | apply Kept4.of | simp only [Kept.mk_iff] | split | intro _

theorem execBeatBoundary_kept {s0 s : State} {i : BeatIn} (h : Kept s0 s) :
    Outcome.kept (if hasPower s then s0.ticked else s0) (execBeatBoundary i s) := by
  unfold execBeatBoundary
  apply Outcome.kept_next
  dsimp only
  have g : Kept s0 (radioWatch (endBeat s)) := radioWatch_kept (endBeat_kept h)
  generalize radioWatch (endBeat s) = t at g ⊢
  cases hasPower s
  · exact h
  · simp only [Bool.true_eq_false, if_false, if_true]
    split
    · exact holdupBeat_kept g
    · exact beginBeat_kept g

end Sys2Proof.Machine
end

