-- ==== Sys2Proof/Laws/Kept/FuncReset.lean ====
section
/-! SUPPORT. What the operations of Machine/FuncReset.lean keep: the waiting commands, what was sent, the stored tables. -/
namespace Sys2Proof.Machine

theorem funcCounters_known {fn : Nat} {f : Fld} (h : f ∈ funcCounters fn) : f.known := by
  unfold funcCounters at h
  unfold Fld.known
  split at h <;> first
    | (exact absurd h (List.not_mem_nil))
    | (revert f; decide)

theorem execGetIdentity_kept {s0 : State} {x0 : Hdr} {x1 : List Byte} {x2 : State} (h : Kept s0 x2) :
    Outcome.kept s0 (execGetIdentity x0 x1 x2) := by
  unfold execGetIdentity
  try dsimp only
  with_reducible repeat' first
    | assumption | apply Outcome.kept_next | apply runCmd_kept | exact Ans.kept_fail | exact Ans.kept_refuse | apply Ans.kept_done | apply Ans.kept_doneAtBeat | apply Ans.kept_accept | apply Ans.kept_stays | apply Kept.foldl | apply Kept4.of | simp only [Kept.mk_iff] | split | intro _

theorem clearCounters_kept {s0 s : State} {fn : Nat} (h : Kept s0 s) : Kept s0 (clearCounters fn s) :=
  Kept.foldl_mem (fun _ hf _ ht => Kept.foldl (fun _ _ hu => wrI_kept (funcCounters_known hf) hu) ht) h

theorem resetInfeed_kept {s0 : State} {x0 : State} (h : Kept s0 x0) :
    Kept s0 (resetInfeed x0) := by
  unfold resetInfeed
  try dsimp only
  with_reducible repeat' first
    | assumption | apply fillTokens_kept | apply discardInfeed_kept | apply Kept.foldl | apply Kept4.of | simp only [Kept.mk_iff] | split | intro _

theorem resetLedger_kept {s0 : State} {x0 : State} (h : Kept s0 x0) :
    Kept s0 (resetLedger x0) := by
  unfold resetLedger
  try dsimp only
  with_reducible repeat' first
    | assumption | apply discardWork_kept | apply abandonAll_kept | apply Kept.foldl | apply Kept4.of | simp only [Kept.mk_iff] | split | intro _

theorem resetDisplay_kept {s0 : State} {x0 : State} (h : Kept s0 x0) :
    Kept s0 (resetDisplay x0) := by
  unfold resetDisplay
  try dsimp only
  with_reducible repeat' first
    | assumption | apply Kept.foldl | apply Kept4.of | simp only [Kept.mk_iff] | split | intro _

theorem resetDovetail_kept {s0 : State} {x0 : State} (h : Kept s0 x0) :
    Kept s0 (resetDovetail x0) := by
  unfold resetDovetail
  try dsimp only
  with_reducible repeat' first
    | assumption | apply clearPair_kept | apply resetPair_kept | apply Kept.foldl | apply Kept4.of | simp only [Kept.mk_iff] | split | intro _

theorem resetCounters_kept {s0 : State} {x0 : State} (h : Kept s0 x0) :
    Kept s0 (resetCounters x0) := by
  unfold resetCounters
  try dsimp only
  with_reducible repeat' first
    | assumption | apply Kept4.mem_filter | apply clearPc_kept | apply wr_kept | exact cfgFld_known _ | exact P52.SNAP_SEQ_known | apply Kept.foldl | apply Kept4.of | simp only [Kept.mk_iff] | split | intro _

theorem funcResetAct_kept {s0 : State} {x0 : Nat} {x1 : State} (h : Kept s0 x1) :
    Kept s0 (funcResetAct x0 x1) := by
  unfold funcResetAct
  try dsimp only
  with_reducible repeat' first
    | assumption | apply discardWork_kept | apply resetCounters_kept | apply dropBlocks_kept | apply resetPort_kept | apply restartCamp_kept | apply resetDovetail_kept | apply flushEvents_kept | apply reloadSlots_kept | apply abandonAll_kept | apply resetDisplay_kept | apply resetInfeed_kept | apply radioStop_kept | apply clearMemCounters_kept | apply abortRuns_kept | apply modCampaign_kept | apply resetLedger_kept | apply plcStop_kept | apply Kept.foldl | apply Kept4.of | simp only [Kept.mk_iff] | split | intro _

theorem funcResetBody_kept {s0 : State} {x0 : Hdr} {x1 : State} (h : Kept s0 x1) :
    Ans.kept s0 (funcResetBody x0 x1) := by
  unfold funcResetBody
  try dsimp only
  with_reducible repeat' first
    | assumption | apply funcResetAct_kept | apply clearCounters_kept | apply abortCmds_kept | apply fixMarks_kept | exact Ans.kept_fail | exact Ans.kept_refuse | apply Ans.kept_done | apply Ans.kept_doneAtBeat | apply Ans.kept_accept | apply Ans.kept_stays | apply Kept.foldl | apply Kept4.of | simp only [Kept.mk_iff] | split | intro _

theorem execFuncReset_kept {s0 : State} {x0 : Hdr} {x1 : List Byte} {x2 : State} (h : Kept s0 x2) :
    Outcome.kept s0 (execFuncReset x0 x1 x2) := by
  unfold execFuncReset
  try dsimp only
  with_reducible repeat' first
    | assumption | apply Outcome.kept_next | apply runCmd_kept | apply funcResetBody_kept | exact Ans.kept_fail | exact Ans.kept_refuse | apply Ans.kept_done | apply Ans.kept_doneAtBeat | apply Ans.kept_accept | apply Ans.kept_stays | apply Kept.foldl | apply Kept4.of | simp only [Kept.mk_iff] | split | intro _

theorem execFuncResetComplete_kept {s0 : State} {x0 : Nat} {x1 : State} (h : Kept s0 x1) :
    Outcome.kept s0 (execFuncResetComplete x0 x1) := by
  unfold execFuncResetComplete
  try dsimp only
  with_reducible repeat' first
    | assumption | apply Outcome.kept_next | apply radioStart_kept | apply finish_kept | apply plcStart_kept | apply Kept.foldl | apply Kept4.of | simp only [Kept.mk_iff] | split | intro _

end Sys2Proof.Machine
end

