-- ==== Sys2Proof/Laws/Kept/StartUp.lean ====
section
/-! SUPPORT. What the operations of Machine/StartUp.lean keep: the waiting commands, what was sent, the stored tables. -/
namespace Sys2Proof.Machine

theorem readBattery_kept {s0 : State} {x0 : BootIn} {x1 : State} (h : Kept s0 x1) :
    Kept s0 (readBattery x0 x1) := by
  unfold readBattery
  try dsimp only
  with_reducible repeat' first
    | assumption | apply Kept4.regs_filter | apply wr_kept | apply logEv_kept | exact P03.LEGAL_INVALID_known | apply Kept.foldl | apply Kept4.of | simp only [Kept.mk_iff] | split | intro _

theorem wipeFlash_kept {s0 : State} {x0 : State} (h : Kept s0 x0) :
    Kept s0 (wipeFlash x0) := by
  unfold wipeFlash
  try dsimp only
  with_reducible repeat' first
    | assumption | apply Kept4.regs_filter | apply wr_kept | exact P01.ROLE_known | exact P01.ROLE_ACTIVE_known | apply Kept.foldl | apply Kept4.of | simp only [Kept.mk_iff] | split | intro _

theorem formatTables_kept {s0 : State} {x0 : BootIn} {x1 : State} (h : Kept s0 x1) :
    Kept s0 (formatTables x0 x1) := by
  unfold formatTables
  try dsimp only
  with_reducible repeat' first
    | assumption | apply Kept.foldl | apply Kept4.of | simp only [Kept.mk_iff] | split | intro _

theorem formatStore_kept {s0 : State} {x0 : BootIn} {x1 : Bool} {x2 : State} (h : Kept s0 x2) :
    Kept s0 (formatStore x0 x1 x2) := by
  unfold formatStore
  try dsimp only
  with_reducible repeat' first
    | assumption | apply formatTables_kept | apply wipeFlash_kept | apply wr_kept | apply logEv_kept | exact P41.FORMATTED_known | apply Kept.foldl | apply Kept4.of | simp only [Kept.mk_iff] | split | intro _

theorem eraseWaiting_kept {s0 : State} {x0 : State} {x1 : Blk} (h : Kept s0 x0) :
    Kept s0 (eraseWaiting x0 x1) := by
  unfold eraseWaiting
  try dsimp only
  with_reducible repeat' first
    | assumption | apply postRec_kept | apply Kept.foldl | apply Kept4.of | simp only [Kept.mk_iff] | split | intro _

theorem closeTables_kept {s0 : State} {x0 : State} (h : Kept s0 x0) :
    Kept s0 (closeTables x0) := by
  unfold closeTables
  try dsimp only
  with_reducible repeat' first
    | assumption | apply eraseWaiting_kept | apply commitPending_kept | apply Kept.foldl | apply Kept4.of | simp only [Kept.mk_iff] | split | intro _

theorem restoreCopies_kept {s0 : State} {x0 : List (Chan × Nat × Nat)} {x1 : State} (h : Kept s0 x1) :
    Kept s0 (restoreCopies x0 x1) := by
  unfold restoreCopies
  try dsimp only
  with_reducible repeat' first
    | assumption | apply bump_kept | apply writeCopy_kept | apply wr_kept | apply logEv_kept | exact P41.LOST_COPIES_known | exact P41.REPLAY_REPAIRED_known | apply Kept.foldl | apply Kept4.of | simp only [Kept.mk_iff] | split | intro _

theorem noStore_kept {s0 : State} {x0 : Nat} {x1 : State} (h : Kept s0 x1) :
    Kept s0 (noStore x0 x1) := by
  unfold noStore
  try dsimp only
  with_reducible repeat' first
    | assumption | apply wr_kept | apply logEv_kept | exact P12.NO_DIE_PAIR_known | apply Kept.foldl | apply Kept4.of | simp only [Kept.mk_iff] | split | intro _

theorem readStore_kept {s0 : State} {x0 : BootIn} {x1 : State} (h : Kept s0 x1) :
    Kept s0 (readStore x0 x1) := by
  unfold readStore
  try dsimp only
  with_reducible repeat' first
    | assumption | apply noStore_kept | apply formatStore_kept | apply restoreCopies_kept | apply closeTables_kept | exact P41.FORMATTED_known | apply Kept.foldl | apply Kept4.of | simp only [Kept.mk_iff] | split | intro _

theorem countBoot_kept {s0 : State} {x0 : Bool} {x1 : State} (h : Kept s0 x1) :
    Kept s0 (countBoot x0 x1) := by
  unfold countBoot
  try dsimp only
  with_reducible repeat' first
    | assumption | apply bootTrial_kept | apply Kept.foldl | apply Kept4.of | simp only [Kept.mk_iff] | split | intro _

theorem checkMemory_kept {s0 : State} {x0 : BootIn} {x1 : Bool} {x2 : State} (h : Kept s0 x2) :
    Kept s0 (checkMemory x0 x1 x2) := by
  unfold checkMemory
  try dsimp only
  with_reducible repeat' first
    | assumption | apply wr_kept | apply logEv_kept | apply raiseCap_kept | exact P42.CH1_GIB_known | exact P01.DRAM_FOUND_known | exact P42.CH0_GIB_known | exact P10.ENROL_LIMIT_known | apply Kept.foldl | apply Kept4.of | simp only [Kept.mk_iff] | split | intro _

theorem startMedia_kept {s0 : State} {x0 : State} (h : Kept s0 x0) :
    Kept s0 (startMedia x0) := by
  unfold startMedia
  try dsimp only
  with_reducible repeat' first
    | assumption | apply radioStart_kept | apply wrI_kept | apply plcStart_kept | apply plcStartFc_kept | apply startFc_kept | exact P20.DEPTH_known | apply Kept.foldl | apply Kept4.of | simp only [Kept.mk_iff] | split | intro _

theorem discardGroups_kept {s0 : State} {x0 : List Group} {x1 : State} (h : Kept s0 x1) :
    Kept s0 (discardGroups x0 x1) := by
  unfold discardGroups
  try dsimp only
  with_reducible repeat' first
    | assumption | apply dropResults_kept | apply bumpI_kept | exact P12.GROUPS_DISCARDED_known | apply Kept.foldl | apply Kept4.of | simp only [Kept.mk_iff] | split | intro _

theorem againCopy_kept {s0 : State} {x0 : Chan} {x1 : State} {x2 : Nat × Nat × CopySt} (h : Kept s0 x1) :
    Kept s0 (againCopy x0 x1 x2) := by
  unfold againCopy
  try dsimp only
  with_reducible repeat' first
    | assumption | apply placeCopy_kept | apply modCopy_kept | apply Kept.foldl | apply Kept4.of | simp only [Kept.mk_iff] | split | intro _

theorem acceptTaken_kept {s0 : State} {x0 : State} (h : Kept s0 x0) :
    Kept s0 (acceptTaken x0) := by
  unfold acceptTaken
  try dsimp only
  with_reducible repeat' first
    | assumption | apply againCopy_kept | apply Kept.foldl | apply Kept4.of | simp only [Kept.mk_iff] | split | intro _

theorem decideReplay_kept {s0 : State} {x0 : State} (h : Kept s0 x0) :
    Kept s0 (decideReplay x0) := by
  unfold decideReplay
  try dsimp only
  with_reducible repeat' first
    | assumption | apply postEntry_kept | apply acceptTaken_kept | apply wr_kept | apply discardGroups_kept | exact P12.LAST_GROUP_known | apply Kept.foldl | apply Kept4.of | simp only [Kept.mk_iff] | split | intro _

theorem replayGroups_kept {s0 : State} {x0 : State} (h : Kept s0 x0) :
    Kept s0 (replayGroups x0) := by
  unfold replayGroups
  try dsimp only
  with_reducible repeat' first
    | assumption | apply applyDue_kept | apply resetPair_kept | apply releaseGroup_kept | apply Kept.foldl | apply Kept4.of | simp only [Kept.mk_iff] | split | intro _

theorem resumeSessions_kept {s0 : State} {x0 : State} (h : Kept s0 x0) :
    Kept s0 (resumeSessions x0) := by
  unfold resumeSessions
  try dsimp only
  with_reducible repeat' first
    | assumption | apply Kept.foldl | apply Kept4.of | simp only [Kept.mk_iff] | split | intro _

theorem rebuildMaps_kept {s0 : State} {x0 : State} (h : Kept s0 x0) :
    Kept s0 (rebuildMaps x0) := by
  unfold rebuildMaps
  try dsimp only
  with_reducible repeat' first
    | assumption | apply Kept.foldl | apply Kept4.of | simp only [Kept.mk_iff] | split | intro _

theorem abandonReplay_kept {s0 : State} {x0 : State} (h : Kept s0 x0) :
    Kept s0 (abandonReplay x0) := by
  unfold abandonReplay
  try dsimp only
  with_reducible repeat' first
    | assumption | apply Kept.foldl | apply Kept4.of | simp only [Kept.mk_iff] | split | intro _

theorem rebuildRuns_kept {s0 : State} {x0 : Nat} {x1 : Nat} {x2 : State} (h : Kept s0 x2) :
    Kept s0 (rebuildRuns x0 x1 x2) := by
  unfold rebuildRuns
  try dsimp only
  with_reducible repeat' first
    | assumption | apply setAnom_kept | apply Kept.foldl | apply Kept4.of | simp only [Kept.mk_iff] | split | intro _

theorem groupRuns_kept {s0 : State} {x0 : State} {x1 : Nat} (h : Kept s0 x0) :
    Kept s0 (groupRuns x0 x1) := by
  unfold groupRuns
  try dsimp only
  with_reducible repeat' first
    | assumption | apply rebuildRuns_kept | apply Kept.foldl | apply Kept4.of | simp only [Kept.mk_iff] | split | intro _

theorem restoreTally_kept {s0 : State} {x0 : State} (h : Kept s0 x0) :
    Kept s0 (restoreTally x0) := by
  unfold restoreTally
  try dsimp only
  with_reducible repeat' first
    | assumption | apply groupRuns_kept | apply tallyFields_kept | apply Kept.foldl | apply Kept4.of | simp only [Kept.mk_iff] | split | intro _

theorem resumeItem_kept {s0 : State} {x0 : Camp} {x1 : DlItem} {x2 : State} (h : Kept s0 x2) :
    Kept s0 (resumeItem x0 x1 x2) := by
  unfold resumeItem
  try dsimp only
  with_reducible repeat' first
    | assumption | apply campConcluded_kept | apply campLeft_kept | apply Kept.foldl | apply Kept4.of | simp only [Kept.mk_iff] | split | intro _

theorem resumeMeter_kept {s0 : State} {x0 : Camp} {x1 : State} {x2 : CampMeter} (h : Kept s0 x1) :
    Kept s0 (resumeMeter x0 x1 x2) := by
  unfold resumeMeter
  try dsimp only
  with_reducible repeat' first
    | assumption | apply activateMeter_kept | apply abortMeter_kept | apply resumeItem_kept | apply meterStep10_kept | apply createItem_kept | apply Kept.foldl | apply Kept4.of | simp only [Kept.mk_iff] | split | intro _

theorem resumeCampaigns_kept {s0 : State} {x0 : State} (h : Kept s0 x0) :
    Kept s0 (resumeCampaigns x0) := by
  unfold resumeCampaigns
  try dsimp only
  with_reducible repeat' first
    | assumption | apply resumeMeter_kept | apply Kept.foldl | apply Kept4.of | simp only [Kept.mk_iff] | split | intro _

theorem resumePart_kept {s0 : State} {x0 : Push} {x1 : State} {x2 : Nat} (h : Kept s0 x1) :
    Kept s0 (resumePart x0 x1 x2) := by
  unfold resumePart
  try dsimp only
  with_reducible repeat' first
    | assumption | apply pushProgress_kept | apply createItem_kept | exact P60.DL_ATTEMPTS_known | apply Kept.foldl | apply Kept4.of | simp only [Kept.mk_iff] | split | intro _

theorem resumePushes_kept {s0 : State} {x0 : State} (h : Kept s0 x0) :
    Kept s0 (resumePushes x0) := by
  unfold resumePushes
  try dsimp only
  with_reducible repeat' first
    | assumption | apply resumePart_kept | apply tariffEntry_kept | apply Kept.foldl | apply Kept4.of | simp only [Kept.mk_iff] | split | intro _

theorem replay_kept {s0 : State} {x0 : Bool} {x1 : State} (h : Kept s0 x1) :
    Kept s0 (replay x0 x1) := by
  unfold replay
  try dsimp only
  with_reducible repeat' first
    | assumption | apply resumeCampaigns_kept | apply restartCamp_kept | apply rebuildTails_kept | apply resumePushes_kept | apply restoreTally_kept | apply undoFills_kept | apply abortCmds_kept | apply abandonReplay_kept | apply resumeSessions_kept | apply replayGroups_kept | apply legalRepost_kept | apply fixMarks_kept | apply decideReplay_kept | apply rebuildMaps_kept | apply Kept.foldl | apply Kept4.of | simp only [Kept.mk_iff] | split | intro _

theorem countFields_kept {s0 : State} {x0 : State} (h : Kept s0 x0) :
    Kept s0 (countFields x0) := by
  unfold countFields
  try dsimp only
  with_reducible repeat' first
    | assumption | apply joinCount_kept | apply ftlFields_kept | apply keyFields_kept | apply fwCampFields_kept | apply radCounts_kept | apply evFields_kept | apply dmaFields_kept | apply tallyFields_kept | apply repFields_kept | apply campFields_kept | apply dlCount_kept | apply meterCount_kept | apply strFieldsAll_kept | apply Kept.foldl | apply Kept4.of | simp only [Kept.mk_iff] | split | intro _

theorem storeFields_kept {s0 : State} {x0 : State} (h : Kept s0 x0) :
    Kept s0 (storeFields x0) := by
  unfold storeFields
  try dsimp only
  with_reducible repeat' first
    | assumption | apply checkSpace_kept | apply checkWorn_kept | apply wr_kept | exact P12.WORN_known | exact P12.NO_DIE_PAIR_known | exact P12.SINGLE_COPY_known | exact P41.MAP_SINGLE_known | exact P41.WORN_known | apply Kept.foldl | apply Kept4.of | simp only [Kept.mk_iff] | split | intro _

theorem stopAt_kept {s0 : State} {x0 : Nat} {x1 : State} (h : Kept s0 x1) :
    Kept s0 (stopAt x0 x1) := by
  unfold stopAt
  try dsimp only
  with_reducible repeat' first
    | assumption | apply Kept.foldl | apply Kept4.of | simp only [Kept.mk_iff] | split | intro _

theorem startRest_kept {s0 : State} {x0 : BootIn} {x1 : Bool} {x2 : State} (h : Kept s0 x2) :
    Kept s0 (startRest x0 x1 x2) := by
  unfold startRest
  try dsimp only
  with_reducible repeat' first
    | assumption | apply wrB_kept | apply stopAt_kept | apply tryRun_kept | apply postP256_kept | apply legalResume_kept | apply checkMemory_kept | apply countFields_kept | apply storeFields_kept | apply replay_kept | apply keyStoreRead_kept | apply startMedia_kept | exact P40.ENTROPY_OK_known | apply Kept.foldl | apply Kept4.of | simp only [Kept.mk_iff] | split | intro _

theorem execStartUp_kept {s0 : State} {x0 : BootIn} {x1 : State} (h : Kept s0 x1) :
    Outcome.kept s0 (execStartUp x0 x1) := by
  unfold execStartUp
  try dsimp only
  with_reducible repeat' first
    | assumption | apply Outcome.kept_next | apply stopAt_kept | apply readStore_kept | apply countBoot_kept | apply readBattery_kept | apply startRest_kept | apply Kept.foldl | apply Kept4.of | simp only [Kept.mk_iff] | split | intro _

theorem execPresenceCheckpoint_kept {s0 : State} {x0 : State} (h : Kept s0 x0) :
    Outcome.kept s0 (execPresenceCheckpoint x0) := by
  unfold execPresenceCheckpoint
  try dsimp only
  with_reducible repeat' first
    | assumption | apply Outcome.kept_next | apply writePages_kept | apply Kept.foldl | apply Kept4.of | simp only [Kept.mk_iff] | split | intro _

end Sys2Proof.Machine
end

