-- ==== Sys2Proof/Laws/Link.lean ====
section
/-! SUPPORT. What counting an event, putting a packet on a port and logging an event can change. -/
namespace Sys2Proof.Machine

/-- From `s` to `t` only performance counters moved: fields of page 0x52 and the counters' windows. -/
structure Counted (s t : State) : Prop where
  rest : t = { s with regs := t.regs, ctr := t.ctr }
  regs : s.tidy = true → ∀ f i, f.known → f.page ≠ 0x52 → rdI t f i = rdI s f i
  tidy : s.tidy = true → t.tidy = true

theorem Counted.refl (s : State) : Counted s s := ⟨rfl, fun _ _ _ _ _ => rfl, id⟩

theorem Counted.trans {s t u : State} (h : Counted s t) (g : Counted t u) : Counted s u := by
  refine ⟨?_, fun x f i hf hp => (g.regs (h.tidy x) f i hf hp).trans (h.regs x f i hf hp), fun x => g.tidy (h.tidy x)⟩
  rw [g.rest, h.rest]

theorem Counted.wr {s : State} {f : Fld} {v : Nat} (hf : f.known) (hp : f.page = 0x52) : Counted s (wr f v s) := by
  refine ⟨rfl, fun x g i hg hq => rdI_wrI_other hf hg (.inl (by rw [hp]; exact fun e => hq e.symm)) x, fun x => ?_⟩
  simp only [State.tidy, Bool.and_eq_true] at x ⊢
  exact ⟨wrI_regsWf hf x.1, x.2⟩

theorem pcFld_on_page (n : Nat) : (pcFld n).known ∧ (pcFld n).page = 0x52 := by
  unfold pcFld
  split <;> exact ⟨pageFields_known (p := 0x52) (by simp [pageFields, fields52]), rfl⟩

theorem pcAdd_counted {n k : Nat} {s : State} : Counted s (pcAdd n k s) := by
  unfold pcAdd
  dsimp only
  split
  · split
    · exact Counted.wr (pcFld_on_page n).1 (pcFld_on_page n).2
    · exact (Counted.wr (pcFld_on_page n).1 (pcFld_on_page n).2).trans (Counted.wr P52.WRAP_known rfl)
  · have h : Counted s { s with ctr := { s.ctr with win := s.ctr.win.set n (min (s.ctr.win.getD n 0 + k) (2 ^ 48 - 1)) } } :=
      ⟨rfl, fun _ _ _ _ _ => rfl, id⟩
    split
    · exact h
    · exact h.trans (Counted.wr P52.WRAP_known rfl)

theorem countIf_counted {ev k : Nat} {ok : Nat → Bool} {s : State} : Counted s (countIf ev ok k s) := by
  unfold countIf
  generalize List.range 8 = l
  induction l generalizing s with
  | nil => exact Counted.refl s
  | cons x l ih =>
    simp only [List.foldl_cons]
    split
    · exact pcAdd_counted.trans ih
    · exact ih

theorem count_counted {ev q k : Nat} {s : State} : Counted s (count ev q k s) := countIf_counted

/-- From `s` to `t` only port `p` and the performance counters moved, and what was sent besides are data frames of `p`. -/
structure Linked (p : Port) (s t : State) : Prop where
  rest : t = { s with chain := t.chain, regs := t.regs, ctr := t.ctr, out := t.out }
  chain : t.chain = (setPort p (portOf t p) s).chain
  sent : ∃ l, t.out = s.out ++ l ∧ ∀ o ∈ l, ∃ a b c d, o = .linkData p a b c d
  regs : s.tidy = true → ∀ f i, f.known → f.page ≠ 0x52 → rdI t f i = rdI s f i
  tidy : s.tidy = true → t.tidy = true

theorem Linked.refl (p : Port) (s : State) : Linked p s s := by
  refine ⟨rfl, ?_, ⟨[], by simp, by simp⟩, fun _ _ _ _ _ => rfl, id⟩
  cases p <;> rfl

theorem Linked.trans {p : Port} {s t u : State} (h : Linked p s t) (g : Linked p t u) : Linked p s u := by
  refine ⟨?_, ?_, ?_, fun x f i hf hp => (g.regs (h.tidy x) f i hf hp).trans (h.regs x f i hf hp),
    fun x => g.tidy (h.tidy x)⟩
  · rw [g.rest, h.rest]
  · rw [g.chain]
    have e := h.chain
    cases p <;> simp only [setPort, portOf] at e ⊢ <;> rw [e]
  · obtain ⟨l, e, hl⟩ := h.sent
    obtain ⟨m, f, hm⟩ := g.sent
    refine ⟨l ++ m, by rw [f, e, List.append_assoc], ?_⟩
    intro o ho
    rcases List.mem_append.mp ho with ho | ho
    · exact hl o ho
    · exact hm o ho

theorem Linked.port {p : Port} {x : PortState} {s : State} : Linked p s (setPort p x s) := by
  refine ⟨?_, ?_, ⟨[], by simp, by simp⟩, ?_, ?_⟩
  · cases p <;> rfl
  · cases p <;> rfl
  · intro _ f i _ _; cases p <;> rfl
  · intro h; cases p <;> exact h

theorem Linked.counted {p : Port} {s t : State} (h : Counted s t) : Linked p s t := by
  refine ⟨?_, ?_, ⟨[], ?_, by simp⟩, h.regs, h.tidy⟩
  · rw [h.rest]
  · rw [h.rest]; cases p <;> rfl
  · rw [h.rest]; simp

theorem Linked.data {p : Port} {a b c : Nat} {d : List Byte} {s : State} : Linked p s (emit (.linkData p a b c d) s) := by
  refine ⟨rfl, ?_, ⟨[_], rfl, by simp⟩, fun _ _ _ _ _ => rfl, id⟩
  cases p <;> rfl

theorem sentOn_linked {p : Port} {n : Nat} {s : State} : Linked p s (sentOn p n s) :=
  Linked.port.trans (Linked.counted count_counted)

theorem sendFrame_linked {p : Port} {k : LinkPkt} {s : State} : Linked p s (sendFrame p k s) := by
  unfold sendFrame
  exact (Linked.port.trans sentOn_linked).trans Linked.data

theorem pump_linked {p : Port} {s : State} : Linked p s (pump p s) := by
  unfold pump
  dsimp only
  generalize (List.take _ _) = l
  generalize hs : setPort p _ s = u
  have h : Linked p s u := hs ▸ Linked.port
  clear hs
  induction l generalizing u with
  | nil => exact h
  | cons x l ih => exact ih _ (h.trans sendFrame_linked)

/-- A packet put on a port's queue changes that port and counters alone. -/
theorem linkSend_linked {p : Port} {k : List Byte} {s : State} : Linked p s (linkSend p k s) :=
  Linked.port.trans pump_linked

/-- From `s` to `t` an event was logged: the recorder, the notice counter, the time of the last fault, port U, counters and
pages 0x51 and 0x52 may have moved, and what was sent besides are notices and the data frames of port U that carry them. -/
structure Logged (s t : State) : Prop where
  rest : t = { s with ev := t.ev, cmd := { s.cmd with noticeCounter := t.cmd.noticeCounter },
                      pair := { s.pair with faultAt := t.pair.faultAt }, chain := { s.chain with u := t.chain.u },
                      regs := t.regs, ctr := t.ctr, out := t.out }
  sent : ∃ l, t.out = s.out ++ l ∧ ∀ o ∈ l, (∃ n e, o = .notice n e) ∨ ∃ a b c d, o = .linkData .u a b c d
  regs : s.tidy = true → ∀ f i, f.known → f.page ≠ 0x51 → f.page ≠ 0x52 → rdI t f i = rdI s f i
  tidy : s.tidy = true → t.tidy = true

theorem Logged.refl (s : State) : Logged s s := ⟨rfl, ⟨[], by simp, by simp⟩, fun _ _ _ _ _ _ => rfl, id⟩

theorem Logged.trans {s t u : State} (h : Logged s t) (g : Logged t u) : Logged s u := by
  refine ⟨?_, ?_, fun x f i hf hp hq => (g.regs (h.tidy x) f i hf hp hq).trans (h.regs x f i hf hp hq),
    fun x => g.tidy (h.tidy x)⟩
  · rw [g.rest, h.rest]
  · obtain ⟨l, e, hl⟩ := h.sent
    obtain ⟨m, f, hm⟩ := g.sent
    refine ⟨l ++ m, by rw [f, e, List.append_assoc], ?_⟩
    intro o ho
    rcases List.mem_append.mp ho with ho | ho
    · exact hl o ho
    · exact hm o ho

theorem Logged.counted {s t : State} (h : Counted s t) : Logged s t := by
  refine ⟨?_, ⟨[], ?_, by simp⟩, fun x f i hf _ hq => h.regs x f i hf hq, h.tidy⟩
  · rw [h.rest]
  · rw [h.rest]; simp

theorem Logged.linked {s t : State} (h : Linked .u s t) : Logged s t := by
  refine ⟨?_, ?_, fun x f i hf _ hq => h.regs x f i hf hq, h.tidy⟩
  · have r := h.rest
    have c : t.chain = { s.chain with u := t.chain.u } := h.chain
    rw [c] at r
    have e : t.ev = s.ev := by rw [r]
    have m : t.cmd = s.cmd := by rw [r]
    have q : t.pair = s.pair := by rw [r]
    rw [e, m, q]
    exact r
  · obtain ⟨l, e, hl⟩ := h.sent
    exact ⟨l, e, fun o ho => .inr (hl o ho)⟩

theorem Logged.wr {s : State} {f : Fld} {v : Nat} (hf : f.known) (hp : f.page = 0x51) : Logged s (wr f v s) := by
  refine ⟨rfl, ⟨[], by simp, by simp⟩,
    fun x g i hg hq _ => rdI_wrI_other hf hg (.inl (by rw [hp]; exact fun e => hq e.symm)) x, fun x => ?_⟩
  simp only [State.tidy, Bool.and_eq_true] at x ⊢
  exact ⟨wrI_regsWf hf x.1, x.2⟩

theorem evFields_logged {s : State} : Logged s (evFields s) :=
  (Logged.wr P51.OLDEST_SEQ_known rfl).trans (Logged.wr P51.CACHE_PENDING_known rfl)

theorem postNotice_logged {e : EvRec} {s : State} : Logged s (postNotice e s) := by
  unfold postNotice sendNotice
  split
  · dsimp only
    refine Logged.trans ?_ (Logged.linked linkSend_linked)
    exact ⟨rfl, ⟨[_], rfl, by simp⟩, fun _ _ _ _ _ _ => rfl, id⟩
  · exact ⟨rfl, ⟨[], by simp, by simp⟩, fun _ _ _ _ _ _ => rfl, id⟩

theorem record_logged {c : Nat} {d : List Byte} {s : State} : Logged s (record c d s) := by
  unfold record
  dsimp only
  generalize (mkEvent c d s) = e
  have h : ∀ x : EvSt, Logged s { s with ev := x } := fun _ =>
    ⟨rfl, ⟨[], by simp, by simp⟩, fun _ _ _ _ _ _ => rfl, id⟩
  have g := fun x : EvSt => (((h x).trans (Logged.wr (v := e.seq + 1) P51.NEXT_SEQ_known rfl)).trans evFields_logged).trans
    (Logged.counted (countIf_counted (ev := 0x16) (ok := fun q => decide (q ≤ severity c)) (k := 1)))
  split
  · exact (g _).trans postNotice_logged
  · exact g _

theorem logDropped_logged {s : State} : Logged s (logDropped s) := by
  unfold logDropped
  generalize (s.ev.dropOwed && _) = due
  dsimp only
  split
  · refine Logged.trans ?_ record_logged
    exact ⟨rfl, ⟨[], by simp, by simp⟩, fun _ _ _ _ _ _ => rfl, id⟩
  · exact Logged.refl s

/-- Logging an event changes the recorder, counters and pages 0x51 and 0x52 alone, and sends only notices. -/
theorem logEv_logged {c : Nat} {d : List Byte} {s : State} : Logged s (logEv c d s) := by
  unfold logEv
  dsimp only
  have h : Logged s (if 2 ≤ severity c then { s with pair := { s.pair with faultAt := some s.beat.ticks } } else s) := by
    split
    · exact ⟨rfl, ⟨[], by simp, by simp⟩, fun _ _ _ _ _ _ => rfl, id⟩
    · exact Logged.refl s
  generalize (if 2 ≤ severity c then _ else s) = u at h
  split
  · exact h.trans record_logged
  · refine h.trans (Logged.trans ?_ logDropped_logged)
    refine (Logged.wr (v := satAdd P51.EVENTS_LOST.width (rdI u P51.EVENTS_LOST 0) 1) P51.EVENTS_LOST_known rfl).trans ?_
    exact ⟨rfl, ⟨[], by simp, by simp⟩, fun _ _ _ _ _ _ => rfl, id⟩

end Sys2Proof.Machine
end

