-- ==== Sys2Proof/Laws/PerInstr.lean ====
section
/-! SUPPORT. What every well-formed command that carries a packet header says of it: one law per constructor (02 Tables 02-1,
02-6). -/
namespace Sys2Proof.Laws

/-- The opcode, header and payload that a host command carries; a field write carries no payload of its own, an event no
packet. -/
def packetOf (i : Instr) : Option (Nat × Hdr × Option (List Byte)) :=
  match i with
  | .nop h p => some (0x00, h, some p)
  | .openSession h p => some (0x01, h, some p)
  | .closeSession h p => some (0x02, h, some p)
  | .getSession h p => some (0x03, h, some p)
  | .getIdentity h p => some (0x04, h, some p)
  | .getStatus h p => some (0x05, h, some p)
  | .funcReset h p => some (0x06, h, some p)
  | .devReset h p => some (0x07, h, some p)
  | .pwrCycleReq h p => some (0x08, h, some p)
  | .enumerate h p => some (0x10, h, some p)
  | .getLinkStatus h p => some (0x11, h, some p)
  | .setLegalTime h p _ => some (0x12, h, some p)
  | .setSlotTime h p => some (0x13, h, some p)
  | .getTime h p => some (0x14, h, some p)
  | .getParam h p => some (0x20, h, some p)
  | .setParam h p _ => some (0x21, h, some p)
  | .getParamDefaults h p => some (0x22, h, some p)
  | .restoreDefaults h p => some (0x23, h, some p)
  | .ingestBatch h p => some (0x30, h, some p)
  | .getBatchStatus h p => some (0x31, h, some p)
  | .enrolMeter h p => some (0x32, h, some p)
  | .retireMeter h p => some (0x33, h, some p)
  | .loadProfileTemplate h p => some (0x34, h, some p)
  | .streamOpen h p => some (0x35, h, some p)
  | .streamClose h p => some (0x36, h, some p)
  | .streamData h p => some (0x37, h, some p)
  | .getMeter h p => some (0x38, h, some p)
  | .setRules h p => some (0x39, h, some p)
  | .editReading h p => some (0x3A, h, some p)
  | .exportOpen h p => some (0x40, h, some p)
  | .exportRead h p => some (0x41, h, some p)
  | .exportAck h p => some (0x42, h, some p)
  | .exportClose h p => some (0x43, h, some p)
  | .ledgerQuery h p => some (0x44, h, some p)
  | .ledgerStatus h p => some (0x45, h, some p)
  | .dlQueue h p => some (0x50, h, some p)
  | .dlUrgent h p => some (0x51, h, some p)
  | .dlStatus h p => some (0x52, h, some p)
  | .dlCancel h p => some (0x53, h, some p)
  | .tariffPush h p => some (0x54, h, some p)
  | .campaignCreate h p => some (0x55, h, some p)
  | .campaignControl h p => some (0x56, h, some p)
  | .campaignStatus h p => some (0x57, h, some p)
  | .balanceGroupSet h p => some (0x58, h, some p)
  | .scribeCampaign h p => some (0x59, h, some p)
  | .tallyQuery h p => some (0x5A, h, some p)
  | .radioNeighbours h p => some (0x5B, h, some p)
  | .plcRoutes h p => some (0x5C, h, some p)
  | .keyImport h p data => some (0x60, h, some (p ++ data))
  | .keyGenerate h p => some (0x61, h, some p)
  | .keyZeroise h p => some (0x62, h, some p)
  | .keyInfo h p => some (0x63, h, some p)
  | .pubkeyExport h p => some (0x64, h, some p)
  | .keyAgree h p _ => some (0x65, h, some p)
  | .imageBegin h p => some (0x70, h, some p)
  | .imageBlock h p => some (0x71, h, some p)
  | .imageCommit h p _ => some (0x72, h, some p)
  | .imageActivate h p => some (0x73, h, some p)
  | .imageStatus h p => some (0x74, h, some p)
  | .meterImageLoad h p => some (0x75, h, some p)
  | .eventRead h p => some (0x80, h, some p)
  | .counterRead h p => some (0x81, h, some p)
  | .counterConfig h p => some (0x82, h, some p)
  | .memRead h p => some (0x83, h, some p)
  | .dmaStart h p => some (0x84, h, some p)
  | .selfTest h p => some (0x85, h, some p)
  | .ftlStatus h p => some (0x86, h, some p)
  | .pair h p _ => some (0x90, h, some p)
  | .unpair h p => some (0x91, h, some p)
  | .pairStatus h p => some (0x92, h, some p)
  | .resolveDivergence h p => some (0x93, h, some p)
  | .promote h p => some (0x94, h, some p)
  | .readRegisters h p => some (0xA0, h, some p)
  | .readBillingSet h p => some (0xA1, h, some p)
  | .calendarLoad h p _ => some (0xA2, h, some p)
  | .calendarActivate h p _ => some (0xA3, h, some p)
  | .calibrate h p _ => some (0xA4, h, some p)
  | .billingClose h p _ => some (0xA5, h, some p)
  | .displayList h p => some (0xA6, h, some p)
  | .outputControl h p => some (0xA7, h, some p)
  | .legalLogRead h p => some (0xA8, h, some p)
  | .roleWrite h _ => some (0x21, h, none)
  | .radioEnWrite h _ => some (0x21, h, none)
  | .plcEnWrite h _ => some (0x21, h, none)
  | .metroEnWrite h _ => some (0x21, h, none)
  | .powerCapWrite h _ => some (0x21, h, none)
  | .holdCWrite h _ => some (0x21, h, none)
  | .holdDivWrite h _ => some (0x21, h, none)
  | .cMeasClear h => some (0x21, h, none)
  | .ethertypeWrite h _ => some (0x21, h, none)
  | .radioChannelEnWrite h _ _ => some (0x21, h, none)
  | .plcPhaseEnWrite h _ _ => some (0x21, h, none)
  | .legalUpdModeWrite h _ _ => some (0x21, h, none)
  | .sealCalWrite h _ _ => some (0x21, h, none)
  | .legalKeyWrite h _ _ => some (0x21, h, none)
  | .plainImportWrite h _ => some (0x21, h, none)
  | .tamperSeenClear h => some (0x21, h, none)
  | .wrapClear h _ => some (0x21, h, none)
  | .profilePeriodWrite h _ _ => some (0x21, h, none)
  | .demandSettingWrite h _ _ _ _ => some (0x21, h, none)
  | .tzDstWrite h _ _ => some (0x21, h, none)
  | _ => none

/-- A well-formed command that carries a header carries its own opcode and, of a host command, the length of its payload, in
a header whose fields fit. -/
def Headed.Statement (i : Instr) : Prop :=
  i.wellFormed = true → ∀ op h p, packetOf i = some (op, h, p) →
    h.fits = true ∧ h.opcode = op ∧ ∀ d, p = some d → h.len = d.length ∧ d.length ≤ 8192

/-- The law of a host command. -/
theorem headed_of_host (op : Nat) (h : Hdr) (p : List Byte) (hw : hostCheck op h p = none) :
    h.fits = true ∧ h.opcode = op ∧ h.len = p.length ∧ p.length ≤ 8192 := by
  unfold hostCheck at hw
  split at hw
  · cases hw
  · split at hw
    · cases hw
    · split at hw
      · cases hw
      · rename_i h1 h2 h3
        exact ⟨by simpa using h1, by omega, by omega, by omega⟩

/-- The law of a field write. -/
theorem headed_of_field (h : Hdr) (ok : Bool) (hw : fieldCheck h ok = none) : h.fits = true ∧ h.opcode = 0x21 := by
  unfold fieldCheck at hw
  split at hw
  · cases hw
  · split at hw
    · cases hw
    · rename_i h1 h2
      exact ⟨by simpa using h1, by simpa using h2⟩

/-- The law from a host command's check. -/
theorem headed_host {i : Instr} {op : Nat} {h : Hdr} {p : List Byte} (hp : packetOf i = some (op, h, some p))
    (hc : i.check = hostCheck op h p) : Headed.Statement i := by
  intro hw op1 h1 p1 he
  rw [hp] at he
  obtain ⟨rfl, rfl, rfl⟩ : op = op1 ∧ h = h1 ∧ some p = p1 := by simpa using he
  obtain ⟨a, b, c, d⟩ := headed_of_host op h p (by simpa [Instr.wellFormed, hc] using hw)
  exact ⟨a, b, fun x hx => by cases hx; exact ⟨c, d⟩⟩

/-- The law from a field write's check. -/
theorem headed_field {i : Instr} {h : Hdr} {ok : Bool} (hp : packetOf i = some (0x21, h, none))
    (hc : i.check = fieldCheck h ok) : Headed.Statement i := by
  intro hw op1 h1 p1 he
  rw [hp] at he
  obtain ⟨rfl, rfl, rfl⟩ : 0x21 = op1 ∧ h = h1 ∧ none = p1 := by simpa using he
  obtain ⟨a, b⟩ := headed_of_field h ok (by simpa [Instr.wellFormed, hc] using hw)
  exact ⟨a, b, fun x hx => by cases hx⟩

/-- The law of a command without a packet. -/
theorem headed_none {i : Instr} (hp : packetOf i = none) : Headed.Statement i := by
  intro _ op h p he
  rw [hp] at he
  cases he

theorem Headed.nop (h : Hdr) (p : List Byte) : Headed.Statement (.nop h p) := headed_host rfl rfl
theorem Headed.openSession (h : Hdr) (p : List Byte) : Headed.Statement (.openSession h p) := headed_host rfl rfl
theorem Headed.closeSession (h : Hdr) (p : List Byte) : Headed.Statement (.closeSession h p) := headed_host rfl rfl
theorem Headed.getSession (h : Hdr) (p : List Byte) : Headed.Statement (.getSession h p) := headed_host rfl rfl
theorem Headed.getIdentity (h : Hdr) (p : List Byte) : Headed.Statement (.getIdentity h p) := headed_host rfl rfl
theorem Headed.getStatus (h : Hdr) (p : List Byte) : Headed.Statement (.getStatus h p) := headed_host rfl rfl
theorem Headed.funcReset (h : Hdr) (p : List Byte) : Headed.Statement (.funcReset h p) := headed_host rfl rfl
theorem Headed.devReset (h : Hdr) (p : List Byte) : Headed.Statement (.devReset h p) := headed_host rfl rfl
theorem Headed.pwrCycleReq (h : Hdr) (p : List Byte) : Headed.Statement (.pwrCycleReq h p) := headed_host rfl rfl
theorem Headed.enumerate (h : Hdr) (p : List Byte) : Headed.Statement (.enumerate h p) := headed_host rfl rfl
theorem Headed.getLinkStatus (h : Hdr) (p : List Byte) : Headed.Statement (.getLinkStatus h p) := headed_host rfl rfl
theorem Headed.setLegalTime (h : Hdr) (p : List Byte) (sigOk : Bool) : Headed.Statement (.setLegalTime h p sigOk) :=
  headed_host rfl rfl
theorem Headed.setSlotTime (h : Hdr) (p : List Byte) : Headed.Statement (.setSlotTime h p) := headed_host rfl rfl
theorem Headed.getTime (h : Hdr) (p : List Byte) : Headed.Statement (.getTime h p) := headed_host rfl rfl
theorem Headed.getParam (h : Hdr) (p : List Byte) : Headed.Statement (.getParam h p) := headed_host rfl rfl
theorem Headed.setParam (h : Hdr) (p : List Byte) (sigOk : Bool) : Headed.Statement (.setParam h p sigOk) :=
  headed_host rfl rfl
theorem Headed.getParamDefaults (h : Hdr) (p : List Byte) : Headed.Statement (.getParamDefaults h p) :=
  headed_host rfl rfl
theorem Headed.restoreDefaults (h : Hdr) (p : List Byte) : Headed.Statement (.restoreDefaults h p) :=
  headed_host rfl rfl
theorem Headed.ingestBatch (h : Hdr) (p : List Byte) : Headed.Statement (.ingestBatch h p) := headed_host rfl rfl
theorem Headed.getBatchStatus (h : Hdr) (p : List Byte) : Headed.Statement (.getBatchStatus h p) := headed_host rfl rfl
theorem Headed.enrolMeter (h : Hdr) (p : List Byte) : Headed.Statement (.enrolMeter h p) := headed_host rfl rfl
theorem Headed.retireMeter (h : Hdr) (p : List Byte) : Headed.Statement (.retireMeter h p) := headed_host rfl rfl
theorem Headed.loadProfileTemplate (h : Hdr) (p : List Byte) : Headed.Statement (.loadProfileTemplate h p) :=
  headed_host rfl rfl
theorem Headed.streamOpen (h : Hdr) (p : List Byte) : Headed.Statement (.streamOpen h p) := headed_host rfl rfl
theorem Headed.streamClose (h : Hdr) (p : List Byte) : Headed.Statement (.streamClose h p) := headed_host rfl rfl
theorem Headed.streamData (h : Hdr) (p : List Byte) : Headed.Statement (.streamData h p) := headed_host rfl rfl
theorem Headed.getMeter (h : Hdr) (p : List Byte) : Headed.Statement (.getMeter h p) := headed_host rfl rfl
theorem Headed.setRules (h : Hdr) (p : List Byte) : Headed.Statement (.setRules h p) := headed_host rfl rfl
theorem Headed.editReading (h : Hdr) (p : List Byte) : Headed.Statement (.editReading h p) := headed_host rfl rfl
theorem Headed.exportOpen (h : Hdr) (p : List Byte) : Headed.Statement (.exportOpen h p) := headed_host rfl rfl
theorem Headed.exportRead (h : Hdr) (p : List Byte) : Headed.Statement (.exportRead h p) := headed_host rfl rfl
theorem Headed.exportAck (h : Hdr) (p : List Byte) : Headed.Statement (.exportAck h p) := headed_host rfl rfl
theorem Headed.exportClose (h : Hdr) (p : List Byte) : Headed.Statement (.exportClose h p) := headed_host rfl rfl
theorem Headed.ledgerQuery (h : Hdr) (p : List Byte) : Headed.Statement (.ledgerQuery h p) := headed_host rfl rfl
theorem Headed.ledgerStatus (h : Hdr) (p : List Byte) : Headed.Statement (.ledgerStatus h p) := headed_host rfl rfl
theorem Headed.dlQueue (h : Hdr) (p : List Byte) : Headed.Statement (.dlQueue h p) := headed_host rfl rfl
theorem Headed.dlUrgent (h : Hdr) (p : List Byte) : Headed.Statement (.dlUrgent h p) := headed_host rfl rfl
theorem Headed.dlStatus (h : Hdr) (p : List Byte) : Headed.Statement (.dlStatus h p) := headed_host rfl rfl
theorem Headed.dlCancel (h : Hdr) (p : List Byte) : Headed.Statement (.dlCancel h p) := headed_host rfl rfl
theorem Headed.tariffPush (h : Hdr) (p : List Byte) : Headed.Statement (.tariffPush h p) := headed_host rfl rfl
theorem Headed.campaignCreate (h : Hdr) (p : List Byte) : Headed.Statement (.campaignCreate h p) := headed_host rfl rfl
theorem Headed.campaignControl (h : Hdr) (p : List Byte) : Headed.Statement (.campaignControl h p) :=
  headed_host rfl rfl
theorem Headed.campaignStatus (h : Hdr) (p : List Byte) : Headed.Statement (.campaignStatus h p) := headed_host rfl rfl
theorem Headed.balanceGroupSet (h : Hdr) (p : List Byte) : Headed.Statement (.balanceGroupSet h p) :=
  headed_host rfl rfl
theorem Headed.scribeCampaign (h : Hdr) (p : List Byte) : Headed.Statement (.scribeCampaign h p) := headed_host rfl rfl
theorem Headed.tallyQuery (h : Hdr) (p : List Byte) : Headed.Statement (.tallyQuery h p) := headed_host rfl rfl
theorem Headed.radioNeighbours (h : Hdr) (p : List Byte) : Headed.Statement (.radioNeighbours h p) :=
  headed_host rfl rfl
theorem Headed.plcRoutes (h : Hdr) (p : List Byte) : Headed.Statement (.plcRoutes h p) := headed_host rfl rfl
theorem Headed.keyImport (h : Hdr) (p data : List Byte) : Headed.Statement (.keyImport h p data) := by
  intro hw op1 h1 p1 he
  obtain ⟨rfl, rfl, rfl⟩ : 0x60 = op1 ∧ h = h1 ∧ some (p ++ data) = p1 := by simpa [packetOf] using he
  have hc : hostCheck 0x60 h (p ++ data) = none := by
    have hn : headed 0x60 24 h p data = none := by simpa [Instr.wellFormed, Instr.check] using hw
    unfold headed at hn
    split at hn
    · exact hn
    · cases hn
  obtain ⟨a, b, c, d⟩ := headed_of_host 0x60 h (p ++ data) hc
  exact ⟨a, b, fun y hy => by cases hy; exact ⟨c, d⟩⟩
theorem Headed.keyGenerate (h : Hdr) (p : List Byte) : Headed.Statement (.keyGenerate h p) := headed_host rfl rfl
theorem Headed.keyZeroise (h : Hdr) (p : List Byte) : Headed.Statement (.keyZeroise h p) := headed_host rfl rfl
theorem Headed.keyInfo (h : Hdr) (p : List Byte) : Headed.Statement (.keyInfo h p) := headed_host rfl rfl
theorem Headed.pubkeyExport (h : Hdr) (p : List Byte) : Headed.Statement (.pubkeyExport h p) := headed_host rfl rfl
theorem Headed.keyAgree (h : Hdr) (p : List Byte) (onCurve : Bool) : Headed.Statement (.keyAgree h p onCurve) :=
  headed_host rfl rfl
theorem Headed.imageBegin (h : Hdr) (p : List Byte) : Headed.Statement (.imageBegin h p) := headed_host rfl rfl
theorem Headed.imageBlock (h : Hdr) (p : List Byte) : Headed.Statement (.imageBlock h p) := headed_host rfl rfl
theorem Headed.imageCommit (h : Hdr) (p : List Byte) (sigOk : Bool) : Headed.Statement (.imageCommit h p sigOk) :=
  headed_host rfl rfl
theorem Headed.imageActivate (h : Hdr) (p : List Byte) : Headed.Statement (.imageActivate h p) := headed_host rfl rfl
theorem Headed.imageStatus (h : Hdr) (p : List Byte) : Headed.Statement (.imageStatus h p) := headed_host rfl rfl
theorem Headed.meterImageLoad (h : Hdr) (p : List Byte) : Headed.Statement (.meterImageLoad h p) := headed_host rfl rfl
theorem Headed.eventRead (h : Hdr) (p : List Byte) : Headed.Statement (.eventRead h p) := headed_host rfl rfl
theorem Headed.counterRead (h : Hdr) (p : List Byte) : Headed.Statement (.counterRead h p) := headed_host rfl rfl
theorem Headed.counterConfig (h : Hdr) (p : List Byte) : Headed.Statement (.counterConfig h p) := headed_host rfl rfl
theorem Headed.memRead (h : Hdr) (p : List Byte) : Headed.Statement (.memRead h p) := headed_host rfl rfl
theorem Headed.dmaStart (h : Hdr) (p : List Byte) : Headed.Statement (.dmaStart h p) := headed_host rfl rfl
theorem Headed.selfTest (h : Hdr) (p : List Byte) : Headed.Statement (.selfTest h p) := headed_host rfl rfl
theorem Headed.ftlStatus (h : Hdr) (p : List Byte) : Headed.Statement (.ftlStatus h p) := headed_host rfl rfl
theorem Headed.pair (h : Hdr) (p : List Byte) (x : Option Machine.PartnerIn) : Headed.Statement (.pair h p x) := by
  intro hw op1 h1 p1 he
  obtain ⟨rfl, rfl, rfl⟩ : 0x90 = op1 ∧ h = h1 ∧ some p = p1 := by simpa [packetOf] using he
  have hc : hostCheck 0x90 h p = none := by
    have hn : (hostCheck 0x90 h p).or (operands (partnerOk x)) = none := by simpa [Instr.wellFormed, Instr.check] using hw
    exact (Option.or_eq_none_iff.mp hn).1
  obtain ⟨a, b, c, d⟩ := headed_of_host 0x90 h p hc
  exact ⟨a, b, fun y hy => by cases hy; exact ⟨c, d⟩⟩
theorem Headed.unpair (h : Hdr) (p : List Byte) : Headed.Statement (.unpair h p) := headed_host rfl rfl
theorem Headed.pairStatus (h : Hdr) (p : List Byte) : Headed.Statement (.pairStatus h p) := headed_host rfl rfl
theorem Headed.resolveDivergence (h : Hdr) (p : List Byte) : Headed.Statement (.resolveDivergence h p) :=
  headed_host rfl rfl
theorem Headed.promote (h : Hdr) (p : List Byte) : Headed.Statement (.promote h p) := headed_host rfl rfl
theorem Headed.readRegisters (h : Hdr) (p : List Byte) : Headed.Statement (.readRegisters h p) := headed_host rfl rfl
theorem Headed.readBillingSet (h : Hdr) (p : List Byte) : Headed.Statement (.readBillingSet h p) := headed_host rfl rfl
theorem Headed.calendarLoad (h : Hdr) (p : List Byte) (sigOk : Bool) : Headed.Statement (.calendarLoad h p sigOk) :=
  headed_host rfl rfl
theorem Headed.calendarActivate (h : Hdr) (p : List Byte) (sigOk : Bool) : Headed.Statement (.calendarActivate h p sigOk) :=
  headed_host rfl rfl
theorem Headed.calibrate (h : Hdr) (p : List Byte) (sigOk : Bool) : Headed.Statement (.calibrate h p sigOk) :=
  headed_host rfl rfl
theorem Headed.billingClose (h : Hdr) (p : List Byte) (sigOk : Bool) : Headed.Statement (.billingClose h p sigOk) :=
  headed_host rfl rfl
theorem Headed.displayList (h : Hdr) (p : List Byte) : Headed.Statement (.displayList h p) := headed_host rfl rfl
theorem Headed.outputControl (h : Hdr) (p : List Byte) : Headed.Statement (.outputControl h p) := headed_host rfl rfl
theorem Headed.legalLogRead (h : Hdr) (p : List Byte) : Headed.Statement (.legalLogRead h p) := headed_host rfl rfl
theorem Headed.roleWrite (h : Hdr) (v : Nat) : Headed.Statement (.roleWrite h v) := headed_field rfl rfl
theorem Headed.radioEnWrite (h : Hdr) (v : Bool) : Headed.Statement (.radioEnWrite h v) := headed_field rfl rfl
theorem Headed.plcEnWrite (h : Hdr) (v : Bool) : Headed.Statement (.plcEnWrite h v) := headed_field rfl rfl
theorem Headed.metroEnWrite (h : Hdr) (v : Bool) : Headed.Statement (.metroEnWrite h v) := headed_field rfl rfl
theorem Headed.powerCapWrite (h : Hdr) (v : Nat) : Headed.Statement (.powerCapWrite h v) := headed_field rfl rfl
theorem Headed.holdCWrite (h : Hdr) (v : Nat) : Headed.Statement (.holdCWrite h v) := headed_field rfl rfl
theorem Headed.holdDivWrite (h : Hdr) (v : Nat) : Headed.Statement (.holdDivWrite h v) := headed_field rfl rfl
theorem Headed.cMeasClear (h : Hdr) : Headed.Statement (.cMeasClear h) := headed_field rfl rfl
theorem Headed.ethertypeWrite (h : Hdr) (v : Nat) : Headed.Statement (.ethertypeWrite h v) := headed_field rfl rfl
theorem Headed.radioChannelEnWrite (h : Hdr) (ch : Fin 16) (v : Bool) : Headed.Statement (.radioChannelEnWrite h ch v) :=
  headed_field rfl rfl
theorem Headed.plcPhaseEnWrite (h : Hdr) (ph : Fin 3) (v : Bool) : Headed.Statement (.plcPhaseEnWrite h ph v) :=
  headed_field rfl rfl
theorem Headed.legalUpdModeWrite (h : Hdr) (v : Bool) (a : Option AuthBlk) : Headed.Statement (.legalUpdModeWrite h v a) :=
  headed_field rfl rfl
theorem Headed.sealCalWrite (h : Hdr) (v : Bool) (a : Option AuthBlk) : Headed.Statement (.sealCalWrite h v a) :=
  headed_field rfl rfl
theorem Headed.legalKeyWrite (h : Hdr) (v : Nat) (a : Option AuthBlk) : Headed.Statement (.legalKeyWrite h v a) :=
  headed_field rfl rfl
theorem Headed.plainImportWrite (h : Hdr) (v : Bool) : Headed.Statement (.plainImportWrite h v) := headed_field rfl rfl
theorem Headed.tamperSeenClear (h : Hdr) : Headed.Statement (.tamperSeenClear h) := headed_field rfl rfl
theorem Headed.wrapClear (h : Hdr) (mask : Nat) : Headed.Statement (.wrapClear h mask) := headed_field rfl rfl
theorem Headed.profilePeriodWrite (h : Hdr) (v : Nat) (a : Option AuthBlk) : Headed.Statement (.profilePeriodWrite h v a) :=
  headed_field rfl rfl
theorem Headed.demandSettingWrite (h : Hdr) (method period subs : Nat) (a : Option AuthBlk) : Headed.Statement (.demandSettingWrite h method period subs a) :=
  headed_field rfl rfl
theorem Headed.tzDstWrite (h : Hdr) (z : TzDst) (a : Option AuthBlk) : Headed.Statement (.tzDstWrite h z a) :=
  headed_field rfl rfl
theorem Headed.beatBoundary (i : BeatIn) : Headed.Statement (.beatBoundary i) := headed_none rfl
theorem Headed.denSensorRestored (n : Fin 6) : Headed.Statement (.denSensorRestored n) := headed_none rfl
theorem Headed.denThermalTrip : Headed.Statement (.denThermalTrip) := headed_none rfl
theorem Headed.itemOwed : Headed.Statement (.itemOwed) := headed_none rfl
theorem Headed.holdAssert (ef : Fin 32) : Headed.Statement (.holdAssert ef) := headed_none rfl
theorem Headed.holdRelease (ef : Fin 32) : Headed.Statement (.holdRelease ef) := headed_none rfl
theorem Headed.reorderGapExpire (sess : Fin 16) (seq : Nat) : Headed.Statement (.reorderGapExpire sess seq) :=
  headed_none rfl
theorem Headed.pendingReply (sess : Fin 16) (seq : Nat) (percent : Nat) : Headed.Statement (.pendingReply sess seq percent) :=
  headed_none rfl
theorem Headed.linkDataFrame (port : Port) (f : LinkFrame) : Headed.Statement (.linkDataFrame port f) := headed_none rfl
theorem Headed.linkAck (port : Port) (c : LinkCtl) : Headed.Statement (.linkAck port c) := headed_none rfl
theorem Headed.linkNack (port : Port) (c : LinkCtl) : Headed.Statement (.linkNack port c) := headed_none rfl
theorem Headed.linkRtoExpire (port : Port) : Headed.Statement (.linkRtoExpire port) := headed_none rfl
theorem Headed.linkProbe (port : Port) (c : LinkCtl) : Headed.Statement (.linkProbe port c) := headed_none rfl
theorem Headed.linkProbeSend (port : Port) : Headed.Statement (.linkProbeSend port) := headed_none rfl
theorem Headed.linkResync (port : Port) (c : LinkCtl) : Headed.Statement (.linkResync port c) := headed_none rfl
theorem Headed.linkHoldExpire (port : Port) : Headed.Statement (.linkHoldExpire port) := headed_none rfl
theorem Headed.linkUp (port : Port) (addr : Nat) : Headed.Statement (.linkUp port addr) := headed_none rfl
theorem Headed.linkDown (port : Port) (lockLost : Bool) : Headed.Statement (.linkDown port lockLost) := headed_none rfl
theorem Headed.pauseFrameDrop (port : Port) : Headed.Statement (.pauseFrameDrop port) := headed_none rfl
theorem Headed.sync (m : SyncMsg) : Headed.Statement (.sync m) := headed_none rfl
theorem Headed.syncLossExpire : Headed.Statement (.syncLossExpire) := headed_none rfl
theorem Headed.startWaitExpire : Headed.Statement (.startWaitExpire) := headed_none rfl
theorem Headed.pdelayReqSend (port : Port) : Headed.Statement (.pdelayReqSend port) := headed_none rfl
theorem Headed.pdelayReq (port : Port) (domain : Nat) (turnaround : Int) : Headed.Statement (.pdelayReq port domain turnaround) :=
  headed_none rfl
theorem Headed.pdelayResp (port : Port) (domain : Nat) (trip : Int) : Headed.Statement (.pdelayResp port domain trip) :=
  headed_none rfl
theorem Headed.announceForward (message : List Byte) : Headed.Statement (.announceForward message) := headed_none rfl
theorem Headed.legalTimeStepped : Headed.Statement (.legalTimeStepped) := headed_none rfl
theorem Headed.ppsInEdge (sinceBeat : Nat) : Headed.Statement (.ppsInEdge sinceBeat) := headed_none rfl
theorem Headed.ppsOutPulse : Headed.Statement (.ppsOutPulse) := headed_none rfl
theorem Headed.mainsLost (samples : List Nat) : Headed.Statement (.mainsLost samples) := headed_none rfl
theorem Headed.flushEnd : Headed.Statement (.flushEnd) := headed_none rfl
theorem Headed.pwrReq : Headed.Statement (.pwrReq) := headed_none rfl
theorem Headed.resetNLow (low : Bool) : Headed.Statement (.resetNLow low) := headed_none rfl
theorem Headed.supplyMonitorTrip : Headed.Statement (.supplyMonitorTrip) := headed_none rfl
theorem Headed.powerOnReset : Headed.Statement (.powerOnReset) := headed_none rfl
theorem Headed.mainPowerLost : Headed.Statement (.mainPowerLost) := headed_none rfl
theorem Headed.vbatRise : Headed.Statement (.vbatRise) := headed_none rfl
theorem Headed.vbatFall : Headed.Statement (.vbatFall) := headed_none rfl
theorem Headed.startUp (b : BootIn) : Headed.Statement (.startUp b) := headed_none rfl
theorem Headed.presenceCheckpoint : Headed.Statement (.presenceCheckpoint) := headed_none rfl
theorem Headed.coreWatchdog (core : Fin 16) (fn : Nat) : Headed.Statement (.coreWatchdog core fn) := headed_none rfl
theorem Headed.kernelHeartbeatMissing : Headed.Statement (.kernelHeartbeatMissing) := headed_none rfl
theorem Headed.ledgerGroupSeal : Headed.Statement (.ledgerGroupSeal) := headed_none rfl
theorem Headed.pageProgramDone (group page : Nat) (chan : Chan) (ok : Bool) : Headed.Statement (.pageProgramDone group page chan ok) :=
  headed_none rfl
theorem Headed.copyVerified (group page : Nat) (chan : Chan) (bits : Nat) (same : Bool) : Headed.Statement (.copyVerified group page chan bits same) :=
  headed_none rfl
theorem Headed.groupAccept : Headed.Statement (.groupAccept) := headed_none rfl
theorem Headed.groupRelease : Headed.Statement (.groupRelease) := headed_none rfl
theorem Headed.segmentReclaim (seg : Nat) : Headed.Statement (.segmentReclaim seg) := headed_none rfl
theorem Headed.ledgerWorn : Headed.Statement (.ledgerWorn) := headed_none rfl
theorem Headed.ledgerDieLost (chan : Chan) (die : Fin 16) : Headed.Statement (.ledgerDieLost chan die) :=
  headed_none rfl
theorem Headed.rereplicationDone : Headed.Statement (.rereplicationDone) := headed_none rfl
theorem Headed.slowPathReturn (r : SlowRet) : Headed.Statement (.slowPathReturn r) := headed_none rfl
theorem Headed.unsealComplete (job : Nat) (st : JobStatus) : Headed.Statement (.unsealComplete job st) :=
  headed_none rfl
theorem Headed.batchExpired (id : Nat) : Headed.Statement (.batchExpired id) := headed_none rfl
theorem Headed.intervalClose (group : Nat) : Headed.Statement (.intervalClose group) := headed_none rfl
theorem Headed.scribeEvaluate (campaign mix : Nat) : Headed.Statement (.scribeEvaluate campaign mix) := headed_none rfl
theorem Headed.radioFrameReceived (ch : Fin 16) (f : RadioRx) : Headed.Statement (.radioFrameReceived ch f) :=
  headed_none rfl
theorem Headed.floodRelay (origin seq : Nat) : Headed.Statement (.floodRelay origin seq) := headed_none rfl
theorem Headed.seenEntryExpire (origin seq : Nat) : Headed.Statement (.seenEntryExpire origin seq) := headed_none rfl
theorem Headed.associationRequest (ch : Fin 16) (ext : Nat) (rxOnIdle : Bool) : Headed.Statement (.associationRequest ch ext rxOnIdle) :=
  headed_none rfl
theorem Headed.dataRequest (ch : Fin 16) (ext : Nat) : Headed.Statement (.dataRequest ch ext) := headed_none rfl
theorem Headed.slotRequest (ch : Fin 16) (r : SlotIn) : Headed.Statement (.slotRequest ch r) := headed_none rfl
theorem Headed.slotRelease (ch : Fin 16) (ext : Nat) : Headed.Statement (.slotRelease ch ext) := headed_none rfl
theorem Headed.orphanNotification (ch : Fin 16) (ext : Nat) : Headed.Statement (.orphanNotification ch ext) :=
  headed_none rfl
theorem Headed.beaconTransmit (ch : Fin 16) (sinceBeat : Nat) : Headed.Statement (.beaconTransmit ch sinceBeat) :=
  headed_none rfl
theorem Headed.beaconReceived (ch : Fin 16) (b : BeaconIn) : Headed.Statement (.beaconReceived ch b) := headed_none rfl
theorem Headed.radioParentLost (ch : Fin 16) : Headed.Statement (.radioParentLost ch) := headed_none rfl
theorem Headed.radioOrphanScan (ch : Fin 16) : Headed.Statement (.radioOrphanScan ch) := headed_none rfl
theorem Headed.orphanHoldExpire (ch : Fin 16) : Headed.Statement (.orphanHoldExpire ch) := headed_none rfl
theorem Headed.radioJoin (ch : Fin 16) (found : Option JoinIn) : Headed.Statement (.radioJoin ch found) :=
  headed_none rfl
theorem Headed.slotMissed (ch : Fin 16) (ext instant : Nat) : Headed.Statement (.slotMissed ch ext instant) :=
  headed_none rfl
theorem Headed.shortAddrReleased (ch : Fin 16) (short : Nat) : Headed.Statement (.shortAddrReleased ch short) :=
  headed_none rfl
theorem Headed.rendezvousSlot (ch : Fin 16) (sinceBeat psdu : Nat) : Headed.Statement (.rendezvousSlot ch sinceBeat psdu) :=
  headed_none rfl
theorem Headed.radioTransmit (ch : Fin 16) (psdu : Nat) (a : Access) : Headed.Statement (.radioTransmit ch psdu a) :=
  headed_none rfl
theorem Headed.zeroCrossing (ph : Fin 3) (sinceBeat : Nat) (x : Crossing) : Headed.Statement (.zeroCrossing ph sinceBeat x) :=
  headed_none rfl
theorem Headed.flywheelCycle (ph : Fin 3) (x : Crossing) : Headed.Statement (.flywheelCycle ph x) := headed_none rfl
theorem Headed.plcFrameReceived (ph : Fin 3) (x : PlcHeard) : Headed.Statement (.plcFrameReceived ph x) :=
  headed_none rfl
theorem Headed.plcLinkAckTimeout (ph : Fin 3) : Headed.Statement (.plcLinkAckTimeout ph) := headed_none rfl
theorem Headed.tmPeriodBoundary (ph : Fin 3) (m : List ToneMeas) : Headed.Statement (.tmPeriodBoundary ph m) :=
  headed_none rfl
theorem Headed.tmBlankHoldExpire (ph : Fin 3) (addr : Nat) (seg : Fin 8) : Headed.Statement (.tmBlankHoldExpire ph addr seg) :=
  headed_none rfl
theorem Headed.routeAdvertisement (ph : Fin 3) : Headed.Statement (.routeAdvertisement ph) := headed_none rfl
theorem Headed.routeAgeExpire (ph : Fin 3) (title : Nat) : Headed.Statement (.routeAgeExpire ph title) :=
  headed_none rfl
theorem Headed.plcAddrHoldExpire (ph : Fin 3) (short : Nat) : Headed.Statement (.plcAddrHoldExpire ph short) :=
  headed_none rfl
theorem Headed.txAbortImpedance (ph : Fin 3) : Headed.Statement (.txAbortImpedance ph) := headed_none rfl
theorem Headed.tripRetryExpire (ph : Fin 3) : Headed.Statement (.tripRetryExpire ph) := headed_none rfl
theorem Headed.tripBackoffExpire (ph : Fin 3) : Headed.Statement (.tripBackoffExpire ph) := headed_none rfl
theorem Headed.dlDispatch (mix : Nat) (urgent : Bool) : Headed.Statement (.dlDispatch mix urgent) := headed_none rfl
theorem Headed.dlResendExpire (item : Nat) : Headed.Statement (.dlResendExpire item) := headed_none rfl
theorem Headed.dlExpiry (item : Nat) : Headed.Statement (.dlExpiry item) := headed_none rfl
theorem Headed.campaignRound (campaign : Nat) : Headed.Statement (.campaignRound campaign) := headed_none rfl
theorem Headed.roundWaitExpire (campaign : Nat) : Headed.Statement (.roundWaitExpire campaign) := headed_none rfl
theorem Headed.campaignEnded (campaign : Nat) : Headed.Statement (.campaignEnded campaign) := headed_none rfl
theorem Headed.bootWindowExpire (component : Fin 5) : Headed.Statement (.bootWindowExpire component) := headed_none rfl
theorem Headed.updateConfirmed : Headed.Statement (.updateConfirmed) := headed_none rfl
theorem Headed.legalSecondEnd (sec : Nat) : Headed.Statement (.legalSecondEnd sec) := headed_none rfl
theorem Headed.profileIntervalEnd : Headed.Statement (.profileIntervalEnd) := headed_none rfl
theorem Headed.demandIntervalEnd : Headed.Statement (.demandIntervalEnd) := headed_none rfl
theorem Headed.scheduledClosure : Headed.Statement (.scheduledClosure) := headed_none rfl
theorem Headed.calendarMinute : Headed.Statement (.calendarMinute) := headed_none rfl
theorem Headed.calendarActivation : Headed.Statement (.calendarActivation) := headed_none rfl
theorem Headed.dstChange : Headed.Statement (.dstChange) := headed_none rfl
theorem Headed.legalLockstep : Headed.Statement (.legalLockstep) := headed_none rfl
theorem Headed.sealNChange (asserted : Bool) : Headed.Statement (.sealNChange asserted) := headed_none rfl
theorem Headed.buttonPress : Headed.Statement (.buttonPress) := headed_none rfl
theorem Headed.scrollExpire : Headed.Statement (.scrollExpire) := headed_none rfl
theorem Headed.dispTimeoutExpire : Headed.Statement (.dispTimeoutExpire) := headed_none rfl
theorem Headed.displayRefresh (ack : Bool) : Headed.Statement (.displayRefresh ack) := headed_none rfl
theorem Headed.outputPulse (n : Fin 8) : Headed.Statement (.outputPulse n) := headed_none rfl
theorem Headed.laneJobPost (j : LaneJob) : Headed.Statement (.laneJobPost j) := headed_none rfl
theorem Headed.laneJobComplete (lane : Fin 8) (st : JobStatus) (cycles : Nat) : Headed.Statement (.laneJobComplete lane st cycles) :=
  headed_none rfl
theorem Headed.entropyFail : Headed.Statement (.entropyFail) := headed_none rfl
theorem Headed.zeroisedTamper : Headed.Statement (.zeroisedTamper) := headed_none rfl
theorem Headed.tamperLatch : Headed.Statement (.tamperLatch) := headed_none rfl
theorem Headed.debugEnabled : Headed.Statement (.debugEnabled) := headed_none rfl
theorem Headed.journalCommit : Headed.Statement (.journalCommit) := headed_none rfl
theorem Headed.journalMsExpire : Headed.Statement (.journalMsExpire) := headed_none rfl
theorem Headed.ftlSnapshot : Headed.Statement (.ftlSnapshot) := headed_none rfl
theorem Headed.eraseFail (chan : Chan) (die blk : Nat) : Headed.Statement (.eraseFail chan die blk) := headed_none rfl
theorem Headed.readRefresh (r : PageRead) : Headed.Statement (.readRefresh r) := headed_none rfl
theorem Headed.patrolRead (r : PageRead) : Headed.Statement (.patrolRead r) := headed_none rfl
theorem Headed.flashDieLost (chan : Chan) (die : Fin 16) (busy : Bool) : Headed.Statement (.flashDieLost chan die busy) :=
  headed_none rfl
theorem Headed.gcPost (part : Nat) (chan : Chan) : Headed.Statement (.gcPost part chan) := headed_none rfl
theorem Headed.eraseDone (chan : Chan) (die blk : Nat) : Headed.Statement (.eraseDone chan die blk) := headed_none rfl
theorem Headed.wearLevelMove (chan : Chan) : Headed.Statement (.wearLevelMove chan) := headed_none rfl
theorem Headed.memCorrected (array : MemArray) : Headed.Statement (.memCorrected array) := headed_none rfl
theorem Headed.memUncorrectable (addr : Nat) : Headed.Statement (.memUncorrectable addr) := headed_none rfl
theorem Headed.poisonConsumed (c : Consumer) : Headed.Statement (.poisonConsumed c) := headed_none rfl
theorem Headed.dramPatrolScrub (addr : Nat) (corrected uncorrectable live : Bool) : Headed.Statement (.dramPatrolScrub addr corrected uncorrectable live) :=
  headed_none rfl
theorem Headed.sramScrub (corrected : Nat) : Headed.Statement (.sramScrub corrected) := headed_none rfl
theorem Headed.dmaRunStart : Headed.Statement (.dmaRunStart) := headed_none rfl
theorem Headed.dmaRunComplete : Headed.Statement (.dmaRunComplete) := headed_none rfl
theorem Headed.fifoBankClose (ef : Fin 32) : Headed.Statement (.fifoBankClose ef) := headed_none rfl
theorem Headed.streamDrop (port : Fin 8) : Headed.Statement (.streamDrop port) := headed_none rfl
theorem Headed.streamProgress (port : Fin 8) : Headed.Statement (.streamProgress port) := headed_none rfl
theorem Headed.beatFrameReceived (port : Port) (f : Machine.BeatFrame) : Headed.Statement (.beatFrameReceived port f) :=
  headed_none rfl
theorem Headed.digestWaitExpire : Headed.Statement (.digestWaitExpire) := headed_none rfl
theorem Headed.dovetailPromoted : Headed.Statement (.dovetailPromoted) := headed_none rfl
theorem Headed.joinLimitExpire : Headed.Statement (.joinLimitExpire) := headed_none rfl
theorem Headed.pairJoinStart (x : Machine.PairStart) : Headed.Statement (.pairJoinStart x) := headed_none rfl
theorem Headed.eventFlush : Headed.Statement (.eventFlush) := headed_none rfl
theorem Headed.counterWindowEnd : Headed.Statement (.counterWindowEnd) := headed_none rfl
theorem Headed.snapshotWrite : Headed.Statement (.snapshotWrite) := headed_none rfl
theorem Headed.opHoursTick : Headed.Statement (.opHoursTick) := headed_none rfl
theorem Headed.enhAckWaitExpire (ch : Fin 16) : Headed.Statement (.enhAckWaitExpire ch) := headed_none rfl
theorem Headed.phrDecoded (ch : Fin 16) (psdu : Nat) (modeSwitch : Bool) (sfd : Int) : Headed.Statement (.phrDecoded ch psdu modeSwitch sfd) :=
  headed_none rfl
theorem Headed.plcHeaderDecoded (ph : Fin 3) (tones : List (Option Nat)) (offset start : Int) : Headed.Statement (.plcHeaderDecoded ph tones offset start) :=
  headed_none rfl
theorem Headed.resetNow : Headed.Statement (.resetNow) := headed_none rfl
theorem Headed.funcResetComplete (fn : Nat) : Headed.Statement (.funcResetComplete fn) := headed_none rfl

end Sys2Proof.Laws
end

