-- ==== Sys2Proof/Tests/Slice0.lean ====
section
/-! SUPPORT. Tests of the model: ill-formed commands, witnesses for the hypotheses of the obligations, and single steps. -/
namespace Sys2Proof.Tests
open Sys2Proof Sys2Proof.Machine

set_option Elab.async false

/-! Small states and packets. -/

/-- A device in RUN with its hold-up node set and acceptance open. -/
def up : State :=
  wr P04.ACCEPT_STOPPED 0 (wr P31.CAL_WAITING 0 (wr P04.LIMIT_L 64 (wr P04.HOLD_DIV 1000 (wr P04.HOLD_C 1000
    { State.reset with
      pwr := { mode := .run, step := 10 }
      beat := { loaded := true } }))))

/-- The same device under another role. -/
def role (n : Nat) : State := wr P01.ROLE_ACTIVE n up

/-- A header of session 0. -/
def hd (op fn len : Nat) : Hdr := ⟨0x10, op, len, 0, 1, 0x3E, fn * 2 ^ 24, 5⟩

/-- A header of another session. -/
def hdS (sess op fn len : Nat) : Hdr := ⟨0x10, op, len, 0, 1, 0x3E, fn * 2 ^ 24 + sess * 2 ^ 20, 5⟩

/-- The state after a command, looked at. -/
def after (o : Host.Outcome State Fault Refusal) (f : State → Bool) : Bool :=
  match o with
  | .next t => f t
  | _ => false

/-- The last reply sent: status, detail and data. -/
def lastReply (t : State) : Option (Nat × Nat × List Byte) :=
  t.out.foldl (fun a o => match o with
    | .reply _ st d data => some (st, d, data)
    | _ => a) none

/-- A command's reply is the one given. -/
def replies (o : Host.Outcome State Fault Refusal) (st d : Nat) (data : List Byte) : Bool :=
  after o (fun t => lastReply t == some (st, d, data))

/-- A command is accepted: an entry with its header is open in the ledger, and nothing is sent yet. -/
def accepts (o : Host.Outcome State Fault Refusal) : Bool :=
  after o (fun t => t.ledger.openE.any (fun e => match e.act with
    | .command _ _ _ _ _ _ => true
    | _ => false) && lastReply t == none)

/-! Ill-formed commands are refused by the check that names their fault. -/

theorem test_illformed_header : Instr.check (.nop { hd 0 1 0 with seq := 2 ^ 32 } []) = some .headerField := by decide +kernel

theorem test_illformed_opcode : Instr.check (.nop (hd 1 1 0) []) = some .opcode := by decide +kernel

theorem test_illformed_length : Instr.check (.nop (hd 0 1 3) (zeros 4)) = some .payloadLength := by decide +kernel

theorem test_illformed_split : Instr.check (.keyImport (hd 0x60 1 4) (zeros 3) [1]) = some .payloadLength := by decide +kernel

theorem test_illformed_operand : Instr.check (.holdCWrite (hd 0x21 1 516) 65536) = some .operand := by decide +kernel

theorem test_wellformed : Instr.wellFormed (.nop (hd 0 1 4) (zeros 4)) = true := by decide +kernel

/-! Witnesses: states and operands that meet the hypotheses of the obligations. -/

theorem test_witness_step_invariants : (up.tidy = true ∧ State.reset.tidy = true) ∧
    after (step { up with pending := [.itemOwed] }) (fun t => t.pending == []) = true := by decide +kernel

theorem test_witness_registers : up.tidy = true ∧ P04.HOLD_C ∈ pageFields P04.HOLD_C.page ∧
    P20.EN ∈ pageFields P20.EN.page ∧ (P04.HOLD_C, 0) ≠ (P20.EN, 15) := by decide +kernel

theorem test_witness_packet : (hd 0 1 4).fits = true ∧ (hd 0 1 4).len = (zeros 4).length ∧ (zeros 4).length ≤ 8192 ∧
    (hd 0 1 4).verFlags / 16 = 1 ∧ bitAt (hd 0 1 4).verFlags 1 = false ∧ (opRow 0).isSome = true ∧
    fnAllowed 0 (fnOf (hd 0 1 4)) = true := by decide +kernel

/-- A packet of 24 bytes with a right trailer. -/
def pk (ver op fn : Nat) : List Byte := packet { hd op fn 4 with verFlags := ver } (zeros 4)

/-- The trailer of a packet agrees. -/
def crcOk (k : List Byte) : Bool := leAt k (16 + (parseHdr k).len) 4 == crc32c (k.take (16 + (parseHdr k).len))

theorem test_witness_damaged_packets :
    (up.pwr.mode = .run ∧ (parseHdr (zeros 10)).dest ≠ 0x3F ∧ (zeros 10).length < 20 + (parseHdr (zeros 10)).len) ∧
    (let k := (pk 0x10 0 1).take 23 ++ [0x5A]
     (parseHdr k).dest ≠ 0x3F ∧ (parseHdr k).len ≤ 8192 ∧ 20 + (parseHdr k).len ≤ k.length ∧ crcOk k = false) ∧
    (let k := pk 0x20 0 1
     (parseHdr k).len ≤ 8192 ∧ 20 + (parseHdr k).len ≤ k.length ∧ crcOk k = true ∧ (parseHdr k).verFlags / 16 ≠ 1) ∧
    (let k := pk 0x10 0xFF 1
     crcOk k = true ∧ (parseHdr k).verFlags / 16 = 1 ∧ opRow (parseHdr k).opcode = none) ∧
    (let k := pk 0x10 0x32 1
     crcOk k = true ∧ (opRow (parseHdr k).opcode).isSome = true ∧ bitAt (parseHdr k).verFlags 1 = false ∧
       fnAllowed (parseHdr k).opcode (fnOf (parseHdr k)) = false) := by decide +kernel

/-- Session 0 open at sequence `n`, with replies held and commands waiting out of order. -/
def sess0 (n : Nat) (held : List Held) (early : List Nat) : State :=
  { up with cmd := { up.cmd with sess := up.cmd.sess.set 0 { sessAt up 0 with
    st := .opened, n := n, held := held, early := early.map (fun q => ⟨{ hd 0 1 0 with seq := q }, [], 0⟩) } } }

theorem test_witness_sequence_numbers : (let h := hd 0 1 0
    ((sessAt (sess0 5 [] []) 0).st = .opened ∧ h.opcode ≠ 0x01 ∧ sessOf h = 0) ∧ seqDist 5 h.seq = 0 ∧
    (seqDist (2 ^ 32 - 26) h.seq = 31 ∧ ∀ e ∈ (sessAt (sess0 (2 ^ 32 - 26) [] []) 0).early, e.hdr.seq ≠ h.seq) ∧
    (1 ≤ seqDist 4 h.seq ∧ ∃ e ∈ (sessAt (sess0 4 [] [5]) 0).early, e.hdr.seq = h.seq) ∧
    (2 ^ 32 - 256 ≤ seqDist 261 h.seq ∧
      ((sessAt (sess0 261 [⟨5, 1, h, 0, 0, [], true⟩] []) 0).held.find? (fun z => z.seq == h.seq)).isSome = true ∧
      cmdCrc h [] ≠ 1) ∧
    (2 ^ 32 - 256 ≤ seqDist 6 h.seq ∧
      (sessAt (sess0 6 [] []) 0).held.find? (fun z => z.seq == h.seq) = none ∧ (sess0 6 [] []).cmd.openC = []) ∧
    (seqDist (2 ^ 32 - 27) h.seq = 32 ∧ seqDist 262 h.seq < 2 ^ 32 - 256)) := by decide +kernel

theorem test_witness_finish : up.tidy = true ∧ silent up = false ∧ pairState up = 0 ∧
    exempt up (hd 0 1 4) (zeros 4) = false ∧ (hd 0 1 4).dest ≠ 0x3F := by decide +kernel

theorem test_witness_entries : up.ledger.waiting = [] ∧ fits up [entrySlots (commandEntry (hd 0x33 0x10 8) (zeros 8) [] [] {})] = true ∧
    fits { up with ledger := { up.ledger with openSlots := 1536 } } [1] = false ∧ (hd 0x33 0x10 8).fits = true ∧
    passes (wr P12.READONLY 1 up) (commandEntry (hd 0x42 0x12 16) (zeros 16) [] [] {}) = true ∧
    passes { up with ledger := { up.ledger with openSlots := 1536 } } (commandEntry (hd 0x33 0x10 8) (zeros 8) [] [] {}) = false := by decide +kernel

theorem test_witness_ready : Ready (hd 0x33 0x10 8) up ∧ fnOf (hd 0x33 0x10 8) = 0x10 ∧ lenGate 0x33 8 = .pass ∧
    acceptClosed up = false ∧ storeFull up = false ∧ Served (hd 0x33 0x10 8) (zeros 8) true up := by decide +kernel

theorem test_witness_refusals :
    (let s := { up with pwr := { up.pwr with held := true } }
     s.pwr.held = true ∧ (hd 0x33 0x10 8).opcode = 0x33) ∧
    (fnOf (hd 0x5B 0x20 4) = 0x20 ∧ radioOn (role 2) = false ∧ (role 2).pwr.mode = .run ∧ (role 2).pwr.held = false) ∧
    (fnOf (hd 0x5C 0x21 4) = 0x21 ∧ plcOn (role 2) = false) ∧ (fnOf (hd 0xA0 0x30 4) = 0x30 ∧ metroOn (role 2) = false) ∧
    (let s := wr P50.PAIR_STATE 5 up
     pairState s = 5 ∧ powerGate s 0x10 = .pass ∧ sessOf (hd 0x33 0x10 8) ≠ 15) ∧
    (let s := { up with cmd := { up.cmd with funcReset := [(0x10, hd 6 0x10 0)] } }
     pairState s = 0 ∧ assocGet 0x10 s.cmd.funcFailed = none ∧ (assocGet 0x10 s.cmd.funcReset).isSome = true) ∧
    (let s := wr P04.ACCEPT_STOPPED 1 up
     Ready (hd 0x33 0x10 8) s ∧ acceptClosed s = true) ∧
    (let s := wr P12.READONLY 1 up
     Ready (hd 0x33 0x10 8) s ∧ acceptClosed s = false ∧ storeFull s = true) := by decide +kernel

/-! Commands of the device and its sessions. -/

theorem test_witness_log : up.tidy = true ∧ canRecord evMainsLost up = true ∧
    canRecord evMeterAdrift { up with ev := { up.ev with pend := List.replicate 256 ⟨0, 0, 0, 0, 0, 0, 0, []⟩ } } = false := by
  decide +kernel

theorem test_nop_returns_its_payload :
    replies (exec (.nop (hd 0 1 4) [1, 2, 3, 4]) up) stDone 0 [1, 2, 3, 4] = true := by decide +kernel

theorem test_witness_session_commands :
    Served (hd 3 2 0) [] false up ∧ Served (hd 2 2 0) [] true up ∧
    (let p : List Byte := [5, 0, 0, 0, 0, 0, 0, 0]
     let q : List Byte := [5, 0, 0, 0, 1, 0, 0, 0]
     (stateGate up (hd 1 2 8) true = .pass ∧ accGate up 1 = .pass ∧ bitAt (byteAt p 4) 0 = false ∧
       (sessAt up 0).st = .closed ∧ (hd 1 2 8).seq = leAt p 0 4) ∧
     bitAt (byteAt q 4) 0 = true ∧ (sessAt (sess0 5 [] []) 0).st = .opened ∧
     accepts (exec (.openSession (hd 1 2 8) p) up) = true ∧
     replies (exec (.openSession (hd 1 2 8) q) (sess0 7 [] [])) stDone 0 [7, 0, 0, 0, 1, 0, 0, 0] = true ∧
     replies (exec (.openSession (hd 1 2 8) q) up) stSessionClosed 0 [] = true) ∧
    (sessAt { up with cmd := { up.cmd with sess := up.cmd.sess.set 0 { sessAt up 0 with st := .resume } } } 0).st = .resume ∧
    (let p : List Byte := [5, 0, 0, 0, 0, 0, 0, 0]
     let s := { up with pwr := { up.pwr with mode := .start, step := 9 } }
     stateGate s (hd 1 2 8) true = .fail stNotReady 3 ∧ bitAt (byteAt p 4) 0 = false ∧ (sessAt s 0).st = .closed ∧
       (hd 1 2 8).seq = leAt p 0 4 ∧ replies (exec (.openSession (hd 1 2 8) p) s) stNotReady 3 [] = true) ∧
    stateGate up (hd 1 2 8) false = .pass ∧
    replies (exec (.openSession (hd 1 2 9) (zeros 9)) up) stBadPayload 0 [] = true := by decide +kernel

theorem test_witness_device_reads : Served (hd 5 1 0) [] false up ∧ Served (hd 4 1 0) [] false up ∧
    Served (hd 0x11 2 0) [] false up ∧ Served (hd 0x14 3 0) [] false up ∧
    (after (exec (.getStatus (hd 5 1 0) []) up) (fun t => ((lastReply t).map (fun x => x.2.2.length)) == some 32)) = true := by
  decide +kernel

/-- The chip next to the host, without an address. -/
def fresh : State := wr P02.NEIGHBOUR_U 0 up

theorem test_witness_enumerate : Served (hd 0x10 2 4) [0, 0, 0, 0] false up ∧ (hd 0x10 2 4).dest = 1 ∧
    (let h := { hd 0x10 2 4 with dest := 0 }
     Served h [1, 0, 0, 0] false fresh ∧ rd fresh P02.CHAIN_ADDR = 0 ∧ rd fresh P02.NEIGHBOUR_U = 0 ∧
     after (exec (.enumerate h [1, 0, 0, 0]) fresh) (fun t => t.chain.nextAddr == some 1) = true ∧
     replies (exec (.enumerate h [0x21, 0, 0, 0]) fresh) stOutOfRange 0 [] = true ∧
     after (exec (.enumerate h [1, 0, 0, 0]) (wr P02.CHAIN_ADDR 1 up)) (fun t => t.out == []) = true) ∧
    (let h := { hd 0x10 2 4 with dest := 0x3F }
     Served h [0, 0, 0, 0] false up) := by decide +kernel

/-- The confirm word of the reset commands. -/
def word : List Byte := [0xA5, 0x5A, 0, 0]

theorem test_witness_reset_commands : Served (hd 7 1 4) word false up ∧ leAt word 0 4 = 0x00005AA5 ∧ pairState up = 0 ∧
    (let s := wr P50.PAIR_STATE 2 up
     Served (hd 7 1 4) word false s ∧ paired s = true ∧ localCmd s (hd 7 1 4) = false) ∧
    leAt [0xA5, 0x5A, 0, 1] 0 4 ≠ 0x00005AA5 ∧ Served (hd 6 1 0) [] false up ∧ Served (hd 6 0x32 0) [] false up ∧
    (let s := { up with cmd := { up.cmd with funcReset := [(0x20, hd 6 0x20 0)] } }
     assocGet 0x20 s.cmd.funcReset = some (hd 6 0x20 0)) ∧
    (let s := { up with dl := { up.dl with resetNowAt := some 0 }, beat := { up.beat with ticks := 8 } }
     s.dl.resetNowAt = some 0 ∧ 0 + 8 ≤ s.beat.ticks ∧ after (exec .resetNow s) (fun t => t.pwr.mode == .start) = true) := by
  decide +kernel

theorem test_reset_command_answers_first :
    replies (exec (.devReset (hd 7 1 4) word) up) stDone 0 [] = true ∧
    replies (exec (.devReset (hd 7 1 4) [0, 0, 0, 0]) up) stBadPayload 0 [] = true := by decide +kernel

/-- A device with a legal key, and legal time not commissioned. -/
def legalUp : State := wr P30.SEAL_STATE 1 (wr P30.LEGAL_KEY_SET 1 up)

/-- An authority block of AUTH_COUNT 1. -/
def auth : List Byte := leB 8 1 ++ zeros 64

theorem test_witness_time_commands :
    (let p := zeros 16 ++ auth
     Served (hd 0x12 3 88) p true legalUp ∧ leAt p (p.length - 72) 8 = 1 ∧ rd legalUp P30.LEGAL_KEY_SET ≠ 0 ∧
       authFloor legalUp < 1 ∧ rd legalUp P03.LEGAL_COMMISSIONED = 0 ∧
       accepts (exec (.setLegalTime (hd 0x12 3 88) p true) legalUp) = true ∧
       replies (exec (.setLegalTime (hd 0x12 3 88) p false) legalUp) stDeniedLegal 0 [] = true ∧
       rd (wr P03.LEGAL_COMMISSIONED 1 legalUp) P03.LEGAL_COMMISSIONED = 1 ∧
       rd (wr P03.LEGAL_COMMISSIONED 1 legalUp) P03.LEGAL_DIVERGED = 0) ∧
    Served (hd 0x13 3 16) (zeros 16) true up ∧ rd up P03.SLOT_STEPPED = 0 ∧ slotStepOpen up = false ∧ rd (wr P03.SLOT_STEPPED 1 up) P03.SLOT_STEPPED ≠ 0 ∧
    legalUp.tidy = true ∧ ({ up with plumb := { up.plumb with est := true } }).plumb.est = true ∧ up.pwr.mode ≠ .start := by
  decide +kernel

/-! Parameter pages. -/

/-- A SET_PARAM header for a payload of 516 bytes. -/
def hw : Hdr := hd 0x21 0x01 516

/-- A write of a page number that does not exist, of an instance that does not exist, of half of HOLD_C. -/
def badWrites : List PWrite :=
  [{ page := 0x7F, inst := 0, data := 0, mask := 0 }, { page := 0x04, inst := 3, data := 0, mask := 0 },
   { page := 0x04, inst := 0, data := 0, mask := 2 ^ P04.HOLD_C.lo }]

theorem test_witness_parameter_writes : P04.HOLD_C.lo + P04.HOLD_C.width ≤ 2048 ∧ P04.HOLD_C ∈ pageFields P04.HOLD_C.page ∧
    (fieldWrite P04.HOLD_C 0 7).page < 256 ∧ (fieldWrite P04.HOLD_C 0 7).inst < 256 ∧
    (fieldWrite P04.HOLD_C 0 7).data < 2 ^ 2048 ∧ (fieldWrite P04.HOLD_C 0 7).mask < 2 ^ 2048 ∧
    needsLegal (fieldWrite P04.HOLD_C 0 7) = false ∧
    (parseWrite (fieldWrite P04.HOLD_C 0 7).payload).page = 0x04 := by decide +kernel

theorem test_parameter_write_takes_effect :
    rd (writePage (fieldWrite P04.HOLD_C 0 7) up) P04.HOLD_C = 7 ∧
    rd (writePage (fieldWrite P04.HOLD_C 0 7) up) P04.HOLD_DIV = 1000 := by decide +kernel

theorem test_witness_set_param :
    (Served hw badWrites[0].payload (writesNL badWrites[0] && !(clearsNode badWrites[0] && running up && !storeFull up)) up ∧
      badWrites[0].page ∉ pageNumbers ∧ replies (exec (.setParam hw badWrites[0].payload false) up) stUnknownPage 0 [] = true) ∧
    (badWrites[1].page ∈ pageNumbers ∧ instOk badWrites[1].page badWrites[1].inst = false ∧
      replies (exec (.setParam hw badWrites[1].payload false) up) stOutOfRange 0xFFFF [] = true) ∧
    (pageGate up badWrites[2].page badWrites[2].inst = none ∧ (partialAt badWrites[2]).isSome = true) ∧
    (let w := fieldWrite P30.PROFILE_PERIOD 0 4
     pageGate up w.page w.inst = none ∧ partialAt w = none ∧ needsLegal w = true ∧ authGood up w w.payload false = false ∧
       replies (exec (.setParam hw w.payload false) up) stDeniedLegal 0 [] = true) ∧
    (let w := fieldWrite P04.HOLD_DIV 0 255
     partialAt w = none ∧ needsLegal w = false ∧ ((rangeAt up w).toList ++ (planAt up w).toList).min?.isSome = true) ∧
    (let w := fieldWrite P40.PLAIN_IMPORT 0 1
     let s := wr P40.PLAIN_IMPORT 0 up
     partialAt w = none ∧ ((rangeAt s w).toList ++ (planAt s w).toList).min? = none ∧ deniedState s w = true) ∧
    (let w := fieldWrite P04.HOLD_C 0 7
     Served hw w.payload true up ∧ pageGate up w.page w.inst = none ∧ partialAt w = none ∧ deniedState up w = false ∧
       writesNL w = true ∧ accepts (exec (.setParam hw w.payload false) up) = true) ∧
    (let w := fieldWrite P40.TAMPER_SEEN 0 1
     Served hw w.payload false up ∧ writesNL w = false ∧ deniedState up w = false ∧
       after (exec (.setParam hw w.payload false) up) (fun t => t.cmd.dueDone.length == 1) = true) := by decide +kernel

theorem test_witness_parameter_reads :
    Served (hd 0x20 0x01 4) [0x04, 0, 0, 0] false up ∧ pageGate up 0x04 0 = none ∧
    (∀ f ∈ pageFields 0x04, rdI up f 0 < 2 ^ f.width) ∧ Served (hd 0x22 0x01 4) [0x04, 0, 0, 0] false up ∧
    (let w := defaultsWrite 0x02 0
     Served (hd 0x23 0x01 4) [0x02, 0, 0, 0] (writesNL w) up ∧ pageGate up w.page w.inst = none ∧ deniedState up w = false ∧
       writesNL w = true) ∧
    (let w := defaultsWrite 0x43 0
     pageGate up w.page w.inst = none ∧ deniedState up w = false ∧ writesNL w = false) := by decide +kernel

/-- Channel 3 tuned, without security. -/
def tuned : State := wrI P20.SEC_LEVEL 3 0 (wrI P20.CH0_KHZ 3 868000 (wrI P20.PORT_KHZ (radPort up 3) 868000 up))

theorem test_witness_device_field_writes :
    pairMember up = false ∧ Served hw (fieldWrite P01.ROLE 0 2).payload true up ∧ roleMinimum up ≤ 80 ∧
    rd (wr P40.PLAIN_IMPORT 1 up) P40.PLAIN_IMPORT ≠ 0 ∧ radioOn up = true ∧ plcOn up = true ∧
    radioEnableOk (writePage (fieldWrite P20.EN 3 1) tuned) 3 = true ∧ storeFull up = false ∧
    Served hw (fieldWrite P40.TAMPER_SEEN 0 1).payload false up ∧
    Served hw (fieldWrite P04.HOLD_C 0 0).payload false (wr P04.ACCEPT_STOPPED 1 up) := by decide +kernel

theorem test_field_writes_are_accepted :
    accepts (exec (.roleWrite hw 2) up) = true ∧ accepts (exec (.powerCapWrite hw 80) up) = true ∧
    accepts (exec (.holdDivWrite hw 16384) up) = true ∧ accepts (exec (.cMeasClear hw) up) = true ∧
    accepts (exec (.ethertypeWrite hw 0x0600) up) = true ∧ accepts (exec (.plainImportWrite hw false) up) = true ∧
    accepts (exec (.radioEnWrite hw true) up) = true ∧ accepts (exec (.plcEnWrite hw true) up) = true ∧
    accepts (exec (.metroEnWrite hw true) up) = true ∧ accepts (exec (.radioChannelEnWrite hw 15 false) up) = true ∧
    accepts (exec (.plcPhaseEnWrite hw 2 false) up) = true := by decide +kernel

/-- A SET_PARAM header for a payload of 588 bytes. -/
def hl : Hdr := hd 0x21 0x30 588

/-- A valid authority block. -/
def blk : AuthBlk := ⟨1, true⟩

theorem test_witness_legal_field_writes :
    blk.sigOk = true ∧ authFloor legalUp < blk.count ∧ rd legalUp P30.LEGAL_KEY_SET ≠ 0 ∧ metroOn legalUp = true ∧
    Served hl ((fieldWrite P30.SEAL_CAL 0 1).payload ++ leB 8 blk.count ++ zeros 64) true legalUp ∧
    sealMaySet legalUp = true ∧ rd (wr P30.LEGAL_KEY_SET 0 legalUp) P30.LEGAL_KEY_SET = 0 ∧
    authFloor (wr P30.LEGAL_KEY_SET 0 legalUp) < blk.count ∧ rd legalUp P30.SEAL_STATE ≠ 0 ∧
    accepts (exec (.sealCalWrite hl true (some blk)) legalUp) = true ∧
    accepts (exec (.legalUpdModeWrite hl true (some blk)) legalUp) = true ∧
    accepts (exec (.profilePeriodWrite hl 6 (some blk)) legalUp) = true ∧
    accepts (exec (.demandSettingWrite hl 1 60 15 (some blk)) legalUp) = true ∧
    accepts (exec (.legalKeyWrite hl 77 (some blk)) (wr P30.LEGAL_KEY_SET 0 legalUp)) = true ∧
    accepts (exec (.tzDstWrite hl ⟨840, 120, 12, 5, 7, 23, 12, 5, 7, 23⟩ (some blk)) legalUp) = true ∧
    replies (exec (.profilePeriodWrite { hl with len := 516 } 6 none) legalUp) stDeniedLegal 0 [] = true := by decide +kernel

/-! The beat, the Sett, the link and time. -/

/-- A beat count well past every period counted in beats. -/
def late (s : State) : State := { s with beat := { s.beat with ticks := 10 ^ 12 } }

theorem test_beat_boundary_counts_one_beat :
    after (exec (.beatBoundary { temps := List.replicate 6 25, sense := List.replicate 64 3000 }) up)
      (fun t => t.beat.ticks == 1 && t.beat.number == 1) = true := by decide +kernel

theorem test_witness_beat : up.pwr.mode ≠ .off ∧ up.pwr.mode ≠ .dormant ∧ up.beat.loaded = true ∧ up.pwr.mode ≠ .holdup ∧
    (let s := postEntry (commandEntry (hd 0x33 0x10 8) (zeros 8) [] [] {}) { up with beat := { up.beat with number := 7 } }
     s.ledger.openE ≠ [] ∧ s.beat.number % 8 = 7) ∧
    ({ up with pwr := { up.pwr with mode := .dormant } }).pwr.mode = .dormant := by decide +kernel

theorem test_witness_den :
    (let t := denBudget [25, 25, 25, 25, 25, 25] up
     4 ≤ validSensors t ∧ t.den.tHot = some 25 ∧ (25 : Int) < (rd up P04.T_KNEE : Int) - 3) ∧
    (let t := denBudget [120, 120, 120, 120, 120, 120] up
     t.den.tHot = some 120 ∧ 4 ≤ validSensors t ∧ rd up P04.T_KNEE < 108) ∧
    validSensors (denBudget [200, 200, 200, 25, 25, 25] up) < 4 := by decide +kernel

theorem test_witness_holdup :
    (let s := wr P04.ACCEPT_STOPPED 1 (wr P04.HOLD_C 65535 (wr P04.HOLD_DIV 16384 up))
     s.tidy = true ∧ rd s P04.ACCEPT_STOPPED ≠ 0 ∧
       (rd (denHoldup (List.replicate 64 4095) s) P04.ACCEPT_STOPPED = 0 ∨ running s = true)) ∧
    running up = true ∧ running State.reset = false ∧ rd up P04.ACCEPT_STOPPED = 0 := by decide +kernel

/-- An item of the Sett that waited 8 beats. -/
def waited8 : SettItem := { level := 40, flow := none, thread := false, charge := 8, work := .eventFlush, run := 8 }

/-- A state with jobs of FIFO 2 waiting. -/
def jobs (n : Nat) : State := { up with infeed := { up.infeed with
  jobs := List.replicate n { id := 1, mix := 0, item := { way := .radio 0, src := 0, arrival := .legal 0, format := 1, frame := [] }, dlms := false, ic := 0, keyGen := 0, retry := false } } }

theorem test_witness_sett_events :
    (let s := { up with den := { up.den with excluded := up.den.excluded.set 5 true, validRun := up.den.validRun.set 5 8000 } }
     s.den.excluded.getD 5 false = true ∧ 8000 ≤ s.den.validRun.getD 5 0) ∧
    8 ≤ ({ up with den := { up.den with hotRun := 8 } }).den.hotRun ∧ up.den.hotRun < 8 ∧
    (let s := { up with sett := { up.sett with queue := [waited8] } }
     (∃ i ∈ s.sett.queue, 8 ≤ i.run) ∧
       after (exec .itemOwed s) (fun t => t.sett.queue.all SettItem.owed) = true) ∧
    (∀ i ∈ up.sett.queue, i.run < 8) ∧ 384 ≤ sourceQueue (jobs 384) 2 ∧ sourceQueue (jobs 256) 2 ≤ 256 ∧
    after (exec (.holdAssert 2) (jobs 384)) (fun t => t.sett.hold.getD 2 false) = true ∧
    (let s := late (sess0 4 [] [5])
     ∃ e ∈ (sessAt s 0).early, (e.hdr.seq == 5 && decide (e.at_ + rd s P01.GAP_LIMIT * 8 ≤ s.beat.ticks)) = true) ∧
    (let o : OpenCmd := ⟨hd 0 1 0, 0, [], 0, 0⟩
     let s := late { up with cmd := { up.cmd with openC := [o] } }
     s.cmd.openC.find? (fun c => sessOf c.hdr == 0 && c.hdr.seq == 5) = some o ∧
       max o.at_ o.lastPending + rd s P01.REPLY_LIMIT * 8 ≤ s.beat.ticks ∧
       replies (exec (.pendingReply 0 5 50) s) stPending 50 [] = true) := by decide +kernel

/-- Port U in a state of its link. -/
def portU (st : PortSt) (rxNext : Nat) : State :=
  { up with chain := { up.chain with u := { up.chain.u with st := st, rxNext := rxNext } } }

/-- A data frame of port U. -/
def frame (lseq : Nat) : LinkFrame := ⟨true, rd up P02.ETHERTYPE, lseq, 0, 4, 0x3E, zeros 24⟩

theorem test_witness_link_frames : up.pwr.mode ≠ .off ∧
    (frame 0).etherType = rd (portU .up 0) P02.ETHERTYPE ∧ (portOf (portU .up 0) .u).st = .up ∧
    (portOf (hear .u 50 ⟨0, 4, 0x3E⟩ (portU .up 0)) .u).rxNext = 0 ∧
    (frame 0).etherType ≠ 0x88F7 ∧ ({ frame 0 with etherType := 0x88F7 }).fcsOk = true ∧
    ({ frame 0 with fcsOk := false }).fcsOk = false ∧
    rd (late (portU .up 0)) P02.LINK_RTO ≤ ((late (portU .up 0)).beat.ticks + 1 - (portOf (late (portU .up 0)) .u).lastProgress) * 125 ∧
    (portOf (hear .u 50 ⟨0, 4, 0x3E⟩ { portU .up 0 with chain := { up.chain with u := { up.chain.u with st := .up, nacked := true } } }) .u).nacked
      = true ∧ up.chain.d.st ≠ .resync ∧
    ({ up with chain := { up.chain with d := { up.chain.d with st := .resync } } }).chain.d.st = .resync ∧ (portU .resync 0).chain.u.st ≠ .up ∧
    (frame 0).etherType + 1 ≠ rd up P02.ETHERTYPE ∧ (portOf (portU .down 0) .u).st ≠ .up ∧
    (5 + 65536 - 4) % 65536 ≤ 32768 ∧ 32768 < (5 + 65536 - 6) % 65536 ∧
    after (exec (.linkDataFrame .u (frame 5)) (portU .up 5)) (fun t => (portOf t .u).rxNext == 6) = true ∧
    after (exec (.linkDataFrame .u (frame 6)) (portU .up 5)) (fun t => (portOf t .u).nacked) = true := by decide +kernel

theorem test_witness_link_states : (portOf up .u).st = .down ∧ (portOf (portU .resync 0) .u).st ≠ .down ∧
    (portOf (portU .up 0) .u).lastRx + rd (late (portU .up 0)) P02.LINK_DEAD * 8 ≤ (late (portU .up 0)).beat.ticks ∧
    (portOf (late up) .u).downAt + rd (late up) P02.LINK_HOLD * 8 ≤ (late up).beat.ticks ∧
    (portOf (late up) .d).lastTx + rd (late up) P02.PROBE_MS * 8 ≤ (late up).beat.ticks ∧
    (1 : Nat) ≠ rd up P03.PTP_DOMAIN ∧ up.chain.d.st = .down ∧ (portOf (portU .up 0) .u).lastPdelay = none ∧
    0 ≤ (1000 * 65536 + rxCorr up .u - txCorr up .u) / 2 / 65536 ∧ (1000 * 65536 + rxCorr up .u - txCorr up .u) / 2 / 65536 ≤ 10000 ∧
    10000 < (65536 * 10 ^ 6 + rxCorr up .u - txCorr up .u) / 2 / 65536 ∧
    after (exec (.linkUp .u 3) up) (fun t => (portOf t .u).st == .resync && (portOf t .u).neigh == 3) = true ∧
    after (exec (.linkResync .u ⟨0, 4, 3⟩) (portU .resync 9)) (fun t => (portOf t .u).rxNext == 0) = true := by
  decide +kernel

/-- A one-step Sync of domain 0. -/
def msg : SyncMsg := ⟨0, false, 100, 0, 0, 0, 0⟩

theorem test_witness_time_events :
    rd up P03.PTP_DOMAIN = msg.domain ∧ msg.twoStep = false ∧ rd up P03.PLUMB_STATE = 0 ∧ up.tidy = true ∧
    (let s := { up with chain := { up.chain with d := { up.chain.d with st := .up } } }
     s.chain.d.st ≠ .down ∧ msg.residence + txCorr s .d - rxCorr s .u ≤ 1000000 * 65536 ∧
       1000000 * 65536 < 70000000000 + txCorr s .d - rxCorr s .u) ∧
    (let s := late (wr P03.PLUMB_STATE 2 up)
     s.tidy = true ∧ rd s P03.PLUMB_STATE = 2 ∧ s.plumb.lastSync + syncLossBeats s ≤ s.beat.ticks) ∧
    (let s := late (wr P03.PLUMB_FREE 1 up)
     rd s P03.PLUMB_STATE = 0 ∧ rd s P03.PLUMB_FREE ≠ 0 ∧ s.plumb.startAt + rd s P03.START_WAIT * 8000 ≤ s.beat.ticks) ∧
    rd up P03.PPS_IN_EN = 0 ∧
    (let s := wr P03.PPS_IN_EN 1 up
     rd s P03.PPS_IN_EN ≠ 0 ∧ 1000000 < (secOffset (chainNs s + 2000000)).natAbs ∧
       (secOffset (chainNs s + 5)).natAbs ≤ 1000000) ∧
    (let s := wr P03.PLUMB_STATE 2 (wr P03.PPS_OUT_EN 1 up)
     rd s P03.PPS_OUT_EN ≠ 0 ∧ rd s P03.PLUMB_STATE = 2 ∧ ppsDue s = true ∧ s.plumb.ppsAt ≠ some s.beat.ticks ∧
       after (exec .ppsOutPulse s) (fun t => t.plumb.ppsOut) = true) ∧
    rd (wr P03.LEGAL_DIVERGED 1 up) P03.LEGAL_DIVERGED ≠ 0 := by decide +kernel

theorem test_sync_steps_an_unlocked_clock :
    after (exec (.sync msg) up) (fun t => rd t P03.PLUMB_STATE == 1 && t.plumb.stepped) = true := by decide +kernel

theorem test_witness_wire_seconds : (5 : Nat) < 2 ^ 48 ∧ widen (2 ^ 48 - 1) 5 = 2 ^ 48 + 5 ∧
    widen (2 ^ 48 + 1) (2 ^ 48 - 1) = 2 ^ 48 - 1 ∧ widen (2 ^ 48 + 7) 7 = 2 ^ 48 + 7 := by decide +kernel

/-! Meters, ingest and streams. -/

/-- Key slot 1 with a derivation key. -/
def keyed : State := { up with keys := { up.keys with
  slots := [(1, { attr := 1, type := 1, loaded := true, key := zeros 16, origin := .plain })] } }

/-- ENROL_METER of title 9: the MIX asked for, and the key generation. -/
def enrolP (mix gen : Nat) : List Byte :=
  leB 8 9 ++ leB 4 mix ++ leB 2 gen ++ leB 2 (2 ^ 14 + 1) ++ leB 2 0 ++ leB 2 1 ++ leB 1 0xFF ++ zeros 11

/-- The meter enrolled by it. -/
def mtr : Meter := { title := 9, mix := 7, key := 2 ^ 14 + 1, keyGen := 1, group := 0, chEnable := 1, template := 0xFF }

/-- A device with that meter. -/
def metered : State := { keyed with infeed := { keyed.infeed with meters := [mtr] } }

theorem test_witness_meters :
    (let p := enrolP 7 1
     Served (hd 0x32 0x10 32) p true keyed ∧ leAt p 14 2 / 2 ^ 14 = 1 ∧ slotAttr keyed (leAt p 14 2 % 512) = 1 ∧
       byteAt p 20 = 0xFF ∧ enrolledSoon keyed < 16384 ∧ meterOfTitle keyed 9 = none ∧
       (∀ x ∈ pendingEnrols keyed, x.2 ≠ 9) ∧ mixTaken keyed 7 = false ∧
       accepts (exec (.enrolMeter (hd 0x32 0x10 32) p) keyed) = true) ∧
    (let p := enrolP 0xFFFFF 1
     leAt p 8 4 % 2 ^ 20 = 0xFFFFF ∧ freeMix keyed (enrolLimit keyed) = some 0) ∧
    slotAttr up (leAt (enrolP 7 1) 14 2 % 512) ≠ 1 ∧
    meterOfTitle metered 9 = some mtr ∧ enrolFields (enrolP 7 1) = meterFields mtr ∧
    ((enrolFields (enrolP 7 2)).drop 1 = (meterFields mtr).drop 1 ∧ mtr.keyGen < leAt (enrolP 7 2) 12 2) ∧
    Served (hd 0x33 0x10 8) (leB 8 7) true metered ∧ meterAt metered 7 = some mtr ∧ meterAt metered 8 = none ∧
    Served (hd 0x38 0x11 4) (leB 4 7) false metered ∧ recordAt metered 7 = some mtr ∧ recordAt metered 8 = none ∧
    keyed.tidy = true ∧ meterAt keyed 7 = none ∧
    accepts (exec (.retireMeter (hd 0x33 0x10 8) (leB 8 7)) metered) = true ∧
    replies (exec (.getMeter (hd 0x38 0x11 4) (leB 4 8)) metered) stUnknownObject 0 [] = true := by decide +kernel

/-- LOAD_PROFILE_TEMPLATE of one step that ends the profile. -/
def tplP (id iv n : Nat) : List Byte := leB 1 id ++ leB 1 iv ++ leB 1 n ++ zeros 13 ++ List.replicate (8 * n) 0xEE

theorem test_witness_templates : (tplP 63 4 1).length = 16 + 8 * 1 ∧ byteAt (tplP 63 4 1) 0 ≤ 63 ∧
    intervalSec (byteAt (tplP 63 4 1) 1) ≠ 0 ∧ Served (hd 0x34 0x10 24) (tplP 63 4 1) true up ∧
    63 < byteAt (tplP 64 4 1) 0 ∧ intervalSec (byteAt (tplP 0 0 1) 1) = 0 ∧
    replies (exec (.loadProfileTemplate (hd 0x34 0x10 24) (tplP 64 4 1)) up) stBadPayload 0 [] = true := by decide +kernel

/-- A part of an ingest batch of number 1. -/
def part (total off n : Nat) : List Byte := leB 8 1 ++ leB 4 off ++ leB 4 total ++ List.replicate n 0x11

/-- Its header. -/
def hb : Hdr := hd 0x30 0x10 24

/-- A state that holds the first 8 bytes of a batch of 16. -/
def half : State := { up with infeed := { up.infeed with
  batches := [{ id := 1, total := 16, parts := [(0, List.replicate 8 0x11)], waiting := [(hb, part 16 0 8)], lastAt := 0, st := 1 }] } }

theorem test_witness_ingest : Served hb (part 16 0 8) true up ∧ underHold up 1 = false ∧
    underHold { up with sett := { up.sett with hold := up.sett.hold.set 1 true } } 1 = true ∧
    leAt (part 16 0 8) 0 8 ≠ 0 ∧ overlapDiff 0 (List.replicate 8 0x11) [] = none ∧
    (overlapDiff 7 [0x12] [(0, List.replicate 8 0x11)]).isSome = true ∧
    lowestMissing 0 [(0, List.replicate 8 0x11)] ≠ 16 ∧ lowestMissing 0 [(0, List.replicate 16 0x11)] = 16 ∧
    replies (exec (.ingestBatch hb (part 16 0 8)) up) stHeld 1 (leB 8 1 ++ leB 4 8 ++ leB 4 8) = true ∧
    after (exec (.ingestBatch hb (part 16 8 8)) half) (fun t => t.infeed.batches.map Batch.st == [2]) = true ∧
    replies (exec (.ingestBatch hb (part 15 0 8)) up) stBadPayload 12 [] = true ∧
    Served (hd 0x31 0x10 8) (leB 8 1) false half ∧
    ((half.infeed.batches.filter (fun b => b.id == 1 && b.st != 3)).getLast?).isSome = true ∧
    ((late half).infeed.batches.find? (fun b => b.id == 1 && b.st == 1)).isSome = true ∧
    0 + rd (late half) P10.BATCH_HOLD * 8000 ≤ (late half).beat.ticks ∧
    replies (exec (.batchExpired 1) (late half)) stNoResource 0x1003 [] = true := by decide +kernel

/-- A job of the meter. -/
def job (dlms : Bool) (gen : Nat) : UnsealJob :=
  { id := 3, mix := 7, item := { way := .radio 0, src := 0, arrival := .legal 0, format := 1, frame := [] }, dlms := dlms,
    ic := 5, keyGen := gen, retry := false }

/-- A state with that job at what its lane came to, in the overlap of a raised key generation, and a served frame. -/
def working (dlms : Bool) (r : Option (JobStatus × List Byte)) : State := { metered with infeed := { metered.infeed with
  jobs := [{ job dlms 1 with res := r }]
  slowQ := [{ item := (job dlms 1).item, served := true }] } }

/-- A frame that firmware returns without readings. -/
def ret : SlowRet := ⟨7, [], 0, 5, 0, 0, 900, 900, true⟩

theorem test_witness_unsealing :
    (let s := working true (some (.authFail, []))
     let j := { job true 1 with res := some (.authFail, []) }
     jobOf s 3 = some j ∧ firstOfFlow s j = true ∧ meterAt s 7 = some mtr ∧ mayRetry s mtr j = true ∧ derivedMode mtr = true ∧
     overlap s mtr = true ∧ after (exec (.unsealComplete 3 .authFail) s) (fun t => t.infeed.jobs.map UnsealJob.keyGen == [0]) = true) ∧
    (let s := working false (some (.ok, []))
     let j := { job false 1 with res := some (.ok, []) }
     jobOf s 3 = some j ∧ firstOfFlow s j = true ∧ mayRetry s mtr j = false ∧
     after (exec (.unsealComplete 3 .ok) s) (fun t => t.infeed.jobs == []) = true) ∧
    jobOf up 3 = none ∧ jobOf (working true none) 3 = some (job true 1) ∧ (job true 1).res = none ∧
    (∀ x, servedSlow up = some x → False) ∧
    (let s := setFifo 0 { opened := some {} } (working true none)
     let x : SlowItem := { item := (job true 1).item, served := true }
     servedSlow s = some x ∧ (putItemW 0 (normPacket ret x.item) 1 s).isSome = true ∧
     after (exec (.slowPathReturn ret) s) (fun t => t.infeed.slowQ == []) = true) := by decide +kernel

theorem test_counter_check : icCheck { mtr with icHigh := 40, icMap := 1 } 41 = .pass ∧
    icCheck { mtr with icHigh := 40, icMap := 1 } 40 = .again ∧ icCheck { mtr with icHigh := 40, icMap := 1 } 9 = .pass ∧
    icCheck { mtr with icHigh := 40, icMap := 1 } 8 = .replay := by decide +kernel

/-- Stream port 0 in a state. -/
def port0 (st : PortOpen) (part : Option Partial) : State :=
  wrI P44.CREDIT_END 0 8 (wrI P44.PKT_NEXT 0 5 { up with memory := { up.memory with
    streams := up.memory.streams.set 0 { strAt up 0 with st := st, part := part, partWords := 0 } } })

/-- A stream fragment of one word. -/
def frag : List Byte := leB 2 0 ++ leB 2 0 ++ leB 2 1 ++ zeros 2 ++ zeros 16

theorem test_witness_streams : Served (hd 0x35 0x44 8) (zeros 8) false up ∧ (strAt up 0).st = .closed ∧
    underHold up 21 = false ∧ up.tidy = true ∧ 0 < up.memory.streams.length ∧
    (strAt (port0 .opened none) 0).st = .opened ∧ (strAt (port0 .closing none) 0).st = .closing ∧
    underHold { up with sett := { up.sett with hold := up.sett.hold.set 21 true } } 21 = true ∧ 7 < byteAt (leB 1 8) 0 ∧
    Served (hd 0x36 0x44 4) (zeros 4) false up ∧
    (let s := port0 .opened none
     stateGate s (hd 0x37 0x44 24) false = .pass ∧ s.tidy = true ∧ (strAt s 0).part = none ∧
       (hd 0x37 0x44 24).seq = rdI s P44.PKT_NEXT 0 ∧ frag.length % 16 = 8 ∧ leAt frag 2 2 = 0 ∧
       leAt frag 4 2 = (frag.length - 8) / 16 ∧ 1 ≤ bankRoom (fifoAt s 21) ∧
       2 ^ 31 ≤ seqDist (rdI s P44.CREDIT_END 0) ((rdI s P44.WORDS_IN 0 + 1) % 2 ^ 32) ∧
       after (exec (.streamData (hd 0x37 0x44 24) frag) s) (fun t => rdI t P44.PKT_NEXT 0 == 6) = true) ∧
    (let s := late (port0 .opened (some ⟨1, zeros 16, 0⟩))
     (strAt s 0).part = some ⟨1, zeros 16, 0⟩ ∧ 0 + rdI s P44.STALL_BEATS 0 ≤ s.beat.ticks ∧
     after (exec (.fifoBankClose 21) s) (fun t => t.pending == []) = true) ∧
    (let s := { port0 .opened none with beat := { up.beat with ticks := 2 ^ 20 } }
     progressDue (wr P51.NOTICE_CODES evStreamProgress (wr P02.CHAIN_ADDR 1
       (setStr 0 { strAt s 0 with seenCredit := 2 ^ 30 } (wrI P44.NOTICE_WORDS 0 16 s)))) 0 = true) ∧
    progressDue up 0 = false ∧
    (let s := setFifo 5 { opened := some { items := [(job false 0).item], used := 1 } } up
     (fifoAt s 5).opened ≠ none ∧ after (exec (.fifoBankClose 5) s) (fun t => (fifoAt t 5).closedB.length == 1) = true) := by
  decide +kernel

theorem test_stream_open_closed_port :
    after (exec (.streamOpen (hd 0x35 0x44 8) (zeros 8)) up) (fun t => (strAt t 0).st == .opened && rdI t P44.PKT_NEXT 0 == 1)
      = true ∧
    after (exec (.streamClose (hd 0x36 0x44 4) (zeros 4)) up) (fun t => t.cmd.dueDone.length == 1) = true ∧
    after (exec (.streamProgress 0) { up with memory := { up.memory with
      streams := up.memory.streams.set 0 { strAt up 0 with st := .opened, seenCredit := 1 } } }) (fun _ => true) = true := by
  decide +kernel

/-! Rules, balance, Scribe, ledger and export. -/

/-- SET_RULES: one row with the default values but its interval. -/
def rowP (iv : Nat) : List Byte :=
  leB 1 1 ++ leB 1 0 ++ leB 2 1 ++ leB 2 0 ++ zeros 2 ++
    (leB 1 0 ++ leB 1 iv ++ leB 1 0 ++ leB 1 10 ++ leB 1 4 ++ leB 1 4 ++ leB 1 40 ++ leB 1 3 ++ zeros 8 ++ leB 4 10 ++ zeros 12)

/-- Legal time at `n` seconds. -/
def at_ (n : Nat) (s : State) : State := { s with batt := { s.batt with legal := n * 10 ^ 9 } }

/-- The meter with channel 0 used. -/
def tailed : State := { metered with grade := { metered.grade with tails := [((7, 0), { hasLast := true, lastEnd := 900 })] } }

theorem test_witness_rules : Served (hd 0x39 0x11 40) (rowP 4) true up ∧ (rowP 4).length = 8 + 1 * 32 ∧
    rulesRange (rowP 4) = none ∧ rulesBad (rowP 4) = none ∧ rulesMove up (applyRules (rowP 4) up) = false ∧
    rulesMove tailed (applyRules (rowP 5) tailed) = true ∧ 3 < byteAt (leB 1 4) 0 ∧
    accepts (exec (.setRules (hd 0x39 0x11 40) (rowP 4)) up) = true ∧
    replies (exec (.setRules (hd 0x39 0x11 40) (rowP 5)) tailed) stDeniedState 0 [] = true ∧
    replies (exec (.setRules (hd 0x39 0x11 40) (rowP 4 ++ [0])) up) stBadPayload 2 [] = true ∧
    (applyEffect ⟨some (.setRules (hd 0x39 0x11 40) (rowP 5)), [], rowP 5⟩ up).grade.rows.map Prod.fst = [0] := by
  decide +kernel

/-- BALANCE_GROUP_SET of group 3 with a feed. -/
def grpP (feed : Nat) : List Byte :=
  leB 1 1 ++ leB 1 0 ++ leB 2 1 ++ leB 2 3 ++ zeros 2 ++
    (leB 1 feed ++ leB 1 4 ++ leB 1 0 ++ [0xFF, 0xFF, 0xFF, 0xFF, 1] ++ leB 4 7 ++ leB 1 0 ++ leB 1 16 ++ leB 1 2 ++ leB 1 4 ++
     leB 4 0 ++ leB 4 0 ++ leB 4 1000 ++ leB 4 100 ++ leB 4 0 ++ leB 4 500 ++ leB 2 9800 ++ leB 1 16 ++ zeros 1 ++ leB 4 0 ++
     leB 4 100000 ++ leB 4 1 ++ zeros 8)

theorem test_witness_balance : (grpP 0).length = 8 + 1 * tallySize 1 ∧ tallyBad (grpP 0) = none ∧
    Served (hd 0x58 0x13 72) (grpP 0) true metered ∧ needsMetro metered 1 (tallyEntry (grpP 0) 0) = false ∧
    namesNone metered 1 (tallyEntry (grpP 0) 0) = false ∧ feedsSelf metered 1 3 (tallyEntry (grpP 0) 0) = false ∧
    needsMetro (role 2) 1 (tallyEntry (grpP 1) 0) = true ∧ Served (hd 0x58 0x13 72) (grpP 1) true (role 2) ∧
    accepts (exec (.balanceGroupSet (hd 0x58 0x13 72) (grpP 0)) metered) = true ∧
    replies (exec (.balanceGroupSet (hd 0x58 0x13 72) (grpP 1)) (role 2)) stDeniedState 0 [] = true := by decide +kernel

/-- EDIT_READING of meter 7, channel 0, at 900 s. -/
def editP (prev : Nat) : List Byte := leB 3 7 ++ zeros 1 ++ leB 5 900 ++ zeros 3 ++ leB 8 55 ++ leB 8 prev ++ zeros 12

/-- The meter with an estimate at 900 s. -/
def slotted (m : List ((Nat × Nat) × Tail)) : State := { metered with
  infeed := { metered.infeed with presence := [((7, 0), { h := 1, slots := [.estimated] })] }
  grade := { metered.grade with tails := m } }

theorem test_witness_edit : Served (hd 0x3A 0x11 40) (editP 0) true (slotted []) ∧ mtr.chEnable.testBit 0 = true ∧
    chanLen (slotted []) mtr 0 ≠ 0 ∧ 900 % chanLen (slotted []) mtr 0 = 0 ∧
    slotAt (slotted []) 7 0 (slotOf (chanLen (slotted []) mtr 0) 900) = some .estimated ∧
    newestRec (slotted []) 7 0 900 = none ∧ leAt (editP 0) 20 8 = 0 ∧ leAt (editP 1) 20 8 ≠ 0 ∧ meterAt up 7 = none ∧
    (tailAt tailed 7 0).hasLast = true ∧ (tailAt tailed 7 0).lastEnd = 900 ∧ (tailAt (slotted []) 7 0).hasLast = false ∧
    accepts (exec (.editReading (hd 0x3A 0x11 40) (editP 0)) (slotted [])) = true ∧
    replies (exec (.editReading (hd 0x3A 0x11 40) (editP 1)) (slotted [])) stDeniedState 0 [] = true := by decide +kernel

/-- A campaign on reference set 0 over meter 7. -/
def camp : ScribeCamp :=
  { no := 1, refSet := 0, voltCh := 0, step := 900, first := 900, len := 96, selected := [7] }

/-- A device with that campaign and a feed reference, at a time after its window. -/
def scribing : State := at_ (10 ^ 6) { metered with tally := { metered.tally with
  campaigns := [camp], refSets := [(0, [{ type := 1 }, {}, {}, {}, {}, {}])] } }

/-- SCRIBE_CAMPAIGN start on set 0. -/
def startP : List Byte := leB 1 1 ++ leB 1 0 ++ leB 1 0 ++ leB 1 4 ++ leB 4 0 ++ leB 4 100 ++ leB 2 96 ++ leB 1 0 ++ leB 1 0

theorem test_witness_scribe : Served (hd 0x5A 0x13 16) ([1] ++ zeros 15) false up ∧ campOf scribing 1 = some camp ∧
    campOf up 0 = none ∧ Served (hd 0x59 0x13 16) startP true scribing ∧ usedRefs scribing (byteAt startP 1) ≠ [] ∧
    (scribing.tally.campaigns.filter campRuns).length + pendingStarts scribing < 4 ∧ metroOn scribing = true ∧
    (selectOf scribing startP).length ≤ 65536 ∧ campRuns camp = true ∧ undecided camp 7 = true ∧
    evaluable scribing camp 7 = true ∧ seriesOk scribing 7 0 900 = false ∧ undecided camp 8 = false ∧
    accepts (exec (.scribeCampaign (hd 0x59 0x13 16) startP) scribing) = true ∧
    replies (exec (.scribeCampaign (hd 0x59 0x13 16) ([2] ++ zeros 15)) up) stUnknownObject 0 [] = true ∧
    after (exec (.scribeEvaluate 1 7) scribing) (fun t => t.tally.campaigns.map ScribeCamp.st == [3]) = true := by
  decide +kernel

theorem test_witness_interval :
    (let s := at_ (10 ^ 6) up
     let x := grpAt s 3
     let d := (nextInterval s x).1
     let e := (nextInterval s x).2
     tallyRuns s = true ∧ x.lastT < e ∧ mayClose s 3 d e = true ∧
       after (exec (.intervalClose 3) s) (fun t => (grpAt t 3).lastT == e && (grpAt t 3).closes == 1) = true) ∧
    (let s := at_ (10 ^ 6) { up with tally := { up.tally with groups := [(3, { lastT := 10 ^ 6 })] } }
     mayClose s 3 {} (10 ^ 6 + 900) = false) := by decide +kernel

/-- A page in segment 4 with its copies in a state. -/
def rec1 (a b : CopySt) : PageRec := { slots := 1, seg := 4, die0 := 0, st0 := a, die1 := 0, st1 := b }

/-- Group 1 of one page in a state of its copies. -/
def grp1 (a b : CopySt) : Group :=
  { no := 1, entries := [{ kind := 1, head := zeros 22 }], pages := [rec1 a b],
    sealTime := 0, horizon := 0, replayBase := 0, bootCount := 1 }

/-- A ledger with that group. -/
def ledger1 (a b : CopySt) (acc : Bool) : State := { up with ledger := { up.ledger with
  groups := [{ grp1 a b with accepted := acc }], nextGroup := 2 } }

theorem test_witness_ledger :
    (let l : List Entry := [{ kind := 1, head := zeros 22 }]
     let s := { up with
       ledger := { up.ledger with toSeal := [l] }
       ftl := { up.ftl with dies := [1, 1], segs := [(4, .opened)], openSegs := [((0, 0), (4, 1))] } }
     s.ledger.toSeal = [l] ∧ rd s P12.NO_DIE_PAIR = 0 ∧ up.ledger.toSeal = [] ∧ pagesFit s l = true ∧
     s.ledger.sealFrame ≠ some (frameNo s) ∧ after (exec .ledgerGroupSeal s) (fun t => t.ledger.groups.length == 1) = true) ∧
    (pageOf (ledger1 .programming .programming false) 1 0 = some (rec1 .programming .programming)) ∧
    after (exec (.pageProgramDone 1 0 .c0 true) (ledger1 .programming .programming false))
      (fun t => (pageOf t 1 0).map PageRec.st0 == some .readBack) = true ∧
    copySt .c1 (rec1 .verified .readBack) = .readBack ∧ 3 ≤ rd up P12.VERIFY_BITS ∧
    after (exec (.copyVerified 1 0 .c1 3 true) (ledger1 .verified .readBack false))
      (fun t => (pageOf t 1 0).map PageRec.st1 == some .verified) = true ∧
    silent (ledger1 .verified .verified false) = false ∧ (ledger1 .verified .verified false).pair.used = none ∧
    after (exec .groupAccept (ledger1 .verified .verified false)) (fun t => t.ledger.groups.all Group.accepted) = true ∧
    after (exec .groupAccept (ledger1 .verified .readBack false)) (fun t => t.ledger.groups.all Group.accepted) = false ∧
    ((ledger1 .verified .verified true).ledger.groups.find? (fun g => g.accepted && !g.released)).isSome = true ∧
    after (exec .groupRelease (ledger1 .verified .verified true)) (fun t => t.ledger.groups.all Group.released) = true ∧
    toReplicate (ledger1 .verified .missing true) = 1 ∧ toReplicate up = 0 ∧ up.tidy = true ∧
    rd (wr P41.WORN 1 up) P41.WORN ≠ 0 ∧ rd up P12.WORN = 0 ∧
    (let s := { ledger1 .verified .verified true with ftl := { up.ftl with segs := [(4, .closed)] } }
     assocGet 4 s.ftl.segs = some .closed ∧ s.ledger.groups.all (groupDone s 4) = false ∧
     (let u := { s with ftl := { s.ftl with segs := [(9, .closed)] }, sett := { s.sett with granted := [.reclaim] } }
      u.ledger.groups.all (groupDone u 9) = true ∧ u.ledger.carry = none ∧ granted u .reclaim = true ∧ reclaimMay u 9 = true ∧
      after (exec (.segmentReclaim 9) u) (fun t => assocGet 9 t.ftl.segs == none) = true)) ∧
    (let s := { up with ledger := { up.ledger with carry := some ⟨9, grp1 .verified .verified⟩ }, sett := { up.sett with granted := [.reclaim] } }
     granted s .reclaim = true ∧ reclaimMay s 9 = true)
    := by decide +kernel

/-- EXPORT_OPEN of stream 2 with every kind. -/
def openP : List Byte := leB 1 2 ++ leB 1 7 ++ zeros 2 ++ leB 2 0xFFFF ++ zeros 2 ++ leB 4 0 ++ leB 4 0xFFFFF

/-- Stream 2 open under epoch 1. -/
def exporting : State := { up with ledger := { up.ledger with
  streams := up.ledger.streams.set 2 { isOpen := true, kinds := 7, chMask := 0xFFFF, mixHi := 0xFFFFF, epoch := 1 } } }

/-- A payload for stream 2 of epoch 1 and a sequence. -/
def seqP (n q : Nat) : List Byte := leB 1 2 ++ zeros 1 ++ leB 2 n ++ leB 4 1 ++ leB 8 q

theorem test_witness_export : Served (hd 0x40 0x12 16) openP true up ∧ (streamAt up 2).isOpen = false ∧
    byteAt openP 1 % 8 ≠ 0 ∧ (openFilter openP (streamAt up 2)).mixLo ≤ (openFilter openP (streamAt up 2)).mixHi ∧
    openFilter openP (streamAt exporting 2) = streamAt exporting 2 ∧
    Served (hd 0x41 0x12 16) (seqP 255 1) false exporting ∧ (streamAt exporting 2).isOpen = true ∧
    leAt (seqP 255 1) 4 4 = (streamAt exporting 2).epoch ∧ oldestX exporting 2 ≤ 1 ∧ 1 ≤ highReadable exporting 2 + 1 ∧
    highReadable exporting 2 + 1 < 2 ∧ Served (hd 0x42 0x12 16) (seqP 0 0) true exporting ∧
    Served (hd 0x43 0x12 4) [2, 0, 0, 0] true exporting ∧ 2 < up.ledger.streams.length ∧
    Served (hd 0x44 0x12 32) ([1, 1] ++ zeros 30) false up ∧ Served (hd 0x45 0x12 0) [] false up ∧
    accepts (exec (.exportOpen (hd 0x40 0x12 16) openP) up) = true ∧
    replies (exec (.exportRead (hd 0x41 0x12 16) (seqP 1 2)) exporting) stOutOfRange 64 [] = true ∧
    accepts (exec (.exportAck (hd 0x42 0x12 16) (seqP 0 0)) exporting) = true ∧
    replies (exec (.exportAck (hd 0x42 0x12 16) (seqP 0 1)) exporting) stOutOfRange 64 [] = true ∧
    accepts (exec (.exportClose (hd 0x43 0x12 4) [2, 0, 0, 0]) exporting) = true := by decide +kernel

/-! Radio. -/

/-- The device with channel 0 enabled, without security, in a state. -/
def chan (st : Nat) (s : State) : State :=
  wrI P20.EN 0 1 (wrI P20.STATE 0 st (wrI P20.SEC_LEVEL 0 0 s))

/-- A neighbour of channel 0. -/
def nb (st : Nat) : Neigh := { ext := 9, short := 1, ch := 0, st := st }

/-- Channel 0 a coordinator with that neighbour. -/
def coord (n : Neigh) : State :=
  let s := chan 2 metered
  { s with radio := { s.radio with neigh := [n] } }

/-- A data frame from the neighbour. -/
def rxF (k : Nat) (ack : Bool) : RadioRx := ⟨true, k, 0, 0, 0, 0, true, some 9, 1, true, ack, [], -60, 200, 0⟩

/-- Channel 0 with a reception in progress. -/
def receiving (s : State) : State := modChan 0 (fun c => { c with rx := some ⟨20, 0, 0, false⟩ }) s

/-- A frame queued on channel 0. -/
def txF (cls : Nat) : RadTx := { ch := 0, cls := cls, ext := none, dest := 0xFFFF, payload := [1], ackReq := false }

/-- Channel 0 with frames queued. -/
def queued (l : List RadTx) : State :=
  let s := chan 2 up
  { s with radio := { s.radio with txq := l }, batt := { s.batt with slot := 10 ^ 9 } }

/-- A member of channel 0 with a parent. -/
def member (st missed : Nat) : State :=
  modChan 0 (fun c => { c with parent := some ⟨5, 1, 2, 0, [], 0, 0, missed, 0, 0⟩ }) (wrI P20.ROLE 0 1 (chan st up))

/-- The request of the neighbour for a slot. -/
def ask (period cell flags : Nat) : SlotIn := ⟨9, period, cell, 40, flags⟩

/-- The neighbour with a slot, at a time after its window at 600 s. -/
def slept (missed : Nat) : State :=
  let s := coord { nb 2 with period := 600, missed := missed }
  { s with batt := { s.batt with slot := 1000000000000 } }

/-- A flood of origin 3 in the seen-cache with a relay on channel 0. -/
def flooded : State := let s := chan 2 up; { s with radio := { s.radio with seen := [⟨3, 4, 0, 1, some (0, zeros 8, 0)⟩] } }

theorem test_witness_radio_frames : radChanUp (chan 2 up) 0 = true ∧ radChanUp up 0 = false ∧
    portDeaf (chan 2 up) 0 (slotNs (chan 2 up) + 0) = false ∧ (chanAt (receiving (chan 2 up)) 0).rx = some ⟨20, 0, 0, false⟩ ∧
    radChanUp (receiving (chan 2 up)) 0 = true ∧ (chanAt (receiving up) 0).rx.isSome = true ∧
    secOk (chan 2 up) 0 (rxF 0 false) = true ∧ secOk (wrI P20.SEC_LEVEL 0 1 (chan 2 up)) 0 (rxF 0 false) = false ∧
    (chanAt up 0).rx = none ∧ (rxF 0 true).toUs = true ∧ (rxF 0 true).ackReq = true ∧ (rxF 2 true).kind = 2 ∧
    (seenFind flooded 3 4).map Seen.relay = some (some (0, zeros 8, 0)) ∧ seenFind up 3 4 = none ∧
    (let s := queued [txF 4, txF 5]
     (chanAt s 0).flight = none ∧ (chanAt s 0).txUntil ≤ slotNs s ∧ portReceiving s (radPort s 0) = false ∧
     turnedTx s (radPort s 0) (slotNs s) = true ∧ fcLeft s 0 = true ∧ inCap s 0 30 = true ∧ accessOk s 0 ⟨[0], true⟩ = true ∧
     accessOk s 0 ⟨[0, 0, 0, 0, 0], false⟩ = true ∧
     transmitting s (radPort s 0) (slotNs s) + aheadOf s 0 4 < rdI s P20.PORT_TX_MAX (radPort s 0) ∧
     nextRadio s 0 = some (txF 4) ∧ nextRadio (queued [txF 5]) 0 = some (txF 5) ∧ nextRadio (queued []) 0 = none) ∧
    (chanAt (modChan 0 (fun c => { c with flight := some (txF 5) }) up) 0).flight = some (txF 5) := by decide +kernel

theorem test_radio_frame_steps :
    after (exec (.phrDecoded 0 20 false 0) (chan 2 up)) (fun t => (chanAt t 0).rx.map RadRx.psdu == some 20) = true ∧
    after (exec (.radioFrameReceived 0 (rxF 0 true)) (receiving (coord (nb 2))))
      (fun t => rdI t P20.RX_FRAMES 0 == 1 && rdI t P20.ACK_WITHHELD 0 == 1) = true ∧
    after (exec (.floodRelay 3 4) flooded) (fun t => t.radio.txq.map RadTx.payload == [[0, 0, 1, 0, 0, 0, 0, 0]]) = true ∧
    after (exec (.radioTransmit 0 30 ⟨[0, 0, 0, 0, 0], false⟩) (queued [txF 5])) (fun t => t.out.length == 0 && t.radio.txq.map RadTx.tries == [1])
      = true ∧
    after (exec (.radioTransmit 0 30 ⟨[0], true⟩) (queued [txF 5])) (fun t => t.out.length == 1 && t.radio.txq == []) = true := by
  decide +kernel

theorem test_witness_radio_coordinator :
    (let s := coord (nb 2)
     coordUp s 0 = true ∧ coordUp up 0 = false ∧ meterOfTitle s 8 = none ∧ (meterOfTitle s 9).isSome = true ∧
     acceptsAssoc s = true ∧ acceptsAssoc (wr P04.ACCEPT_STOPPED 0 { s with pwr := { s.pwr with mode := .start } }) = false ∧
     freeShort s 0 ≤ 0xFFFD ∧ neighOn s 0 9 = some (nb 2) ∧ neighOn (chan 2 metered) 0 9 = none ∧ radChanUp s 0 = true ∧
     running s = true ∧ atBeacon s 0 ((slotNs s + 0) / 1000).toNat = true ∧ (slotNs s + 0) / 1000 % 900000000 = 0 ∧
     Served (hd 0x5B 0x20 4) [0, 0, 0, 0] false s ∧ byteAt [0, 0, 0, 0] 0 ≤ 15) ∧
    (let s := wrI P20.ROLE 0 1 (coord (nb 1))
     (ask 0 0 0).period = 0 ∧ (ask 900 0 0).flags.testBit 0 = false ∧
     gMaxNs s 0 < g0Ns s 0 + 2 * (((ask 900 0 0).drift + rd s P20.DRIFT_DEV : Nat) : Int) * ((ask 900 0 0).period * 1000000000) / 1000000 ∧
     ¬ gMaxNs s 0 < g0Ns s 0 + 2 * (((ask 600 7 0).drift + rd s P20.DRIFT_DEV : Nat) : Int) * ((ask 600 7 0).period * 1000000000) / 1000000 ∧
     cellFor s 0 9 600 7 = some 7 ∧
     cellFor { s with radio := { s.radio with neigh := s.radio.neigh ++ [{ nb 2 with ext := 10, short := 2, period := 600 }] } } 0 9 600 0
       = none) ∧
    (let n := { nb 2 with period := 600 }
     let w := slotWindow (slept 0) n 600000000000
     (agreed n 600000000000).1 ≠ 0 ∧ n.st ≠ 1 ∧ n.st ≠ 4 ∧ n.st ≠ 5 ∧
     nearestSlot (slept 0) 0 600 0 600000000000 = 600000000000 ∧ n.slotDone < 600000 ∧ w.2 ≤ slotNs (slept 0) ∧ n.heard < w.1 ∧
     excused (slept 0) 0 w = false) := by
  decide +kernel

theorem test_radio_coordinator_steps :
    after (exec (.associationRequest 0 9 true) (chan 2 metered)) (fun t => t.radio.neigh.map Neigh.st == [1]) = true ∧
    after (exec (.slotRequest 0 (ask 600 7 0)) (wrI P20.ROLE 0 1 (coord (nb 1))))
      (fun t => (neighOn t 0 9).map (fun n => (n.st, n.period, n.cell)) == some (2, 600, 7)) = true ∧
    after (exec (.slotMissed 0 9 600000) (slept 2)) (fun t => (neighOn t 0 9).map (fun n => (n.st, n.missed)) == some (3, 3)) = true ∧
    after (exec (.slotMissed 0 9 600000) (slept 95)) (fun t => (neighOn t 0 9).map (fun n => (n.st, n.period)) == some (4, 0)) = true ∧
    after (exec (.slotRelease 0 9) (slept 1)) (fun t => (neighOn t 0 9).map Neigh.st == some 5) = true := by decide +kernel

/-- A beacon of the parent. -/
def bcn : BeaconIn := { fromParent := true, realign := false, panId := rdI up P20.PAN_ID 0, payload := zeros 20, sfd := 0 }

/-- A parent found by a join. -/
def found : JoinIn :=
  { ext := 5, short := 1, panId := rdI up P20.PAN_ID 0, own := 2, sfd := 0,
    payload := leB 2 (rdI up P20.NET_ID 0) ++ [1, 1] ++ zeros 16 }

theorem test_witness_radio_member :
    (let s := member 3 2
     s.tidy = true ∧ (chanAt s 0).parent.isSome = true ∧ radChanUp s 0 = true ∧ bcn.fromParent = true ∧
     bcn.panId = rdI s P20.PAN_ID 0 ∧ rdI s P20.STATE 0 ∈ [3, 4, 5] ∧ 0 < s.radio.chans.length) ∧
    (let s := { member 3 2 with batt := { up.batt with slot := 10 ^ 9 } }
     let p : Parent := ⟨5, 1, 2, 0, [], 0, 0, 2, 0, 0⟩
     (chanAt s 0).parent = some p ∧ p.expect + beaconHalf s 0 p ≤ slotNs s ∧ rdI s P20.STATE 0 = 3 ∧ p.missed + 1 = 3 ∧
     slotNs (member 3 2) < p.expect + beaconHalf (member 3 2) 0 p ∧
     after (exec (.radioParentLost 0) s) (fun t => rdI t P20.STATE 0 == 4) = true) ∧
    rdI (member 4 11) P20.STATE 0 = 4 ∧ after (exec (.radioOrphanScan 0) (member 4 11)) (fun t => rdI t P20.STATE 0 == 5) = true ∧
    (let s := { member 5 11 with beat := { up.beat with ticks := 2 ^ 30 } }
     s.tidy = true ∧ rdI s P20.STATE 0 = 5 ∧ (chanAt s 0).lastScan = none ∧
     0 + rdI s P20.ORPHAN_HOLD 0 * 60 * 8000 ≤ s.beat.ticks ∧
     after (exec (.orphanHoldExpire 0) s) (fun t => rdI t P20.STATE 0 == 6) = true) ∧ (chanAt up 0).parent = none ∧
    (let s := wrI P20.ROLE 0 1 (chan 6 up)
     radChanUp s 0 = true ∧ rdI s P20.ROLE 0 ≠ 0 ∧ rdI s P20.STATE 0 = 6 ∧ found.panId = rdI s P20.PAN_ID 0 ∧
     leAt found.payload 0 2 = rdI s P20.NET_ID 0 ∧ (byteAt found.payload 3).testBit 0 = true ∧
     after (exec (.radioJoin 0 (some found)) s) (fun t => rdI t P20.STATE 0 == 3 && rdI t P20.DEPTH 0 == 2) = true) := by
  decide +kernel


/-! Powerline. -/

/-- The device with a phase in a state. -/
def phase (st : Nat) (s : State) : State := wrPh P21.EN 0 1 (wrPh P21.STATE 0 st (wr P01.PLC_EN 1 s))

/-- A header to the device. -/
def plcH (ty len dest : Nat) : PlcHdr := ⟨64 + ty, 0, dest, 5, len, 1⟩

/-- A phase that follows 50 Hz crossings. -/
def inStep : State := modPhase 0 (fun q => { q with period := 20000000 * 65536 })
  { phase 2 up with plumb := { up.plumb with chain := 20000000 * 65536 } }

/-- A phase with a reception in progress. -/
def hearing (h : PlcHdr) (st : Nat) : State := modPhase 0 (fun q => { q with rx := some ⟨h, 0, true⟩ }) (phase st up)

/-- A frame queued on a phase. -/
def plcF (ty tries : Nat) : PlcTx := { place := 3, type := ty, dest := 5, tries := tries, lseq := some 1 }

/-- A phase with a frame on the line. -/
def onLine (ty : Nat) (n : Nat) : State :=
  modPhase 0 (fun q => { q with line := some (plcF ty 0, 3), aborts := n }) (phase 2 up)

/-- A phase that waits for a link acknowledgement. -/
def awaiting (tries : Nat) : State := modPhase 0 (fun q => { q with await := some (plcF 0 tries) }) (phase 2 up)

/-- A crossing detected high for 60 µs, of half-cycles at 230 V. -/
def cross : Crossing := { high := 60000, half1 := 230000, half2 := 230000, preamble := false, energy := 0, draw := 0, inj := [] }

/-- The tones of a data header from address 5 to the device with a payload length. -/
def hdrTones (s : State) (len : Nat) : List (Option Nat) :=
  sendSlots (cycleMasks s 0 (commonMasks s 0)) false 3840 0
    (robustBits (leB 1 64 ++ leB 1 0 ++ leB 2 0 ++ leB 2 5 ++ leB 1 len ++ leB 1 1))

/-- A payload of 10 bytes with its integrity code. -/
def pay14 (s : State) : List Byte := zeros 10 ++ plcMic (plcKey s 0) (zeros 10)

/-- The tones of a payload under the common map. -/
def payTones (s : State) (p : List Byte) : List (Option Nat) :=
  let m := commonMap s 0
  sendSlots (cycleMasks s 0 m.masks) m.four 3840 (fillSlots (cycleBits s 0 (commonMasks s 0) false) 3840 0 160) (bitsOf (codePayload p))

theorem test_witness_powerline :
    (zcMetro inStep = false ∧ detects inStep 0 = true ∧ rdPh inStep P21.STATE 0 ≠ 3 ∧
      (let m := chainNs inStep - rdS inStep P21.ZC_ADJ 1 * 1000 - (phaseAt inStep 0).lastX
       rdPh inStep P21.ZC_DEGLITCH 0 * 1000 ≤ cross.high ∧
       (m - (phaseAt inStep 0).period / 65536).natAbs ≤ rdPh inStep P21.ZC_WINDOW 0 * 1000 ∧ intervalOk inStep 0 m = true)) ∧
    detects (phase 3 up) 0 = true ∧ rdPh (phase 3 up) P21.STATE 0 = 3 ∧ zcMetro (wr P01.METRO_EN 1 (role 2)) = true ∧
    8 ≤ 7 + 1 ∧ (phaseAt (modPhase 0 (fun q => { q with fly := 7 }) inStep) 0).fly + 1 = rdPh inStep P21.ZC_FLY 0 ∧
    detects up 0 = false ∧
    (let s := phase 2 up
     let bits := (recvSlots (cycleMasks s 0 (commonMasks s 0)) false (fun _ => false) 0 (hdrTones s 20)).map Prod.fst
     phaseHears s 0 = true ∧ (phaseAt s 0).line = none ∧ 160 ≤ bits.length ∧
     (readRobust (bits.take 160)).map parsePlcHdr = some (plcH 0 20 0) ∧
     readRobust (bits.take 159 ++ [true]) = readRobust (bits.take 160) ∧ readRobust (List.replicate 160 false) = none ∧
     efTakes s 18 (1 + (20 + 15) / 16) = true ∧ (1 : Int).natAbs ≤ rdPh s P21.ZC_TOL 0 * 1000 ∧
     rdPh s P21.ZC_TOL 0 * 1000 < (600000 : Int).natAbs) ∧
    (phaseAt (hearing (plcH 0 20 0) 2) 0).rx = some ⟨plcH 0 20 0, 0, true⟩ ∧ phaseHears (hearing (plcH 0 20 0) 2) 0 = true ∧
    phaseHears (hearing (plcH 0 20 0) 3) 0 = false ∧
    mapHeld (hearing (plcH 0 20 0) 2) 0 (linkAt (hearing (plcH 0 20 0) 2) 0 5) 0 = true ∧
    mapHeld up 0 (linkAt up 0 5) 9 = false ∧ (phaseAt up 0).rx = none ∧
    (phaseAt (awaiting 3) 0).await = some (plcF 0 3) ∧ (phaseAt (awaiting 3) 0).awaitAt ≤ chainNs (awaiting 3) ∧
    2 < rdPh (awaiting 2) P21.LINK_RETRIES 0 ∧ rdPh (awaiting 3) P21.LINK_RETRIES 0 ≤ 3 ∧ (phaseAt up 0).await = none ∧
    (let s := { phase 2 up with beat := { up.beat with ticks := 120 * 8000 } }
     phaseHears s 0 = true ∧ (phaseAt s 0).tmAt + rdPh s P21.TM_PERIOD 0 * 8000 ≤ s.beat.ticks) ∧
    phaseRuns (phase 2 up) 0 = true ∧ (phaseAt (phase 2 up) 0).advAt = none ∧ phaseRuns up 0 = false ∧
    (phaseAt (onLine 0 7) 0).line = some (plcF 0 0, 3) ∧ rdPh (onLine 0 7) P21.TRIP_LIMIT 0 ≤ (phaseAt (onLine 0 7) 0).aborts + 1 ∧
    (phaseAt (onLine 0 0) 0).aborts + 1 < rdPh (onLine 0 0) P21.TRIP_LIMIT 0 ∧ (phaseAt up 0).line = none ∧
    (let s := { modPhase 0 (fun q => { q with suspended := some 0 }) (phase 4 up) with beat := { up.beat with ticks := 2 ^ 40 } }
     (phaseAt s 0).suspended = some 0 ∧ 0 + rdPh s P21.TRIP_BACKOFF 0 * 8000 ≤ s.beat.ticks) ∧
    (phaseAt (modPhase 0 (fun q => { q with retryHold := some 0 }) up) 0).retryHold = some 0 ∧ 0 ≤ chainNs up ∧
    (∃ l ∈ (phaseAt (modPhase 0 (fun q => { q with links := [{ addr := 5 }] }) up) 0).links, l.addr = 5) ∧
    Served (hd 0x5C 0x21 4) [1, 0, 0, 0] false up := by decide +kernel

theorem test_afe_en : afeEn (phase 2 up) 0 = true ∧ afeEn (phase 3 up) 0 = false ∧ afeEn (phase 4 up) 0 = false ∧ afeEn up 0 = false := by
  decide +kernel

theorem test_witness_powerline_payload :
    (let s := hearing (plcH 0 14 0) 2
     let f := receivePayload s 0 14 (commonMap s 0) (payTones s (pay14 s)) []
     impulses s 0 [] = [] ∧ f.rsOk = true ∧ f.crcOk = true ∧ f.payload = pay14 s ∧ micRight s 0 f.payload = true ∧
     (receivePayload s 0 14 (commonMap s 0) [] []).rsOk = false ∧ micRight s 0 (zeros 14) = false) := by decide +kernel

theorem test_powerline_steps :
    after (exec (.zeroCrossing 0 0 cross) inStep) (fun t => (phaseAt t 0).lastX == 20000000) = true ∧
    after (exec (.flywheelCycle 0 cross) { inStep with plumb := { up.plumb with chain := 21000000 * 65536 } })
      (fun t => (phaseAt t 0).fly == 1) = true ∧
    after (exec (.plcHeaderDecoded 0 (hdrTones (phase 2 up) 20) 1 0) (phase 2 up))
      (fun t => (phaseAt t 0).rx.map (fun r => (r.hdr.src, r.reserved)) == some (5, true)) = true ∧
    after (exec (.plcFrameReceived 0 ⟨[], []⟩) (hearing (plcH 0 20 0) 2)) (fun t => rdPh t P21.RX_CRC_FAIL 0 == 1) = true ∧
    after (exec (.plcLinkAckTimeout 0) (awaiting 3)) (fun t => rdPh t P21.LINK_FAILS 0 == 1) = true ∧
    after (exec (.txAbortImpedance 0) (onLine 0 7)) (fun t => rdPh t P21.STATE 0 == 4) = true ∧
    after (exec (.plcRoutes (hd 0x5C 0x21 4) [1, 0, 0, 0]) up)
      (fun t => (lastReply t).map (fun x => x.2.2.length) == some 16) = true := by decide +kernel

/-! Downlink, campaigns, firmware. -/

/-- DL_QUEUE to a MIX with a command and an expiry. -/
def dlP (mix cmd exp : Nat) : List Byte := leB 4 mix ++ leB 1 cmd ++ zeros 3 ++ leB 5 exp ++ zeros 3 ++ zeros 8

/-- An item of the meter. -/
def itemI (st made : Nat) : DlItem :=
  { no := 1, id := 77, mix := 7, urgent := false, cmd := 3, way := 0, expiry := 100, max := 3, hostRef := 0, body := [],
    st := st, made := made, posted := 0 }

/-- The meter on a radio channel, with that item. -/
def withItem (i : DlItem) : State := let s := coord (nb 2); { s with dl := { s.dl with items := [i] } }

/-- A push to the meter. -/
def pushI : Push := ⟨1, 78, 100, 2, zeros 4, true, false, [(7, 1)]⟩

/-- TARIFF_PUSH over the MIX range 0 to 9. -/
def pushP (fmt exp : Nat) : List Byte := leB 4 0 ++ leB 4 9 ++ leB 5 exp ++ leB 1 fmt ++ zeros 2 ++ zeros 4

/-- METER_IMAGE_LOAD of a whole image. -/
def imgP (crc : Nat) : List Byte := leB 1 0 ++ zeros 3 ++ leB 4 0 ++ leB 4 8 ++ leB 4 crc ++ zeros 8

/-- CAMPAIGN_CREATE. -/
def campP : List Byte :=
  leB 1 0 ++ leB 1 0 ++ leB 2 128 ++ leB 4 0 ++ leB 4 9 ++ leB 5 10 ++ leB 5 100 ++ leB 5 0 ++ leB 1 0 ++ leB 2 4 ++ leB 2 3 ++ zeros 32

/-- The meter, a whole stored image, and key slot 4 for a campaign key. -/
def campUp : State :=
  let s := coord (nb 2)
  { s with
    dl := { s.dl with images := [(0, ⟨8, crc32c (zeros 8), [(0, zeros 8)]⟩)] }
    keys := { s.keys with slots := [(1, { attr := 1, type := 1, loaded := true, key := zeros 16, origin := .plain }),
      (4, { attr := 3, type := 1, modes := 0x0010, persist := true })] } }

/-- A campaign in a state. -/
def campI (st : Nat) : Camp := ⟨1, 0, false, 128, 0, 100, 0, 4, 3, 0, 0, 8, 0, 1, st, 0, [{ mix := 7 }], none, false, some 0⟩

/-- The meter with that campaign at a legal time and a tick. -/
def camping (st sec t : Nat) : State :=
  let s := at_ sec campUp
  { s with
    dl := { s.dl with camps := [campI st] }
    beat := { s.beat with ticks := t } }

/-- CAMPAIGN_CONTROL of a campaign. -/
def ctlP (n a : Nat) : List Byte := leB 4 n ++ leB 1 a ++ zeros 11

/-- IMAGE_BEGIN: component, length and version. -/
def beginP (c len ver : Nat) : List Byte :=
  leB 1 c ++ zeros 3 ++ leB 4 len ++ leB 1 ver ++ zeros 3 ++ zeros 4 ++ (List.replicate 5 [0, 0, 0xFF, 0xFF]).flatten ++ zeros 28

/-- Every component with an active image, and slots in a state; UPDATE_ID 9 open for component 1. -/
def flashed (st : Nat) (bs : List (Nat × List Byte)) : State :=
  { up with dl := { up.dl with comps := (List.range 5).map (fun c =>
      { slots := [{ st := 2, begin_ := beginP c 8 1 }, { st := st, begin_ := beginP c 8 2, blocks := bs }],
        openId := if c = 1 then 9 else 0 }) } }

theorem test_witness_downlink :
    (let s := coord (nb 2)
     let h := hd 0x50 0x12 24
     Served h (dlP 7 3 0) true s ∧ openItems s 7 < rd s P60.DL_PER_METER ∧ (s.dl.items.filter itemOpen).length < 65536 ∧
     meterAt s 8 = none ∧ meterAt s 7 = some mtr ∧ byteAt (dlP 7 0xF0 0) 4 = 0xF0 ∧ byteAt (dlP 7 3 0) 5 % 4 ≠ 3 ∧
     legalSec (at_ 100 s) = 100 ∧ legalSec s < 100 ∧ rd (wr P60.DL_PER_METER 0 s) P60.DL_PER_METER = 0 ∧
     accepts (exec (.dlQueue h (dlP 7 3 0)) s) = true ∧ replies (exec (.dlQueue h (dlP 8 3 0)) s) stUnknownObject 0 [] = true ∧
     replies (exec (.dlQueue h (dlP 7 0xF0 0)) s) stBadPayload 4 [] = true ∧
     replies (exec (.dlUrgent (hd 0x51 0x12 24) (dlP 7 3 100)) (at_ 100 s)) stOutOfRange 64 [] = true ∧
     after (exec (.dlQueue h (dlP 7 3 0)) s) (fun t => t.dl.items.map DlItem.mix == [7] && t.ledger.openE.length == 2) = true) := by
  decide +kernel

theorem test_witness_downlink_items :
    (let s := withItem (itemI 1 0)
     let r := withItem (itemI 2 3)
     let p := { coord (nb 2) with dl := { up.dl with pushes := [pushI] } }
     Served (hd 0x52 0x12 8) (leB 8 77) false s ∧ itemOf s 77 = some (itemI 1 0) ∧ itemOf r 77 = some (itemI 2 3) ∧
     itemOf up 77 = none ∧ pushOf p 78 = some pushI ∧ itemOf p 78 = none ∧ pushOf up 77 = none ∧
     Served (hd 0x53 0x12 8) (leB 8 77) true s ∧ (itemI 3 0).posted = 0 ∧
     replies (exec (.dlCancel (hd 0x53 0x12 8) (leB 8 77)) r) stDeniedState 0 [] = true ∧
     accepts (exec (.dlCancel (hd 0x53 0x12 8) (leB 8 77)) s) = true ∧
     accepts (exec (.dlCancel (hd 0x53 0x12 8) (leB 8 78)) p) = true ∧
     replies (exec (.dlStatus (hd 0x52 0x12 8) (leB 8 77)) up) stUnknownObject 0 [] = true ∧
     (let u := { s with sett := { s.sett with granted := [.dlQueued] } }
      granted u .dlQueued = true ∧ nextItem u 7 false = some (itemI 1 0) ∧ (sealFor u 7).isSome = true ∧
      after (exec (.dlDispatch 7 false) u) (fun t => t.dl.items.map DlItem.posted == [2]) = true) ∧
     nextItem s 7 false = some (itemI 1 0) ∧ meterAt s 7 = some mtr ∧ nextItem s 7 true = none ∧
     (itemI 2 3).st = 2 ∧ wayFor r 0 7 ≠ .host ∧ (itemI 2 3).lastTx = none ∧ (itemI 2 3).max ≤ (itemI 2 3).made ∧
     (itemI 2 0).made < (itemI 2 0).max ∧ (itemI 1 0).expiry ≤ legalSec (at_ 100 s) ∧ legalSec s < (itemI 1 0).expiry ∧
     itemOf (at_ 100 s) 77 = some (itemI 1 0)) := by
  decide +kernel

theorem test_witness_tariff_push :
    (let s := coord (nb 2)
     Served (hd 0x54 0x12 20) (pushP 2 100) true s ∧ tableBad (pushP 2 100) = none ∧ tableBad (pushP 3 100) = some (stOutOfRange, 104) ∧
     legalSec s < leAt (pushP 2 100) 8 5 ∧ rd s P03.LEGAL_INVALID = 0 ∧ selected10 s false 0 9 = [7] ∧ selected10 up false 0 9 = [] ∧
     replies (exec (.tariffPush (hd 0x54 0x12 20) (pushP 2 100)) up) stDeniedState 0 [] = true ∧
     after (exec (.tariffPush (hd 0x54 0x12 20) (pushP 2 100)) s) (fun t => t.dl.pushes.map Push.meters == [[(7, 1)]]) = true) := by
  decide +kernel

theorem test_witness_campaigns :
    (let p := imgP (crc32c (zeros 8))
     Served (hd 0x75 0x60 24) p true up ∧ byteAt p 0 ≤ 15 ∧ leAt p 8 4 = 8 ∧ leAt p 4 4 = 0 ∧ (p.drop 16).length = min 4096 8 ∧
     imageBusy up 0 = false ∧ assocGet 0 up.dl.images = none ∧ byteAt p 1 = 0 ∧
     overlapDiff 0 (p.drop 16) [(0, zeros 8)] = none ∧
     (assocGet 0 campUp.dl.images).map MeterImage.total = some 8 ∧ imageBusy campUp 0 = false ∧
     accepts (exec (.meterImageLoad (hd 0x75 0x60 24) p) up) = true ∧
     replies (exec (.meterImageLoad (hd 0x75 0x60 24) (imgP 1)) up) stAuthFailed 0 [] = true) ∧
    (let s := campUp
     let p := campP
     Served (hd 0x55 0x60 64) p true s ∧ s.keys.entropyBad = false ∧
     assocGet (byteAt p 0) s.dl.images = some ⟨8, crc32c (zeros 8), [(0, zeros 8)]⟩ ∧ lowestMissing 0 [(0, zeros 8)] = 8 ∧
     leAt p 2 2 = 128 ∧ leAt p 12 5 < leAt p 17 5 ∧ legalSec s < leAt p 17 5 ∧
     (s.dl.camps.filter (fun c => decide (c.st ≤ 3))).length < 4 ∧
     (selected10 s ((byteAt p 1).testBit 0) (leAt p 4 4) (leAt p 8 4)).filter (hasLocalWay s) = [7] ∧
     campSlotOk s (leAt p 28 2) = true ∧ leAt p 30 2 = 3 ∧ accepts (exec (.campaignCreate (hd 0x55 0x60 64) p) s) = true ∧
     replies (exec (.campaignCreate (hd 0x55 0x60 64) p) { s with keys := { s.keys with entropyBad := true } })
       stFuncFailed 0x0040 [] = true) ∧
    (let s := camping 2 0 (2 ^ 40)
     Served (hd 0x56 0x60 16) (ctlP 1 2) true s ∧ fwCamp s 1 = some (campI 2) ∧ fwCamp s 2 = none ∧ fwCamp up 1 = none ∧
     controlHeld (campI 2) 1 = true ∧ controlHeld (campI 2) 2 = false ∧ controlHeld (campI 2) 3 = false ∧ 4 ≤ (campI 4).st ∧
     Served (hd 0x57 0x60 8) (leB 8 1) false s ∧ queriesOpen s (campI 2) = false ∧ (campI 2).sending = false ∧
     (campI 1).start ≤ legalSec s ∧ 0 + rd s P60.ROUND_WAIT * 60 * 8000 ≤ s.beat.ticks ∧ (campI 2).deadline ≤ legalSec (at_ 100 s) ∧
     accepts (exec (.campaignControl (hd 0x56 0x60 16) (ctlP 1 2)) s) = true ∧
     replies (exec (.campaignControl (hd 0x56 0x60 16) (ctlP 1 2)) (camping 4 0 0)) stDeniedState 0 [] = true ∧
     (campI 5).meters.any (fun m => decide (m.st < 5)) = true ∧
     replies (exec (.campaignControl (hd 0x56 0x60 16) (ctlP 1 2)) (camping 5 0 0)) stDeniedState 0 [] = true ∧
     accepts (exec (.campaignControl (hd 0x56 0x60 16) (ctlP 1 3)) (camping 5 0 0)) = true ∧
     after (exec (.campaignEnded 1) (camping 2 100 0)) (fun t => t.dl.camps.map Camp.st == [4]) = true ∧
     after (exec (.campaignStatus (hd 0x57 0x60 8) (leB 8 1)) s) (fun t => (lastReply t).map (fun x => x.2.2.length) == some 48)
       = true) := by decide +kernel

theorem test_witness_campaign_rounds :
    (let s := camping 2 0 (2 ^ 40)
     let u := { s with sett := { s.sett with granted := [.campaign] } }
     granted u .campaign = true ∧ fwCamp u 1 = some (campI 2) ∧ (campI 2).lastBlock = some 0 ∧
     after (exec (.roundWaitExpire 1) u) (fun t => t.sett.granted == []) = true) := by decide +kernel

/-- IMAGE_BLOCK of the open image. -/
def blockP (crc : Nat) : List Byte := leB 4 9 ++ leB 4 0 ++ leB 4 crc ++ zeros 4 ++ List.replicate 4096 0

/-- IMAGE_COMMIT of it. -/
def commitP : List Byte := leB 4 9 ++ zeros 68

theorem test_witness_firmware :
    (let s := flashed 0 []
     let p := beginP 1 8 3
     Served (hd 0x70 0x60 64) p true s ∧ byteAt p 0 = 1 ∧ leAt p 4 4 = 8 ∧ (compAt s 1).idle.st = 0 ∧ (compAt (flashed 3 []) 1).idle.st = 3 ∧
     rd s P60.LEGAL_UPD_MODE = 0 ∧ rd (wr P60.LEGAL_UPD_MODE 1 s) P60.LEGAL_UPD_MODE ≠ 0 ∧
     (let u := wr P60.LEGAL_UPD_MODE 1 (wr P30.SEAL_STATE 1 s)
      version10 (activeHead u 4) < version10 (beginP 4 8 3) ∧ rd u P30.SEAL_STATE ≠ 0 ∧ legalRule u 4 = none) ∧
     1 < s.dl.comps.length ∧ (compAt s 1).active < 2 ∧ (compAt s 1).slots.length = 2 ∧
     accepts (exec (.imageBegin (hd 0x70 0x60 64) p) s) = true ∧
     replies (exec (.imageBegin (hd 0x70 0x60 64) (beginP 4 8 3)) s) stDeniedLegal 0 [] = true ∧
     replies (exec (.imageBegin (hd 0x70 0x60 64) p) (flashed 4 [])) stDeniedState 0 [] = true) ∧
    (let s := flashed 1 []
     Served (hd 0x72 0x60 72) commitP true s ∧ updateOf s 9 = some 1 ∧ updateOf up 9 = none ∧
     updateLen s 1 = 8 ∧ overlapDiff 0 (((blockP 0).drop 16).take 8) [] = none ∧ legalRule s 1 = none ∧
     lowestMissing 0 (compAt s 1).idle.blocks < updateLen s 1 ∧
     updateLen s 1 ≤ lowestMissing 0 (compAt (flashed 1 [(0, zeros 8)]) 1).idle.blocks ∧
     replies (exec (.imageCommit (hd 0x72 0x60 72) commitP true) s) stDeniedState 0 [] = true ∧
     accepts (exec (.imageCommit (hd 0x72 0x60 72) commitP true) (flashed 1 [(0, zeros 8)])) = true ∧
     replies (exec (.imageCommit (hd 0x72 0x60 72) commitP false) (flashed 1 [(0, zeros 8)])) stAuthFailed 0 [] = true) ∧
    (let s := flashed 2 [(0, zeros 8)]
     Served (hd 0x73 0x60 8) (leB 8 2) true s ∧ s.dl.pendingMask = 0 ∧ s.dl.trialMask = 0 ∧ (∀ c, c < 5 → (compAt s c).idle.st = 2) ∧
     badPair s 2 = none ∧ accepts (exec (.imageActivate (hd 0x73 0x60 8) (leB 8 2)) s) = true ∧
     replies (exec (.imageActivate (hd 0x73 0x60 8) (leB 8 0)) s) stBadPayload 0 [] = true ∧ Served (hd 0x74 0x60 0) [] false s) ∧
    (let s := flashed 4 []
     let u := { s with dl := { s.dl with trialMask := 2, runAt := some 0, bootAt := some 0 }, beat := { s.beat with ticks := 2 ^ 40 } }
     u.dl.trialMask ≠ 0 ∧ u.pwr.mode = .run ∧ 0 + rd u P60.CONFIRM_S * 8000 ≤ u.beat.ticks ∧ u.tidy = true ∧ s.dl.trialMask = 0 ∧
     u.dl.trialMask.testBit 1 = true ∧ 0 + rd u P60.BOOT_WINDOW * 8000 ≤ u.beat.ticks ∧
     after (exec .updateConfirmed u) (fun t => t.dl.trialMask == 0 && (compAt t 1).active == 1 && (compAt t 2).active == 0) = true) := by
  decide +kernel

theorem test_witness_image_block : Served (hd 0x71 0x60 4112) (blockP 0) true (flashed 1 []) := by
  have e : (blockP 0).length = 4112 := by
    unfold blockP
    rw [List.length_append, List.length_replicate]
    decide +kernel
  exact ⟨by decide +kernel, by rw [e]; decide +kernel, by decide +kernel⟩


/-! Keys and lanes, recorder, store and memory. -/

/-- KEY_GENERATE of an AES-128 derivation key. -/
def genP (slot : Nat) : List Byte := leB 2 slot ++ zeros 2 ++ leB 1 1 ++ leB 1 1 ++ leB 2 0

/-- KEY_IMPORT of a form: slot 2, attribute 1, type 1. -/
def impP (form : Nat) (d : List Byte) : List Byte :=
  leB 1 form ++ zeros 1 ++ leB 2 2 ++ leB 4 7 ++ leB 1 1 ++ leB 1 1 ++ leB 2 0 ++ zeros 4 ++ leB 2 3 ++ zeros 6 ++ d

/-- A device with plain import open, a wrapping key in slot 3 and a private key in slot 5. -/
def kekUp : State := wr P40.PLAIN_IMPORT 1 { up with keys := { up.keys with
  slots := [(3, { attr := 2, type := 1, loaded := true, key := zeros 16, origin := .plain }),
    (5, { attr := 4, type := 3, loaded := true, key := zeros 32, origin := .generated })] } }

/-- KEY_AGREE of own slot 5 into slot 2. -/
def agreeP : List Byte := leB 2 5 ++ leB 2 2 ++ leB 1 1 ++ leB 1 1 ++ leB 2 0 ++ zeros 64

/-- A meter whose key is not derived. -/
def ownKey : State :=
  let s := metered
  { s with
    infeed := { s.infeed with meters := [{ mtr with key := 2 * 2 ^ 14 + 3 }] }
    keys := kekUp.keys }

/-- A lane job of a level with the derivation key in slot 1. -/
def jobL (level : Nat) : LaneJob := ⟨.infeed, 7, 2, 12, 1, 7, level, 1, 0, 0, 16, zeros 12, 0, 0⟩

theorem test_witness_keys :
    (let s := kekUp
     Served (hd 0x61 0x40 8) (genP 2) true s ∧ s.keys.entropyBad = false ∧ headOk 1 1 0 = true ∧ (keySlotAt s 2).loaded = false ∧
     (keySlotAt s 2).attr = 0 ∧ (leAt (genP 2) 0 2).testBit 15 = false ∧ rd s P40.DEBUG_ACTIVE = 0 ∧
     replies (exec (.keyGenerate (hd 0x61 0x40 8) (genP 2)) { s with keys := { s.keys with entropyBad := true } }) stFuncFailed 0x0040 [] = true) ∧
    (let s := kekUp
     Served (hd 0x65 0x40 72) agreeP true s ∧ (anySlot s 5).attr = 4 ∧ (anySlot s 5).loaded = true ∧ byteAt agreeP 4 ≠ 4 ∧
     replies (exec (.keyAgree (hd 0x65 0x40 72) agreeP false) s) stBadPayload 8 [] = true) := by decide +kernel

/-- A 128-bit zero key with its head, wrapped under the zero key; computed outside the model from RFC 3394. -/
def wrapped2 : List Byte :=
  [0xE3, 0x63, 0xEA, 0xD4, 0xFF, 0x34, 0x2C, 0xC5, 0x0F, 0x7C, 0x10, 0x3D, 0x56, 0xE9, 0xED, 0x81, 0xB0, 0x21, 0x8D, 0xDE, 0xE3, 0x62,
    0x0A, 0x5E, 0xF2, 0x07, 0xFB, 0x54, 0x77, 0xFB, 0xFE, 0x44]

/-- 32 zero bytes wrapped under the zero key; computed outside the model from RFC 3394. -/
def wrapped3 : List Byte :=
  [0x74, 0xD6, 0xFF, 0x23, 0x88, 0x77, 0xED, 0x2A, 0x9B, 0xCD, 0xE9, 0x04, 0x3E, 0x4C, 0xA6, 0x2A, 0x2A, 0x0D, 0x34, 0x0F, 0x06, 0x7D,
    0x3C, 0x9F, 0xC2, 0xC8, 0xD2, 0xEB, 0xF9, 0xA9, 0x69, 0x99, 0x85, 0x85, 0xC8, 0x39, 0x51, 0xB5, 0x3C, 0xCA]

theorem test_witness_key_import :
    (let s := kekUp
     let h := hd 0x60 0x40 40
     Served h (impP 1 (zeros 16)) true s ∧ Served h (impP 2 wrapped2) true s ∧ Served h (impP 3 wrapped3) true ownKey ∧
     dataLenOk 1 1 16 = true ∧ dataLenOk 2 1 32 = true ∧ dataLenOk 3 1 40 = true ∧ privateOk 1 (zeros 16) = true ∧
     rd s P40.PLAIN_IMPORT ≠ 0 ∧ rd (wr P40.PLAIN_IMPORT 0 s) P40.PLAIN_IMPORT = 0 ∧ (keySlotAt s 3).attr = 2 ∧
     (keySlotAt s 3).loaded = true ∧ meterAt ownKey 7 = some { mtr with key := 2 * 2 ^ 14 + 3 } ∧
     derivedMode { mtr with key := 2 * 2 ^ 14 + 3 } = false ∧ (keySlotAt ownKey 3).loaded = true ∧
     accepts (exec (.keyImport h (impP 1 []) (zeros 16)) s) = true) := by decide +kernel

theorem test_key_unwrap : (keyUnwrap (zeros 16) wrapped2).map (fun d => (d.take 8 == sliceB (impP 2 wrapped2) 8 8, d.drop 8)) =
    some (true, zeros 16) ∧ accepts (exec (.keyImport (hd 0x60 0x40 64) (impP 3 []) wrapped3) ownKey) = true ∧
    replies (exec (.keyImport (hd 0x60 0x40 56) (impP 2 []) (zeros 32)) kekUp) stAuthFailed 0 [] = true := by decide +kernel

theorem test_witness_key_zeroise :
    (let s := kekUp
     Served (hd 0x62 0x40 4) [5, 0, 1, 0] true s ∧ (keySlotAt s 5).loaded = true ∧ Served (hd 0x63 0x40 4) [5, 0, 0, 0] false s ∧
     (anySlot s 3).attr ≠ 0 ∧ (anySlot s 3).attr ≠ 4 ∧ (anySlot s 2).attr = 0 ∧ (anySlot s 2).loaded = false ∧
     accepts (exec (.keyZeroise (hd 0x62 0x40 4) [5, 0, 1, 0]) s) = true ∧
     replies (exec (.keyZeroise (hd 0x62 0x40 4) [0, 0, 0, 0]) s) stDeniedState 0 [] = true ∧
     replies (exec (.pubkeyExport (hd 0x64 0x40 4) [3, 0, 0, 0]) s) stDeniedState 0 [] = true ∧
     replies (exec (.pubkeyExport (hd 0x64 0x40 4) [2, 0, 0, 0]) s) stUnknownObject 0 [] = true) := by decide +kernel

/-- A job on a lane with cycles to go. -/
def onLane (level left : Nat) : RunJob := ⟨jobL level, zeros 16, zeros 16, left⟩

/-- The device with every lane at work at a level, the first with a job suspended. -/
def fullLanes (level : Nat) : State := { metered with keys := { metered.keys with
  lanes := { job := some (onLane level 10), suspended := [onLane 40 50], budget := 10 }
    :: List.replicate 7 { job := some (onLane level 10), suspended := [] } } }

theorem test_witness_lanes : jobLimitsOk (jobL 9) = true ∧ jobLimitsOk { jobL 9 with mode := 0 } = false ∧ metered.keys.queue = [] ∧
    freeLane metered = some 0 ∧ flowBusy metered (jobL 9) = false ∧ jobKeyBad metered (jobL 9) = none ∧
    jobKeyBad up (jobL 9) = some .keyAbsent ∧
    freeLane (fullLanes 20) = none ∧ victimLane (fullLanes 20) 9 = some 0 ∧ victimLane (fullLanes 9) 9 = none ∧
    (laneAt (fullLanes 20) 0).job = some (onLane 20 10) ∧ 10 ≤ (laneAt (fullLanes 20) 0).budget ∧ (laneAt (fullLanes 20) 1).budget < 10 ∧
    (laneAt (fullLanes 20) 0).suspended = [onLane 40 50] ∧ (laneAt (fullLanes 20) 1).suspended = [] ∧ (fullLanes 20).keys.queue = [] ∧
    (laneAt up 0).job = none ∧ up.tidy = true ∧ up.pwr.mode ≠ .dormant ∧ up.pwr.mode ≠ .off := by decide +kernel

theorem test_lane_steps :
    after (exec (.laneJobPost (jobL 9)) metered) (fun t => (laneAt t 0).job.map RunJob.job == some (jobL 9)) = true ∧
    after (exec (.laneJobPost (jobL 30)) (fullLanes 20)) (fun t => t.keys.queue == [jobL 30]) = true ∧
    after (exec (.laneJobComplete 0 (jobResult (onLane 20 10) (fullLanes 20)).1 (jobCycles (onLane 20 10).job)) (fullLanes 20))
      (fun t => (laneAt t 0).job == some (onLane 40 50)) = true ∧
    after (exec .entropyFail up) (fun t => t.keys.entropyBad) = true ∧
    after (exec .tamperLatch { up with pwr := { up.pwr with mode := .dormant } }) (fun t => rd t P40.TAMPER_SEEN == 1) = true ∧
    after (exec .zeroisedTamper kekUp) (fun t => t.keys.slots == []) = true := by decide +kernel

/-- A waiting event record. -/
def ev1 : EvRec := ⟨1, 0, 0, 5, 1, 0, 0, []⟩

theorem test_witness_recorder :
    (let p : List Byte := [0, 0, 0, 0, 5, 1, 0, 0]
     Served (hd 0x80 0x51 8) p false up ∧ byteAt p 4 ≠ 0 ∧ byteAt p 5 ≤ 3 ∧ seqAbove 1 (rd up P51.NEXT_SEQ) = true ∧
     seqAbove 0 (rd up P51.NEXT_SEQ) = false ∧ replies (exec (.eventRead (hd 0x80 0x51 8) (zeros 8)) up) stOutOfRange 32 [] = true ∧
     after (exec (.eventRead (hd 0x80 0x51 8) p) up) (fun t => t.cmd.dueDone.length == 1) = true) ∧
    Served (hd 0x81 0x52 0) [] false up ∧ Served (hd 0x82 0x52 64) (zeros 64) false up ∧ configBad (zeros 64) = none ∧
    (configBad ([0xFF, 0xFF, 0xFF, 0xFF] ++ zeros 60)).isSome = true ∧
    (let h := hd 0x85 0x40 4
     Served h [1, 0, 0, 0] false up ∧ up.ctr.selfTest = none ∧ fnOf h ∈ [0x30, 0x40, 0x41, 0x42, 0x50, 0x52] ∧
     fnOf (hd 0x85 1 4) ∉ [0x30, 0x40, 0x41, 0x42, 0x50, 0x52] ∧
     replies (exec (.selfTest h [0, 0, 0, 0]) up) stOutOfRange 0 [] = true ∧
     replies (exec (.selfTest h [1, 0, 0, 0]) { up with ctr := { up.ctr with selfTest := some h } }) stBusy 0 [] = true ∧
     replies (exec (.selfTest (hd 0x85 1 4) [1, 0, 0, 0]) up) stDone 0 (2 :: zeros 15) = true) ∧
    (let s := { up with ev := { up.ev with pend := [ev1] }, beat := { up.beat with ticks := 2 ^ 40 } }
     s.ev.flushPosted = false ∧ s.ev.pend ≠ [] ∧ s.ev.pendAt + rd s P51.EVENT_FLUSH_MS * 8 ≤ s.beat.ticks ∧
     after (exec .eventFlush s) (fun t => t.ev.flushPosted) = true) ∧
    (let s := { up with ev := { up.ev with hourPart := 3600 * 8000 } }
     3600 * 8000 ≤ s.ev.hourPart ∧ after (exec .opHoursTick s) (fun t => rd t P51.OP_HOURS == 1 && t.ev.hourPart == 0) = true) ∧
    (let s := { up with beat := { up.beat with number := 16000 } }
     s.beat.loaded = true ∧ s.beat.number % rd s P52.BW_WINDOW = 0 ∧ s.ctr.lastWin ≠ s.beat.number ∧ s.tidy = true ∧
     rd s P52.SNAP_PERIOD = 0) ∧
    (let s := wr P52.SNAP_PERIOD 8000 { up with beat := { up.beat with number := 16000 } }
     rd s P52.SNAP_PERIOD ≠ 0 ∧ s.beat.number % rd s P52.SNAP_PERIOD = 0 ∧ silent s = false ∧ s.ctr.lastSnap ≠ s.beat.number) := by
  decide +kernel

/-- A block of the flash store. -/
def blkI (e : Nat) (st : BlkSt) : Blk := { chan := .c0, die := 0, blk := e, part := 1, erases := e, st := st, valid := 0 }

/-- A store with those blocks. -/
def withBlks (l : List Blk) : State := { up with ftl := { up.ftl with blks := l } }

/-- A read of a page with bit errors. -/
def pageR (b : Option Nat) : PageRead := { chan := .c0, die := 0, blk := 5, page := 3, bits := b }

theorem test_witness_store :
    (let s := { up with beat := { up.beat with ticks := 2 ^ 40 } }
     s.ftl.lastCommitAt + rd s P41.JOURNAL_MS * 8 ≤ s.beat.ticks ∧ granted { s with sett := { s.sett with granted := [.journal] } } .journal = true ∧
     granted s .journal = false ∧ granted { s with sett := { s.sett with granted := [.patrol] } } .patrol = true ∧ up.beat.ticks < up.ftl.lastCommitAt + rd up P41.JOURNAL_MS * 8) ∧
    (let s := { up with ftl := { up.ftl with sinceSnap := 5000 }, sett := { up.sett with granted := [.ftlSnap] } }
     granted s .ftlSnap = true ∧ rd s P41.SNAP_PAGES ≤ s.ftl.sinceSnap ∧ after (exec .ftlSnapshot s) (fun t => t.ftl.snapNo == s.ftl.snapNo + 1) = true) ∧
    waitsErase (withBlks [blkI 5 .pendingErase]) .c0 0 5 = true ∧ waitsErase up .c0 0 5 = false ∧
    after (exec (.eraseDone .c0 0 5) (withBlks [blkI 5 .pendingErase])) (fun t => t.ftl.blks.map Blk.erases == [6]) = true ∧
    60 ≤ rd up P41.REFRESH_BITS ∧ rd up P41.REFRESH_BITS < 61 ∧
    after (exec (.readRefresh (pageR (some 61))) up) (fun t => rd t P41.REFRESHES == 1) = true ∧
    after (exec (.readRefresh (pageR (some 60))) up) (fun t => rd t P41.REFRESHES == 0) = true ∧
    dieFails up .c0 0 = false ∧ (Chan.c0, 0) ∉ up.ftl.dieLost ∧
    after (exec (.flashDieLost .c0 0 true) up) (fun t => t.ftl.dieLost == [(.c0, 0)] && rd t P41.MAP_SINGLE == 1) = true ∧
    gcLevel up 2 .c0 = some 20 ∧ gcLevel up 1 .c0 = none ∧
    after (exec (.gcPost 2 .c0) up) (fun t => t.ftl.gcPosted == [(2, .c0)]) = true ∧
    (let s := withBlks [blkI 1 .closed, blkI 900 .closed]
     levelDue s .c0 = true ∧ granted { s with sett := { s.sett with granted := [.wear] } } .wear = true ∧
     lowestErased (s.ftl.blks.filter (fun b => b.chan == .c0 && b.st == .closed)) = some (blkI 1 .closed)) ∧ levelDue up .c0 = false ∧ Served (hd 0x86 0x41 0) [] false up := by decide +kernel

/-- A device with 2 GiB of DRAM. -/
def dram : State := wr P42.CH0_GIB 1 (wr P42.CH1_GIB 1 up)

/-- The last 64 bytes of its scratch region, to be filled. -/
def desc : List Byte := leB 1 2 ++ zeros 3 ++ leB 4 9 ++ leB 8 0 ++ leB 8 (2 ^ 31 - 64) ++ leB 4 64 ++ zeros 4

theorem test_witness_memory :
    (let p := leB 8 32 ++ leB 4 64
     Served (hd 0x83 0x42 12) p false dram ∧ addressable dram 32 64 = true ∧
     replies (exec (.memRead (hd 0x83 0x42 12) (leB 8 33 ++ leB 4 64)) dram) stOutOfRange 0 [] = true) ∧
    (let s := wr P43.DESC_12 (leAt desc 0 32) dram
     let d := leB 32 (rd s (descFld 12))
     Served (hd 0x84 0x43 8) (leB 8 12) false s ∧ s.memory.runs = [] ∧ descBad s d = none ∧ usesDst d = true ∧
     inScratch s (dDst d) (dLen d) = true ∧ inScratch s 0 (dLen d) = false ∧ s.memory.dmaOn = false ∧
     replies (exec (.dmaStart (hd 0x84 0x43 8) (leB 8 11)) s) stOutOfRange 0 [] = true ∧
     replies (exec (.dmaStart (hd 0x84 0x43 8) (leB 8 12)) s) stDone 0 [9, 0, 0, 0, 0, 0, 0, 0] = true) ∧
    (let s := { up with memory := { up.memory with runs := [{ chan := 12, desc := desc, done := 64 }] } }
     let t := { s with memory := { s.memory with dmaOn := true } }
     s.memory.dmaOn = false ∧ s.memory.runs ≠ [] ∧ t.memory.runs = [{ chan := 12, desc := desc, done := 64 }] ∧ t.tidy = true ∧
     after (exec .dmaRunStart s) (fun u => u.memory.dmaOn) = true ∧
     dLen desc ≤ dmaBytes { chan := 12, desc := desc, done := 64 } ∧ dmaBytes { chan := 12, desc := desc } < dLen (leB 24 0 ++ leB 4 (2 ^ 20) ++ zeros 4) ∧
     after (exec .dmaRunComplete t) (fun u => u.memory.runs == [] && rd u P43.CQ_SEQ == 1) = true) ∧
    (64 / 4096 ∉ up.memory.retired) ∧ (64 / 4096 ∈ { up.memory with retired := [0] }.retired) ∧
    after (exec (.memUncorrectable 64) up) (fun t => poisonedAt t 64 && rd t P42.LAST_UE_ADDR == 64) = true ∧
    after (exec (.poisonConsumed (.core 1 0x20)) up) (fun t => (assocGet 0x20 t.cmd.funcFailed).isSome) = true ∧
    ((laneAt (fullLanes 20) 0).job.isSome = true) := by decide +kernel


/-! Pairing, the legal core, power. -/

/-- A locked hub device at chain address 1 without radio, powerline or metrology, in a state of the pair. -/
def mate (n : Nat) : State :=
  let up := { role 2 with dl := { up.dl with comps := List.replicate 5 { slots := [{ st := 2, begin_ := zeros 64 }, {}] } } }
  wr P03.PLUMB_STATE 2 (wr P01.RADIO_EN 0 (wr P01.PLC_EN 0 (wr P01.METRO_EN 0 (wr P02.CHAIN_ADDR 1 (wr P50.PAIR_STATE n up)))))

/-- PAIR with a partner address. -/
def pairP (a : Nat) : List Byte := leB 1 a ++ zeros 3 ++ leB 4 7

/-- What the partner shows. -/
def other (check : Nat) (beatOk : Bool) : PartnerIn :=
  { check := check, serial := 9, hub := true, radio := false, plc := false, metro := false, versions := ownVersions (mate 0),
    state := 0, pairId := 0, commissioned := false, closures := 0, streams := false, keys := false, debug := false,
    beat := (mate 0).beat.number, locked := beatOk }

/-- A join of the pair that began at tick 0. -/
def joinI : Joining := ⟨hd 0x90 0x50 8, pairP 2, 0, 0, 33, false⟩

/-- A beat frame. -/
def bf (beat digest flags : Nat) : BeatFrame := ⟨beat, digest, flags, 0, 0, 0, 0, 0, 0⟩

/-- A primary that waits for its partner's frame of a beat. -/
def comparing (beat : Nat) : State :=
  let s := mate 2
  { s with
    pair := { s.pair with own := [{ frame := bf beat 77 0, replies := [] }] }
    beat := { s.beat with number := 9 } }

/-- A commissioned device at a legal second. -/
def legalAt (n : Nat) : State :=
  at_ n (wr P03.LEGAL_COMMISSIONED 1 (wr P03.LEGAL_INVALID 0 (wr P31.LAST_SCHED_AT 1000
    { legalUp with legal := { legalUp.legal with restore := false } })))

/-- The smallest calendar. -/
def cal1 : List Byte := leB 4 5 ++ [1, 1, 1, 0] ++ zeros 8 ++ [1, 1, 0] ++ zeros 5 ++ zeros 8 ++ [1, 0, 0, 0, 0, 0, 1, 0]

/-- CALENDAR_LOAD of a calendar. -/
def calP (c : List Byte) : List Byte := leB 1 1 ++ zeros 3 ++ leB 4 c.length ++ leB 4 (crc32c c) ++ zeros 4 ++ c ++ auth

/-- CALENDAR_ACTIVATE of calendar 5 at a second. -/
def actP (t : Nat) : List Byte := leB 4 5 ++ leB 5 t ++ zeros 7 ++ auth

/-- CALIBRATE of gain 0. -/
def gainP (g : Nat) : List Byte := leB 1 1 ++ zeros 3 ++ leB 3 g ++ zeros 57 ++ auth

/-- The legal core with its profile and demand intervals begun at given seconds. -/
def spans (pr de : Nat) (s : State) : State := { s with legal := { s.legal with core := { s.legal.core with
  prof := { s.legal.core.prof with start := pr }
  dem := { s.legal.core.dem with start := de } } } }

theorem test_witness_pairing :
    (let h := hd 0x90 0x50 8
     let s := mate 0
     Served h (pairP 2) true s ∧ byteAt (pairP 2) 0 = rd s P02.CHAIN_ADDR + 1 ∧
     ¬ (byteAt (pairP 7) 0 + 1 = rd s P02.CHAIN_ADDR ∨ byteAt (pairP 7) 0 = rd s P02.CHAIN_ADDR + 1) ∧
     pairState s = 0 ∧ pairPlaced s = true ∧ partnerPlaced (other 7 true) = true ∧ (other 7 true).versions = ownVersions s ∧
     partnerEligible ((byteAt (pairP 2) 1).testBit 0) s (other 7 true) = true ∧ locked s = true ∧ Served h (pairP 2) true (mate 2) ∧ pairState (mate 2) = 2 ∧
     replies (exec (.pair h (pairP 7) none) s) stOutOfRange 0 [] = true ∧
     replies (exec (.pair h (pairP 2) (some (other 8 true))) s) stAuthFailed 0 [] = true) ∧
    Served (hd 0x91 0x50 4) (zeros 4) true (mate 2) ∧ paired (mate 2) = true ∧ paired (mate 0) = false ∧
    Served (hd 0x94 0x50 4) [1, 0, 0, 0] true (mate 2) ∧ Served (hd 0x94 0x50 4) [1, 0, 0, 0] true (mate 0) ∧
    Served (hd 0x92 0x50 0) [] false (mate 2) ∧
    (let p : List Byte := [1, 0, 0, 0, 0, 0, 0, 0]
     let h := hd 0x93 0x50 8
     Served h p true (mate 5) ∧ pairState (mate 5) = 5 ∧ leAt p 4 4 = rd (mate 5) P50.DIVERGED_BEAT % 2 ^ 32 ∧
     Served h p true (mate 0) ∧ accepts (exec (.resolveDivergence h p) (mate 5)) = true ∧
     replies (exec (.resolveDivergence h [1, 0, 0, 0, 1, 0, 0, 0]) (mate 5)) stDeniedState 4 [] = true) := by decide +kernel

theorem test_pair_steps : replies (exec (.pair (hd 0x90 0x50 8) (pairP 2) (some (other 7 false))) (mate 0)) stDeniedState 4 [] = true ∧
    after (exec (.pair (hd 0x90 0x50 8) (pairP 2) (some (other 7 true))) (mate 0)) (fun t => pairState t == 1 && t.pair.join.isSome) = true := by
  decide +kernel

theorem test_witness_pair_events :
    (let s := mate 1
     let u := { s with pair := { s.pair with join := some joinI } }
     let l := { u with
       ledger := { s.ledger with
         streams := s.ledger.streams.set 0 { isOpen := true }
         groups := [{ grp1 .verified .verified with
           released := true
           entries := [{ kind := 1, head := zeros 22, xseq := [5] }] }] }
       beat := { s.beat with ticks := 2 ^ 40 } }
     u.tidy = true ∧ u.pair.join = some joinI ∧ pairState u = 1 ∧ joinDrained u = true ∧ joinDrained l = false ∧
     joinI.began + 10 * rd l P50.JOIN_LIMIT * 8000 ≤ l.beat.ticks ∧
     replies (exec .joinLimitExpire l) stDeniedState 5 [] = true ∧
     after (exec (.pairJoinStart (.primary 7 8)) u) (fun t => pairState t == 2 && t.ledger.nextGroup == 7) = true) ∧
    (let s := comparing 9
     pairPort s = .u ∧ paired s = true ∧ s.pair.own = [{ frame := bf 9 77 0, replies := [] }] ∧ s.pair.theirs = [] ∧ s.tidy = true ∧ s.pair.join = none ∧
     (mate 2).pair.own = [] ∧ after (exec (.beatFrameReceived .u (bf 9 78 0)) s) (fun t => pairState t == 5) = true ∧
     after (exec (.beatFrameReceived .u (bf 9 78 2)) s) (fun t => pairState t == 4) = true ∧
     after (exec (.beatFrameReceived .u (bf 9 77 0)) s) (fun t => pairState t == 2 && t.pair.compared.length == 1) = true) ∧
    bitAt (bf 9 0 0x40).flags 6 = true ∧ bitAt (bf 9 0 0x80).flags 6 = false ∧ bitAt (bf 9 0 0x80).flags 7 = true ∧
    (let s := comparing 8
     paired s = true ∧ (∃ o ∈ s.pair.own, o.frame.beat + 1 = s.beat.number) ∧ s.pair.waited ≠ some s.beat.number ∧
     after (exec .digestWaitExpire s) (fun t => rd t P50.LATE_FRAMES == 1 && t.pair.absent == 1) = true) ∧
    (let s := { mate 3 with pair := { (mate 3).pair with absent := 8 } }
     paired s = true ∧ 8 ≤ s.pair.absent ∧ after (exec .dovetailPromoted s) (fun t => pairState t == 4) = true) ∧
    rd kekUp P40.DEBUG_ACTIVE = 0 ∧
    after (exec .debugEnabled kekUp) (fun t => t.keys.slots == [] && rd t P40.DEBUG_ACTIVE == 1) = true := by decide +kernel

theorem test_witness_legal_reads :
    Served (hd 0xA0 0x30 4) [0, 1, 2, 0] false up ∧
    after (exec (.readRegisters (hd 0xA0 0x30 4) [0, 0, 2, 0]) up) (fun t => (lastReply t).map (fun x => x.2.2.length) == some 48) = true ∧
    Served (hd 0xA1 0x30 4) [0, 0, 0, 0] false up ∧ up.legal.bills.length ≤ 0 ∧
    replies (exec (.readBillingSet (hd 0xA1 0x30 4) [0, 0, 0, 0]) up) stUnknownObject 0 [] = true ∧
    (let p : List Byte := [1, 0, 0, 0, 5, 0, 0, 0]
     Served (hd 0xA8 0x30 8) p false up ∧ oldestLog up ≤ leAt p 0 4 ∧ leAt p 0 4 ≤ rd up P30.LOG_NEXT ∧ rd up P30.LOG_NEXT < 2 ∧
     after (exec (.legalLogRead (hd 0xA8 0x30 8) p) up) (fun t => (lastReply t).map (fun x => x.2.2.length) == some 16) = true) := by
  decide +kernel

theorem test_witness_legal_commands :
    (let s := legalAt 10
     let h := hd 0xA2 0x31 (calP cal1).length
     Served h (calP cal1) true s ∧ authOk s (authCount (calP cal1)) true = true ∧ authOk s (authCount (calP cal1)) false = false ∧
     byteAt (calP cal1) 0 = 1 ∧ leAt (calP cal1) 4 4 = (calData (calP cal1)).length ∧
     leAt (calP cal1) 8 4 = crc32c (calData (calP cal1)) ∧ calBad (calData (calP cal1)) = none ∧ calBad (zeros 16) = some 0 ∧
     accepts (exec (.calendarLoad h (calP cal1) true) s) = true ∧
     replies (exec (.calendarLoad h (calP (zeros 40)) true) s) stBadPayload 16 [] = true) ∧
    (let s := wr P31.PASSIVE_CAL_ID 5 (legalAt 10)
     Served (hd 0xA3 0x31 88) (actP 0) true s ∧ legalWaits s = false ∧ rd s P31.PASSIVE_CAL_ID = 5 ∧ legalSec s = 10 ∧
     accepts (exec (.calendarActivate (hd 0xA3 0x31 88) (actP 11) true) s) = true ∧
     replies (exec (.calendarActivate (hd 0xA3 0x31 88) (actP 10) true) s) stOutOfRange 32 [] = true) ∧
    (let s := legalAt 10
     let h := hd 0xA4 0x30 136
     Served h (gainP (2 ^ 22)) true s ∧ rd s P30.SEAL_CAL = 0 ∧ rd (wr P30.SEAL_CAL 1 (wr P30.SEAL_STATE 0 s)) P30.SEAL_STATE = 0 ∧
     calRange (gainP (2 ^ 22)) = none ∧ calRange (gainP 0) = some 32 ∧ accepts (exec (.calibrate h (gainP (2 ^ 22)) true) s) = true ∧
     replies (exec (.calibrate h (gainP 0) true) s) stOutOfRange 32 [] = true ∧
     replies (exec (.calibrate h (gainP (2 ^ 22)) true) (wr P30.SEAL_CAL 1 (wr P30.SEAL_STATE 0 s))) stDeniedSeal 0 [] = true) ∧
    (let s := legalAt 10
     let h := hd 0xA5 0x30 80
     Served h (leB 8 0 ++ auth) true s ∧ leAt (leB 8 0 ++ auth) 0 4 = rd s P31.CLOSURES ∧
     accepts (exec (.billingClose h (leB 8 0 ++ auth) true) s) = true ∧
     replies (exec (.billingClose h (leB 8 1 ++ auth) true) s) stDeniedState 0 [] = true) := by decide +kernel

theorem test_witness_display_commands :
    (let p : List Byte := [1, 1] ++ zeros 14 ++ [1, 0, 0, 0]
     Served (hd 0xA6 0x32 20) p true up ∧ p.length = 16 + 4 * byteAt p 1 ∧ (∀ i ∈ dispItems p, i.id ∈ legalIds) ∧
     accepts (exec (.displayList (hd 0xA6 0x32 20) p) up) = true ∧
     replies (exec (.displayList (hd 0xA6 0x32 20) ([1, 1] ++ zeros 14 ++ [0, 0, 0, 0])) up) stUnknownObject 0 [] = true) ∧
    (let s := wr P32.OUT_MODE 2 up
     let p : List Byte := [1, 1, 0, 0, 0, 0, 0, 0]
     Served (hd 0xA7 0x32 8) p true s ∧ (∀ n, n < 8 → (byteAt p 0).testBit n = true → outMode s n = 2) ∧ outMode s 1 ≠ 2 ∧ s.tidy = true ∧
     accepts (exec (.outputControl (hd 0xA7 0x32 8) p) s) = true ∧
     replies (exec (.outputControl (hd 0xA7 0x32 8) [2, 0, 0, 0, 0, 0, 0, 0]) s) stDeniedState 0 [] = true) := by decide +kernel

theorem test_witness_legal_time :
    (let s := legalAt 10
     legalSec s ≠ s.legal.lastSec ∧ legalIdle s = false ∧ legalIdle up = true ∧ metroRuns s = false ∧ 3 < s.legal.core.acc.length ∧
     metroRuns (wr P01.METRO_EN 1 (wr P30.VFS_MV 1 (wr P30.IFS_MA 1 (wr P30.INFS_MA 1 s)))) = true ∧
     after (exec (.legalSecondEnd 10) s) (fun t => t.legal.lastSec == 10) = true) ∧
    legalSec up = up.legal.lastSec ∧
    (let s := spans 1000 (10 ^ 9) (legalAt 100000)
     legalIdle s = false ∧ firstDue s (legalSec s) = some (1800, 1) ∧ s.legal.core.prof.start < 1800 ∧
     after (exec .profileIntervalEnd s) (fun t => t.legal.core.prof.start == 1800) = true) ∧
    (let s := spans (10 ^ 9) 1000 (legalAt 100000)
     firstDue s (legalSec s) = some (1837, 2) ∧ s.legal.core.dem.start < 1837 ∧ rd s P30.DEMAND_METHOD = 0) ∧
    (let s := spans (10 ^ 9) (10 ^ 9) (legalAt 3000000)
     firstDue s (legalSec s) = some (2678437, 3) ∧ s.tidy = true ∧
     after (exec .scheduledClosure s) (fun t => rd t P31.CLOSURES == 1 && t.legal.bills.length == 1) = true) ∧
    (let u := legalAt 100000
     let s := wr P31.PENDING_AT 10 { u with legal := { u.legal with passive := cal1 } }
     firstDue s (legalSec s) = some (10, 4) ∧ after (exec .calendarActivation s) (fun t => t.legal.active == cal1) = true) ∧
    (let s := spans (10 ^ 9) (10 ^ 9) (legalAt 100000)
     s.legal.evalAt < thisMinute s ∧ firstDue s (thisMinute s) = none ∧
     after (exec .calendarMinute s) (fun t => t.legal.evalAt == 99997) = true) := by decide +kernel

theorem test_witness_legal_steps :
    (let s := wr P31.DST_START_MONTH 3 (wr P31.DST_END_MONTH 10 (legalAt 300000000))
     legalIdle s = false ∧ dstAt s (legalSec s) = true ∧ rd s P31.DST_ON = 0) ∧
    dstAt (legalAt 10) (legalSec (legalAt 10)) = (rd (legalAt 10) P31.DST_ON != 0) ∧ stepWaits up = none ∧
    (let s := { legalAt 10 with plumb := { up.plumb with legalDue := some 5 } }
     stepWaits s = some 5 ∧ s.legal.restore = false ∧ legalIdle s = false ∧ s.tidy = true) ∧
    (let s := { up with
       plumb := { up.plumb with legalDue := some 5 }
       legal := { up.legal with restore := false, outage := some 0 } }
     stepWaits s = some 5 ∧ s.legal.restore = false ∧ legalIdle s = true) ∧
    (let s := legalAt 10
     let m := { s with legal := { s.legal with mismatches := [0, 0] } }
     legalStopped s = false ∧ (s.legal.mismatches.filter (fun t => decide (s.beat.ticks < t + 86400 * 8000))).length < 2 ∧
     2 ≤ (m.legal.mismatches.filter (fun t => decide (m.beat.ticks < t + 86400 * 8000))).length ∧
     after (exec .legalLockstep m) (fun t => legalStopped t) = true ∧
     after (exec .legalLockstep s) (fun t => !legalStopped t && t.legal.mismatches == [0]) = true) ∧
    legalStopped { up with cmd := { up.cmd with funcFailed := [(0x30, 3)] } } = true ∧
    (rd up P30.SEAL_STATE != 0) = false ∧ after (exec (.sealNChange true) up) (fun t => rd t P30.SEAL_STATE == 1) = true := by
  decide +kernel

/-- The device with both display lists at a late tick. -/
def shown (b : Bool) : State := wr P32.DISP_EN 1 { up with
  disp := { up.disp with auto := [⟨1, 0, 0⟩, ⟨2, 0, 0⟩], button := [⟨1, 0, 0⟩], onButton := b, released := false }
  beat := { up.beat with ticks := 2 ^ 40 } }

theorem test_witness_display_events : (shown true).disp.button ≠ [] ∧ up.disp.button = [] ∧
    (shown false).disp.onButton = false ∧ (shown false).disp.auto ≠ [] ∧
    (shown false).disp.autoTick + rd (shown false) P32.SCROLL_S * 8000 ≤ (shown false).beat.ticks ∧
    (shown true).disp.pressTick + rd (shown true) P32.DISP_TIMEOUT * 8000 ≤ (shown true).beat.ticks ∧
    rd (shown true) P32.DISP_EN ≠ 0 ∧ rd (wr P32.DISP_EN 0 up) P32.DISP_EN = 0 ∧
    after (exec .scrollExpire (shown false)) (fun t => t.disp.autoAt == 1) = true ∧
    after (exec .dispTimeoutExpire (shown true)) (fun t => !t.disp.onButton) = true ∧
    after (exec (.displayRefresh false) (shown true)) (fun t => rd t P32.DISP_ERRS == 1 && t.out.length == 1) = true ∧
    (let u := shown false
     let s := wr P32.OUT_MODE 3 { u with disp := { u.disp with pulses := u.disp.pulses.set 0 { backlog := 2 } } }
     outReleased s = false ∧ outMode s 0 = 3 ∧ (s.disp.pulses.getD 0 {}).backlog ≠ 0 ∧ (s.disp.pulses.getD 0 {}).from_ = none ∧
     after (exec (.outputPulse 0) s) (fun t => (t.disp.pulses.getD 0 {}).backlog == 1) = true) := by decide +kernel

/-- The device in hold-up for a cause, its flush ended or not. -/
def holding (c : FlushCause) (ended : Bool) : State :=
  { up with pwr := { up.pwr with mode := .holdup, flush := some c, flushEnded := ended } }

/-- Boot findings with the images that verify. -/
def boot (l : List Bool) : BootIn := ⟨1, 1, true, 16384, 512, 1024, 4, 4, 1024, true, true, true, 0, l, [], []⟩

theorem test_witness_power :
    (let s := { up with den := { up.den with nodeAvg := [1000] } }
     16 ≤ (List.replicate 16 0).length ∧ (∀ x ∈ (List.replicate 16 0).take 16, x * 100 < nodeAverage s * rd s P04.V_DETECT) ∧
     after (exec (.mainsLost (List.replicate 16 0)) s) (fun t => t.pwr.mode == .holdup) = true) ∧
    running up = true ∧ up.tidy = true ∧ running State.reset = false ∧ State.reset.pwr.mode = .start ∧
    (let s := { holding .mains false with sett := { up.sett with granted := [.flush] } }
     granted s .flush = true ∧ s.pwr.mode = .holdup ∧ s.pwr.flushEnded = false ∧ ledgerQuiet s = true ∧
     after (exec .flushEnd s) (fun t => t.pwr.flushEnded && t.pwr.selfRefresh) = true) ∧
    (let s := holding .pwrCycle true
     s.pwr.pwrReq = none ∧ pinsHeld s = false ∧ pwrReqCause s = some 1 ∧ s.pwr.dramRetired65 = false ∧ pwrReqCause (holding .resetN true) = none ∧
     pwrReqCause (holding .thermal true) = some 3 ∧ after (exec .pwrReq s) (fun t => t.pwr.pwrReq == some 1) = true ∧
     after (exec .mainPowerLost s) (fun t => t.pwr.mode == .off || t.pwr.mode == .dormant) = true) ∧
    (let s := holding .resetN true
     s.pwr.resetN = false ∧ s.pwr.flushEnded = true ∧ s.pwr.flush = some .resetN ∧ s.tidy = true ∧
     after (exec .powerOnReset s) (fun t => t.pwr.mode == .start && t.pwr.cause == 1) = true) ∧
    (let s := State.reset
     s.pwr.mode = .start ∧ s.pwr.held = false ∧ s.pwr.step = 0 ∧ (boot [false]).images.getD 0 false = false ∧
     ((boot [true, false]).images.drop 1).take 4 ≠ [true, true, true, true] ∧
     ((boot (List.replicate 5 true)).images.drop 1).take 4 = [true, true, true, true] ∧
     after (exec (.startUp (boot [false])) s) (fun t => t.pwr.step == 4) = true ∧
     after (exec (.startUp (boot [true, false])) s) (fun t => t.pwr.step == 7) = true) ∧
    resetMay up = true ∧ resetMay State.reset = false ∧
    after (exec .kernelHeartbeatMissing up) (fun t => t.pwr.mode == .start && t.pwr.cause == 4) = true ∧
    (let s := { up with pwr := { up.pwr with wdTimes := [0, 0] } }
     2 ≤ (s.pwr.wdTimes.filter (fun t => decide (s.beat.ticks < t + 60 * 8000))).length ∧
     after (exec (.coreWatchdog 1 0x20) up) (fun t => assocGet 0x20 t.cmd.funcFailed == some 1) = true ∧
     after (exec (.coreWatchdog 1 0x20) s) (fun t => t.pwr.mode == .start) = true) := by decide +kernel


/-! Published test vectors of the algorithms the spec names by their standards: FIPS 197, RFC 4493, SP 800-38C, the GCM
specification, FIPS 180-4 and the check value of CRC-32C. -/

/-- Bytes `n`, `n` + 1, …. -/
def run (n k : Nat) : List Byte := (List.range k).map (fun i => BitVec.ofNat 8 (n + i))

theorem test_aes_vector : aesEnc (run 0 16) 0x00112233445566778899AABBCCDDEEFF = 0x69C4E0D86A7B0430D8CDB78070B4C55A ∧
    aesDec (run 0 16) 0x69C4E0D86A7B0430D8CDB78070B4C55A = 0x00112233445566778899AABBCCDDEEFF := by decide +kernel

theorem test_cmac_vector : cmac (beB 16 0x2B7E151628AED2A6ABF7158809CF4F3C) [] = 0xBB1D6929E95937287FA37D129B756746 := by
  decide +kernel

theorem test_gcm_vector : gcmSeal (zeros 16) (zeros 12) [] (zeros 16) 16 =
    beB 32 0x0388DACE60B6A392F328C2B971B2FE78AB6E47D42CEC13BDF53A67B21257BDDF := by decide +kernel

theorem test_ccm_vector : ccmSeal (run 0x40 16) (run 0x10 7) (run 0 8) (run 0x20 4) 4 = beB 8 0x7162015B4DAC255D := by decide +kernel

theorem test_sha256_vector : sha256 (run 0x61 3) = beB 32 0xBA7816BF8F01CFEA414140DE5DAE2223B00361A396177A9CB410FF61F20015AD := by
  decide +kernel

theorem test_crc32c_check : crc32c (run 0x31 9) = 0xE3069283 := by decide +kernel

end Sys2Proof.Tests
end

section
/-! A write of one field, the SET_PARAM that covers the field and nothing else (02 R75): what each check of a write makes of
it, and how it is answered. -/
namespace Sys2Proof.Machine

/-! Bits of a number that holds one field. -/

theorem mul_two_pow_lt {x lo w n : Nat} (hx : x < 2 ^ w) (h : lo + w ≤ n) : x * 2 ^ lo < 2 ^ n :=
  calc x * 2 ^ lo < 2 ^ w * 2 ^ lo := Nat.mul_lt_mul_of_pos_right hx (Nat.two_pow_pos lo)
    _ = 2 ^ (lo + w) := by rw [Nat.pow_add, Nat.mul_comm]
    _ ≤ 2 ^ n := Nat.pow_le_pow_right (by decide) h

theorem bitsAt_mul_self {x lo w : Nat} (hx : x < 2 ^ w) : bitsAt (x * 2 ^ lo) lo w = x := by
  rw [bitsAt, Nat.mul_div_cancel _ (Nat.two_pow_pos lo), Nat.mod_eq_of_lt hx]

/-- The bits below a field and the bits above it are 0. -/
theorem bitsAt_mul_disjoint {x lo w a n : Nat} (hx : x < 2 ^ w) (h : a + n ≤ lo ∨ lo + w ≤ a) :
    bitsAt (x * 2 ^ lo) a n = 0 := by
  rw [bitsAt]
  rcases h with h | h
  · obtain ⟨k, rfl⟩ := Nat.exists_eq_add_of_le h
    have e : x * 2 ^ (a + n + k) = 2 ^ a * (2 ^ n * (2 ^ k * x)) := by simp only [Nat.pow_add]; ac_rfl
    rw [e, Nat.mul_div_cancel_left _ (Nat.two_pow_pos a), Nat.mul_mod_right]
  · have hlt : x * 2 ^ lo < 2 ^ a := mul_two_pow_lt hx h
    rw [Nat.div_eq_of_lt hlt, Nat.zero_mod]

/-! The layout of the page tables. -/

/-- The fields of a table follow each other without overlap, none of them empty, all within the page's 2,048 bits. -/
def layoutOk (l : List Fld) : Bool :=
  l.all (fun f => decide (0 < f.width) && decide (f.lo + f.width ≤ 2048)) &&
    decide (l.Pairwise (fun f g => f.lo + f.width ≤ g.lo))

theorem pageFields_layoutOk (p : Nat) : layoutOk (pageFields p) = true := by
  unfold pageFields
  split <;> rfl

theorem pageFields_bounds {p : Nat} {f : Fld} (h : f ∈ pageFields p) : 0 < f.width ∧ f.lo + f.width ≤ 2048 := by
  have ok := pageFields_layoutOk p
  simp only [layoutOk, Bool.and_eq_true, List.all_eq_true, decide_eq_true_eq] at ok
  exact ok.1 f h

/-- Of two different elements of an ordered list one comes first. -/
theorem rel_or_of_pairwise {α : Type} {R : α → α → Prop} {l : List α} {a b : α} (h : l.Pairwise R) (ha : a ∈ l) (hb : b ∈ l)
    (hne : a ≠ b) : R a b ∨ R b a := by
  induction l with
  | nil => cases ha
  | cons c l ih =>
    obtain ⟨hc, hl⟩ := List.pairwise_cons.mp h
    rcases List.mem_cons.mp ha with rfl | hal
    · rcases List.mem_cons.mp hb with rfl | hbl
      · exact absurd rfl hne
      · exact .inl (hc b hbl)
    · rcases List.mem_cons.mp hb with rfl | hbl
      · exact .inr (hc a hal)
      · exact ih hl hal hbl

/-- Two different fields of a page share no bit. -/
theorem pageFields_disjoint {p : Nat} {f g : Fld} (hf : f ∈ pageFields p) (hg : g ∈ pageFields p) (hne : f ≠ g) :
    f.lo + f.width ≤ g.lo ∨ g.lo + g.width ≤ f.lo := by
  have ok := pageFields_layoutOk p
  simp only [layoutOk, Bool.and_eq_true, decide_eq_true_eq] at ok
  exact rel_or_of_pairwise ok.2 hf hg hne

theorem touches_of_covers {p : Nat} {w : PWrite} {f : Fld} (hf : f ∈ pageFields p) (h : covers w f = true) :
    touches w f = true := by
  have h2 : 2 ^ 1 ≤ 2 ^ f.width := Nat.pow_le_pow_right (by decide) (pageFields_bounds hf).1
  simp only [covers, beq_iff_eq] at h
  simp only [touches, h, bne_iff_ne]
  omega

/-! What a write of one field touches and covers. -/

theorem covers_fieldWrite_self {f : Fld} {i v : Nat} : covers (fieldWrite f i v) f = true := by
  have : bitsAt (fieldWrite f i v).mask f.lo f.width = 2 ^ f.width - 1 :=
    bitsAt_mul_self (Nat.sub_lt (Nat.two_pow_pos _) (by decide))
  simp [covers, this]

theorem bitsAt_fieldWrite_data {f : Fld} {i v : Nat} (hv : v < 2 ^ f.width) :
    bitsAt (fieldWrite f i v).data f.lo f.width = v := by
  rw [fieldWrite, Nat.mod_eq_of_lt hv, bitsAt_mul_self hv]

/-- A write of one field touches that field and no other of its page. -/
theorem touches_fieldWrite {p : Nat} {f g : Fld} {i v : Nat} (hf : f ∈ pageFields p) (hg : g ∈ pageFields p) :
    touches (fieldWrite f i v) g = decide (g = f) := by
  by_cases hgf : g = f
  · subst hgf
    simp [touches_of_covers hg covers_fieldWrite_self]
  · have : bitsAt (fieldWrite f i v).mask g.lo g.width = 0 :=
      bitsAt_mul_disjoint (Nat.sub_lt (Nat.two_pow_pos _) (by decide)) (pageFields_disjoint hg hf hgf)
    simp [touches, this, hgf]

theorem covers_fieldWrite {p : Nat} {f g : Fld} {i v : Nat} (hf : f ∈ pageFields p) (hg : g ∈ pageFields p) :
    covers (fieldWrite f i v) g = decide (g = f) := by
  by_cases hgf : g = f
  · subst hgf
    simp [covers_fieldWrite_self]
  · have h := mt (touches_of_covers (w := fieldWrite f i v) hg) (by simp [touches_fieldWrite hf hg, hgf])
    simp [hgf, h]

/-- Of a list of fields of the page, a write of one field touches one exactly when the field is in the list. -/
theorem any_touches_fieldWrite {p : Nat} {f : Fld} {l : List Fld} {i v : Nat} (hf : f ∈ pageFields p)
    (hl : l ⊆ pageFields p) : l.any (touches (fieldWrite f i v)) = decide (f ∈ l) := by
  have h : (∃ g ∈ l, touches (fieldWrite f i v) g = true) ↔ f ∈ l := by
    constructor
    · rintro ⟨g, hg, ht⟩
      rw [touches_fieldWrite hf (hl hg), decide_eq_true_eq] at ht
      exact ht ▸ hg
    · exact fun h => ⟨f, h, by simp [touches_fieldWrite hf hf]⟩
  rw [Bool.eq_iff_iff, List.any_eq_true, decide_eq_true_eq, h]

theorem after_fieldWrite_self {s : State} {f : Fld} {i v : Nat} (hw : writable f = true) (hv : v < 2 ^ f.width) :
    after s (fieldWrite f i v) f = v := by
  rw [after, if_pos ⟨rfl, hw, covers_fieldWrite_self⟩, bitsAt_fieldWrite_data hv]

/-- A write of one field leaves at 1 that field alone, if it is written 1. -/
theorem sets1_fieldWrite {p : Nat} {s : State} {f g : Fld} {i v : Nat} (hf : f ∈ pageFields p) (hg : g ∈ pageFields p)
    (hw : writable f = true) (hv : v < 2 ^ f.width) :
    sets1 s (fieldWrite f i v) g = (decide (g = f) && v == 1) := by
  by_cases hgf : g = f
  · subst hgf
    simp [sets1, touches_fieldWrite hf hf, after_fieldWrite_self hw hv]
  · simp [sets1, touches_fieldWrite hf hg, hgf]

/-! The payload of a write. -/

/-- A write whose fields fit the bytes of a payload. -/
structure PWrite.Fits (w : PWrite) : Prop where
  page : w.page < 256
  inst : w.inst < 256
  data : w.data < 2 ^ 2048
  mask : w.mask < 2 ^ 2048

theorem leB_one {v : Nat} : leB 1 v = [BitVec.ofNat 8 v] := rfl

theorem PWrite.payload_length {w : PWrite} : w.payload.length = 516 := by simp [PWrite.payload]

theorem two_pow_bytes {n : Nat} : 2 ^ (8 * n) = 256 ^ n := Nat.pow_mul 2 8 n

theorem two_pow_page : 2 ^ 2048 = 256 ^ 256 := two_pow_bytes (n := 256)

/-- A write reads back from its payload (02, after R74). -/
theorem parseWrite_payload {w : PWrite} (h : w.Fits) : parseWrite w.payload = w := by
  obtain ⟨hp, hi, hd, hm⟩ := h
  have hpage : byteAt w.payload 0 = w.page := by simp [PWrite.payload, byteAt, leB_one, Nat.mod_eq_of_lt hp]
  have hinst : byteAt w.payload 1 = w.inst := by simp [PWrite.payload, byteAt, leB_one, Nat.mod_eq_of_lt hi]
  have hdata : leAt w.payload 4 256 = w.data := by
    rw [PWrite.payload, List.append_assoc]
    exact leAt_leB (by simp) (two_pow_page ▸ hd)
  have hmask : leAt w.payload 260 256 = w.mask := by
    rw [PWrite.payload, ← List.append_nil (leB 256 w.mask)]
    exact leAt_leB (by simp) (two_pow_page ▸ hm)
  rw [parseWrite, hpage, hinst, hdata, hmask]

/-- No page has more than the 16 of the radio channels (02 Table 02-8). -/
theorem instOk_lt {p i : Nat} (h : instOk p i = true) : i < 16 := by
  unfold instOk at h
  repeat' split at h
  all_goals
    simp only [Bool.and_eq_true, decide_eq_true_eq, beq_iff_eq] at h
    omega

theorem pageGate_bounds {s : State} {p i : Nat} (h : pageGate s p i = none) : p < 256 ∧ i < 256 := by
  unfold pageGate at h
  split at h
  · cases h
  · split at h
    · cases h
    · rename_i hp hi
      have hp' : p ∈ pageNumbers := List.contains_iff_mem.mp (eq_true_of_ne_false hp)
      have hi' : i < 16 := instOk_lt (eq_true_of_ne_false hi)
      exact ⟨(by decide : ∀ q ∈ pageNumbers, q < 256) p hp', by omega⟩

theorem fieldWrite_fits {s : State} {f : Fld} {i v : Nat} (hf : f ∈ pageFields f.page) (hg : pageGate s f.page i = none) :
    (fieldWrite f i v).Fits where
  page := (pageGate_bounds hg).1
  inst := (pageGate_bounds hg).2
  data := mul_two_pow_lt (Nat.mod_lt _ (Nat.two_pow_pos _)) (pageFields_bounds hf).2
  mask := mul_two_pow_lt (Nat.sub_lt (Nat.two_pow_pos _) (by decide)) (pageFields_bounds hf).2

end Sys2Proof.Machine
end

section
/-! The checks of R75 on a write of one field, and how the write is answered (02 R63, R75; 01 R32). -/
namespace Sys2Proof.Machine

@[simp] theorem fieldWrite_page {f : Fld} {i v : Nat} : (fieldWrite f i v).page = f.page := rfl

@[simp] theorem fieldWrite_inst {f : Fld} {i v : Nat} : (fieldWrite f i v).inst = i := rfl

theorem partialAt_fieldWrite {f : Fld} {i v : Nat} (hf : f ∈ pageFields f.page) : partialAt (fieldWrite f i v) = none := by
  have h : ∀ g ∈ pageFields f.page,
      ¬ (writable g && touches (fieldWrite f i v) g && !covers (fieldWrite f i v) g) = true := by
    intro g hg
    simp [touches_fieldWrite hf hg, covers_fieldWrite hf hg]
  rw [partialAt, fieldWrite_page, List.find?_eq_none.mpr h, Option.map_none]

/-- The fields of a page that a write of one writable field touches and can change: that field. -/
theorem filter_touches_fieldWrite {f : Fld} {i v : Nat} (hf : f ∈ pageFields f.page) (hw : writable f = true) :
    (pageFields f.page).filter (fun g => writable g && touches (fieldWrite f i v) g) = [f] := by
  have hn : (pageFields f.page).Nodup := by
    have ok := pageFields_ok f.page
    simp only [tableOk, Bool.and_eq_true, decide_eq_true_eq] at ok
    exact List.Pairwise.of_map Fld.lo (fun _ _ hne e => hne (congrArg Fld.lo e)) ok.2
  have he : ∀ g ∈ pageFields f.page, (writable g && touches (fieldWrite f i v) g) = (g == f) := by
    intro g hg
    by_cases hgf : g = f
    · subst hgf; simp [hw, touches_fieldWrite hf hf]
    · simp [touches_fieldWrite hf hg, hgf]
  rw [List.filter_congr he, List.filter_beq, hn.count, if_pos hf, List.replicate_one]

theorem needsLegal_fieldWrite {f : Fld} {i v : Nat} (hf : f ∈ pageFields f.page) (ha : f.acc ≠ .rwl) :
    needsLegal (fieldWrite f i v) = false := by
  rw [needsLegal, fieldWrite_page, List.any_eq_false]
  intro g hg
  by_cases hgf : g = f
  · simp [hgf, ha]
  · simp [touches_fieldWrite hf hg, hgf]

/-- A write of one field is accepted work when the field is of class N or L (02 R63). -/
theorem writesNL_fieldWrite {f : Fld} {i v : Nat} (hf : f ∈ pageFields f.page) (hw : writable f = true) :
    writesNL (fieldWrite f i v) = (f.cls == .n || f.cls == .l) := by
  rw [writesNL, fieldWrite_page, ← List.any_filter, filter_touches_fieldWrite hf hw]
  simp

/-- A write of one field is the write of 0 that R32 allows at any time when it writes 0 to HOLD_C or HOLD_DIV. -/
theorem clearsNode_fieldWrite {f : Fld} {i v : Nat} (hf : f ∈ pageFields f.page) (hw : writable f = true)
    (hv : v < 2 ^ f.width) :
    clearsNode (fieldWrite f i v) = (f.page == 0x04 && ((f == P04.HOLD_C || f == P04.HOLD_DIV) && v == 0)) := by
  simp only [clearsNode, fieldWrite_page, filter_touches_fieldWrite hf hw, List.isEmpty_cons, List.all_cons, List.all_nil,
    bitsAt_fieldWrite_data hv, Bool.not_false, Bool.and_true]

/-! Ranges that tie fields together. -/

/-- The fields that the rules of a page tie together (the field lists of `crossRules`). -/
def tiedFields : Nat → List (List Fld)
  | 0x02 => [[P02.LINK_DEAD, P02.PROBE_MS]]
  | 0x04 => [[P04.POWER_CAP]]
  | 0x13 => [[P13.PERSIST_WIN, P13.PERSIST_ON]]
  | 0x20 => [[P20.G0, P20.GMAX], [P20.SO, P20.BO], [P20.MIN_BE, P20.MAX_BE], [P20.DRIFT_DEV]]
  | 0x21 => [[P21.MIN_BE, P21.MAX_BE]]
  | 0x52 => [[P52.CFG_0], [P52.CFG_1], [P52.CFG_2], [P52.CFG_3], [P52.CFG_4], [P52.CFG_5], [P52.CFG_6], [P52.CFG_7]]
  | 0x30 => [[P30.DEMAND_PERIOD, P30.DEMAND_SUBS]]
  | 0x41 => [[P41.GC_LOW, P41.GC_START], [P41.REFRESH_BITS]]
  | _ => []

theorem tiedFields_subset {p : Nat} : ∀ l ∈ tiedFields p, l ⊆ pageFields p := by
  unfold tiedFields
  split
  case h_9 => simp
  all_goals decide

theorem crossRules_tiedFields {s : State} {w : PWrite} {r : List Fld × Bool} (h : r ∈ crossRules s w) :
    r.1 ∈ tiedFields w.page := by
  unfold crossRules at h
  split at h
  case h_9 => cases h
  all_goals
    rename_i hp
    rw [hp]
    exact List.mem_map_of_mem (f := Prod.fst) h

/-- A rule is at stake in a write of one field when it ties that field. -/
theorem any_touches_crossRule {s : State} {f : Fld} {i v : Nat} {r : List Fld × Bool} (hf : f ∈ pageFields f.page)
    (h : r ∈ crossRules s (fieldWrite f i v)) : r.1.any (touches (fieldWrite f i v)) = decide (f ∈ r.1) :=
  any_touches_fieldWrite hf (tiedFields_subset _ (crossRules_tiedFields h))

/-- A write without authority block accepted: the state with its COMMAND entry posted (02 R61). -/
abbrev acceptedWrite (h : Hdr) (w : PWrite) (s : State) : State :=
  accepted h w.payload [] w.payload (.setParam h w.payload false) [] s

/-! A write of one field that every check of R75 and of the field's chapter admits. -/

/-- A field that the host writes without legal authority and that e_plan does not depend on. -/
abbrev OpenField (f : Fld) : Prop :=
  f ∈ pageFields f.page ∧ (f.acc = .rw ∨ f.acc = .w1c) ∧ f.signed = false ∧ f ∉ planFields

/-- What the checks ask of the write of `v` to an open field, on the page numbered `i` of its kind (02 R74, R75). -/
structure Admitted (s : State) (f : Fld) (i v : Nat) : Prop where
  isOpen : OpenField f
  bits : v < 2 ^ f.width
  gate : pageGate s f.page i = none
  range : f.acc = .w1c ∨ inRng f.rng v = true ∧ fldExists f i = true
  tied : ∀ r ∈ crossRules s (fieldWrite f i v), f ∈ r.1 → r.2 = true
  allowed : deniedState s (fieldWrite f i v) = false

section
variable {s : State} {h : Hdr} {f : Fld} {i v : Nat}

theorem OpenField.listed (h : OpenField f) : f ∈ pageFields f.page := h.1

theorem OpenField.isWritable (h : OpenField f) : writable f = true := by
  obtain ⟨-, ha | ha, -⟩ := h <;> simp [writable, ha]

theorem OpenField.not_rwl (h : OpenField f) : f.acc ≠ .rwl := by
  obtain ⟨-, ha | ha, -⟩ := h <;> simp [ha]

theorem Admitted.rangeAt_eq_none (h : Admitted s f i v) : rangeAt s (fieldWrite f i v) = none := by
  obtain ⟨hf, -, hs, -⟩ := h.isOpen
  have hbad : ∀ g ∈ pageFields f.page, ¬ (writable g && g.acc != .w1c && covers (fieldWrite f i v) g &&
      (!valueOk s (fieldWrite f i v) g || !fldExists g i)) = true := by
    intro g hg
    by_cases hgf : g = f
    · subst hgf
      rcases h.range with hw | ⟨hr, he⟩
      · simp [hw]
      · simp [valueOk, hs, after_fieldWrite_self h.isOpen.isWritable h.bits, hr, he]
    · simp [covers_fieldWrite hf hg, hgf]
  have htied : ∀ r ∈ crossRules s (fieldWrite f i v), ¬ (!r.2 && r.1.any (touches (fieldWrite f i v))) = true := by
    intro r hr
    rw [any_touches_crossRule hf hr]
    by_cases hm : f ∈ r.1
    · simp [h.tied r hr hm]
    · simp [hm]
  simp only [rangeAt, fieldWrite_page, fieldWrite_inst, List.filter_eq_nil_iff.mpr hbad,
    List.filter_eq_nil_iff.mpr htied, List.map_nil, List.flatten_nil, List.append_nil, List.min?_nil]

theorem planAt_fieldWrite (hf : f ∈ pageFields f.page) (hp : f ∉ planFields) : planAt s (fieldWrite f i v) = none := by
  rw [planAt]
  split
  case isFalse => rfl
  case isTrue hc =>
    have h21 : f.page = 0x21 := hc.1
    have hsub : planFields ⊆ pageFields f.page := h21 ▸ (by decide : planFields ⊆ pageFields 0x21)
    have hany := any_touches_fieldWrite (i := i) (v := v) hf hsub
    have hnone : ∀ g ∈ planFields, ¬ touches (fieldWrite f i v) g = true := by
      simpa [hp] using hany
    rw [List.filter_eq_nil_iff.mpr hnone, List.map_nil, List.min?_nil]

theorem Admitted.checkWrite_eq_none (h : Admitted s f i v) (auth : Bool) : checkWrite s (fieldWrite f i v) auth = none := by
  obtain ⟨hf, -, -, hp⟩ := h.isOpen
  simp [checkWrite, partialAt_fieldWrite hf, needsLegal_fieldWrite hf h.isOpen.not_rwl, h.rangeAt_eq_none,
    planAt_fieldWrite hf hp]

/-- The answer of SET_PARAM to an admitted write: accepted work, or done at the boundary (02 R63, R76). -/
theorem Admitted.setParamBody_eq (ok : Admitted s f i v) :
    setParamBody h (fieldWrite f i v).payload false s =
      if f.cls == .n || f.cls == .l then
        .accept [] (fieldWrite f i v).payload { cmd := some (.setParam h (fieldWrite f i v).payload false) } s
      else .doneAtBeat { cmd := some (.setParam h (fieldWrite f i v).payload false) } s := by
  have hf := ok.isOpen.listed
  have hl := needsLegal_fieldWrite (i := i) (v := v) hf ok.isOpen.not_rwl
  have ht : (fieldWrite f i v).payload.take 516 = (fieldWrite f i v).payload :=
    List.take_of_length_le (Nat.le_of_eq PWrite.payload_length)
  simp only [setParamBody, parseWrite_payload (fieldWrite_fits hf ok.gate), fieldWrite_page, fieldWrite_inst, ok.gate,
    ok.checkWrite_eq_none, ok.allowed, underAuth, hl, writesNL_fieldWrite hf ok.isOpen.isWritable, ht, Bool.false_and,
    Bool.false_eq_true, if_false, List.append_nil]

/-- An admitted write of a class N field is accepted; it is checked as accepted work unless R32 lets it pass while acceptance
is closed. -/
theorem Admitted.paramCmd_eq_accepted (ok : Admitted s f i v) (hn : f.cls = .n)
    (hs : Served h (fieldWrite f i v).payload (!(clearsNode (fieldWrite f i v) && running s && !storeFull s)) s) :
    paramCmd h (fieldWrite f i v).payload false s = acceptedWrite h (fieldWrite f i v) s := by
  have hnl : writesNL (fieldWrite f i v) = true := by
    rw [writesNL_fieldWrite ok.isOpen.listed ok.isOpen.isWritable, hn]; rfl
  simp only [paramCmd, parseWrite_payload (fieldWrite_fits ok.isOpen.listed ok.gate), hnl, Bool.true_and]
  rw [runCmd_served hs, ok.setParamBody_eq, hn]
  rfl

/-- An admitted write of a field of class V or B is done at the next boundary (02 R63, R76; log 19). -/
theorem Admitted.paramCmd_eq_atBoundary (ok : Admitted s f i v) (hc : f.cls = .v ∨ f.cls = .b)
    (hs : Served h (fieldWrite f i v).payload false s) :
    paramCmd h (fieldWrite f i v).payload false s =
      atBoundary h (fieldWrite f i v).payload (.setParam h (fieldWrite f i v).payload false) [] s := by
  have hcls : (f.cls == .n || f.cls == .l) = false := by rcases hc with hc | hc <;> simp [hc]
  have hnl : writesNL (fieldWrite f i v) = false := by
    rw [writesNL_fieldWrite ok.isOpen.listed ok.isOpen.isWritable, hcls]
  simp only [paramCmd, parseWrite_payload (fieldWrite_fits ok.isOpen.listed ok.gate), hnl, Bool.false_and]
  rw [runCmd_served hs, ok.setParamBody_eq, hcls]
  rfl

/-- A write other than of 0 to HOLD_C or HOLD_DIV is accepted work as any other. -/
theorem Admitted.accepted_of_served (ok : Admitted s f i v) (hn : f.cls = .n)
    (hz : (f ≠ P04.HOLD_C ∧ f ≠ P04.HOLD_DIV) ∨ v ≠ 0) (hs : Served h (fieldWrite f i v).payload true s) :
    paramCmd h (fieldWrite f i v).payload false s = acceptedWrite h (fieldWrite f i v) s := by
  have hc : clearsNode (fieldWrite f i v) = false := by
    rw [clearsNode_fieldWrite ok.isOpen.listed ok.isOpen.isWritable ok.bits]
    rcases hz with ⟨h1, h2⟩ | h0
    · simp [h1, h2]
    · simp [h0]
  exact ok.paramCmd_eq_accepted hn (by rw [hc]; exact hs)

/-- A write of 0 to HOLD_C or HOLD_DIV is accepted by a running device without asking whether acceptance is open (01 R32;
log 20). -/
theorem Admitted.accepted_of_node_cleared (ok : Admitted s f i 0) (hf : f = P04.HOLD_C ∨ f = P04.HOLD_DIV)
    (hr : running s = true) (hfull : storeFull s = false) (hs : Served h (fieldWrite f i 0).payload false s) :
    paramCmd h (fieldWrite f i 0).payload false s = acceptedWrite h (fieldWrite f i 0) s := by
  have hn : f.cls = .n := by rcases hf with rfl | rfl <;> rfl
  have hc : clearsNode (fieldWrite f i 0) = true := by
    rw [clearsNode_fieldWrite ok.isOpen.listed ok.isOpen.isWritable ok.bits]
    rcases hf with rfl | rfl <;> rfl
  exact ok.paramCmd_eq_accepted hn (by rw [hc, hr, hfull]; exact hs)

/-- A field that no rule ties to another is free of them. -/
theorem tied_of_untied (hu : f ∉ (tiedFields f.page).flatten) :
    ∀ r ∈ crossRules s (fieldWrite f i v), f ∈ r.1 → r.2 = true :=
  fun _ hr hm => absurd (List.mem_flatten_of_mem (crossRules_tiedFields hr) hm) hu

end

end Sys2Proof.Machine
end

section
/-! The field writes of a device: each admitted in its range, each answered by the class of its field. -/
namespace Sys2Proof.Machine

theorem b2n_lt {v : Bool} : b2n v < 2 ^ 1 := by cases v <;> decide

theorem running_of_mode {s : State} (h : s.pwr.mode = .run ∨ s.pwr.mode = .trim) : running s = true := by
  rcases h with h | h <;> simp [running, h]

/-! The writes of this family, each admitted in its range (00 R2, R3; 01 R21, R32, R34; 03 R123; 08 R251; 09 R326; 12 R424,
R428; 16 R514). -/

section
variable {s : State}

theorem admitted_role {v : Nat} (hv : v = 1 ∨ v = 2) (hp : pairMember s = false) : Admitted s P01.ROLE 0 v where
  isOpen := by decide
  bits := by show v < 2 ^ 8; omega
  gate := rfl
  range := .inr ⟨by rcases hv with rfl | rfl <;> rfl, rfl⟩
  tied := tied_of_untied (by decide)
  allowed := by simp [deniedState, fieldWrite, P01.ROLE, hp]

/-- The enables of the subsystems (00 R3). -/
def subsystemEnables : List Fld := [P01.RADIO_EN, P01.PLC_EN, P01.METRO_EN]

/-- Clearing an enable sets no enable and touches no ROLE, so that a member of a pair may do it too. -/
theorem deniedState_enable {f : Fld} {v : Bool} (hf : f ∈ subsystemEnables) (hv : v = true → pairMember s = false) :
    deniedState s (fieldWrite f 0 (b2n v)) = false := by
  obtain ⟨hpage, hm, hw, hb, hne⟩ := (by decide : ∀ g ∈ subsystemEnables,
    g.page = 0x01 ∧ g ∈ pageFields 0x01 ∧ writable g = true ∧ g.width = 1 ∧ P01.ROLE ≠ g) f hf
  have hrole : touches (fieldWrite f 0 (b2n v)) P01.ROLE = false := by
    rw [touches_fieldWrite hm (by decide : P01.ROLE ∈ pageFields 0x01), decide_eq_false hne]
  have hset : ∀ g ∈ pageFields 0x01, v = false → sets1 s (fieldWrite f 0 (b2n v)) g = false := by
    rintro g hg rfl
    rw [sets1_fieldWrite hm hg hw (hb ▸ b2n_lt)]
    exact Bool.and_false _
  simp only [deniedState, fieldWrite_page, hpage, hrole]
  cases v with
  | true => simp [hv rfl]
  | false =>
    rw [hset P01.RADIO_EN (by decide) rfl, hset P01.PLC_EN (by decide) rfl, hset P01.METRO_EN (by decide) rfl]
    exact Bool.and_false _

theorem admitted_enable {f : Fld} {v : Bool} (hf : f ∈ subsystemEnables) (hv : v = true → pairMember s = false) :
    Admitted s f 0 (b2n v) := by
  obtain ⟨ho, hw, hp, hr, he, hu⟩ := (by decide : ∀ g ∈ subsystemEnables, OpenField g ∧ g.width = 1 ∧ g.page = 0x01 ∧
    g.rng = .any ∧ fldExists g 0 = true ∧ g ∉ (tiedFields g.page).flatten) f hf
  exact
    { isOpen := ho
      bits := hw ▸ b2n_lt
      gate := hp ▸ rfl
      range := .inr ⟨by rw [hr]; rfl, he⟩
      tied := tied_of_untied hu
      allowed := deniedState_enable hf hv }

theorem admitted_powerCap {v : Nat} (h20 : 20 ≤ v) (h80 : v ≤ 80) (hmin : roleMinimum s ≤ v) :
    Admitted s P04.POWER_CAP 0 v where
  isOpen := by decide
  bits := by show v < 2 ^ 16; omega
  gate := rfl
  range := .inr ⟨by
    show (decide ((20 : Int) ≤ v) && decide ((v : Int) ≤ 80)) = true
    simp only [Bool.and_eq_true, decide_eq_true_eq]
    omega, rfl⟩
  tied := by
    have hb : v < 2 ^ P04.POWER_CAP.width := by show v < 2 ^ 16; omega
    intro r hr _
    obtain rfl : r = ([P04.POWER_CAP], decide (roleMinimum s ≤ after s (fieldWrite P04.POWER_CAP 0 v) P04.POWER_CAP)) :=
      List.mem_singleton.mp hr
    rw [after_fieldWrite_self rfl hb, decide_eq_true hmin]
  allowed := rfl

theorem admitted_holdC {v : Nat} (hv : v < 65536) : Admitted s P04.HOLD_C 0 v where
  isOpen := by decide
  bits := hv
  gate := rfl
  range := .inr ⟨rfl, rfl⟩
  tied := tied_of_untied (by decide)
  allowed := rfl

theorem admitted_holdDiv {v : Nat} (hv : v = 0 ∨ 256 ≤ v ∧ v ≤ 16384) : Admitted s P04.HOLD_DIV 0 v where
  isOpen := by decide
  bits := by show v < 2 ^ 16; omega
  gate := rfl
  range := .inr ⟨by
    show ((v : Int) == 0 || (decide ((256 : Int) ≤ v) && decide ((v : Int) ≤ 16384))) = true
    simp only [Bool.or_eq_true, Bool.and_eq_true, decide_eq_true_eq, beq_iff_eq]
    omega, rfl⟩
  tied := tied_of_untied (by decide)
  allowed := rfl

theorem admitted_cMeas_cleared : Admitted s P04.C_MEAS 0 0 where
  isOpen := by decide
  bits := by decide
  gate := rfl
  range := .inr ⟨rfl, rfl⟩
  tied := tied_of_untied (by decide)
  allowed := rfl

theorem admitted_ethertype {v : Nat} (hlo : 0x0600 ≤ v) (hhi : v < 65536) (hne : v ∉ [0x88F7, 0x8100, 0x88A8]) :
    Admitted s P02.ETHERTYPE 0 v where
  isOpen := by decide
  bits := hhi
  gate := rfl
  range := by
    simp only [List.mem_cons, List.not_mem_nil, or_false] at hne
    refine .inr ⟨?_, rfl⟩
    show (decide ((0x0600 : Int) ≤ v) && (v : Int) != 0x88F7 && (v : Int) != 0x8100 && (v : Int) != 0x88A8) = true
    simp only [Bool.and_eq_true, decide_eq_true_eq, bne_iff_ne]
    omega
  tied := tied_of_untied (by decide)
  allowed := rfl

theorem admitted_plainImport {v : Bool} (hv : v = true → rd s P40.PLAIN_IMPORT ≠ 0) :
    Admitted s P40.PLAIN_IMPORT 0 (b2n v) where
  isOpen := by decide
  bits := b2n_lt
  gate := rfl
  range := .inr ⟨rfl, rfl⟩
  tied := tied_of_untied (by decide)
  allowed := by
    show (sets1 s _ P40.PLAIN_IMPORT && rd s P40.PLAIN_IMPORT == 0) = false
    have hm : P40.PLAIN_IMPORT ∈ pageFields 0x40 := by decide
    rw [sets1_fieldWrite hm hm rfl b2n_lt]
    cases v with
    | false => rfl
    | true => simp [hv rfl]

theorem admitted_tamperSeen : Admitted s P40.TAMPER_SEEN 0 1 where
  isOpen := by decide
  bits := by decide
  gate := rfl
  range := .inl rfl
  tied := tied_of_untied (by decide)
  allowed := by
    show (sets1 s (fieldWrite P40.TAMPER_SEEN 0 1) P40.PLAIN_IMPORT && rd s P40.PLAIN_IMPORT == 0) = false
    rw [sets1_fieldWrite (p := 0x40) (by decide) (by decide) rfl (by decide)]
    rfl

theorem admitted_wrap {m : Nat} (hm : m < 256) : Admitted s P52.WRAP 0 m where
  isOpen := by decide
  bits := hm
  gate := rfl
  range := .inl rfl
  tied := tied_of_untied (by decide)
  allowed := rfl

theorem pageGate_radio {i : Nat} (hi : i < 16) (hon : radioOn s = true) : pageGate s 0x20 i = none := by
  have hg : powerGate s 0x20 = .pass := by simp [powerGate, hon]
  have hi : instOk 0x20 i = true := decide_eq_true hi
  simp only [pageGate, hi, hg, Bool.true_eq_false, if_false]
  rfl

theorem pageGate_plc {ph : Nat} (hi : ph < 3) (hon : plcOn s = true) : pageGate s 0x21 (ph + 1) = none := by
  have hg : powerGate s 0x21 = .pass := by simp [powerGate, hon]
  have hi : instOk 0x21 (ph + 1) = true := by
    show (decide (1 ≤ ph + 1) && decide (ph + 1 ≤ 3)) = true
    rw [decide_eq_true (Nat.le_add_left 1 ph), decide_eq_true (Nat.succ_le_of_lt hi), Bool.and_true]
  simp only [pageGate, hi, hg, Bool.true_eq_false, if_false]
  rfl

/-- EN alone is not among the fields that EN 1 locks, and no field of a port (08 R290). -/
theorem admitted_radioEn {ch : Nat} {v : Bool} (hch : ch < 16) (hon : radioOn s = true)
    (hv : v = true → radioEnableOk (writePage (fieldWrite P20.EN ch 1) s) ch = true) :
    Admitted s P20.EN ch (b2n v) where
  isOpen := by decide
  bits := b2n_lt
  gate := pageGate_radio hch hon
  range := .inr ⟨rfl, rfl⟩
  tied := tied_of_untied (by decide)
  allowed := by
    have hm : P20.EN ∈ pageFields 0x20 := by decide
    have hlocked : radioLocked.any (touches (fieldWrite P20.EN ch (b2n v))) = false := by
      rw [any_touches_fieldWrite hm (by decide)]; decide
    have hport : portFields.any (touches (fieldWrite P20.EN ch (b2n v))) = false := by
      rw [any_touches_fieldWrite hm (by decide)]; decide
    have hset := sets1_fieldWrite (s := s) (i := ch) hm hm rfl (b2n_lt (v := v))
    have hpage : (fieldWrite P20.EN ch (b2n v)).page = 0x20 := rfl
    simp only [deniedState, hpage, hlocked, hport, hset, fieldWrite_inst]
    cases v with
    | false => simp [b2n]
    | true => simp [b2n, hv rfl]

/-- EN alone is not among the fields that EN 1 locks (09 R326). -/
theorem admitted_plcEn {ph : Nat} {v : Bool} (hph : ph < 3) (hon : plcOn s = true)
    (hv : v = true → plcEnableOk (writePage (fieldWrite P21.EN (ph + 1) 1) s) ph = true) :
    Admitted s P21.EN (ph + 1) (b2n v) where
  isOpen := by decide
  bits := b2n_lt
  gate := pageGate_plc hph hon
  range := .inr ⟨rfl, rfl⟩
  tied := tied_of_untied (by decide)
  allowed := by
    have hm : P21.EN ∈ pageFields 0x21 := by decide
    have hlocked : plcLocked.any (touches (fieldWrite P21.EN (ph + 1) (b2n v))) = false := by
      rw [any_touches_fieldWrite hm (by decide)]; decide
    have hset := sets1_fieldWrite (s := s) (i := ph + 1) hm hm rfl (b2n_lt (v := v))
    have hpage : (fieldWrite P21.EN (ph + 1) (b2n v)).page = 0x21 := rfl
    simp only [deniedState, hpage, hlocked, hset, fieldWrite_inst, Nat.add_sub_cancel]
    cases v with
    | false => simp [b2n]
    | true => simp [b2n, hv rfl]

end

/-- Settles O27: each write is admitted in its range, and an admitted write is answered by the class of its field. -/
theorem deviceFieldWritesComplete : Obligations.DeviceFieldWritesComplete := by
  unfold Obligations.DeviceFieldWritesComplete
  constructor
  · intro h s acc dueDone
    have accept : ∀ {f : Fld} {i v : Nat}, Admitted s f i v → f.cls = .n →
        (f ≠ P04.HOLD_C ∧ f ≠ P04.HOLD_DIV) ∨ v ≠ 0 →
        acc (fieldWrite f i v) (.next (paramCmd h (fieldWrite f i v).payload false s)) :=
      fun ok hn hz hs => congrArg Host.Outcome.next (ok.accepted_of_served hn hz hs)
    have enable : ∀ {f : Fld} {v : Bool}, f ∈ subsystemEnables → (v = true → pairMember s = false) →
        acc (fieldWrite f 0 (b2n v)) (.next (paramCmd h (fieldWrite f 0 (b2n v)).payload false s)) := by
      intro f v hf hv
      obtain ⟨hn, hz⟩ := (by decide : ∀ g ∈ subsystemEnables, g.cls = .n ∧ g ≠ P04.HOLD_C ∧ g ≠ P04.HOLD_DIV) f hf
      exact accept (admitted_enable hf hv) hn (.inl hz)
    refine ⟨?role, ?enables, ?cap, ?holdC, ?holdDiv, ?cMeas, ?etherType, ?plainImport, ?channel, ?phase, ?tamper, ?wrap⟩
    case role => exact fun v hv hp => accept (admitted_role hv hp) rfl (.inl (by decide))
    case enables =>
      exact fun v hv => ⟨enable (by decide) hv, enable (by decide) hv, enable (by decide) hv⟩
    case cap => exact fun v h20 h80 hmin => accept (admitted_powerCap h20 h80 hmin) rfl (.inl (by decide))
    case holdC => exact fun v h0 hv => accept (admitted_holdC hv) rfl (.inr (Nat.ne_of_gt h0))
    case holdDiv => exact fun v hlo hhi => accept (admitted_holdDiv (.inr ⟨hlo, hhi⟩)) rfl (.inr (by omega))
    case cMeas => exact accept admitted_cMeas_cleared rfl (.inl (by decide))
    case etherType => exact fun v hlo hhi hne => accept (admitted_ethertype hlo hhi hne) rfl (.inl (by decide))
    case plainImport => exact fun v hv => accept (admitted_plainImport hv) rfl (.inl (by decide))
    case channel => exact fun ch v hon hv => accept (admitted_radioEn ch.isLt hon hv) rfl (.inl (by decide))
    case phase => exact fun ph v hon hv => accept (admitted_plcEn ph.isLt hon hv) rfl (.inl (by decide))
    case tamper => exact fun hs => congrArg Host.Outcome.next (admitted_tamperSeen.paramCmd_eq_atBoundary (.inr rfl) hs)
    case wrap => exact fun m hm hs => congrArg Host.Outcome.next ((admitted_wrap hm).paramCmd_eq_atBoundary (.inl rfl) hs)
  · intro h s hmode hfull c d
    have hr := running_of_mode hmode
    exact ⟨fun hs => congrArg Host.Outcome.next
        ((admitted_holdC (by decide)).accepted_of_node_cleared (.inl rfl) hr hfull hs),
      fun hs => congrArg Host.Outcome.next
        ((admitted_holdDiv (.inl rfl)).accepted_of_node_cleared (.inr rfl) hr hfull hs)⟩

end Sys2Proof.Machine
end

section
/-! The Sett's dispatch pass (01 R20, R36 to R38): what one item of the queue can do to it, and the account that it keeps. -/
namespace Sys2Proof.Machine

/-- What the pass leaves of an item whether it is dispatched or kept. -/
def SettItem.key (i : SettItem) : Nat × Option Nat × Bool × Nat × Work := (i.level, i.flow, i.thread, i.charge, i.work)

/-- One item of a pass: it stays queued, and energy, cores and flows stand; or it is free to run, a core and the energy
that its level may draw are left for it, and it is dispatched. -/
theorem Pass.step_cases (x : Pass) (i : SettItem) :
    (∃ r w d, x.step i = { x.keep { i with run := r } with waits := w, deferred := d }) ∨
    (x.busy i = false ∧ (i.thread = true → x.cores ≠ 0) ∧
      i.charge ≤ x.remaining + (if i.level < 4 then x.reserve else 0) ∧ x.step i = x.take i) := by
  unfold Pass.step
  extract_lets blocked
  clear_value blocked
  generalize (if i.level < 4 then x.reserve else 0) = drawable
  split
  · exact .inl ⟨i.run, x.waits, x.deferred, rfl⟩
  next hfree =>
  split
  · exact .inl ⟨i.run, some i.level, x.deferred, rfl⟩
  next hcore =>
  split
  · exact .inl ⟨i.run + 1, some i.level, x.deferred ++ [i.level], rfl⟩
  next hcharge =>
  simp only [Bool.or_eq_true, not_or, Bool.not_eq_true] at hfree
  exact .inr ⟨hfree.1.1, fun ht => by simpa [ht] using hcore, Nat.le_of_not_lt hcharge, rfl⟩

/-- What holds all along a pass that began with energy `e`, the commit reserve and 16 cores, once the items of `seen` have
had their turn: what is left is what was not drawn, and no item was lost. -/
structure Pass.Accounted (e : Nat) (seen : List SettItem) (x : Pass) : Prop where
  total : (x.out.map SettItem.charge).sum + x.remaining + x.reserve = e + 24
  high : ((x.out.filter (fun i => decide (4 ≤ i.level))).map SettItem.charge).sum + x.remaining ≤ e
  threads : (x.out.filter SettItem.thread).length + x.cores = 16
  items : ((x.out ++ x.kept).map SettItem.key).Perm (seen.map SettItem.key)
  fresh : ∀ i ∈ x.out, i.run = 0 ∧ i.owed = false

theorem Pass.Accounted.take {e : Nat} {seen : List SettItem} {x : Pass} {i : SettItem} (h : x.Accounted e seen)
    (hcore : i.thread = true → x.cores ≠ 0)
    (hcharge : i.charge ≤ x.remaining + (if i.level < 4 then x.reserve else 0)) :
    (x.take i).Accounted e (seen ++ [i]) := by
  obtain ⟨total, high, threads, items, fresh⟩ := h
  refine ⟨?total, ?high, ?threads, ?items, ?fresh⟩
  case total =>
    simp only [Pass.take, List.map_append, List.map_cons, List.map_nil, List.sum_append, List.sum_cons, List.sum_nil]
    split at hcharge <;> simp only [*, if_true, if_false] <;> omega
  case high =>
    by_cases hl : i.level < 4
    · simp [Pass.take, hl, Nat.not_le_of_lt hl]; omega
    · simp only [hl, if_false] at hcharge
      simp [Pass.take, hl, Nat.le_of_not_lt hl]; omega
  case threads =>
    cases ht : i.thread with
    | false => simp [Pass.take, ht]; omega
    | true => have := hcore ht; simp [Pass.take, ht]; omega
  case items =>
    simp only [Pass.take, List.map_append, List.map_cons, List.map_nil] at items ⊢
    rw [List.append_assoc]
    exact (List.perm_append_comm.append_left _).trans (by simpa [SettItem.key] using items.append_right [i.key])
  case fresh =>
    intro j hj
    rcases List.mem_append.mp hj with hj | hj
    · exact fresh j hj
    · rw [List.mem_singleton.mp hj]; exact ⟨rfl, rfl⟩

theorem Pass.Accounted.keep {e : Nat} {seen : List SettItem} {x : Pass} {i : SettItem} {r : Nat} {w : Option Nat}
    {d : List Nat} (h : x.Accounted e seen) :
    Pass.Accounted e (seen ++ [i]) { x.keep { i with run := r } with waits := w, deferred := d } where
  total := h.total
  high := h.high
  threads := h.threads
  fresh := h.fresh
  items := by
    have := h.items.append_right [i.key]
    simpa [Pass.keep, SettItem.key] using this

theorem Pass.Accounted.step {e : Nat} {seen : List SettItem} {x : Pass} {i : SettItem} (h : x.Accounted e seen) :
    (x.step i).Accounted e (seen ++ [i]) := by
  rcases x.step_cases i with ⟨r, w, d, hkeep⟩ | ⟨-, hcore, hcharge, htake⟩
  · rw [hkeep]; exact h.keep
  · rw [htake]; exact h.take hcore hcharge

theorem Pass.Accounted.run {e : Nat} {q seen : List SettItem} {x : Pass} (h : x.Accounted e seen) :
    (x.run q).Accounted e (seen ++ q) := by
  induction q generalizing x seen with
  | nil => simpa [Pass.run] using h
  | cons i q ih => simpa [Pass.run] using ih (x := x.step i) h.step

theorem settPass_accounted (s : State) : (settPass s).Accounted s.den.eDisc (s.sett.queue.filter (mayRun s)) :=
  Pass.Accounted.run (seen := []) ⟨by simp, by simp, rfl, .nil, by simp⟩

/-- No flow is given out twice: an item whose flow is taken is busy, unless it is the one that holds it (01 R38). -/
theorem Pass.take_flows_nodup {x : Pass} {i : SettItem} (h : x.flows.Nodup) (hfree : x.busy i = false) :
    (x.take i).flows.Nodup := by
  cases hflow : i.flow with
  | none => simpa only [Pass.take, hflow] using h
  | some f =>
    simp only [Pass.take, hflow]
    split
    · exact h
    next hholds =>
      have hnew : f ∉ x.flows := by simpa [Pass.busy, hflow, hholds] using hfree
      exact List.concat_eq_append ▸ h.concat hnew

theorem Pass.run_flows_nodup {x : Pass} {q : List SettItem} (h : x.flows.Nodup) : (x.run q).flows.Nodup := by
  induction q generalizing x with
  | nil => exact h
  | cons i q ih =>
    refine ih ?_
    rcases x.step_cases i with ⟨r, w, d, hkeep⟩ | ⟨hfree, -, -, htake⟩
    · rw [hkeep]; exact h
    · rw [htake]; exact take_flows_nodup h hfree

/-- Settles O32: the account of a pass holds at its start and every item of the queue keeps it. -/
theorem settDispatchKeepsTheBudget : Obligations.SettDispatchKeepsTheBudget := by
  intro s x key
  obtain ⟨total, high, threads, items, fresh⟩ : x.Accounted _ _ := settPass_accounted s
  exact ⟨by omega, by omega, by omega, fun k => items.count_eq k, fun hmode i => by simp [mayRun, hmode],
    fun h => Pass.run_flows_nodup h, fresh⟩
end Sys2Proof.Machine
end

section
/-! What every command keeps: one arm for each row, and the clock that only a beat boundary moves (01 R9). -/
namespace Sys2Proof.Machine

/-- The state whose clock a command leaves: a powered beat boundary is one beat on (01 R9). -/
def clockAfter (c : Instr) (s : State) : State :=
  match c with
  | .beatBoundary _ => if hasPower s then s.ticked else s
  | _ => s

theorem exec_kept (c : Instr) (s : State) : Outcome.kept (clockAfter c s) (exec c s) :=
  match c with
  | .nop .. => execNop_kept (.refl s)
  | .openSession .. => execOpenSession_kept (.refl s)
  | .closeSession .. => execCloseSession_kept (.refl s)
  | .getSession .. => execGetSession_kept (.refl s)
  | .getIdentity .. => execGetIdentity_kept (.refl s)
  | .getStatus .. => execGetStatus_kept (.refl s)
  | .funcReset .. => execFuncReset_kept (.refl s)
  | .devReset .. => execDevReset_kept (.refl s)
  | .pwrCycleReq .. => execPwrCycleReq_kept (.refl s)
  | .enumerate .. => execEnumerate_kept (.refl s)
  | .getLinkStatus .. => execGetLinkStatus_kept (.refl s)
  | .setLegalTime .. => execSetLegalTime_kept (.refl s)
  | .setSlotTime .. => execSetSlotTime_kept (.refl s)
  | .getTime .. => execGetTime_kept (.refl s)
  | .getParam .. => execGetParam_kept (.refl s)
  | .setParam .. => execSetParam_kept (.refl s)
  | .getParamDefaults .. => execGetParamDefaults_kept (.refl s)
  | .restoreDefaults .. => execRestoreDefaults_kept (.refl s)
  | .ingestBatch .. => execIngestBatch_kept (.refl s)
  | .getBatchStatus .. => execGetBatchStatus_kept (.refl s)
  | .enrolMeter .. => execEnrolMeter_kept (.refl s)
  | .retireMeter .. => execRetireMeter_kept (.refl s)
  | .loadProfileTemplate .. => execLoadProfileTemplate_kept (.refl s)
  | .streamOpen .. => execStreamOpen_kept (.refl s)
  | .streamClose .. => execStreamClose_kept (.refl s)
  | .streamData .. => execStreamData_kept (.refl s)
  | .getMeter .. => execGetMeter_kept (.refl s)
  | .setRules .. => execSetRules_kept (.refl s)
  | .editReading .. => execEditReading_kept (.refl s)
  | .exportOpen .. => execExportOpen_kept (.refl s)
  | .exportRead .. => execExportRead_kept (.refl s)
  | .exportAck .. => execExportAck_kept (.refl s)
  | .exportClose .. => execExportClose_kept (.refl s)
  | .ledgerQuery .. => execLedgerQuery_kept (.refl s)
  | .ledgerStatus .. => execLedgerStatus_kept (.refl s)
  | .dlQueue .. => execDlQueue_kept (.refl s)
  | .dlUrgent .. => execDlUrgent_kept (.refl s)
  | .dlStatus .. => execDlStatus_kept (.refl s)
  | .dlCancel .. => execDlCancel_kept (.refl s)
  | .tariffPush .. => execTariffPush_kept (.refl s)
  | .campaignCreate .. => execCampaignCreate_kept (.refl s)
  | .campaignControl .. => execCampaignControl_kept (.refl s)
  | .campaignStatus .. => execCampaignStatus_kept (.refl s)
  | .balanceGroupSet .. => execBalanceGroupSet_kept (.refl s)
  | .scribeCampaign .. => execScribeCampaign_kept (.refl s)
  | .tallyQuery .. => execTallyQuery_kept (.refl s)
  | .radioNeighbours .. => execRadioNeighbours_kept (.refl s)
  | .plcRoutes .. => execPlcRoutes_kept (.refl s)
  | .keyImport .. => execKeyImport_kept (.refl s)
  | .keyGenerate .. => execKeyGenerate_kept (.refl s)
  | .keyZeroise .. => execKeyZeroise_kept (.refl s)
  | .keyInfo .. => execKeyInfo_kept (.refl s)
  | .pubkeyExport .. => execPubkeyExport_kept (.refl s)
  | .keyAgree .. => execKeyAgree_kept (.refl s)
  | .imageBegin .. => execImageBegin_kept (.refl s)
  | .imageBlock .. => execImageBlock_kept (.refl s)
  | .imageCommit .. => execImageCommit_kept (.refl s)
  | .imageActivate .. => execImageActivate_kept (.refl s)
  | .imageStatus .. => execImageStatus_kept (.refl s)
  | .meterImageLoad .. => execMeterImageLoad_kept (.refl s)
  | .eventRead .. => execEventRead_kept (.refl s)
  | .counterRead .. => execCounterRead_kept (.refl s)
  | .counterConfig .. => execCounterConfig_kept (.refl s)
  | .memRead .. => execMemRead_kept (.refl s)
  | .dmaStart .. => execDmaStart_kept (.refl s)
  | .selfTest .. => execSelfTest_kept (.refl s)
  | .ftlStatus .. => execFtlStatus_kept (.refl s)
  | .pair .. => execPair_kept (.refl s)
  | .unpair .. => execUnpair_kept (.refl s)
  | .pairStatus .. => execPairStatus_kept (.refl s)
  | .resolveDivergence .. => execResolveDivergence_kept (.refl s)
  | .promote .. => execPromote_kept (.refl s)
  | .readRegisters .. => execReadRegisters_kept (.refl s)
  | .readBillingSet .. => execReadBillingSet_kept (.refl s)
  | .calendarLoad .. => execCalendarLoad_kept (.refl s)
  | .calendarActivate .. => execCalendarActivate_kept (.refl s)
  | .calibrate .. => execCalibrate_kept (.refl s)
  | .billingClose .. => execBillingClose_kept (.refl s)
  | .displayList .. => execDisplayList_kept (.refl s)
  | .outputControl .. => execOutputControl_kept (.refl s)
  | .legalLogRead .. => execLegalLogRead_kept (.refl s)
  | .roleWrite .. => execRoleWrite_kept (.refl s)
  | .radioEnWrite .. => execRadioEnWrite_kept (.refl s)
  | .plcEnWrite .. => execPlcEnWrite_kept (.refl s)
  | .metroEnWrite .. => execMetroEnWrite_kept (.refl s)
  | .powerCapWrite .. => execPowerCapWrite_kept (.refl s)
  | .holdCWrite .. => execHoldCWrite_kept (.refl s)
  | .holdDivWrite .. => execHoldDivWrite_kept (.refl s)
  | .cMeasClear .. => execCMeasClear_kept (.refl s)
  | .ethertypeWrite .. => execEthertypeWrite_kept (.refl s)
  | .radioChannelEnWrite .. => execRadioChannelEnWrite_kept (.refl s)
  | .plcPhaseEnWrite .. => execPlcPhaseEnWrite_kept (.refl s)
  | .legalUpdModeWrite .. => execLegalUpdModeWrite_kept (.refl s)
  | .sealCalWrite .. => execSealCalWrite_kept (.refl s)
  | .legalKeyWrite .. => execLegalKeyWrite_kept (.refl s)
  | .plainImportWrite .. => execPlainImportWrite_kept (.refl s)
  | .tamperSeenClear .. => execTamperSeenClear_kept (.refl s)
  | .wrapClear .. => execWrapClear_kept (.refl s)
  | .profilePeriodWrite .. => execProfilePeriodWrite_kept (.refl s)
  | .demandSettingWrite .. => execDemandSettingWrite_kept (.refl s)
  | .tzDstWrite .. => execTzDstWrite_kept (.refl s)
  | .beatBoundary .. => execBeatBoundary_kept (.refl s)
  | .denSensorRestored .. => execDenSensorRestored_kept (.refl s)
  | .denThermalTrip => execDenThermalTrip_kept (.refl s)
  | .itemOwed => execItemOwed_kept (.refl s)
  | .holdAssert .. => execHoldAssert_kept (.refl s)
  | .holdRelease .. => execHoldRelease_kept (.refl s)
  | .reorderGapExpire .. => execReorderGapExpire_kept (.refl s)
  | .pendingReply .. => execPendingReply_kept (.refl s)
  | .linkDataFrame .. => execLinkDataFrame_kept (.refl s)
  | .linkAck .. => execLinkAck_kept (.refl s)
  | .linkNack .. => execLinkNack_kept (.refl s)
  | .linkRtoExpire .. => execLinkRtoExpire_kept (.refl s)
  | .linkProbe .. => execLinkProbe_kept (.refl s)
  | .linkProbeSend .. => execLinkProbeSend_kept (.refl s)
  | .linkResync .. => execLinkResync_kept (.refl s)
  | .linkHoldExpire .. => execLinkHoldExpire_kept (.refl s)
  | .linkUp .. => execLinkUp_kept (.refl s)
  | .linkDown .. => execLinkDown_kept (.refl s)
  | .pauseFrameDrop .. => execPauseFrameDrop_kept (.refl s)
  | .sync .. => execSync_kept (.refl s)
  | .syncLossExpire => execSyncLossExpire_kept (.refl s)
  | .startWaitExpire => execStartWaitExpire_kept (.refl s)
  | .pdelayReqSend .. => execPdelayReqSend_kept (.refl s)
  | .pdelayReq .. => execPdelayReq_kept (.refl s)
  | .pdelayResp .. => execPdelayResp_kept (.refl s)
  | .announceForward .. => execAnnounceForward_kept (.refl s)
  | .legalTimeStepped => execLegalTimeStepped_kept (.refl s)
  | .ppsInEdge .. => execPpsInEdge_kept (.refl s)
  | .ppsOutPulse => execPpsOutPulse_kept (.refl s)
  | .mainsLost .. => execMainsLost_kept (.refl s)
  | .flushEnd => execFlushEnd_kept (.refl s)
  | .pwrReq => execPwrReq_kept (.refl s)
  | .resetNLow .. => execResetNLow_kept (.refl s)
  | .supplyMonitorTrip => execSupplyMonitorTrip_kept (.refl s)
  | .powerOnReset => execPowerOnReset_kept (.refl s)
  | .mainPowerLost => execMainPowerLost_kept (.refl s)
  | .vbatRise => execVbatRise_kept (.refl s)
  | .vbatFall => execVbatFall_kept (.refl s)
  | .startUp .. => execStartUp_kept (.refl s)
  | .presenceCheckpoint => execPresenceCheckpoint_kept (.refl s)
  | .coreWatchdog .. => execCoreWatchdog_kept (.refl s)
  | .kernelHeartbeatMissing => execKernelHeartbeatMissing_kept (.refl s)
  | .ledgerGroupSeal => execLedgerGroupSeal_kept (.refl s)
  | .pageProgramDone .. => execPageProgramDone_kept (.refl s)
  | .copyVerified .. => execCopyVerified_kept (.refl s)
  | .groupAccept => execGroupAccept_kept (.refl s)
  | .groupRelease => execGroupRelease_kept (.refl s)
  | .segmentReclaim .. => execSegmentReclaim_kept (.refl s)
  | .ledgerWorn => execLedgerWorn_kept (.refl s)
  | .ledgerDieLost .. => execLedgerDieLost_kept (.refl s)
  | .rereplicationDone => execRereplicationDone_kept (.refl s)
  | .slowPathReturn .. => execSlowPathReturn_kept (.refl s)
  | .unsealComplete .. => execUnsealComplete_kept (.refl s)
  | .batchExpired .. => execBatchExpired_kept (.refl s)
  | .intervalClose .. => execIntervalClose_kept (.refl s)
  | .scribeEvaluate .. => execScribeEvaluate_kept (.refl s)
  | .radioFrameReceived .. => execRadioFrameReceived_kept (.refl s)
  | .floodRelay .. => execFloodRelay_kept (.refl s)
  | .seenEntryExpire .. => execSeenEntryExpire_kept (.refl s)
  | .associationRequest .. => execAssociationRequest_kept (.refl s)
  | .dataRequest .. => execDataRequest_kept (.refl s)
  | .slotRequest .. => execSlotRequest_kept (.refl s)
  | .slotRelease .. => execSlotRelease_kept (.refl s)
  | .orphanNotification .. => execOrphanNotification_kept (.refl s)
  | .beaconTransmit .. => execBeaconTransmit_kept (.refl s)
  | .beaconReceived .. => execBeaconReceived_kept (.refl s)
  | .radioParentLost .. => execRadioParentLost_kept (.refl s)
  | .radioOrphanScan .. => execRadioOrphanScan_kept (.refl s)
  | .orphanHoldExpire .. => execOrphanHoldExpire_kept (.refl s)
  | .radioJoin .. => execRadioJoin_kept (.refl s)
  | .slotMissed .. => execSlotMissed_kept (.refl s)
  | .shortAddrReleased .. => execShortAddrReleased_kept (.refl s)
  | .rendezvousSlot .. => execRendezvousSlot_kept (.refl s)
  | .radioTransmit .. => execRadioTransmit_kept (.refl s)
  | .zeroCrossing .. => execZeroCrossing_kept (.refl s)
  | .flywheelCycle .. => execFlywheelCycle_kept (.refl s)
  | .plcFrameReceived .. => execPlcFrameReceived_kept (.refl s)
  | .plcLinkAckTimeout .. => execPlcLinkAckTimeout_kept (.refl s)
  | .tmPeriodBoundary .. => execTmPeriodBoundary_kept (.refl s)
  | .tmBlankHoldExpire .. => execTmBlankHoldExpire_kept (.refl s)
  | .routeAdvertisement .. => execRouteAdvertisement_kept (.refl s)
  | .routeAgeExpire .. => execRouteAgeExpire_kept (.refl s)
  | .plcAddrHoldExpire .. => execPlcAddrHoldExpire_kept (.refl s)
  | .txAbortImpedance .. => execTxAbortImpedance_kept (.refl s)
  | .tripRetryExpire .. => execTripRetryExpire_kept (.refl s)
  | .tripBackoffExpire .. => execTripBackoffExpire_kept (.refl s)
  | .dlDispatch .. => execDlDispatch_kept (.refl s)
  | .dlResendExpire .. => execDlResendExpire_kept (.refl s)
  | .dlExpiry .. => execDlExpiry_kept (.refl s)
  | .campaignRound .. => execCampaignRound_kept (.refl s)
  | .roundWaitExpire .. => execRoundWaitExpire_kept (.refl s)
  | .campaignEnded .. => execCampaignEnded_kept (.refl s)
  | .bootWindowExpire .. => execBootWindowExpire_kept (.refl s)
  | .updateConfirmed => execUpdateConfirmed_kept (.refl s)
  | .legalSecondEnd .. => execLegalSecondEnd_kept (.refl s)
  | .profileIntervalEnd => execProfileIntervalEnd_kept (.refl s)
  | .demandIntervalEnd => execDemandIntervalEnd_kept (.refl s)
  | .scheduledClosure => execScheduledClosure_kept (.refl s)
  | .calendarMinute => execCalendarMinute_kept (.refl s)
  | .calendarActivation => execCalendarActivation_kept (.refl s)
  | .dstChange => execDstChange_kept (.refl s)
  | .legalLockstep => execLegalLockstep_kept (.refl s)
  | .sealNChange .. => execSealNChange_kept (.refl s)
  | .buttonPress => execButtonPress_kept (.refl s)
  | .scrollExpire => execScrollExpire_kept (.refl s)
  | .dispTimeoutExpire => execDispTimeoutExpire_kept (.refl s)
  | .displayRefresh .. => execDisplayRefresh_kept (.refl s)
  | .outputPulse .. => execOutputPulse_kept (.refl s)
  | .laneJobPost .. => execLaneJobPost_kept (.refl s)
  | .laneJobComplete .. => execLaneJobComplete_kept (.refl s)
  | .entropyFail => execEntropyFail_kept (.refl s)
  | .zeroisedTamper => execZeroisedTamper_kept (.refl s)
  | .tamperLatch => execTamperLatch_kept (.refl s)
  | .debugEnabled => execDebugEnabled_kept (.refl s)
  | .journalCommit => execJournalCommit_kept (.refl s)
  | .journalMsExpire => execJournalMsExpire_kept (.refl s)
  | .ftlSnapshot => execFtlSnapshot_kept (.refl s)
  | .eraseFail .. => execEraseFail_kept (.refl s)
  | .readRefresh .. => execReadRefresh_kept (.refl s)
  | .patrolRead .. => execPatrolRead_kept (.refl s)
  | .flashDieLost .. => execFlashDieLost_kept (.refl s)
  | .gcPost .. => execGcPost_kept (.refl s)
  | .eraseDone .. => execEraseDone_kept (.refl s)
  | .wearLevelMove .. => execWearLevelMove_kept (.refl s)
  | .memCorrected .. => execMemCorrected_kept (.refl s)
  | .memUncorrectable .. => execMemUncorrectable_kept (.refl s)
  | .poisonConsumed .. => execPoisonConsumed_kept (.refl s)
  | .dramPatrolScrub .. => execDramPatrolScrub_kept (.refl s)
  | .sramScrub .. => execSramScrub_kept (.refl s)
  | .dmaRunStart => execDmaRunStart_kept (.refl s)
  | .dmaRunComplete => execDmaRunComplete_kept (.refl s)
  | .fifoBankClose .. => execFifoBankClose_kept (.refl s)
  | .streamDrop .. => execStreamDrop_kept (.refl s)
  | .streamProgress .. => execStreamProgress_kept (.refl s)
  | .beatFrameReceived .. => execBeatFrameReceived_kept (.refl s)
  | .digestWaitExpire => execDigestWaitExpire_kept (.refl s)
  | .dovetailPromoted => execDovetailPromoted_kept (.refl s)
  | .joinLimitExpire => execJoinLimitExpire_kept (.refl s)
  | .pairJoinStart .. => execPairJoinStart_kept (.refl s)
  | .eventFlush => execEventFlush_kept (.refl s)
  | .counterWindowEnd => execCounterWindowEnd_kept (.refl s)
  | .snapshotWrite => execSnapshotWrite_kept (.refl s)
  | .opHoursTick => execOpHoursTick_kept (.refl s)
  | .enhAckWaitExpire .. => execEnhAckWaitExpire_kept (.refl s)
  | .phrDecoded .. => execPhrDecoded_kept (.refl s)
  | .plcHeaderDecoded .. => execPlcHeaderDecoded_kept (.refl s)
  | .resetNow => execResetNow_kept (.refl s)
  | .funcResetComplete .. => execFuncResetComplete_kept (.refl s)

/-- Settles O6: every command keeps the clock that `clockAfter` gives (assumption log 13). -/
theorem onlyBeatBoundaryAdvancesTheBeat : Obligations.OnlyBeatBoundaryAdvancesTheBeat := by
  intro c s t ht
  rw [(exec_kept c s t ht).ticks]
  cases c with
  | beatBoundary i =>
    unfold clockAfter hasPower
    cases hm : s.pwr.mode <;> simp [State.ticked]
  | _ => rfl
end Sys2Proof.Machine
end

section
/-! BEAT_BOUNDARY: its step of time and the end of a frame (01 R9, R10, R13; 03 R110, R113, R114). -/
namespace Sys2Proof.Machine

/-! What logging an event leaves alone, by the parts of the state. -/

section
variable {c : Nat} {d : List Byte} {s : State}

@[simp] theorem logEv_beat : (logEv c d s).beat = s.beat := by rw [logEv_logged.rest]
@[simp] theorem logEv_plumb : (logEv c d s).plumb = s.plumb := by rw [logEv_logged.rest]
@[simp] theorem logEv_batt : (logEv c d s).batt = s.batt := by rw [logEv_logged.rest]
@[simp] theorem logEv_den : (logEv c d s).den = s.den := by rw [logEv_logged.rest]
@[simp] theorem logEv_pwr : (logEv c d s).pwr = s.pwr := by rw [logEv_logged.rest]
@[simp] theorem logEv_legal : (logEv c d s).legal = s.legal := by rw [logEv_logged.rest]
@[simp] theorem logEv_disp : (logEv c d s).disp = s.disp := by rw [logEv_logged.rest]
@[simp] theorem logEv_ftl : (logEv c d s).ftl = s.ftl := by rw [logEv_logged.rest]
@[simp] theorem logEv_ledger : (logEv c d s).ledger = s.ledger := by rw [logEv_logged.rest]

end

/-! The step of time at a boundary (01 R9, R10; 03 R110, R113, R114). -/

section
variable {s : State}

/-- Holding the offsets against ADJ_LIMIT leaves whatever logging an event and writing a flag leave. -/
theorem checkDiverged_keeps {α : Type} {part : State → α} (hlog : ∀ c d t, part (logEv c d t) = part t)
    (hwr : ∀ f b t, part (wrB f b t) = part t) : part (checkDiverged s) = part s := by
  unfold checkDiverged
  extract_lets lim l d s1
  clear_value l d
  have h1 : part s1 = part s := by
    unfold s1
    split
    · rw [hlog, hwr]
    · rw [hwr]
  split
  · rw [hlog, hwr, h1]
  · rw [hwr, h1]

@[simp] theorem checkDiverged_beat : (checkDiverged s).beat = s.beat :=
  checkDiverged_keeps (fun _ _ _ => logEv_beat) (fun _ _ _ => wrB_beat)
@[simp] theorem checkDiverged_plumb : (checkDiverged s).plumb = s.plumb :=
  checkDiverged_keeps (fun _ _ _ => logEv_plumb) (fun _ _ _ => wrB_plumb)
@[simp] theorem checkDiverged_batt : (checkDiverged s).batt = s.batt :=
  checkDiverged_keeps (fun _ _ _ => logEv_batt) (fun _ _ _ => wrB_batt)

@[simp] theorem divergeCheck_beat : (divergeCheck s).beat = s.beat := by unfold divergeCheck; split <;> simp
@[simp] theorem divergeCheck_plumb : (divergeCheck s).plumb = s.plumb := by unfold divergeCheck; split <;> simp
@[simp] theorem divergeCheck_batt : (divergeCheck s).batt = s.batt := by unfold divergeCheck; split <;> simp

@[simp] theorem slew_beat : (slew s).beat = s.beat := by unfold slew; split <;> rfl
@[simp] theorem slew_chain : (slew s).plumb.chain = s.plumb.chain := by unfold slew; split <;> rfl
@[simp] theorem slew_batt : (slew s).batt = s.batt := by unfold slew; split <;> rfl

@[simp] theorem trimBeat_plumb : (trimBeat s).plumb = s.plumb := by
  unfold trimBeat
  repeat' split
  all_goals simp
@[simp] theorem trimBeat_batt : (trimBeat s).batt = s.batt := by
  unfold trimBeat
  repeat' split
  all_goals simp

theorem trimFor_bounds (err : Int) : -15 ≤ trimFor err ∧ trimFor err ≤ 15 := by
  unfold trimFor clampI; omega

/-- The trim alone changes, and stays as it is or within 15 cycles (01 R10). -/
theorem trimBeat_beat : ∃ tr, (trimBeat s).beat = { s.beat with trim := tr } ∧
    (tr = s.beat.trim ∨ -15 ≤ tr ∧ tr ≤ 15) := by
  have hb := trimFor_bounds s.beat.err
  unfold trimBeat
  split
  · exact ⟨_, rfl, .inl rfl⟩
  split
  · split
    · exact ⟨_, rfl, .inr hb⟩
    · exact ⟨_, rfl, .inl rfl⟩
  split
  · exact ⟨s.beat.trim, by simp, .inl rfl⟩
  · exact ⟨_, rfl, .inr hb⟩

@[simp] theorem tickCounters_beat : (tickCounters s).beat = s.beat := rfl
@[simp] theorem tickCounters_plumb : (tickCounters s).plumb = s.plumb := rfl
@[simp] theorem tickCounters_batt : (tickCounters s).batt = s.batt := rfl

/-- Of a loaded beat number the next follows (01 R9, R562). -/
theorem advanceBeat_loaded (h : s.beat.loaded = true) : ∃ e, (advanceBeat s).beat =
    { s.beat with number := s.beat.number + 1, ticks := s.beat.ticks + 1, err := e } :=
  ⟨_, if_pos h⟩

/-- Before the beat number is loaded the provisional count advances (01 R562). -/
theorem advanceBeat_provisional (h : s.beat.loaded = false) : (advanceBeat s).beat =
    { s.beat with prov := s.beat.prov + 1, ticks := s.beat.ticks + 1 } :=
  if_neg (by simp [h])

@[simp] theorem advanceBeat_trim : (advanceBeat s).beat.trim = s.beat.trim := by unfold advanceBeat; dsimp only; split <;> rfl

theorem timeStep_beat : ∃ tr, (timeStep s).beat = { (advanceBeat (tickCounters s)).beat with trim := tr } ∧
    (tr = s.beat.trim ∨ -15 ≤ tr ∧ tr ≤ 15) := by
  simpa [timeStep] using trimBeat_beat (s := advanceBeat (tickCounters s))

theorem timeStep_chain : (timeStep s).plumb.chain =
    s.plumb.chain + beatLen s.beat.trim + beatLen s.beat.trim * s.plumb.rate / 1000000000 := by
  simp [timeStep, advanceBeat]

theorem timeStep_batt : (timeStep s).batt =
    { s.batt with legal := s.batt.legal + 125000, slot := s.batt.slot + 125000 } := by
  simp [timeStep, advanceBeat]

end

/-! The end of a frame (01 R13). -/

theorem takeReserve_toSeal {l : List Entry} {s : State} : (takeReserve l s).ledger.toSeal = s.ledger.toSeal := by
  induction l generalizing s with
  | nil => rfl
  | cons e l ih => unfold takeReserve; split <;> exact ih

theorem takeWaiting_toSeal {l : List Entry} {s : State} : (takeWaiting l s).ledger.toSeal = s.ledger.toSeal := by
  induction l generalizing s with
  | nil => rfl
  | cons e l ih =>
    unfold takeWaiting
    split
    · exact ih
    · exact takeReserve_toSeal

theorem closeOpen_toSeal {s : State} (h : s.ledger.openE ≠ []) :
    (closeOpen s).ledger.toSeal = s.ledger.toSeal ++ [s.ledger.openE] := by
  unfold closeOpen
  rw [if_neg (by simpa using h)]
  exact takeWaiting_toSeal

theorem hasPower_eq_false {s : State} : hasPower s = false ↔ s.pwr.mode = .off ∨ s.pwr.mode = .dormant := by
  unfold hasPower
  cases s.pwr.mode <;> simp

theorem exec_beatBoundary_unpowered {i : BeatIn} {s : State} (h : hasPower s = false) :
    exec (.beatBoundary i) s = .next s := by
  show execBeatBoundary i s = _
  simp [execBeatBoundary, h]

theorem exec_beatBoundary_powered {i : BeatIn} {s : State} (h : hasPower s = true) :
    exec (.beatBoundary i) s = .next (let u := radioWatch (endBeat s)
      if u.pwr.mode = .holdup then holdupBeat i u else beginBeat i u) := by
  show execBeatBoundary i s = _
  simp [execBeatBoundary, h]

/-- Settles O29: the boundary by the presence of main power, its step of time part by part, and its frame end. -/
theorem beatBoundaryCompletes : Obligations.BeatBoundaryCompletes := by
  refine ⟨?unpowered, ?powered, ?time, ?frame⟩
  case unpowered => exact fun i s h => exec_beatBoundary_unpowered (hasPower_eq_false.mpr h)
  case powered =>
    intro i s hoff hdormant u t
    have hp : hasPower s = true := by
      rw [← Bool.not_eq_false, hasPower_eq_false]
      exact not_or.mpr ⟨hoff, hdormant⟩
    have ht : exec (.beatBoundary i) s = .next t := exec_beatBoundary_powered hp
    have hk := execBeatBoundary_kept (.refl s) t ht
    rw [hp, if_pos rfl] at hk
    exact ⟨ht, hk.ticks⟩
  case time =>
    intro s t len
    obtain ⟨tr, hbeat, htrim⟩ := timeStep_beat (s := s)
    have hbatt : t.batt = _ := timeStep_batt
    have trim : -15 ≤ s.beat.trim → s.beat.trim ≤ 15 → -15 ≤ tr ∧ tr ≤ 15 := by omega
    rw [hbatt]
    cases hl : s.beat.loaded with
    | true =>
      obtain ⟨e, ha⟩ := advanceBeat_loaded (s := tickCounters s) hl
      rw [ha, tickCounters_beat] at hbeat
      rw [show t.beat = _ from hbeat]
      exact ⟨rfl, hl, fun _ => ⟨rfl, rfl⟩, nofun, timeStep_chain, rfl, rfl, trim⟩
    | false =>
      have ha := advanceBeat_provisional (s := tickCounters s) hl
      rw [ha, tickCounters_beat] at hbeat
      rw [show t.beat = _ from hbeat]
      exact ⟨rfl, hl, nofun, fun _ => ⟨rfl, rfl⟩, timeStep_chain, rfl, rfl, trim⟩
  case frame =>
    intro s hmode hloaded hopen
    have hcount : frameCount s = s.beat.number := by simp [frameCount, hloaded]
    unfold frameEnd
    rw [if_neg hmode, hcount]
    exact ⟨fun h => by rw [if_pos h]; exact closeOpen_toSeal hopen, fun h => if_neg h⟩
end Sys2Proof.Machine
end

section
/-! Which fields an operation may write, and the Den's budget of a beat (01 R15 to R26). -/
namespace Sys2Proof.Machine

/-! Which fields an operation may write. -/

/-- From `s` to `t` no field but those that `w` names changed its value, and a tidy state stays tidy. -/
structure Wrote (w : Fld → Prop) (s t : State) : Prop where
  reads : s.tidy = true → ∀ f i, f.known → ¬ w f → rdI t f i = rdI s f i
  tidy : s.tidy = true → t.tidy = true

/-- The pages of the recorder and of the counters, which logging an event may write. -/
abbrev logPages (f : Fld) : Prop := f.page = 0x51 ∨ f.page = 0x52


section
variable {w : Fld → Prop} {s t u : State}

theorem Wrote.refl : Wrote w s s := ⟨fun _ _ _ _ _ => rfl, id⟩

theorem Wrote.trans (h : Wrote w s t) (g : Wrote w t u) : Wrote w s u :=
  ⟨fun x f i hf hw => (g.reads (h.tidy x) f i hf hw).trans (h.reads x f i hf hw), fun x => g.tidy (h.tidy x)⟩

theorem Wrote.same (hr : t.regs = s.regs) (hm : t.mem = s.mem) : Wrote w s t :=
  ⟨fun _ _ _ _ _ => rdI_congr hr, fun x => by simpa only [State.tidy, hr, hm] using x⟩

theorem wrI_tidy {f : Fld} {i v : Nat} (hf : f.known) (x : s.tidy = true) : (wrI f i v s).tidy = true := by
  simp only [State.tidy, Bool.and_eq_true] at x ⊢
  exact ⟨wrI_regsWf hf x.1, x.2⟩

theorem wr_tidy {f : Fld} {v : Nat} (hf : f.known) (x : s.tidy = true) : (wr f v s).tidy = true := wrI_tidy hf x

theorem Wrote.wrI {f : Fld} {i v : Nat} (hf : f.known) (hw : w f) (h : Wrote w s t) : Wrote w s (wrI f i v t) := by
  refine h.trans ⟨fun x g j hg hn => rdI_wrI_other hf hg ?_ x, wrI_tidy hf⟩
  by_contra hne
  simp only [ne_eq, not_or, not_not] at hne
  exact hn (field_ext hf hg hne.1 hne.2.1 ▸ hw)

theorem Wrote.logEv {c : Nat} {d : List Byte} (hp : ∀ f, logPages f → w f) (h : Wrote w s t) :
    Wrote w s (logEv c d t) :=
  h.trans ⟨fun x f i hf hw => logEv_logged.regs x f i hf (fun e => hw (hp f (.inl e))) (fun e => hw (hp f (.inr e))),
    logEv_logged.tidy⟩

theorem Wrote.rd {f : Fld} (h : Wrote w s t) (x : s.tidy = true) (hf : f.known) (hw : ¬ w f) : rd t f = rd s f :=
  h.reads x f 0 hf hw

theorem b2n_decide {p : Prop} [Decidable p] : b2n (decide p) = if p then 1 else 0 := by
  by_cases h : p <;> simp [b2n, h]

theorem tidy_den (d : DenSt) (s : State) : State.tidy { s with den := d } = s.tidy := rfl

theorem rd_wr_self {f : Fld} {v : Nat} (x : s.tidy = true) : Machine.rd (wr f v s) f = v % 2 ^ f.width := by
  simp only [State.tidy, regsWf, Bool.and_eq_true] at x
  exact rdI_wrI_self x.1.1

end

/-! The Den's budget (01 R15 to R26). -/

section
variable {s t : State}

theorem senseOne_wrote {med x : Int} {n : Nat} : Wrote logPages s (senseOne med n x s) := by
  unfold senseOne
  dsimp only
  split
  · exact .same rfl rfl
  · exact .logEv (fun _ => id) (.same rfl rfl)

theorem senseAll_wrote {temps : List Int} : Wrote logPages s (senseAll temps s) := by
  unfold senseAll
  generalize List.range 6 = l
  generalize medianI (temps.take 6) = med
  induction l generalizing s with
  | nil => exact .refl
  | cons n l ih => exact senseOne_wrote.trans ih

theorem sensorsLost_wrote : Wrote logPages s (sensorsLost s) := by
  unfold sensorsLost
  split
  · split
    · exact .refl
    · exact .logEv (fun _ => id) (.same rfl rfl)
  · exact .same rfl rfl

/-- The state of the sensors after the readings of a beat, on which the Den's results rest (01 R23, R24). -/
def sensed (temps : List Int) (s : State) : State := sensorsLost (senseAll temps s)

theorem sensed_wrote {temps : List Int} : Wrote logPages s (sensed temps s) := senseAll_wrote.trans sensorsLost_wrote

theorem Wrote.eCap_eq (h : Wrote logPages s t) (x : s.tidy = true) : eCap t = eCap s := by
  simp only [eCap, h.rd x P04.POWER_CAP_known (by decide)]

theorem Wrote.baseLoads_eq (h : Wrote logPages s t) (x : s.tidy = true) : baseLoads t = baseLoads s := by
  have hub : hubRole t = hubRole s := by unfold hubRole; rw [h.rd x P01.ROLE_ACTIVE_known (by decide)]
  have radio : radioOn t = radioOn s := by unfold radioOn rdB; rw [hub, h.rd x P01.RADIO_EN_known (by decide)]
  have plc : plcOn t = plcOn s := by unfold plcOn rdB; rw [hub, h.rd x P01.PLC_EN_known (by decide)]
  have metro : metroOn t = metroOn s := by unfold metroOn rdB; rw [hub, h.rd x P01.METRO_EN_known (by decide)]
  unfold baseLoads
  rw [radio, plc, metro, h.rd x P42.CH0_GIB_known (by decide), h.rd x P42.CH1_GIB_known (by decide)]

theorem Wrote.eMin_eq (h : Wrote logPages s t) (x : s.tidy = true) : eMin t = eMin s := by
  simp only [eMin, h.baseLoads_eq x]

theorem eThermal_of_few {hot : Option Int} (h : validSensors s < 4) : eThermal s hot = eMin s := if_pos h

theorem eThermal_of_cool {x : Int} (h : 4 ≤ validSensors s) (hx : x < (rd s P04.T_KNEE : Int) - 3) :
    eThermal s (some x) = eCap s := by
  simp [eThermal, Nat.not_lt.mpr h, hx]

/-- From 108 °C the derating curve is at e_min (01 R24). -/
theorem curve_of_hot {x : Int} (hk : rd s P04.T_KNEE < 108) (hx : 108 ≤ x) : curve s x = eMin s := by
  unfold curve
  rw [if_neg (by omega), if_pos hx]

theorem eThermal_of_hot {x : Int} (h : 4 ≤ validSensors s) (hk : rd s P04.T_KNEE < 108) (hx : 108 ≤ x) :
    eThermal s (some x) ≤ eMin s := by
  unfold eThermal
  rw [if_neg (Nat.not_lt.mpr h)]
  simp only [curve_of_hot hk hx]
  rw [if_neg (by omega)]
  split <;> omega

theorem eDisc_of_trip {x : Int} {e : Nat} (hx : 110 < x) : eDisc s (some x) e = 0 := if_pos hx

/-- What is granted leaves room for the static estimate, the base loads and the commit reserve (01 R15). -/
theorem eDisc_room {hot : Option Int} {e : Nat} :
    eDisc s hot e = 0 ∨ eDisc s hot e + eStatic hot + baseLoads s + 24 ≤ e := by
  unfold eDisc
  split
  · split <;> omega
  · omega

/-- The Den's results after a beat's readings, but for the run of beats at 110 °C (01 R15, R24). -/
def budgetDen (u : State) (hot : Option Int) (hotRun : Nat) : DenSt :=
  let eb := min (eCap u) (eThermal u hot)
  { u.den with eBeat := eb, eDisc := eDisc u hot eb, eThermal := eThermal u hot,
               derating := decide (eThermal u hot < eCap u), tHot := hot, hotRun := hotRun }

theorem denBudget_den {temps : List Int} :
    ∃ n, (denBudget temps s).den = budgetDen (sensed temps s) (tHot temps (sensed temps s)) n := by
  unfold denBudget
  extract_lets u hot th eb low hotRun
  simp only [wrB_den, wr_den, wrS_den]
  exact ⟨hotRun, rfl⟩

theorem denBudget_trimThermal {temps : List Int} (x : s.tidy = true) :
    rd (denBudget temps s) P04.TRIM_THERMAL =
      b2n (decide (eThermal (sensed temps s) (tHot temps (sensed temps s)) < eCap (sensed temps s))) := by
  have tidy : (sensed temps s).tidy = true := sensed_wrote.tidy x
  unfold denBudget wrB wrS
  extract_lets u hot th eb low hotRun
  rw [rd_wr_self (wr_tidy P04.TH_VALID_known (wr_tidy P04.T_HOT_known ((tidy_den _ u).trans tidy)))]
  exact Nat.mod_eq_of_lt b2n_lt

end

/-- Settles O30: the budget's parts are those of the state with this beat's readings, whose settings are the old ones. -/
theorem denBudgetOfABeat : Obligations.DenBudgetOfABeat := by
  intro temps s x t
  have settings : Wrote logPages s (sensed temps s) := sensed_wrote
  rw [← settings.eCap_eq x, ← settings.eMin_eq x, ← settings.baseLoads_eq x, ← settings.rd x P04.T_KNEE_known (by decide)]
  have htrim : rd t P04.TRIM_THERMAL = _ := denBudget_trimThermal x
  obtain ⟨n, hden⟩ : ∃ n, t.den = _ := denBudget_den
  rw [htrim, validSensors, hden]
  generalize tHot temps (sensed temps s) = hot
  generalize sensed temps s = u
  refine ⟨rfl, b2n_decide, eThermal_of_few, ?_, ?_, ?_, eDisc_room⟩
  · rintro h y rfl hx
    exact eThermal_of_cool h hx
  · rintro h y rfl hk hx
    exact eThermal_of_hot h hk hx
  · rintro y rfl hx
    exact eDisc_of_trip hx
end Sys2Proof.Machine
end

section
/-! The Den's hold-up results of a beat and acceptance (01 R26 to R32). -/
namespace Sys2Proof.Machine

section
variable {s t : State} {p e20 : Nat}

theorem holdAccept_pwr : (holdAccept p e20 s).pwr = s.pwr := by
  unfold holdAccept
  split <;> split
  · exact wr_pwr
  · rfl
  · rw [logEv_pwr, wr_pwr]
  · rfl

/-- The energy and page pairs of the beat stand. -/
theorem holdAccept_den : (holdAccept p e20 s).den.e20 = s.den.e20 ∧ (holdAccept p e20 s).den.pairsP = s.den.pairsP := by
  unfold holdAccept
  split <;> split
  · rw [wr_den]; exact ⟨rfl, rfl⟩
  · exact ⟨rfl, rfl⟩
  · rw [logEv_den, wr_den]; exact ⟨rfl, rfl⟩
  · exact ⟨rfl, rfl⟩

theorem holdAccept_tidy (x : s.tidy = true) : (holdAccept p e20 s).tidy = true := by
  unfold holdAccept
  split <;> split
  · exact wr_tidy P04.ACCEPT_STOPPED_known ((tidy_den _ s).trans x)
  · exact x
  · exact logEv_logged.tidy (wr_tidy P04.ACCEPT_STOPPED_known ((tidy_den _ s).trans x))
  · exact x

/-- Acceptance is open after a beat just when the node is configured, can flush the page pairs needed, and, if acceptance
was stopped, has regained its energy (01 R28, R32). -/
theorem holdAccept_open (x : s.tidy = true) : rd (holdAccept p e20 s) P04.ACCEPT_STOPPED = 0 ↔
    nodeAbsent s = false ∧ pNeed s ≤ p ∧ (rd s P04.ACCEPT_STOPPED ≠ 0 → stopLevel s * 11 ≤ e20 * 10) := by
  unfold holdAccept rdB
  by_cases hstop : rd s P04.ACCEPT_STOPPED = 0
  · simp only [hstop, bne_self_eq_false, Bool.false_eq_true, if_false, ne_eq, not_true_eq_false, false_implies, and_true]
    split
    next hclose =>
      rw [show rd (logEv _ _ _) _ = _ from
        (Wrote.logEv (w := logPages) (fun _ => id) .refl).rd (wr_tidy P04.ACCEPT_STOPPED_known ((tidy_den _ s).trans x))
          P04.ACCEPT_STOPPED_known (by decide), rd_wr_self ((tidy_den _ s).trans x)]
      refine iff_of_false (by decide) fun ⟨hnode, hp⟩ => ?_
      rcases hclose with h | h
      · omega
      · simp [hnode] at h
    next hclose =>
      rw [not_or, Bool.not_eq_true, Nat.not_lt] at hclose
      exact iff_of_true hstop hclose.symm
  · simp only [bne_iff_ne.mpr hstop, if_true, ne_eq, hstop, not_false_eq_true, true_implies]
    split
    next hopen =>
      rw [rd_wr_self ((tidy_den _ s).trans x)]
      exact iff_of_true (by decide) hopen
    next hopen => exact iff_of_false hstop hopen

theorem trimBits_iff : trimBits s = true ↔ rd s P04.TRIM_THERMAL ≠ 0 ∨ rd s P04.TRIM_HOLDUP ≠ 0 := by
  simp [trimBits, rdB]

/-- RUN and TRIM follow the two bits; no other state changes (01 R26). -/
theorem trimMode_pwr : (trimMode s).pwr =
    if running s = true then { s.pwr with mode := if trimBits s then .trim else .run } else s.pwr := by
  unfold trimMode
  split <;> rfl

theorem trimMode_den : (trimMode s).den = s.den := by
  unfold trimMode
  split <;> rfl

theorem trimMode_rd {f : Fld} : rd (trimMode s) f = rd s f := by
  unfold trimMode
  split <;> rfl

theorem eHold20_le {v : Nat} : eHold20 s v ≤ 2000 * 20000000 := by
  unfold eHold20 mJ20
  dsimp only
  split
  · exact Nat.zero_le _
  · exact Nat.min_le_right _ _

/-- The energy that the lowest sample of a beat gives. -/
def nodeEnergy (sense : List Nat) (s : State) : Nat := eHold20 s ((sense.min?).getD 0)

/-- The page pairs that this energy can flush. -/
def nodePairs (sense : List Nat) (s : State) : Nat := pagePairs s (eAvail s (nodeEnergy sense s))

/-- The state with the hold-up results of a beat, before acceptance is held against them. -/
def measured (sense : List Nat) (s : State) : State :=
  let p := nodePairs sense s
  let m := max 2 (p / max 1 (rd s P04.MAP_SHARE))
  let avg := s.den.nodeAvg ++ [if sense.isEmpty then 0 else sense.sum / sense.length]
  wr P04.LIMIT_M m (wr P04.LIMIT_L (p - m) (wr P04.E_HOLD (nodeEnergy sense s / mJ20)
    { s with den := { s.den with e20 := nodeEnergy sense s, pairsP := p, nodeAvg := avg.drop (avg.length - 8) } }))

def accepting (sense : List Nat) (s : State) : State := holdAccept (nodePairs sense s) (nodeEnergy sense s) (measured sense s)

theorem denHoldup_eq {sense : List Nat} : denHoldup sense s =
    trimMode (wrB P04.TRIM_HOLDUP (trimHoldup (accepting sense s)) (accepting sense s)) := rfl

theorem measured_wrote {sense : List Nat} :
    Wrote (· ∈ [P04.LIMIT_M, P04.LIMIT_L, P04.E_HOLD]) s (measured sense s) := by
  refine .wrI P04.LIMIT_M_known (by decide) (.wrI P04.LIMIT_L_known (by decide) (.wrI P04.E_HOLD_known (by decide) ?_))
  exact .same rfl rfl

theorem measured_den {sense : List Nat} : ∃ l, (measured sense s).den =
    { s.den with e20 := nodeEnergy sense s, pairsP := nodePairs sense s, nodeAvg := l } := ⟨_, rfl⟩

theorem measured_pwr {sense : List Nat} : (measured sense s).pwr = s.pwr := rfl

theorem measured_pNeed {sense : List Nat} : pNeed (measured sense s) = pNeed s := rfl

theorem measured_stopLevel {sense : List Nat} (x : s.tidy = true) : stopLevel (measured sense s) = stopLevel s := by
  have h : Wrote _ s (measured sense s) := measured_wrote
  obtain ⟨l, hden⟩ : ∃ l, (measured sense s).den = _ := measured_den
  unfold stopLevel statedMin
  rw [hden, measured_pNeed, h.rd x P04.E_FIXED_known (by decide), h.rd x P04.E_PAGE_known (by decide),
    h.rd x P04.MARGIN_known (by decide)]

theorem nodeAbsent_eq_false : nodeAbsent s = false ↔ rd s P04.HOLD_C ≠ 0 ∧ rd s P04.HOLD_DIV ≠ 0 := by
  simp [nodeAbsent]

theorem measured_nodeAbsent {sense : List Nat} (x : s.tidy = true) : nodeAbsent (measured sense s) = nodeAbsent s := by
  have h : Wrote _ s (measured sense s) := measured_wrote
  unfold nodeAbsent
  rw [h.rd x P04.HOLD_C_known (by decide), h.rd x P04.HOLD_DIV_known (by decide)]

/-- Acceptance after a beat's hold-up results, by the state before them (01 R28, R32). -/
theorem denHoldup_open {sense : List Nat} (x : s.tidy = true) : rd (denHoldup sense s) P04.ACCEPT_STOPPED = 0 ↔
    nodeAbsent s = false ∧ pNeed s ≤ nodePairs sense s ∧
      (rd s P04.ACCEPT_STOPPED ≠ 0 → stopLevel s * 11 ≤ nodeEnergy sense s * 10) := by
  have h : Wrote _ s (measured sense s) := measured_wrote
  have tidy : (accepting sense s).tidy = true := holdAccept_tidy (h.tidy x)
  have trim : Wrote (· ∈ [P04.TRIM_HOLDUP]) (accepting sense s)
      (wrB P04.TRIM_HOLDUP (trimHoldup (accepting sense s)) (accepting sense s)) :=
    .wrI P04.TRIM_HOLDUP_known (by decide) .refl
  rw [denHoldup_eq, trimMode_rd, trim.rd tidy P04.ACCEPT_STOPPED_known (by decide), accepting, holdAccept_open (h.tidy x),
    measured_nodeAbsent x, measured_pNeed, measured_stopLevel x, h.rd x P04.ACCEPT_STOPPED_known (by decide)]

theorem denHoldup_den {sense : List Nat} :
    (denHoldup sense s).den.e20 = nodeEnergy sense s ∧ (denHoldup sense s).den.pairsP = nodePairs sense s := by
  obtain ⟨l, hden⟩ : ∃ l, (measured sense s).den = _ := measured_den
  have hacc := holdAccept_den (p := nodePairs sense s) (e20 := nodeEnergy sense s) (s := measured sense s)
  rw [hden] at hacc
  rw [denHoldup_eq, trimMode_den, wrB_den]
  exact hacc

theorem denHoldup_pwr {sense : List Nat} : (denHoldup sense s).pwr =
    if running s = true then { s.pwr with mode := if trimBits (denHoldup sense s) then .trim else .run } else s.pwr := by
  have hp : (wrB P04.TRIM_HOLDUP (trimHoldup (accepting sense s)) (accepting sense s)).pwr = s.pwr := by
    rw [wrB_pwr, accepting, holdAccept_pwr, measured_pwr]
  have hbits : trimBits (denHoldup sense s) = trimBits (wrB P04.TRIM_HOLDUP (trimHoldup (accepting sense s)) (accepting sense s)) := by
    rw [denHoldup_eq, trimBits, trimBits, rdB, rdB, rdB, rdB, trimMode_rd, trimMode_rd]
  rw [hbits, denHoldup_eq, trimMode_pwr, hp, running, running, hp]

end

/-- Settles O31: acceptance by `denHoldup_open`, and the mode by the two bits of the state that results. -/
theorem holdupClosesAcceptance : Obligations.HoldupClosesAcceptance := by
  intro sense s x t
  obtain ⟨he, hpairs⟩ : t.den.e20 = _ ∧ t.den.pairsP = _ := denHoldup_den
  have hopen : rd t P04.ACCEPT_STOPPED = 0 ↔ _ := denHoldup_open x
  have hpwr : t.pwr = _ := denHoldup_pwr
  rw [nodeAbsent_eq_false] at hopen
  rw [he, hpairs]
  refine ⟨eHold20_le, ?_, ?_, ?_, ?_, ?_⟩
  · intro h
    obtain ⟨⟨hc, hd⟩, hp, -⟩ := hopen.mp h
    exact ⟨hp, hc, hd⟩
  · exact fun h hs => (hopen.mp h).2.2 hs
  · exact fun hs hp hc hd => hopen.mpr ⟨⟨hc, hd⟩, hp, fun h => absurd hs h⟩
  · intro hrun
    rw [hpwr, if_pos hrun]
    rw [← trimBits_iff]
    cases trimBits t <;> simp
  · intro hrun
    rw [hpwr, if_neg (by simp [hrun])]
end Sys2Proof.Machine
end

section
/-! The rows of 01 that stand between two boundaries: each acts when its condition holds, and else leaves the state. -/
namespace Sys2Proof.Machine

section
variable {s : State}

theorem exec_denSensorRestored {n : Fin 6} (hout : s.den.excluded.getD n.val false = true)
    (hrun : 8000 ≤ s.den.validRun.getD n.val 0) : exec (.denSensorRestored n) s =
      .next { s with den := { s.den with excluded := s.den.excluded.set n.val false } } :=
  if_pos ⟨hout, hrun⟩

theorem exec_denThermalTrip : exec .denThermalTrip s = .next (if 8 ≤ s.den.hotRun then declare .thermal s else s) := rfl

/-- The levels of the items deferred for energy in 8 beats of one run (01 R37). -/
def starvedLevels (s : State) : List Nat := (s.sett.queue.filter (fun i => decide (8 ≤ i.run))).map SettItem.level

theorem mem_starvedLevels {v : Nat} : v ∈ starvedLevels s ↔ ∃ i ∈ s.sett.queue, 8 ≤ i.run ∧ i.level = v := by
  simp [starvedLevels, and_assoc]

theorem exec_itemOwed {v : Nat} (h : (starvedLevels s).min? = some v) : exec .itemOwed s = .next { s with
    sett := { s.sett with queue := s.sett.queue.map (fun i =>
      { i with owed := i.owed || (decide (i.level = v) && decide (8 ≤ i.run)) }) } } := by
  show execItemOwed s = _
  unfold execItemOwed
  extract_lets l
  rw [show l.min? = some v from h]

theorem exec_itemOwed_of_none (h : starvedLevels s = []) : exec .itemOwed s = .next s := by
  show execItemOwed s = _
  unfold execItemOwed
  extract_lets l
  rw [show l = [] from h]
  rfl

theorem exec_holdAssert {n : Fin 32} (h : 384 ≤ sourceQueue s n.val) :
    exec (.holdAssert n) s = .next { s with sett.hold := s.sett.hold.set n.val true } :=
  congrArg Host.Outcome.next (if_pos h)

theorem exec_holdRelease {n : Fin 32} (h : sourceQueue s n.val ≤ 256) :
    exec (.holdRelease n) s = .next { s with sett.hold := s.sett.hold.set n.val false } :=
  congrArg Host.Outcome.next (if_pos h)

/-- A buffered command of sequence `q` has been held for GAP_LIMIT (02 R51). -/
def gapPassed (s : State) (q : Nat) (e : Early) : Bool := e.hdr.seq == q && decide (e.at_ + rd s P01.GAP_LIMIT * 8 ≤ s.now)

theorem exec_reorderGapExpire {n : Fin 16} {q : Nat} (h : ∃ e ∈ (sessAt s n.val).early, gapPassed s q e = true) :
    exec (.reorderGapExpire n q) s = .next { s with cmd := { s.cmd with
      dropGap := s.cmd.dropGap + 1,
      sess := s.cmd.sess.set n.val { sessAt s n.val with
        early := (sessAt s n.val).early.filter (fun e => !gapPassed s q e) } } } :=
  if_pos (List.any_eq_true.mpr h)

theorem exec_pendingReply {n : Fin 16} {q pc : Nat} {o : OpenCmd}
    (hfind : s.cmd.openC.find? (fun o => sessOf o.hdr == n.val && o.hdr.seq == q) = some o)
    (hdue : max o.at_ o.lastPending + rd s P01.REPLY_LIMIT * 8 ≤ s.now) :
    exec (.pendingReply n q pc) s = .next (sendReply o.hdr stPending (if pc ≤ 100 then pc else 0xFFFF) []
      { s with cmd := { s.cmd with
        openC := s.cmd.openC.map (fun c => if c.hdr == o.hdr then { c with lastPending := s.now } else c) } }) := by
  show execPendingReply n q pc s = _
  unfold execPendingReply
  rw [hfind]
  exact if_pos (decide_eq_true hdue)

end

/-- Settles O33: each row with its condition, from the equation of its meaning. -/
theorem beatAndSettEventsComplete : Obligations.BeatAndSettEventsComplete := by
  refine ⟨fun n s => exec_denSensorRestored, fun s h => ?_, fun s h => ?_, fun s h => ?_, fun s h => ?_,
    fun n s => exec_holdAssert, fun n s => exec_holdRelease, fun n q s => exec_reorderGapExpire,
    fun n q pc o s => exec_pendingReply⟩
  · rw [exec_denThermalTrip, if_pos h]
  · rw [exec_denThermalTrip, if_neg (Nat.not_le_of_lt h)]
  · obtain ⟨i, hi, hrun⟩ := h
    obtain ⟨v, hv⟩ : ∃ v, (starvedLevels s).min? = some v := by
      rw [← Option.isSome_iff_exists, List.isSome_min?_iff]
      exact List.ne_nil_of_mem (mem_starvedLevels.mpr ⟨i, hi, hrun, rfl⟩)
    obtain ⟨hmem, hleast⟩ := List.min?_eq_some_iff.mp hv
    exact ⟨_, v, exec_itemOwed hv, fun j hj hr => hleast _ (mem_starvedLevels.mpr ⟨j, hj, hr, rfl⟩),
      mem_starvedLevels.mp hmem, rfl⟩
  · refine exec_itemOwed_of_none (List.eq_nil_iff_forall_not_mem.mpr fun v hv => ?_)
    obtain ⟨i, hi, hrun, -⟩ := mem_starvedLevels.mp hv
    exact absurd hrun (Nat.not_le_of_lt (h i hi))
end Sys2Proof.Machine
end

section
/-! What the legal pair does of its own when an outage begins (11 R385 to R396). -/
namespace Sys2Proof.Machine

/-- From `s` to `t` the legal pair did work of its own: the power state stands, and no field of the Den's page was written
(11 R391, R396). -/
structure LegalWork (s t : State) : Prop where
  pwr : t.pwr = s.pwr
  wrote : Wrote (fun f => f.page ≠ 0x04) s t

section
variable {s0 s : State}

theorem LegalWork.refl : LegalWork s s := ⟨rfl, .refl⟩

theorem LegalWork.same {t : State} (h : LegalWork s0 s) (hp : t.pwr = s.pwr) (hr : t.regs = s.regs) (hm : t.mem = s.mem) :
    LegalWork s0 t := ⟨hp.trans h.pwr, h.wrote.trans (.same hr hm)⟩

theorem LegalWork.wr {f : Fld} {v : Nat} (hf : f.known) (hp : f.page ≠ 0x04) (h : LegalWork s0 s) :
    LegalWork s0 (wr f v s) := ⟨h.pwr, h.wrote.wrI hf hp⟩

theorem LegalWork.logEv {c : Nat} {d : List Byte} (h : LegalWork s0 s) : LegalWork s0 (logEv c d s) := by
  refine ⟨logEv_pwr.trans h.pwr, .logEv ?_ h.wrote⟩
  rintro f (hf | hf) <;> rw [hf] <;> decide

theorem LegalWork.modCore {f : LegalCore → LegalCore} (h : LegalWork s0 s) : LegalWork s0 (modCore f s) := h.same rfl rfl rfl

theorem LegalWork.postEntry {e : Entry} (h : LegalWork s0 s) : LegalWork s0 (postEntry e s) := by
  obtain ⟨l, hl⟩ := postEntry_eq (e := e) (s := s)
  rw [hl]
  exact h.same rfl rfl rfl

/-! Entries and the log (11 R378, R396). -/

theorem postOne_legalWork {x : LegalEnt} (h : LegalWork s0 s) : LegalWork s0 (postOne x s) := by
  unfold postOne
  extract_lets s1
  have h1 : LegalWork s0 s1 := h.modCore
  split
  · exact h1
  · exact h1.postEntry

theorem legalPost_legalWork (h : LegalWork s0 s) : LegalWork s0 (legalPost s) := by
  unfold legalPost
  split
  · have hs : LegalWork s0 { s with legal := { s.legal with fullLogged := false } } := h.same rfl rfl rfl
    generalize s.legal.core.queue.filter _ = l
    generalize { s with legal := { s.legal with fullLogged := false } } = t at hs
    induction l generalizing t with
    | nil => exact hs
    | cons x l ih => exact ih _ (postOne_legalWork hs)
  · exact h

theorem newEnt_legalWork {sub : Nat} {mid body : List Byte} (h : LegalWork s0 s) : LegalWork s0 (newEnt sub mid body s) := by
  unfold newEnt
  split
  · split
    · exact h
    · exact LegalWork.logEv (h.same rfl rfl rfl)
  · exact legalPost_legalWork h.modCore

theorem logRing_legalWork {code detail old new : Nat} (h : LegalWork s0 s) :
    LegalWork s0 (logRing code detail old new s) := by
  unfold logRing
  extract_lets l legal s1
  have h1 : LegalWork s0 s1 := LegalWork.wr P30.LOG_NEXT_known (by decide) (h.same rfl rfl rfl)
  split
  · exact h1.wr P30.LOG_OVERWRITTEN_known (by decide)
  · exact h1

theorem legalLog_legalWork {code detail old new : Nat} (h : LegalWork s0 s) :
    LegalWork s0 (legalLog code detail old new s) := newEnt_legalWork (logRing_legalWork h)

/-! Intervals, closures and rates (11 R385 to R391). -/

theorem takeSnapshot_legalWork (h : LegalWork s0 s) : LegalWork s0 (takeSnapshot s) := h.same rfl rfl rfl

theorem profileMultiple_legalWork {t : Nat} (h : LegalWork s0 s) : LegalWork s0 (profileMultiple t s) := h.same rfl rfl rfl

theorem profileClose_legalWork {t : Nat} {split outage : Bool} (h : LegalWork s0 s) :
    LegalWork s0 (profileClose t split outage s) := by
  unfold profileClose
  extract_lets c mid s1 add s2 s3
  have h1 : LegalWork s0 s1 := newEnt_legalWork h
  have h3 : LegalWork s0 s3 := h1.modCore.modCore
  split
  · exact h
  · split
    · exact h3
    · exact takeSnapshot_legalWork (profileMultiple_legalWork h3)

theorem startDemand_legalWork {t : Nat} {subs : List Nat} {pd : Bool} (h : LegalWork s0 s) :
    LegalWork s0 (startDemand t subs pd s) := h.modCore

theorem demandRecord_legalWork {t start w : Nat} {split outage : Bool} (h : LegalWork s0 s) :
    LegalWork s0 (demandRecord t start w split outage s) := newEnt_legalWork h.modCore

theorem demandClose_legalWork {t : Nat} {split outage : Bool} (h : LegalWork s0 s) :
    LegalWork s0 (demandClose t split outage s) := by
  unfold demandClose
  extract_lets c e n subs
  split
  · split
    · exact h.modCore
    · exact h
  split
  · exact startDemand_legalWork (demandRecord_legalWork h)
  split
  · exact startDemand_legalWork h
  · exact startDemand_legalWork (demandRecord_legalWork h)

theorem splitBoth_legalWork {t : Nat} (h : LegalWork s0 s) : LegalWork s0 (splitBoth t s) := by
  unfold splitBoth
  split
  · exact demandClose_legalWork (profileClose_legalWork h)
  · exact h

theorem closePeriod_legalWork {b : BillSet} (h : LegalWork s0 s) : LegalWork s0 (closePeriod b s) :=
  logRing_legalWork (LegalWork.wr P31.CLOSURES_known (by decide) (h.same rfl rfl rfl))

theorem runClosure_legalWork {t : Nat} {pd shifted : Bool} (h : LegalWork s0 s) :
    LegalWork s0 (runClosure t pd shifted s) := by
  unfold runClosure
  extract_lets b rec_ s1 s2
  have h2 : LegalWork s0 s2 := newEnt_legalWork (newEnt_legalWork (closePeriod_legalWork h))
  exact (h2.wr P31.LAST_SCHED_AT_known (by decide)).same rfl rfl rfl

theorem instantEnt_legalWork {kind sched r0 r1 p0 p1 : Nat} {pd shifted : Bool} (h : LegalWork s0 s) :
    LegalWork s0 (instantEnt kind sched pd shifted r0 r1 p0 p1 s) := newEnt_legalWork h

theorem evalRate_legalWork {t : Nat} {pd shifted always : Bool} (h : LegalWork s0 s) :
    LegalWork s0 (evalRate t pd shifted always s) := by
  unfold evalRate
  generalize rateAt s t = rp
  extract_lets r0 p0 legal s1
  have h1 : LegalWork s0 s1 := h.same rfl rfl rfl
  clear_value s1
  obtain ⟨r, p⟩ := rp
  dsimp only
  have h2 : LegalWork s0 (if r = r0 then s1 else demandClose t true pd s1) := by
    split
    · exact h1
    · exact demandClose_legalWork h1
  have h3 := (h2.wr (v := r) P31.RATE_NOW_known (by decide)).wr (v := p) P31.PATTERN_NOW_known (by decide)
  split
  · exact h3
  · exact instantEnt_legalWork h3

theorem activateCal_legalWork {t : Nat} {pd : Bool} (h : LegalWork s0 s) : LegalWork s0 (activateCal t pd s) := by
  unfold activateCal
  extract_lets r p legal s1
  have h1 : LegalWork s0 s1 :=
    LegalWork.wr P31.ACTIVE_CAL_ID_known (by decide) (LegalWork.wr P31.PENDING_AT_known (by decide) (h.same rfl rfl rfl))
  exact instantEnt_legalWork (legalLog_legalWork h1)

theorem doDue_legalWork {x : Nat × Nat} {pd : Bool} (h : LegalWork s0 s) : LegalWork s0 (doDue x pd s) := by
  unfold doDue
  split
  · exact profileClose_legalWork h
  split
  · exact demandClose_legalWork h
  split
  · exact runClosure_legalWork h
  · exact activateCal_legalWork h

theorem catchUp_legalWork {pd : Bool} {upTo fuel : Nat} (h : LegalWork s0 s) : LegalWork s0 (catchUp pd upTo fuel s) := by
  induction fuel generalizing s with
  | zero => exact h
  | succ fuel ih =>
    unfold catchUp
    extract_lets m
    split
    · split
      · exact ih (evalRate_legalWork h)
      · exact ih (doDue_legalWork h)
    · split
      · exact ih (evalRate_legalWork h)
      · exact h

/-- What the pair does when an outage begins: due work is caught up, the running intervals close (11 R392). -/
theorem outageStart_legalWork (h : LegalWork s0 s) : LegalWork s0 (outageStart s) := by
  unfold outageStart
  extract_lets legal t s1
  have h1 : LegalWork s0 s1 := splitBoth_legalWork (catchUp_legalWork h)
  split
  · exact h.same rfl rfl rfl
  · exact LegalWork.modCore (h1.same rfl rfl rfl)

theorem outageStart_lossSince : (outageStart s).legal.lossSince = true := by
  unfold outageStart
  dsimp only
  split <;> rfl

end
end Sys2Proof.Machine
end

section
/-! The journal's commits and the parts of the hold-up flush (13 R439; 17 R529). -/
namespace Sys2Proof.Machine

/-! The journal (13 R439). -/

/-- From `s` to `t` pages were taken and written and counters moved, and no record was posted or dropped. -/
structure Journalled (s t : State) : Prop where
  rest : t = { s with ftl := t.ftl, out := t.out, regs := t.regs, ctr := t.ctr }
  pend : t.ftl.pendRecs = s.ftl.pendRecs

section
variable {s0 s : State}

theorem Journalled.refl : Journalled s s := ⟨rfl, rfl⟩

theorem Journalled.of_parts {ftl : FtlSt} {out : List Out} {regs : List (Nat × Nat)} {ctr : CtrSt} (h : Journalled s0 s)
    (hp : ftl.pendRecs = s.ftl.pendRecs) : Journalled s0 { s with ftl := ftl, out := out, regs := regs, ctr := ctr } :=
  ⟨by rw [h.rest], hp.trans h.pend⟩

theorem Journalled.blks {l : List Blk} (h : Journalled s0 s) : Journalled s0 { s with ftl := { s.ftl with blks := l } } :=
  h.of_parts rfl

theorem Journalled.wr {f : Fld} {v : Nat} (h : Journalled s0 s) : Journalled s0 (wr f v s) := h.of_parts rfl

theorem Journalled.emit {o : Out} (h : Journalled s0 s) : Journalled s0 (emit o s) := h.of_parts rfl

theorem Journalled.count {a b n : Nat} (h : Journalled s0 s) : Journalled s0 (count a b n s) := by
  rw [count_counted.rest]
  exact h.of_parts rfl

theorem openBlk_journalled {c : Chan} {part : Nat} (h : Journalled s0 s) : Journalled s0 (openBlk c part s) := by
  unfold openBlk
  split
  · exact h.blks
  · split
    · exact h.blks
    · exact h

theorem takePage_journalled {c : Chan} {part : Nat} (h : Journalled s0 s) : Journalled s0 (takePage c part s).1 := by
  unfold takePage
  extract_lets t
  have ht : Journalled s0 t := by
    unfold t
    split
    · exact h
    · exact openBlk_journalled h
  split
  · exact ht
  · exact ht.blks

theorem journalCopy_journalled {c : Chan} {pkind wseq : Nat} {owner data : List Byte} (h : Journalled s0 s) :
    Journalled s0 (journalCopy c pkind wseq owner data s) := by
  have ht := takePage_journalled (c := c) (part := ptSystem) h
  unfold journalCopy
  generalize takePage c ptSystem s = r at ht
  obtain ⟨t, a⟩ := r
  cases a with
  | none => exact ht
  | some a => exact ht.emit

theorem writeCommit_journalled {l : List (Nat × (Nat × (List Byte × List Byte)))} (h : Journalled s0 s) :
    Journalled s0 (writeCommit l s) := by
  unfold writeCommit
  induction l generalizing s with
  | nil => exact h
  | cons x l ih => exact ih (journalCopy_journalled (journalCopy_journalled h))

theorem applyRec_journalled {r : JRec} (h : Journalled s0 s) : Journalled s0 (applyRec r s) := by
  unfold applyRec
  split
  · exact h.blks
  · exact h

theorem applyRecs_journalled {l : List JRec} (h : Journalled s0 s) :
    Journalled s0 (l.foldl (fun t r => applyRec r t) s) := by
  induction l generalizing s with
  | nil => exact h
  | cons r l ih => exact ih (applyRec_journalled h)

theorem ftlFields_journalled (h : Journalled s0 s) : Journalled s0 (ftlFields s) := h.wr.wr.wr

/-- A commit leaves no record pending, and what it changes is the store, its counters and what was sent. -/
theorem commitPending_done : (commitPending s).ftl.pendRecs = [] ∧
    commitPending s = { s with ftl := (commitPending s).ftl, out := (commitPending s).out,
                               regs := (commitPending s).regs, ctr := (commitPending s).ctr } := by
  by_cases hnone : s.ftl.pendRecs.isEmpty = true
  · have he : commitPending s = { s with ftl := { s.ftl with lastCommitAt := s.beat.ticks } } := if_pos hnone
    rw [he]
    exact ⟨List.isEmpty_iff.mp hnone, rfl⟩
  · unfold commitPending
    rw [if_neg hnone]
    extract_lets rs n l pages ftl s1
    have h := ftlFields_journalled (applyRecs_journalled (l := rs) (Journalled.count (a := 0x07) (b := 1) (n := pages)
      (Journalled.count (a := 0x07) (b := 0) (n := pages) (writeCommit_journalled
        (l := ((List.range pages).map (fun i => s.ftl.wseq + 1 + i)).zip l) (.refl (s := s1))))))
    exact ⟨h.pend, h.rest⟩

theorem commitPending_pwr : (commitPending s).pwr = s.pwr := by rw [commitPending_done.2]
theorem commitPending_legal : (commitPending s).legal = s.legal := by rw [commitPending_done.2]

/-! The parts of the hold-up flush (17 R529). -/

theorem flushEvents_logged : ∃ ev, Logged { s with ev := ev } (flushEvents s) :=
  ⟨_, evFields_logged.trans logDropped_logged⟩

theorem flushEvents_pwr : (flushEvents s).pwr = s.pwr := by
  obtain ⟨ev, h⟩ := flushEvents_logged (s := s)
  rw [h.rest]

theorem flushEvents_legal : (flushEvents s).legal = s.legal := by
  obtain ⟨ev, h⟩ := flushEvents_logged (s := s)
  rw [h.rest]

theorem derateNode_pwr : (derateNode s).pwr = s.pwr := by
  unfold derateNode
  dsimp only
  split
  · rfl
  · split
    · rw [logEv_pwr, wr_pwr]
    · rfl

theorem derateNode_legal : (derateNode s).legal = s.legal := by
  unfold derateNode
  dsimp only
  split
  · rfl
  · split
    · rw [logEv_legal, wr_legal]
    · rfl

theorem drivePins_eq {v : Nat} :
    ∃ d o, drivePins v s = { s with disp := { s.disp with driven := d }, out := o } := by
  unfold drivePins
  split
  · exact ⟨s.disp.driven, s.out, rfl⟩
  · exact ⟨v, _, rfl⟩

/-- Out of RUN, driving the outputs ends no release: OUT_STATE and the pins alone follow (11 R400, R402). -/
theorem driveOutputs_eq (h : running s = false) :
    ∃ r d o, driveOutputs s = { s with regs := r, disp := { s.disp with driven := d }, out := o } := by
  unfold driveOutputs
  simp only [h, Bool.false_eq_true, if_false]
  split
  · exact ⟨_, s.disp.driven, s.out, rfl⟩
  · obtain ⟨d, o, hd⟩ := drivePins_eq (v := outBits (wr P32.OUT_STATE (outBits s) s)) (s := wr P32.OUT_STATE (outBits s) s)
    exact ⟨_, d, o, hd⟩

end
end Sys2Proof.Machine
end

section
/-! What a power-on reset leaves (17 R526, R537). -/
namespace Sys2Proof.Machine

/-! What a power-on reset leaves of the pages and the media (08 R286, R287; 09 R322, R323; 17 R537). -/

theorem cGet_filter_of_dropped {α : Type} {k : Nat} {p : Nat × α → Bool} {l : List (Nat × α)} (h : ∀ v, p (k, v) = false) :
    cGet k (l.filter p) = none := by
  induction l with
  | nil => rfl
  | cons x l ih =>
    obtain ⟨k', v⟩ := x
    by_cases hp : p (k', v) = true
    · have hk : k ≠ k' := by
        rintro rfl
        rw [h v] at hp
        exact Bool.false_ne_true hp
      rw [List.filter_cons_of_pos hp]
      simp [cGet, hk, ih]
    · rw [List.filter_cons_of_neg hp]
      exact ih

/-- The media were reset from `s` to `t`: radio, powerline, zero crossings and downlink changed, and no field of the key
page was written. -/
structure MediaReset (s t : State) : Prop where
  rest : t = { s with regs := t.regs, radio := t.radio, plc := t.plc, tally := t.tally, dl := t.dl }
  wrote : Wrote (fun f => f.page ≠ 0x40) s t

section
variable {s0 s : State}

theorem MediaReset.refl : MediaReset s s := ⟨rfl, .refl⟩

theorem MediaReset.of_parts {radio : RadioSt} {plc : PlcSt} {tally : TallySt} {dl : DlSt} (h : MediaReset s0 s) :
    MediaReset s0 { s with radio := radio, plc := plc, tally := tally, dl := dl } :=
  ⟨by rw [h.rest], h.wrote.trans (.same rfl rfl)⟩

theorem MediaReset.wrI {f : Fld} {i v : Nat} (hf : f.known) (hp : f.page ≠ 0x40) (h : MediaReset s0 s) :
    MediaReset s0 (wrI f i v s) :=
  ⟨by rw [h.rest]; rfl, h.wrote.wrI hf hp⟩

theorem radioStop_mediaReset (h : MediaReset s0 s) : MediaReset s0 (radioStop s) := by
  unfold radioStop
  have hf : MediaReset s0 (radioFlush s) := h.of_parts
  generalize radioFlush s = t at hf
  generalize List.range 16 = l
  induction l generalizing t with
  | nil => exact hf
  | cons n l ih => exact ih _ (hf.wrI P20.STATE_known (by decide))

theorem plcStop_mediaReset (h : MediaReset s0 s) : MediaReset s0 (plcStop s) := by
  unfold plcStop
  have hf : MediaReset s0 (plcFlush s) := h.of_parts
  generalize plcFlush s = t at hf
  generalize List.range 3 = l
  induction l generalizing t with
  | nil => exact hf
  | cons n l ih => exact ih _ (hf.wrI P21.STATE_known (by decide))

theorem radioRetain_mediaReset {power : Bool} (h : MediaReset s0 s) : MediaReset s0 (radioRetain power s) := h.of_parts

theorem plcRetain_mediaReset {power : Bool} (h : MediaReset s0 s) : MediaReset s0 (plcRetain power s) := h.of_parts

theorem resetMedia_mediaReset {power : Bool} : MediaReset s (resetMedia power s) :=
  (plcStop_mediaReset (plcRetain_mediaReset (radioStop_mediaReset (radioRetain_mediaReset .refl)))).of_parts

/-! What the steps of a power-on reset leave of the beat, the display and the recorder. -/

theorem resetCore_disp : (resetCore s).disp = s.disp := rfl
theorem resetCore_pend : (resetCore s).ev.pend = s.ev.pend := rfl
theorem resetMemory_beat {power : Bool} : (resetMemory power s).beat = s.beat := rfl
theorem resetMemory_disp {power : Bool} : (resetMemory power s).disp = s.disp := rfl
theorem resetMemory_pend {power : Bool} : (resetMemory power s).ev.pend = s.ev.pend := rfl
theorem resetRegs_beat {power : Bool} : (resetRegs power s).beat = s.beat := rfl
theorem resetRegs_disp {power : Bool} : (resetRegs power s).disp = s.disp := rfl
theorem resetRegs_pend {power : Bool} : (resetRegs power s).ev.pend = s.ev.pend := rfl
theorem resetEvents_beat : (resetEvents s).beat = s.beat := rfl
theorem resetEvents_disp : (resetEvents s).disp = s.disp := rfl
theorem resetEvents_pend : (resetEvents s).ev.pend = s.ev.pend := rfl
theorem resetPair_beat : (resetPair s).beat = s.beat := rfl
theorem resetPair_disp : (resetPair s).disp = s.disp := rfl
theorem resetPair_pend : (resetPair s).ev.pend = s.ev.pend := rfl
theorem fixMarks_beat : (fixMarks s).beat = s.beat := rfl
theorem fixMarks_disp : (fixMarks s).disp = s.disp := rfl
theorem fixMarks_pend : (fixMarks s).ev.pend = s.ev.pend := rfl
theorem evFields_pwr : (evFields s).pwr = s.pwr := rfl
theorem evFields_beat : (evFields s).beat = s.beat := rfl
theorem evFields_disp : (evFields s).disp = s.disp := rfl
theorem evFields_pend : (evFields s).ev.pend = s.ev.pend := rfl

theorem resetMedia_beat {power : Bool} : (resetMedia power s).beat = s.beat := by rw [resetMedia_mediaReset.rest]
theorem resetMedia_disp {power : Bool} : (resetMedia power s).disp = s.disp := by rw [resetMedia_mediaReset.rest]
theorem resetMedia_pend {power : Bool} : (resetMedia power s).ev.pend = s.ev.pend := by
  rw [resetMedia_mediaReset.rest]

theorem resetCore_loaded : (resetCore s).beat.loaded = false := rfl
theorem loseWork_released : (loseWork s).disp.released = true := rfl
theorem loseWork_pend : (loseWork s).ev.pend = [] := rfl

theorem resetPair_wrote : Wrote (fun f => f.page ≠ 0x40) s (resetPair s) :=
  .wrI P50.PAIR_STATE_known (by decide) (.same rfl rfl)

theorem fixMarks_wrote : Wrote (fun f => f.page = 0x60) s (fixMarks s) :=
  .wrI P60.DL_OPEN_known (by decide) (.wrI P60.CAMPAIGNS_RUNNING_known (by decide) (.same rfl rfl))

theorem wrote_pwr {w : Fld → Prop} (p : PwrSt) (s : State) : Wrote w s { s with pwr := p } := .same rfl rfl

theorem resetEvents_wrote {w : Fld → Prop} : Wrote w s (resetEvents s) := .same rfl rfl

theorem evFields_wrote (h : Wrote (· ∈ [P51.CACHE_PENDING, P51.OLDEST_SEQ]) s0 s) :
    Wrote (· ∈ [P51.CACHE_PENDING, P51.OLDEST_SEQ]) s0 (evFields s) :=
  .wrI P51.CACHE_PENDING_known (by decide) (.wrI P51.OLDEST_SEQ_known (by decide) h)

theorem survives_debug : survives true P40.DEBUG_ACTIVE = false := by decide

/-- Debug is closed by a power-on reset: the pages lose what does not survive it (17 R537). -/
theorem resetRegs_debug (x : s.tidy = true) : rd (resetRegs true s) P40.DEBUG_ACTIVE = 0 := by
  unfold resetRegs
  extract_lets keep t
  have hdrop : ∀ v, keep (fkey P40.DEBUG_ACTIVE 0, v) = false := fun v => by
    simp only [keep, P40.DEBUG_ACTIVE_known.2, survives_debug]
  have tidy : t.tidy = true := by
    simp only [State.tidy, Bool.and_eq_true] at x ⊢
    exact ⟨regsWf_filter x.1, x.2⟩
  have role : Wrote (· ∈ [P01.ROLE_ACTIVE]) t (wr P01.ROLE_ACTIVE (rd t P01.ROLE) t) :=
    .wrI P01.ROLE_ACTIVE_known (by decide) .refl
  rw [role.rd tidy P40.DEBUG_ACTIVE_known (by decide), rd, rdI, cGet_filter_of_dropped hdrop]
  rfl

/-- What a power-on reset forgets before the pages: all but flash and the battery domain (17 R537). -/
def forgotten (s : State) : State := resetMemory true (resetCore (loseWork (toBattery s)))

/-- The state that a power-on reset makes before it counts itself. -/
def poweredOn (s : State) : State := resetPair (resetEvents (resetMedia true (resetRegs true (forgotten s))))

theorem forgotten_kept : Kept s (forgotten s) :=
  resetMemory_kept (resetCore_kept (loseWork_kept (toBattery_kept (.refl s))))

theorem poweredOn_tidy (x : s.tidy = true) : (poweredOn s).tidy = true :=
  (resetPair_kept (resetEvents_kept (resetMedia_kept (resetRegs_kept forgotten_kept)))).tidy x

theorem poweredOn_debug (x : s.tidy = true) : rd (poweredOn s) P40.DEBUG_ACTIVE = 0 := by
  have hregs : (resetRegs true (forgotten s)).tidy = true := (resetRegs_kept forgotten_kept).tidy x
  have hpair : Wrote (fun f => f.page ≠ 0x40) (resetRegs true (forgotten s)) (poweredOn s) :=
    (resetMedia_mediaReset.wrote.trans resetEvents_wrote).trans resetPair_wrote
  rw [hpair.rd hregs P40.DEBUG_ACTIVE_known (by decide), resetRegs_debug (forgotten_kept.tidy x)]

theorem poweredOn_fresh : (poweredOn s).disp.released = true ∧ (poweredOn s).beat.loaded = false ∧
    (poweredOn s).ev.pend = [] := by
  rw [poweredOn, resetPair_disp, resetPair_beat, resetPair_pend, resetEvents_disp, resetEvents_beat, resetEvents_pend,
    resetMedia_disp, resetMedia_beat, resetMedia_pend, resetRegs_disp, resetRegs_beat, resetRegs_pend, forgotten,
    resetMemory_disp, resetMemory_beat, resetMemory_pend, resetCore_disp, resetCore_pend]
  exact ⟨loseWork_released, resetCore_loaded, loseWork_pend⟩

/-- The state of a power-on reset once it has counted itself and set the sequence of events (16 R509). -/
def counted (s : State) : State :=
  fixMarks (wr P51.NEXT_SEQ (nextSeqAfter s) (bump P51.POWER_CYCLES (poweredOn s)))

theorem powerOn_eq : ∃ p, p.mode = .start ∧ p.cause = 1 ∧ p.step = 0 ∧
    powerOn s = evFields { counted s with pwr := p } := ⟨_, rfl, rfl, rfl, rfl⟩

theorem powerOn_parts : (powerOn s).pwr.mode = .start ∧ (powerOn s).pwr.cause = 1 ∧ (powerOn s).pwr.step = 0 ∧
    (powerOn s).disp.released = true ∧ (powerOn s).beat.loaded = false ∧ (powerOn s).ev.pend = [] := by
  obtain ⟨p, hmode, hcause, hstep, heq⟩ := powerOn_eq (s := s)
  have hpwr : (powerOn s).pwr = p := by rw [heq, evFields_pwr]
  refine ⟨hpwr ▸ hmode, hpwr ▸ hcause, hpwr ▸ hstep, ?_⟩
  rw [heq, evFields_disp, evFields_beat, evFields_pend]
  show (counted s).disp.released = true ∧ (counted s).beat.loaded = false ∧ (counted s).ev.pend = []
  rw [counted, fixMarks_disp, fixMarks_beat, fixMarks_pend, wr_disp, wr_beat, wr_ev, bump_disp, bump_beat, bump_ev]
  exact poweredOn_fresh

theorem nextSeqAfter_lt : nextSeqAfter s < 2 ^ 32 := Nat.mod_lt _ (by decide)

theorem powerOn_reads (x : s.tidy = true) :
    rd (powerOn s) P51.NEXT_SEQ = nextSeqAfter s ∧ rd (powerOn s) P40.DEBUG_ACTIVE = 0 := by
  obtain ⟨p, -, -, -, heq⟩ := powerOn_eq (s := s)
  have tidy0 := poweredOn_tidy x
  have hcycles : Wrote (· ∈ [P51.POWER_CYCLES]) (poweredOn s) (bump P51.POWER_CYCLES (poweredOn s)) :=
    .wrI P51.POWER_CYCLES_known (by decide) .refl
  have tidy1 := hcycles.tidy tidy0
  generalize hb : bump P51.POWER_CYCLES (poweredOn s) = u at hcycles tidy1
  have hseq : Wrote (· ∈ [P51.NEXT_SEQ]) u (wr P51.NEXT_SEQ (nextSeqAfter s) u) :=
    .wrI P51.NEXT_SEQ_known (by decide) .refl
  have tidy2 := hseq.tidy tidy1
  have hmarks : Wrote (fun f => f.page = 0x60) (wr P51.NEXT_SEQ (nextSeqAfter s) u) (counted s) := by
    unfold counted
    rw [hb]
    exact fixMarks_wrote
  have tidy3 := hmarks.tidy tidy2
  have hev : Wrote (· ∈ [P51.CACHE_PENDING, P51.OLDEST_SEQ]) (counted s) (powerOn s) := by
    rw [heq]
    exact evFields_wrote (wrote_pwr p _)
  constructor
  · rw [hev.rd tidy3 P51.NEXT_SEQ_known (by decide), hmarks.rd tidy2 P51.NEXT_SEQ_known (by decide), rd_wr_self tidy1]
    exact Nat.mod_eq_of_lt nextSeqAfter_lt
  · rw [hev.rd tidy3 P40.DEBUG_ACTIVE_known (by decide), hmarks.rd tidy2 P40.DEBUG_ACTIVE_known (by decide),
      hseq.rd tidy1 P40.DEBUG_ACTIVE_known (by decide), hcycles.rd tidy0 P40.DEBUG_ACTIVE_known (by decide),
      poweredOn_debug x]

end
end Sys2Proof.Machine
end

section
/-! Power: declarations, the hold-up flush, supplies, resets and start-up (17 Table 17-3). -/
namespace Sys2Proof.Machine

section
variable {s : State}

/-! Declarations (01 R33; 17 R524, R529). -/

theorem exec_mainsLost {l : List Nat} : exec (.mainsLost l) s = .next
    (if 16 ≤ l.length ∧ ∀ x ∈ l.take 16, x * 100 < nodeAverage s * rd s P04.V_DETECT then declare .mains s else s) := by
  show execMainsLost l s = _
  simp [execMainsLost, belowDetect]

theorem declare_of_idle {c : FlushCause} (hrun : running s = false) (hstart : s.pwr.mode ≠ .start) : declare c s = s :=
  if_pos ⟨hrun, hstart⟩

/-- A declaration takes HOLDUP, sets HOLDUP_MODE and clears TRIM_HOLDUP, and the pair takes note of the outage. -/
theorem declare_eq {c : FlushCause} (h : running s = true ∨ s.pwr.mode = .start) : ∃ u : State,
    (u.pwr.mode = .holdup ∧ u.pwr.flush = some c ∧ u.pwr.flushEnded = false) ∧ (s.tidy = true → u.tidy = true) ∧
    declare c s = outageStart (wr P04.HOLDUP_MODE 1 (wr P04.TRIM_HOLDUP 0 u)) := by
  have hdeclares : ¬ (running s = false ∧ s.pwr.mode ≠ .start) := by
    rintro ⟨hrun, hstart⟩
    exact h.elim (fun e => by simp [hrun] at e) hstart
  unfold declare
  rw [if_neg hdeclares]
  extract_lets s1 avg den pwr s2
  have hlog : Logged s s1 := by
    unfold s1
    split
    · exact logEv_logged
    · exact .refl s
  exact ⟨s2, ⟨rfl, rfl, rfl⟩, fun x => (Wrote.same (w := logPages) (s := s1) rfl rfl).tidy (hlog.tidy x), rfl⟩

theorem declare_parts {c : FlushCause} (h : running s = true ∨ s.pwr.mode = .start) :
    (declare c s).pwr.mode = .holdup ∧ (declare c s).pwr.flush = some c ∧ (declare c s).pwr.flushEnded = false ∧
    (declare c s).legal.lossSince = true ∧
    (s.tidy = true → rd (declare c s) P04.HOLDUP_MODE = 1 ∧ rd (declare c s) P04.TRIM_HOLDUP = 0) := by
  obtain ⟨u, ⟨hmode, hflush, hended⟩, hu, heq⟩ := declare_eq (c := c) h
  have work : LegalWork (wr P04.HOLDUP_MODE 1 (wr P04.TRIM_HOLDUP 0 u)) (declare c s) := heq ▸ outageStart_legalWork .refl
  refine ⟨work.pwr ▸ hmode, work.pwr ▸ hflush, work.pwr ▸ hended, heq ▸ outageStart_lossSince, fun x => ?_⟩
  have tidy1 := wr_tidy (v := 0) P04.TRIM_HOLDUP_known (hu x)
  have tidy2 := wr_tidy (v := 1) P04.HOLDUP_MODE_known tidy1
  have hmode : Wrote (· ∈ [P04.HOLDUP_MODE]) (wr P04.TRIM_HOLDUP 0 u) (wr P04.HOLDUP_MODE 1 (wr P04.TRIM_HOLDUP 0 u)) :=
    .wrI P04.HOLDUP_MODE_known (by decide) .refl
  rw [work.wrote.rd tidy2 P04.HOLDUP_MODE_known (by decide), work.wrote.rd tidy2 P04.TRIM_HOLDUP_known (by decide),
    rd_wr_self tidy1, hmode.rd tidy1 P04.TRIM_HOLDUP_known (by decide), rd_wr_self (hu x)]
  exact ⟨rfl, rfl⟩

theorem exec_resetNLow_released : exec (.resetNLow false) s = .next { s with pwr.resetN := false } := rfl

theorem exec_resetNLow_holdup (h : s.pwr.mode = .holdup) :
    exec (.resetNLow true) s = .next { s with pwr.resetN := true, pwr.flush := some .resetN } := by
  show execResetNLow true s = _
  simp [execResetNLow, h]

theorem exec_resetNLow_declares (h : s.pwr.mode ≠ .holdup) :
    exec (.resetNLow true) s = .next (declare .resetN { s with pwr.resetN := true }) := by
  show execResetNLow true s = _
  simp [execResetNLow, h]

/-! The end of the flush and PWR_REQ (17 R529, R531). -/

/-- The state whose outputs are released at the end of the flush. -/
def flushed (s : State) : State := commitPending (flushEvents (outageSnapshot (derateNode (spend .flush s))))

theorem flushed_pwr : (flushed s).pwr = s.pwr := by
  rw [flushed, commitPending_pwr, flushEvents_pwr]
  exact derateNode_pwr

theorem outageSnapshot_legal :
    (outageSnapshot s).legal = { s.legal with snap := s.legal.core, lossSince := false } := rfl

theorem flushed_legal : (flushed s).legal = { s.legal with snap := s.legal.core, lossSince := false } := by
  have h : (derateNode (spend .flush s)).legal = s.legal := derateNode_legal
  rw [flushed, commitPending_legal, flushEvents_legal]
  rw [outageSnapshot_legal, h]

theorem exec_flushEnd_of_done (h : s.pwr.mode ≠ .holdup ∨ s.pwr.flushEnded = true ∨ ledgerQuiet s = false ∨
    granted s .flush = false) : exec .flushEnd s = .next s := congrArg Host.Outcome.next (if_pos h)

/-- The end of the flush, before the outputs follow (17 R529). -/
def flushEnded (s : State) : State :=
  { flushed s with
    ftl := { (flushed s).ftl with shutdown := some ((flushed s).ledger.bootCount, (flushed s).ledger.horizon) }
    pwr := { (flushed s).pwr with flushEnded := true, shutdownSeen := true, selfRefresh := true }
    disp := { (flushed s).disp with released := true } }

theorem exec_flushEnd_of_quiet (hmode : s.pwr.mode = .holdup) (hended : s.pwr.flushEnded = false)
    (hquiet : ledgerQuiet s = true) (hgrant : granted s .flush = true) :
    exec .flushEnd s = .next (driveOutputs (flushEnded s)) :=
  congrArg Host.Outcome.next (if_neg (by simp [hmode, hended, hquiet, hgrant]))

theorem running_of_mode_other {m : PwrMode} (h : s.pwr.mode = m) (hr : m ≠ .run) (ht : m ≠ .trim) : running s = false := by
  simp [running, h, hr, ht]

theorem flushEnded_parts (hmode : s.pwr.mode = .holdup) : let t := driveOutputs (flushEnded s)
    t.pwr.mode = .holdup ∧ t.pwr.flushEnded = true ∧ t.pwr.shutdownSeen = true ∧ t.pwr.selfRefresh = true ∧
    t.disp.released = true ∧ t.ftl.pendRecs = [] ∧ t.ftl.shutdown.isSome = true ∧ t.legal.snap = s.legal.core ∧
    t.legal.lossSince = false := by
  intro t
  have hm : (flushEnded s).pwr.mode = .holdup := by
    show (flushed s).pwr.mode = .holdup
    rw [flushed_pwr, hmode]
  obtain ⟨r, d, o, ht⟩ : ∃ r d o, t = _ := driveOutputs_eq (running_of_mode_other hm (by decide) (by decide))
  have hlegal : (flushEnded s).legal = _ := flushed_legal
  have hpend : (flushEnded s).ftl.pendRecs = [] := commitPending_done.1
  rw [ht]
  exact ⟨hm, rfl, rfl, rfl, rfl, hpend, rfl, by rw [hlegal], by rw [hlegal]⟩

theorem exec_pwrReq_of_cause {c : Nat} (hmode : s.pwr.mode = .holdup) (hended : s.pwr.flushEnded = true)
    (hreq : s.pwr.pwrReq = none) (hc : pwrReqCause s = some c) :
    let u := logEv evPwrReq (leB 1 c) { s with pwr := { s.pwr with pwrReq := some c } }
    exec .pwrReq s = .next (if pinsHeld u then u else driveReq c u) := by
  show execPwrReq s = _
  unfold execPwrReq
  rw [if_neg (by simp [hmode, hended, hreq]), hc]

theorem exec_pwrReq_of_none
    (h : ¬ (s.pwr.mode = .holdup ∧ s.pwr.flushEnded = true ∧ s.pwr.pwrReq = none) ∨ pwrReqCause s = none) :
    exec .pwrReq s = .next s := by
  show execPwrReq s = _
  unfold execPwrReq
  by_cases hmay : s.pwr.mode = .holdup ∧ s.pwr.flushEnded = true ∧ s.pwr.pwrReq = none
  · rw [if_neg (by simp [hmay]), h.resolve_left (not_not.mpr hmay)]
  · rw [if_pos]
    by_contra hn
    refine hmay ?_
    simpa [not_or] using hn

theorem pwrReqCause_of_flush {c : FlushCause} {n : Nat} (hretired : s.pwr.dramRetired65 = false)
    (hflush : s.pwr.flush = some c) (hn : (c = .pwrCycle ∧ n = 1) ∨ (c = .thermal ∧ n = 3)) : pwrReqCause s = some n := by
  rcases hn with ⟨rfl, rfl⟩ | ⟨rfl, rfl⟩ <;> simp [pwrReqCause, hretired, hflush]

/-! Supplies (17 Table 17-3, R532). -/

theorem exec_mainPowerLost : exec .mainPowerLost s = .next (if s.pwr.mode = .holdup then powerDown s else s) := rfl

/-- The state without main power, before the outputs follow. -/
def unpowered (s : State) : State :=
  { toBattery s with
    pwr := { (toBattery s).pwr with mode := if s.batt.vbat then .dormant else .off, pwrReq := none, reqDriven := false }
    batt := { (toBattery s).batt with valid := s.batt.valid && s.batt.vbat }
    disp := { (toBattery s).disp with released := true } }

theorem powerDown_eq : ∃ r d o, powerDown s =
    { unpowered s with regs := r, disp := { (unpowered s).disp with driven := d }, out := o } := by
  have hrun : running (unpowered s) = false := by
    show (_ == _ || _ == _) = false
    cases hv : s.batt.vbat <;> simp [unpowered, hv]
  exact driveOutputs_eq hrun

theorem powerDown_parts : let t := powerDown s
    t.pwr.mode = (if s.batt.vbat then .dormant else .off) ∧ t.pwr.pwrReq = none ∧ t.disp.released = true ∧
    t.batt.valid = (s.batt.valid && s.batt.vbat) ∧ (∀ n, outOn t n = false) := by
  intro t
  obtain ⟨r, d, o, ht⟩ : ∃ r d o, t = _ := powerDown_eq
  have hreleased : t.disp.released = true := by rw [ht]; rfl
  refine ⟨by rw [ht]; rfl, by rw [ht]; rfl, hreleased, by rw [ht]; rfl, fun n => ?_⟩
  exact if_pos (by simp [outReleased, hreleased])

theorem exec_supplyMonitorTrip : exec .supplyMonitorTrip s = .next
    (if s.pwr.mode = .dormant ∨ s.pwr.mode = .off then s
     else if s.pwr.mode = .holdup then powerDown s
     else powerDown { s with legal := { s.legal with lossSince := true } }) := rfl

theorem exec_vbatRise : exec .vbatRise s = .next { s with
    batt := { s.batt with vbat := true }
    pwr := { s.pwr with mode := if s.pwr.mode = .off then .dormant else s.pwr.mode } } := by
  show execVbatRise s = _
  unfold execVbatRise
  by_cases h : s.pwr.mode = .off
  · simp only [h, if_true]
  · simp only [h, if_false]

theorem exec_vbatFall_dormant (h : s.pwr.mode = .dormant) : exec .vbatFall s = .next { s with
    batt := { s.batt with vbat := false, valid := false }
    pwr := { s.pwr with mode := .off } } :=
  congrArg Host.Outcome.next (if_pos h)

theorem exec_vbatFall_other (h : s.pwr.mode ≠ .dormant) : exec .vbatFall s = .next { s with batt.vbat := false } :=
  congrArg Host.Outcome.next (if_neg h)

/-! Power-on reset and start-up (17 R523, R528, R533). -/

theorem exec_powerOnReset : exec .powerOnReset s = .next
    (if s.pwr.resetN = false ∧ (s.pwr.mode = .dormant ∨ s.pwr.mode = .off ∨
        (s.pwr.mode = .holdup ∧ s.pwr.flushEnded = true ∧ s.pwr.flush = some .resetN)) then powerOn s else s) := by
  show execPowerOnReset s = _
  unfold execPowerOnReset
  cases hn : s.pwr.resetN with
  | true => simp
  | false =>
    simp only [Bool.false_eq_true, if_false, true_and, ← or_assoc]
    by_cases hd : s.pwr.mode = .dormant ∨ s.pwr.mode = .off
    · simp only [hd, true_or, if_true]
    · simp only [hd, false_or, if_false]

/-- The sequencer stands where START_UP begins: at the first step after a power-on reset, at the third after a device
reset (17 R533). -/
def starts (s : State) : Prop := s.pwr.mode = .start ∧ s.pwr.held = false ∧ (s.pwr.step = 0 ∨ s.pwr.step = 3)

theorem exec_startUp_of_not {b : BootIn} (h : ¬ starts s) : exec (.startUp b) s = .next s := by
  refine congrArg Host.Outcome.next (if_pos ?_)
  unfold starts at h
  by_contra hn
  refine h ?_
  simpa [not_or, or_iff_not_imp_left] using hn

/-- START_UP where the sequencer stands at its begin: it stops at step 4 without a verified boot image. -/
theorem exec_startUp_of_starts {b : BootIn} (h : starts s) : ∃ u, exec (.startUp b) s = .next
    (if b.images.getD 0 false = false then stopAt 4 u else startRest b (s.pwr.step == 0) (countBoot (s.pwr.step == 0) u)) := by
  obtain ⟨hmode, hheld, hstep⟩ := h
  refine ⟨_, congrArg Host.Outcome.next (if_neg ?_)⟩
  simpa [hmode, hheld] using or_iff_not_imp_left.mp hstep

theorem startRest_of_unverified {b : BootIn} {power : Bool} (h : (b.images.drop 1).take 4 ≠ [true, true, true, true]) :
    (startRest b power s).pwr.step = 7 := by
  unfold startRest
  dsimp only
  rw [if_pos h]
  rfl

/-- From step 9, RUN or TRIM is entered or Plumb and the beat number are waited for (03 R112). -/
theorem tryRun_step (h : s.pwr.step = 9) :
    (tryRun s).pwr.step = 9 ∨ ((tryRun s).pwr.step = 10 ∧ ((tryRun s).pwr.mode = .run ∨ (tryRun s).pwr.mode = .trim)) := by
  unfold tryRun
  split
  · rw [logEv_pwr]
    refine .inr ⟨rfl, ?_⟩
    cases trimBits s
    · exact .inl rfl
    · exact .inr rfl
  · exact .inl h

theorem startRest_of_verified {b : BootIn} {power : Bool} (h : (b.images.drop 1).take 4 = [true, true, true, true]) :
    let t := startRest b power s
    t.pwr.step = 9 ∨ (t.pwr.step = 10 ∧ (t.pwr.mode = .run ∨ t.pwr.mode = .trim)) := by
  unfold startRest
  dsimp only
  rw [if_neg (not_not.mpr h)]
  exact tryRun_step rfl

/-! Watchdogs (17 R525, R526). -/

theorem deviceReset_of_may {n : Nat} (h : resetMay s = true) :
    (deviceReset n s).pwr.mode = .start ∧ (deviceReset n s).pwr.cause = n ∧ (deviceReset n s).pwr.step = 3 := by
  unfold deviceReset
  rw [if_neg (by simp [h])]
  exact ⟨rfl, rfl, rfl⟩

theorem deviceReset_of_not {n : Nat} (h : resetMay s = false) : deviceReset n s = s := if_pos h

theorem assocGet_assocSet_self {α β : Type} [DecidableEq α] {k : α} {v : β} {l : List (α × β)} :
    assocGet k (assocSet k v l) = some v := by
  induction l with
  | nil => simp [assocSet, assocGet]
  | cons x l ih =>
    unfold assocSet
    split
    · simp [assocGet]
    next hk => simpa [assocGet, hk] using ih

/-- The times of the watchdog resets within the last 60 s (17 R525). -/
def recentResets (s : State) : List Nat := s.pwr.wdTimes.filter (fun t => decide (s.now < t + 60 * 8000))

/-- A watchdog's function marked FUNC_FAILED, its time kept, and the overrun logged (17 R525). -/
def overrun (k : Fin 16) (fn : Nat) (s : State) : State :=
  logEv evThreadOverrun (leB 1 k.val) { s with
    cmd := { s.cmd with funcFailed := assocSet fn 1 s.cmd.funcFailed }
    pwr := { s.pwr with wdTimes := recentResets s ++ [s.now] } }

theorem exec_coreWatchdog {k : Fin 16} {fn : Nat} (h : running s = true ∨ s.pwr.mode = .start) :
    exec (.coreWatchdog k fn) s = .next
      (if 2 ≤ (recentResets s).length then deviceReset 4 (overrun k fn s) else overrun k fn s) := by
  have hwatched : ¬ (running s = false ∧ s.pwr.mode ≠ .start) := by
    rintro ⟨hrun, hstart⟩
    exact h.elim (fun e => by simp [hrun] at e) hstart
  show execCoreWatchdog k fn s = _
  unfold execCoreWatchdog
  rw [if_neg hwatched]
  have hlen : (recentResets s ++ [s.now]).length = (recentResets s).length + 1 := by simp
  show Host.Outcome.next (if 3 ≤ (recentResets s ++ [s.now]).length then deviceReset 4 (overrun k fn s) else overrun k fn s) = _
  simp only [hlen, Nat.reduceLeDiff]

theorem exec_coreWatchdog_of_not {k : Fin 16} {fn : Nat} (hrun : running s = false) (hstart : s.pwr.mode ≠ .start) :
    exec (.coreWatchdog k fn) s = .next s := congrArg Host.Outcome.next (if_pos ⟨hrun, hstart⟩)

theorem overrun_funcFailed {k : Fin 16} {fn : Nat} : assocGet fn (overrun k fn s).cmd.funcFailed = some 1 := by
  unfold overrun
  rw [logEv_logged.rest]
  exact assocGet_assocSet_self

end

/-- Settles O60: each row by the lemma about it, in the order of the statement. -/
theorem powerEventsComplete : Obligations.PowerEventsComplete := by
  refine ⟨?mainsLost, ?declared, ?resetN, ?flushEnd, ?pwrReq, ?mainPower, ?down, ?trip, ?vbatRise, ?vbatFall, ?powerOn,
    ?startUp, ?reset, ?watchdog⟩
  case mainsLost =>
    intro l s low
    rw [exec_mainsLost]
    exact ⟨fun h => by rw [if_pos h], fun h => by rw [if_neg h]⟩
  case declared => exact fun c s => ⟨declare_parts, declare_of_idle⟩
  case resetN => exact fun s => ⟨exec_resetNLow_released, exec_resetNLow_holdup, exec_resetNLow_declares⟩
  case flushEnd =>
    exact fun s => ⟨fun hm he hq hg => ⟨_, exec_flushEnd_of_quiet hm he hq hg, flushEnded_parts hm⟩, exec_flushEnd_of_done⟩
  case pwrReq =>
    intro s may
    exact ⟨fun c ⟨hm, he, hr⟩ hc => exec_pwrReq_of_cause hm he hr hc, exec_pwrReq_of_none,
      fun hr hf => pwrReqCause_of_flush hr hf (.inl ⟨rfl, rfl⟩), fun hr hf => pwrReqCause_of_flush hr hf (.inr ⟨rfl, rfl⟩)⟩
  case mainPower =>
    intro s
    rw [exec_mainPowerLost]
    exact ⟨fun h => by rw [if_pos h], fun h => by rw [if_neg h]⟩
  case down => exact fun s => powerDown_parts
  case trip =>
    intro s r
    refine ⟨fun h => ?_, fun h => ?_, fun hd ho hh => ?_⟩
    · rw [show r = _ from exec_supplyMonitorTrip, if_pos h]
    · rw [show r = _ from exec_supplyMonitorTrip, if_neg (by simp [h]), if_pos h]
    · rw [show r = _ from exec_supplyMonitorTrip, if_neg (not_or.mpr ⟨hd, ho⟩), if_neg hh]
  case vbatRise => exact fun s => exec_vbatRise
  case vbatFall => exact fun s => ⟨exec_vbatFall_dormant, exec_vbatFall_other⟩
  case powerOn =>
    intro s may
    rw [exec_powerOnReset]
    refine ⟨fun h => ⟨powerOn s, by rw [if_pos h], ?_⟩, fun h => by rw [if_neg h]⟩
    obtain ⟨hmode, hcause, hstep, hreleased, hloaded, hpend⟩ := powerOn_parts (s := s)
    exact ⟨hmode, hcause, hstep, hreleased, hloaded, hpend, powerOn_reads⟩
  case startUp =>
    intro b s r begins
    refine ⟨fun h hboot => ?_, fun h hboot himg => ?_, fun h hboot himg => ?_, exec_startUp_of_not⟩
    all_goals obtain ⟨u, hr⟩ : ∃ u, r = _ := exec_startUp_of_starts h
    · exact ⟨_, hr, by rw [if_pos hboot]; rfl⟩
    · exact ⟨_, hr, by rw [if_neg (by rw [hboot]; decide)]; exact startRest_of_unverified himg⟩
    · exact ⟨_, hr, by rw [if_neg (by rw [hboot]; decide)]; exact startRest_of_verified himg⟩
  case reset => exact fun n s => ⟨rfl, deviceReset_of_may, deviceReset_of_not⟩
  case watchdog =>
    intro k fn s r recent u
    refine ⟨fun h => ⟨fun hfew => ⟨?_, overrun_funcFailed⟩, fun hmany => ?_⟩, exec_coreWatchdog_of_not⟩
    · exact (exec_coreWatchdog h).trans (congrArg Host.Outcome.next (if_neg (Nat.not_le_of_lt hfew)))
    · exact (exec_coreWatchdog h).trans (congrArg Host.Outcome.next (if_pos hmany))
end Sys2Proof.Machine
end

section
/-! A packet reads back as its header and payload, and the checks of R47 (02 R45 to R47, Table 02-1). -/
namespace Sys2Proof.Machine

/-! Fields at their places in a byte string. -/

theorem leAt_leB_head {n v : Nat} {c : List Byte} (hv : v < 256 ^ n) : leAt (leB n v ++ c) 0 n = v :=
  leAt_leB (a := []) rfl hv

theorem leAt_leB_skip {m n v off : Nat} {c : List Byte} (h : m ≤ off) : leAt (leB m v ++ c) off n = leAt c (off - m) n := by
  rw [leAt, List.drop_append, leB_length, List.drop_of_length_le (by simpa using h), List.nil_append, leAt]

section
variable {h : Hdr} {p pkt : List Byte}

@[simp] theorem hdrBytes_length : (hdrBytes h).length = 16 := by simp [hdrBytes]

theorem crc32c_lt {b : List Byte} : crc32c b < 2 ^ 32 := Nat.xor_lt_two_pow (foldl_crcByte_lt (by decide)) (by decide)

/-- The first 16 bytes of a packet are its header's (02 Table 02-1). -/
theorem parseHdr_hdrBytes {l : List Byte} (hfits : h.fits = true) : parseHdr (hdrBytes h ++ l) = h := by
  simp only [Hdr.fits, below, Bool.and_eq_true, decide_eq_true_eq, Nat.reducePow] at hfits
  obtain ⟨⟨⟨⟨⟨⟨⟨hver, hop⟩, hlen⟩, htag⟩, hdest⟩, hsrc⟩, hflow⟩, hseq⟩ := hfits
  simp [parseHdr, hdrBytes, leAt_leB_skip, leAt_leB_head, hver, hop, hlen, htag, hdest, hsrc, hflow, hseq]

theorem packet_length : (packet h p).length = 20 + p.length := by
  simp only [packet, List.length_append, hdrBytes_length, leB_length]
  omega

theorem packet_take (hlen : h.len = p.length) : (packet h p).take (16 + h.len) = hdrBytes h ++ p :=
  List.take_left' (by simp [hlen])

theorem packet_payload (hlen : h.len = p.length) : sliceB (packet h p) 16 h.len = p := by
  rw [packet, List.append_assoc]
  exact sliceB_append hdrBytes_length hlen.symm

theorem packet_trailer (hlen : h.len = p.length) :
    leAt (packet h p) (16 + h.len) 4 = crc32c ((packet h p).take (16 + h.len)) := by
  rw [packet_take hlen, packet, ← List.append_nil (leB 4 _)]
  exact leAt_leB (by simp [hlen]) crc32c_lt

/-- A packet whose trailer is the CRC of the bytes before it, all of them there, has passed checks 2 and 3 of R47. -/
theorem packetFault_of_whole (hmax : h.len ≤ 8192) (hall : 20 + h.len ≤ pkt.length)
    (hcrc : leAt pkt (16 + h.len) 4 = crc32c (pkt.take (16 + h.len))) :
    packetFault h pkt =
      if h.verFlags / 16 ≠ 1 then some (4, stBadVersion)
      else if (opRow h.opcode).isNone ∨ bitAt h.verFlags 1 = true then some (5, stBadOpcode)
      else if fnAllowed h.opcode (fnOf h) = false then some (6, stBadFunction)
      else none := by
  rw [packetFault, if_neg (by omega), if_neg (not_not.mpr hcrc)]

theorem packetFault_packet (hlen : h.len = p.length) (hmax : p.length ≤ 8192) (hver : h.verFlags / 16 = 1)
    (hnotice : bitAt h.verFlags 1 = false) (hop : (opRow h.opcode).isSome = true)
    (hfn : fnAllowed h.opcode (fnOf h) = true) : packetFault h (packet h p) = none := by
  rw [packetFault_of_whole (hlen ▸ hmax) (by rw [packet_length, hlen]) (packet_trailer hlen), if_neg (not_not.mpr hver),
    if_neg (by simp [hnotice, Option.isSome_iff_ne_none.mp hop]), if_neg (by simp [hfn])]

end

/-- Settles O10: header, payload and trailer each read back from the packet's bytes at their places, and with them every
check of R47 is passed. -/
theorem packetRoundTrip : Obligations.PacketRoundTrip := by
  refine ⟨fun h p hfits hlen hmax => ?_, fun b => crc32c_lt, by decide +kernel⟩
  refine ⟨packet_length, ?_, packet_payload hlen, packet_trailer hlen, packet_take hlen,
    fun hver hnotice hop hfn => packetFault_packet hlen hmax hver hnotice hop hfn⟩
  rw [packet, List.append_assoc]
  exact parseHdr_hdrBytes hfits

end Sys2Proof.Machine
end

section
/-! A packet that fails a check of R47 (02 R47). -/
namespace Sys2Proof.Machine

section
variable {pkt : List Byte} {s : State}

/-- The state with a packet's RETRY flag counted (02 Table 02-1). -/
def retryCounted (h : Hdr) (s : State) : State :=
  if bitAt h.verFlags 2 then { s with cmd.retries := s.cmd.retries + 1 } else s

theorem retryCounted_pwr {h : Hdr} : (retryCounted h s).pwr = s.pwr := by
  unfold retryCounted
  split <;> rfl

/-- A running device answers a unicast packet that fails a check with the check's status, and does nothing else. -/
theorem takePacket_of_fault {k st : Nat} (hmode : s.pwr.mode = .run ∨ s.pwr.mode = .trim) (hdest : (parseHdr pkt).dest ≠ 0x3F)
    (hfault : packetFault (parseHdr pkt) pkt = some (k, st)) :
    takePacket pkt s = sendReply (parseHdr pkt) st 0 [] (retryCounted (parseHdr pkt) s) := by
  have hgate : startGate (retryCounted (parseHdr pkt) s) (parseHdr pkt).opcode (fnOf (parseHdr pkt)) false = .pass :=
    startGate_running (by rwa [retryCounted_pwr])
  unfold retryCounted at hgate ⊢
  simp only [takePacket, hgate, hfault, if_neg hdest]

end

/-- Settles O11: each fault is the first check that the packet fails. -/
theorem damagedPacketIsRefused : Obligations.DamagedPacketIsRefused := by
  intro pkt s hmode hdest h s1 crcOk
  have refused : ∀ {k st : Nat}, packetFault h pkt = some (k, st) → takePacket pkt s = sendReply h st 0 [] s1 :=
    takePacket_of_fault hmode hdest
  refine ⟨fun hshort => ?length, fun hmax hall hcrc => ?crc, fun hmax hall hcrc hver => ?version,
    fun hmax hall hcrc hver hop => ?opcode, fun hmax hall hcrc hver hop hnotice hfn => ?function⟩
  case length => exact refused (if_pos hshort)
  case crc => exact refused (by rw [packetFault, if_neg (by omega), if_pos hcrc])
  case version => exact refused (by rw [packetFault_of_whole hmax hall hcrc, if_pos hver])
  case opcode =>
    exact refused (by rw [packetFault_of_whole hmax hall hcrc, if_neg (not_not.mpr hver),
      if_pos (hop.imp_left Option.isNone_iff_eq_none.mpr)])
  case function =>
    exact refused (by rw [packetFault_of_whole hmax hall hcrc, if_neg (not_not.mpr hver),
      if_neg (by simp [hnotice, Option.isSome_iff_ne_none.mp hop]), if_pos hfn])

end Sys2Proof.Machine
end

section
/-! Admission of a command in an OPEN session (02 R50, R54, Table 02-3). -/
namespace Sys2Proof.Machine

section
variable {h : Hdr} {p : List Byte} {s : State}

/-- The session rules of an OPEN session, for a command other than OPEN_SESSION: by the distance of its sequence from N. -/
theorem sessionRules_opened (hst : (sessAt s (sessOf h)).st = .opened) (hop : h.opcode ≠ 0x01) :
    sessionRules h p s =
      (let x := sessAt s (sessOf h)
       let d := seqDist x.n h.seq
       if d = 0 then admitEarly (sessOf h) 31 (admitCmd h p s)
       else if d ≤ 31 then
         if x.early.any (fun e => e.hdr.seq == h.seq) then { s with cmd.dropRepeat := s.cmd.dropRepeat + 1 }
         else setSess (sessOf h) { x with early := x.early ++ [⟨h, p, s.now⟩] } s
       else if 2 ^ 32 - 256 ≤ d then
         match x.held.find? (fun z => z.seq == h.seq) with
         | some z => answerHeld h p z s
         | none => match s.cmd.openC.find? (fun o => sessOf o.hdr == sessOf h && o.hdr.seq == h.seq) with
           | some o => answerOpen h p o s
           | none => sendReply h stReplyExpired 0 [] s
       else sendReply h stSeqOutOfWindow 0 [] s) := by
  simp only [sessionRules, hst, hop, false_and, if_false] <;> rfl

end

/-- Settles O12: by the distance of the sequence from N, then by what is kept of it. -/
theorem sequenceNumberAdmission : Obligations.SequenceNumberAdmission := by
  intro h p s hst hop n x d kept open_
  have rules := sessionRules_opened (p := p) hst hop
  have past : 2 ^ 32 - 256 ≤ d → ¬ d = 0 ∧ ¬ d ≤ 31 := by omega
  refine ⟨fun h0 => ?next, fun h1 h31 hnew => ?buffered, fun h1 h31 hagain => ?repeated, fun hold z hz => ?held,
    fun hold hnone o ho => ?stillOpen, fun hold hnone ho => ?expired, fun h32 hlt => ?outside⟩
  case next => exact ⟨_, rules.trans (if_pos h0), rfl⟩
  case buffered =>
    have hany : ¬ x.early.any (fun e => e.hdr.seq == h.seq) = true := by simpa using hnew
    exact rules.trans ((if_neg (Nat.ne_of_gt h1)).trans ((if_pos h31).trans (if_neg hany)))
  case repeated =>
    have hany : x.early.any (fun e => e.hdr.seq == h.seq) = true := by simpa using hagain
    exact rules.trans ((if_neg (Nat.ne_of_gt h1)).trans ((if_pos h31).trans (if_pos hany)))
  case outside =>
    have hd0 : ¬ d = 0 := by omega
    have hd31 : ¬ d ≤ 31 := by omega
    exact rules.trans ((if_neg hd0).trans ((if_neg hd31).trans (if_neg (Nat.not_le_of_lt hlt))))
  all_goals
    obtain ⟨hd0, hd31⟩ := past hold
    have hwin := rules.trans ((if_neg hd0).trans ((if_neg hd31).trans (if_pos hold)))
  case held =>
    rw [show x.held.find? _ = some z from hz] at hwin
    exact ⟨fun hc => hwin.trans (if_pos hc), fun hc => hwin.trans (if_neg hc)⟩
  case stillOpen =>
    rw [show x.held.find? _ = none from hnone, show s.cmd.openC.find? _ = some o from ho] at hwin
    exact ⟨fun hc => hwin.trans (if_pos hc), fun hc => hwin.trans (if_neg hc)⟩
  case expired =>
    rw [show x.held.find? _ = none from hnone, show s.cmd.openC.find? _ = none from ho] at hwin
    exact hwin

end Sys2Proof.Machine
end

section
/-! The final reply of a command: what it sends, what is held, and what it leaves (02 R49, R53, R64). -/
namespace Sys2Proof.Machine

section
variable {h : Hdr} {p data : List Byte} {st d : Nat} {s : State}

/-- On an unpaired device that answers at all, a reply goes out on port U at once. -/
theorem sendReply_unpaired (hs : silent s = false) (hp : pairState s = 0) :
    sendReply h st d data s = sendReplyNow h st d data s := by
  simp [sendReply, hs, localCmd_unpaired hp, paired_unpaired hp, hp]

/-- A reply sent moves port U and performance counters alone, besides what is sent. -/
theorem sendReplyNow_linked :
    Linked .u (emit (.reply (replyHdr s h (4 + data.length)) st d data) s) (sendReplyNow h st d data s) :=
  linkSend_linked

/-- The command `h` is answered and no longer open: its final reply is held for its session. -/
def heldReply (h : Hdr) (p : List Byte) (st d : Nat) (data : List Byte) (s : State) : State :=
  hold ⟨h.seq, cmdCrc h p, h, st, d, data, st == stAccepted⟩ (closeCmd h s)

theorem finish_of_admitted (hs : silent s = false) (hp : pairState s = 0) (hex : exempt s h p = false) :
    finish h p st d data s = sendReplyNow h st d data (heldReply h p st d data s) := by
  rw [finish, if_neg (by simp [hex])]
  exact sendReply_unpaired hs hp

theorem replyHdr_unicast {n : Nat} (hd : h.dest ≠ 0x3F) : replyHdr s h n =
    { h with verFlags := setBits (setBits h.verFlags 3 1 1) 0 1 0, len := n, dest := h.src, src := h.dest } := by
  rw [replyHdr, if_neg hd]

end

/-- Settles O13: the reply is held, then sent; sending it moves port U and performance counters alone. -/
theorem finishedCommandIsAnsweredAndHeld : Obligations.FinishedCommandIsAnsweredAndHeld := by
  intro h p st d data s htidy hs hp hex hd t n x rh new
  have ht : t = sendReplyNow h st d data (heldReply h p st d data s) := finish_of_admitted hs hp hex
  have hlink : Linked .u (emit (.reply (replyHdr s h (4 + data.length)) st d data) (heldReply h p st d data s)) t :=
    ht ▸ sendReplyNow_linked
  have hcmd : t.cmd = (heldReply h p st d data s).cmd := by rw [hlink.rest]; rfl
  have hchain : t.chain = { s.chain with u := t.chain.u } := hlink.chain
  refine ⟨?sent, ?cmd, ?fields, ?rest⟩
  case sent =>
    obtain ⟨l, hout, hl⟩ := hlink.sent
    rw [replyHdr_unicast hd] at hout
    exact ⟨l, hout.trans (List.append_assoc ..), hl⟩
  case cmd => exact hcmd
  case fields => exact fun f i hpage hf => hlink.regs htidy f i (pageFields_known hf) hpage
  case rest =>
    rw [← hchain, hcmd]
    exact hlink.rest

end Sys2Proof.Machine
end

section
/-! The states in which a command is refused, and those in which it is executed (00 R3, R4; 02 R73, R80). -/
namespace Sys2Proof.Machine

section
variable {h : Hdr} {p : List Byte} {acc : Bool} {body : State → Ans} {s : State}

/-! Gates of a device that is running and not held. -/

theorem powerGate_pass {fn : Nat} (hradio : ¬ (fn = 0x20 ∧ radioOn s = false)) (hplc : ¬ (fn = 0x21 ∧ plcOn s = false))
    (hmetro : ¬ (fn = 0x30 ∧ metroOn s = false)) : powerGate s fn = .pass := by
  rw [powerGate, if_neg hradio, if_neg hplc, if_neg hmetro]

theorem accGate_open {op : Nat} (hopen : acceptClosed s = false) (hfull : storeFull s = false) :
    accGate s op = .pass := by
  simp [accGate, hopen, hfull]

/-- A device held under R4 refuses what R73 does not admit. -/
theorem stateGate_held (hheld : s.pwr.held = true) (hop : r4Admits h.opcode = false) :
    stateGate s h acc = .fail stRestricted 0 := by
  rw [stateGate, if_pos ⟨hheld, hop⟩]

theorem stateGate_unpowered {st d : Nat} (hmode : s.pwr.mode = .run ∨ s.pwr.mode = .trim) (hheld : s.pwr.held = false)
    (hpower : powerGate s (fnOf h) = .fail st d) : stateGate s h acc = .fail st d := by
  simp [stateGate, hheld, startGate_running hmode, hpower]

theorem stateGate_halted (hmode : s.pwr.mode = .run ∨ s.pwr.mode = .trim) (hheld : s.pwr.held = false)
    (hpower : powerGate s (fnOf h) = .pass) (hpair : pairState s = 5) (hlocal : sessOf h ≠ 15)
    (hop : haltAdmits h.opcode = false) : stateGate s h acc = .fail stHaltedDiverged 0 := by
  simp [stateGate, hheld, startGate_running hmode, hpower, localCmd, hpair, hlocal, hop]

theorem stateGate_resetting (hmode : s.pwr.mode = .run ∨ s.pwr.mode = .trim) (hheld : s.pwr.held = false)
    (hpower : powerGate s (fnOf h) = .pass) (hpair : pairState s = 0)
    (hfailed : assocGet (fnOf h) s.cmd.funcFailed = none) (hreset : (assocGet (fnOf h) s.cmd.funcReset).isSome) :
    stateGate s h acc = .fail stBusy 0 := by
  simp [stateGate, hheld, startGate_running hmode, hpower, localCmd_unpaired hpair, paired_unpaired hpair, hpair, hfailed,
    hreset]

/-- Accepted work that none may be taken on. -/
theorem runCmd_not_accepted {st d : Nat} (hstate : stateGate s h acc = .pass) (hlen : lenGate h.opcode p.length = .pass)
    (hacc : acc = true) (hgate : accGate s h.opcode = .fail st d) : runCmd h p acc body s = finish h p st d [] s := by
  subst hacc
  simp [runCmd, hstate, hlen, hgate]

end

/-- Settles O15: every gate of a ready device lets the command pass. -/
theorem runningDeviceExecutesCommands : Obligations.RunningDeviceExecutesCommands := by
  intro h p s hready hradio hplc hmetro hlen
  have hstate : ∀ acc, stateGate s h acc = .pass := fun _ => stateGate_ready hready (powerGate_pass hradio hplc hmetro)
  exact ⟨⟨hstate _, hlen, fun hacc => nomatch hacc⟩,
    fun hopen hfull => ⟨hstate _, hlen, fun _ => accGate_open hopen hfull⟩⟩

/-- Settles O16: each state by the gate that refuses in it. -/
theorem commandsRefusedByState : Obligations.CommandsRefusedByState := by
  intro h p acc body s
  refine ⟨fun hheld hop => ?held, fun hmode hheld => ⟨fun hfn hoff => ?radio, fun hfn hoff => ?plc, fun hfn hoff => ?metro⟩,
    fun hmode hheld hpower hpair hsess hop => ?halted, fun hmode hheld hpower hpair hfailed hreset => ?busy,
    fun hready hpower hlen hacc => ⟨fun hclosed => ?closed, fun hopen hfull hack hclose => ?full⟩⟩
  case held =>
    have hrefused : r4Admits h.opcode = false := by
      simp only [r4Admits, Bool.or_eq_false_iff, Bool.and_eq_false_iff, decide_eq_false_iff_not, beq_eq_false_iff_ne]
      omega
    exact runCmd_refused (stateGate_held hheld hrefused)
  case radio => exact runCmd_refused (stateGate_unpowered hmode hheld (if_pos ⟨hfn, hoff⟩))
  case plc => exact runCmd_refused (stateGate_unpowered hmode hheld (by simp [powerGate, hfn, hoff]))
  case metro => exact runCmd_refused (stateGate_unpowered hmode hheld (by simp [powerGate, hfn, hoff]))
  case halted =>
    have hrefused : haltAdmits h.opcode = false := by
      simp only [haltAdmits, Bool.or_eq_false_iff, Bool.and_eq_false_iff, decide_eq_false_iff_not]
      omega
    exact runCmd_refused (stateGate_halted hmode hheld hpower hpair hsess hrefused)
  case busy => exact runCmd_refused (stateGate_resetting hmode hheld hpower hpair hfailed hreset)
  case closed =>
    exact runCmd_not_accepted (stateGate_ready hready hpower) hlen hacc (if_pos hclosed)
  case full =>
    have hgate : accGate s h.opcode = .fail stStoreFull 0 := by simp [accGate, hopen, hfull, hack, hclose]
    exact runCmd_not_accepted (stateGate_ready hready hpower) hlen hacc hgate

end Sys2Proof.Machine
end

section
/-! A parameter field reads back what was written to it (00 Table 00-3; 02 R74). -/
namespace Sys2Proof.Machine

/-- Two fields of the tables, or two instances of one, differ in page, lowest bit or instance. -/
theorem places_differ {f g : Fld} {i j : Nat} (hf : f.known) (hg : g.known) (hi : i < 16) (hj : j < 16)
    (hne : (g, j) ≠ (f, i)) : f.page ≠ g.page ∨ f.lo ≠ g.lo ∨ i % 16 ≠ j % 16 := by
  by_contra hsame
  simp only [ne_eq, not_or, not_not, Nat.mod_eq_of_lt hi, Nat.mod_eq_of_lt hj] at hsame
  obtain ⟨hpage, hlo, rfl⟩ := hsame
  exact hne (by rw [field_ext hf hg hpage hlo])

theorem tidy_rising {s : State} (x : s.tidy = true) : rising none s.regs = true := by
  simp only [State.tidy, regsWf, Bool.and_eq_true] at x
  exact x.1.1

/-- Settles O8: a field by its key, memory and the other fields by theirs. -/
theorem registerReadAfterWrite : Obligations.RegisterReadAfterWrite := by
  intro f g i j v s htidy hf hg hi hj
  exact ⟨rdI_wrI_self (tidy_rising htidy),
    fun hne => rdI_wrI_other (pageFields_known hf) (pageFields_known hg)
      (places_differ (pageFields_known hf) (pageFields_known hg) hi hj hne) htidy,
    fun _ => rfl⟩

end Sys2Proof.Machine
end

section
/-! Every command answers a next state (02 R47, R53): most rows by their form, those that branch before they answer branch by
branch. -/
namespace Sys2Proof.Machine

/-- The outcome is a next state. -/
def Answers (o : Host.Outcome State Fault Refusal) : Prop := ∃ t, o = .next t

theorem Answers.next {t : State} : Answers (.next t) := ⟨t, rfl⟩

theorem Answers.ite {c : Prop} [Decidable c] {a b : Host.Outcome State Fault Refusal} (ha : Answers a) (hb : Answers b) :
    Answers (if c then a else b) := by
  split
  · exact ha
  · exact hb

section
variable {s : State}

/-! Rows that look something up first. -/

theorem execItemOwed_answers : Answers (execItemOwed s) := by
  unfold execItemOwed
  dsimp only
  split
  · exact .next
  · exact .next

theorem execPendingReply_answers {n : Fin 16} {q pc : Nat} : Answers (execPendingReply n q pc s) := by
  unfold execPendingReply
  split
  · exact .next
  · exact .ite .next .next

theorem execLedgerGroupSeal_answers : Answers (execLedgerGroupSeal s) := by
  unfold execLedgerGroupSeal
  split
  · exact .next
  · exact .ite .next .next

theorem execPageProgramDone_answers {g k : Nat} {c : Chan} {ok : Bool} : Answers (execPageProgramDone g k c ok s) := by
  unfold execPageProgramDone
  split
  · exact .ite .next .next
  · exact .next

theorem execCopyVerified_answers {g k n : Nat} {c : Chan} {same : Bool} : Answers (execCopyVerified g k c n same s) := by
  unfold execCopyVerified
  split
  · exact .ite (.ite .next .next) .next
  · exact .next

theorem execGroupAccept_answers : Answers (execGroupAccept s) := by
  unfold execGroupAccept
  split
  · exact .ite .next .next
  · exact .next

theorem execGroupRelease_answers : Answers (execGroupRelease s) := by
  unfold execGroupRelease
  split
  · exact .ite .next .next
  · exact .next

theorem execEraseDone_answers {c : Chan} {d b : Nat} : Answers (execEraseDone c d b s) := by
  unfold execEraseDone
  split
  · exact .ite .next .next
  · exact .next

/-- No command ends in a fault or a refusal. -/
theorem exec_answers (c : Instr) : Answers (exec c s) := by
  cases c
  case itemOwed => exact execItemOwed_answers
  case pendingReply => exact execPendingReply_answers
  case ledgerGroupSeal => exact execLedgerGroupSeal_answers
  case pageProgramDone => exact execPageProgramDone_answers
  case copyVerified => exact execCopyVerified_answers
  case groupAccept => exact execGroupAccept_answers
  case groupRelease => exact execGroupRelease_answers
  case eraseDone => exact execEraseDone_answers
  case enumerate => exact .ite .next .next
  case denSensorRestored => exact .ite .next .next
  case reorderGapExpire => exact .ite .next .next
  case linkDataFrame =>
    exact .ite .next (.ite .next (.ite .next (.ite .next (.ite .next (.ite .next (.ite .next (.ite .next .next)))))))
  case linkResync => exact .ite .next .next
  case linkHoldExpire => exact .ite .next .next
  case linkUp => exact .ite .next .next
  case linkDown => exact .ite .next .next
  case sync => exact .ite .next (.ite .next .next)
  case syncLossExpire => exact .ite .next .next
  case startWaitExpire => exact .ite .next .next
  case pdelayResp => exact .ite .next (.ite .next .next)
  case ppsInEdge => exact .ite .next (.ite .next .next)
  case ppsOutPulse => exact .ite .next .next
  case ledgerWorn => exact .ite .next .next
  case ftlSnapshot => exact .ite .next .next
  case flashDieLost => exact .ite .next .next
  all_goals exact .next

end

/-- Settles O7: a step executes the front command, or on an empty queue leaves the state. -/
theorem everyCommandHasAnOutcomeState : Obligations.EveryCommandHasAnOutcomeState := by
  refine ⟨fun c s => exec_answers c, fun s => ?_⟩
  unfold completes step
  split
  · exact ⟨s, rfl⟩
  · exact exec_answers _

end Sys2Proof.Machine
end

section
/-! A write as a payload, and what a write leaves in the fields of its page (00 Table 00-3; 02 R75). -/
namespace Sys2Proof.Machine

theorem fieldWrite_bits {f : Fld} {i v : Nat} (hf : f.lo + f.width ≤ 2048) :
    (fieldWrite f i v).data < 2 ^ 2048 ∧ (fieldWrite f i v).mask < 2 ^ 2048 :=
  ⟨mul_two_pow_lt (Nat.mod_lt _ (Nat.two_pow_pos _)) hf,
    mul_two_pow_lt (Nat.sub_lt (Nat.two_pow_pos _) Nat.one_pos) hf⟩

/-- Outside its field a write of one field is 0. -/
theorem bitAt_mul_outside {x lo w n : Nat} (hx : x < 2 ^ w) (hn : n < lo ∨ lo + w ≤ n) : bitAt (x * 2 ^ lo) n = false := by
  have hzero : bitsAt (x * 2 ^ lo) n 1 = 0 := bitsAt_mul_disjoint hx (hn.imp_left Nat.succ_le_of_lt)
  rw [bitsAt, Nat.pow_one] at hzero
  rw [bitAt, hzero]
  rfl

/-- Settles O23: the payload's parts stand at their places, and a field write fills its field's place alone. -/
theorem parameterWriteRoundTrip : Obligations.ParameterWriteRoundTrip := by
  refine ⟨fun w hpage hinst hdata hmask => ?_, fun f i v hf => ?_⟩
  · have hback : parseWrite w.payload = w := parseWrite_payload ⟨hpage, hinst, hdata, hmask⟩
    exact ⟨PWrite.payload_length, hback, congrArg PWrite.page hback, congrArg PWrite.inst hback⟩
  · have hv : v % 2 ^ f.width < 2 ^ f.width := Nat.mod_lt _ (Nat.two_pow_pos _)
    have hones : 2 ^ f.width - 1 < 2 ^ f.width := Nat.sub_lt (Nat.two_pow_pos _) Nat.one_pos
    obtain ⟨hdata, hmask⟩ := fieldWrite_bits (i := i) (v := v) hf
    exact ⟨hdata, hmask, bitsAt_mul_self hv, covers_fieldWrite_self,
      fun n hn => ⟨bitAt_mul_outside hones hn, bitAt_mul_outside hv hn⟩⟩

/-! One field of a write applied. -/

theorem fieldBits_lt {f : Fld} {v : Nat} (hv : v < 2 ^ f.width) : fieldBits f v < 2 ^ f.width := by
  unfold fieldBits setBits
  split
  · simp only [Nat.zero_mod, Nat.zero_mul, Nat.add_zero]
    exact Nat.lt_of_le_of_lt (Nat.sub_le ..) hv
  · exact hv

/-- What a write makes of the value that a field of its page and instance holds (00 Table 00-3; 02 R75). -/
def fieldAfter (w : PWrite) (f : Fld) (old : Nat) : Nat :=
  let v := fieldBits f (bitsAt w.data f.lo f.width)
  if writable f ∧ covers w f then (if f.acc = .w1c then (old - Nat.land old v) % 2 ^ f.width else v) else old

section
variable {w : PWrite} {f g : Fld} {j : Nat} {s : State} {l : List Fld}

theorem applyField_regs : applyField w f s = { s with regs := (applyField w f s).regs } := by
  unfold applyField
  dsimp only
  split
  · split <;> rfl
  · rfl

theorem applyField_tidy (hf : f.known) (x : s.tidy = true) : (applyField w f s).tidy = true :=
  (applyField_kept hf (.refl s)).tidy x

theorem rdI_applyField_self (x : s.tidy = true) :
    rdI (applyField w f s) f w.inst = fieldAfter w f (rdI s f w.inst) := by
  have hv : bitsAt w.data f.lo f.width < 2 ^ f.width := Nat.mod_lt _ (Nat.two_pow_pos _)
  unfold applyField fieldAfter
  simp only [Bool.and_eq_true]
  split
  · split
    · exact rdI_wrI_self (tidy_rising x)
    · rw [rdI_wrI_self (tidy_rising x), Nat.mod_eq_of_lt (fieldBits_lt hv)]
  · rfl

theorem rdI_applyField_ne (x : s.tidy = true) (hf : f.known) (hg : g.known) (hi : w.inst < 16) (hj : j < 16)
    (hne : (g, j) ≠ (f, w.inst)) : rdI (applyField w f s) g j = rdI s g j := by
  have hplace := places_differ hf hg hi hj hne
  unfold applyField
  dsimp only
  split
  · split <;> exact rdI_wrI_other hf hg hplace x
  · rfl

/-! All fields of a write applied in turn. -/

theorem foldl_applyField_regs :
    l.foldl (fun t f => applyField w f t) s = { s with regs := (l.foldl (fun t f => applyField w f t) s).regs } := by
  induction l generalizing s with
  | nil => rfl
  | cons f l ih => rw [List.foldl_cons, ih, applyField_regs]

theorem rdI_foldl_applyField_ne (hl : ∀ f ∈ l, f.known) (x : s.tidy = true) (hg : g.known) (hi : w.inst < 16) (hj : j < 16)
    (hne : g ∉ l ∨ j ≠ w.inst) : rdI (l.foldl (fun t f => applyField w f t) s) g j = rdI s g j := by
  induction l generalizing s with
  | nil => rfl
  | cons f l ih =>
    have hf : f.known := hl f List.mem_cons_self
    have hhead : (g, j) ≠ (f, w.inst) := by
      rintro ⟨⟩
      exact hne.elim (fun h => h List.mem_cons_self) (fun h => h rfl)
    rw [List.foldl_cons, ih (fun f hm => hl f (List.mem_cons_of_mem _ hm)) (applyField_tidy hf x)
      (hne.imp_left (mt (List.mem_cons_of_mem _))), rdI_applyField_ne x hf hg hi hj hhead]

theorem rdI_foldl_applyField_mem (hl : ∀ f ∈ l, f.known) (hn : l.Nodup) (x : s.tidy = true) (hi : w.inst < 16)
    (hg : g ∈ l) : rdI (l.foldl (fun t f => applyField w f t) s) g w.inst = fieldAfter w g (rdI s g w.inst) := by
  induction l generalizing s with
  | nil => cases hg
  | cons f l ih =>
    have hf : f.known := hl f List.mem_cons_self
    have hl' : ∀ f ∈ l, f.known := fun f hm => hl f (List.mem_cons_of_mem _ hm)
    obtain ⟨hnf, hn⟩ := List.nodup_cons.mp hn
    rw [List.foldl_cons]
    rcases List.mem_cons.mp hg with rfl | hgl
    · rw [rdI_foldl_applyField_ne hl' (applyField_tidy hf x) hf hi hi (.inl hnf), rdI_applyField_self x]
    · have hne : (g, w.inst) ≠ (f, w.inst) := fun e => hnf ((Prod.mk.inj e).1 ▸ hgl)
      rw [ih hl' hn (applyField_tidy hf x) hgl, rdI_applyField_ne x hf (hl' g hgl) hi hi hne]

end

theorem pageFields_nodup {p : Nat} : (pageFields p).Nodup := by
  have ok := pageFields_ok p
  simp only [tableOk, Bool.and_eq_true, decide_eq_true_eq] at ok
  exact List.Pairwise.of_map Fld.lo (fun _ _ hne e => hne (congrArg Fld.lo e)) ok.2

/-- A write makes `fieldAfter` of each field of its page and instance, and leaves every other field. -/
theorem rdI_writePage {w : PWrite} {f : Fld} {j : Nat} {s : State} (x : s.tidy = true) (hi : w.inst < 16) (hj : j < 16)
    (hf : f ∈ pageFields f.page) :
    rdI (writePage w s) f j = if f.page = w.page ∧ j = w.inst then fieldAfter w f (rdI s f j) else rdI s f j := by
  have hl : ∀ g ∈ pageFields w.page, g.known := fun g hg => pageFields_known hg
  split
  case isTrue h =>
    obtain ⟨hpage, rfl⟩ := h
    exact rdI_foldl_applyField_mem hl pageFields_nodup x hi (hpage ▸ hf)
  case isFalse h =>
    have hne : f ∉ pageFields w.page ∨ j ≠ w.inst :=
      (not_and_or.mp h).imp_left (mt pageFields_page)
    exact rdI_foldl_applyField_ne hl x (pageFields_known hf) hi hj hne

theorem writePage_regs {w : PWrite} {s : State} : writePage w s = { s with regs := (writePage w s).regs } :=
  foldl_applyField_regs

/-- The pages whose writes neither wait for work of the legal pair nor lead to anything further. -/
def plainPages : List Nat :=
  [0x02, 0x03, 0x04, 0x10, 0x11, 0x12, 0x13, 0x40, 0x41, 0x42, 0x43, 0x44, 0x50, 0x51, 0x60]

/-- A write without legal authority to a plain page is the write of its fields and nothing else. -/
theorem applyWrite_plain {w : PWrite} {s : State} (hlegal : needsLegal w = false) (hpage : w.page ∈ plainPages) :
    applyWrite w s = writePage w s := by
  obtain ⟨h01, h20, h21, h30, h31, h32, h52⟩ := (by decide : ∀ p ∈ plainPages,
    p ≠ 0x01 ∧ p ≠ 0x20 ∧ p ≠ 0x21 ∧ p ≠ 0x30 ∧ p ≠ 0x31 ∧ p ≠ 0x32 ∧ p ≠ 0x52) w.page hpage
  have hbefore : beforeWrite w s = s := by
    rw [beforeWrite, if_neg (fun h => h30 h.1), if_neg h31]
  have hafter : ∀ t, afterWrite w s t = t := fun t => by
    simp only [afterWrite]
  simp only [applyWrite, hbefore, hafter, hlegal, Bool.false_eq_true, if_false]

/-- Settles O24: field by field, then the whole page, then the effect of SET_PARAM. -/
theorem parameterWriteSetsExactlyTheCoveredFields : Obligations.ParameterWriteSetsExactlyTheCoveredFields := by
  refine ⟨fun w f j s htidy hi hj hf => ?_, fun w s => writePage_regs, fun h q sig a d s _ hlegal hpage => ?_⟩
  · simp only [rdI_writePage htidy hi hj hf, fieldAfter, ← ite_and, and_assoc]
  · have hauth : underAuth (parseWrite d) d = false := by simp [underAuth, hlegal]
    show effSetParam _ s = _
    simp only [effSetParam, hauth, Bool.false_eq_true, if_false]
    exact applyWrite_plain hlegal hpage

end Sys2Proof.Machine
end

section
/-! Several fields in one number: each reads back at its place (02 R74, R75). -/
namespace Sys2Proof.Machine

/-- The number that holds each value at the place of its field. -/
def fieldSum (l : List (Fld × Nat)) : Nat := (l.map (fun x => x.2 * 2 ^ x.1.lo)).sum

/-- The fields follow each other, and each value fits its field. -/
def InPlace (l : List (Fld × Nat)) : Prop :=
  l.Pairwise (fun x y => x.1.lo + x.1.width ≤ y.1.lo) ∧ ∀ x ∈ l, x.2 < 2 ^ x.1.width

section
variable {x y lo w m n : Nat} {a : Fld × Nat} {l : List (Fld × Nat)}

/-! Bits of a sum whose second part lies above the first. -/

theorem bitsAt_add_high (hy : 2 ^ m ∣ y) (h : lo + w ≤ m) : bitsAt (x + y) lo w = bitsAt x lo w := by
  obtain ⟨k, rfl⟩ := (Nat.pow_dvd_pow 2 h).trans hy
  rw [bitsAt, bitsAt, Nat.pow_add, Nat.mul_assoc, Nat.add_mul_div_left _ _ (Nat.two_pow_pos lo), Nat.add_mul_mod_self_left]

theorem bitsAt_add_low (hx : x < 2 ^ m) (hy : 2 ^ m ∣ y) (h : m ≤ lo) : bitsAt (x + y) lo w = bitsAt y lo w := by
  obtain ⟨k, rfl⟩ := hy
  obtain ⟨e, rfl⟩ := Nat.exists_eq_add_of_le h
  rw [bitsAt, bitsAt, Nat.pow_add, ← Nat.div_div_eq_div_mul, ← Nat.div_div_eq_div_mul,
    Nat.add_mul_div_left _ _ (Nat.two_pow_pos m), Nat.div_eq_of_lt hx, Nat.zero_add,
    Nat.mul_div_cancel_left _ (Nat.two_pow_pos m)]

theorem bitsAt_of_dvd (hy : 2 ^ m ∣ y) (h : lo + w ≤ m) : bitsAt y lo w = 0 := by
  have hsum := bitsAt_add_high (x := 0) hy h
  rwa [Nat.zero_add, bitsAt, bitsAt, Nat.zero_div, Nat.zero_mod] at hsum

/-! Sums of fields. -/

theorem fieldSum_cons : fieldSum (a :: l) = a.2 * 2 ^ a.1.lo + fieldSum l := rfl

theorem InPlace.tail (h : InPlace (a :: l)) : InPlace l :=
  ⟨(List.pairwise_cons.mp h.1).2, fun x hx => h.2 x (List.mem_cons_of_mem _ hx)⟩

theorem fieldSum_dvd (h : ∀ x ∈ l, m ≤ x.1.lo) : 2 ^ m ∣ fieldSum l :=
  List.dvd_sum fun v hv => by
    obtain ⟨x, hx, rfl⟩ := List.mem_map.mp hv
    exact ((Nat.pow_dvd_pow 2 (h x hx)).mul_left x.2)

/-- The later fields lie above the first. -/
theorem InPlace.dvd (h : InPlace (a :: l)) : 2 ^ (a.1.lo + a.1.width) ∣ fieldSum l :=
  fieldSum_dvd (List.pairwise_cons.mp h.1).1

theorem InPlace.head_lt (h : InPlace (a :: l)) : a.2 * 2 ^ a.1.lo < 2 ^ (a.1.lo + a.1.width) :=
  mul_two_pow_lt (h.2 a List.mem_cons_self) (Nat.le_refl _)

/-- A field reads its value. -/
theorem bitsAt_fieldSum_mem (h : InPlace l) (ha : a ∈ l) : bitsAt (fieldSum l) a.1.lo a.1.width = a.2 := by
  induction l with
  | nil => cases ha
  | cons b l ih =>
    rw [fieldSum_cons]
    rcases List.mem_cons.mp ha with rfl | hal
    · rw [bitsAt_add_high h.dvd (Nat.le_refl _), bitsAt_mul_self (h.2 a List.mem_cons_self)]
    · rw [bitsAt_add_low h.head_lt h.dvd ((List.pairwise_cons.mp h.1).1 a hal), ih h.tail hal]

/-- A place that no field of the sum shares is 0. -/
theorem bitsAt_fieldSum_disjoint (h : InPlace l) (hd : ∀ x ∈ l, lo + w ≤ x.1.lo ∨ x.1.lo + x.1.width ≤ lo) :
    bitsAt (fieldSum l) lo w = 0 := by
  induction l with
  | nil => rw [fieldSum, List.map_nil, List.sum_nil, bitsAt, Nat.zero_div, Nat.zero_mod]
  | cons b l ih =>
    rcases hd b List.mem_cons_self with hbelow | habove
    · refine bitsAt_of_dvd (fieldSum_dvd fun x hx => ?_) (Nat.le_refl _)
      rcases List.mem_cons.mp hx with rfl | hxl
      · exact hbelow
      · exact (hbelow.trans (Nat.le_add_right ..)).trans ((List.pairwise_cons.mp h.1).1 x hxl)
    · rw [fieldSum_cons, bitsAt_add_low h.head_lt h.dvd habove, ih h.tail fun x hx => hd x (List.mem_cons_of_mem _ hx)]

theorem fieldSum_lt (h : InPlace l) (hn : ∀ x ∈ l, x.1.lo + x.1.width ≤ n) : fieldSum l < 2 ^ n := by
  induction l with
  | nil => exact Nat.two_pow_pos n
  | cons b l ih =>
    obtain ⟨k, hk⟩ := Nat.exists_eq_add_of_le (hn b List.mem_cons_self)
    obtain ⟨y, hy⟩ := h.dvd
    have hhead := h.head_lt
    have hl : fieldSum l < 2 ^ n := ih h.tail fun x hx => hn x (List.mem_cons_of_mem _ hx)
    rw [hk, Nat.pow_add, hy] at hl
    have hyk : y + 1 ≤ 2 ^ k := Nat.lt_of_mul_lt_mul_left hl
    calc fieldSum (b :: l) = b.2 * 2 ^ b.1.lo + 2 ^ (b.1.lo + b.1.width) * y := by rw [fieldSum_cons, hy]
      _ < 2 ^ (b.1.lo + b.1.width) * (y + 1) := by rw [Nat.mul_succ]; omega
      _ ≤ 2 ^ (b.1.lo + b.1.width) * 2 ^ k := Nat.mul_le_mul_left _ hyk
      _ = 2 ^ n := by rw [hk, ← Nat.pow_add]

end

theorem pageFields_ordered {p : Nat} : (pageFields p).Pairwise (fun f g => f.lo + f.width ≤ g.lo) := by
  have ok := pageFields_layoutOk p
  simp only [layoutOk, Bool.and_eq_true, decide_eq_true_eq] at ok
  exact ok.2

/-- Values that fit, each for a field of a page in the page's order. -/
theorem inPlace_of_page {p : Nat} {v : Fld → Nat} (hv : ∀ f ∈ pageFields p, v f < 2 ^ f.width) :
    InPlace ((pageFields p).map fun f => (f, v f)) :=
  ⟨List.pairwise_map.mpr pageFields_ordered, fun x hx => by
    obtain ⟨f, hf, rfl⟩ := List.mem_map.mp hx
    exact hv f hf⟩

end Sys2Proof.Machine
end

section
/-! The parameter commands (02 R63, R74 to R77). -/
namespace Sys2Proof.Machine

section
variable {h : Hdr} {p : List Byte} {sig acc : Bool} {s : State} {st d : Nat} {body : State → Ans}

/-! A served command that its own checks refuse. -/

theorem runCmd_fails (hs : Served h p acc s) (hbody : body s = .fail st d) :
    runCmd h p acc body s = finish h p st d [] s := by
  rw [runCmd_served hs, hbody]
  rfl

theorem runCmd_accepts {data eb : List Byte} {c : Instr} {args : List Nat} (hs : Served h p acc s)
    (hbody : body s = .accept data eb { cmd := some c, args := args } s) :
    runCmd h p acc body s = accepted h p data eb c args s := by
  rw [runCmd_served hs, hbody]
  rfl

theorem runCmd_done {data : List Byte} {t : State} (hs : Served h p acc s) (hbody : body s = .done data t) :
    runCmd h p acc body s = finish h p stDone 0 data t := by
  rw [runCmd_served hs, hbody]
  rfl

theorem runCmd_atBoundary {c : Instr} {args : List Nat} (hs : Served h p acc s)
    (hbody : body s = .doneAtBeat { cmd := some c, args := args } s) :
    runCmd h p acc body s = atBoundary h p c args s := by
  rw [runCmd_served hs, hbody]
  rfl

/-! SET_PARAM. -/

theorem pageGate_unknown {page i : Nat} (hp : page ∉ pageNumbers) : pageGate s page i = some (stUnknownPage, 0) := by
  rw [pageGate, if_pos (by simpa using hp)]

theorem pageGate_instance {page i : Nat} (hp : page ∈ pageNumbers) (hi : instOk page i = false) :
    pageGate s page i = some (stOutOfRange, 0xFFFF) := by
  rw [pageGate, if_neg (by simpa using hp), if_pos hi]

theorem setParamBody_gate {x : Nat × Nat} (hg : pageGate s (parseWrite p).page (parseWrite p).inst = some x) :
    setParamBody h p sig s = .fail x.1 x.2 := by
  simp only [setParamBody, hg]

/-- A write to a page that is there: the checks of R75, the refusals of the field's chapter, then the effect. -/
theorem setParamBody_page (hg : pageGate s (parseWrite p).page (parseWrite p).inst = none) :
    setParamBody h p sig s =
      match checkWrite s (parseWrite p) (authGood s (parseWrite p) p sig) with
      | some x => .fail x.1 x.2
      | none =>
        if deniedState s (parseWrite p) then .fail stDeniedState 0
        else if writesNL (parseWrite p) then
          .accept [] (p.take 516 ++ (if underAuth (parseWrite p) p then leB 8 (authCount p) else []))
            { cmd := some (.setParam h p sig), args := if underAuth (parseWrite p) p then [authCount p] else [] } s
        else .doneAtBeat
          { cmd := some (.setParam h p sig), args := if underAuth (parseWrite p) p then [authCount p] else [] } s := by
  simp only [setParamBody, hg] <;> rfl

variable {w : PWrite} {auth : Bool}

theorem checkWrite_partial {b : Nat} (hp : partialAt w = some b) : checkWrite s w auth = some (stBadPayload, b) := by
  simp only [checkWrite, hp]

theorem checkWrite_legal (hp : partialAt w = none) (hl : needsLegal w = true) (ha : auth = false) :
    checkWrite s w auth = some (stDeniedLegal, 0) := by
  simp only [checkWrite, hp, hl, ha, and_self, if_true]

theorem checkWrite_range (hp : partialAt w = none) (hl : ¬ (needsLegal w = true ∧ auth = false)) :
    checkWrite s w auth = (((rangeAt s w).toList ++ (planAt s w).toList).min?).map (fun b => (stOutOfRange, b)) := by
  simp only [checkWrite, hp, if_neg hl]

end

/-- Settles O25: the page, then the checks of R75 in their order, then what the write comes to. -/
theorem setParamIsCheckedInOrder : Obligations.SetParamIsCheckedInOrder := by
  intro h p sig s w range refused args hs
  have fails : ∀ {st d : Nat}, setParamBody h p sig s = .fail st d → exec (.setParam h p sig) s = ended h p st d s :=
    fun hbody => congrArg Host.Outcome.next (runCmd_fails hs hbody)
  refine ⟨fun hpage => fails (setParamBody_gate (pageGate_unknown hpage)),
    fun hpage hinst => fails (setParamBody_gate (pageGate_instance hpage hinst)), fun hgate => ?_⟩
  have hbody := setParamBody_page (h := h) (sig := sig) hgate
  refine ⟨fun b hb => ?partly, fun hb hl => ?legal, fun hb hl b hr => ?range, fun hb hl hr hd => ?denied,
    fun hb hl hr hd hn => ?accepted, fun hb hl hr hd hn => ?boundary⟩
  case partly =>
    rw [checkWrite_partial hb] at hbody
    exact fails hbody
  case legal =>
    rw [checkWrite_legal hb hl.1 hl.2] at hbody
    exact fails hbody
  all_goals
    rw [checkWrite_range hb hl, show ((rangeAt s _).toList ++ (planAt s _).toList).min? = _ from hr] at hbody
  case range => exact fails hbody
  case denied => exact fails (hbody.trans (if_pos hd))
  case accepted =>
    rw [Option.map_none] at hbody
    have hbody := hbody.trans ((if_neg (by simp [w, hd])).trans (if_pos hn))
    exact congrArg Host.Outcome.next (runCmd_accepts hs hbody)
  case boundary =>
    have hbody := hbody.trans ((if_neg (by simp [w, hd])).trans (if_neg (by simp [w, hn])))
    exact congrArg Host.Outcome.next (runCmd_atBoundary hs hbody)

/-! Pages read. -/

section
variable {h : Hdr} {p : List Byte} {s : State}

theorem pageRead_page {bytes : State → Nat → Nat → Nat} (hg : pageGate s (byteAt p 0) (byteAt p 1) = none) :
    pageRead p bytes s = .done (leB 256 (bytes s (byteAt p 0) (byteAt p 1))) s := by
  simp only [pageRead, hg]

/-- The fields of a page with their values in an instance, 0 for a field that the instance does not have. -/
def pageValues (s : State) (page i : Nat) : List (Fld × Nat) :=
  (pageFields page).map (fun f => (f, if fldExists f i then rdI s f i else 0))

theorem pageValue_eq {page i : Nat} : pageValue s page i = fieldSum (pageValues s page i) := by
  rw [pageValue, fieldSum, pageValues, List.map_map]
  refine congrArg List.sum (List.map_congr_left fun f _ => ?_)
  show (if fldExists f i then _ else 0) = (if fldExists f i then rdI s f i else 0) * 2 ^ f.lo
  rw [ite_mul, Nat.zero_mul]

/-- When every value fits its field, the bits of an existing field's place in the page's 256 bytes are its value. -/
theorem bitsAt_pageValue {page i : Nat} {f : Fld} (hfit : ∀ g ∈ pageFields page, rdI s g i < 2 ^ g.width)
    (hf : f ∈ pageFields page) (hex : fldExists f i = true) :
    bitsAt (leAt (leB 256 (pageValue s page i)) 0 256) f.lo f.width = rdI s f i := by
  have hplace : InPlace (pageValues s page i) := inPlace_of_page fun g hg => by
    split
    · exact hfit g hg
    · exact Nat.two_pow_pos _
  have hlt : fieldSum (pageValues s page i) < 256 ^ 256 := two_pow_page ▸ fieldSum_lt hplace fun x hx => by
    obtain ⟨g, hg, rfl⟩ := List.mem_map.mp hx
    exact (pageFields_bounds hg).2
  have hmem : (f, rdI s f i) ∈ pageValues s page i := List.mem_map.mpr ⟨f, hf, by rw [if_pos hex]⟩
  rw [pageValue_eq, ← List.append_nil (leB 256 _), leAt_leB_head hlt]
  exact bitsAt_fieldSum_mem hplace hmem

/-! RESTORE_DEFAULTS. -/

/-- A restore of a page that is there, refused by no chapter. -/
theorem restoreBody_page (hg : pageGate s (defaultsWrite (byteAt p 0) (byteAt p 1)).page
      (defaultsWrite (byteAt p 0) (byteAt p 1)).inst = none)
    (hd : deniedState s (defaultsWrite (byteAt p 0) (byteAt p 1)) = false) :
    restoreBody h p s =
      if writesNL (defaultsWrite (byteAt p 0) (byteAt p 1)) then .accept [] p { cmd := some (.restoreDefaults h p) } s
      else .doneAtBeat { cmd := some (.restoreDefaults h p) } s := by
  simp only [restoreBody, hg, hd, Bool.false_eq_true, if_false]

end

/-- Settles O26: the page's number as a sum of fields in place, its defaults, and the restore by what it writes. -/
theorem parameterReadsComplete : Obligations.ParameterReadsComplete := by
  refine ⟨fun h p s hs => ⟨fun hg => ?value, fun hg => ?defaults⟩,
    fun h p s hs hg hd => ⟨fun hn => ?accepted, fun hn => ?boundary⟩⟩
  case value =>
    exact ⟨leB 256 (pageValue s (byteAt p 0) (byteAt p 1)), leB_length, rfl, fun hfit f hf hex => bitsAt_pageValue hfit hf hex,
      congrArg Host.Outcome.next (runCmd_done hs (pageRead_page hg))⟩
  case defaults => exact congrArg Host.Outcome.next (runCmd_done hs (pageRead_page hg))
  case accepted =>
    exact congrArg Host.Outcome.next (runCmd_accepts hs ((restoreBody_page hg hd).trans (if_pos hn)))
  case boundary =>
    exact congrArg Host.Outcome.next
      (runCmd_atBoundary hs ((restoreBody_page hg hd).trans (if_neg (ne_true_of_eq_false hn))))

end Sys2Proof.Machine
end

section
/-! Writes of fields under legal authority, one or several of a page at once, with an authority block and without one (02 R69,
R75; 10 R364; 11 R377, R381, R387, R388, R405). -/
namespace Sys2Proof.Machine

/-! A write of several fields. -/

/-- The write of several fields of a page of one instance, each with its value cut to its width. -/
def fieldsWrite (page : Nat) (l : List (Fld × Nat)) : PWrite :=
  ⟨page, 0, fieldSum (l.map fun x => (x.1, x.2 % 2 ^ x.1.width)), fieldSum (l.map fun x => (x.1, 2 ^ x.1.width - 1))⟩

theorem fieldWrite_eq_fieldsWrite {f : Fld} {v : Nat} : fieldWrite f 0 v = fieldsWrite f.page [(f, v)] := rfl

theorem fieldsWrite_also {page v : Nat} {f : Fld} {l : List (Fld × Nat)} :
    (fieldsWrite page l).also (fieldWrite f 0 v) = fieldsWrite page (l ++ [(f, v)]) := by
  simp [fieldsWrite, PWrite.also, fieldWrite, fieldSum]

theorem fieldsWrite_foldl_also {page : Nat} {k l : List (Fld × Nat)} :
    (l.map fun x => fieldWrite x.1 0 x.2).foldl PWrite.also (fieldsWrite page k) = fieldsWrite page (k ++ l) := by
  induction l generalizing k with
  | nil => rw [List.append_nil]; rfl
  | cons x l ih => rw [List.map_cons, List.foldl_cons, fieldsWrite_also, ih, List.append_assoc, List.singleton_append]

/-- The pages with fields under legal authority (10 R364; 11 R377, R405). -/
def legalPages : List Nat := [0x30, 0x31, 0x60]

/-- Fields of a page that are written under legal authority, in the page's order. -/
abbrev LegalFields (page : Nat) (fs : List Fld) : Prop :=
  page ∈ legalPages ∧ fs ≠ [] ∧ (∀ f ∈ fs, f ∈ pageFields page ∧ f.acc = .rwl ∧ f.cls = .l) ∧
    fs.Pairwise (fun f g => f.lo + f.width ≤ g.lo)

section
variable {page : Nat} {l : List (Fld × Nat)} {s : State} {f : Fld} {x : Fld × Nat}

theorem LegalFields.listed (h : LegalFields page (l.map Prod.fst)) (hx : x ∈ l) :
    x.1 ∈ pageFields page ∧ x.1.acc = .rwl ∧ x.1.cls = .l := h.2.2.1 x.1 (List.mem_map_of_mem hx)

/-- Any values that fit the fields stand in place. -/
theorem LegalFields.inPlace (h : LegalFields page (l.map Prod.fst)) {v : Fld × Nat → Nat} (hv : ∀ x, v x < 2 ^ x.1.width) :
    InPlace (l.map fun x => (x.1, v x)) :=
  ⟨List.pairwise_map.mpr (List.pairwise_map.mp h.2.2.2), fun y hy => by
    obtain ⟨x, -, rfl⟩ := List.mem_map.mp hy
    exact hv x⟩

theorem cut_lt (x : Fld × Nat) : x.2 % 2 ^ x.1.width < 2 ^ x.1.width := Nat.mod_lt _ (Nat.two_pow_pos _)

theorem ones_lt (x : Fld × Nat) : 2 ^ x.1.width - 1 < 2 ^ x.1.width := Nat.sub_lt (Nat.two_pow_pos _) Nat.one_pos

theorem LegalFields.bitsAt_data (h : LegalFields page (l.map Prod.fst)) (hx : x ∈ l) :
    bitsAt (fieldsWrite page l).data x.1.lo x.1.width = x.2 % 2 ^ x.1.width :=
  bitsAt_fieldSum_mem (h.inPlace cut_lt) (List.mem_map.mpr ⟨x, hx, rfl⟩)

/-- Such a write covers its fields whole. -/
theorem LegalFields.covers_mem (h : LegalFields page (l.map Prod.fst)) (hx : x ∈ l) :
    covers (fieldsWrite page l) x.1 = true := by
  have hones : bitsAt (fieldsWrite page l).mask x.1.lo x.1.width = 2 ^ x.1.width - 1 :=
    bitsAt_fieldSum_mem (h.inPlace ones_lt) (List.mem_map.mpr ⟨x, hx, rfl⟩)
  simp only [covers, hones, beq_self_eq_true]

/-- Such a write touches no other field of the page. -/
theorem LegalFields.touches_other (h : LegalFields page (l.map Prod.fst)) (hf : f ∈ pageFields page)
    (hn : f ∉ l.map Prod.fst) : touches (fieldsWrite page l) f = false := by
  have hzero : bitsAt (fieldsWrite page l).mask f.lo f.width = 0 := by
    refine bitsAt_fieldSum_disjoint (h.inPlace ones_lt) fun y hy => ?_
    obtain ⟨x, hx, rfl⟩ := List.mem_map.mp hy
    have hne : f ≠ x.1 := fun e => hn (e ▸ List.mem_map_of_mem hx)
    exact pageFields_disjoint hf (h.listed hx).1 hne
  simp [touches, hzero]

theorem LegalFields.touches_eq (h : LegalFields page (l.map Prod.fst)) (hf : f ∈ pageFields page) :
    touches (fieldsWrite page l) f = decide (f ∈ l.map Prod.fst) := by
  by_cases hm : f ∈ l.map Prod.fst
  · obtain ⟨x, hx, rfl⟩ := List.mem_map.mp hm
    rw [touches_of_covers hf (h.covers_mem hx), decide_eq_true hm]
  · rw [h.touches_other hf hm, decide_eq_false hm]

/-! The checks of R75 on such a write. -/

theorem LegalFields.partialAt_eq_none (h : LegalFields page (l.map Prod.fst)) : partialAt (fieldsWrite page l) = none := by
  have hnone : ∀ g ∈ pageFields page,
      ¬ (writable g && touches (fieldsWrite page l) g && !covers (fieldsWrite page l) g) = true := by
    intro g hg
    by_cases hm : g ∈ l.map Prod.fst
    · obtain ⟨x, hx, rfl⟩ := List.mem_map.mp hm
      simp [h.covers_mem hx]
    · simp [h.touches_other hg hm]
  rw [partialAt, show (fieldsWrite page l).page = page from rfl, List.find?_eq_none.mpr hnone, Option.map_none]

theorem LegalFields.exists_touched (h : LegalFields page (l.map Prod.fst)) :
    ∃ g ∈ pageFields page, g.acc = .rwl ∧ g.cls = .l ∧ touches (fieldsWrite page l) g = true := by
  obtain ⟨g, hg⟩ := List.exists_mem_of_ne_nil _ h.2.1
  obtain ⟨hp, hacc, hcls⟩ := h.2.2.1 g hg
  exact ⟨g, hp, hacc, hcls, by rw [h.touches_eq hp, decide_eq_true hg]⟩

theorem LegalFields.needsLegal (h : LegalFields page (l.map Prod.fst)) : needsLegal (fieldsWrite page l) = true := by
  obtain ⟨g, hg, hacc, -, ht⟩ := h.exists_touched
  exact List.any_eq_true.mpr ⟨g, hg, by simp [hacc, ht]⟩

theorem LegalFields.writesNL (h : LegalFields page (l.map Prod.fst)) : writesNL (fieldsWrite page l) = true := by
  obtain ⟨g, hg, hacc, hcls, ht⟩ := h.exists_touched
  exact List.any_eq_true.mpr ⟨g, hg, by simp [writable, hacc, hcls, ht]⟩

/-- The write that R32 allows at any time is of page 0x04. -/
theorem LegalFields.clearsNode (h : LegalFields page (l.map Prod.fst)) : clearsNode (fieldsWrite page l) = false := by
  have hpage : page ≠ 0x04 := (by decide : ∀ q ∈ legalPages, q ≠ 0x04) page h.1
  simp [Machine.clearsNode, fieldsWrite, hpage]

theorem fldExists_zero : fldExists f 0 = true := by
  unfold fldExists
  split
  · rfl
  · split <;> rfl

/-- Each value fits its field and lies in its range. -/
def InRange (l : List (Fld × Nat)) : Prop :=
  ∀ x ∈ l, x.2 < 2 ^ x.1.width ∧ inRng x.1.rng (if x.1.signed then toS x.1.width x.2 else (x.2 : Int)) = true

theorem LegalFields.after_eq (h : LegalFields page (l.map Prod.fst)) (hx : x ∈ l) (hfit : x.2 < 2 ^ x.1.width) :
    after s (fieldsWrite page l) x.1 = x.2 := by
  obtain ⟨hp, hacc, -⟩ := h.listed hx
  rw [after, if_pos ⟨pageFields_page hp, by simp [writable, hacc], h.covers_mem hx⟩, h.bitsAt_data hx, Nat.mod_eq_of_lt hfit]

/-- Values in range, none of them at odds with another field, pass the third check. -/
theorem LegalFields.rangeAt_eq_none (h : LegalFields page (l.map Prod.fst)) (hr : InRange l)
    (htied : ∀ r ∈ crossRules s (fieldsWrite page l), (∃ g ∈ r.1, g ∈ l.map Prod.fst) → r.2 = true) :
    rangeAt s (fieldsWrite page l) = none := by
  have hbad : ∀ g ∈ pageFields page, ¬ (writable g && g.acc != .w1c && covers (fieldsWrite page l) g &&
      (!valueOk s (fieldsWrite page l) g || !fldExists g 0)) = true := by
    intro g hg
    by_cases hm : g ∈ l.map Prod.fst
    · obtain ⟨x, hx, rfl⟩ := List.mem_map.mp hm
      obtain ⟨hfit, hrng⟩ := hr x hx
      simp [valueOk, afterS, h.after_eq hx hfit, hrng, fldExists_zero]
    · have hc := mt (touches_of_covers hg) (by rw [h.touches_other hg hm]; decide)
      simp [hc]
  have hrules : ∀ r ∈ crossRules s (fieldsWrite page l), ¬ (!r.2 && r.1.any (touches (fieldsWrite page l))) = true := by
    intro r hrule hfail
    simp only [Bool.and_eq_true, Bool.not_eq_true', List.any_eq_true] at hfail
    obtain ⟨hfalse, g, hg, ht⟩ := hfail
    have hp : g ∈ pageFields page := tiedFields_subset _ (crossRules_tiedFields hrule) hg
    rw [h.touches_eq hp, decide_eq_true_eq] at ht
    exact absurd (htied r hrule ⟨g, hg, ht⟩) (by simp [hfalse])
  simp only [rangeAt, show (fieldsWrite page l).page = page from rfl, show (fieldsWrite page l).inst = 0 from rfl,
    List.filter_eq_nil_iff.mpr hbad, List.filter_eq_nil_iff.mpr hrules, List.map_nil, List.flatten_nil, List.append_nil,
    List.min?_nil]

theorem LegalFields.planAt_eq_none (h : LegalFields page (l.map Prod.fst)) : planAt s (fieldsWrite page l) = none := by
  have hpage : page ≠ 0x21 := (by decide : ∀ q ∈ legalPages, q ≠ 0x21) page h.1
  exact if_neg fun hc => hpage hc.1

/-- A page whose rules tie none of the fields. -/
theorem tied_of_disjoint (hu : ∀ g ∈ l.map Prod.fst, g ∉ (tiedFields page).flatten) :
    ∀ r ∈ crossRules s (fieldsWrite page l), (∃ g ∈ r.1, g ∈ l.map Prod.fst) → r.2 = true := by
  rintro r hr ⟨g, hg, hm⟩
  exact absurd (List.mem_flatten_of_mem (crossRules_tiedFields hr) hg) (hu g hm)

/-! The payload of such a write, with a block behind it. -/

theorem LegalFields.fits (h : LegalFields page (l.map Prod.fst)) : (fieldsWrite page l).Fits := by
  have hsum : ∀ {v : Fld × Nat → Nat}, (∀ x, v x < 2 ^ x.1.width) → fieldSum (l.map fun x => (x.1, v x)) < 2 ^ 2048 := by
    refine fun hv => fieldSum_lt (h.inPlace hv) fun y hy => ?_
    obtain ⟨x, hx, rfl⟩ := List.mem_map.mp hy
    exact (pageFields_bounds (h.listed hx).1).2
  exact ⟨(by decide : ∀ q ∈ legalPages, q < 256) page h.1, Nat.zero_lt_succ _, hsum cut_lt, hsum ones_lt⟩

theorem leAt_append_left {a c : List Byte} {off n : Nat} (hn : off + n ≤ a.length) : leAt (a ++ c) off n = leAt a off n := by
  rw [leAt, leAt, List.drop_append_of_le_length (by omega), List.take_append_of_le_length (by simp; omega)]

theorem byteAt_append_left {a c : List Byte} {i : Nat} (hi : i < a.length) : byteAt (a ++ c) i = byteAt a i := by
  rw [byteAt, byteAt, List.getD_append _ _ _ _ hi]

/-- What stands behind a write's 516 bytes is no part of it. -/
theorem parseWrite_append {w : PWrite} {c : List Byte} (hw : w.Fits) : parseWrite (w.payload ++ c) = w := by
  have hbyte : ∀ i < 516, byteAt (w.payload ++ c) i = byteAt w.payload i :=
    fun i hi => byteAt_append_left (by rwa [PWrite.payload_length])
  have hfield : ∀ off ≤ 260, leAt (w.payload ++ c) off 256 = leAt w.payload off 256 :=
    fun off ho => leAt_append_left (by rw [PWrite.payload_length]; omega)
  rw [parseWrite, hbyte 0 (by decide), hbyte 1 (by decide), hfield 4 (by decide), hfield 260 (by decide)]
  exact parseWrite_payload hw

end

/-- The bytes of an authority block whose signature is not looked at again (02 Table 02-4). -/
def authBytes (n : Nat) : List Byte := leB 8 n ++ zeros 64

section
variable {page n : Nat} {l : List (Fld × Nat)} {h : Hdr} {s : State} {w : PWrite}

theorem withBlock_length : (w.payload ++ authBytes n).length = 588 := by
  simp [authBytes, zeros, PWrite.payload_length]

theorem authCount_withBlock (hn : n < 2 ^ 64) : authCount (w.payload ++ authBytes n) = n := by
  rw [authCount, withBlock_length]
  exact leAt_leB PWrite.payload_length hn

theorem pageGate_legalPage (hp : page ∈ legalPages) (hm : metroOn s = true) : pageGate s page 0 = none := by
  obtain ⟨hnum, hinst, h20, h21⟩ := (by decide : ∀ q ∈ legalPages,
    q ∈ pageNumbers ∧ instOk q 0 = true ∧ q ≠ 0x20 ∧ q ≠ 0x21) page hp
  have hpower : powerGate s page = .pass :=
    powerGate_pass (fun h => h20 h.1) (fun h => h21 h.1) (by simp [hm])
  simp [pageGate, hnum, hinst, hpower]

/-- Every such write is accepted work (02 R63). -/
theorem LegalFields.paramCmd_eq {p : List Byte} {sig : Bool} (ok : LegalFields page (l.map Prod.fst))
    (hp : parseWrite p = fieldsWrite page l) : paramCmd h p sig s = runCmd h p true (setParamBody h p sig) s := by
  simp only [paramCmd, hp, ok.writesNL, ok.clearsNode, Bool.false_and, Bool.not_false, Bool.and_true]

/-- Without a block the write is denied. -/
theorem LegalFields.denied_without_block (ok : LegalFields page (l.map Prod.fst)) (hm : metroOn s = true)
    (hs : Served h (fieldsWrite page l).payload true s) :
    paramCmd h (authPay (fieldsWrite page l) none) (authSig none) s =
      finish h (fieldsWrite page l).payload stDeniedLegal 0 [] s := by
  have hpay : authPay (fieldsWrite page l) none = (fieldsWrite page l).payload := List.append_nil _
  have hp := parseWrite_payload ok.fits
  have hauth : authGood s (fieldsWrite page l) (fieldsWrite page l).payload (authSig none) = false := by
    simp [authGood, PWrite.payload_length]
  have hgate : pageGate s (fieldsWrite page l).page (fieldsWrite page l).inst = none := pageGate_legalPage ok.1 hm
  have hbody : setParamBody h (fieldsWrite page l).payload (authSig none) s = .fail stDeniedLegal 0 := by
    rw [setParamBody_page (hp.symm ▸ hgate), hp, hauth, checkWrite_legal ok.partialAt_eq_none ok.needsLegal rfl]
  rw [hpay, ok.paramCmd_eq hp]
  exact runCmd_fails hs hbody

/-- With a block that counts, a write that no check refuses is accepted, and the block's count fixed with it. -/
theorem LegalFields.accepted_with_block {a : AuthBlk} (ok : LegalFields page (l.map Prod.fst)) (hm : metroOn s = true)
    (hrange : InRange l)
    (htied : ∀ r ∈ crossRules s (fieldsWrite page l), (∃ g ∈ r.1, g ∈ l.map Prod.fst) → r.2 = true)
    (hallowed : deniedState s (fieldsWrite page l) = false) (hsig : a.sigOk = true) (hcount : a.count < 2 ^ 64)
    (hauth : authGood s (fieldsWrite page l) ((fieldsWrite page l).payload ++ authBytes a.count) true = true)
    (hs : Served h ((fieldsWrite page l).payload ++ authBytes a.count) true s) :
    paramCmd h (authPay (fieldsWrite page l) (some a)) (authSig (some a)) s =
      accepted h ((fieldsWrite page l).payload ++ authBytes a.count) []
        ((fieldsWrite page l).payload ++ leB 8 a.count)
        (.setParam h ((fieldsWrite page l).payload ++ authBytes a.count) true) [a.count] s := by
  have hpay : authPay (fieldsWrite page l) (some a) = (fieldsWrite page l).payload ++ authBytes a.count := rfl
  have hgood : authSig (some a) = true := hsig
  have hp : parseWrite ((fieldsWrite page l).payload ++ authBytes a.count) = fieldsWrite page l := parseWrite_append ok.fits
  have hgate : pageGate s (fieldsWrite page l).page (fieldsWrite page l).inst = none := pageGate_legalPage ok.1 hm
  have hcheck : checkWrite s (fieldsWrite page l) true = none := by
    rw [checkWrite_range ok.partialAt_eq_none (by simp), ok.rangeAt_eq_none hrange htied, ok.planAt_eq_none]
    rfl
  have hunder : underAuth (fieldsWrite page l) ((fieldsWrite page l).payload ++ authBytes a.count) = true := by
    rw [underAuth, ok.needsLegal, withBlock_length]
    rfl
  have htake : ((fieldsWrite page l).payload ++ authBytes a.count).take 516 = (fieldsWrite page l).payload :=
    List.take_left' PWrite.payload_length
  rw [hpay, hgood, ok.paramCmd_eq hp]
  refine runCmd_accepts hs ?_
  rw [setParamBody_page (hp.symm ▸ hgate), hp, hauth, hcheck]
  simp only [hallowed, ok.writesNL, hunder, htake, authCount_withBlock hcount, Bool.false_eq_true, if_false, if_true]

/-! Which blocks count (02 R69; 11 R377). -/

theorem rdB_of_ne_zero {f : Fld} (hf : rd s f ≠ 0) : rdB s f = true := bne_iff_ne.mpr hf

theorem authGood_installed (hkey : rd s P30.LEGAL_KEY_SET ≠ 0) (hfloor : authFloor s < n) (hn : n < 2 ^ 64) :
    authGood s w (w.payload ++ authBytes n) true = true := by
  rw [authGood, withBlock_length, if_pos (rdB_of_ne_zero hkey), authCount_withBlock hn]
  simp [authOk, rdB_of_ne_zero hkey, hfloor]

theorem keyAlone_legalKey {v : Nat} : keyAlone (fieldWrite P30.LEGAL_KEY 0 v) = true := by
  have hm : P30.LEGAL_KEY ∈ pageFields 0x30 := by decide
  have hpage : (fieldWrite P30.LEGAL_KEY 0 v).page = 0x30 := rfl
  simp only [keyAlone, hpage, beq_self_eq_true, Bool.true_and, List.all_eq_true]
  intro g hg
  rw [touches_fieldWrite hm hg]
  by_cases hgf : g = P30.LEGAL_KEY <;> simp [hgf]

/-- The first key is installed under itself while SEAL_N is asserted. -/
theorem authGood_first {v : Nat} (hkey : rd s P30.LEGAL_KEY_SET = 0) (hseal : rd s P30.SEAL_STATE ≠ 0)
    (hfloor : authFloor s < n) (hn : n < 2 ^ 64) :
    authGood s (fieldWrite P30.LEGAL_KEY 0 v) ((fieldWrite P30.LEGAL_KEY 0 v).payload ++ authBytes n) true = true := by
  rw [authGood, withBlock_length, if_neg (by simp [rdB, hkey]), authCount_withBlock hn, keyAlone_legalKey,
    rdB_of_ne_zero hseal, decide_eq_true hfloor]
  rfl

/-! What the chapters of the fields refuse (10 R364; 11 R381). -/

theorem LegalFields.sets1_other {f : Fld} (ok : LegalFields page (l.map Prod.fst)) (hf : f ∈ pageFields page)
    (hn : f ∉ l.map Prod.fst) : sets1 s (fieldsWrite page l) f = false := by
  rw [sets1, ok.touches_other hf hn, Bool.false_and]

/-- A flag that may be set only under the seal is set under it, or cleared. -/
theorem sets1_sealed {f : Fld} {v : Bool} (hf : f ∈ pageFields f.page) (hw : writable f = true) (hbit : f.width = 1)
    (hv : v = true → sealMaySet s = true) : (sets1 s (fieldWrite f 0 (b2n v)) f && !sealMaySet s) = false := by
  rw [sets1_fieldWrite hf hf hw (hbit ▸ b2n_lt)]
  cases v with
  | false => simp [b2n]
  | true => simp [hv rfl]

/-! Values in range. -/

theorem InRange.nil : InRange [] := fun _ hx => nomatch hx

theorem InRange.cons {f : Fld} {v : Nat} (hfit : v < 2 ^ f.width)
    (hrng : inRng f.rng (if f.signed then toS f.width v else (v : Int)) = true) (hl : InRange l) : InRange ((f, v) :: l) :=
  List.forall_mem_cons.mpr ⟨⟨hfit, hrng⟩, hl⟩

theorem inRng_btw {lo hi v : Int} (hlo : lo ≤ v) (hhi : v ≤ hi) : inRng (.btw lo hi) v = true := by
  simp [inRng, hlo, hhi]

theorem inRng_step {lo hi k v : Int} (hlo : lo ≤ v) (hhi : v ≤ hi) (hk : (v - lo) % k = 0) :
    inRng (.step lo hi k) v = true := by
  simp [inRng, hlo, hhi, hk]

theorem toS_ofS_16 {z : Int} (hlo : -32768 ≤ z) (hhi : z < 32768) : toS 16 (ofS 16 z) = z := by
  unfold toS ofS
  split_ifs <;> omega

/-- The DST fields with their values, in the order of page 0x31 (11 R405). -/
def dstValues (z : TzDst) : List (Fld × Nat) :=
  [(P31.DST_DELTA, z.delta), (P31.DST_START_MONTH, z.startMonth), (P31.DST_START_WEEK, z.startWeek),
    (P31.DST_START_DAY, z.startDay), (P31.DST_START_HOUR, z.startHour), (P31.DST_END_MONTH, z.endMonth),
    (P31.DST_END_WEEK, z.endWeek), (P31.DST_END_DAY, z.endDay), (P31.DST_END_HOUR, z.endHour)]

/-- The fields of local time with their values (11 R405). -/
def tzValues (z : TzDst) : List (Fld × Nat) := (P31.TZ_MIN, ofS 16 z.tzMin) :: dstValues z

theorem tzWrite_eq {z : TzDst} : tzWrite z = fieldsWrite 0x31 (tzValues z) := by
  show ((dstValues z).map fun x => fieldWrite x.1 0 x.2).foldl PWrite.also
    (fieldWrite P31.TZ_MIN 0 (ofS 16 z.tzMin)) = _
  rw [fieldWrite_eq_fieldsWrite]
  exact fieldsWrite_foldl_also

theorem tzValues_legal {z : TzDst} : LegalFields 0x31 ((tzValues z).map Prod.fst) :=
  show LegalFields 0x31 localFields by decide

/-- The demand setting's fields (11 R388). -/
def demandValues (m t n : Nat) : List (Fld × Nat) := [(P30.DEMAND_METHOD, m), (P30.DEMAND_PERIOD, t), (P30.DEMAND_SUBS, n)]

theorem demandWrite_eq {m t n : Nat} :
    ((fieldWrite P30.DEMAND_METHOD 0 m).also (fieldWrite P30.DEMAND_PERIOD 0 t)).also (fieldWrite P30.DEMAND_SUBS 0 n) =
      fieldsWrite 0x30 (demandValues m t n) := by
  rw [fieldWrite_eq_fieldsWrite, fieldsWrite_also, fieldsWrite_also]
  rfl

theorem demandValues_legal {m t n : Nat} : LegalFields 0x30 ((demandValues m t n).map Prod.fst) :=
  show LegalFields 0x30 [P30.DEMAND_METHOD, P30.DEMAND_PERIOD, P30.DEMAND_SUBS] by decide

end

end Sys2Proof.Machine
end

section
/-! The writes of the legal fields of metrology, local time and updates (02 R69; 10 R364; 11 R377, R381, R387, R388, R405). -/
namespace Sys2Proof.Machine

section
variable {s : State}

theorem inRng_only {l : List Nat} {v : Nat} (hv : v ∈ l) : inRng (.only (l.map Int.ofNat)) v = true :=
  List.contains_iff_mem.mpr (List.mem_map_of_mem hv)

theorem demandValues_inRange {m t n : Nat} (hm : m ≤ 1) (ht : t ∈ [5, 6, 10, 12, 15, 20, 30, 60]) (hlo : 2 ≤ n)
    (hhi : n ≤ 15) : InRange (demandValues m t n) := by
  have hfit : t < 2 ^ 8 := (by decide : ∀ q ∈ [5, 6, 10, 12, 15, 20, 30, 60], q < 2 ^ 8) t ht
  exact .cons (Nat.lt_succ_of_le hm) rfl
    (.cons hfit (inRng_only ht)
      (.cons (Nat.lt_succ_of_le hhi) (inRng_btw (Int.ofNat_le.mpr hlo) (Int.ofNat_le.mpr hhi)) .nil))

/-- The demand period is cut into whole subintervals (11 R388). -/
theorem demandValues_tied {m t n : Nat} (hr : InRange (demandValues m t n)) (hcut : 60 * t % n = 0) :
    ∀ r ∈ crossRules s (fieldsWrite 0x30 (demandValues m t n)),
      (∃ g ∈ r.1, g ∈ (demandValues m t n).map Prod.fst) → r.2 = true := by
  have hafter : ∀ x ∈ demandValues m t n, after s (fieldsWrite 0x30 (demandValues m t n)) x.1 = x.2 :=
    fun x hx => demandValues_legal.after_eq hx (hr x hx).1
  have hperiod := hafter (P30.DEMAND_PERIOD, t) (by simp [demandValues])
  have hsubs := hafter (P30.DEMAND_SUBS, n) (by simp [demandValues])
  intro r hmem _
  obtain rfl := List.mem_singleton.mp hmem
  simp [hperiod, hsubs, hcut]

/-- A legal field alone. -/
theorem LegalFields.accepted_alone {h : Hdr} {a : AuthBlk} {f : Fld} {v : Nat} (ok : LegalFields f.page [f])
    (hm : metroOn s = true) (hfit : v < 2 ^ f.width)
    (hrng : inRng f.rng (if f.signed then toS f.width v else (v : Int)) = true) (hfree : f ∉ (tiedFields f.page).flatten)
    (hallowed : deniedState s (fieldWrite f 0 v) = false) (hsig : a.sigOk = true) (hcount : a.count < 2 ^ 64)
    (hauth : authGood s (fieldWrite f 0 v) ((fieldWrite f 0 v).payload ++ authBytes a.count) true = true)
    (hs : Served h ((fieldWrite f 0 v).payload ++ authBytes a.count) true s) :
    paramCmd h (authPay (fieldWrite f 0 v) (some a)) (authSig (some a)) s =
      accepted h ((fieldWrite f 0 v).payload ++ authBytes a.count) [] ((fieldWrite f 0 v).payload ++ leB 8 a.count)
        (.setParam h ((fieldWrite f 0 v).payload ++ authBytes a.count) true) [a.count] s :=
  LegalFields.accepted_with_block (l := [(f, v)]) ok hm (.cons hfit hrng .nil)
    (tied_of_disjoint fun _ hg => List.mem_singleton.mp hg ▸ hfree) hallowed hsig hcount hauth hs

/-- Neither the demand setting nor another field of page 0x30 than SEAL_CAL is refused for the state (11 R381). -/
theorem LegalFields.deniedState_0x30 {l : List (Fld × Nat)} (ok : LegalFields 0x30 (l.map Prod.fst))
    (hn : P30.SEAL_CAL ∉ l.map Prod.fst) : deniedState s (fieldsWrite 0x30 l) = false := by
  show (sets1 s (fieldsWrite 0x30 l) P30.SEAL_CAL && !sealMaySet s) = false
  rw [ok.sets1_other (by decide) hn, Bool.false_and]

/-- A field of page 0x30 other than SEAL_CAL, alone. -/
theorem deniedState_alone_0x30 {f : Fld} {v : Nat} (ok : LegalFields 0x30 [f]) (hpage : f.page = 0x30)
    (hn : P30.SEAL_CAL ∉ [f]) : deniedState s (fieldWrite f 0 v) = false := by
  rw [fieldWrite_eq_fieldsWrite, hpage]
  exact LegalFields.deniedState_0x30 (l := [(f, v)]) ok hn

/-- The fields of local time in their ranges (11 R405). -/
theorem tzValues_inRange {z : TzDst} (hlo : -720 ≤ z.tzMin) (hhi : z.tzMin ≤ 840) (hquarter : (z.tzMin + 720) % 15 = 0)
    (hdlo : 15 ≤ z.delta) (hdhi : z.delta ≤ 120) (hdelta : z.delta % 15 = 0) (hstart : z.startMonth ≤ 12)
    (hend : 1 ≤ z.endMonth ∧ z.endMonth ≤ 12) (hweek : ∀ w ∈ [z.startWeek, z.endWeek], 1 ≤ w ∧ w ≤ 5)
    (hday : ∀ d ∈ [z.startDay, z.endDay], 1 ≤ d ∧ d ≤ 7) (hhour : ∀ x ∈ [z.startHour, z.endHour], x ≤ 23) :
    InRange (tzValues z) := by
  have byte : ∀ {f : Fld} {lo hi v : Nat} {l}, f.width = 8 → f.signed = false → f.rng = .btw lo hi → hi < 256 →
      lo ≤ v ∧ v ≤ hi → InRange l → InRange ((f, v) :: l) := by
    intro f lo hi v l hwidth hsigned hrng hfit hv
    refine .cons (by rw [hwidth]; omega) ?_
    rw [hrng, hsigned]
    exact inRng_btw (Int.ofNat_le.mpr hv.1) (Int.ofNat_le.mpr hv.2)
  simp only [List.forall_mem_cons, List.not_mem_nil, false_imp_iff, implies_true, and_true] at hweek hday hhour
  refine .cons (by show (z.tzMin % 65536).toNat < 65536; omega) ?_ (.cons (Nat.lt_of_le_of_lt hdhi (by decide)) ?_ ?_)
  · show inRng (.step (-720) 840 15) (toS 16 (ofS 16 z.tzMin)) = true
    rw [toS_ofS_16 (by omega) (by omega)]
    exact inRng_step hlo hhi (by omega)
  · exact inRng_step (Int.ofNat_le.mpr hdlo) (Int.ofNat_le.mpr hdhi) (by show ((z.delta : Int) - 15) % 15 = 0; omega)
  exact byte rfl rfl rfl (by decide) ⟨Nat.zero_le _, hstart⟩ <| byte rfl rfl rfl (by decide) hweek.1 <|
    byte rfl rfl rfl (by decide) hday.1 <| byte rfl rfl rfl (by decide) ⟨Nat.zero_le _, hhour.1⟩ <|
    byte rfl rfl rfl (by decide) hend <| byte rfl rfl rfl (by decide) hweek.2 <|
    byte rfl rfl rfl (by decide) hday.2 <| byte rfl rfl rfl (by decide) ⟨Nat.zero_le _, hhour.2⟩ .nil

end

/-- Settles O28: each write is a write of legal fields of one page, accepted with a block that counts and denied
without one. -/
theorem legalFieldWritesComplete : Obligations.LegalFieldWritesComplete := by
  refine ⟨?installed, ?firstKey, ?denied⟩
  case installed =>
    intro h a s hsig hfloor hcount hkey hm acc
    have good : ∀ {w : PWrite}, authGood s w (w.payload ++ authBytes a.count) true = true :=
      authGood_installed hkey hfloor hcount
    have accept : ∀ {w : PWrite},
        (Served h (w.payload ++ authBytes a.count) true s →
          paramCmd h (authPay w (some a)) (authSig (some a)) s = accepted h (w.payload ++ authBytes a.count) []
            (w.payload ++ leB 8 a.count) (.setParam h (w.payload ++ authBytes a.count) true) [a.count] s) →
        acc w (.next (paramCmd h (authPay w (some a)) (authSig (some a)) s)) := by
      intro w hw hs
      rw [List.append_assoc] at hs ⊢
      exact congrArg _ (hw hs)
    refine ⟨fun v hv => ?_, fun v hseal => ⟨?_, ?_⟩, fun v hlo hhi => ?_, fun m t n hm1 ht hlo hhi hcut => ?_,
      fun z hlo hhi hquarter hdlo hdhi hdelta hstart he1 he12 hweek hday hhour => ?_⟩
    · exact accept (LegalFields.accepted_alone (f := P30.LEGAL_KEY) (by decide) hm hv rfl (by decide)
        (deniedState_alone_0x30 (by decide) rfl (by decide)) hsig hcount good)
    · exact accept (LegalFields.accepted_alone (by decide) hm b2n_lt rfl (by decide)
        (sets1_sealed (by decide) rfl rfl hseal) hsig hcount good)
    · exact accept (LegalFields.accepted_alone (by decide) hm b2n_lt rfl (by decide)
        (sets1_sealed (by decide) rfl rfl hseal) hsig hcount good)
    · have hrng : inRng P30.PROFILE_PERIOD.rng v = true := inRng_btw (Int.ofNat_le.mpr hlo) (Int.ofNat_le.mpr hhi)
      exact accept (LegalFields.accepted_alone (by decide) hm (by show v < 256; omega) hrng (by decide)
        (deniedState_alone_0x30 (by decide) rfl (by decide)) hsig hcount good)
    · have hrange := demandValues_inRange hm1 ht hlo hhi
      have hother : P30.SEAL_CAL ∉ [P30.DEMAND_METHOD, P30.DEMAND_PERIOD, P30.DEMAND_SUBS] := by decide
      refine accept fun hs => ?_
      rw [demandWrite_eq] at hs ⊢
      exact demandValues_legal.accepted_with_block hm hrange (demandValues_tied hrange hcut)
        (demandValues_legal.deniedState_0x30 hother) hsig hcount good hs
    · have hfree : ∀ g ∈ localFields, g ∉ (tiedFields 0x31).flatten := by decide
      refine accept fun hs => ?_
      rw [tzWrite_eq] at hs ⊢
      exact tzValues_legal.accepted_with_block hm
        (tzValues_inRange hlo hhi hquarter hdlo hdhi hdelta hstart ⟨he1, he12⟩ hweek hday hhour)
        (tied_of_disjoint hfree) rfl hsig hcount good hs
  case firstKey =>
    intro h a v s hsig hfloor hcount hv hkey hseal hm w p hs
    have hp : p = w.payload ++ authBytes a.count := List.append_assoc ..
    rw [hp] at hs ⊢
    exact congrArg _ (LegalFields.accepted_alone (f := P30.LEGAL_KEY) (by decide) hm hv rfl (by decide)
      (deniedState_alone_0x30 (by decide) rfl (by decide)) hsig hcount (authGood_first hkey hseal hfloor hcount) hs)
  case denied =>
    intro h s hm no
    have deny : ∀ {w : PWrite},
        (Served h w.payload true s →
          paramCmd h (authPay w none) (authSig none) s = finish h w.payload stDeniedLegal 0 [] s) →
        no w (.next (paramCmd h (authPay w none) (authSig none) s)) := fun hw hs => congrArg _ (hw hs)
    have alone : ∀ {f : Fld} {v : Nat}, LegalFields f.page [f] →
        no (fieldWrite f 0 v) (.next (paramCmd h (authPay (fieldWrite f 0 v) none) (authSig none) s)) :=
      fun {f v} ok => deny (LegalFields.denied_without_block (l := [(f, v)]) ok hm)
    refine ⟨fun v _ => ?_, fun v => ?_, fun v => ?_, fun v => ?_, fun m t n => ?_, fun z => ?_⟩
    · exact alone (by decide)
    · exact alone (by decide)
    · exact alone (by decide)
    · exact alone (by decide)
    · exact deny (by rw [demandWrite_eq]; exact demandValues_legal.denied_without_block hm)
    · exact deny (by rw [tzWrite_eq]; exact tzValues_legal.denied_without_block hm)

end Sys2Proof.Machine
end

section
/-! The session commands (02 R53, R56 to R58). -/
namespace Sys2Proof.Machine

section
variable {h : Hdr} {p : List Byte} {s : State}

theorem openGate_eq_accGate (hg : stateGate s h true = .pass) : openGate h s = accGate s 0x01 := by
  simp only [openGate, hg]

theorem openGate_fail {st d : Nat} (hg : stateGate s h true = .fail st d) : openGate h s = .fail st d := by
  simp only [openGate, hg]

/-- Past start-up, or in a state that answers at all, OPEN_SESSION goes by its session. -/
theorem exec_openSession (hg : stateGate s h true ≠ .noAnswer) : exec (.openSession h p) s = .next (openSession h p s) :=
  congrArg Host.Outcome.next (if_neg hg)

theorem openSession_badLength (hp : p.length ≠ 8) : openSession h p s = sendReply h stBadPayload 0 [] s := if_pos hp

/-- Without RESUME, on a closed session, in order: the session is opened as the gate says. -/
theorem openSession_closed (hp : p.length = 8) (hr : bitAt (byteAt p 4) 0 = false)
    (hst : (sessAt s (sessOf h)).st = .closed) (hseq : h.seq = leAt p 0 4) :
    openSession h p s =
      match openGate h s with
      | .pass => answer h p (.accept (openData ((h.seq + 1) % 2 ^ 32) .closed) [] { cmd := some (.openSession h p) }
          (openAdmit h s)) s
      | .fail st d => finish h p st d [] (openAdmit h s)
      | .noAnswer => s := by
  simp only [openSession, hp, hr, hst, hseq, ne_eq, not_true_eq_false, if_false, Bool.false_eq_true] <;> rfl

/-- With RESUME, by the session's state. -/
theorem openSession_resume (hp : p.length = 8) (hr : bitAt (byteAt p 4) 0 = true) :
    openSession h p s =
      match (sessAt s (sessOf h)).st with
      | .closed => sendReply h stSessionClosed 0 [] s
      | .opened => match stateGate s h false with
        | .pass => sendReply h stDone 0 (openData (sessAt s (sessOf h)).n .opened) s
        | .fail st d => sendReply h st d [] s
        | .noAnswer => s
      | .resume => match openGate h s with
        | .pass => answer h p (.accept (openData (sessAt s (sessOf h)).n .resume) [] { cmd := some (.openSession h p) } s) s
        | .fail st d => sendReply h st d [] s
        | .noAnswer => s := by
  simp only [openSession, hp, hr, ne_eq, not_true_eq_false, if_false, if_true] <;> rfl

end

/-- Settles O18: each command by the state of the session its header names. -/
theorem sessionCommandsComplete : Obligations.SessionCommandsComplete := by
  refine ⟨fun h p s hs => ⟨?nop, ?getSession⟩, ?opens, ?notReady, ?resumes, ?badLength, ?closes, ?opened, ?closed⟩
  case nop => exact congrArg _ (runCmd_done hs rfl)
  case getSession => exact congrArg _ (runCmd_done hs rfl)
  case opens =>
    intro h p s hg hp hr hacc hst hseq n u
    rw [exec_openSession (by simp [hg]), openSession_closed hp hr hst hseq, openGate_eq_accGate hg, hacc]
    rfl
  case notReady =>
    intro h p s hg hp hr hst hseq
    rw [exec_openSession (by simp [hg]), openSession_closed hp hr hst hseq, openGate_fail hg]
    rfl
  case resumes =>
    intro h p s r hg hread hp hr
    have hrun : r = .next (openSession h p s) := exec_openSession (by simp [hg])
    rw [hrun, openSession_resume hp hr]
    refine ⟨fun hst hacc => ?_, fun hst => ?_, fun hst => ?_⟩
    · rw [hst, openGate_eq_accGate hg, hacc]
      rfl
    · rw [hst, hread]
      rfl
    · rw [hst]
  case badLength =>
    intro h p s hg hp
    rw [exec_openSession (by simp [hg]), openSession_badLength hp]
  case closes => exact fun h p s hs => congrArg _ (runCmd_accepts hs rfl)
  case opened => exact fun h p a d s => rfl
  case closed => exact fun h p a d s => rfl

end Sys2Proof.Machine
end

section
/-! The commands that read the device: identity, status, links and time (02 R59, R60; 03 R98, R120). -/
namespace Sys2Proof.Machine

theorem meanDelay_eq (x : PortState) : meanDelay x = if x.delays = [] then 0 else x.delays.sum / x.delays.length :=
  if_congr List.isEmpty_iff rfl rfl

/-- Settles O19: each is done with its bytes, written out as the chapters give them. -/
theorem deviceReadsComplete : Obligations.DeviceReadsComplete := by
  intro h p s hs
  refine ⟨?status, ?identity, ?links, ?time⟩
  case status => exact congrArg _ (runCmd_done hs rfl)
  case identity => exact congrArg _ (runCmd_done hs rfl)
  case links =>
    intro one
    have hone : ∀ x, linkStatus x = one x := fun x => by rw [linkStatus, meanDelay_eq]
    rw [← hone, ← hone]
    exact congrArg _ (runCmd_done hs rfl)
  case time => exact congrArg _ (runCmd_done hs rfl)

end Sys2Proof.Machine
end

section
/-! The reset commands (02 R80, R81, Table 02-10; 10 R361). -/
namespace Sys2Proof.Machine

section
variable {h : Hdr} {p data : List Byte} {st d fn kind : Nat} {acc : Bool} {body : State → Ans} {s t : State}

theorem runCmd_stays (hs : Served h p acc s) (hbody : body s = .stays t) : runCmd h p acc body s = t := by
  rw [runCmd_served hs, hbody]
  rfl

/-! The confirm word. -/

theorem resetBody_unconfirmed {go : State → State} (hw : leAt p 0 4 ≠ confirmWord) :
    resetBody kind go h p s = .fail stBadPayload 0 := if_pos hw

/-- On a chip of no pair the reset begins with its DONE. -/
theorem resetBody_unpaired {go : State → State} (hw : leAt p 0 4 = confirmWord) (hp : pairState s = 0) :
    resetBody kind go h p s = .stays (go (finish h p stDone 0 [] s)) := by
  simp [resetBody, hw, paired_unpaired hp]

/-- In a pair the reset waits for its DONE to be compared. -/
theorem resetBody_paired {go : State → State} (hw : leAt p 0 4 = confirmWord) (hp : paired s = true)
    (hl : localCmd s h = false) :
    resetBody kind go h p s = .stays { finish h p stDone 0 [] s with pwr.resetDue := kind } := by
  simp [resetBody, hw, hp, hl]

/-! FUNC_RESET. -/

theorem funcResetBody_excluded (hf : fnOf h ∈ [0x01, 0x02, 0x03, 0x30, 0x31, 0x41]) :
    funcResetBody h s = .fail stDeniedState 0 := if_pos (List.contains_iff_mem.mpr hf)

/-- A function whose reset has begun: what it discards is gone. -/
def funcDiscarded (h : Hdr) (s : State) : State :=
  fixMarks (funcResetAct (fnOf h) (clearCounters (fnOf h) (abortCmds (fun x => fnOf x == fnOf h && x != h) s)))

/-- A function whose reset has begun: it is marked as resetting, its failure is cleared. -/
def funcResetting (h : Hdr) (s : State) : State :=
  { funcDiscarded h s with
    cmd := { (funcDiscarded h s).cmd with
      funcReset := assocSet (fnOf h) h (funcDiscarded h s).cmd.funcReset
      funcFailed := assocDel (fnOf h) (funcDiscarded h s).cmd.funcFailed } }

theorem funcResetBody_begins (hf : fnOf h ∉ [0x01, 0x02, 0x03, 0x30, 0x31, 0x41]) :
    funcResetBody h s = .stays (funcResetting h s) := if_neg (mt List.contains_iff_mem.mp hf)

theorem exec_funcReset (hs : Served h p false s) (hf : fnOf h ∉ [0x01, 0x02, 0x03, 0x30, 0x31, 0x41]) :
    exec (.funcReset h p) s = .next (funcResetting h s) :=
  congrArg Host.Outcome.next (runCmd_stays hs (funcResetBody_begins hf))

theorem assocGet_assocDel_self {α β : Type} [DecidableEq α] {k : α} {l : List (α × β)} : assocGet k (assocDel k l) = none := by
  induction l with
  | nil => rfl
  | cons x l ih =>
    by_cases hx : x.1 = k
    · rw [assocDel, List.filter_cons_of_neg (by simpa using hx)]
      exact ih
    · rw [assocDel, List.filter_cons_of_pos (by simpa using hx), assocGet, if_neg (Ne.symm hx)]
      exact ih

/-! The display is touched by none of what FUNC_RESET does before it restarts it. -/

theorem foldl_disp {α : Type} {f : State → α → State} {l : List α} (hf : ∀ t x, (f t x).disp = t.disp) :
    (l.foldl f s).disp = s.disp := by
  induction l generalizing s with
  | nil => rfl
  | cons x l ih => rw [List.foldl_cons, ih, hf]

theorem sendReplyNow_disp : (sendReplyNow h st d data s).disp = s.disp := by
  rw [sendReplyNow_linked.rest]
  rfl

theorem addRec_disp {r : List Nat} : (addRec r s).disp = s.disp := by
  unfold addRec
  split <;> rfl

theorem holdOut_disp : (holdOut h st d data s).disp = s.disp := addRec_disp

theorem sendReply_disp : (sendReply h st d data s).disp = s.disp := by
  unfold sendReply
  split_ifs
  · rfl
  · exact sendReplyNow_disp
  · exact holdOut_disp
  · rfl
  · exact sendReplyNow_disp

theorem finish_disp : (finish h p st d data s).disp = s.disp := by
  rw [finish, sendReply_disp]
  split <;> rfl

theorem reloadSlots_disp : (reloadSlots s).disp = s.disp := rfl

theorem undoFills_disp {f : Hdr → Bool} : (undoFills f s).disp = s.disp := by
  rw [undoFills, reloadSlots_disp]
  dsimp only
  refine foldl_disp fun t x => ?_
  split
  · rfl
  · split <;> rfl

theorem undoFillsOf_disp {f : Hdr → Bool} : (undoFillsOf f s).disp = s.disp := by
  unfold undoFillsOf
  dsimp only
  split
  · rfl
  · exact undoFills_disp (f := fun h => !f h)

theorem dropItems_disp {f : SettItem → Bool} : (dropItems f s).disp = s.disp := rfl

theorem rebuildTails_disp {l : List (Nat × Nat)} : (rebuildTails l s).disp = s.disp := by
  refine foldl_disp fun t c => ?_
  unfold rebuildTail
  dsimp only
  split
  · rfl
  · split
    · rfl
    · split
      · split <;> rfl
      · rfl

theorem abortCmds_disp {f : Hdr → Bool} : (abortCmds f s).disp = s.disp := by
  unfold abortCmds
  dsimp only
  rw [foldl_disp fun _ _ => finish_disp]
  rw [dropItems_disp, undoFillsOf_disp, rebuildTails_disp]
  rfl

theorem clearCounters_disp : (clearCounters fn s).disp = s.disp :=
  foldl_disp fun _ _ => foldl_disp fun _ _ => rfl

/-- The display as its restart finds it, and the clock. -/
theorem funcDiscarded_display (hf : fnOf h = 0x32) :
    (funcDiscarded h s).disp = { s.disp with
      onButton := false, autoAt := 0, buttonAt := 0, autoTick := s.beat.ticks, pressTick := s.beat.ticks,
      shown := none } ∧ (funcDiscarded h s).beat.ticks = s.beat.ticks := by
  have hkept : Kept s (clearCounters 0x32 (abortCmds (fun x => fnOf x == 0x32 && x != h) s)) :=
    clearCounters_kept (abortCmds_kept (Kept.refl s))
  have hact : funcDiscarded h s =
      fixMarks (resetDisplay (clearCounters 0x32 (abortCmds (fun x => fnOf x == 0x32 && x != h) s))) := by
    rw [funcDiscarded, hf]
    rfl
  rw [hact, fixMarks_disp, fixMarks_beat]
  simp only [resetDisplay, hkept.ticks, clearCounters_disp, abortCmds_disp, and_self]

end

/-- Settles O21: the confirm word, then the pair, decide the two resets; FUNC_RESET by the function it names. -/
theorem resetCommandsComplete : Obligations.ResetCommandsComplete := by
  refine ⟨fun h p s hs => ⟨?unpaired, ?paired, ?unconfirmed, ?excluded, ?begins, ?display⟩, ?completes, ?resetNow⟩
  case unpaired =>
    exact fun hw hp => ⟨congrArg _ (runCmd_stays hs (resetBody_unpaired hw hp)),
      congrArg _ (runCmd_stays hs (resetBody_unpaired hw hp))⟩
  case paired =>
    exact fun hw hp hl => ⟨congrArg _ (runCmd_stays hs (resetBody_paired hw hp hl)),
      congrArg _ (runCmd_stays hs (resetBody_paired hw hp hl))⟩
  case unconfirmed =>
    exact fun hw => ⟨congrArg _ (runCmd_fails hs (resetBody_unconfirmed hw)),
      congrArg _ (runCmd_fails hs (resetBody_unconfirmed hw))⟩
  case excluded => exact fun hf => congrArg _ (runCmd_fails hs (funcResetBody_excluded hf))
  case begins =>
    exact fun hf => ⟨_, exec_funcReset hs hf, assocGet_assocSet_self, assocGet_assocDel_self⟩
  case display =>
    intro hf
    obtain ⟨hdisp, hticks⟩ := funcDiscarded_display (s := s) hf
    have hresets : fnOf h ∉ [0x01, 0x02, 0x03, 0x30, 0x31, 0x41] := by rw [hf]; decide
    refine ⟨funcResetting h s, exec_funcReset hs hresets, ?_⟩
    show (funcDiscarded h s).disp = _
    rw [hdisp, ← hticks]
    rfl
  case completes =>
    intro fn h s hopen hrewritten t
    have hready : ¬ (fn = 0x12 ∧ s.ledger.rewriting ≠ []) := fun hc => hc.2 (hrewritten hc.1)
    show Host.Outcome.next _ = _
    rw [hopen]
    exact congrArg _ (if_neg hready)
  case resetNow =>
    intro t s hat hdue
    show Host.Outcome.next _ = _
    rw [hat]
    exact congrArg _ (if_pos (decide_eq_true hdue))

end Sys2Proof.Machine
end

section
/-! The ports of the chain: what each operation of the link layer leaves of a port, and what it sends (03 R85 to R94). -/
namespace Sys2Proof.Machine

section
variable {p q : Port} {x : PortState} {f : LinkPkt} {l : List LinkPkt} {c : LinkCtl} {o : Out} {s t : State} {a n k ev : Nat}

/-! Ports read and replaced. -/

theorem portOf_congr (h : t.chain = s.chain) : portOf t p = portOf s p := by cases p <;> simp [portOf, h]

@[simp] theorem portOf_setPort_self : portOf (setPort p x s) p = x := by cases p <;> rfl
@[simp] theorem portOf_setPort_other : portOf (setPort p x s) (otherPort p) = portOf s (otherPort p) := by
  cases p <;> rfl
@[simp] theorem portOf_emit : portOf (emit o s) q = portOf s q := portOf_congr rfl
@[simp] theorem emit_out_append : (emit o s).out = s.out ++ [o] := rfl

/-! Counting an event touches neither a port nor what was sent. -/

@[simp] theorem count_beat : (count ev n k s).beat = s.beat := by rw [count_counted.rest]
@[simp] theorem count_chain : (count ev n k s).chain = s.chain := by rw [count_counted.rest]
@[simp] theorem count_out : (count ev n k s).out = s.out := by rw [count_counted.rest]
@[simp] theorem portOf_count : portOf (count ev n k s) q = portOf s q := portOf_congr count_chain

/-! A frame sent or heard, of whatever kind, marks its time on the port alone. -/

@[simp] theorem portOf_sentOn_self : portOf (sentOn p n s) p = { portOf s p with lastTx := s.now } := by simp [sentOn]
@[simp] theorem portOf_sentOn_other : portOf (sentOn p n s) (otherPort p) = portOf s (otherPort p) := by simp [sentOn]
@[simp] theorem sentOn_out : (sentOn p n s).out = s.out := by simp [sentOn]

@[simp] theorem portOf_heardOn_self : portOf (heardOn p n s) p = { portOf s p with lastRx := s.now } := by simp [heardOn]
@[simp] theorem portOf_heardOn_other : portOf (heardOn p n s) (otherPort p) = portOf s (otherPort p) := by simp [heardOn]
@[simp] theorem heardOn_beat : (heardOn p n s).beat = s.beat := by simp [heardOn]
@[simp] theorem heardOn_out : (heardOn p n s).out = s.out := by simp [heardOn]

@[simp] theorem portOf_sendCtl_self : portOf (sendCtl p k s) p = { portOf s p with lastTx := s.now } := by simp [sendCtl]

theorem sendCtl_rxNext : (portOf (sendCtl p k s) p).rxNext = (portOf s p).rxNext := by rw [portOf_sendCtl_self]

/-- A neighbour's address stands in the pages and not in the ports. -/
@[simp] theorem portOf_setNeigh : portOf (setNeigh p a s) q = portOf s q := by
  unfold setNeigh
  dsimp only
  split <;> cases q <;> rfl

@[simp] theorem setNeigh_out : (setNeigh p a s).out = s.out := by
  unfold setNeigh
  dsimp only
  split <;> rfl

/-! Queued data frames sent in order (03 R88, R89). -/

/-- From `s` to `t` the frames `l` were sent on port `p`, one after the other: each is outstanding under some link sequence and
counted, each went out once, and of the port only its times and its next sequence moved besides. -/
structure FramesSent (p : Port) (l : List LinkPkt) (s t : State) : Prop where
  port : ∃ next tx progress, ∃ m : List (Nat × LinkPkt), m.map Prod.snd = l ∧ portOf t p =
    { portOf s p with txNext := next, lastTx := tx, lastProgress := progress, outst := (portOf s p).outst ++ m,
                      sent := (portOf s p).sent + l.length }
  other : portOf t (otherPort p) = portOf s (otherPort p)
  out : ∃ z : List (Nat × Nat × Nat × List Byte), z.map (fun z => z.2.2.2) = l.map LinkPkt.pkt ∧
    t.out = s.out ++ z.map (fun z => Out.linkData p z.1 z.2.1 z.2.2.1 z.2.2.2)

theorem FramesSent.nil : FramesSent p [] s s :=
  ⟨⟨(portOf s p).txNext, (portOf s p).lastTx, (portOf s p).lastProgress, [], rfl, by simp⟩, rfl, ⟨[], rfl, by simp⟩⟩

theorem FramesSent.one : FramesSent p [f] s (sendFrame p f s) where
  port := by
    simp only [sendFrame, portOf_emit, portOf_sentOn_self, portOf_setPort_self]
    exact ⟨_, _, _, [((portOf s p).txNext, f)], rfl, rfl⟩
  other := by simp [sendFrame]
  out := ⟨[((portOf s p).txNext, (portOf s p).rxNext, ownCredit s p, f.pkt)], rfl, by simp [sendFrame]⟩

theorem FramesSent.trans {l' : List LinkPkt} {u : State} (h : FramesSent p l s t) (g : FramesSent p l' t u) :
    FramesSent p (l ++ l') s u := by
  obtain ⟨next, tx, progress, m, hm, hport⟩ := h.port
  obtain ⟨next', tx', progress', m', hm', hport'⟩ := g.port
  obtain ⟨z, hz, hout⟩ := h.out
  obtain ⟨z', hz', hout'⟩ := g.out
  refine ⟨⟨next', tx', progress', m ++ m', by simp [hm, hm'], ?_⟩, g.other.trans h.other,
    ⟨z ++ z', by simp [hz, hz'], by simp [hout', hout]⟩⟩
  rw [hport', hport]
  simp [Nat.add_assoc]

theorem foldl_sendFrame_framesSent : FramesSent p l s (l.foldl (fun t f => sendFrame p f t) s) := by
  induction l generalizing s with
  | nil => exact .nil
  | cons f l ih => exact FramesSent.one.trans ih

/-- What a port sends when it is pumped: the front of its queue, as far as credit lets it go. -/
theorem pump_framesSent : FramesSent p ((portOf s p).queue.take (mayGo (portOf s p)))
    (setPort p { portOf s p with queue := (portOf s p).queue.drop (mayGo (portOf s p)) } s) (pump p s) :=
  foldl_sendFrame_framesSent

theorem mayGo_le_queue : mayGo x ≤ x.queue.length := by
  unfold mayGo
  split
  · exact Nat.min_le_left ..
  · exact Nat.zero_le _

theorem mayGo_of_not_up (h : x.st ≠ .up) : mayGo x = 0 := if_neg h

theorem mayGo_within_credit (h : 0 < mayGo x) : x.outst.length + mayGo x ≤ min x.credit 64 := by
  by_cases hup : x.st = .up
  · have hgo : mayGo x = min x.queue.length (min x.credit 64 - x.outst.length) := if_pos hup
    omega
  · exact absurd (mayGo_of_not_up hup) (Nat.ne_of_gt h)

/-- A port when a frame has been heard on it, before its queue is pumped (03 R85, R89). -/
def heardPort (c : LinkCtl) (s : State) (x : PortState) : PortState :=
  let left := x.outst.filter (fun f => !ackedBy c.lack f.1)
  let moved := left.length != x.outst.length
  { x with lastRx := s.now, neigh := c.addr, credit := c.credit, outst := left,
           retries := if moved then 0 else x.retries, lastProgress := if moved then s.now else x.lastProgress }

/-- Hearing a frame is restating the port, then pumping its queue. -/
theorem hear_eq : ∃ u, hear p n c s = pump p u ∧ portOf u p = heardPort c s (portOf s p) ∧
    portOf u (otherPort p) = portOf s (otherPort p) ∧ u.out = s.out := by
  refine ⟨_, rfl, ?_, ?_, ?_⟩
  · simp only [portOf_setNeigh, portOf_setPort_self, portOf_heardOn_self]
    rw [heardPort, heardOn_beat]
  · simp
  · simp

end

/-- Settles O35: the port restated, then the front of its queue sent. -/
theorem linkAcknowledgementReleasesFrames : Obligations.LinkAcknowledgementReleasesFrames := by
  intro p n c s t x y left
  obtain ⟨u, hu, hport, hother, hout⟩ := hear_eq (p := p) (n := n) (c := c) (s := s)
  have hsent : FramesSent p _ _ t := hu ▸ pump_framesSent
  obtain ⟨next, tx, progress, m, hm, hy⟩ := hsent.port
  obtain ⟨l, hl, hlout⟩ := hsent.out
  rw [portOf_setPort_self, hport] at hy
  rw [hport] at hm hl
  rw [setPort_out, hout] at hlout
  have hlen : m.length = mayGo (heardPort c s x) := by
    rw [← List.length_map (f := Prod.snd), hm, List.length_take, Nat.min_eq_left mayGo_le_queue]
  have hy' : y = _ := hy
  rw [hy']
  refine ⟨rfl, rfl, rfl, rfl, rfl, ⟨mayGo (heardPort c s x), mayGo_le_queue, rfl, ?_, ⟨m, rfl⟩, ?_,
    fun hst => mayGo_of_not_up hst, ?_, l, hl, hlout⟩, ?_⟩
  · exact (List.map_append ..).trans (congrArg _ hm)
  · rw [List.length_take, Nat.min_eq_left mayGo_le_queue]; rfl
  · intro h
    have hfit := mayGo_within_credit h
    rw [← hlen] at hfit
    exact (List.length_append ..).trans_le hfit
  · rw [hsent.other, portOf_setPort_other, hother]

end Sys2Proof.Machine
end

section
/-! The servo's rate, the slews, and seconds from the wire (03 R103, R110, R114, R115). -/
namespace Sys2Proof.Machine

section
variable {s : State} {f : Fld}

theorem clampI_bounds {lo hi i : Int} (h : lo ≤ hi) : lo ≤ clampI lo hi i ∧ clampI lo hi i ≤ hi := by
  unfold clampI
  omega

theorem servoRate_bounds (kp ki : Nat) (theta integ : Int) :
    -200000 ≤ servoRate kp ki theta integ ∧ servoRate kp ki theta integ ≤ 200000 :=
  clampI_bounds (by decide)

/-- The servo takes an offset in the record of Plumb: integrator, rate and offset (03 R110). -/
theorem servo_plumb (theta : Int) : (servo theta s).plumb =
    { s.plumb with
      integ := clampInteg (rd s P03.SERVO_KI) (s.plumb.integ + theta)
      rate := servoRate (rd s P03.SERVO_KP) (rd s P03.SERVO_KI) theta
        (clampInteg (rd s P03.SERVO_KI) (s.plumb.integ + theta))
      theta := theta } := rfl

@[simp] theorem toward0_zero (d : Int) : toward0 0 d = d := by
  unfold toward0
  split <;> omega

/-- Moved toward 0, a value neither passes 0 nor moves further than it was to (03 R114). -/
theorem toward0_spec {move d : Int} (h : 0 ≤ move) : (toward0 move d).natAbs ≤ d.natAbs ∧
    (0 ≤ d → 0 ≤ toward0 move d) ∧ (d ≤ 0 → toward0 move d ≤ 0) ∧ (d - toward0 move d).natAbs ≤ move.natAbs := by
  unfold toward0
  split <;> omega

theorem locked_eq_true : locked s = true ↔ rd s P03.PLUMB_STATE = 2 := beq_iff_eq

theorem slew_of_not_locked (h : rd s P03.PLUMB_STATE ≠ 2) : slew s = s :=
  if_pos (Bool.eq_false_iff.mpr (mt locked_eq_true.mp h))

/-- While legal time is diverged its offset stands still (03 R115). -/
theorem slew_deltaL_of_diverged (h : rd s P03.LEGAL_DIVERGED ≠ 0) : (slew s).plumb.deltaL = s.plumb.deltaL := by
  unfold slew
  split
  · rfl
  · simp [rdB_of_ne_zero h]

end

/-- Settles O38: the clamp of the rate, the servo by the record it leaves, the slew by its step. -/
theorem servoRateIsLimited : Obligations.ServoRateIsLimited := by
  refine ⟨servoRate_bounds, fun theta s => ?_, fun move d => toward0_spec, fun s => slew_of_not_locked,
    fun s => slew_deltaL_of_diverged⟩
  rw [servo_plumb]
  exact ⟨(servoRate_bounds ..).1, (servoRate_bounds ..).2, rfl, rfl⟩

/-! Seconds from the wire (03 R103). -/

section
variable {c64 s48 cand : Nat}

/-- The candidate of R103 is the chip's seconds with their low 48 bits replaced. -/
theorem widen_eq (hcand : cand = c64 / 2 ^ 48 * 2 ^ 48 + s48) : widen c64 s48 =
    (let lowered := if c64 + 2 ^ 47 < cand then cand - 2 ^ 48 else cand
    if lowered + 2 ^ 47 < c64 then lowered + 2 ^ 48 else lowered) := by
  have hbase : c64 - c64 % 2 ^ 48 = c64 / 2 ^ 48 * 2 ^ 48 := by omega
  rw [widen, hbase, ← hcand]

theorem widen_of_above (hcand : cand = c64 / 2 ^ 48 * 2 ^ 48 + s48) (hs48 : s48 < 2 ^ 48) (h : c64 + 2 ^ 47 < cand) :
    widen c64 s48 = cand - 2 ^ 48 := by
  rw [widen_eq hcand, if_pos h]
  exact if_neg (by omega)

theorem widen_of_below (hcand : cand = c64 / 2 ^ 48 * 2 ^ 48 + s48) (h : cand + 2 ^ 47 < c64) :
    widen c64 s48 = cand + 2 ^ 48 := by
  have hlow : ¬ c64 + 2 ^ 47 < cand := by omega
  rw [widen_eq hcand, if_neg hlow]
  exact if_pos h

theorem widen_of_near (hcand : cand = c64 / 2 ^ 48 * 2 ^ 48 + s48) (hhigh : cand ≤ c64 + 2 ^ 47)
    (hlow : c64 ≤ cand + 2 ^ 47) : widen c64 s48 = cand := by
  rw [widen_eq hcand, if_neg (Nat.not_lt_of_le hhigh)]
  exact if_neg (Nat.not_lt_of_le hlow)

/-- From 2^48 s on the value keeps the 48 bits received and is the nearest that does (03 R103). -/
theorem widen_nearest (hs48 : s48 < 2 ^ 48) (hbig : 2 ^ 48 ≤ c64) :
    widen c64 s48 % 2 ^ 48 = s48 ∧ widen c64 s48 ≤ c64 + 2 ^ 47 ∧ c64 ≤ widen c64 s48 + 2 ^ 47 := by
  obtain ⟨cand, hcand⟩ : ∃ cand, cand = c64 / 2 ^ 48 * 2 ^ 48 + s48 := ⟨_, rfl⟩
  rcases Nat.lt_or_ge (c64 + 2 ^ 47) cand with habove | hhigh
  · rw [widen_of_above hcand hs48 habove]; omega
  rcases Nat.lt_or_ge (cand + 2 ^ 47) c64 with hbelow | hlow
  · rw [widen_of_below hcand hbelow]; omega
  · rw [widen_of_near hcand hhigh hlow]; omega

end

/-- Settles O39: the three places of the candidate, then the distance of what comes of it. -/
theorem wireSecondsAreWidened : Obligations.WireSecondsAreWidened :=
  fun _ _ hs48 => ⟨widen_of_above rfl hs48, widen_of_below rfl, widen_of_near rfl, widen_nearest hs48⟩

end Sys2Proof.Machine
end

section
/-! ENUMERATE, SET_LEGAL_TIME and SET_SLOT_TIME (02 R69; 03 R96, R97, R116, R117). -/
namespace Sys2Proof.Machine

section
variable {h : Hdr} {p : List Byte} {c : Instr} {sig : Bool} {s t : State} {f : Fld} {n : Nat}

/-! ENUMERATE by its destination. -/

/-- The address that follows the upstream neighbour's in the chain (03 R96). -/
abbrev nextInChain (s : State) : Nat := (if rd s P02.NEIGHBOUR_U = 0x3E then 0 else rd s P02.NEIGHBOUR_U) + 1

theorem exec_enumerate_ignored (hd : h.dest = 0) (ha : rd s P02.CHAIN_ADDR ≠ 0) : exec (.enumerate h p) s = .next s :=
  if_pos ⟨hd, ha⟩

theorem exec_enumerate_done {data : List Byte} (hs : Served h p false s) (hn : ¬ (h.dest = 0 ∧ ownAddr s ≠ 0))
    (hbody : enumBody h p s = .done data t) : exec (.enumerate h p) s = .next (finish h p stDone 0 data t) :=
  (if_neg hn).trans (congrArg Host.Outcome.next (runCmd_done hs hbody))

theorem exec_enumerate_fails {st d : Nat} (hs : Served h p false s) (hn : ¬ (h.dest = 0 ∧ ownAddr s ≠ 0))
    (hbody : enumBody h p s = .fail st d) : exec (.enumerate h p) s = ended h p st d s :=
  (if_neg hn).trans (congrArg Host.Outcome.next (runCmd_fails hs hbody))

theorem enumBody_broadcast (hd : h.dest = 0x3F) (hv : byteAt p 0 = 0) :
    enumBody h p s = .done (enumData (ownAddr s) s) s := by
  simp [enumBody, hd, hv]

theorem enumBody_own (hd : h.dest ≠ 0x3F) (hd0 : h.dest ≠ 0) (hv : byteAt p 0 = 0 ∨ byteAt p 0 = ownAddr s) :
    enumBody h p s = .done (enumData (ownAddr s) s) s := by
  simp [enumBody, hd, hd0, hv]

theorem enumBody_assigns (hd : h.dest = 0) (hv : byteAt p 0 = nextInChain s) (hmax : byteAt p 0 ≤ 0x20) :
    enumBody h p s = .done (enumData (byteAt p 0) s) { s with chain.nextAddr := some (byteAt p 0) } := by
  simp only [enumBody, hd]
  exact (if_neg (by decide)).trans ((if_pos trivial).trans (if_pos ⟨hv, hmax⟩))

theorem enumBody_out_of_chain (hd : h.dest = 0) (hv : byteAt p 0 ≠ nextInChain s ∨ 0x20 < byteAt p 0) :
    enumBody h p s = .fail stOutOfRange 0 := by
  simp only [enumBody, hd]
  refine (if_neg (by decide)).trans ((if_pos trivial).trans (if_neg fun hc => ?_))
  exact hv.elim (fun hne => hne hc.1) (fun hlt => absurd hc.2 (Nat.not_le_of_lt hlt))

/-! Stepping legal and slot time. -/

theorem rdB_eq_true : rdB s f = true ↔ rd s f ≠ 0 := bne_iff_ne
theorem rdB_eq_false : rdB s f = false ↔ rd s f = 0 := by rw [← Bool.not_eq_true, rdB_eq_true, not_not]

theorem authOk_iff : authOk s n sig = true ↔ sig = true ∧ rd s P30.LEGAL_KEY_SET ≠ 0 ∧ authFloor s < n := by
  simp only [authOk, Bool.and_eq_true, decide_eq_true_eq, rdB_eq_true, and_assoc]

/-- The three cases of R116 in which legal time may be stepped. -/
def legalMayStep (s : State) : Prop :=
  rd s P03.LEGAL_COMMISSIONED = 0 ∨ rd s P03.LEGAL_DIVERGED ≠ 0 ∨ rd s P03.LEGAL_INVALID ≠ 0

theorem not_legalMayStep : ¬ legalMayStep s ↔
    rdB s P03.LEGAL_COMMISSIONED = true ∧ rdB s P03.LEGAL_DIVERGED = false ∧ rdB s P03.LEGAL_INVALID = false := by
  simp only [legalMayStep, not_or, rdB_eq_true, rdB_eq_false, ne_eq, not_not]

theorem legalTimeBody_unauthorised (hauth : ¬ authOk s (authCount p) sig = true) :
    legalTimeBody p c sig s = .fail stDeniedLegal 0 := if_pos (Bool.eq_false_iff.mpr hauth)

theorem legalTimeBody_denied (hauth : authOk s (authCount p) sig = true) (hmay : ¬ legalMayStep s) :
    legalTimeBody p c sig s = .fail stDeniedState 0 :=
  (if_neg (by simp [hauth])).trans (if_pos (not_legalMayStep.mp hmay))

theorem legalTimeBody_accepts (hauth : authOk s (authCount p) sig = true) (hmay : legalMayStep s) :
    legalTimeBody p c sig s =
      .accept (stepData s (legalNs s) (chainNs s + newOffset p)) p { cmd := some c, args := [authCount p] } s :=
  (if_neg (by simp [hauth])).trans (if_neg fun hc => not_legalMayStep.mpr hc hmay)

theorem exec_setSlotTime_accepts (hs : Served h p true s) (hfree : rd s P03.SLOT_STEPPED = 0)
    (hopen : slotStepOpen s = false) : exec (.setSlotTime h p) s =
      .next (accepted h p (stepData s (slotNs s) (chainNs s + newOffset p)) p (.setSlotTime h p) [] s) :=
  congrArg Host.Outcome.next (runCmd_accepts hs (if_neg (by simp [rdB_eq_false.mpr hfree, hopen])))

theorem exec_setSlotTime_denied (hs : Served h p true s)
    (hdenied : ¬ (rd s P03.SLOT_STEPPED = 0 ∧ slotStepOpen s = false)) :
    exec (.setSlotTime h p) s = ended h p stDeniedState 0 s := by
  refine congrArg Host.Outcome.next (runCmd_fails hs (if_pos ?_))
  rwa [← rdB_eq_false, ← Bool.or_eq_false_iff, Bool.not_eq_false] at hdenied

theorem radioSlotStep_plumb {d : Int} : (radioSlotStep d s).plumb = s.plumb := rfl
theorem radioSlotStep_regs {d : Int} : (radioSlotStep d s).regs = s.regs := rfl

/-- The step of slot time on a device whose offsets are set (03 R117). -/
theorem stepSlot_plumb {off : Int} (hest : s.plumb.est = true) : (stepSlot off s).plumb =
    { s.plumb with deltaS := off, slotDue := none, slewS := 0 } := by
  have hsame : establish s = s := if_pos hest
  rw [stepSlot, hsame, radioSlotStep_plumb, checkDiverged_plumb, wr_plumb]

/-- The flags of R115, and what logging an event writes. -/
abbrev divergedFields (f : Fld) : Prop := logPages f ∨ f = P03.LEGAL_DIVERGED ∨ f = P03.SLOT_DIVERGED

theorem checkDiverged_wrote : Wrote divergedFields s (checkDiverged s) := by
  unfold checkDiverged
  extract_lets lim l d s1
  have hlegal : ∀ {b}, Wrote divergedFields s (wrB P03.LEGAL_DIVERGED b s) :=
    Wrote.refl.wrI P03.LEGAL_DIVERGED_known (.inr (.inl rfl))
  have hs1 : Wrote divergedFields s s1 := by
    unfold s1
    split
    · exact hlegal.logEv fun _ => .inl
    · exact hlegal
  have hslot : ∀ {b}, Wrote divergedFields s (wrB P03.SLOT_DIVERGED b s1) :=
    hs1.wrI P03.SLOT_DIVERGED_known (.inr (.inr rfl))
  split
  · exact hslot.logEv fun _ => .inl
  · exact hslot

/-- A step of slot time leaves SLOT_STEPPED set (03 R117). -/
theorem rd_stepSlot_stepped {off : Int} (htidy : s.tidy = true) : rd (stepSlot off s) P03.SLOT_STEPPED = 1 := by
  rw [stepSlot]
  extract_lets t
  rw [rd_congr radioSlotStep_regs, checkDiverged_wrote.rd (wr_tidy P03.SLOT_STEPPED_known ?_) P03.SLOT_STEPPED_known
    (by decide), rd_wr_self]
  · rfl
  all_goals exact (establish_kept (.refl s)).tidy htidy

end

/-- Settles O20: the destination, then byte 0 of the payload, decide. -/
theorem enumerationAssignsAddresses : Obligations.EnumerationAssignsAddresses := by
  refine ⟨?served, fun h p s => exec_enumerate_ignored⟩
  intro h p s r hs data a u v
  refine ⟨?reports, fun hd ha hv hmax => ?assigns, fun hd ha hv => ?refused⟩
  case reports =>
    rintro (⟨hd, hv⟩ | ⟨hd, hd0, hv⟩)
    · exact exec_enumerate_done hs (fun hc => absurd (hd.symm.trans hc.1) (by decide)) (enumBody_broadcast hd hv)
    · exact exec_enumerate_done hs (fun hc => hd0 hc.1) (enumBody_own hd hd0 hv)
  case assigns => exact exec_enumerate_done hs (fun hc => hc.2 ha) (enumBody_assigns hd hv hmax)
  case refused => exact exec_enumerate_fails hs (fun hc => hc.2 ha) (enumBody_out_of_chain hd hv)

/-- Settles O22: the commands by what their bodies answer, the effects by what they write. -/
theorem timeCommandsComplete : Obligations.TimeCommandsComplete := by
  refine ⟨?legal, ?slot, fun s a b => ?stamps, ?legalEffect, ?slotEffect⟩
  case legal =>
    intro h p sig s r hs n ok may data
    refine ⟨fun hok hmay => ?_, fun hok => ?_, fun hok hmay => ?_⟩
    · exact congrArg _ (runCmd_accepts hs (legalTimeBody_accepts (authOk_iff.mpr hok) hmay))
    · exact congrArg _ (runCmd_fails hs (legalTimeBody_unauthorised (mt authOk_iff.mp hok)))
    · exact congrArg _ (runCmd_fails hs (legalTimeBody_denied (authOk_iff.mpr hok) hmay))
  case slot =>
    intro h p s hs may
    exact ⟨fun hmay => exec_setSlotTime_accepts hs hmay.1 hmay.2, exec_setSlotTime_denied hs⟩
  case stamps =>
    have hu : (0 : Int) < nsU := by decide
    exact ⟨s.plumb.chain % nsU, rfl, Int.emod_nonneg _ hu.ne', Int.emod_lt_of_pos _ hu⟩
  case legalEffect =>
    intro h p sig n d s htidy t
    exact ⟨rfl, rd_wr_self htidy⟩
  case slotEffect =>
    intro h p a d s htidy hest hmode hfree t
    have hstep : t = stepSlot (toS 64 (leAt d 0 8)) s :=
      (if_neg (by simp [rdB_eq_false.mpr hfree])).trans (if_pos ⟨hest, hmode⟩)
    rw [hstep]
    exact ⟨stepSlot_plumb hest, rd_stepSlot_stepped htidy⟩

end Sys2Proof.Machine
end

section
/-! Link frames received on a port (03 R84, R86, R88 to R90, R98, Table 03-2). -/
namespace Sys2Proof.Machine

section
variable {p : Port} {f : LinkFrame} {c : LinkCtl} {s : State}

/-! A data frame, check by check. -/

/-- What comes of a data frame that passed the checks of FCS, EtherType and port (03 R88 to R90). -/
def takeFrame (p : Port) (f : LinkFrame) (s : State) : State :=
  let s1 := hear p (frameBytes f.packet) ⟨f.lack, f.credit, f.addr⟩ s
  let y := portOf s1 p
  if f.lseq = y.rxNext then
    forward p f.packet (sendCtl p 2
      (setPort p { y with rxNext := (y.rxNext + 1) % 65536, recv := y.recv + 1, nacked := false } s1))
  else if (y.rxNext + 65536 - f.lseq % 65536) % 65536 ≤ 32768 then sendCtl p 2 s1
  else if y.nacked then s1
  else setPort p { portOf (sendCtl p 3 s1) p with nacked := true } (sendCtl p 3 s1)

/-- A powered device tells data frames apart by FCS, EtherType and the state of the port. -/
theorem exec_linkDataFrame (hoff : s.pwr.mode ≠ .off) (hdormant : s.pwr.mode ≠ .dormant) :
    exec (.linkDataFrame p f) s = .next (
      if f.fcsOk = false then setPort p { portOf s p with fcsErr := min ((portOf s p).fcsErr + 1) 65535 } s
      else if f.etherType = 0x88F7 then heardOn p (frameBytes f.packet) s
      else if f.etherType ≠ rd s P02.ETHERTYPE then
        heardOn p (frameBytes f.packet) (setPort p { portOf s p with etherDrops := (portOf s p).etherDrops + 1 } s)
      else if (portOf s p).st ≠ .up then heardOn p (frameBytes f.packet) s
      else takeFrame p f s) := by
  refine (if_neg (not_or.mpr ⟨hoff, hdormant⟩)).trans ?_
  simp only [takeFrame, apply_ite Host.Outcome.next]
  rfl

section
variable (hoff : s.pwr.mode ≠ .off) (hdormant : s.pwr.mode ≠ .dormant) (hfcs : f.fcsOk = true)
include hoff hdormant hfcs

theorem exec_linkDataFrame_ptp (hptp : f.etherType = 0x88F7) :
    exec (.linkDataFrame p f) s = .next (heardOn p (frameBytes f.packet) s) := by
  rw [exec_linkDataFrame hoff hdormant, if_neg (by simp [hfcs]), if_pos hptp]

theorem exec_linkDataFrame_foreign (hptp : f.etherType ≠ 0x88F7) (hether : f.etherType ≠ rd s P02.ETHERTYPE) :
    exec (.linkDataFrame p f) s = .next (heardOn p (frameBytes f.packet)
      (setPort p { portOf s p with etherDrops := (portOf s p).etherDrops + 1 } s)) := by
  rw [exec_linkDataFrame hoff hdormant, if_neg (by simp [hfcs]), if_neg hptp, if_pos hether]

theorem exec_linkDataFrame_not_up (hptp : f.etherType ≠ 0x88F7) (hether : f.etherType = rd s P02.ETHERTYPE)
    (hup : (portOf s p).st ≠ .up) : exec (.linkDataFrame p f) s = .next (heardOn p (frameBytes f.packet) s) := by
  rw [exec_linkDataFrame hoff hdormant, if_neg (by simp [hfcs]), if_neg hptp, if_neg (not_not.mpr hether), if_pos hup]

theorem exec_linkDataFrame_taken (hptp : f.etherType ≠ 0x88F7) (hether : f.etherType = rd s P02.ETHERTYPE)
    (hup : (portOf s p).st = .up) : exec (.linkDataFrame p f) s = .next (takeFrame p f s) := by
  rw [exec_linkDataFrame hoff hdormant, if_neg (by simp [hfcs]), if_neg hptp, if_neg (not_not.mpr hether),
    if_neg (not_not.mpr hup)]

end

/-! A frame taken, by its link sequence. -/

section
variable {s1 : State} {y : PortState} (hs1 : hear p (frameBytes f.packet) ⟨f.lack, f.credit, f.addr⟩ s = s1)
  (hy : portOf s1 p = y)
include hs1 hy

theorem takeFrame_in_order (hseq : f.lseq = y.rxNext) : takeFrame p f s = forward p f.packet (sendCtl p 2
    (setPort p { y with rxNext := (y.rxNext + 1) % 65536, recv := y.recv + 1, nacked := false } s1)) := by
  subst hs1 hy
  exact if_pos hseq

theorem takeFrame_behind (hseq : f.lseq ≠ y.rxNext)
    (hbehind : (y.rxNext + 65536 - f.lseq % 65536) % 65536 ≤ 32768) : takeFrame p f s = sendCtl p 2 s1 := by
  subst hs1 hy
  exact (if_neg hseq).trans (if_pos hbehind)

theorem takeFrame_ahead_again (hseq : f.lseq ≠ y.rxNext)
    (hahead : 32768 < (y.rxNext + 65536 - f.lseq % 65536) % 65536) (hnacked : y.nacked = true) : takeFrame p f s = s1 := by
  subst hs1 hy
  exact (if_neg hseq).trans ((if_neg (Nat.not_le_of_lt hahead)).trans (if_pos hnacked))

/-- The gap is answered once (03 R90). -/
theorem takeFrame_ahead_first (hseq : f.lseq ≠ y.rxNext)
    (hahead : 32768 < (y.rxNext + 65536 - f.lseq % 65536) % 65536) (hnacked : y.nacked = false) :
    takeFrame p f s = setPort p { portOf (sendCtl p 3 s1) p with nacked := true } (sendCtl p 3 s1) := by
  subst hs1 hy
  exact (if_neg hseq).trans ((if_neg (Nat.not_le_of_lt hahead)).trans (if_neg (Bool.eq_false_iff.mp hnacked)))

end

/-! Frames that carry no packet. -/

theorem exec_linkAck : exec (.linkAck p c) s = .next (if (portOf s p).st = .up then hear p 26 c s else s) := rfl

theorem exec_linkNack :
    exec (.linkNack p c) s = .next (if (portOf s p).st = .up then retransmit p (hear p 26 c s) else s) := rfl

theorem exec_linkRtoExpire_due (hup : (portOf s p).st = .up)
    (hdue : rd s P02.LINK_RTO ≤ (s.now + 1 - (portOf s p).lastProgress) * 125) :
    exec (.linkRtoExpire p) s = .next (retransmit p s) :=
  congrArg Host.Outcome.next (if_pos ⟨hup, decide_eq_true hdue⟩)

theorem exec_linkRtoExpire_not_up (hup : (portOf s p).st ≠ .up) : exec (.linkRtoExpire p) s = .next s :=
  congrArg Host.Outcome.next (if_neg fun hc => hup hc.1)

/-- A probe is heard, answered by a port that resynchronises, and on U its sender's address is checked (03 R91, R98). -/
theorem exec_linkProbe : exec (.linkProbe p c) s = .next (
    let t := if (portOf s p).st = .resync then sendCtl p 5 (hear p 26 c s) else hear p 26 c s
    if p = .u then checkNeighbour c.addr t else t) := rfl

end

/-- Settles O34: a data frame by its checks and its sequence, the other frames by the state of the port. -/
theorem linkReceiveEventsComplete : Obligations.LinkReceiveEventsComplete := by
  refine ⟨?data, fun p c s hup => ⟨?ack, ?nack, exec_linkRtoExpire_due hup⟩,
    fun p c s hup => ⟨?ackDown, ?nackDown, exec_linkRtoExpire_not_up hup⟩,
    fun c s => ⟨fun h => ?probe, fun h => ?probeResync, fun h => ?probeUp⟩, fun p s => rfl⟩
  case data =>
    intro p f s r hoff hdormant x n s1 y behind e
    refine ⟨fun hfcs => (exec_linkDataFrame hoff hdormant).trans (congrArg _ (if_pos hfcs)),
      exec_linkDataFrame_ptp hoff hdormant, exec_linkDataFrame_foreign hoff hdormant,
      exec_linkDataFrame_not_up hoff hdormant, fun hfcs hptp hether hup => ?_⟩
    have hr : r = .next (takeFrame p f s) := exec_linkDataFrame_taken hoff hdormant hfcs hptp hether hup
    rw [hr]
    refine ⟨fun hseq => congrArg _ (takeFrame_in_order rfl rfl hseq),
      fun hseq hbehind => congrArg _ (takeFrame_behind rfl rfl hseq hbehind),
      fun hseq hahead hnacked => congrArg _ (takeFrame_ahead_again rfl rfl hseq hahead hnacked),
      fun hseq hahead hnacked => ⟨_, congrArg _ (takeFrame_ahead_first rfl rfl hseq hahead hnacked), setPort_out, ?_, ?_⟩⟩
    · rw [portOf_setPort_self]
    · rw [portOf_setPort_self]
      exact sendCtl_rxNext
  case ack => rw [exec_linkAck, if_pos hup]
  case nack => rw [exec_linkNack, if_pos hup]
  case ackDown => rw [exec_linkAck, if_neg hup]
  case nackDown => rw [exec_linkNack, if_neg hup]
  case probe => exact exec_linkProbe.trans (congrArg _ (if_neg h))
  case probeResync => exact exec_linkProbe.trans (congrArg _ (if_pos h))
  case probeUp => exact exec_linkProbe.trans (congrArg (fun t => Host.Outcome.next (checkNeighbour c.addr t)) (if_neg h))

end Sys2Proof.Machine
end

section
/-! Ports that come up, resynchronise, go down and measure their delay (03 R85, R91, R92, R99, R106, R108). -/
namespace Sys2Proof.Machine

section
variable {p : Port} {c : LinkCtl} {m : List Byte} {lost : Bool} {trip turnaround : Int} {a d : Nat} {s : State}

theorem passed_iff {t n : Nat} : passed s t n = true ↔ t + n ≤ s.now := decide_eq_true_iff

/-! States of a port. -/

/-- A port that comes up keeps of its held frames those that `kept` names (03 R85, R91, R99). -/
theorem exec_linkUp {kept : List LinkPkt} (h : (portOf s p).st = .down)
    (hkept : (if passed s (portOf s p).downAt (msBeats (rd s P02.LINK_HOLD)) then [] else (portOf s p).heldFrames) = kept) :
    exec (.linkUp p a) s = .next (sendCtl p 5 (logEv evLinkUp (leB 1 (portNo p))
      (setNeigh p a (wr (upFld p) 1 (setPort p { portOf s p with
        st := .resync, txNext := 0, rxNext := 0, credit := 0, lastRx := s.now, neigh := a, nacked := false, retries := 0,
        heldFrames := kept,
        holdDrops := (portOf s p).holdDrops + ((portOf s p).heldFrames.length - kept.length) } s))))) := by
  subst hkept
  exact if_pos h

theorem exec_linkUp_not_down (h : (portOf s p).st ≠ .down) : exec (.linkUp p a) s = .next s := if_neg h

theorem exec_linkResync_down (h : (portOf s p).st = .down) : exec (.linkResync p c) s = .next s := if_pos h

theorem exec_linkDown (h : (portOf s p).st ≠ .down)
    (hlost : lost = true ∨ (portOf s p).lastRx + rd s P02.LINK_DEAD * 8 ≤ s.now) :
    exec (.linkDown p lost) s = .next (portDown p s) :=
  if_pos ⟨h, by rw [Bool.or_eq_true]; exact hlost.imp_right decide_eq_true⟩

theorem exec_linkHoldExpire (h : (portOf s p).st = .down)
    (hheld : (portOf s p).downAt + rd s P02.LINK_HOLD * 8 ≤ s.now) : exec (.linkHoldExpire p) s =
      .next (setPort p { portOf s p with
        heldFrames := [], holdDrops := (portOf s p).holdDrops + (portOf s p).heldFrames.length } s) :=
  if_pos ⟨h, decide_eq_true hheld⟩

theorem exec_linkProbeSend (h : (portOf s p).lastTx + rd s P02.PROBE_MS * 8 ≤ s.now) :
    exec (.linkProbeSend p) s = .next (sendCtl p 4 s) :=
  congrArg Host.Outcome.next (if_pos (decide_eq_true h))

/-! Messages of IEEE 1588 on a port. -/

theorem exec_pdelayReqSend (h : (portOf s p).st ≠ .down)
    (hdue : ∀ t, (portOf s p).lastPdelay = some t → t + 8000 ≤ s.now) : exec (.pdelayReqSend p) s =
      .next (emit (.pdelayReq p) (sentOn p 72 (setPort p { portOf s p with lastPdelay := some s.now } s))) := by
  refine congrArg Host.Outcome.next (if_neg (not_or.mpr ⟨h, ?_⟩))
  cases hlast : (portOf s p).lastPdelay with
  | none => simp
  | some t =>
    have hpassed : passed s t (secBeats 1) = true := passed_iff.mpr (hdue t hlast)
    simp [hpassed]

theorem exec_pdelayReq_own : exec (.pdelayReq p (rd s P03.PTP_DOMAIN) turnaround) s =
    .next (emit (.pdelayResp p (turnaround + txCorr s p - rxCorr s p)) (sentOn p 72 (heardOn p 72 s))) :=
  congrArg Host.Outcome.next (if_neg (not_not.mpr rfl))

theorem exec_pdelayReq_other (h : d ≠ rd s P03.PTP_DOMAIN) :
    exec (.pdelayReq p d turnaround) s = .next (otherDomain (heardOn p 72 s)) :=
  congrArg Host.Outcome.next (if_pos h)

theorem exec_pdelayResp_other (h : d ≠ rd s P03.PTP_DOMAIN) :
    exec (.pdelayResp p d trip) s = .next (otherDomain (heardOn p 72 s)) := if_pos h

/-- The delay that an exchange of the chip's own domain shows is kept or rejected (03 R108). -/
theorem exec_pdelayResp_own : exec (.pdelayResp p (rd s P03.PTP_DOMAIN) trip) s =
    (let t := heardOn p 72 s
    let x := portOf t p
    let l := x.delays ++ [(exchangeDelay s p trip).toNat]
    if exchangeDelay s p trip < 0 ∨ 10000 < exchangeDelay s p trip then
      .next (setPort p { x with delayRej := x.delayRej + 1 } t)
    else .next (setPort p { x with delays := l.drop (l.length - 8) } t)) :=
  if_neg (not_not.mpr rfl)

theorem exec_announceForward : exec (.announceForward m) s = .next (
    if s.chain.d.st = .down then heardOn .u (18 + m.length) s
    else emit (.ptpForward m) (sentOn .d (18 + m.length) (heardOn .u (18 + m.length) s))) := rfl

end

/-- Settles O36: each row with its condition, from the equation of its meaning. -/
theorem linkStateEventsComplete : Obligations.LinkStateEventsComplete := by
  refine ⟨fun p a s h => exec_linkUp h (if_congr passed_iff rfl rfl), fun p a s => exec_linkUp_not_down, fun p c s h => if_neg h,
    fun p c s => exec_linkResync_down, fun p lost s => exec_linkDown, fun p s => exec_linkHoldExpire,
    fun p s => exec_linkProbeSend, fun p s => exec_pdelayReqSend, fun p n s => exec_pdelayReq_own,
    fun p d n s h => ⟨exec_pdelayReq_other h, exec_pdelayResp_other h⟩, fun p trip s => ⟨?valid, ?rejected⟩,
    fun m s h => exec_announceForward.trans (congrArg _ (if_neg h)),
    fun m s h => exec_announceForward.trans (congrArg _ (if_pos h))⟩
  case valid => exact fun hlow hhigh => exec_pdelayResp_own.trans (if_neg (by simp only [exchangeDelay]; omega))
  case rejected => exact fun hout => exec_pdelayResp_own.trans (if_pos hout)

end Sys2Proof.Machine
end

section
/-! PPS_IN_EDGE counts fabric cycles of 1/600 MHz, not nanoseconds (01 Table 01-1; 03 R121). -/
namespace Sys2Proof.Machine

/-- A device in reset with PPS_IN_EN set: chain time is 0. -/
def ppsInReset : State := wr P03.PPS_IN_EN 1 State.reset

theorem ppsInReset_tidy : ppsInReset.tidy = true := wr_tidy P03.PPS_IN_EN_known (by decide)

theorem rd_wrS_self {s : State} {f : Fld} {v : Int} (htidy : s.tidy = true) :
    rd (wrS f v s) f = ofS f.width v % 2 ^ f.width := rd_wr_self htidy

/-- An edge 3 fabric cycles after the boundary lies 5 ns after the whole second. -/
theorem exec_ppsInEdge_at_three_cycles :
    exec (.ppsInEdge 3) ppsInReset = .next (wrS P03.PPS_IN_OFFSET 5 ppsInReset) := by
  rfl

/-- Refutes O37: the statement adds the operand of PPS_IN_EDGE to chain time as nanoseconds, where the model, as R121's
resolution of one fabric cycle has it, counts fabric cycles: of an edge 3 cycles after the boundary of a whole second the
statement wants 3 ns in PPS_IN_OFFSET, and it is 5 ns. -/
theorem not_timeEventsComplete : ¬ Obligations.TimeEventsComplete := by
  intro h
  obtain ⟨-, -, -, -, -, -, -, -, hedge, -⟩ := h
  have hreported := (hedge 3 ppsInReset (by decide)).2 (by decide)
  rw [exec_ppsInEdge_at_three_cycles, if_neg (by decide)] at hreported
  injection hreported with hsame
  have hoffset := congrArg (rd · P03.PPS_IN_OFFSET) hsame
  rw [rd_wrS_self ppsInReset_tidy, rd_wrS_self ppsInReset_tidy] at hoffset
  exact absurd hoffset (by decide)

end Sys2Proof.Machine
end

section
/-! ENROL_METER, RETIRE_METER, GET_METER and LOAD_PROFILE_TEMPLATE (04 R131 to R133, R141; 05 R166). -/
namespace Sys2Proof.Machine

section
variable {h : Hdr} {p : List Byte} {s : State} {m : Meter} {e : Eff} {f : Meter → Meter} {mix n k : Nat}

/-! ENROL_METER, check by check (04 R131, R132). -/

/-- MODE is derived or wrapped, and the key slot is one for that mode. -/
abbrev enrolKeyed (p : List Byte) (s : State) : Prop :=
  (leAt p 14 2 / 2 ^ 14 = 1 ∨ leAt p 14 2 / 2 ^ 14 = 2) ∧ slotAttr s (leAt p 14 2 % 512) = leAt p 14 2 / 2 ^ 14

/-- TEMPLATE names none or a loaded one. -/
abbrev enrolTemplated (p : List Byte) (s : State) : Prop :=
  byteAt p 20 = 0xFF ∨ ∃ t ∈ s.infeed.templates, t.id = byteAt p 20

/-- The role has a place for the MIX asked for and for one more meter. -/
abbrev enrolRoomy (p : List Byte) (s : State) : Prop :=
  hubRole s = true ∨
    (enrolledSoon s < 16384 ∧ (leAt p 8 4 % 2 ^ 20 = 0xFFFFF ∨ leAt p 8 4 % 2 ^ 20 ≤ 16383))

theorem enrolBody_not_keyed (hkey : ¬ enrolKeyed p s) : enrolBody h p s = .fail stBadPayload 14 := by
  by_cases hmode : leAt p 14 2 / 2 ^ 14 ≠ 1 ∧ leAt p 14 2 / 2 ^ 14 ≠ 2
  · exact if_pos hmode
  · have hslot : slotAttr s (leAt p 14 2 % 512) ≠ leAt p 14 2 / 2 ^ 14 := fun hs => hkey ⟨by omega, hs⟩
    exact (if_neg hmode).trans (if_pos hslot)

theorem enrolTemplated_not_unknown (htpl : enrolTemplated p s) :
    ¬ (byteAt p 20 ≠ 0xFF ∧ (s.infeed.templates.any fun t => t.id == byteAt p 20) = false) := by
  rintro ⟨hset, hnone⟩
  obtain hff | ⟨t, ht, hid⟩ := htpl
  · exact hset hff
  · exact List.any_eq_false.mp hnone t ht (beq_iff_eq.mpr hid)

/-- A payload that passes the checks of R131: what is answered depends on whether its title is enrolled. -/
theorem enrolBody_checked (hkey : enrolKeyed p s) (htpl : enrolTemplated p s) (hroom : enrolRoomy p s) :
    (∀ m, meterOfTitle s (leAt p 0 8) = some m → enrolBody h p s = reEnrol h p m s) ∧
    (meterOfTitle s (leAt p 0 8) = none → (∀ x ∈ pendingEnrols s, x.2 ≠ leAt p 0 8) →
      (∀ n, leAt p 8 4 % 2 ^ 20 = 0xFFFFF → freeMix s (enrolLimit s) = some n → enrolBody h p s =
        .accept (enrolData n (enrolledSoon s + 1)) p { cmd := some (.enrolMeter h p), args := [n] } s) ∧
      (leAt p 8 4 % 2 ^ 20 ≠ 0xFFFFF → mixTaken s (leAt p 8 4 % 2 ^ 20) = false → enrolBody h p s =
        .accept (enrolData (leAt p 8 4 % 2 ^ 20) (enrolledSoon s + 1)) p
          { cmd := some (.enrolMeter h p), args := [leAt p 8 4 % 2 ^ 20] } s)) := by
  have hmode : ¬ (leAt p 14 2 / 2 ^ 14 ≠ 1 ∧ leAt p 14 2 / 2 ^ 14 ≠ 2) := fun hc => hkey.1.elim hc.1 hc.2
  have hmix : ¬ (hubRole s = false ∧ leAt p 8 4 % 2 ^ 20 ≠ 0xFFFFF ∧ 16383 < leAt p 8 4 % 2 ^ 20) := by grind
  have hfull : ∀ fresh : Bool, ¬ (hubRole s = false ∧ fresh = true ∧ 16384 ≤ enrolledSoon s) := by grind
  simp only [enrolBody, if_neg hmode, if_neg (not_not.mpr hkey.2), if_neg (enrolTemplated_not_unknown htpl), if_neg hmix,
    if_neg (hfull _)]
  refine ⟨fun m hm => by simp only [hm], fun hm hpend => ?_⟩
  have hnew : ¬ ((pendingEnrols s).any fun x => x.2 == leAt p 0 8) = true := by
    simpa using fun x hx => hpend _ hx rfl
  simp only [hm, if_neg hnew]
  refine ⟨fun n hreq hfree => by simp only [if_pos hreq, hfree], fun hreq htaken => ?_⟩
  simp only [if_neg hreq, if_neg (Bool.eq_false_iff.mp htaken)]

/-! ENROL_METER of a title enrolled already (04 R132). -/

theorem reEnrol_same (hreq : leAt p 8 4 % 2 ^ 20 = 0xFFFFF ∨ leAt p 8 4 % 2 ^ 20 = m.mix)
    (hfields : enrolFields p = meterFields m) :
    reEnrol h p m s = .accept (enrolData m.mix (enrolledSoon s)) [] {} s :=
  (if_neg (by tauto)).trans (if_pos hfields)

theorem reEnrol_raised (hreq : leAt p 8 4 % 2 ^ 20 = 0xFFFFF ∨ leAt p 8 4 % 2 ^ 20 = m.mix)
    (hfields : (enrolFields p).drop 1 = (meterFields m).drop 1) (hgen : m.keyGen < leAt p 12 2) :
    reEnrol h p m s =
      .accept (enrolData m.mix (enrolledSoon s)) p { cmd := some (.enrolMeter h p), args := [m.mix] } s := by
  have hchanged : enrolFields p ≠ meterFields m := fun heq => by
    have hsame : leAt p 12 2 = m.keyGen := (List.cons.inj heq).1
    omega
  exact (if_neg (by tauto)).trans ((if_neg hchanged).trans (if_pos ⟨hfields, hgen⟩))

/-! RETIRE_METER and GET_METER (04 R133; 05 R166). -/

theorem exec_retireMeter_enrolled (hs : Served h p true s) (hm : meterAt s (leAt p 0 4 % 2 ^ 20) = some m) :
    exec (.retireMeter h p) s = .next (accepted h p [] p (.retireMeter h p) [leAt p 0 4 % 2 ^ 20] s) :=
  congrArg Host.Outcome.next (runCmd_accepts hs (by simp only [hm]))

theorem exec_retireMeter_unknown (hs : Served h p true s) (hm : meterAt s (leAt p 0 4 % 2 ^ 20) = none) :
    exec (.retireMeter h p) s = ended h p stUnknownObject 0 s :=
  congrArg Host.Outcome.next (runCmd_fails hs (by simp only [hm]))

theorem exec_getMeter_known (hs : Served h p false s) (hm : recordAt s (leAt p 0 4 % 2 ^ 20) = some m) :
    exec (.getMeter h p) s = answered h p (meterBytes m) s :=
  congrArg Host.Outcome.next (runCmd_done hs (by simp only [hm]))

theorem exec_getMeter_unknown (hs : Served h p false s) (hm : recordAt s (leAt p 0 4 % 2 ^ 20) = none) :
    exec (.getMeter h p) s = ended h p stUnknownObject 0 s :=
  congrArg Host.Outcome.next (runCmd_fails hs (by simp only [hm]))

/-- A meter state record has the size of Table 05-1. -/
theorem meterBytes_length : (meterBytes m).length = 128 := by
  unfold meterBytes
  simp [zeros]

/-! LOAD_PROFILE_TEMPLATE (04 R141). -/

/-- The channels with a VALUE step inside an array of a payload's template. -/
abbrev arrayChans (p : List Byte) : List Nat :=
  ((valueChans false (templateOf p).steps).filter (fun x => x.1)).map Prod.snd

/-- The header of a template's payload has an index, an interval and a step count that R141 admits. -/
abbrev templateHeaded (p : List Byte) : Prop :=
  byteAt p 0 ≤ 63 ∧ intervalSec (byteAt p 1) ≠ 0 ∧ byteAt p 2 ≠ 0 ∧ byteAt p 2 ≠ 255 ∧ p.length = 16 + 8 * byteAt p 2

theorem templateBody_headed (hhead : templateHeaded p) :
    (∀ k, badStep false (arrayChans p) 0 (templateOf p).steps = some k →
      templateBody h p s = .fail stBadPayload (16 + 8 * k)) ∧
    (badStep false (arrayChans p) 0 (templateOf p).steps = none → templateBody h p s =
      .accept (leB 1 (byteAt p 0) ++ leB 1 (byteAt p 2) ++ zeros 2) p { cmd := some (.loadProfileTemplate h p) } s) := by
  obtain ⟨hid, hiv, hsome, hmany, hlen⟩ := hhead
  have hcount : ¬ (byteAt p 2 = 0 ∨ byteAt p 2 = 255 ∨ p.length ≠ 16 + 8 * byteAt p 2) := by tauto
  have hbody : ¬ 63 < (templateOf p).id := Nat.not_lt.mpr hid
  have hint : ¬ intervalSec (templateOf p).interval = 0 := hiv
  simp only [templateBody, if_neg hbody, if_neg hint, if_neg hcount]
  refine ⟨fun k hbad => by simp only [hbad], fun hgood => ?_⟩
  simp only [hgood]
  rfl

theorem templateBody_index (hid : 63 < byteAt p 0) : templateBody h p s = .fail stBadPayload 0 := if_pos hid

theorem templateBody_interval (hid : byteAt p 0 ≤ 63) (hiv : intervalSec (byteAt p 1) = 0) :
    templateBody h p s = .fail stBadPayload 1 :=
  (if_neg (Nat.not_lt.mpr hid)).trans (if_pos hiv)

/-! Records after an enrolment (04 R132; 05 R165). -/

theorem recordAt_mix (hm : recordAt s n = some m) : m.mix = n := by
  simpa using List.find?_some hm

/-- A change of one MIX's record that keeps its MIX is seen in that record alone. -/
theorem recordAt_modMeter (hf : ∀ m, (f m).mix = m.mix) :
    recordAt (modMeter mix f s) n = (recordAt s n).map fun m => if m.mix == mix then f m else m := by
  have hsame : ∀ m : Meter, (if m.mix == mix then f m else m).mix = m.mix := fun m => by
    split <;> simp only [hf]
  simp only [recordAt, modMeter, mapIf, List.find?_map]
  congr 2
  exact funext fun m => by simp only [Function.comp, hsame]

theorem recordAt_modMeter_ne (hf : ∀ m, (f m).mix = m.mix) (hne : n ≠ mix) :
    recordAt (modMeter mix f s) n = recordAt s n := by
  rw [recordAt_modMeter hf]
  cases hm : recordAt s n with
  | none => rfl
  | some m => simp [recordAt_mix hm, hne]

theorem recordAt_modMeter_self (hf : ∀ m, (f m).mix = m.mix) (hm : recordAt s mix = some m) :
    recordAt (modMeter mix f s) mix = some (f m) := by
  simp [recordAt_modMeter hf, hm, recordAt_mix hm]

/-- An enrolment of a meter enrolled already: the new generation, its time, and cleared counters. -/
theorem effEnrolMeter_enrolled (hm : meterAt s (e.args.getD 0 0) = some m) :
    effEnrolMeter e s = modMeter (e.args.getD 0 0) (fun m => { m with
      keyGen := leAt e.data 12 2, keygenAt := legalSec s % 2 ^ 40, icHigh := 0, icMap := 0 }) s := by
  simp only [effEnrolMeter, hm]

/-- The meters after a first enrolment: the new record in place of what its MIX held. -/
theorem effEnrolMeter_meters (hm : meterAt s (e.args.getD 0 0) = none) : (effEnrolMeter e s).infeed.meters =
    s.infeed.meters.filter (fun m => m.mix != e.args.getD 0 0) ++ [newMeter s (e.args.getD 0 0) e.data] := by
  simp only [effEnrolMeter, hm, meterCount, wr_infeed]

/-- No record of a MIX is left beside its new one. -/
theorem find?_other_mix {q : Meter → Bool} (hq : ∀ m, q m = true → m.mix = mix) {l : List Meter} :
    (l.filter fun m => m.mix != mix).find? q = none := by
  simp only [List.find?_eq_none, List.mem_filter, bne_iff_ne]
  exact fun m hm hqm => hm.2 (hq m hqm)

theorem effEnrolMeter_meterAt (hm : meterAt s (e.args.getD 0 0) = none) :
    meterAt (effEnrolMeter e s) (e.args.getD 0 0) = some (newMeter s (e.args.getD 0 0) e.data) := by
  rw [meterAt, effEnrolMeter_meters hm, List.find?_append, find?_other_mix fun m hq => ?_]
  · simp [newMeter]
  · simpa using (Bool.and_eq_true_iff.mp hq).1

theorem effEnrolMeter_recordAt_ne (hm : meterAt s (e.args.getD 0 0) = none) (hne : n ≠ e.args.getD 0 0) :
    recordAt (effEnrolMeter e s) n = recordAt s n := by
  have hother : (fun m : Meter => decide (m.mix != e.args.getD 0 0 ∧ m.mix == n)) = fun m => m.mix == n :=
    funext fun m => by grind
  have hnew : ((newMeter s (e.args.getD 0 0) e.data).mix == n) = false := beq_false_of_ne hne.symm
  rw [recordAt, effEnrolMeter_meters hm, List.find?_append, List.find?_filter, hother, List.find?_singleton, hnew]
  exact Option.or_none

/-- METERS_ENROLLED counts the enrolled meters after a first enrolment. -/
theorem effEnrolMeter_count (htidy : s.tidy = true) (hm : meterAt s (e.args.getD 0 0) = none) :
    rd (effEnrolMeter e s) P10.METERS_ENROLLED =
      ((effEnrolMeter e s).infeed.meters.filter (fun m => m.rstate == 1)).length % 2 ^ 21 := by
  rw [effEnrolMeter_meters hm]
  simp only [effEnrolMeter, hm, meterCount]
  exact rd_wr_self htidy

theorem applyEffect_enrolMeter_new (hm : meterAt s mix = none) :
    applyEffect ⟨some (.enrolMeter h p), [mix], p⟩ s = effEnrolMeter ⟨some (.enrolMeter h p), [mix], p⟩ s :=
  if_neg (by simp [hm])

theorem applyEffect_enrolMeter_enrolled (hm : meterAt s mix = some m) :
    applyEffect ⟨some (.enrolMeter h p), [mix], p⟩ s = dlReseal mix (effEnrolMeter ⟨some (.enrolMeter h p), [mix], p⟩ s) :=
  if_pos (by simp [hm])

/-- The index of a loaded template holds it and nothing else. -/
theorem mem_effLoadProfileTemplate {x : Template} : x ∈ (effLoadProfileTemplate e s).infeed.templates ↔
    x = templateOf e.data ∨ (x ∈ s.infeed.templates ∧ x.id ≠ byteAt e.data 0) := by
  simp only [effLoadProfileTemplate, wr_infeed, List.mem_append, List.mem_filter, List.mem_singleton, decide_eq_true_eq]
  exact or_comm

end

/-- Settles O40: each command by the checks its payload passes and the record it names, each effect by the records it leaves. -/
theorem meterCommandsComplete : Obligations.MeterCommandsComplete := by
  refine ⟨fun h p s hs => ⟨⟨?new, ?unkeyed, ?known⟩, ?retired⟩, fun h p s hs => ⟨fun m hm => ⟨?bytes, ?got⟩, ?missing⟩,
   ?templates, ?enrols, ?raises, ?loads⟩
  case new =>
    intro hkey htpl hroom hm hpend
    obtain ⟨hlowest, hasked⟩ := (enrolBody_checked (h := h) hkey htpl hroom).2 hm hpend
    exact ⟨fun hreq htaken => congrArg Host.Outcome.next (runCmd_accepts hs (hasked hreq htaken)),
      fun n hreq hfree => congrArg Host.Outcome.next (runCmd_accepts hs (hlowest n hreq hfree))⟩
  case unkeyed => exact fun hkey => congrArg Host.Outcome.next (runCmd_fails hs (enrolBody_not_keyed hkey))
  case known =>
    intro m hkey htpl hroom hm hreq
    have hbody := (enrolBody_checked (h := h) hkey htpl hroom).1 m hm
    refine ⟨fun hsame => congrArg Host.Outcome.next ?_, fun hfields hgen => congrArg Host.Outcome.next (runCmd_accepts hs ?_)⟩
    · rw [runCmd_served hs, hbody, reEnrol_same hreq hsame]
      rfl
    · exact hbody.trans (reEnrol_raised hreq hfields hgen)
  case retired => exact ⟨fun ⟨m, hm⟩ => exec_retireMeter_enrolled hs hm, exec_retireMeter_unknown hs⟩
  case bytes => exact meterBytes_length
  case got => exact exec_getMeter_known hs hm
  case missing => exact exec_getMeter_unknown hs
  case templates =>
    intro h p s r hs n steps inside
    have fails : ∀ {k}, templateBody h p s = .fail stBadPayload k → r = ended h p stBadPayload k s := fun hbody =>
      congrArg Host.Outcome.next (runCmd_fails hs hbody)
    refine ⟨fun hid hiv hsome hmany hlen => ?_, fun hid => ?_, fun hid hiv => ?_⟩
    · obtain ⟨hbad, hgood⟩ := templateBody_headed (h := h) (s := s) ⟨hid, hiv, hsome, hmany, hlen⟩
      exact ⟨fun hok => congrArg Host.Outcome.next (runCmd_accepts hs (hgood hok)), fun k hk => fails (hbad k hk)⟩
    · exact fails (templateBody_index hid)
    · exact fails (templateBody_interval hid hiv)
  case enrols =>
    intro h p mix s htidy hm t
    have ht : t = _ := applyEffect_enrolMeter_new hm
    rw [ht]
    exact ⟨⟨_, effEnrolMeter_meterAt hm, rfl, rfl, rfl, rfl, rfl, rfl, rfl⟩, fun n hne => effEnrolMeter_recordAt_ne hm hne,
      effEnrolMeter_count htidy hm⟩
  case raises =>
    intro h p mix m s hm hrec t
    have ht : t = _ := effEnrolMeter_enrolled hm
    refine ⟨applyEffect_enrolMeter_enrolled hm, ?_, fun n hne => ?_⟩
    · rw [ht]
      exact recordAt_modMeter_self (fun _ => rfl) hrec
    · rw [ht]
      exact recordAt_modMeter_ne (fun _ => rfl) hne
  case loads =>
    intro h p s t x
    exact mem_effLoadProfileTemplate

end Sys2Proof.Machine
end

section
/-! INGEST_BATCH, GET_BATCH_STATUS and BATCH_EXPIRED (04 R158 to R160, Table 04-16; 02 Table 02-5). -/
namespace Sys2Proof.Machine

section
variable {h : Hdr} {p : List Byte} {s : State} {b : Batch} {id k : Nat}

/-! A part, check by check (04 R158). -/

/-- The batch a part joins, or the new one that it opens. -/
abbrev partBatch (p : List Byte) (s : State) : Batch :=
  (s.infeed.batches.find? (joinable (leAt p 0 8))).getD
    { id := leAt p 0 8, total := leAt p 12 4, parts := [], waiting := [], lastAt := s.now, st := 1 }

/-- A batch with one more part. -/
abbrev withPart (h : Hdr) (p : List Byte) (s : State) (b : Batch) : Batch :=
  { b with parts := insPart (leAt p 8 4, p.drop 16) b.parts, waiting := b.waiting ++ [(h, p)], lastAt := s.now }

/-- TOTAL is in its range and the one held for the batch. -/
abbrev partTotalOk (p : List Byte) (s : State) : Prop :=
  16 ≤ leAt p 12 4 ∧ leAt p 12 4 ≤ 130816 ∧ leAt p 12 4 = (partBatch p s).total

/-- The batch of a part is held already, or there is room for one more. -/
abbrev batchRoomy (p : List Byte) (s : State) : Prop :=
  s.infeed.batches.find? (joinable (leAt p 0 8)) ≠ none ∨ (s.infeed.batches.filter fun x => x.st != 3).length < 64

theorem ingestBody_backpressure (hhold : underHold s 1 = true) : ingestBody h p s = .fail stBackpressure 0 :=
  if_pos hhold

theorem ingestBody_no_id (hhold : underHold s 1 = false) (hid : leAt p 0 8 = 0) :
    ingestBody h p s = .fail stBadPayload 0 :=
  (if_neg (by simp [hhold])).trans (if_pos hid)

theorem ingestBody_total (hhold : underHold s 1 = false) (hid : leAt p 0 8 ≠ 0)
    (htotal : leAt p 12 4 < 16 ∨ 130816 < leAt p 12 4 ∨ leAt p 12 4 ≠ (partBatch p s).total) :
    ingestBody h p s = .fail stBadPayload 12 :=
  (if_neg (by simp [hhold])).trans ((if_neg hid).trans (if_pos htotal))

/-- A part with a number and a TOTAL that agrees: its data decide. -/
theorem ingestBody_data (hhold : underHold s 1 = false) (hid : leAt p 0 8 ≠ 0) (htotal : partTotalOk p s) :
    (p.drop 16 = [] → ingestBody h p s = .fail stBadPayload 16) ∧
    (p.drop 16 ≠ [] → leAt p 12 4 < leAt p 8 4 + (p.drop 16).length → ingestBody h p s = .fail stBadPayload 8) ∧
    (p.drop 16 ≠ [] → leAt p 8 4 + (p.drop 16).length ≤ leAt p 12 4 →
      (∀ k, overlapDiff (leAt p 8 4) (p.drop 16) (partBatch p s).parts = some k →
        ingestBody h p s = .fail stBadPayload k) ∧
      (overlapDiff (leAt p 8 4) (p.drop 16) (partBatch p s).parts = none → batchRoomy p s →
        (partBatch p s).waiting.length < 16 → ingestBody h p s = .stays (holdPart h p (partBatch p s) s))) := by
  obtain ⟨hlow, hhigh, hsame⟩ := htotal
  have hheld : ¬ underHold s 1 = true := Bool.eq_false_iff.mp hhold
  have hrange : ¬ (leAt p 12 4 < 16 ∨ 130816 < leAt p 12 4 ∨ leAt p 12 4 ≠ (partBatch p s).total) := by
    rintro (hlt | hgt | hne)
    · omega
    · omega
    · exact hne hsame
  simp only [ingestBody, if_neg hheld, if_neg hid, if_neg hrange, List.isEmpty_iff]
  refine ⟨fun hnone => if_pos hnone, fun hsome hpast => (if_neg hsome).trans (if_pos hpast), fun hsome hin => ?_⟩
  simp only [if_neg hsome, if_neg (Nat.not_lt.mpr hin)]
  refine ⟨fun k hdiff => by simp only [hdiff], fun hagree hroom hwait => ?_⟩
  have hopen : ¬ ((s.infeed.batches.find? (joinable (leAt p 0 8))).isNone = true ∧
      64 ≤ (s.infeed.batches.filter fun x => x.st != 3).length) := fun hfull =>
    hroom.elim (fun hknown => hknown (Option.isNone_iff_eq_none.mp hfull.1)) (fun hlt => absurd hfull.2 (Nat.not_le.mpr hlt))
  simp only [hagree, if_neg hopen, if_neg (Nat.not_le.mpr hwait)]

/-! A part that is taken (04 R159, R160). -/

theorem holdPart_joins (hst : b.st = 2) : holdPart h p b s = putBatch (withPart h p s b) s := if_pos hst

theorem holdPart_held (hst : b.st ≠ 2) (hmissing : lowestMissing 0 (withPart h p s b).parts ≠ b.total) :
    holdPart h p b s = sendReply h stHeld (b.waiting.length + 1)
      (leB 8 b.id ++ leB 4 (heldFrom 0 (withPart h p s b).parts) ++ leB 4 (lowestMissing 0 (withPart h p s b).parts))
      (putBatch (withPart h p s b) s) := by
  rw [holdPart]
  extract_lets b1
  rw [if_neg hst, if_neg hmissing, heldData, List.length_append, List.length_singleton]

theorem holdPart_completes (hst : b.st ≠ 2) (hall : lowestMissing 0 (withPart h p s b).parts = b.total) :
    holdPart h p b s = putBatch { withPart h p s b with
        st := 2, no := s.ledger.nextBatch,
        items := batchItems s.ledger.nextBatch 131072 (assemble 0 (withPart h p s b).parts) }
      { s with ledger.nextBatch := s.ledger.nextBatch + 1 } :=
  (if_neg hst).trans (if_pos hall)

/-! GET_BATCH_STATUS and BATCH_EXPIRED (04 R159, R160). -/

/-- The batches of a number that GET_BATCH_STATUS still knows. -/
abbrev liveBatches (id : Nat) (s : State) : List Batch :=
  s.infeed.batches.filter fun b => b.id == id && (b.st != 3 || decide (s.now < b.lastAt + secBeats (rd s P10.BATCH_HOLD)))

theorem exec_getBatchStatus_live (hs : Served h p false s) (hb : (liveBatches (leAt p 0 8) s).getLast? = some b) :
    exec (.getBatchStatus h p) s = answered h p (batchStatus s b) s :=
  congrArg Host.Outcome.next (runCmd_done hs (by simp only [hb]))

theorem exec_getBatchStatus_unknown (hs : Served h p false s) (hb : liveBatches (leAt p 0 8) s = []) :
    exec (.getBatchStatus h p) s = ended h p stUnknownObject 0 s :=
  congrArg Host.Outcome.next (runCmd_fails hs (by simp only [hb, List.getLast?_nil]))

theorem execBatchExpired_due (hb : s.infeed.batches.find? (fun b => b.id == id && b.st == 1) = some b)
    (hdue : b.lastAt + rd s P10.BATCH_HOLD * 8000 ≤ s.now) : execBatchExpired id s =
      .next (logEv evBatchExpired (leB 8 id) (b.waiting.foldl (fun t x => finish x.1 x.2 stNoResource 0x1003 [] t)
        { s with infeed.batches := s.infeed.batches.filter fun x => !(x.id == id && x.st == 1) })) := by
  have hpassed : passed s b.lastAt (secBeats (rd s P10.BATCH_HOLD)) = true := passed_iff.mpr hdue
  simp only [execBatchExpired, hb, if_pos hpassed]

theorem execBatchExpired_early (hb : s.infeed.batches.find? (fun b => b.id == id && b.st == 1) = some b)
    (hearly : s.now < b.lastAt + rd s P10.BATCH_HOLD * 8000) : execBatchExpired id s = .next s := by
  have hpassed : ¬ passed s b.lastAt (secBeats (rd s P10.BATCH_HOLD)) = true := mt passed_iff.mp (Nat.not_le.mpr hearly)
  simp only [execBatchExpired, hb, if_neg hpassed]

end

end Sys2Proof.Machine
end

section
/-! UNSEAL_COMPLETE, SLOW_PATH_RETURN and the counter check (04 R143, R144, R146 to R148, Table 04-12). -/
namespace Sys2Proof.Machine

section
variable {s t : State} {j : UnsealJob} {m : Meter} {f : FrameIn} {r : SlowRet} {x : SlowItem} {job c n : Nat}
  {st : JobStatus} {plain : List Byte}

/-! A job's result taken in the order of its flow (04 R144, R146). -/

theorem exec_unsealComplete : exec (.unsealComplete job st) s = .next (settleFrames (handleHanded (unsealDone job st s))) :=
  rfl

theorem unsealDone_waits
    (hwait : ∀ j, jobOf s job = some j → firstOfFlow s j = false ∨ ∀ x, j.res ≠ some (st, x)) : unsealDone job st s = s := by
  cases hj : jobOf s job with
  | none => simp only [unsealDone, hj]
  | some j =>
    cases hres : j.res with
    | none => simp only [unsealDone, hj, hres]
    | some z =>
      have hother : firstOfFlow s j = false ∨ z.1 ≠ st :=
        (hwait j hj).imp_right fun hne hst => hne z.2 (hres.trans (hst ▸ rfl))
      simp only [unsealDone, hj, hres, if_pos hother]

theorem unsealDone_leaves (hj : jobOf s job = some j) (hres : j.res = some (st, plain)) (hfirst : firstOfFlow s j = true)
    (hfinal : st ≠ .authFail ∨ ∀ m, meterAt s j.mix = some m → mayRetry s m j = false) :
    unsealDone job st s = leaveFlow j (unsealed_ j st plain) s := by
  have htaken : ¬ (firstOfFlow s j = false ∨ st ≠ st) := by simp [hfirst]
  simp only [unsealDone, hj, hres, if_neg htaken]
  cases hm : meterAt s j.mix with
  | none => rfl
  | some m => exact if_neg fun hagain => hfinal.elim (· hagain.1) fun hno => absurd hagain.2 (by simp [hno m hm])

theorem unsealDone_retries (hj : jobOf s job = some j) (hres : j.res = some (.authFail, plain))
    (hfirst : firstOfFlow s j = true) (hm : meterAt s j.mix = some m) (hagain : mayRetry s m j = true) :
    unsealDone job .authFail s = retryJob m j s := by
  have htaken : ¬ (firstOfFlow s j = false ∨ JobStatus.authFail ≠ .authFail) := by simp [hfirst]
  simp only [unsealDone, hj, hres, if_neg htaken, hm]
  exact if_pos ⟨trivial, hagain⟩

theorem unsealed_ok (hm : meterAt s j.mix = some m) : unsealed_ j .ok plain s =
    if j.dlms then dlmsPlain m j plain s else cifPlain m j.item j.keyGen plain s := by
  simp only [unsealed_, hm]

theorem unsealed_authFail (hm : meterAt s j.mix = some m) :
    unsealed_ j .authFail plain s = authFail j.mix j.item.way s := by
  simp only [unsealed_, hm]

theorem mayRetry_iff : mayRetry s m j = true ↔
    j.dlms = true ∧ j.retry = false ∧ derivedMode m = true ∧ overlap s m = true ∧ j.keyGen = m.keyGen := by
  simp only [mayRetry, Bool.and_eq_true, Bool.not_eq_true', beq_iff_eq, and_assoc]

/-! SLOW_PATH_RETURN (04 R143). -/

theorem slowReturn_waits (hno : ∀ x, servedSlow s = some x → putItemW 0 (normPacket r x.item) (normWords r) s = none) :
    slowReturn r s = s := by
  unfold slowReturn
  cases hx : servedSlow s with
  | none => rfl
  | some x => simp only [hno x hx]

theorem slowReturn_enters (hx : servedSlow s = some x) (ht : putItemW 0 (normPacket r x.item) (normWords r) s = some t) :
    slowReturn r s = { t with infeed.slowQ := t.infeed.slowQ.erase x } := by
  simp only [slowReturn, hx, ht]

/-! The counter check (04 R148, Table 04-12). -/

theorem bitAt_eq_testBit {v i : Nat} : bitAt v i = v.testBit i := by
  rw [Nat.testBit_eq_decide_div_mod_eq]
  rfl

theorem icCheck_above (hc : m.icHigh < c) : icCheck m c = .pass := if_pos hc

theorem icCheck_within (hc : c ≤ m.icHigh) (hw : m.icHigh ≤ c + 31) :
    icCheck m c = if m.icMap.testBit (m.icHigh - c) then .again else .pass := by
  rw [icCheck, if_neg (Nat.not_lt.mpr hc), if_pos hw, bitAt_eq_testBit]

theorem icCheck_below (hc : c + 31 < m.icHigh) : icCheck m c = .replay :=
  (if_neg (by omega)).trans (if_neg (by omega))

/-- A repeated counter, or a replay on a local path, ends in one way whatever would come after the check. -/
theorem afterCheck_barred {g k : State → State}
    (hbar : icCheck m f.ic = .again ∨ (icCheck m f.ic = .replay ∧ localWay f.way = true ∧ f.slow = false)) :
    afterCheck m f n g s = afterCheck m f n k s := by
  unfold afterCheck
  obtain hagain | ⟨hreplay, hlocal, hslow⟩ := hbar
  · simp only [hagain]
  · simp only [hreplay, hlocal, hslow, Bool.not_false, Bool.and_self, if_true]

end

/-- Settles O41: each command and event by the case its state puts it in, and Table 04-12 row by row. -/
theorem ingestAndUnsealingComplete : Obligations.IngestAndUnsealingComplete := by
  refine ⟨?ingest, fun h p s hs => ⟨fun b => exec_getBatchStatus_live hs, exec_getBatchStatus_unknown hs⟩,
    fun id b s hb => ⟨execBatchExpired_due hb, execBatchExpired_early hb⟩, ?waits, ?taken, ?outcomes, ?slowWaits, ?slowEnters,
    fun m c => ⟨icCheck_above, fun hc hw => ?within, icCheck_below⟩, fun m f n g k s => afterCheck_barred⟩
  case ingest =>
    intro h p s r hs id off total d known b y no
    have fails : ∀ {st k}, ingestBody h p s = .fail st k → r = ended h p st k s := fun hbody =>
      congrArg Host.Outcome.next (runCmd_fails hs hbody)
    refine ⟨fun hhold => fails (ingestBody_backpressure hhold), fun hhold => ⟨fun hid => fails (ingestBody_no_id hhold hid),
      fun hid htotal => fails (ingestBody_total hhold hid htotal), fun hid hlow hhigh hsame => ?_⟩⟩
    obtain ⟨hempty, hpast, hinside⟩ := ingestBody_data (h := h) hhold hid ⟨hlow, hhigh, hsame⟩
    refine ⟨fun hd => fails (hempty hd), fun hd hover => fails (hpast hd hover),
      fun k hd hin hdiff => fails ((hinside hd hin).1 k hdiff), fun hd hin hagree hroom hwait => ?_⟩
    have htaken : r = .next (holdPart h p b s) :=
      congrArg Host.Outcome.next (runCmd_stays hs ((hinside hd hin).2 hagree hroom hwait))
    rw [htaken]
    exact ⟨fun hst hmissing => congrArg Host.Outcome.next (holdPart_held hst hmissing),
      fun hst hall => congrArg Host.Outcome.next (holdPart_completes hst hall),
      fun hst => congrArg Host.Outcome.next (holdPart_joins hst)⟩
  case waits =>
    exact fun job st s hwait => by rw [exec_unsealComplete, unsealDone_waits hwait]
  case taken =>
    intro job j st plain s hj hres hfirst
    refine ⟨fun hfinal => ?_, fun m hst hm hagain => ?_⟩
    · rw [exec_unsealComplete, unsealDone_leaves hj hres hfirst hfinal]
    · subst hst
      rw [exec_unsealComplete, unsealDone_retries hj hres hfirst hm hagain]
  case outcomes => exact fun j plain m s hm => ⟨unsealed_ok hm, unsealed_authFail hm, mayRetry_iff⟩
  case slowWaits => exact fun r s hno => congrArg Host.Outcome.next (slowReturn_waits hno)
  case slowEnters => exact fun r x t s hx ht => congrArg Host.Outcome.next (slowReturn_enters hx ht)
  case within =>
    rw [icCheck_within hc hw]
    exact ⟨fun hclear => if_neg (by simp [hclear]), fun hset => if_pos hset⟩

end Sys2Proof.Machine
end

section
/-! SET_RULES, BALANCE_GROUP_SET and EDIT_READING (05 R169 to R171, R187; 07 R222, R224). -/
namespace Sys2Proof.Machine

section
variable {h : Hdr} {p : List Byte} {s : State} {m : Meter} {x : Slot} {e : Entry} {o : OutRec} {mix ch fseq grp k n : Nat}

/-! An association list after a write. -/

theorem assocGet_assocSet_ne {α β : Type} [DecidableEq α] {k j : α} {v : β} {l : List (α × β)} (hne : k ≠ j) :
    assocGet k (assocSet j v l) = assocGet k l := by
  induction l with
  | nil => simp only [assocSet, assocGet, if_neg hne]
  | cons y l ih =>
    unfold assocSet
    split
    next hj => simp only [assocGet, if_neg hne, ← hj]
    next => simp only [assocGet, ih]

/-! SET_RULES, check by check (05 R170). -/

theorem rulesBody_type (hty : byteAt p 0 = 0 ∨ 3 < byteAt p 0) : rulesBody h p s = .fail stBadPayload 0 := if_pos hty

theorem rulesBody_length (hlow : 1 ≤ byteAt p 0) (hhigh : byteAt p 0 ≤ 3)
    (hlen : leAt p 2 2 = 0 ∨ p.length ≠ 8 + leAt p 2 2 * ruleSize (byteAt p 0)) :
    rulesBody h p s = .fail stBadPayload 2 :=
  (if_neg (by omega)).trans (if_pos hlen)

/-- Entries inside their table and their ranges: what remains is whether a channel with a last value would change. -/
theorem rulesBody_entries (hlow : 1 ≤ byteAt p 0) (hhigh : byteAt p 0 ≤ 3) (hsome : leAt p 2 2 ≠ 0)
    (hlen : p.length = 8 + leAt p 2 2 * ruleSize (byteAt p 0)) (hrange : rulesRange p = none) (hbad : rulesBad p = none) :
    rulesBody h p s = if rulesMove s (applyRules p s) then .fail stDeniedState 0
      else .accept (leB 4 (if byteAt p 0 = 3 then profilesMoved s (applyRules p s) else leAt p 2 2)) p
        { cmd := some (.setRules h p) } s := by
  have hty : ¬ (byteAt p 0 = 0 ∨ 3 < byteAt p 0) := by omega
  have hsize : ¬ (leAt p 2 2 = 0 ∨ p.length ≠ 8 + leAt p 2 2 * ruleSize (byteAt p 0)) := by tauto
  simp only [rulesBody, if_neg hty, if_neg hsize, hrange, hbad]

/-! The rows SET_RULES of TYPE 1 writes (05 R171). -/

/-- The first `n` rows of a payload written over a table, in order. -/
def rowsWritten (p : List Byte) (n : Nat) (rows : List (Nat × Row)) : List (Nat × Row) :=
  (List.range n).foldl (fun l i => assocSet (leAt p 4 2 + i) (rowAt (ruleEntry p i)) l) rows

theorem rowsWritten_succ {rows : List (Nat × Row)} : rowsWritten p (n + 1) rows =
    assocSet (leAt p 4 2 + n) (rowAt (ruleEntry p n)) (rowsWritten p n rows) := by
  simp only [rowsWritten, List.range_succ, List.foldl_append, List.foldl_cons, List.foldl_nil]

theorem assocGet_rowsWritten {rows : List (Nat × Row)} : assocGet k (rowsWritten p n rows) =
    if leAt p 4 2 ≤ k ∧ k < leAt p 4 2 + n then some (rowAt (ruleEntry p (k - leAt p 4 2))) else assocGet k rows := by
  induction n with
  | zero => exact (if_neg (by omega)).symm
  | succ n ih =>
    rw [rowsWritten_succ]
    by_cases hk : k = leAt p 4 2 + n
    · rw [if_pos (by omega), hk, assocGet_assocSet_self, Nat.add_sub_cancel_left]
    · have hbounds : (leAt p 4 2 ≤ k ∧ k < leAt p 4 2 + (n + 1)) ↔ leAt p 4 2 ≤ k ∧ k < leAt p 4 2 + n := by omega
      rw [assocGet_assocSet_ne hk, ih, if_congr hbounds rfl rfl]

/-- Writing rows one after another touches the table of rows alone. -/
theorem applyRules_rows (hty : byteAt p 0 = 1) :
    applyRules p s = { s with grade.rows := rowsWritten p (leAt p 2 2) s.grade.rows } := by
  refine (if_pos hty).trans ?_
  generalize leAt p 2 2 = n
  induction n with
  | zero => rfl
  | succ n ih => rw [List.range_succ, List.foldl_append, ih, rowsWritten_succ]; rfl

theorem ruleEntry_row {i : Nat} (hty : byteAt p 0 = 1) : ruleEntry p i = sliceB p (8 + i * 32) 32 := by
  rw [ruleEntry, hty]
  rfl

/-! BALANCE_GROUP_SET, check by check (07 R224). -/

/-- The entries of a payload with the indices they are for. -/
abbrev groupEntries (p : List Byte) : List (Nat × List Byte) :=
  (List.range (leAt p 2 2)).map fun i => (leAt p 4 2 + i, tallyEntry p i)

theorem groupSetBody_type (hty : byteAt p 0 = 0 ∨ 3 < byteAt p 0) : groupSetBody h p s = .fail stBadPayload 0 := if_pos hty

/-- A payload that passes the checks made on it alone. -/
structure GroupPayload (p : List Byte) : Prop where
  low : 1 ≤ byteAt p 0
  high : byteAt p 0 ≤ 3
  nonempty : leAt p 2 2 ≠ 0
  size : p.length = 8 + leAt p 2 2 * tallySize (byteAt p 0)
  groups : byteAt p 0 = 1 → leAt p 4 2 + leAt p 2 2 ≤ 65536
  sets : byteAt p 0 = 3 → leAt p 4 2 + leAt p 2 2 ≤ 16
  good : tallyBad p = none

/-- What remains of such a payload's checks is what its entries name. -/
theorem groupSetBody_entries (hp : GroupPayload p) : groupSetBody h p s =
    if (groupEntries p).any (fun y => needsMetro s (byteAt p 0) y.2) then .fail stDeniedState 0
    else if (groupEntries p).any (fun y => namesNone s (byteAt p 0) y.2) then .fail stUnknownObject 0
    else if (groupEntries p).any (fun y => feedsSelf s (byteAt p 0) y.1 y.2) then .fail stDeniedState 0
    else .accept (leB 4 ((List.range (leAt p 2 2)).filter (tallyChanges s p)).length) p
      { cmd := some (.balanceGroupSet h p) } s := by
  obtain ⟨hlow, hhigh, hsome, hsize, hgroups, hsets, hgood⟩ := hp
  have hty : ¬ (byteAt p 0 = 0 ∨ 3 < byteAt p 0) := by omega
  have hlen : ¬ (leAt p 2 2 = 0 ∨ p.length ≠ 8 + leAt p 2 2 * tallySize (byteAt p 0)) := by tauto
  have hindex : ¬ ((byteAt p 0 = 1 ∧ 65536 < leAt p 4 2 + leAt p 2 2) ∨ (byteAt p 0 = 3 ∧ 16 < leAt p 4 2 + leAt p 2 2)) := by
    omega
  simp only [groupSetBody, if_neg hty, if_neg hlen, if_neg hindex, hgood]

theorem groupSetBody_unpowered (hp : GroupPayload p) (hneeds : ∃ y ∈ groupEntries p, needsMetro s (byteAt p 0) y.2 = true) :
    groupSetBody h p s = .fail stDeniedState 0 :=
  (groupSetBody_entries hp).trans (if_pos (List.any_eq_true.mpr hneeds))

theorem groupSetBody_accepts (hp : GroupPayload p)
    (hclear : ∀ y ∈ groupEntries p, needsMetro s (byteAt p 0) y.2 = false ∧ namesNone s (byteAt p 0) y.2 = false ∧
      feedsSelf s (byteAt p 0) y.1 y.2 = false) :
    groupSetBody h p s = .accept (leB 4 ((List.range (leAt p 2 2)).filter (tallyChanges s p)).length) p
      { cmd := some (.balanceGroupSet h p) } s := by
  have none_is : ∀ {q : Nat × List Byte → Bool}, (∀ y ∈ groupEntries p, q y = false) → ¬ (groupEntries p).any q = true :=
    fun hq => List.any_eq_true.not.mpr (by simpa using hq)
  rw [groupSetBody_entries hp, if_neg (none_is fun y hy => (hclear y hy).1), if_neg (none_is fun y hy => (hclear y hy).2.1),
    if_neg (none_is fun y hy => (hclear y hy).2.2)]

/-! The fields of a reading record (06 Table 06-1). -/

theorem ofLE_lt {b : List Byte} : ofLE b < 256 ^ b.length := by
  induction b with
  | nil => exact Nat.one_pos
  | cons c b ih =>
    have hc := c.isLt
    simp only [ofLE, List.length_cons, Nat.pow_succ]
    omega

theorem leAt_lt {off : Nat} : leAt p off n < 256 ^ n :=
  ofLE_lt.trans_le (Nat.pow_le_pow_right (by decide) (List.length_take_le ..))

theorem ofS_lt {w : Nat} {i : Int} : ofS w i < 2 ^ w := by
  unfold ofS
  have hpos : (0 : Int) < (2 ^ w : Nat) := by positivity
  have hnonneg := Int.emod_nonneg i hpos.ne'
  have hlt := Int.emod_lt_of_pos i hpos
  omega

/-- A value of 64 bits is written and read back. -/
theorem toS_ofS_toS_64 {v : Nat} : toS 64 (ofS 64 (toS 64 v)) = toS 64 v := by
  unfold toS ofS
  split_ifs <;> omega

theorem recEnd_recHead (he : e.head = recHead mix ch fseq grp o) (htend : o.tend < 256 ^ 5) : recEnd e = o.tend := by
  simp only [recEnd, he, recHead, List.append_assoc]
  exact leAt_leB_head htend

theorem leAt_recHead_key (hmix : mix < 2 ^ 20) (hch : ch < 16) :
    leAt (recHead mix ch fseq grp o) 5 3 = mix + ch * 2 ^ 20 := by
  simp only [recHead, List.append_assoc]
  exact leAt_leB leB_length (by omega)

theorem recMix_recHead (he : e.head = recHead mix ch fseq grp o) (hmix : mix < 2 ^ 20) (hch : ch < 16) : recMix e = mix := by
  rw [recMix, he, leAt_recHead_key hmix hch]
  omega

theorem recCh_recHead (he : e.head = recHead mix ch fseq grp o) (hmix : mix < 2 ^ 20) (hch : ch < 16) : recCh e = ch := by
  rw [recCh, he, leAt_recHead_key hmix hch]
  omega

theorem recVal_recHead (he : e.head = recHead mix ch fseq grp o) : recVal e = toS 64 (ofS 64 o.value) := by
  have hvalue : leAt (recHead mix ch fseq grp o) 8 8 = ofS 64 o.value := by
    simp only [recHead, List.append_assoc]
    rw [leAt_leB_skip (by decide), leAt_leB_skip (by decide)]
    exact leAt_leB_head ofS_lt
  rw [recVal, he, hvalue]

/-! EDIT_READING (05 R187). -/

/-- The MIX an edit names. -/
abbrev editMix (p : List Byte) : Nat := leAt p 0 3 % 2 ^ 20

/-- The channel an edit names. -/
abbrev editCh (p : List Byte) : Nat := leAt p 0 3 / 2 ^ 20 % 16

/-- The interval end an edit names. -/
abbrev editEnd (p : List Byte) : Nat := leAt p 4 5

/-- The record an edit replaces. -/
abbrev editOld (p : List Byte) (s : State) : Option Entry := newestRec s (editMix p) (editCh p) (editEnd p)

/-- The reading an edit sets, with its quality code: it supersedes what stood in the slot. -/
def editedReading (p : List Byte) (s : State) (x : Slot) : OutRec :=
  ⟨editEnd p, toS 64 (leAt p 12 8),
    qIf (x != .absent || (editOld p s).isSome) qSUPERSEDES (qIf (bitAt (byteAt p 9) 0) qVALID qEDITED), 0x7000⟩

/-- The edit's COMMAND entry. -/
def editCommand (h : Hdr) (p : List Byte) : Entry :=
  { commandEntry h p (zeros 8) [] { cmd := some (.editReading h p), data := p } with fill := 1 }

/-- The edit's record. -/
def editRecord (p : List Byte) (m : Meter) (s : State) (x : Slot) : Entry :=
  { kind := 0, head := recHead (editMix p) (editCh p) (leAt p 10 2) m.group (editedReading p s x), act := .reading none true,
    fn := 0x11 }

/-- The state with the channel's last value moved, when the edited slot is that value's. -/
def editTail (p : List Byte) (s : State) : State :=
  let t := tailAt s (editMix p) (editCh p)
  if t.hasLast ∧ t.lastEnd = editEnd p then setTail (editMix p) (editCh p) { t with lastValue := toS 64 (leAt p 12 8) } s
  else s

/-- An edit of a slot that takes one: an enrolled meter's enabled channel, the end of one of its intervals, known and not
pending. -/
structure Editable (p : List Byte) (s : State) (m : Meter) (x : Slot) : Prop where
  meter : meterAt s (editMix p) = some m
  enabled : m.chEnable.testBit (editCh p) = true
  interval : chanLen s m (editCh p) ≠ 0
  whole : editEnd p % chanLen s m (editCh p) = 0
  slot : slotAt s (editMix p) (editCh p) (slotOf (chanLen s m (editCh p)) (editEnd p)) = some x
  still : x ≠ .pend

theorem editBody_unknown (hm : meterAt s (editMix p) = none) : editBody h p s = .fail stUnknownObject 0 := by
  simp only [editBody, hm]

/-- What remains of such an edit's checks is the record it names. -/
theorem editBody_editable (he : Editable p s m x) : editBody h p s =
    if leAt p 20 8 ≠ ((editOld p s).map Entry.lseq).getD 0 then .fail stDeniedState 0
    else .stays (postGroup [editCommand h p, editRecord p m s x] (editTail p s)) := by
  obtain ⟨hm, hen, hlen, hwhole, hslot, hstill⟩ := he
  have hch : bitsAt (leAt p 0 3) 20 4 = editCh p := rfl
  have hon : ¬ bitAt m.chEnable (editCh p) = false := by simp [bitAt_eq_testBit, hen]
  have hend : ¬ (chanLen s m (editCh p) = 0 ∨ editEnd p % chanLen s m (editCh p) ≠ 0) := by tauto
  simp only [editBody, hm, hch, if_neg hon, if_neg hend, hslot]
  cases x with
  | pend => exact absurd rfl hstill
  | absent => rfl
  | estimated => rfl
  | actual => rfl

theorem editCommand_act : (editCommand h p).act =
    .command h (cmdCrc h p) stAccepted 0 [0, 0, 0, 0, 0, 0, 0, 0] ⟨some (.editReading h p), [], p⟩ := rfl

theorem editRecord_fields : let r := editRecord p m s x
    recMix r = editMix p ∧ recCh r = editCh p ∧ recEnd r = editEnd p ∧ recVal r = toS 64 (leAt p 12 8) := by
  have hmix : editMix p < 2 ^ 20 := Nat.mod_lt _ (by decide)
  have hch : editCh p < 16 := Nat.mod_lt _ (by decide)
  exact ⟨recMix_recHead rfl hmix hch, recCh_recHead rfl hmix hch, recEnd_recHead (o := editedReading p s x) rfl leAt_lt,
    (recVal_recHead (o := editedReading p s x) rfl).trans toS_ofS_toS_64⟩

end

/-- Settles O43: each command by the checks its payload passes, the written rows by induction on their count, and the edit
record by reading its head back. -/
theorem rulesAndBalanceComplete : Obligations.RulesAndBalanceComplete := by
  refine ⟨?rules, ?rows, ?groups, ?edits⟩
  case rules =>
    intro h p s r hs ty n t
    refine ⟨fun hlow hhigh hsome hlen hrange hbad => ?_, fun hty => ?_, fun hlow hhigh hlen => ?_⟩
    · have hbody := rulesBody_entries (h := h) (s := s) hlow hhigh hsome hlen hrange hbad
      exact ⟨fun hkeep => congrArg Host.Outcome.next (runCmd_accepts hs (hbody.trans (if_neg (Bool.eq_false_iff.mp hkeep)))),
        fun hmove => congrArg Host.Outcome.next (runCmd_fails hs (hbody.trans (if_pos hmove)))⟩
    · exact congrArg Host.Outcome.next (runCmd_fails hs (rulesBody_type hty))
    · exact congrArg Host.Outcome.next (runCmd_fails hs (rulesBody_length hlow hhigh hlen))
  case rows =>
    intro h p k s hty t
    have ht : t = _ := applyRules_rows hty
    rw [ht]
    exact ⟨by rw [assocGet_rowsWritten, ruleEntry_row hty], rfl, rfl, rfl⟩
  case groups =>
    intro h p s r hs ty n first es
    refine ⟨fun hlow hhigh hsome hsize hgroups hsets hgood => ?_, fun hty => ?_⟩
    · have hp : GroupPayload p := ⟨hlow, hhigh, hsome, hsize, hgroups, hsets, hgood⟩
      exact ⟨fun hneeds => congrArg Host.Outcome.next (runCmd_fails hs (groupSetBody_unpowered hp hneeds)),
        fun hclear => congrArg Host.Outcome.next (runCmd_accepts hs (groupSetBody_accepts hp hclear))⟩
    · exact congrArg Host.Outcome.next (runCmd_fails hs (groupSetBody_type hty))
  case edits =>
    intro h p s z hs mix ch e
    refine ⟨fun hm => congrArg Host.Outcome.next (runCmd_fails hs (editBody_unknown hm)), ?_⟩
    intro m x hm hen hlen hwhole hslot hstill old
    have hbody := editBody_editable (h := h) ⟨hm, hen, hlen, hwhole, hslot, hstill⟩
    refine ⟨fun hstale => congrArg Host.Outcome.next (runCmd_fails hs (hbody.trans (if_pos hstale))), fun hnamed => ?_⟩
    have hposts : z = .next (postGroup [editCommand h p, editRecord p m s x] (editTail p s)) :=
      congrArg Host.Outcome.next (runCmd_stays hs (hbody.trans (if_neg (not_not.mpr hnamed))))
    obtain ⟨hmix, hch, hend, hval⟩ := editRecord_fields (p := p) (m := m) (s := s) (x := x)
    exact ⟨editTail p s, editCommand h p, editRecord p m s x, hposts, rfl, hmix, hch, hend, hval, editCommand_act,
      fun hlast => if_pos hlast, fun hother => if_neg hother⟩

end Sys2Proof.Machine
end

section
/-! Control entries posted to the ledger (06 R195, R214, Table 06-2). -/
namespace Sys2Proof.Machine

section
variable {e : Entry} {s : State} {h : Hdr} {p data eb : List Byte} {eff : Eff}

theorem postEntry_joins (hroom : s.ledger.waiting = [] ∧ fits s [entrySlots e] = true ∨ passes s e = true) :
    postEntry e s = appendEntry e s :=
  if_pos (by simpa [or_comm] using hroom)

theorem postEntry_waits (hroom : s.ledger.waiting ≠ [] ∨ fits s [entrySlots e] = false) (hpass : passes s e = false) :
    postEntry e s = { s with ledger.waiting := s.ledger.waiting ++ [e] } :=
  if_neg (by simpa [hpass, or_iff_not_imp_left] using hroom)

/-- The fields of a COMMAND entry's head fill 18 of its 22 bytes. -/
theorem commandEntry_head : (commandEntry h p data eb eff).head =
    leB 1 h.opcode ++ (leB 1 data.length ++ (leB 4 h.flowFn ++ (leB 4 h.seq ++ (leB 4 (cmdCrc h p) ++
      (leB 2 stAccepted ++ (leB 2 0 ++ zeros 4)))))) := by
  simp only [commandEntry, ctlEntry, padTo, List.append_assoc]
  rw [List.take_of_length_le (by simp)]
  simp

end

/-- Settles O14: an entry joins the open group or waits as room and reserve say, and the head of a COMMAND entry reads back
field by field. -/
theorem acceptedWorkIsPostedToTheLedger : Obligations.AcceptedWorkIsPostedToTheLedger := by
  refine ⟨fun e s hroom => ⟨_, _, _, postEntry_joins hroom⟩, fun e s hroom hpass => postEntry_waits hroom hpass, ?_⟩
  intro h p data eb eff hfits hdata e
  have hhead : e.head = _ := commandEntry_head
  simp only [Hdr.fits, below, Bool.and_eq_true, decide_eq_true_eq, Nat.reducePow] at hfits
  obtain ⟨⟨⟨⟨⟨⟨⟨-, hop⟩, -⟩, -⟩, -⟩, -⟩, hflow⟩, hseq⟩ := hfits
  have hlen : data.length < 256 := by omega
  have hcrc : cmdCrc h p < 4294967296 := crc32c_lt
  have hlength : e.head.length = 22 := by simp [hhead, zeros]
  have hact : e.act = .command h (cmdCrc h p) 0 0 data eff := rfl
  refine ⟨rfl, hlength, ?_⟩
  rw [hact, hhead]
  simp [leAt_leB_skip, leAt_leB_head, hop, hlen, hflow, hseq, hcrc, stAccepted]

end Sys2Proof.Machine
end

section
/-! Streams, LEDGER_QUERY and LEDGER_STATUS (06 R205 to R211, Table 06-7). -/
namespace Sys2Proof.Machine

section
variable {h : Hdr} {p : List Byte} {s : State} {j k : Nat} {x : ExpStream} {args : List Nat}

/-! EXPORT_OPEN, check by check (06 R206, Table 06-7). -/

theorem exportOpenBody_stream (hk : 7 < byteAt p 0) : exportOpenBody h p s = .fail stOutOfRange 0 := if_pos hk

/-- The stream a payload opens, as it will be when the effect stands. -/
abbrev opened (p : List Byte) (x : ExpStream) : ExpStream := { openFilter p x with epoch := x.epoch + 1, acked := 0 }

/-- A stream, a kind and a range of MIX that Table 06-7 admits: what is answered depends on the stream. -/
theorem exportOpenBody_checked (hk : byteAt p 0 ≤ 7) (hkind : byteAt p 1 % 8 ≠ 0)
    (hmix : (openFilter p (streamAt s (byteAt p 0))).mixLo ≤ (openFilter p (streamAt s (byteAt p 0))).mixHi) :
    let x := streamAt s (byteAt p 0)
    exportOpenBody h p s =
      if x.isOpen then (if openFilter p x = x then .accept (openReply x) (openReply x) {} s else .fail stDeniedState 0)
      else .accept (openReply (opened p x)) (openReply (opened p x))
        { cmd := some (.exportOpen h p), args := [x.epoch + 1] } s :=
  (if_neg (Nat.not_lt.mpr hk)).trans ((if_neg hkind).trans (if_neg (Nat.not_lt.mpr hmix)))

/-! EXPORT_READ and EXPORT_ACK, check by check (06 R207, R208). -/

theorem exportReadBody_stream (hk : 7 < byteAt p 0) : exportReadBody p s = .fail stOutOfRange 0 := if_pos hk

theorem exportReadBody_closed (hk : byteAt p 0 ≤ 7) (hlow : 1 ≤ leAt p 2 2) (hhigh : leAt p 2 2 ≤ 255)
    (hclosed : (streamAt s (byteAt p 0)).isOpen = false) : exportReadBody p s = .fail stUnknownObject 0 :=
  (if_neg (Nat.not_lt.mpr hk)).trans ((if_neg (by omega)).trans (if_pos hclosed))

theorem exportReadBody_open (hk : byteAt p 0 ≤ 7) (hlow : 1 ≤ leAt p 2 2) (hhigh : leAt p 2 2 ≤ 255)
    (hopen : (streamAt s (byteAt p 0)).isOpen = true) : exportReadBody p s =
      if leAt p 4 4 ≠ (streamAt s (byteAt p 0)).epoch then .fail stDeniedState 0
      else if highReadable s (byteAt p 0) + 1 < leAt p 8 8 ∨ leAt p 8 8 < oldestX s (byteAt p 0) then .fail stOutOfRange 64
      else .done (exportData s (byteAt p 0) (leAt p 2 2) (leAt p 8 8)) s :=
  (if_neg (Nat.not_lt.mpr hk)).trans ((if_neg (by omega)).trans (if_neg (by simp [hopen])))

theorem exportAckBody_stream (hk : 7 < byteAt p 0) : exportAckBody h p s = .fail stOutOfRange 0 := if_pos hk

theorem exportAckBody_open (hk : byteAt p 0 ≤ 7) (hopen : (streamAt s (byteAt p 0)).isOpen = true)
    (hepoch : leAt p 4 4 = (streamAt s (byteAt p 0)).epoch) : exportAckBody h p s =
      if highReadable s (byteAt p 0) < leAt p 8 8 then .fail stOutOfRange 64
      else .accept (leB 8 (max (streamAt s (byteAt p 0)).acked (leAt p 8 8)) ++ leB 8 (highReadable s (byteAt p 0))) p
        { cmd := some (.exportAck h p) } s :=
  (if_neg (Nat.not_lt.mpr hk)).trans ((if_neg (by simp [hopen])).trans (if_neg (not_not.mpr hepoch)))

/-! EXPORT_CLOSE (06 R209). -/

theorem exec_exportClose_known (hs : Served h p true s) (hk : byteAt p 0 ≤ 7) :
    exec (.exportClose h p) s = .next (accepted h p [] p (.exportClose h p) [] s) :=
  congrArg Host.Outcome.next (runCmd_accepts hs (if_neg (Nat.not_lt.mpr hk)))

theorem exec_exportClose_unknown (hs : Served h p true s) (hk : 7 < byteAt p 0) :
    exec (.exportClose h p) s = ended h p stOutOfRange 0 s :=
  congrArg Host.Outcome.next (runCmd_fails hs (if_pos hk))

/-! LEDGER_QUERY (06 R210). -/

section
variable (hs : Served h p false s)
include hs

theorem exec_ledgerQuery_mode (hone : byteAt p 0 ≠ 1) (htwo : byteAt p 0 ≠ 2) :
    exec (.ledgerQuery h p) s = ended h p stBadPayload 0 s :=
  congrArg Host.Outcome.next (runCmd_fails hs (if_pos ⟨hone, htwo⟩))

theorem exec_ledgerQuery_count (hmode : byteAt p 0 = 1 ∨ byteAt p 0 = 2) (hcount : byteAt p 1 = 0) :
    exec (.ledgerQuery h p) s = ended h p stOutOfRange 8 s :=
  congrArg Host.Outcome.next (runCmd_fails hs ((if_neg (by omega)).trans (if_pos hcount)))

theorem exec_ledgerQuery_done (hmode : byteAt p 0 = 1 ∨ byteAt p 0 = 2) (hcount : byteAt p 1 ≠ 0) :
    exec (.ledgerQuery h p) s = answered h p (queryData p s) s :=
  congrArg Host.Outcome.next (runCmd_done hs ((if_neg (by omega)).trans (if_neg hcount)))

end

/-! A stream replaced by what an effect makes of it (06 R205 to R209). -/

theorem streamAt_setStream_ne (hne : j ≠ k) : streamAt (setStream k x s) j = streamAt s j := by
  simp only [streamAt, setStream, wr_ledger]
  simp [List.getD_eq_getElem?_getD, List.getElem?_set_ne hne.symm]

theorem streamAt_setStream_self (hk : k < s.ledger.streams.length) : streamAt (setStream k x s) k = x := by
  simp only [streamAt, setStream, wr_ledger]
  simp [List.getD_eq_getElem?_getD, hk]

theorem streamAt_setStream_beyond (hk : s.ledger.streams.length ≤ k) : streamAt (setStream k x s) j = streamAt s j := by
  simp only [streamAt, setStream, wr_ledger, List.set_eq_of_length_le hk]

theorem effExportOpen_closed (hclosed : (streamAt s (byteAt p 0)).isOpen = false) :
    applyEffect ⟨some (.exportOpen h p), args, p⟩ s = setStream (byteAt p 0) { openFilter p (streamAt s (byteAt p 0)) with
      isOpen := true, opening := false, epoch := args.getD 0 0, acked := 0 } s :=
  if_neg (by simp [hclosed])

/-- An acknowledgement in its stream's epoch replaces the stream's point, every other leaves the state. -/
theorem effExportAck_cases :
    applyEffect ⟨some (.exportAck h p), args, p⟩ s =
      if (streamAt s (byteAt p 0)).isOpen = true ∧ (streamAt s (byteAt p 0)).epoch = leAt p 4 4 then
        setStream (byteAt p 0) { streamAt s (byteAt p 0) with acked := max (streamAt s (byteAt p 0)).acked (leAt p 8 8) } s
      else s := by
  simp only [← beq_iff_eq (b := leAt p 4 4), ← Bool.and_eq_true_iff]
  rfl

/-- An acknowledgement moves its stream's point up or not at all. -/
theorem effExportAck_acked : (streamAt s (byteAt p 0)).acked ≤
    (streamAt (applyEffect ⟨some (.exportAck h p), args, p⟩ s) (byteAt p 0)).acked := by
  rw [effExportAck_cases]
  split
  · obtain hk | hk := Nat.lt_or_ge (byteAt p 0) s.ledger.streams.length
    · rw [streamAt_setStream_self hk]
      exact Nat.le_max_left ..
    · rw [streamAt_setStream_beyond hk]
  · exact Nat.le_refl _

theorem effExportAck_ne (hne : j ≠ byteAt p 0) :
    streamAt (applyEffect ⟨some (.exportAck h p), args, p⟩ s) j = streamAt s j := by
  rw [effExportAck_cases]
  split
  · exact streamAt_setStream_ne hne
  · rfl

end

/-- Settles O46: each command by the checks its payload passes, each effect by the stream it replaces. -/
theorem exportCommandsComplete : Obligations.ExportCommandsComplete := by
  refine ⟨?opens, ?reads, ?acks, ?openEffect, ?ackEffect, ?closeEffect, ?query, fun h p s hs =>
    congrArg Host.Outcome.next (runCmd_done hs rfl)⟩
  case opens =>
    intro h p s r hs x y
    refine ⟨fun hk => congrArg Host.Outcome.next (runCmd_fails hs (exportOpenBody_stream hk)), fun hk hkind hmix => ?_⟩
    have hbody := exportOpenBody_checked (h := h) hk hkind hmix
    refine ⟨fun hclosed => ?_, fun hopen hsame => ?_, fun hopen hother => ?_⟩
    · exact congrArg Host.Outcome.next (runCmd_accepts hs (hbody.trans (if_neg (Bool.eq_false_iff.mp hclosed))))
    · have hagain := hbody.trans ((if_pos hopen).trans (if_pos hsame))
      exact congrArg Host.Outcome.next ((runCmd_served hs).trans (congrArg (answer h p · s) hagain))
    · exact congrArg Host.Outcome.next (runCmd_fails hs (hbody.trans ((if_pos hopen).trans (if_neg hother))))
  case reads =>
    intro h p s r hs k n f
    refine ⟨fun hk => congrArg Host.Outcome.next (runCmd_fails hs (exportReadBody_stream hk)), fun hk hlow hhigh => ?_⟩
    refine ⟨fun hclosed => congrArg Host.Outcome.next (runCmd_fails hs (exportReadBody_closed hk hlow hhigh hclosed)),
      fun hopen hother => ?_, fun hopen hepoch => ?_⟩
    · have hbody := exportReadBody_open hk hlow hhigh hopen
      exact congrArg Host.Outcome.next (runCmd_fails hs (hbody.trans (if_pos hother)))
    · have hbody := (exportReadBody_open hk hlow hhigh hopen).trans (if_neg (not_not.mpr hepoch))
      refine ⟨fun hold hnew => ?_, fun hout => ?_⟩
      · have hin := not_or.mpr ⟨Nat.not_lt.mpr hnew, Nat.not_lt.mpr hold⟩
        exact congrArg Host.Outcome.next (runCmd_done hs (hbody.trans (if_neg hin)))
      · exact congrArg Host.Outcome.next (runCmd_fails hs (hbody.trans (if_pos hout.symm)))
  case acks =>
    intro h p s r hs k a
    refine ⟨fun hk hopen hepoch => ?_, exec_exportClose_known hs, fun hk =>
      ⟨congrArg Host.Outcome.next (runCmd_fails hs (exportAckBody_stream hk)), exec_exportClose_unknown hs hk⟩⟩
    have hbody := exportAckBody_open (h := h) hk hopen hepoch
    exact ⟨fun hread => congrArg Host.Outcome.next (runCmd_accepts hs (hbody.trans (if_neg (Nat.not_lt.mpr hread)))),
      fun hbeyond => congrArg Host.Outcome.next (runCmd_fails hs (hbody.trans (if_pos hbeyond)))⟩
  case openEffect =>
    intro h p k ep s hk hlt hclosed t
    subst hk
    have ht : t = _ := effExportOpen_closed hclosed
    have hself : streamAt t (byteAt p 0) = _ := ht ▸ streamAt_setStream_self hlt
    rw [hself, ht]
    exact ⟨rfl, rfl, rfl, rfl, fun j hne => streamAt_setStream_ne hne⟩
  case ackEffect =>
    intro h p s k t
    refine ⟨effExportAck_acked, fun j hne => effExportAck_ne hne, fun hlt hopen hepoch => ?_⟩
    have ht : t = _ := effExportAck_cases.trans (if_pos ⟨hopen, hepoch⟩)
    rw [ht]
    exact streamAt_setStream_self hlt
  case closeEffect =>
    intro h p s k t
    exact ⟨streamAt_setStream_self, fun j hne => streamAt_setStream_ne hne⟩
  case query =>
    intro h p s r hs
    exact ⟨exec_ledgerQuery_done hs, exec_ledgerQuery_mode hs, exec_ledgerQuery_count hs⟩

end Sys2Proof.Machine
end

section
/-! What the work of the flash store leaves alone: the journal, page copies and the segments they lie in (06 R197, R199, R216;
13 R437 to R440). -/
namespace Sys2Proof.Machine

/-- From `s` to `t` the flash store worked on pages and blocks: the lost dies are the same, and so is SINGLE_COPY. -/
structure StoreWork (s t : State) : Prop where
  dieLost : t.ftl.dieLost = s.ftl.dieLost
  wrote : Wrote (fun f => f ≠ P12.SINGLE_COPY) s t

/-- From `s` to `t` the journal was written besides: the states of the segments are the same too. -/
structure JournalWork (s t : State) : Prop extends StoreWork s t where
  segs : t.ftl.segs = s.ftl.segs

section
variable {s t u : State} {c : Chan} {l : List (Nat × (Nat × CopySt))} {no page die part n : Nat} {st : CopySt} {x : PageRec}
  {r : JRec} {pr : Nat × Nat}

theorem StoreWork.refl : StoreWork s s := ⟨rfl, .refl⟩

theorem StoreWork.trans (h : StoreWork s t) (g : StoreWork t u) : StoreWork s u :=
  ⟨g.dieLost.trans h.dieLost, h.wrote.trans g.wrote⟩

theorem StoreWork.same (hr : t.regs = s.regs) (hm : t.mem = s.mem) (hd : t.ftl.dieLost = s.ftl.dieLost) : StoreWork s t :=
  ⟨hd, .same hr hm⟩

theorem StoreWork.wr {f : Fld} {v : Nat} (hf : f.known) (hne : f ≠ P12.SINGLE_COPY) : StoreWork s (wr f v s) :=
  ⟨rfl, Wrote.refl.wrI hf hne⟩

theorem StoreWork.foldl {α : Type} {f : State → α → State} {l : List α} (hf : ∀ x t, StoreWork t (f t x)) :
    StoreWork s (l.foldl f s) := by
  induction l generalizing s with
  | nil => exact .refl
  | cons x l ih => exact (hf x s).trans ih

theorem JournalWork.refl : JournalWork s s := ⟨.refl, rfl⟩

theorem JournalWork.trans (h : JournalWork s t) (g : JournalWork t u) : JournalWork s u :=
  ⟨h.toStoreWork.trans g.toStoreWork, g.segs.trans h.segs⟩

theorem JournalWork.same (hr : t.regs = s.regs) (hm : t.mem = s.mem) (hd : t.ftl.dieLost = s.ftl.dieLost)
    (hs : t.ftl.segs = s.ftl.segs) : JournalWork s t :=
  ⟨.same hr hm hd, hs⟩

theorem JournalWork.wr {f : Fld} {v : Nat} (hf : f.known) (hne : f ≠ P12.SINGLE_COPY) : JournalWork s (wr f v s) :=
  ⟨.wr hf hne, rfl⟩

theorem JournalWork.foldl {α : Type} {f : State → α → State} {l : List α} (hf : ∀ x t, JournalWork t (f t x)) :
    JournalWork s (l.foldl f s) := by
  induction l generalizing s with
  | nil => exact .refl
  | cons x l ih => exact (hf x s).trans ih

/-! The journal (13 R438 to R441). -/

theorem count_journal {ev q k : Nat} : JournalWork s (count ev q k s) := by
  have hftl : (count ev q k s).ftl = s.ftl := by rw [count_counted.rest]
  refine ⟨⟨by rw [hftl], fun x f i hf hw => count_counted.regs x f i hf ?_, count_counted.tidy⟩, by rw [hftl]⟩
  rw [not_not.mp hw]
  decide

theorem logEv_journal {k : Nat} {d : List Byte} : JournalWork s (logEv k d s) :=
  ⟨⟨by rw [logEv_ftl], Wrote.refl.logEv (by rintro f hp rfl; revert hp; decide)⟩, by rw [logEv_ftl]⟩

theorem openBlk_journal : JournalWork s (openBlk c part s) := by
  unfold openBlk
  split
  · exact .same rfl rfl rfl rfl
  · split
    · exact .same rfl rfl rfl rfl
    · exact .refl

theorem takePage_journal : JournalWork s (takePage c part s).1 := by
  have hopen : JournalWork s (if (openOf s c part).isSome then s else openBlk c part s) := by
    split
    · exact .refl
    · exact openBlk_journal
  unfold takePage
  dsimp only
  split
  · exact hopen
  · exact hopen.trans (.same rfl rfl rfl rfl)

theorem journalCopy_journal {k w : Nat} {owner data : List Byte} : JournalWork s (journalCopy c k w owner data s) := by
  have htake := takePage_journal (s := s) (c := c) (part := ptSystem)
  unfold journalCopy
  split
  next ht =>
    rw [ht] at htake
    exact htake.trans (.same rfl rfl rfl rfl)
  next ht =>
    rw [ht] at htake
    exact htake

theorem writeCommit_journal {l : List (Nat × (Nat × (List Byte × List Byte)))} : JournalWork s (writeCommit l s) :=
  .foldl fun _ _ => journalCopy_journal.trans journalCopy_journal

theorem applyRec_journal : JournalWork s (applyRec r s) := by
  unfold applyRec
  split
  · exact .same rfl rfl rfl rfl
  · exact .refl

theorem ftlFields_journal : JournalWork s (ftlFields s) :=
  (JournalWork.wr P41.MAP_PENDING_known (by decide)).trans
    ((JournalWork.wr P41.ERASE_MIN_known (by decide)).trans (.wr P41.ERASE_MAX_known (by decide)))

theorem commitPending_journal : JournalWork s (commitPending s) := by
  unfold commitPending
  split
  · exact .same rfl rfl rfl rfl
  · refine JournalWork.trans (.trans (.trans ?begun writeCommit_journal) (count_journal.trans count_journal))
      ((JournalWork.foldl fun _ _ => applyRec_journal).trans ftlFields_journal)
    exact .same rfl rfl rfl rfl

theorem postRec_journal : JournalWork s (postRec r s) := by
  unfold postRec
  dsimp only
  refine JournalWork.trans ?_ ftlFields_journal
  split
  · exact commitPending_journal.trans (.same rfl rfl rfl rfl)
  · exact .same rfl rfl rfl rfl

theorem setBlkSt_journal {blk : Nat} {bs : BlkSt} : JournalWork s (setBlkSt c die blk part bs s) := by
  unfold setBlkSt
  split <;> exact .same rfl rfl rfl rfl

/-! Segments of ledger pages (13 R437). -/

theorem closeSeg_store : StoreWork s (closeSeg pr s) := by
  unfold closeSeg
  split
  · exact .same rfl rfl rfl
  · exact .refl

theorem blkOn_store : StoreWork s (blkOn c part die s).1 := by
  unfold blkOn
  split
  · exact .same rfl rfl rfl
  · split
    · exact .same rfl rfl rfl
    · exact .refl

theorem openSeg_store : StoreWork s (openSeg pr n s).1 := by
  have h0 := blkOn_store (s := s) (c := .c0) (part := ptLedger) (die := pr.1)
  unfold openSeg
  split
  next s1 b0 ht0 =>
    have h1 := blkOn_store (s := s1) (c := .c1) (part := ptLedger) (die := pr.2)
    rw [ht0] at h0
    split
    next s2 b1 ht1 =>
      rw [ht1] at h1
      refine (h0.trans h1).trans (.trans ?_ postRec_journal.toStoreWork)
      exact .same rfl rfl rfl
    next => exact .refl
  next => exact .refl

theorem segFor_store : StoreWork s (segFor pr s).1 := by
  unfold segFor
  split
  · split
    · exact .same rfl rfl rfl
    · dsimp only
      split
      · exact closeSeg_store.trans openSeg_store
      · exact closeSeg_store
  · split
    · exact openSeg_store
    · exact .refl

/-! Page copies (06 R197, R199, R216). -/

theorem programCopy_store : StoreWork s (programCopy c x s) := by
  unfold programCopy
  split
  · exact .same rfl rfl rfl
  · exact .refl

theorem placeCopy_store : StoreWork s (placeCopy no page c die st s) := by
  unfold placeCopy
  split
  next => exact .same rfl rfl rfl
  next pr _ =>
    have hseg := segFor_store (s := s) (pr := pr)
    split
    next ht =>
      rw [ht] at hseg
      dsimp only
      split
      · refine hseg.trans (.trans ?_ programCopy_store)
        exact .same rfl rfl rfl
      · exact hseg.trans (.same rfl rfl rfl)
    next ht =>
      rw [ht] at hseg
      exact hseg.trans (.same rfl rfl rfl)

theorem moveCopies_store : StoreWork s (moveCopies c die l s) :=
  .foldl fun x t => by
    split
    · exact placeCopy_store
    · exact .refl

theorem loseCopies_store : StoreWork s (loseCopies c die s) := by
  refine .trans (.trans ?_ (.foldl fun _ _ => closeSeg_store)) moveCopies_store
  exact .same rfl rfl rfl

theorem noteRewrites_store {l : List (Nat × Nat × Chan)} : StoreWork s (noteRewrites l s) := by
  refine .trans ?_ (.wr P12.REWRITES_known (by decide))
  exact .same rfl rfl rfl

theorem repFields_store : StoreWork s (repFields s) := by
  refine .trans (.trans ?_ (.wr P12.REREPLICATE_known (by decide))) (.wr P12.DIE_PAIRS_known (by decide))
  exact .same rfl rfl rfl

end

end Sys2Proof.Machine
end

section
/-! Ledger groups sealed, copied, accepted, released and reclaimed (06 R196 to R200, R212 to R216; 17 R535). -/
namespace Sys2Proof.Machine

section
variable {s : State} {l : List Entry} {g : Group} {no page n k : Nat} {c : Chan} {q : PageRec} {j : CarryJob} {d : Fin 16}

/-! Sealing (06 R196, R197). -/

/-- The front group taken off the queue of closed ones, and its frame noted. -/
def sealing (rest : List (List Entry)) (s : State) : State :=
  { s with ledger := { s.ledger with toSeal := rest, sealFrame := some (frameNo s) } }

/-- The dies, the pages or the frame keep a closed group waiting. -/
abbrev sealWaits (l : List Entry) (s : State) : Prop :=
  rdB s P12.NO_DIE_PAIR = true ∨ pagesFit s l = false ∨ (s.ledger.sealFrame = some (frameNo s) ∧ s.pwr.mode ≠ .holdup)

theorem exec_ledgerGroupSeal_closed {rest : List (List Entry)} (hclosed : s.ledger.toSeal = l :: rest) :
    exec .ledgerGroupSeal s = if sealWaits l s then .next s else .next (checkSpace (sealGroup l (sealing rest s))) := by
  change execLedgerGroupSeal s = _
  simp only [execLedgerGroupSeal, hclosed, sealing]

theorem exec_ledgerGroupSeal_none (hclosed : s.ledger.toSeal = []) : exec .ledgerGroupSeal s = .next s := by
  change execLedgerGroupSeal s = _
  simp only [execLedgerGroupSeal, hclosed]

theorem entryPages_length {per used : Nat} {sizes : List Nat} :
    (entryPages per page used sizes).length = sizes.length := by
  induction sizes generalizing page used with
  | nil => rfl
  | cons m sizes ih =>
    unfold entryPages
    split <;> simp [ih]

theorem sealEntries_length {es : List (Entry × Nat)} : (sealEntries es s).2.length = es.length := by
  induction es generalizing s with
  | nil => rfl
  | cons e es ih => simp [sealEntries, ih]

theorem programGroup_ledger : (programGroup g s).ledger = s.ledger := by
  unfold programGroup
  induction g.pages generalizing s with
  | nil => rfl
  | cons q ps ih =>
    have hcopy : ∀ (c : Chan) (t : State), (programCopy c q t).ledger = t.ledger := fun c t => by
      unfold programCopy
      split <;> rfl
    rw [List.foldl_cons, ih, hcopy, hcopy]

theorem addRec_ledger {r : List Nat} : (addRec r s).ledger = s.ledger := by
  unfold addRec
  split <;> rfl

/-- Sealing takes the next group number and puts the group, not accepted yet, after the others. -/
theorem sealGroup_ledger : (sealGroup l s).ledger.nextGroup = s.ledger.nextGroup + 1 ∧
    ∃ g, (sealGroup l s).ledger.groups.getLast? = some g ∧ g.no = s.ledger.nextGroup ∧ g.accepted = false ∧
      g.entries.length = l.length := by
  unfold sealGroup
  dsimp only
  rw [addRec_ledger, programGroup_ledger]
  refine ⟨rfl, _, List.getLast?_concat, rfl, rfl, ?_⟩
  refine sealEntries_length.trans ?_
  rw [List.length_zip, entryPages_length, List.length_map, Nat.min_self]

/-! Page copies (06 R198, R199). -/

section
variable (hq : pageOf s no page = some q)
include hq

theorem exec_pageProgramDone_page {ok : Bool} : exec (.pageProgramDone no page c ok) s =
    if copySt c q = .programming then
      .next (if ok then modCopy no page c (copyDie c q) .readBack (count 0x07 (chNo c) 1 s)
        else rewriteCopy no page c q (count 0x07 (chNo c) 1 s))
    else .next s := by
  change execPageProgramDone no page c ok s = _
  simp only [execPageProgramDone, hq]

theorem exec_copyVerified_readBack {bits : Nat} {same : Bool} (hst : copySt c q = .readBack) :
    exec (.copyVerified no page c bits same) s =
      if copyPasses s bits same then .next (repFields (modCopy no page c (copyDie c q) .verified
        { s with ledger := { s.ledger with rewriting := s.ledger.rewriting.filter (fun x => x != (no, page, c)) } }))
      else .next (rewriteCopy no page c q s) := by
  change execCopyVerified no page c bits same s = _
  simp only [execCopyVerified, hq, if_pos hst]

end

theorem copyPasses_iff {bits : Nat} {same : Bool} :
    copyPasses s bits same = true ↔ same = true ∧ bits ≤ rd s P12.VERIFY_BITS := by
  simp [copyPasses]

/-! Acceptance and release (06 R200; 15 R491). -/

theorem Group.complete_iff : g.complete = true ↔ ∀ q ∈ g.pages, q.st0 = .verified ∧ q.st1 = .verified := by
  simp [Group.complete]

theorem pairComplete_iff : pairComplete s no = true ↔ ∀ u, s.pair.used = some u → no ≤ u.complete := by
  unfold pairComplete
  cases s.pair.used <;> simp

theorem exec_groupAccept_next (hg : s.ledger.groups.find? (fun g => !g.accepted) = some g) : exec .groupAccept s =
    if g.complete = true ∧ silent s = false ∧ pairComplete s g.no = true then
      .next (accRec g.no (wr P12.LAST_GROUP g.no (modGroup g.no (fun x => { x with accepted := true })
        { s with ledger := { s.ledger with horizon := max s.ledger.horizon g.no } })))
    else .next s := by
  change execGroupAccept s = _
  simp only [execGroupAccept, nextToAccept, hg]

theorem accRec_ledger : (accRec no s).ledger = s.ledger := by
  unfold accRec addRec
  split_ifs <;> rfl

theorem accRec_regs : (accRec no s).regs = s.regs := by
  unfold accRec addRec
  split_ifs <;> rfl

theorem modGroup_groups {f : Group → Group} :
    (modGroup no f s).ledger.groups = s.ledger.groups.map (fun x => if x.no == no then f x else x) := by
  simp only [modGroup, mapGroups, beq_iff_eq]

theorem exec_groupRelease_next (hg : s.ledger.groups.find? (fun g => g.accepted && !g.released) = some g) :
    exec .groupRelease s = if silent s then .next s else .next (settleReleases (releaseGroup true g s)) := by
  change execGroupRelease s = _
  simp only [execGroupRelease, nextToRelease, hg]

theorem exec_groupRelease_none (hg : s.ledger.groups.find? (fun g => g.accepted && !g.released) = none) :
    exec .groupRelease s = .next s := by
  change execGroupRelease s = _
  simp only [execGroupRelease, nextToRelease, hg]

/-! One field after a write of another, and after an event is logged. -/

theorem rd_wr_ne {f f' : Fld} {v : Nat} (x : s.tidy = true) (hf : f.known) (hf' : f'.known) (hne : f ≠ f') :
    rd (wr f v s) f' = rd s f' :=
  (Wrote.refl.wrI hf hne : Wrote (fun g => g ≠ f') s (wr f v s)).rd x hf' (not_not.mpr rfl)

theorem rd_logEv {f : Fld} {e : Nat} {b : List Byte} (x : s.tidy = true) (hf : f.known) (hlog : ¬ logPages f) :
    rd (logEv e b s) f = rd s f :=
  (Wrote.refl.logEv fun _ hp => hp : Wrote logPages s (logEv e b s)).rd x hf hlog

/-! Lost dies, missing copies and wear (06 R215, R216). -/

/-- A die known to be lost. -/
def withLost (c : Chan) (d : Nat) (s : State) : State :=
  if s.ftl.dieLost.contains (c, d) then s else { s with ftl := { s.ftl with dieLost := s.ftl.dieLost ++ [(c, d)] } }

theorem mem_withLost : (c, n) ∈ (withLost c n s).ftl.dieLost := by
  unfold withLost
  split
  next hlost => exact List.contains_iff_mem.mp hlost
  next => simp

theorem withLost_tidy : (withLost c n s).tidy = s.tidy := by
  unfold withLost
  split <;> rfl

/-- SINGLE_COPY set and logged for a lost die. -/
def singleCopy (c : Chan) (d : Nat) (s : State) : State :=
  wr P12.SINGLE_COPY 1 (logEv evLedgerDieLost (leB 1 d) (withLost c d s))

/-- The copies of a lost die given up, before the die pairs are looked at. -/
def copiesLeft (c : Chan) (d : Nat) (s : State) : State :=
  repFields (loseCopies c d (noteRewrites (lostCommits c d (withLost c d s)) (singleCopy c d s)))

theorem exec_ledgerDieLost : exec (.ledgerDieLost c d) s =
    .next (if (diePairs (copiesLeft c d.val s)).isEmpty then wr P12.NO_DIE_PAIR 1 (copiesLeft c d.val s)
      else copiesLeft c d.val s) := rfl

theorem copiesLeft_store : StoreWork (singleCopy c n s) (copiesLeft c n s) :=
  (noteRewrites_store.trans loseCopies_store).trans repFields_store

theorem mem_copiesLeft : (c, n) ∈ (copiesLeft c n s).ftl.dieLost := by
  have hlog : (singleCopy c n s).ftl = (withLost c n s).ftl := logEv_ftl
  rw [copiesLeft_store.dieLost, hlog]
  exact mem_withLost

theorem singleCopy_tidy (x : s.tidy = true) : (singleCopy c n s).tidy = true :=
  wr_tidy P12.SINGLE_COPY_known (logEv_logged.tidy (withLost_tidy.trans x))

theorem copiesLeft_tidy (x : s.tidy = true) : (copiesLeft c n s).tidy = true :=
  copiesLeft_store.wrote.tidy (singleCopy_tidy x)

theorem rd_copiesLeft (x : s.tidy = true) : rd (copiesLeft c n s) P12.SINGLE_COPY = 1 :=
  (copiesLeft_store.wrote.rd (singleCopy_tidy x) P12.SINGLE_COPY_known (not_not.mpr rfl)).trans
    (rd_wr_self (logEv_logged.tidy (withLost_tidy.trans x)))

theorem diePairs_isEmpty_iff : (diePairs s).isEmpty = true ↔ usableDies s .c0 = [] ∨ usableDies s .c1 = [] := by
  rw [List.isEmpty_iff, diePairs, List.zip_eq_nil_iff]

theorem exec_ledgerWorn_sets (hworn : rd s P41.WORN ≠ 0) (hfirst : rd s P12.WORN = 0) : exec .ledgerWorn s =
    .next (if rdB (wr P12.WORN 1 s) P12.READONLY then wr P12.WORN 1 s
      else logEv evLedgerReadonly [] (wr P12.READONLY 1 (wr P12.WORN 1 s))) :=
  if_pos ⟨rdB_eq_true.mpr hworn, rdB_eq_false.mpr hfirst⟩

theorem exec_ledgerWorn_not (hnot : rd s P41.WORN = 0 ∨ rd s P12.WORN ≠ 0) : exec .ledgerWorn s = .next s :=
  if_neg (by rw [rdB_eq_true, rdB_eq_false]; tauto)

/-! Reclaim (06 R212, R213). -/

theorem exec_segmentReclaim_waits (hwait : granted s .reclaim = false ∨ reclaimMay s k = false) :
    exec (.segmentReclaim k) s = .next s :=
  congrArg Host.Outcome.next (if_pos hwait)

theorem spend_ledger {w : Task} : (spend w s).ledger = s.ledger := rfl

theorem reclaim_not_waiting (hgrant : granted s .reclaim = true) (hmay : reclaimMay s k = true) :
    ¬ (granted s .reclaim = false ∨ reclaimMay s k = false) := by
  simp [hgrant, hmay]

section
variable (hmay : ¬ (granted s .reclaim = false ∨ reclaimMay s k = false))
include hmay

theorem exec_segmentReclaim_ends (hj : s.ledger.carry = some j) :
    exec (.segmentReclaim k) s = .next (endReclaim j (spend .reclaim s)) := by
  change execSegmentReclaim k s = _
  simp only [execSegmentReclaim, spend_ledger, hj, if_neg hmay]

theorem exec_segmentReclaim_begins (hnone : s.ledger.carry = none)
    (hj : (beginReclaim k (spend .reclaim s)).ledger.carry = some j) : exec (.segmentReclaim k) s =
      .next (if reclaimReady (beginReclaim k (spend .reclaim s)) j then endReclaim j (beginReclaim k (spend .reclaim s))
        else beginReclaim k (spend .reclaim s)) := by
  change execSegmentReclaim k s = _
  simp only [execSegmentReclaim, spend_ledger, hnone, hj, if_neg hmay]

end

theorem postEntry_carry {e : Entry} : (postEntry e s).ledger.carry = s.ledger.carry := by
  unfold postEntry
  split <;> rfl

theorem foldl_postEntry_carry {es : List Entry} :
    (es.foldl (fun t e => postEntry e t) s).ledger.carry = s.ledger.carry := by
  induction es generalizing s with
  | nil => rfl
  | cons e es ih => rw [List.foldl_cons, ih, postEntry_carry]

/-- A reclaim that begins is the one under way. -/
theorem beginReclaim_carry : ∃ j, (beginReclaim k s).ledger.carry = some j ∧ j.seg = k := by
  unfold beginReclaim
  dsimp only
  exact ⟨_, foldl_postEntry_carry, rfl⟩

theorem reclaimMay_of_none (hnone : s.ledger.carry = none) : reclaimMay s k = true ↔
    assocGet k s.ftl.segs = some .closed ∧ s.ledger.groups.all (groupDone s k) = true ∧
      pagesFit s ((segEntries s k).filter (carried s)) = true := by
  simp only [reclaimMay, hnone, segDone, Bool.and_eq_true, beq_iff_eq, and_assoc]

/-- A segment's block on one channel waits for its erase. -/
def pendBlk (seg : Nat) (c : Chan) (t : State) : State :=
  match (segBlk t c seg).bind (fun x => t.ftl.blks.find? (fun b => isBlk c x.1 x.2 b && b.st != .retired)) with
  | some b => postRec ⟨3, ptLedger, c, dieBlk b.die b.blk, b.erases, 0⟩ (setBlkSt c b.die b.blk ptLedger .pendingErase t)
  | none => t

theorem pendSegBlks_eq : pendSegBlks k s = commitPending
    { pendBlk k .c1 (pendBlk k .c0 s) with ftl.segBlks := assocDel k (pendBlk k .c1 (pendBlk k .c0 s)).ftl.segBlks } := rfl

theorem pendBlk_journal : JournalWork s (pendBlk k c s) := by
  unfold pendBlk
  split
  · exact setBlkSt_journal.trans postRec_journal
  · exact .refl

theorem pendSegBlks_journal : JournalWork s (pendSegBlks k s) := by
  rw [pendSegBlks_eq]
  have hblks : JournalWork s (pendBlk k .c1 (pendBlk k .c0 s)) := pendBlk_journal.trans pendBlk_journal
  refine (hblks.trans ?_).trans commitPending_journal
  exact .same rfl rfl rfl rfl

theorem checkSpace_segs : (checkSpace s).ftl.segs = s.ftl.segs := by
  unfold checkSpace
  split_ifs
  · rw [logEv_ftl]; rfl
  · rw [logEv_ftl]; rfl
  · rfl

theorem dropSeg_ftl : (dropSeg k s).ftl = s.ftl := rfl

/-- A segment whose reclaim has ended is free. -/
theorem endReclaim_free : assocGet j.seg (endReclaim j s).ftl.segs = none := by
  unfold endReclaim
  dsimp only
  rw [checkSpace_segs, ftlFields_journal.segs, pendSegBlks_journal.segs, postRec_journal.segs]
  exact assocGet_assocDel_self

/-! PRESENCE_CHECKPOINT (17 R535). -/

theorem exec_presenceCheckpoint_running (hrun : running s = true) : exec .presenceCheckpoint s =
    .next (writePages ptSettings 0 (ceilDiv (64 * s.infeed.presence.length) s.ftl.pageSize) s) :=
  congrArg Host.Outcome.next (if_neg (by simp [hrun]))

end

/-- Settles O45: each row with its condition, from the equation of its meaning; what a lost die leaves by `StoreWork`, and what
frees a segment by `JournalWork`. -/
theorem ledgerEventsComplete : Obligations.LedgerEventsComplete := by
  refine ⟨?seals, fun l s => sealGroup_ledger, ?sealWaits, ?programs, ?verifies, ?accepts, ?releases,
    fun s hnone => exec_groupRelease_none hnone, ?dieLost, ?replicated, ?worn, fun s hnot => exec_ledgerWorn_not hnot,
    ?reclaims, fun k s hwait => exec_segmentReclaim_waits hwait, fun k s hnone => reclaimMay_of_none hnone,
    fun j s => endReclaim_free, ?presence⟩
  case seals =>
    intro l rest s hclosed hpair hfit hframe
    refine (exec_ledgerGroupSeal_closed hclosed).trans (if_neg ?_)
    rw [sealWaits, rdB_eq_true, hfit]
    tauto
  case sealWaits =>
    intro s hwait
    cases hclosed : s.ledger.toSeal with
    | nil => exact exec_ledgerGroupSeal_none hclosed
    | cons l rest =>
      refine (exec_ledgerGroupSeal_closed hclosed).trans (if_pos ?_)
      rw [sealWaits, rdB_eq_true]
      rw [hclosed] at hwait
      tauto
  case programs =>
    intro g n c q s hq t
    refine ⟨fun hst => ?_, fun ok hst => (exec_pageProgramDone_page hq).trans (if_neg hst)⟩
    exact ⟨(exec_pageProgramDone_page hq).trans (if_pos hst), (exec_pageProgramDone_page hq).trans (if_pos hst)⟩
  case verifies =>
    intro g n c b same q s hq hst
    have hread := exec_copyVerified_readBack (bits := b) (same := same) hq hst
    refine ⟨fun hsame hbits => hread.trans (if_pos (copyPasses_iff.mpr ⟨hsame, hbits⟩)),
      fun hfail => hread.trans (if_neg ?_)⟩
    rw [copyPasses_iff]
    rintro ⟨hsame, hbits⟩
    obtain hdiff | hmore := hfail
    · exact Bool.false_ne_true (hdiff.symm.trans hsame)
    · omega
  case accepts =>
    intro g s hg done
    have hnext := exec_groupAccept_next hg
    have hdone : done ↔ g.complete = true ∧ silent s = false ∧ pairComplete s g.no = true := by
      rw [Group.complete_iff, pairComplete_iff]
    refine ⟨fun hd => ?_, fun hd => hnext.trans (if_neg (hdone.not.mp hd))⟩
    refine ⟨_, hnext.trans (if_pos (hdone.mp hd)), ?_⟩
    rw [accRec_ledger]
    exact ⟨rfl, modGroup_groups, fun htidy => (rdI_congr accRec_regs).trans (rd_wr_self htidy)⟩
  case releases =>
    intro g s hg
    exact ⟨fun hloud => (exec_groupRelease_next hg).trans (if_neg (by simp [hloud])),
      fun hsilent => (exec_groupRelease_next hg).trans (if_pos hsilent)⟩
  case dieLost =>
    intro c d s htidy
    refine ⟨_, exec_ledgerDieLost, ?_⟩
    have hkept := copiesLeft_tidy (c := c) (n := d.val) htidy
    have hsingle := rd_copiesLeft (c := c) (n := d.val) htidy
    split
    next =>
      have hsame : rd (wr P12.NO_DIE_PAIR 1 _) P12.SINGLE_COPY = _ := rd_wr_ne hkept P12.NO_DIE_PAIR_known
        P12.SINGLE_COPY_known (by decide)
      rw [hsame, wr_ftl]
      exact ⟨hsingle, mem_copiesLeft, fun _ => rd_wr_self hkept⟩
    next hpairs => exact ⟨hsingle, mem_copiesLeft, fun hnone => absurd (diePairs_isEmpty_iff.mpr hnone) hpairs⟩
  case replicated =>
    intro s
    exact ⟨fun hnone => congrArg Host.Outcome.next (if_pos hnone), fun hsome => congrArg Host.Outcome.next (if_neg hsome)⟩
  case worn =>
    intro s htidy hworn hfirst
    refine ⟨_, exec_ledgerWorn_sets hworn hfirst, ?_⟩
    have hset : (wr P12.WORN 1 s).tidy = true := wr_tidy P12.WORN_known htidy
    have hone : rd (wr P12.WORN 1 s) P12.WORN = 1 := rd_wr_self htidy
    split
    next hro => exact ⟨hone, rdB_eq_true.mp hro⟩
    next =>
      have hclosed : (wr P12.READONLY 1 (wr P12.WORN 1 s)).tidy = true := wr_tidy P12.READONLY_known hset
      rw [rd_logEv hclosed P12.WORN_known (by decide), rd_logEv hclosed P12.READONLY_known (by decide), rd_wr_self hset,
        rd_wr_ne hset P12.READONLY_known P12.WORN_known (by decide)]
      exact ⟨hone, by decide⟩
  case reclaims =>
    intro k s hgrant hmay
    have hgo := reclaim_not_waiting hgrant hmay
    refine ⟨fun j hj => exec_segmentReclaim_ends hgo hj, fun hnone => ?_⟩
    obtain ⟨j, hj, hseg⟩ := beginReclaim_carry (k := k) (s := spend .reclaim s)
    exact ⟨j, _, rfl, hj, hseg, exec_segmentReclaim_begins hgo hnone hj⟩
  case presence =>
    intro s
    refine ⟨fun hmode => exec_presenceCheckpoint_running (running_of_mode hmode), fun hrun htrim => ?_⟩
    exact congrArg Host.Outcome.next (if_pos (by simp [running, hrun, htrim]))

end Sys2Proof.Machine
end

section
/-! Tally and Scribe: TALLY_QUERY, SCRIBE_CAMPAIGN, SCRIBE_EVALUATE and INTERVAL_CLOSE (07 R226, R230, R240 to R245). -/
namespace Sys2Proof.Machine

section
variable {h : Hdr} {p : List Byte} {s : State} {d : GroupDef} {c : ScribeCamp} {f : ScribeCamp → ScribeCamp} {x : GroupSt}
  {no mix g t : Nat} {sel : List Nat}

/-! What leaves Tally and Scribe alone. -/

@[simp] theorem logEv_tally {k : Nat} {b : List Byte} : (logEv k b s).tally = s.tally := by rw [logEv_logged.rest]

/-- An event that is logged only under a condition leaves Tally and Scribe alone. -/
theorem logEv_ite_tally {q : Prop} [Decidable q] {k : Nat} {b : List Byte} :
    (if q then logEv k b s else s).tally = s.tally := by
  split
  · exact logEv_tally
  · rfl

@[simp] theorem postEntry_tally {e : Entry} : (postEntry e s).tally = s.tally := by
  obtain ⟨l, hl⟩ := postEntry_eq (e := e) (s := s)
  rw [hl]

@[simp] theorem campFields_tally : (campFields s).tally = s.tally := rfl

@[simp] theorem tallyFields_tally : (tallyFields s).tally = s.tally := rfl

@[simp] theorem logAlarm_tally {was now : Bool} {on off : Nat} : (logAlarm was now on off g t s).tally = s.tally := by
  unfold logAlarm
  split
  · rfl
  · exact logEv_tally

/-! TALLY_QUERY, mode by mode (07 R245). -/

theorem exec_tallyQuery_group (hs : Served h p false s) (hmode : byteAt p 0 = 1) :
    exec (.tallyQuery h p) s = answered h p (groupData s (leAt p 2 2)) s :=
  congrArg Host.Outcome.next (runCmd_done hs (by simp only [hmode]))

theorem exec_tallyQuery_anomalies (hs : Served h p false s) (hmode : byteAt p 0 = 2) (hmax : byteAt p 1 ≠ 0) :
    exec (.tallyQuery h p) s = answered h p (anomData s (leAt p 2 2) (byteAt p 1) (leAt p 8 4 % 2 ^ 20)) s :=
  congrArg Host.Outcome.next (runCmd_done hs (by simp only [hmode, if_neg hmax]))

theorem exec_tallyQuery_campaign (hs : Served h p false s) (hmode : byteAt p 0 = 3) (hmax : byteAt p 1 ≠ 0)
    (hc : campOf s (leAt p 4 4) = some c) :
    exec (.tallyQuery h p) s = answered h p (campData c (byteAt p 1) (leAt p 8 4)) s :=
  congrArg Host.Outcome.next (runCmd_done hs (by simp only [hmode, hc, if_neg hmax]))

theorem exec_tallyQuery_unknown (hs : Served h p false s) (hmode : byteAt p 0 = 3) (hc : campOf s (leAt p 4 4) = none) :
    exec (.tallyQuery h p) s = ended h p stUnknownObject 0 s :=
  congrArg Host.Outcome.next (runCmd_fails hs (by simp only [hmode, hc]))

theorem exec_tallyQuery_no_mode (hs : Served h p false s) (hmode : byteAt p 0 ∉ [1, 2, 3]) :
    exec (.tallyQuery h p) s = ended h p stBadPayload 0 s := by
  refine congrArg Host.Outcome.next (runCmd_fails hs ?_)
  simp only [List.mem_cons, List.not_mem_nil, or_false, not_or] at hmode
  obtain ⟨h1, h2, h3⟩ := hmode
  split
  next heq => exact absurd heq h1
  next heq => exact absurd heq h2
  next heq => exact absurd heq h3
  next => rfl

/-! SCRIBE_CAMPAIGN, checks (07 R240). -/

/-- A start that passes every check. -/
structure Startable (p : List Byte) (s : State) : Prop where
  mode : byteAt p 0 = 1
  set : byteAt p 1 ≤ 15
  used : usedRefs s (byteAt p 1) ≠ []
  chan : byteAt p 2 ≤ 15
  stepLow : 1 ≤ byteAt p 3
  stepHigh : byteAt p 3 ≤ 4
  lenLow : 96 ≤ leAt p 12 2
  lenHigh : leAt p 12 2 ≤ 4096
  few : (s.tally.campaigns.filter campRuns).length + pendingStarts s < 4
  meters : (selectOf s p).length ≤ 65536
  metro : metroOn s = true ∨ ∀ r ∈ usedRefs s (byteAt p 1), r.2.type ≠ 1

theorem scribeBody_starts (hp : Startable p s) : scribeBody h p s =
    .accept (leB 4 s.tally.nextCampaign ++ leB 4 (selectOf s p).length) p
      { cmd := some (.scribeCampaign h p), args := s.tally.nextCampaign :: selectOf s p }
      { s with tally.nextCampaign := s.tally.nextCampaign + 1 } := by
  obtain ⟨hmode, hset, hused, hchan, hlow, hhigh, hmin, hmax, hfew, hmeters, hmetro⟩ := hp
  have hrefs : ¬ (usedRefs s (byteAt p 1)).isEmpty = true := List.isEmpty_iff.not.mpr hused
  have hstep : ¬ (byteAt p 3 = 0 ∨ 4 < byteAt p 3) := by omega
  have hlen : ¬ (leAt p 12 2 < 96 ∨ 4096 < leAt p 12 2) := by omega
  have hpower : ¬ (metroOn s = false ∧ (usedRefs s (byteAt p 1)).any (fun r => r.2.type == 1) = true) := by
    rintro ⟨hoff, hany⟩
    obtain ⟨r, hr, htype⟩ := List.any_eq_true.mp hany
    obtain hon | hnone := hmetro
    · exact Bool.false_ne_true (hoff.symm.trans hon)
    · exact hnone r hr (beq_iff_eq.mp htype)
  simp only [scribeBody, if_pos hmode, if_neg (Nat.not_lt.mpr hset), if_neg hrefs, if_neg (Nat.not_lt.mpr hchan), if_neg hstep,
    if_neg hlen, if_neg (Nat.not_le.mpr hfew), if_neg (Nat.not_lt.mpr hmeters), if_neg hpower]

theorem exec_scribeCampaign_starts (hs : Served h p true s) (hp : Startable p s) : exec (.scribeCampaign h p) s =
    .next (accepted h p (leB 4 s.tally.nextCampaign ++ leB 4 (selectOf s p).length) p (.scribeCampaign h p)
      (s.tally.nextCampaign :: selectOf s p) { s with tally.nextCampaign := s.tally.nextCampaign + 1 }) := by
  refine congrArg Host.Outcome.next ?_
  rw [runCmd_served hs, scribeBody_starts hp]
  rfl

/-- What remains of a stop's checks is whether its campaign is there. -/
theorem scribeBody_mode_two (hmode : byteAt p 0 = 2) :
    (∀ c, campOf s (leAt p 4 4) = some c → scribeBody h p s =
      .accept (leB 4 c.no ++ leB 4 c.selected.length) p { cmd := some (.scribeCampaign h p), args := [c.no] } s) ∧
    (campOf s (leAt p 4 4) = none → scribeBody h p s = .fail stUnknownObject 0) := by
  have hstart : ¬ byteAt p 0 = 1 := by omega
  simp only [scribeBody, if_neg hstart, if_pos hmode]
  exact ⟨fun c hc => by simp only [hc], fun hc => by simp only [hc]⟩

theorem exec_scribeCampaign_stops (hs : Served h p true s) (hmode : byteAt p 0 = 2) (hc : campOf s (leAt p 4 4) = some c) :
    exec (.scribeCampaign h p) s =
      .next (accepted h p (leB 4 c.no ++ leB 4 c.selected.length) p (.scribeCampaign h p) [c.no] s) :=
  congrArg Host.Outcome.next (runCmd_accepts hs ((scribeBody_mode_two hmode).1 c hc))

theorem exec_scribeCampaign_unknown (hs : Served h p true s) (hmode : byteAt p 0 = 2) (hc : campOf s (leAt p 4 4) = none) :
    exec (.scribeCampaign h p) s = ended h p stUnknownObject 0 s :=
  congrArg Host.Outcome.next (runCmd_fails hs ((scribeBody_mode_two hmode).2 hc))

/-! SCRIBE_CAMPAIGN, effects (07 R240, R241). -/

theorem campOf_congr {u : State} (hu : u.tally.campaigns = s.tally.campaigns) : campOf u no = campOf s no := by
  rw [campOf, campOf, hu]

theorem campOf_no (hc : campOf s no = some c) : c.no = no := by
  simpa using List.find?_some hc

/-- A change of a campaign that keeps its number is seen under that number. -/
theorem campOf_modCamp_self (hf : ∀ c, (f c).no = c.no) (hc : campOf s no = some c) :
    campOf (modCamp no f s) no = some (f c) := by
  have hsame : ((fun c => c.no == no) ∘ fun c => if c.no == no then f c else c) = fun c : ScribeCamp => c.no == no := by
    funext c
    simp only [Function.comp]
    split <;> simp only [hf]
  have hfind : s.tally.campaigns.find? (fun c => c.no == no) = some c := hc
  simp only [campOf, modCamp, mapIf, List.find?_map, hsame, hfind, Option.map_some, campOf_no hc, beq_self_eq_true, if_true]

/-- The campaign that a start begins: one that selects no meter is done at once. -/
def startedCamp (p : List Byte) (no : Nat) (sel : List Nat) (s : State) : ScribeCamp :=
  { no := no, refSet := byteAt p 1, voltCh := byteAt p 2, step := intervalSec (byteAt p 3),
    first := firstStep s (intervalSec (byteAt p 3)), len := leAt p 12 2, selected := sel, st := if sel.isEmpty then 3 else 1 }

theorem startedCamp_st : if sel = [] then (startedCamp p no sel s).st = 3 else campRuns (startedCamp p no sel s) = true := by
  cases sel with
  | nil => rfl
  | cons m ms => rfl

theorem effScribeCampaign_starts (hmode : byteAt p 0 = 1) :
    (effScribeCampaign ⟨some (.scribeCampaign h p), no :: sel, p⟩ s).tally.campaigns =
      s.tally.campaigns ++ [startedCamp p no sel s] := by
  rw [effScribeCampaign, if_pos hmode]
  cases sel with
  | nil => exact congrArg TallySt.campaigns logEv_tally
  | cons m ms => rfl

theorem effScribeCampaign_stops (hmode : byteAt p 0 ≠ 1) (hc : campOf s no = some c) (hruns : campRuns c = true) :
    campOf (effScribeCampaign ⟨some (.scribeCampaign h p), [no], p⟩ s) no = some { c with st := 4 } := by
  obtain rfl := campOf_no hc
  have hargs : campOf s ([c.no].getD 0 0) = some c := hc
  simp only [effScribeCampaign, if_neg hmode, hargs, if_pos hruns]
  refine (campOf_congr ?_).trans (campOf_modCamp_self (f := fun c => { c with st := 4 }) (fun _ => rfl) hc)
  rw [logEv_tally, campFields_tally]

/-! Balance groups through the work of a close (07 R226, R230 to R235). -/

theorem grpAt_congr {u : State} (hu : u.tally.groups = s.tally.groups) : grpAt u g = grpAt s g := by
  rw [grpAt, grpAt, hu]

theorem grpAt_setGrp_self : grpAt (setGrp g x s) g = x := by
  simp only [grpAt, setGrp, assocGet_assocSet_self, Option.getD_some]

/-- A fold whose every step keeps a part of the state keeps it. -/
theorem foldl_keeps {α β : Type} {part : State → β} {f : State → α → State} {l : List α}
    (hf : ∀ u y, part (f u y) = part u) : part (l.foldl f s) = part s := by
  induction l generalizing s with
  | nil => rfl
  | cons y l ih => rw [List.foldl_cons, ih, hf]

section
variable {v : State} {m : Meter} {ms : List Meter} {imp : Int} {loss : Bool}

theorem anomChange_groups {rule action : Nat} {a : Anom} :
    (anomChange rule action mix g t a s).tally.groups = s.tally.groups := by
  simp only [anomChange, logEv_tally, postEntry_tally]
  rfl

theorem anomRule_groups {rule : Nat} : (anomRule d g t v m imp s rule).tally.groups = s.tally.groups := by
  unfold anomRule
  dsimp only
  split_ifs <;> simp only [anomChange_groups]

theorem anomMember_groups : (anomMember d g t v m imp s).tally.groups = s.tally.groups :=
  foldl_keeps (part := fun u => u.tally.groups) fun _ _ => anomRule_groups

theorem markTheft_groups : (markTheft g t s m).tally.groups = s.tally.groups :=
  foldl_keeps (part := fun u => u.tally.groups) fun u r => by
    extract_lets a
    split
    · exact anomChange_groups
    · rfl

theorem anomalies_groups : (anomalies d g t loss v ms s).tally.groups = s.tally.groups := by
  have hmarked : ∀ u : State, (ms.foldl (markTheft g t) u).tally.groups = u.tally.groups := fun _ =>
    foldl_keeps (part := fun u => u.tally.groups) fun _ _ => markTheft_groups
  unfold anomalies
  extract_lets tested
  have htested : tested.tally.groups = s.tally.groups := by
    unfold tested
    split
    · refine foldl_keeps (part := fun u => u.tally.groups) fun u m => ?_
      split
      · exact anomMember_groups
      · rfl
    · rfl
  split
  · exact (hmarked tested).trans htested
  · exact htested

end

/-- The definition that takes over may clear a group's windows and alarms; its last interval and count stay. -/
theorem switchDef_closes : (grpAt (switchDef g d s) g).lastT = (grpAt s g).lastT ∧
    (grpAt (switchDef g d s) g).closes = (grpAt s g).closes := by
  unfold switchDef
  dsimp only
  split
  · rw [grpAt_congr (u := logEv _ _ _) (congrArg TallySt.groups logEv_tally), grpAt_setGrp_self]
    exact ⟨rfl, rfl⟩
  · exact ⟨rfl, rfl⟩

/-- A closed interval's end is its group's last, and the group has closed one more. -/
theorem closeInterval_closes : (grpAt (closeInterval g d t s) g).lastT = t ∧
    (grpAt (closeInterval g d t s) g).closes = (grpAt s g).closes + 1 := by
  unfold closeInterval
  extract_lets x v c b st y changed flags z s1 s2 s3
  have hposted : s3.tally.groups = (setGrp g z s).tally.groups := by
    simp only [s3, s2, s1, logAlarm_tally, postEntry_tally, bumpI_tally, bump_tally]
    split <;> rfl
  rw [grpAt_congr (congrArg TallySt.groups tallyFields_tally), switchDef_closes.1, switchDef_closes.2,
    grpAt_congr (anomalies_groups.trans hposted), grpAt_setGrp_self]
  exact ⟨rfl, rfl⟩

/-! INTERVAL_CLOSE (07 R230, R246). -/

/-- INTERVAL_CLOSE closes the next interval of its group, when that is due and may close. -/
theorem exec_intervalClose (hnext : nextInterval s (grpAt s g) = (d, t)) : exec (.intervalClose g) s =
    .next (if tallyRuns s = true ∧ g < 65536 ∧ (grpAt s g).lastT < t ∧ mayClose s g d t = true then closeInterval g d t s
      else s) := by
  change execIntervalClose g s = _
  simp only [execIntervalClose, hnext]

/-! SCRIBE_EVALUATE (07 R241, R243, R244). -/

theorem resultOf_mix : (resultOf s c mix).1.mix = mix := by
  unfold resultOf
  split <;> rfl

/-- A campaign `x` once a meter of campaign `c` has its result: `x` ends when no other meter of `c` is undecided. -/
def decidedCamp (s : State) (c : ScribeCamp) (mix : Nat) (x : ScribeCamp) : ScribeCamp :=
  { x with
    results := x.results ++ [(resultOf s c mix).1], blocks := assocDel mix x.blocks
    st := if (c.selected.filter (fun m => m != mix && undecided c m)).isEmpty then 3 else 2 }

/-- Another meter that a campaign selects is undecided. -/
theorem others_isEmpty_iff : (c.selected.filter (fun m => m != mix && undecided c m)).isEmpty = true ↔
    ¬ ∃ m ∈ c.selected, m ≠ mix ∧ undecided c m = true := by
  simp [List.isEmpty_iff, List.filter_eq_nil_iff]

/-- The series blocks of a meter are done, or it needs none. -/
abbrev blocksDone (s : State) (c : ScribeCamp) (mix : Nat) : Prop :=
  seriesOk s mix c.voltCh c.step = false ∨ blocksNeeded c ≤ (assocGet mix c.blocks).getD 0

theorem exec_scribeEvaluate_decides (hc : campOf s no = some c) (hgo : tallyRuns s = true ∧ campRuns c = true ∧
    undecided c mix = true ∧ evaluable s c mix = true ∧ blocksDone s c mix) :
    ∃ u, exec (.scribeEvaluate no mix) s = .next u ∧
      u.tally.campaigns = (modCamp no (decidedCamp s c mix) s).tally.campaigns := by
  refine ⟨_, congrArg Host.Outcome.next (by simp only [hc]; exact if_pos hgo), ?_⟩
  simp only [campFields_tally, logEv_ite_tally, bump_tally, postEntry_tally]
  rfl

theorem exec_scribeEvaluate_waits (hc : campOf s no = some c) (hwait : tallyRuns s = false ∨ campRuns c = false ∨
    undecided c mix = false ∨ evaluable s c mix = false) : exec (.scribeEvaluate no mix) s = .next s := by
  refine congrArg Host.Outcome.next ?_
  simp only [hc]
  exact if_neg (by grind)

end

/-- Settles O44: the commands by the checks their payloads pass; a closed interval by what the work of a close leaves in the
balance groups, and a decided meter by what it leaves in its campaign. -/
theorem tallyAndScribeComplete : Obligations.TallyAndScribeComplete := by
  refine ⟨?query, ?commands, ?starts, ?stops, ?closes, ?evaluates⟩
  case query =>
    intro h p s r hs
    exact ⟨exec_tallyQuery_group hs, exec_tallyQuery_anomalies hs, fun c => exec_tallyQuery_campaign hs,
      exec_tallyQuery_unknown hs, exec_tallyQuery_no_mode hs⟩
  case commands =>
    intro h p s hs sel no
    exact ⟨fun hmode hset hused hchan hlow hhigh hmin hmax hfew hmeters hmetro => exec_scribeCampaign_starts hs
        ⟨hmode, hset, hused, hchan, hlow, hhigh, hmin, hmax, hfew, hmeters, hmetro⟩,
      fun c => exec_scribeCampaign_stops hs, exec_scribeCampaign_unknown hs⟩
  case starts =>
    exact fun h p no sel s hmode =>
      ⟨startedCamp p no sel s, rfl, rfl, rfl, rfl, rfl, rfl, startedCamp_st, effScribeCampaign_starts hmode⟩
  case stops => exact fun h p no c s => effScribeCampaign_stops
  case closes =>
    intro g d e s hg hnext x
    refine ⟨fun hruns hlast hmay => ⟨?_, closeInterval_closes⟩, fun hwait => ?_⟩
    · exact (exec_intervalClose hnext).trans (congrArg _ (if_pos ⟨hruns, hg, hlast, hmay⟩))
    · exact (exec_intervalClose hnext).trans (congrArg _ (if_neg (by grind)))
  case evaluates =>
    intro no mix c s hc r
    refine ⟨fun hruns hcamp hund heval hblocks => ?_, exec_scribeEvaluate_waits hc⟩
    obtain ⟨u, hu, hcamps⟩ := exec_scribeEvaluate_decides hc ⟨hruns, hcamp, hund, heval, hblocks⟩
    refine ⟨u, hu, resultOf_mix, ?_⟩
    rw [campOf_congr hcamps, campOf_modCamp_self (f := decidedCamp s c mix) (fun _ => rfl) hc, decidedCamp]
    simp only [others_isEmpty_iff, ite_not]
    rfl

end Sys2Proof.Machine
end

section
/-! The radio's channels, neighbours and queue: what a change of one of them leaves there, and what leaves the radio alone (08
R250, R257, R275). -/
namespace Sys2Proof.Machine

section
variable {s t : State} {ch ext k : Nat} {n : Neigh}

/-! What leaves the radio alone. -/

@[simp] theorem logEv_radio {d : List Byte} : (logEv k d s).radio = s.radio := by rw [logEv_logged.rest]

@[simp] theorem radCounts_radio : (radCounts ch s).radio = s.radio := rfl

/-! A channel changed. -/

theorem chanAt_congr (h : t.radio = s.radio) : chanAt t ch = chanAt s ch := by rw [chanAt, chanAt, h]

theorem chanAt_modChan_self {f : RadChan → RadChan} (hch : ch < s.radio.chans.length) :
    chanAt (modChan ch f s) ch = f (chanAt s ch) := by
  rw [chanAt, modChan, List.getD_eq_getElem _ _ (by simpa using hch), List.getElem_set_self]

/-! A neighbour changed. -/

theorem neighOn_congr (h : t.radio = s.radio) : neighOn t ch ext = neighOn s ch ext := by rw [neighOn, neighOn, h]

@[simp] theorem neighOn_queueRadio {x : RadTx} : neighOn (queueRadio x s) ch ext = neighOn s ch ext := rfl

@[simp] theorem neighOn_radCounts : neighOn (radCounts k s) ch ext = neighOn s ch ext := neighOn_congr radCounts_radio

theorem neighOn_key (hn : neighOn s ch ext = some n) : n.ch = ch ∧ n.ext = ext := by
  simpa using List.find?_some hn

/-- A change of one neighbour that keeps its channel and title is found in its place. -/
theorem neighOn_modNeigh_self {f : Neigh → Neigh} (hf : ∀ m, (f m).ch = m.ch ∧ (f m).ext = m.ext)
    (hn : neighOn s ch ext = some n) : neighOn (modNeigh ch ext f s) ch ext = some (f n) := by
  have hsame : (fun m : Neigh => m.ch == ch && m.ext == ext) ∘ (fun m => if m.ch == ch && m.ext == ext then f m else m) =
      fun m => m.ch == ch && m.ext == ext := by
    funext m
    simp only [Function.comp]
    split <;> simp only [hf]
  have hfound : List.find? (fun m => m.ch == ch && m.ext == ext) s.radio.neigh = some n := hn
  simp only [neighOn, modNeigh, mapIf, List.find?_map, hsame, hfound, Option.map_some, neighOn_key hn, BEq.rfl, Bool.and_self,
    if_true]

end

end Sys2Proof.Machine
end

section
/-! Receptions, floods and transmissions (08 R253 to R257, R263 to R268, R281, R282, Table 08-2). -/
namespace Sys2Proof.Machine

section
variable {ch : Fin 16} {s : State}

/-! PHR_DECODED (08 R253, R256, R266). -/

theorem exec_phrDecoded_dropped {n : Nat} {sw : Bool} {sfd : Int}
    (hno : radChanUp s ch = false ∨ portDeaf s ch (slotNs s + sfd) = true ∨ 2047 < n) :
    exec (.phrDecoded ch n sw sfd) s = .next s :=
  congrArg Host.Outcome.next (if_pos hno)

section
variable {n : Nat} {sfd : Int} (hup : radChanUp s ch = true) (hdeaf : portDeaf s ch (slotNs s + sfd) = false) (hn : n ≤ 2047)
include hup hdeaf hn

theorem phr_taken : ¬ (radChanUp s ch = false ∨ portDeaf s ch (slotNs s + sfd) = true ∨ 2047 < n) := by
  simp [hup, hdeaf, hn]

theorem exec_phrDecoded_opens : exec (.phrDecoded ch n false sfd) s = .next (modChan ch (fun c => { c with
    rx := some ⟨n, slotNs s + sfd, chainNs s + sfd, efTakes s (ch + 2) (1 + (n + 15) / 16)⟩
    rxUntil := slotNs s + sfd + psduNs s ch n }) s) :=
  congrArg Host.Outcome.next (if_neg (phr_taken hup hdeaf hn))

theorem exec_phrDecoded_modeSwitch : exec (.phrDecoded ch n true sfd) s = .next (bumpCh P20.RX_FCS_ERR ch s) :=
  congrArg Host.Outcome.next (if_neg (phr_taken hup hdeaf hn))

end

/-! RADIO_FRAME_RECEIVED (08 R253, R263 to R266). -/

/-- The reception of a channel is over. -/
abbrev rxEnded (ch : Fin 16) (s : State) : State := modChan ch (fun c => { c with rx := none }) s

theorem exec_radioFrameReceived_none {f : RadioRx} (hr : (chanAt s ch).rx = none) :
    exec (.radioFrameReceived ch f) s = .next s := by
  refine congrArg Host.Outcome.next ?_
  simp only [hr]

section
variable {f : RadioRx} {r : RadRx} (hr : (chanAt s ch).rx = some r)
include hr

theorem exec_radioFrameReceived_down (hup : radChanUp s ch = false) :
    exec (.radioFrameReceived ch f) s = .next (rxEnded ch s) := by
  refine congrArg Host.Outcome.next ?_
  simp only [hr]
  exact if_pos hup

section
variable (hup : radChanUp s ch = true)
include hup

theorem exec_radioFrameReceived_badFcs (hfcs : f.fcsOk = false) :
    exec (.radioFrameReceived ch f) s = .next (bumpCh P20.RX_FCS_ERR ch (rxEnded ch s)) := by
  refine congrArg Host.Outcome.next ?_
  simp only [hr]
  exact (if_neg (by simp [hup])).trans (if_pos hfcs)

theorem exec_radioFrameReceived_goodFcs (hfcs : f.fcsOk = true) :
    let u := count 0x0F ch 1 (bumpCh P20.RX_FRAMES ch (rxEnded ch s))
    exec (.radioFrameReceived ch f) s =
      .next (if secOk s ch f then checkedFrame ch f r u else bumpCh P20.RX_SEC_FAIL ch u) := by
  refine congrArg Host.Outcome.next ?_
  simp only [hr]
  exact (if_neg (by simp [hup])).trans (if_neg (by simp [hfcs]))

end

end

theorem enhAck_not_asked {c : Nat} {f : RadioRx} {r : RadRx} (hno : f.toUs = false ∨ f.ackReq = false ∨ f.kind = 2) :
    enhAck c f r s = s := by
  have hnone : (f.toUs && f.ackReq && f.kind != 2) = false := by
    obtain h | h | h := hno <;> simp [h]
  exact if_pos hnone

theorem enhAck_withheld {c : Nat} {f : RadioRx} {r : RadRx} (hus : f.toUs = true) (hask : f.ackReq = true)
    (hkind : f.kind ≠ 2) (hplace : r.reserved = false) : enhAck c f r s = bumpCh P20.ACK_WITHHELD c s :=
  (if_neg (by simp [hus, hask, hkind])).trans (if_pos hplace)

/-! FLOOD_RELAY and SEEN_ENTRY_EXPIRE (08 R281, R282). -/

theorem exec_floodRelay_due {o q c due : Nat} {e : Seen} {p : List Byte} (he : seenFind s o q = some e)
    (hrelay : e.relay = some (c, p, due)) (hdue : due ≤ s.now) :
    exec (.floodRelay o q) s = .next (bumpCh P20.RELAYED c (queueRadio
      { ch := c, cls := 6, ext := none, dest := 0xFFFF, ackReq := false
        payload := p.take 2 ++ leB 1 (byteAt p 2 + 1) ++ leB 1 (rdI s P20.DEPTH c) ++ p.drop 4 }
      (modSeen o q (fun x => { x with relay := none }) s))) := by
  refine congrArg Host.Outcome.next ?_
  simp only [he, Option.bind_some, hrelay]
  exact if_neg (Nat.not_lt.mpr hdue)

theorem exec_floodRelay_none {o q : Nat} (hno : ∀ e, seenFind s o q = some e → e.relay = none) :
    exec (.floodRelay o q) s = .next s := by
  have hnone : (seenFind s o q).bind Seen.relay = none := Option.bind_eq_none_iff.mpr hno
  refine congrArg Host.Outcome.next ?_
  simp only [hnone]

/-- An expired entry of a flood. -/
def seenOver (s : State) (o q : Nat) (e : Seen) : Bool := e.origin == o && e.seq == q && !seenLive s e

theorem seenOver_iff {o q : Nat} {e : Seen} : seenOver s o q e = true ↔
    e.origin = o ∧ e.seq = q ∧ e.at_ + rd s P20.SEEN_HOLD * 8000 ≤ s.now := by
  simp [seenOver, seenLive, passed_iff, secBeats, and_assoc]

/-! RADIO_TRANSMIT (08 R250, R254, R257, R259). -/

/-- A channel may start a frame now, as far as it and its port go. -/
structure MaySend (s : State) (ch : Nat) : Prop where
  up : radChanUp s ch = true
  free : (chanAt s ch).flight = none
  quiet : (chanAt s ch).txUntil ≤ slotNs s
  clear : portReceiving s (radPort s ch) = false
  turned : turnedTx s (radPort s ch) (slotNs s) = true
  counter : fcLeft s ch = true

/-- A frame taken from the queue. -/
abbrev txTaken (x : RadTx) (s : State) : State := { s with radio := { s.radio with txq := s.radio.txq.erase x } }

variable {n : Nat} {a : Access} {x : RadTx}

theorem exec_radioTransmit_waits (hno : radChanUp s ch = false ∨ fcLeft s ch = false ∨ slotNs s < (chanAt s ch).txUntil) :
    exec (.radioTransmit ch n a) s = .next s :=
  congrArg Host.Outcome.next (if_pos (by grind))

theorem MaySend.not_waits (hs : MaySend s ch) : ¬ (radChanUp s ch = false ∨ (chanAt s ch).flight.isSome = true ∨
    slotNs s < (chanAt s ch).txUntil ∨ portReceiving s (radPort s ch) = true ∨
    turnedTx s (radPort s ch) (slotNs s) = false ∨ fcLeft s ch = false) := by
  obtain ⟨hup, hfree, hquiet, hclear, hturned, hcounter⟩ := hs
  simp [hup, hfree, hquiet, hclear, hturned, hcounter]

theorem exec_radioTransmit_none (hs : MaySend s ch) (hx : nextRadio s ch = none) :
    exec (.radioTransmit ch n a) s = .next s := by
  refine congrArg Host.Outcome.next ((if_neg hs.not_waits).trans ?_)
  simp only [hx]

section
variable (hs : MaySend s ch) (hx : nextRadio s ch = some x)
  (hroom : transmitting s (radPort s ch) (slotNs s) + aheadOf s ch x.cls < rdI s P20.PORT_TX_MAX (radPort s ch))
include hs hx hroom

theorem exec_radioTransmit_class4 (hcls : x.cls = 4) : exec (.radioTransmit ch n a) s = .next (goOnAir x n (txTaken x s)) := by
  refine congrArg Host.Outcome.next ((if_neg hs.not_waits).trans ?_)
  simp only [hx]
  exact (if_neg (Nat.not_le.mpr hroom)).trans (if_pos hcls)

theorem exec_radioTransmit_csma (hcls : x.cls ≠ 4) (hcap : inCap s ch n = true) (haccess : accessOk s ch a = true) :
    exec (.radioTransmit ch n a) s = .next (if a.clear then goOnAir x n (txTaken x s)
      else bumpCh P20.CCA_FAIL ch (retryOrDrop { x with tries := x.tries + 1 } (txTaken x s))) := by
  refine congrArg Host.Outcome.next ((if_neg hs.not_waits).trans ?_)
  simp only [hx]
  exact (if_neg (Nat.not_le.mpr hroom)).trans ((if_neg hcls).trans (if_neg (by simp [hcap, haccess])))

end

/-! ENH_ACK_WAIT_EXPIRE (08 R268). -/

theorem exec_enhAckWaitExpire_none (hx : (chanAt s ch).flight = none) : exec (.enhAckWaitExpire ch) s = .next s := by
  refine congrArg Host.Outcome.next ?_
  simp only [hx]

theorem exec_enhAckWaitExpire_flight (hx : (chanAt s ch).flight = some x) : exec (.enhAckWaitExpire ch) s =
    .next (retryOrDrop x (modChan ch (fun c => { c with flight := none }) s)) := by
  refine congrArg Host.Outcome.next ?_
  simp only [hx]

end

/-- Settles O47: each event by the case it is in, and a transmission by what its channel and port allow. -/
theorem radioFrameEventsComplete : Obligations.RadioFrameEventsComplete := by
  refine ⟨?phr, ?dropped, ?received, ?idle, ?unasked, ?withheld, ?relay, ?noRelay, ?expire, ?transmit, ?waits, ?missedAck,
    ?noFlight⟩
  case phr => exact fun ch n sfd s hup hdeaf hn =>
    ⟨exec_phrDecoded_opens hup hdeaf hn, exec_phrDecoded_modeSwitch hup hdeaf hn⟩
  case dropped => exact fun ch n sw sfd s => exec_phrDecoded_dropped
  case received =>
    intro ch f r s z hr u
    refine ⟨exec_radioFrameReceived_down hr, exec_radioFrameReceived_badFcs hr, fun hup hfcs hsec => ?_,
      fun hup hfcs hsec => ?_⟩
    · exact (exec_radioFrameReceived_goodFcs hr hup hfcs).trans (congrArg _ (if_neg (by simp [hsec])))
    · exact (exec_radioFrameReceived_goodFcs hr hup hfcs).trans (congrArg _ (if_pos hsec))
  case idle => exact fun ch f s => exec_radioFrameReceived_none
  case unasked => exact fun ch f r s => enhAck_not_asked
  case withheld => exact fun ch f r s => enhAck_withheld
  case relay => exact fun o q e ch p due s => exec_floodRelay_due
  case noRelay => exact fun o q s => exec_floodRelay_none
  case expire =>
    refine fun o q s => ⟨_, rfl, rfl, fun e => ?_⟩
    rw [← seenOver_iff, Bool.not_eq_true, ← Bool.not_eq_true']
    exact List.mem_filter
  case transmit =>
    intro ch n a s r hup hfree hquiet hclear hturned hcounter
    have hs : MaySend s ch := ⟨hup, hfree, hquiet, hclear, hturned, hcounter⟩
    refine ⟨fun x hx hroom => ⟨exec_radioTransmit_class4 hs hx hroom, fun hcls hcap haccess => ?_⟩,
      exec_radioTransmit_none hs⟩
    have hsent := exec_radioTransmit_csma hs hx hroom hcls hcap haccess
    exact ⟨fun hidle => hsent.trans (congrArg _ (if_pos hidle)),
      fun hbusy => hsent.trans (congrArg _ (if_neg (by simp [hbusy])))⟩
  case waits => exact fun ch n a s => exec_radioTransmit_waits
  case missedAck => exact fun ch x s => exec_enhAckWaitExpire_flight
  case noFlight => exact fun ch s => exec_enhAckWaitExpire_none

end Sys2Proof.Machine
end

section
/-! A coordinator channel: associations, polls, slot agreements, misses, beacons and markers (08 R258 to R262, R271 to R285). -/
namespace Sys2Proof.Machine

section
variable {ch : Fin 16} {s : State} {e : Nat} {n : Neigh} {idle : Bool}

/-! ASSOCIATION_REQUEST (08 R260). -/

theorem exec_associationRequest_idle (hup : coordUp s ch = false) : exec (.associationRequest ch e idle) s = .next s :=
  congrArg Host.Outcome.next (if_pos hup)

section
variable (hup : coordUp s ch = true)
include hup

theorem exec_associationRequest_unknown (hm : meterOfTitle s e = none) : exec (.associationRequest ch e idle) s =
    .next (newTitle e (macCommand ch e 0xFFFF (!idle) (leB 1 2 ++ leB 2 0xFFFF ++ leB 1 2) s)) :=
  congrArg Host.Outcome.next ((if_neg (by simp [hup])).trans (if_pos (by simp [hm])))

variable {m : Meter} (hm : meterOfTitle s e = some m)
include hm

theorem exec_associationRequest_refused (hno : acceptsAssoc s = false ∨ 0xFFFD < freeShort s ch) :
    exec (.associationRequest ch e idle) s =
      .next (macCommand ch e 0xFFFF (!idle) (leB 1 2 ++ leB 2 0xFFFF ++ leB 1 1) s) :=
  congrArg Host.Outcome.next ((if_neg (by simp [hup])).trans ((if_neg (by simp [hm])).trans (if_pos hno)))

theorem exec_associationRequest_admitted (hopen : acceptsAssoc s = true) (hfree : freeShort s ch ≤ 0xFFFD) :
    exec (.associationRequest ch e idle) s = .next (admitAssoc ch e idle s) :=
  congrArg Host.Outcome.next ((if_neg (by simp [hup])).trans ((if_neg (by simp [hm])).trans
    (if_neg (by simp [hopen, hfree]))))

end

/-- The entry of a meter taken in for the first time. -/
def admittedNeigh (ch ext : Nat) (awake : Bool) (s : State) : Neigh :=
  { ext := ext, short := freeShort s ch, ch := ch, st := if awake then 1 else 5, drift := rdI s P20.DRIFT_METER ch,
    heard := slotNs s, heardTick := s.beat.ticks }

theorem admitAssoc_neigh {c : Nat} (hn : neighOn s c e = none) :
    (admitAssoc c e idle s).radio.neigh = s.radio.neigh ++ [admittedNeigh c e idle s] := by
  simp only [admitAssoc, hn]
  rfl

/-! The lowest free short address (08 R260). -/

/-- The short addresses in use or held on a channel. -/
def usedShorts (s : State) (ch : Nat) : List Nat :=
  (s.radio.neigh.filter (fun n => n.ch == ch)).map Neigh.short ++ (chanAt s ch).heldAddr.map Prod.fst

/-- One of the numbers from 1 to one more than the length of a list is not in the list. -/
theorem exists_number_not_mem (l : List Nat) : ∃ a ∈ (List.range (l.length + 1)).map (· + 1), a ∉ l := by
  by_contra! hall
  have hnodup : ((List.range (l.length + 1)).map (· + 1)).Nodup := List.nodup_range.map (add_left_injective 1)
  have hle := (hnodup.subperm hall).length_le
  simp at hle

theorem freeShort_not_mem_usedShorts {c : Nat} : freeShort s c ∉ usedShorts s c := by
  have hfree : freeShort s c = ((((List.range ((usedShorts s c).length + 1)).map (· + 1)).find?
    fun a => !(usedShorts s c).contains a)).getD 1 := rfl
  cases hfind : ((List.range ((usedShorts s c).length + 1)).map (· + 1)).find? fun a => !(usedShorts s c).contains a with
  | none =>
    obtain ⟨a, ha, hno⟩ := exists_number_not_mem (usedShorts s c)
    exact absurd (List.find?_eq_none.mp hfind a ha) (by simpa using hno)
  | some a =>
    rw [hfree, hfind]
    simpa using List.find?_some hfind

theorem short_ne_freeShort {c : Nat} (hmem : n ∈ s.radio.neigh) (hch : n.ch = c) : n.short ≠ freeShort s c := by
  have hused : n.short ∈ usedShorts s c :=
    List.mem_append_left _ (List.mem_map_of_mem (List.mem_filter.mpr ⟨hmem, beq_iff_eq.mpr hch⟩))
  exact fun h => freeShort_not_mem_usedShorts (h ▸ hused)

/-! ORPHAN_NOTIFICATION and SHORT_ADDR_RELEASED (08 R262, R271, R279). -/

theorem exec_orphanNotification_answered (hn : neighOn s ch e = some n) (hup : coordUp s ch = true) :
    exec (.orphanNotification ch e) s = .next (macCommand ch e n.short false
      (leB 1 8 ++ leB 2 (rdI s P20.PAN_ID ch) ++ leB 2 0 ++ leB 1 0 ++ leB 2 n.short) s) := by
  refine congrArg Host.Outcome.next ?_
  simp only [hn]
  exact if_pos hup

theorem exec_orphanNotification_ignored (hno : neighOn s ch e = none ∨ coordUp s ch = false) :
    exec (.orphanNotification ch e) s = .next s := by
  refine congrArg Host.Outcome.next ?_
  split
  next hn =>
    obtain hnone | hup := hno
    · simp [hn] at hnone
    · exact if_neg (by simp [hup])
  next => rfl

/-- A freed meter's entry whose address is free again. -/
def addrDue (s : State) (ch a : Nat) (n : Neigh) : Bool :=
  n.ch == ch && n.short == a && n.st == 4 && passed s n.heardTick (secBeats (rdI s P20.ADDR_HOLD ch * 3600))

theorem addrDue_iff {c a : Nat} : addrDue s c a n = true ↔ n.ch = c ∧ n.short = a ∧ n.st = 4 ∧
    n.heardTick + rdI s P20.ADDR_HOLD c * 3600 * 8000 ≤ s.now := by
  simp [addrDue, passed_iff, secBeats, and_assoc]

/-- Exactly the entries that are due leave the table. -/
theorem exec_shortAddrReleased_neigh {a : Nat} : ∃ t, exec (.shortAddrReleased ch a) s = .next t ∧
    t.radio.neigh = s.radio.neigh.filter fun x => !addrDue s ch a x := by
  refine ⟨_, rfl, ?_⟩
  split
  next => rw [logEv_radio]; rfl
  next hnone =>
    have hkept : ∀ x ∈ s.radio.neigh, addrDue s ch a x = false := fun x hx =>
      Bool.eq_false_iff.mpr fun hdue => hnone (List.any_eq_true.mpr ⟨x, hx, hdue⟩)
    exact (List.filter_eq_self.mpr fun x hx => by rw [hkept x hx, Bool.not_false]).symm

/-! DATA_REQUEST (08 R273; 10 R350). -/

theorem exec_dataRequest_down (hup : radChanUp s ch = false) : exec (.dataRequest ch e) s = .next s :=
  congrArg Host.Outcome.next (if_neg (by simp [hup]))

/-- The frames held for a meter. -/
abbrev heldFor (ch e : Nat) (x : RadTx) : Bool := x.ch == ch && x.indirect && x.ext == some e

theorem exec_dataRequest_up (hup : radChanUp s ch = true) :
    let few := (blockNames (s.radio.txq.filter (heldFor ch e))).take (rd s P60.SLEEPY_BLOCKS)
    exec (.dataRequest ch e) s = .next { s with radio := { s.radio with
      txq := s.radio.txq.map (fun x => if heldFor ch e x ∧ goesAtPoll few x
        then { x with readyTo := some (slotNs s + gMaxNs s ch + airtime s ch 1024) } else x) } } := by
  refine congrArg Host.Outcome.next ((if_pos hup).trans ?_)
  simp only [mapIf, Bool.and_eq_true]

theorem goesAtPoll_of_not_block {few : List (Nat × Nat)} {x : RadTx} (hx : ∀ c k, x.cargo ≠ .block c k) :
    goesAtPoll few x = true := by
  unfold goesAtPoll
  split
  next c k hblock => exact absurd hblock (hx c k)
  next => rfl

/-! SLOT_REQUEST and SLOT_RELEASE (08 R272, Table 08-6). -/

/-- A request's period, cell or drift is out of range. -/
abbrev badSlot (s : State) (ch : Nat) (r : SlotIn) : Prop :=
  r.period = 0 ∨ 86400 < r.period ∨ r.drift = 0 ∨ 100 < r.drift ∨
    (r.cell ≠ 0xFFFFFFFF ∧ r.period * 100 ≤ r.cell * rdI s P20.CELL_MS ch)

theorem badSlot_iff {c : Nat} {r : SlotIn} : badSlot s c r ↔ r.period = 0 ∨ 86400 < r.period ∨
    (r.cell != 0xFFFFFFFF && decide (r.period * 100 ≤ r.cell * rdI s P20.CELL_MS c)) = true ∨
    r.drift = 0 ∨ 100 < r.drift := by
  simp only [badSlot, Bool.and_eq_true, bne_iff_ne, decide_eq_true_eq]
  tauto

/-- The guard of a request without beacon sync would pass GMAX. -/
abbrev wideGuard (s : State) (ch : Nat) (r : SlotIn) : Prop :=
  r.flags.testBit 0 = false ∧ gMaxNs s ch < g0Ns s ch
    + 2 * ((r.drift + rd s P20.DRIFT_DEV : Nat) : Int) * (r.period * 1000000000) / 1000000

/-- The refusal of a request with a reason. -/
abbrev slotRefused (r : SlotIn) (n : Neigh) (k : Nat) (s : State) : State :=
  slotAnswer n (slotBytes 4 r.period r.cell k r.flags 0) s

/-- The first slot instant of a grant, in ms of slot time. -/
def firstSlotMs (s : State) (ch period cell : Nat) : Nat := (nextSlotAt s ch period cell (slotNs s) / 1000000).toNat

/-- A neighbour of state `st` once its request is granted cell `c`. -/
def withSlot (s : State) (ch : Nat) (r : SlotIn) (c st : Nat) (x : Neigh) : Neigh :=
  { x with
    st := if st = 4 ∨ st = 5 ∨ st = 1 then 2 else st, period := r.period, cell := c, drift := r.drift
    beaconSync := bitAt r.flags 0, ackWin := bitAt r.flags 1, from_ := firstSlotMs s ch r.period c
    prev := if x.period = 0 then none else some (x.period, x.cell) }

theorem withSlot_st {c k st : Nat} {r : SlotIn} :
    (withSlot s k r c st n).st = if st = 1 ∨ st = 4 ∨ st = 5 then 2 else st :=
  if_congr (by omega) rfl rfl

theorem neighOn_withSlot {c k st : Nat} {r : SlotIn} {p : List Byte} (hn : neighOn s k r.ext = some n) :
    neighOn (slotAnswer n p (radCounts k (modNeigh k r.ext (withSlot s k r c st) s))) k r.ext =
      some (withSlot s k r c st n) := by
  rw [slotAnswer, neighOn_queueRadio, neighOn_radCounts]
  exact neighOn_modNeigh_self (fun _ => ⟨rfl, rfl⟩) hn

section
variable {r : SlotIn} (hn : neighOn s ch r.ext = some n) (hup : coordUp s ch = true)
include hn hup

theorem exec_slotRequest_bad (hbad : badSlot s ch r) : exec (.slotRequest ch r) s = .next (slotRefused r n 3 s) := by
  refine congrArg Host.Outcome.next ?_
  simp only [hn]
  exact (if_neg (by simp [hup])).trans (if_pos (badSlot_iff.mp hbad))

variable (hok : ¬ badSlot s ch r)
include hok

theorem exec_slotRequest_wide (hwide : wideGuard s ch r) : exec (.slotRequest ch r) s = .next (slotRefused r n 2 s) := by
  refine congrArg Host.Outcome.next ?_
  simp only [hn, bitAt_eq_testBit]
  exact (if_neg (by simp [hup])).trans ((if_neg (mt badSlot_iff.mpr hok)).trans (if_pos hwide))

variable (hfits : ¬ wideGuard s ch r)
include hfits

theorem exec_slotRequest_full (hcell : cellFor s ch r.ext r.period r.cell = none) :
    exec (.slotRequest ch r) s = .next (slotRefused r n 1 s) := by
  refine congrArg Host.Outcome.next ?_
  simp only [hn, bitAt_eq_testBit, hcell]
  exact (if_neg (by simp [hup])).trans ((if_neg (mt badSlot_iff.mpr hok)).trans (if_neg hfits))

theorem exec_slotRequest_granted {c : Nat} (hcell : cellFor s ch r.ext r.period r.cell = some c) :
    exec (.slotRequest ch r) s = .next (slotAnswer n
      (slotBytes 2 r.period c r.drift r.flags (firstSlotMs s ch r.period c % (2 ^ 32 * 1000)))
      (radCounts ch (modNeigh ch r.ext (withSlot s ch r c n.st) s))) := by
  refine congrArg Host.Outcome.next ?_
  simp only [hn, hcell]
  exact (if_neg (by simp [hup])).trans ((if_neg (mt badSlot_iff.mpr hok)).trans (if_neg (by rwa [bitAt_eq_testBit])))

end

/-- A meter gives its slot up, unless it is awake and holds none. -/
def slotGivenUp (x : Neigh) : Neigh :=
  if x.st = 1 then x else { x with st := 5, period := 0, cell := 0, prev := none, missed := 0 }

theorem exec_slotRelease_neigh (hn : neighOn s ch e = some n) : ∃ t, exec (.slotRelease ch e) s = .next t ∧
    neighOn t ch e = some (slotGivenUp n) := by
  refine ⟨radCounts ch (modNeigh ch e slotGivenUp s), rfl, ?_⟩
  rw [neighOn_radCounts]
  exact neighOn_modNeigh_self (fun m => by unfold slotGivenUp; split <;> exact ⟨rfl, rfl⟩) hn

/-! SLOT_MISSED (08 R274, R276, R277, R279). -/

/-- A neighbour with `m` misses: at the third it is ADRIFT, at the 96th its cell is freed. -/
def withMisses (m : Nat) (x : Neigh) : Neigh :=
  if m = 96 then { x with missed := m, st := 4, period := 0, cell := 0, prev := none }
  else if m = 3 then { x with missed := m, st := 3 }
  else { x with missed := m }

theorem withMisses_key {m : Nat} {x : Neigh} : (withMisses m x).ch = x.ch ∧ (withMisses m x).ext = x.ext := by
  unfold withMisses
  split_ifs <;> exact ⟨rfl, rfl⟩

theorem withMisses_missed {m : Nat} {x : Neigh} : (withMisses m x).missed = m := by
  unfold withMisses
  split_ifs <;> rfl

theorem withMisses_st {m : Nat} {x : Neigh} (h3 : m ≠ 3) (h96 : m ≠ 96) : (withMisses m x).st = x.st := by
  rw [withMisses, if_neg h96, if_neg h3]

theorem countMiss_radio : (countMiss n s).radio = (modNeigh n.ch n.ext (withMisses (n.missed + 1)) s).radio := by
  unfold countMiss withMisses
  dsimp only
  split_ifs
  · rw [logEv_radio]; rfl
  · rw [logEv_radio]; rfl
  · rfl

theorem neighOn_countMiss (hn : neighOn s n.ch n.ext = some n) :
    neighOn (countMiss n s) n.ch n.ext = some (withMisses (n.missed + 1) n) :=
  (neighOn_congr countMiss_radio).trans (neighOn_modNeigh_self (fun _ => withMisses_key) hn)

/-- A slot whose window closed is accounted for, and counted as missed unless it is excused. -/
theorem exec_slotMissed_closed {i : Nat} (hn : neighOn s ch e = some n) (hperiod : (agreed n (i * 1000000 : Nat)).1 ≠ 0)
    (hst : n.st ≠ 1 ∧ n.st ≠ 4 ∧ n.st ≠ 5)
    (hslot : nearestSlot s ch (agreed n (i * 1000000 : Nat)).1 (agreed n (i * 1000000 : Nat)).2 (i * 1000000 : Nat) =
      (i * 1000000 : Nat))
    (hdone : n.slotDone < i) (hclosed : (slotWindow s n (i * 1000000 : Nat)).2 ≤ slotNs s) :
    let u := modNeigh ch e (fun y => { y with slotDone := i }) s
    exec (.slotMissed ch e i) s = .next (if excused s ch (slotWindow s n (i * 1000000 : Nat)) then u
      else radCounts ch (countMiss { n with slotDone := i } u)) := by
  refine congrArg Host.Outcome.next ?_
  simp only [Nat.cast_mul, Nat.cast_ofNat] at hperiod hslot hclosed ⊢
  simp only [hn]
  exact if_neg (by grind)

/-! BEACON_TRANSMIT and RENDEZVOUS_SLOT (08 R258, R259, R278). -/

theorem exec_beaconTransmit_due {b us : Nat} {t : Int} (ht : t = slotNs s + b) (hus : us = (t / 1000).toNat)
    (hup : coordUp s ch = true) (hrun : running s = true)
    (hdue : if beaconTurn s ch = 0 then atBeacon s ch us = true else groupEnd s ch = some us) :
    exec (.beaconTransmit ch b) s =
      .next (modChan ch (fun c => { c with beaconAt := us, beaconUntil := t + airtime s ch Config.beaconPsdu })
        (onTime ch Config.beaconPsdu t (.radio ch 2 (txLevel s ch) none 0xFFFF false false (nextFc s ch)
          (beaconBytes s ch (t + sfdNs s ch))) s)) := by
  subst hus ht
  refine congrArg Host.Outcome.next (if_pos ?_)
  rw [hup, hrun, Bool.true_and, Bool.true_and]
  split at hdue
  next hfirst => exact (if_pos hfirst).trans hdue
  next hturn => exact (if_neg hturn).trans (by simpa using hdue)

theorem exec_rendezvousSlot_due {b n : Nat} {t off : Int} (ht : t = slotNs s + b) (hoff : off = (ch.val * 500000 : Nat))
    (hup : coordUp s ch = true) (hrun : running s = true)
    (hdue : (t / 1000 - off) % 900000000 = 0 ∨ (t / 1000 = -(-(chanAt s ch).beaconUntil / 1000) ∧
      ((chanAt s ch).beaconAt - off) % 900000000 = 0)) :
    exec (.rendezvousSlot ch b n) s = .next (modChan ch (fun x => { x with rdvUntil := t + 400000000 }) (onTime ch n t
      (.radio ch 3 (txLevel s ch) none 0xFFFF false false (nextFc s ch) (leB 1 0xE3 ++ [0]
        ++ leB 4 ((t / 1000000000).toNat % 2 ^ 32) ++ leB 2 (t % 1000000000 / 1000000).toNat
        ++ leB 2 (rdI s P20.NET_ID ch))) s)) := by
  subst hoff ht
  refine congrArg Host.Outcome.next (if_pos ?_)
  simpa [hup, hrun] using hdue

theorem exec_beaconTransmit_idle {b : Nat} (hno : coordUp s ch = false ∨ running s = false) :
    exec (.beaconTransmit ch b) s = .next s :=
  congrArg Host.Outcome.next (if_neg (by obtain h | h := hno <;> simp [h]))

theorem exec_rendezvousSlot_idle {b n : Nat} (hno : coordUp s ch = false ∨ running s = false) :
    exec (.rendezvousSlot ch b n) s = .next s :=
  congrArg Host.Outcome.next (if_neg (by obtain h | h := hno <;> simp [h]))

/-! RADIO_NEIGHBOURS (08 R285). -/

section
variable {h : Hdr} {p : List Byte} (hs : Served h p false s)
include hs

theorem exec_radioNeighbours_channel (hch : 15 < byteAt p 0 ∧ byteAt p 0 ≠ 0xFF) :
    exec (.radioNeighbours h p) s = ended h p stOutOfRange 0 s :=
  congrArg Host.Outcome.next (runCmd_fails hs (if_pos hch))

theorem exec_radioNeighbours_lists {l : List (Nat × Neigh)} (hl : l = neighFrom s (byteAt p 0) (leAt p 2 2))
    (hch : byteAt p 0 ≤ 15 ∨ byteAt p 0 = 0xFF) (hstart : leAt p 2 2 ≤ 8191) :
    exec (.radioNeighbours h p) s = answered h p
      (leB 2 (min 255 l.length) ++ leB 2 (((l.drop 255).head?.map Prod.fst).getD 0xFFFF) ++ zeros 12
        ++ ((l.take 255).map (fun x => neighBytes x.2)).flatten) s := by
  subst hl
  rw [← List.length_take]
  exact congrArg Host.Outcome.next (runCmd_done hs ((if_neg (by omega)).trans (if_neg (by omega))))

end

end

/-- Settles O48: each event by its case, and what it leaves in the table of neighbours by the entry that it changes. -/
theorem radioCoordinatorComplete : Obligations.RadioCoordinatorComplete := by
  refine ⟨?assoc, ?assocIdle, ?short, ?orphan, ?released, ?poll, ?pollDown, ?request, ?release, ?miss, ?missed, ?beacon,
    ?marker, ?quiet, ?list⟩
  case assoc =>
    intro ch e idle s r hup
    refine ⟨exec_associationRequest_unknown hup, fun m => exec_associationRequest_refused hup,
      fun m hm hopen hfree hn => ⟨_, exec_associationRequest_admitted hup hm hopen hfree, ?_⟩⟩
    exact ⟨admittedNeigh ch e idle s, admitAssoc_neigh hn, rfl, rfl, rfl, rfl⟩
  case assocIdle => exact fun ch e idle s => exec_associationRequest_idle
  case short => exact fun s ch x => short_ne_freeShort
  case orphan => exact fun ch e s => ⟨fun n => exec_orphanNotification_answered, exec_orphanNotification_ignored⟩
  case released =>
    intro ch a s
    obtain ⟨t, ht, hneigh⟩ := exec_shortAddrReleased_neigh (ch := ch) (s := s) (a := a)
    refine ⟨t, ht, fun n => ?_⟩
    rw [hneigh, List.mem_filter, Bool.not_eq_true', ← addrDue_iff, Bool.not_eq_true]
  case poll =>
    intro ch e s hup hers few
    exact ⟨exec_dataRequest_up hup, fun x _ => goesAtPoll_of_not_block⟩
  case pollDown => exact fun ch e s => exec_dataRequest_down
  case request =>
    intro ch r n s z hn hup bad wide no
    refine ⟨exec_slotRequest_bad hn hup, exec_slotRequest_wide hn hup, exec_slotRequest_full hn hup,
      fun c hok hfits hcell => ⟨_, withSlot s ch r c n.st n, exec_slotRequest_granted hn hup hok hfits hcell, ?_⟩⟩
    exact ⟨neighOn_withSlot hn, rfl, rfl, rfl, withSlot_st, rfl⟩
  case release =>
    intro ch e n s hn hawake
    obtain ⟨t, ht, hx⟩ := exec_slotRelease_neigh hn
    refine ⟨t, _, ht, hx, ?_⟩
    simp [slotGivenUp, hawake]
  case miss =>
    refine fun n s hn => ⟨_, neighOn_countMiss hn, withMisses_missed, fun h3 => ?_, fun h96 => ?_, withMisses_st⟩
    · rw [h3]; rfl
    · rw [h96]; exact ⟨rfl, rfl⟩
  case missed =>
    intro ch e i n s hn a w u hperiod h1 h4 h5 hslot hdone hclosed _
    exact exec_slotMissed_closed hn hperiod ⟨h1, h4, h5⟩ hslot hdone hclosed
  case beacon =>
    intro ch b s hup hrun t us
    exact exec_beaconTransmit_due rfl rfl hup hrun
  case marker =>
    intro ch b n s hup hrun t off
    exact exec_rendezvousSlot_due rfl rfl hup hrun
  case quiet => exact fun ch b n s hno => ⟨exec_beaconTransmit_idle hno, exec_rendezvousSlot_idle hno⟩
  case list =>
    intro h p s hs l
    exact ⟨exec_radioNeighbours_lists hs rfl, exec_radioNeighbours_channel hs⟩

end Sys2Proof.Machine
end

section
/-! A member channel: its parent's beacons, loss, scans and joining (08 R261, R270). -/
namespace Sys2Proof.Machine

section
variable {ch : Fin 16} {s : State} {p : Parent}

/-! A member's registers and parent. -/

theorem rdI_wrI_tidy {f : Fld} {i v : Nat} (x : s.tidy = true) : rdI (wrI f i v s) f i = v % 2 ^ f.width :=
  rdI_wrI_self (tidy_rising x)

theorem parent_modParent {f : Parent → Parent} {c : Nat} (hc : c < s.radio.chans.length) (hp : (chanAt s c).parent = some p) :
    (chanAt (modParent c f s) c).parent = some (f p) := by
  rw [modParent, chanAt_modChan_self hc, hp]
  rfl

/-! BEACON_RECEIVED (08 R261, R270). -/

/-- The depth a beacon or a realignment gives the parent. -/
abbrev heardDepth (b : BeaconIn) (p : Parent) : Nat := if b.realign then p.depth else byteAt b.payload 2

/-- The parent once it is heard. -/
def heardParent (s : State) (ch : Nat) (b : BeaconIn) (p x : Parent) : Parent :=
  { x with
    depth := heardDepth b p
    relays := if b.realign then p.relays else (List.range 4).map (fun k => leAt b.payload (12 + 2 * k) 2)
    lastBeacon := slotNs s + b.sfd, expect := slotNs s + b.sfd + biNs s ch, missed := 0 }

/-- A member channel whose parent is heard. -/
def memberAgain (ch : Nat) (b : BeaconIn) (p : Parent) (s : State) : State :=
  wrI P20.STATE ch 3 (wrI P20.DEPTH ch (heardDepth b p + 1) (modParent ch (heardParent s ch b p) s))

theorem exec_beaconReceived_heard {b : BeaconIn} (hp : (chanAt s ch).parent = some p) (hup : radChanUp s ch = true)
    (hfrom : b.fromParent = true) (hpan : b.panId = rdI s P20.PAN_ID ch) (hst : rdI s P20.STATE ch ∈ [3, 4, 5])
    (htime : rdI s P20.STATE ch = 5 → s.now < p.scanBegan + rdI s P20.ORPHAN_HOLD ch * 60 * 8000) :
    exec (.beaconReceived ch b) s = .next (if rdI s P20.STATE ch = 3 then memberAgain ch b p s
      else logEv evRadioParentFound (leB 1 ch) (memberAgain ch b p s)) := by
  refine congrArg Host.Outcome.next ?_
  simp only [hp]
  refine if_neg ?_
  have hheld : ¬ (rdI s P20.STATE ch = 5 ∧ passed s p.scanBegan (secBeats (rdI s P20.ORPHAN_HOLD ch * 60)) = true) :=
    fun ⟨h5, hpassed⟩ => absurd (passed_iff.mp hpassed) (Nat.not_le.mpr (htime h5))
  simp only [hup, hfrom, hpan, List.contains_iff_mem.mpr hst, hheld]
  simp

theorem memberAgain_tidy {b : BeaconIn} (x : s.tidy = true) : (memberAgain ch b p s).tidy = true :=
  wrI_tidy P20.STATE_known (wrI_tidy P20.DEPTH_known x)

theorem memberAgain_state {b : BeaconIn} (x : s.tidy = true) : rdI (memberAgain ch b p s) P20.STATE ch = 3 :=
  rdI_wrI_tidy (wrI_tidy P20.DEPTH_known x)

theorem memberAgain_depth {b : BeaconIn} (x : s.tidy = true) :
    rdI (memberAgain ch b p s) P20.DEPTH ch = (heardDepth b p + 1) % 256 :=
  (rdI_wrI_other P20.STATE_known P20.DEPTH_known (.inr (.inl (by decide))) (wrI_tidy P20.DEPTH_known x)).trans (rdI_wrI_tidy x)

theorem memberAgain_parent {b : BeaconIn} (hch : ch.val < s.radio.chans.length) (hp : (chanAt s ch).parent = some p) :
    (chanAt (memberAgain ch b p s) ch).parent = some (heardParent s ch b p p) :=
  (congrArg RadChan.parent (chanAt_congr rfl)).trans (parent_modParent hch hp)

/-- Logging an event leaves the fields of the radio's page. -/
theorem rdI_logEv_radio {f : Fld} {c i : Nat} {d : List Byte} (x : s.tidy = true) (hf : f.known) (hpage : f.page = 0x20) :
    rdI (logEv c d s) f i = rdI s f i :=
  logEv_logged.regs x f i hf (by simp [hpage]) (by simp [hpage])

/-! RADIO_PARENT_LOST (08 R270). -/

/-- A member channel that counted a miss. -/
abbrev missCounted (ch : Fin 16) (p : Parent) (s : State) : State :=
  modParent ch (fun x => { x with missed := p.missed + 1, half := beaconHalf s ch p, expect := p.expect + biNs s ch }) s

section
variable (hp : (chanAt s ch).parent = some p)
include hp

theorem exec_radioParentLost_early (hearly : slotNs s < p.expect + beaconHalf s ch p) :
    exec (.radioParentLost ch) s = .next s := by
  refine congrArg Host.Outcome.next ?_
  simp only [hp]
  exact if_pos (.inr (.inl hearly))

variable (hup : radChanUp s ch = true)
include hup

theorem exec_radioParentLost_closed (hclosed : p.expect + beaconHalf s ch p ≤ slotNs s)
    (hst : rdI s P20.STATE ch = 3 ∨ rdI s P20.STATE ch = 4) : exec (.radioParentLost ch) s =
      .next (if rdI s P20.STATE ch = 3 ∧ p.missed + 1 = 3 then logEv evRadioParentLost (leB 1 ch)
        (wrI P20.STATE ch 4 (cancelRelays ch (missCounted ch p s))) else missCounted ch p s) := by
  refine congrArg Host.Outcome.next ?_
  simp only [hp]
  exact if_neg (by obtain h | h := hst <;> simp [hup, hclosed, h])

/-! RADIO_ORPHAN_SCAN (08 R270). -/

/-- A channel's scan is marked with the time. -/
abbrev scanMarked (ch : Fin 16) (s : State) : State := modChan ch (fun x => { x with lastScan := some s.now }) s

theorem exec_radioOrphanScan_begins (hst : rdI s P20.STATE ch = 4) (heighth : 11 ≤ p.missed) :
    exec (.radioOrphanScan ch) s = .next (logEv evRadioOrphanScan (leB 1 ch) (wrI P20.STATE ch 5 (queueScan ch 6
      (scanMarked ch (modParent ch (fun x => { x with scanBegan := s.now }) s))))) := by
  refine congrArg Host.Outcome.next ?_
  simp only [hp]
  exact (if_neg (by simp [hup])).trans (if_pos ⟨hst, heighth⟩)

theorem exec_radioOrphanScan_waits (hst : rdI s P20.STATE ch = 4) (hfew : p.missed < 11) :
    exec (.radioOrphanScan ch) s = .next s := by
  refine congrArg Host.Outcome.next ?_
  simp only [hp]
  exact (if_neg (by simp [hup])).trans ((if_neg (by omega)).trans (if_neg (by simp [hst])))

theorem exec_radioOrphanScan_again (hst : rdI s P20.STATE ch = 5) (hdue : scanDue s (chanAt s ch) = true) :
    exec (.radioOrphanScan ch) s = .next (queueScan ch 6 (scanMarked ch s)) := by
  refine congrArg Host.Outcome.next ?_
  simp only [hp]
  exact (if_neg (by simp [hup])).trans ((if_neg (by simp [hst])).trans (if_pos ⟨hst, hdue⟩))

end

theorem scanDue_iff {c : RadChan} : scanDue s c = true ↔ ∀ a, c.lastScan = some a → a + 60 * 8000 ≤ s.now := by
  cases h : c.lastScan <;> simp [scanDue, h, passed_iff, secBeats]

/-! ORPHAN_HOLD_EXPIRE (08 R270). -/

/-- A held acknowledgement of a channel. -/
def heldAck (ch : Nat) (x : RadTx) : Bool := x.ch == ch && (match x.cargo with
  | .acks _ _ _ => true
  | _ => false)

theorem heldAck_iff {c : Nat} {x : RadTx} : heldAck c x = true ↔ x.ch = c ∧ ∃ m a l, x.cargo = .acks m a l := by
  cases h : x.cargo <;> simp [heldAck, h]

/-- The acknowledgements held on a channel are given up. -/
def acksGivenUp (ch : Nat) (s : State) : State :=
  { s with radio := { s.radio with txq := s.radio.txq.filter (fun x => !heldAck ch x) } }

/-- A channel without its parent and the acknowledgements held for it. -/
def parentGivenUp (ch : Nat) (s : State) : State :=
  modChan ch (fun c => { c with parent := none, lastScan := none }) (acksGivenUp ch s)

theorem mem_parentGivenUp_txq {c : Nat} {x : RadTx} : x ∈ (parentGivenUp c s).radio.txq ↔
    x ∈ s.radio.txq ∧ ¬ (x.ch = c ∧ ∃ m a l, x.cargo = .acks m a l) := by
  rw [← heldAck_iff, Bool.not_eq_true, ← Bool.not_eq_true']
  exact List.mem_filter

theorem parentGivenUp_parent {c : Nat} (hc : c < s.radio.chans.length) : (chanAt (parentGivenUp c s) c).parent = none :=
  congrArg RadChan.parent (chanAt_modChan_self (s := acksGivenUp c s) hc)

theorem exec_orphanHoldExpire_over (hp : (chanAt s ch).parent = some p) (hst : rdI s P20.STATE ch = 5)
    (hover : p.scanBegan + rdI s P20.ORPHAN_HOLD ch * 60 * 8000 ≤ s.now) :
    exec (.orphanHoldExpire ch) s = .next (wrI P20.STATE ch 6 (parentGivenUp ch s)) := by
  refine congrArg Host.Outcome.next ?_
  simp only [hp]
  have hpassed : passed s p.scanBegan (secBeats (rdI s P20.ORPHAN_HOLD ch * 60)) = true := passed_iff.mpr hover
  exact if_neg (by simp [hst, hpassed])

/-! A channel without a parent. -/

theorem exec_member_orphaned {b : BeaconIn} (hp : (chanAt s ch).parent = none) :
    exec (.beaconReceived ch b) s = .next s ∧ exec (.radioParentLost ch) s = .next s ∧
      exec (.radioOrphanScan ch) s = .next s ∧ exec (.orphanHoldExpire ch) s = .next s := by
  refine ⟨congrArg Host.Outcome.next ?_, congrArg Host.Outcome.next ?_, congrArg Host.Outcome.next ?_,
    congrArg Host.Outcome.next ?_⟩ <;> simp only [hp]

/-! RADIO_JOIN (08 R261, R270). -/

theorem exec_radioJoin_no {j : Option JoinIn}
    (hno : radChanUp s ch = false ∨ rdI s P20.ROLE ch = 0 ∨ rdI s P20.STATE ch ≠ 6) :
    exec (.radioJoin ch j) s = .next s :=
  congrArg Host.Outcome.next (if_pos (by grind))

/-- A channel that scanned for a coordinator. -/
abbrev joinScanned (ch : Fin 16) (s : State) : State :=
  modChan ch (fun c => { c with lastScan := some s.now }) (queueScan ch 7 s)

/-- The parent that a coordinator found becomes. -/
def foundParent (s : State) (ch : Nat) (j : JoinIn) : Parent :=
  { ext := j.ext, short := j.short, own := j.own, depth := byteAt j.payload 2
    relays := (List.range 4).map (fun k => leAt j.payload (12 + 2 * k) 2), lastBeacon := slotNs s + j.sfd
    expect := slotNs s + j.sfd + biNs s ch }

section
variable (hup : radChanUp s ch = true) (hrole : rdI s P20.ROLE ch ≠ 0) (hst : rdI s P20.STATE ch = 6)
  (hdue : scanDue s (chanAt s ch) = true)
include hup hrole hst hdue

theorem join_due : ¬ (radChanUp s ch = false ∨ rdI s P20.ROLE ch = 0 ∨ rdI s P20.STATE ch ≠ 6 ∨
    scanDue s (chanAt s ch) = false) := by simp [hup, hrole, hst, hdue]

theorem exec_radioJoin_none : exec (.radioJoin ch none) s = .next (joinScanned ch s) :=
  congrArg Host.Outcome.next (if_neg (join_due hup hrole hst hdue))

theorem exec_radioJoin_found {j : JoinIn} (hpan : j.panId = rdI s P20.PAN_ID ch)
    (hnet : leAt j.payload 0 2 = rdI s P20.NET_ID ch) (hopen : (byteAt j.payload 3).testBit 0 = true) :
    exec (.radioJoin ch (some j)) s = .next (wrI P20.STATE ch 3 (wrI P20.DEPTH ch (byteAt j.payload 2 + 1)
      (modChan ch (fun c => { c with parent := some (foundParent s ch j) }) (joinScanned ch s)))) :=
  congrArg Host.Outcome.next ((if_neg (join_due hup hrole hst hdue)).trans
    (if_neg (by simp only [hpan, hnet, bitAt_eq_testBit, hopen]; simp)))

end

end

/-- Settles O49: the parent's beacon by what it leaves of the channel, every other event by the state the channel is in. -/
theorem radioMemberComplete : Obligations.RadioMemberComplete := by
  refine ⟨?heard, ?lost, ?early, ?scan, ?expire, ?orphaned, ?join, ?noJoin⟩
  case heard =>
    intro ch b p s x hp hup hfrom hpan hst htime hch d
    refine ⟨_, exec_beaconReceived_heard hp hup hfrom hpan hst htime, ?_⟩
    split
    next => exact ⟨memberAgain_state x, memberAgain_depth x, memberAgain_parent hch hp, fun _ => rfl⟩
    next hback =>
      have ht := memberAgain_tidy (ch := ch) (p := p) (b := b) x
      exact ⟨(rdI_logEv_radio ht P20.STATE_known rfl).trans (memberAgain_state x),
        (rdI_logEv_radio ht P20.DEPTH_known rfl).trans (memberAgain_depth x),
        (congrArg RadChan.parent (chanAt_congr logEv_radio)).trans (memberAgain_parent hch hp), fun h3 => absurd h3 hback⟩
  case lost =>
    intro ch p s hp hup w u hclosed
    have hexec := exec_radioParentLost_closed hp hup hclosed
    exact ⟨fun h3 hthird => (hexec (.inl h3)).trans (congrArg _ (if_pos ⟨h3, hthird⟩)),
      fun hst => (hexec (by grind)).trans (congrArg _ (if_neg (by grind)))⟩
  case early => exact fun ch p s => exec_radioParentLost_early
  case scan =>
    intro ch p s r hp hup mark
    exact ⟨exec_radioOrphanScan_begins hp hup,
      fun h5 hdue => exec_radioOrphanScan_again hp hup h5 (scanDue_iff.mpr hdue), exec_radioOrphanScan_waits hp hup⟩
  case expire =>
    intro ch p s x hp hst hover
    refine ⟨_, exec_orphanHoldExpire_over hp hst hover, rdI_wrI_tidy x, fun y => mem_parentGivenUp_txq, fun hch => ?_⟩
    exact (congrArg RadChan.parent (chanAt_congr wrI_radio)).trans (parentGivenUp_parent hch)
  case orphaned => exact fun ch b s => exec_member_orphaned
  case join =>
    intro ch s hup hrole hst hlast u
    have hdue := scanDue_iff.mpr hlast
    exact ⟨exec_radioJoin_none hup hrole hst hdue, fun j hpan hnet hopen =>
      ⟨foundParent s ch j, exec_radioJoin_found hup hrole hst hdue hpan hnet hopen, rfl, rfl, rfl, rfl, rfl⟩⟩
  case noJoin => exact fun ch j s => exec_radioJoin_no

end Sys2Proof.Machine
end

section
/-! The powerline's events (09 R298 to R320) and PLC_ROUTES (09 R321). -/
namespace Sys2Proof.Machine

section
variable {ph : Fin 3} {s : State}

/-! ZERO_CROSSING (09 R298, R299; 07 R237). -/

section
variable {x : Crossing} {b : Nat} {raw stamp e m : Int}

/-- An edge stayed high for ZC_DEGLITCH (09 R298). -/
abbrev staysHigh (s : State) (ph : Fin 3) (x : Crossing) : Prop := rdPh s P21.ZC_DEGLITCH ph * 1000 ≤ x.high

/-- The edge becomes the crossing: high long enough, near the prediction and a good interval `m` after the last (09 R298). -/
abbrev goodEdge (s : State) (ph : Fin 3) (x : Crossing) (m : Int) : Prop :=
  staysHigh s ph x ∧ (m - (phaseAt s ph).period / 65536).natAbs ≤ rdPh s P21.ZC_WINDOW ph * 1000 ∧ intervalOk s ph m = true

/-- A phase whose detector accepted an edge at `e`, an interval `m` after the last. -/
abbrev edgeTaken (ph : Fin 3) (e m : Int) (s : State) : State :=
  modPhase ph (fun q => { q with period := q.period + (m * 65536 - q.period) / 16, lastX := e, fly := 0 }) s

theorem edge_counts (hdet : detects s ph = true) (hhigh : staysHigh s ph x) :
    ¬ (detects s ph = false ∨ x.high < rdPh s P21.ZC_DEGLITCH ph * 1000) := by
  simp [hdet, hhigh]

theorem exec_zeroCrossing_metro (hraw : raw = s.plumb.chain + (b : Nat) * 109227) (hmetro : zcMetro s = true) :
    exec (.zeroCrossing ph b x) s = .next (zcFields (stampCrossing ph raw x (countCrossing ph s))) := by
  subst hraw
  exact congrArg Host.Outcome.next (if_pos hmetro)

section
variable (hmetro : zcMetro s = false)
include hmetro

theorem exec_zeroCrossing_glitch (hlow : ¬ staysHigh s ph x) : exec (.zeroCrossing ph b x) s = .next s :=
  congrArg Host.Outcome.next ((if_neg (by simp [hmetro])).trans (if_pos (.inr (Nat.lt_of_not_le hlow))))

variable (hdet : detects s ph = true)
  (hstamp : stamp = s.plumb.chain + (b : Nat) * 109227 - rdS s P21.ZC_ADJ (ph + 1) * 1000 * 65536) (he : e = stamp / 65536)
include hdet hstamp he

theorem exec_zeroCrossing_candidate (hst : rdPh s P21.STATE ph = 3) (hhigh : staysHigh s ph x) :
    exec (.zeroCrossing ph b x) s = .next (candidate ph e s) := by
  subst he hstamp
  exact congrArg Host.Outcome.next ((if_neg (by simp [hmetro])).trans ((if_neg (edge_counts hdet hhigh)).trans (if_pos hst)))

variable (hm : m = e - (phaseAt s ph).lastX) (hst : rdPh s P21.STATE ph ≠ 3)
include hm hst

/-- Out of ZC_LOST an edge is taken when it is near the prediction and its interval is good. -/
theorem exec_zeroCrossing_edge (hhigh : staysHigh s ph x) : exec (.zeroCrossing ph b x) s =
    .next (if rdPh s P21.ZC_WINDOW ph * 1000 < (m - (phaseAt s ph).period / 65536).natAbs ∨ intervalOk s ph m = false then s
      else cycleWork ph x (stampCrossing ph stamp x (countCrossing ph (periodField ph (edgeTaken ph e m s))))) := by
  subst hm he hstamp
  exact congrArg Host.Outcome.next ((if_neg (by simp [hmetro])).trans ((if_neg (edge_counts hdet hhigh)).trans (if_neg hst)))

theorem exec_zeroCrossing_good (hgood : goodEdge s ph x m) : exec (.zeroCrossing ph b x) s =
    .next (cycleWork ph x (stampCrossing ph stamp x (countCrossing ph (periodField ph (edgeTaken ph e m s))))) := by
  obtain ⟨hhigh, hnear, hint⟩ := hgood
  rw [exec_zeroCrossing_edge hmetro hdet hstamp he hm hst hhigh, if_neg]
  exact not_or.mpr ⟨Nat.not_lt.mpr hnear, by simp [hint]⟩

theorem exec_zeroCrossing_bad (hbad : ¬ goodEdge s ph x m) : exec (.zeroCrossing ph b x) s = .next s := by
  by_cases hhigh : staysHigh s ph x
  · rw [exec_zeroCrossing_edge hmetro hdet hstamp he hm hst hhigh, if_pos]
    rw [← Nat.not_le, ← Bool.not_eq_true, ← not_and_or]
    exact fun hnear => hbad ⟨hhigh, hnear⟩
  · exact exec_zeroCrossing_glitch hmetro hhigh

end

end

/-! FLYWHEEL_CYCLE (09 R298, R299). -/

section
variable {x : Crossing} {next : Int} (hnext : next = (phaseAt s ph).lastX + (phaseAt s ph).period / 65536)
include hnext

theorem exec_flywheelCycle_waits (hno : detects s ph = false ∨ rdPh s P21.STATE ph = 3 ∨
      ¬ next + rdPh s P21.ZC_WINDOW ph * 1000 ≤ chainNs s + 125000) : exec (.flywheelCycle ph x) s = .next s := by
  subst hnext
  exact congrArg Host.Outcome.next (if_pos (hno.imp_right (.imp_right Int.lt_of_not_ge)))

/-- A phase that takes the predicted instant for a cycle. -/
abbrev flywheelTaken (ph : Fin 3) (next : Int) (s : State) : State :=
  modPhase ph (fun q => { q with lastX := next, fly := q.fly + 1 }) (bumpPh P21.ZC_FLYWHEEL ph (countCrossing ph s))

theorem exec_flywheelCycle_late (hdet : detects s ph = true) (hst : rdPh s P21.STATE ph ≠ 3)
    (hlate : next + rdPh s P21.ZC_WINDOW ph * 1000 ≤ chainNs s + 125000) : exec (.flywheelCycle ph x) s =
      .next (if rdPh s P21.ZC_FLY ph ≤ (phaseAt (flywheelTaken ph next s) ph).fly then zcLost ph (flywheelTaken ph next s)
        else cycleWork ph x (flywheelTaken ph next s)) := by
  subst hnext
  exact congrArg Host.Outcome.next (if_neg (not_or.mpr ⟨by simp [hdet], not_or.mpr ⟨hst, Int.not_lt.mpr hlate⟩⟩))

end

/-! PLC_HEADER_DECODED (09 R301 to R303, R308). -/

section
variable {tones : List (Option Nat)} {off start : Int} {bits : List Bool} {f : PlcHdr} {w : List Byte}

/-- A header has the version read here and a length its type allows (09 Table 09-3). -/
abbrev hdrFits (f : PlcHdr) : Prop := f.ctrl / 64 = 1 ∧ (if f.ctrl % 16 = 1 then f.len = 0 else 1 ≤ f.len ∧ f.len ≤ 240)

/-- A frame that needs a place: addressed to the device and no link acknowledgement (09 R308). -/
def wantsPlace (f : PlcHdr) : Bool := f.dest == 0 && f.ctrl % 16 != 1

theorem wantsPlace_iff {f : PlcHdr} : wantsPlace f = true ↔ f.dest = 0 ∧ f.ctrl % 16 ≠ 1 := by simp [wantsPlace]

/-- Den has a place for the frame. -/
abbrev placeFree (s : State) (ph : Fin 3) (f : PlcHdr) : Bool := efTakes s (ph + 18) (1 + (f.len + 15) / 16)

/-- A phase that receives the frame of a header. -/
abbrev rxOpened (ph : Fin 3) (f : PlcHdr) (start : Int) (held : Bool) (s : State) : State :=
  modPhase ph (fun p => { p with rx := some ⟨f, chainNs s + start, held⟩ }) s

/-- A phase that receives the frame of a header, with a place for it where it needs one and there is one. -/
def rxPlaced (ph : Fin 3) (f : PlcHdr) (start : Int) (s : State) : State :=
  if wantsPlace f = true ∧ placeFree s ph f = false
    then bumpPh P21.ACK_WITHHELD ph (rxOpened ph f start (wantsPlace f && placeFree s ph f) s)
    else rxOpened ph f start (wantsPlace f && placeFree s ph f) s

theorem rxPlaced_held (hto : wantsPlace f = true) (hfree : placeFree s ph f = true) :
    rxPlaced ph f start s = rxOpened ph f start true s := by
  simp [rxPlaced, hto, hfree]

theorem rxPlaced_withheld (hto : wantsPlace f = true) (hfull : placeFree s ph f = false) :
    rxPlaced ph f start s = bumpPh P21.ACK_WITHHELD ph (rxOpened ph f start false s) := by
  simp [rxPlaced, hto, hfull]

theorem rxPlaced_other (hto : wantsPlace f = false) : rxPlaced ph f start s = rxOpened ph f start false s := by
  simp [rxPlaced, hto]

variable (hhears : phaseHears s ph = true) (hline : (phaseAt s ph).line = none)
  (hbits : bits = (recvSlots (cycleMasks s ph (commonMasks s ph)) false (fun _ => false) 0 tones).map Prod.fst)
  (hlong : 160 ≤ bits.length)
include hhears hline hbits hlong

theorem header_received : ¬ (phaseHears s ph = false ∨ (phaseAt s ph).line.isSome = true ∨
    ((recvSlots (cycleMasks s ph (commonMasks s ph)) false (fun _ => false) 0 tones).map Prod.fst).length < 160) := by
  subst hbits
  exact not_or.mpr ⟨by simp [hhears], not_or.mpr ⟨by simp [hline], Nat.not_lt.mpr hlong⟩⟩

theorem exec_plcHeaderDecoded_misaligned (hoff : rdPh s P21.ZC_TOL ph * 1000 < off.natAbs) :
    exec (.plcHeaderDecoded ph tones off start) s = .next (bumpPh P21.RX_MISALIGNED ph s) :=
  congrArg Host.Outcome.next ((if_neg (header_received hhears hline hbits hlong)).trans (if_pos hoff))

variable (hoff : off.natAbs ≤ rdPh s P21.ZC_TOL ph * 1000)
include hoff

theorem exec_plcHeaderDecoded_unread (hread : readRobust (bits.take 160) = none) :
    exec (.plcHeaderDecoded ph tones off start) s = .next s := by
  refine congrArg Host.Outcome.next
    ((if_neg (header_received hhears hline hbits hlong)).trans ((if_neg (Nat.not_lt.mpr hoff)).trans ?_))
  simp only [← hbits, hread, Option.map_none]

variable (hread : readRobust (bits.take 160) = some w) (hf : f = parsePlcHdr w)
include hread hf

theorem exec_plcHeaderDecoded_unfit (hfits : ¬ hdrFits f) : exec (.plcHeaderDecoded ph tones off start) s = .next s := by
  refine congrArg Host.Outcome.next
    ((if_neg (header_received hhears hline hbits hlong)).trans ((if_neg (Nat.not_lt.mpr hoff)).trans ?_))
  simp only [← hbits, hread, Option.map_some, ← hf]
  refine if_pos ?_
  grind

theorem exec_plcHeaderDecoded_fits (hfits : hdrFits f) :
    exec (.plcHeaderDecoded ph tones off start) s = .next (rxPlaced ph f start s) := by
  refine congrArg Host.Outcome.next
    ((if_neg (header_received hhears hline hbits hlong)).trans ((if_neg (Nat.not_lt.mpr hoff)).trans ?_))
  simp only [← hbits, hread, Option.map_some, ← hf]
  refine if_neg ?_
  grind

end

/-! PLC_FRAME_RECEIVED (09 R302, R304, R305, R307, R312, R313). -/

section
variable {x : PlcHeard} {r : PlcRx}

/-- A phase whose reception ended. -/
abbrev rxClosed (ph : Fin 3) (s : State) : State := modPhase ph (fun p => { p with rx := none }) s

/-- The map of a received frame is held: the neighbour's, or that of a broadcast. -/
abbrev rxMapped (s : State) (ph : Fin 3) (r : PlcRx) : Prop :=
  mapHeld s ph (linkAt s ph r.hdr.src) r.hdr.mapSeq = true ∨ (r.hdr.dest = 0xFFFF ∧ r.hdr.mapSeq = 0)

/-- The map a received frame came under. -/
abbrev rxMap (s : State) (ph : Fin 3) (r : PlcRx) : ToneMap := mapOfRx s ph (linkAt s ph r.hdr.src) r.hdr.mapSeq

/-- What the tones of a payload decode to. -/
abbrev rxGot (s : State) (ph : Fin 3) (r : PlcRx) (x : PlcHeard) : PlcGot :=
  receivePayload s ph r.hdr.len (rxMap s ph r) x.tones (impulses s ph x.marks)

/-- A phase whose reception ended, with the impulses seen marked. -/
abbrev rxMarked (ph : Fin 3) (r : PlcRx) (x : PlcHeard) (s : State) : State :=
  markImpulses ph r.hdr.src ((impulses s ph x.marks).map Prod.snd) (rxClosed ph s)

/-- A corrected payload is counted. -/
abbrev rxDecoded (ph : Fin 3) (r : PlcRx) (x : PlcHeard) (s : State) : State :=
  if (rxGot s ph r x).corrected then bumpPh P21.RX_RECOVERED ph (rxMarked ph r x s) else rxMarked ph r x s

theorem exec_plcFrameReceived_none (hrx : (phaseAt s ph).rx = none) : exec (.plcFrameReceived ph x) s = .next s := by
  refine congrArg Host.Outcome.next ?_
  simp only [hrx]

section
variable (hrx : (phaseAt s ph).rx = some r)
include hrx

theorem exec_plcFrameReceived_deaf (hdeaf : phaseHears s ph = false) :
    exec (.plcFrameReceived ph x) s = .next (rxClosed ph s) := by
  refine congrArg Host.Outcome.next ?_
  simp only [hrx]
  exact if_pos hdeaf

variable (hhears : phaseHears s ph = true)
include hhears

theorem exec_plcFrameReceived_linkAck (hty : r.hdr.ctrl % 16 = 1) :
    exec (.plcFrameReceived ph x) s = .next (linkAckIn ph r (heardPlc ph (rxClosed ph s))) := by
  refine congrArg Host.Outcome.next ?_
  simp only [hrx]
  exact (if_neg (by simp [hhears])).trans (if_pos hty)

variable (hty : r.hdr.ctrl % 16 ≠ 1)
include hty

theorem exec_plcFrameReceived_unmapped (hmap : ¬ rxMapped s ph r) : exec (.plcFrameReceived ph x) s =
    .next (queueToneMap ph r.hdr.src 1 (bumpPh P21.RX_CRC_FAIL ph (rxClosed ph s))) := by
  refine congrArg Host.Outcome.next ?_
  simp only [hrx]
  rw [not_or, Bool.not_eq_true] at hmap
  exact (if_neg (by simp [hhears])).trans ((if_neg hty).trans (if_pos hmap))

variable (hmap : rxMapped s ph r)
include hmap

/-- A payload under a held map is decoded, then checked. -/
theorem exec_plcFrameReceived_mapped : exec (.plcFrameReceived ph x) s =
    .next (if (rxGot s ph r x).rsOk = false ∨ (rxGot s ph r x).crcOk = false
      then (erasedSegs s ph (rxMap s ph r) x.tones (impulses s ph x.marks)).foldl (fun t g => countFailure ph r.hdr.src g t)
        (bumpPh P21.RX_CRC_FAIL ph (rxMarked ph r x s))
      else if (rxGot s ph r x).payload.length < 14 ∨ micRight s ph (rxGot s ph r x).payload = false ∨ 8 < r.hdr.ctrl % 16
        then bumpPh P21.RX_CRC_FAIL ph (rxDecoded ph r x s)
        else plcChecked ph (r.hdr.ctrl % 16) (rxGot s ph r x).payload r (heardPlc ph (rxDecoded ph r x s))) := by
  refine congrArg Host.Outcome.next ?_
  simp only [hrx]
  have hheld : ¬ (mapHeld s ph (linkAt s ph r.hdr.src) r.hdr.mapSeq = false ∧
      ¬ (r.hdr.dest = 0xFFFF ∧ r.hdr.mapSeq = 0)) := by
    rwa [← Bool.not_eq_true, ← not_or, not_not]
  exact (if_neg (by simp [hhears])).trans ((if_neg hty).trans (if_neg hheld))

variable (hrs : (rxGot s ph r x).rsOk = true) (hcrc : (rxGot s ph r x).crcOk = true)
include hrs hcrc

theorem exec_plcFrameReceived_refused (hbad : micRight s ph (rxGot s ph r x).payload = false ∨ 8 < r.hdr.ctrl % 16 ∨
      (rxGot s ph r x).payload.length < 14) :
    exec (.plcFrameReceived ph x) s = .next (bumpPh P21.RX_CRC_FAIL ph (rxDecoded ph r x s)) := by
  rw [exec_plcFrameReceived_mapped hrx hhears hty hmap, if_neg (by simp [hrs, hcrc]), if_pos (or_assoc.mpr hbad).symm]

theorem exec_plcFrameReceived_checked (hmic : micRight s ph (rxGot s ph r x).payload = true) (htype : r.hdr.ctrl % 16 ≤ 8)
    (hlen : 14 ≤ (rxGot s ph r x).payload.length) : exec (.plcFrameReceived ph x) s =
      .next (plcChecked ph (r.hdr.ctrl % 16) (rxGot s ph r x).payload r (heardPlc ph (rxDecoded ph r x s))) := by
  rw [exec_plcFrameReceived_mapped hrx hhears hty hmap, if_neg (by simp [hrs, hcrc]), if_neg]
  exact not_or.mpr ⟨Nat.not_lt.mpr hlen, not_or.mpr ⟨by simp [hmic], Nat.not_lt.mpr htype⟩⟩

end

end

/-! PLC_LINK_ACK_TIMEOUT (09 R307, R318). -/

theorem exec_plcLinkAckTimeout_idle (hno : (phaseAt s ph).await = none ∨ chainNs s < (phaseAt s ph).awaitAt) :
    exec (.plcLinkAckTimeout ph) s = .next s := by
  refine congrArg Host.Outcome.next ?_
  split
  next => rfl
  next x hx => exact if_pos (hno.resolve_left (by simp [hx]))

/-- A phase that waits for no link acknowledgement. -/
abbrev awaitEnded (ph : Fin 3) (s : State) : State := modPhase ph (fun p => { p with await := none }) s

theorem exec_plcLinkAckTimeout_due {x : PlcTx} (hx : (phaseAt s ph).await = some x)
    (hdue : (phaseAt s ph).awaitAt ≤ chainNs s) :
    exec (.plcLinkAckTimeout ph) s = .next (if x.tries < rdPh s P21.LINK_RETRIES ph
      then requeueFront ph { x with tries := x.tries + 1 } (awaitEnded ph s)
      else rerouted ph x (bumpPh P21.LINK_FAILS ph (modLink ph x.dest (fun y =>
        { y with unacked := if x.type = 0 then (true :: y.unacked).take 16 else y.unacked }) (awaitEnded ph s)))) := by
  refine congrArg Host.Outcome.next ?_
  simp only [hx]
  exact if_neg (Int.not_lt.mpr hdue)

/-! TM_PERIOD_BOUNDARY and TM_BLANK_HOLD_EXPIRE (09 R312 to R314). -/

section
variable {meas : List ToneMeas}

theorem exec_tmPeriodBoundary_due (hhears : phaseHears s ph = true)
    (hdue : (phaseAt s ph).tmAt + rdPh s P21.TM_PERIOD ph * 8000 ≤ s.now) : exec (.tmPeriodBoundary ph meas) s =
      .next ((phaseAt s ph).links.foldl (fun t l => linkPeriod ph meas l t)
        (modPhase ph (fun p => { p with tmAt := s.now }) s)) := by
  have hpassed : passed s (phaseAt s ph).tmAt (secBeats (rdPh s P21.TM_PERIOD ph)) = true := passed_iff.mpr hdue
  exact congrArg Host.Outcome.next (if_neg (by simp [hhears, hpassed]))

theorem exec_tmPeriodBoundary_idle (hno : phaseHears s ph = false ∨
      s.now < (phaseAt s ph).tmAt + rdPh s P21.TM_PERIOD ph * 8000) : exec (.tmPeriodBoundary ph meas) s = .next s :=
  congrArg Host.Outcome.next (if_pos (hno.imp_right fun h =>
    Bool.eq_false_of_not_eq_true (mt passed_iff.mp (Nat.not_le.mpr h))))

theorem exec_tmBlankHoldExpire_linked {a : Nat} {g : Fin 8} (hlink : ∃ l ∈ (phaseAt s ph).links, l.addr = a) :
    exec (.tmBlankHoldExpire ph a g) s = .next (modLink ph a (fun l => { l with
      blanks := l.blanks.filter (fun x =>
        !(x.1 == g.val && decide (x.2 + rdPh s P21.TM_BLANK_HOLD ph * 60 * 8000 ≤ s.now))) }) s) :=
  congrArg Host.Outcome.next (if_pos (by simpa using hlink))

theorem exec_tmBlankHoldExpire_unlinked {a : Nat} {g : Fin 8} (hno : ∀ l ∈ (phaseAt s ph).links, l.addr ≠ a) :
    exec (.tmBlankHoldExpire ph a g) s = .next s :=
  congrArg Host.Outcome.next (if_neg (by simpa using hno))

end

/-! ROUTE_ADVERTISEMENT and ROUTE_AGE_EXPIRE (09 R316, R317). -/

theorem exec_routeAdvertisement_due (hruns : phaseRuns s ph = true)
    (hdue : ∀ t, (phaseAt s ph).advAt = some t → t + rdPh s P21.ADV_PERIOD ph * 8000 ≤ s.now) :
    exec (.routeAdvertisement ph) s = .next (advertise ph s) := by
  refine congrArg Host.Outcome.next (if_pos ?_)
  rw [hruns, Bool.true_and]
  split
  next => rfl
  next t ht => exact passed_iff.mpr (hdue t ht)

theorem exec_routeAdvertisement_idle (hno : phaseRuns s ph = false) : exec (.routeAdvertisement ph) s = .next s :=
  congrArg Host.Outcome.next (if_neg (by simp [hno]))

/-- The path is younger than ROUTE_AGE (09 R317). -/
abbrev youngPath (s : State) (ph : Fin 3) (a : PlcPath) : Bool := decide (s.now < a.at_ + rdPh s P21.ROUTE_AGE ph * 60 * 8000)

theorem youngPath_eq_not_passed {a : PlcPath} :
    youngPath s ph a = !passed s a.at_ (secBeats (rdPh s P21.ROUTE_AGE ph * 60)) := by
  rw [youngPath, passed, ← decide_not]
  exact decide_eq_decide.mpr Nat.not_le.symm

theorem exec_routeAgeExpire {title : Nat} : exec (.routeAgeExpire ph title) s =
    .next (modRoute ph title (fun r => { r with alternate := r.alternate.filter (youngPath s ph) }) s) := by
  refine congrArg Host.Outcome.next (congrArg (modRoute ph title · s) (funext fun r => ?_))
  cases r.alternate with
  | none => rfl
  | some a =>
    rw [Option.filter_some, youngPath_eq_not_passed]
    cases h : passed s a.at_ (secBeats (rdPh s P21.ROUTE_AGE ph * 60)) <;> simp [h]

/-! PLC_ADDR_HOLD_EXPIRE (09 R315). -/

theorem exec_plcAddrHoldExpire {a : Nat} : exec (.plcAddrHoldExpire ph a) s = .next (modPhase ph (fun p =>
    { p with held := p.held.filter (fun x =>
      !(x.1 == a && decide (x.2 + rdPh s P21.ADDR_HOLD ph * 3600 * 8000 ≤ s.now))) }) s) := rfl

/-! TX_ABORT_IMPEDANCE, TRIP_RETRY_EXPIRE and TRIP_BACKOFF_EXPIRE (09 R320). -/

theorem retryWait_bounds : 1 ≤ retryWait s ∧ retryWait s ≤ 4 := by
  unfold retryWait
  omega

theorem exec_txAbortImpedance_idle (hline : (phaseAt s ph).line = none) : exec (.txAbortImpedance ph) s = .next s := by
  refine congrArg Host.Outcome.next ?_
  simp only [hline]

/-- A phase whose frame `f` on the line was aborted, the `n`th in a row, to be started again after `till`. -/
abbrev frameAborted (ph : Fin 3) (f : PlcTx) (n : Nat) (till : Int) (s : State) : State :=
  modPhase ph (fun p => { p with line := none, aborts := n, retryHold := if f.type = 1 then none else some till })
    (bumpPh P21.TX_ABORTS ph (if f.type = 1 then s else drawn (requeueFront ph f s)))

theorem exec_txAbortImpedance_trips {f : PlcTx} {c n : Nat} {till : Int} (hline : (phaseAt s ph).line = some (f, c))
    (hn : n = (phaseAt s ph).aborts + 1) (htill : till = chainNs s + retryWait s * (periodNs s ph / 2)) :
    exec (.txAbortImpedance ph) s = .next (if rdPh s P21.TRIP_LIMIT ph ≤ n
      then logEv evPlcLowImpedance (leB 1 (ph + 1)) (wrPh P21.STATE ph 4 (modPhase ph (fun p =>
        { p with suspended := some s.now, aborts := 0, retryHold := none }) (frameAborted ph f n till s)))
      else frameAborted ph f n till s) := by
  subst hn htill
  refine congrArg Host.Outcome.next ?_
  simp only [hline]

theorem exec_tripRetryExpire_over {t : Int} (hhold : (phaseAt s ph).retryHold = some t) (hover : t ≤ chainNs s) :
    exec (.tripRetryExpire ph) s = .next (modPhase ph (fun p => { p with retryHold := none }) s) :=
  congrArg Host.Outcome.next (if_pos (by simpa [hhold] using hover))

theorem exec_tripRetryExpire_waits (hwaits : ∀ t, (phaseAt s ph).retryHold = some t → chainNs s < t) :
    exec (.tripRetryExpire ph) s = .next s :=
  congrArg Host.Outcome.next (if_neg (by simpa [Option.any_eq_true] using hwaits))

/-- A phase whose suspension ended. -/
abbrev backoffEnded (ph : Fin 3) (s : State) : State := modPhase ph (fun p => { p with suspended := none }) s

theorem exec_tripBackoffExpire_over {t : Nat} (hsusp : (phaseAt s ph).suspended = some t)
    (hover : t + rdPh s P21.TRIP_BACKOFF ph * 8000 ≤ s.now) : exec (.tripBackoffExpire ph) s =
      .next (if rdPh s P21.STATE ph = 4 then wrPh P21.STATE ph 2 (backoffEnded ph s) else backoffEnded ph s) := by
  have hpassed : passed s t (secBeats (rdPh s P21.TRIP_BACKOFF ph)) = true := passed_iff.mpr hover
  refine congrArg Host.Outcome.next ?_
  simp only [hsusp]
  exact if_neg (by simp [hpassed])

/-! PLC_ROUTES (09 R321). -/

section
variable {h : Hdr} {p : List Byte} (hs : Served h p false s)
include hs

theorem exec_plcRoutes_phase (hph : byteAt p 0 = 0 ∨ 3 < byteAt p 0) :
    exec (.plcRoutes h p) s = ended h p stOutOfRange 0 s :=
  congrArg Host.Outcome.next (runCmd_fails hs (if_pos hph))

theorem exec_plcRoutes_lists {l : List (List Byte)} (hl : l = (routeEntries s (byteAt p 0 - 1)).drop (leAt p 2 2))
    (hlow : 1 ≤ byteAt p 0) (hhigh : byteAt p 0 ≤ 3) (hstart : leAt p 2 2 ≤ 2047) :
    exec (.plcRoutes h p) s = answered h p
      (leB 2 (min 170 l.length) ++ leB 2 (if 170 < l.length then leAt p 2 2 + 170 else 0xFFFF) ++ zeros 12
        ++ (l.take 170).flatten) s := by
  subst hl
  rw [← List.length_take]
  exact congrArg Host.Outcome.next (runCmd_done hs ((if_neg (by omega)).trans (if_neg (by omega))))

end

end

/-- Settles O50: each event by the case the phase is in, with the frame's checks in the order of the model. -/
theorem powerlineEventsComplete : Obligations.PowerlineEventsComplete := by
  refine ⟨?crossing, ?flywheel, ?header, ?frame, ?noFrame, ?ackLate, ?ackIdle, ?period, ?blank, ?adv, ?age, ?addr, ?trip,
    ?noTrip, ?retry, ?backoff, ?routes⟩
  case crossing =>
    intro ph b x s r raw z e m high good
    exact ⟨exec_zeroCrossing_metro rfl, fun hmetro hdet hst =>
      ⟨exec_zeroCrossing_good hmetro hdet rfl rfl rfl hst, exec_zeroCrossing_bad hmetro hdet rfl rfl rfl hst⟩,
      fun hmetro hdet => exec_zeroCrossing_candidate hmetro hdet rfl rfl⟩
  case flywheel =>
    intro ph x s r next late u
    refine ⟨fun hdet hst hlate => ?_, exec_flywheelCycle_waits rfl⟩
    have hexec := exec_flywheelCycle_late (x := x) rfl hdet hst hlate
    exact ⟨fun hlost => hexec.trans (congrArg _ (if_pos hlost)),
      fun hruns => hexec.trans (congrArg _ (if_neg (Nat.not_le.mpr hruns)))⟩
  case header =>
    intro ph tones off start s r hhears hline bits hlong
    refine ⟨exec_plcHeaderDecoded_misaligned hhears hline rfl hlong,
      exec_plcHeaderDecoded_unread hhears hline rfl hlong, ?_⟩
    intro w hoff hread f toUs room u fits
    have hexec := exec_plcHeaderDecoded_fits (start := start) hhears hline rfl hlong hoff hread rfl
    exact ⟨exec_plcHeaderDecoded_unfit hhears hline rfl hlong hoff hread rfl,
      fun hfits hto hfree => (hexec hfits).trans (congrArg _ (rxPlaced_held (wantsPlace_iff.mpr hto) hfree)),
      fun hfits hto hfull => (hexec hfits).trans (congrArg _ (rxPlaced_withheld (wantsPlace_iff.mpr hto) hfull)),
      fun hfits hto => (hexec hfits).trans (congrArg _
        (rxPlaced_other (Bool.eq_false_of_not_eq_true (mt wantsPlace_iff.mp hto))))⟩
  case frame =>
    intro ph x r s hrx u ty l mapped m imp f v w done
    refine ⟨exec_plcFrameReceived_deaf hrx, fun hhears => ⟨exec_plcFrameReceived_linkAck hrx hhears,
      exec_plcFrameReceived_unmapped hrx hhears, fun hty hmap hbad => ?_, fun hty hmap hrs hcrc =>
      ⟨exec_plcFrameReceived_refused hrx hhears hty hmap hrs hcrc,
        exec_plcFrameReceived_checked hrx hhears hty hmap hrs hcrc⟩⟩⟩
    exact (exec_plcFrameReceived_mapped hrx hhears hty hmap).trans (congrArg _ (if_pos hbad))
  case noFrame => exact fun ph x s => exec_plcFrameReceived_none
  case ackLate =>
    intro ph x s hx hdue u
    have hexec := exec_plcLinkAckTimeout_due hx hdue
    exact ⟨fun htries => hexec.trans (congrArg _ (if_pos htries)),
      fun htries => hexec.trans (congrArg _ (if_neg (Nat.not_lt.mpr htries)))⟩
  case ackIdle => exact fun ph s => exec_plcLinkAckTimeout_idle
  case period =>
    exact fun ph m s => ⟨exec_tmPeriodBoundary_due, exec_tmPeriodBoundary_idle⟩
  case blank => exact fun ph a g s => ⟨exec_tmBlankHoldExpire_linked, exec_tmBlankHoldExpire_unlinked⟩
  case adv => exact fun ph s => ⟨exec_routeAdvertisement_due, exec_routeAdvertisement_idle⟩
  case age => exact fun ph title s => exec_routeAgeExpire
  case addr => exact fun ph a s => exec_plcAddrHoldExpire
  case trip =>
    intro ph f c s hline n till u
    obtain ⟨hlow, hhigh⟩ := retryWait_bounds (s := s)
    have hexec := exec_txAbortImpedance_trips hline rfl rfl
    exact ⟨hlow, hhigh, fun hfew => hexec.trans (congrArg _ (if_neg (Nat.not_le.mpr hfew))),
      fun hmany => hexec.trans (congrArg _ (if_pos hmany))⟩
  case noTrip => exact fun ph s => exec_txAbortImpedance_idle
  case retry => exact fun ph s => ⟨fun t => exec_tripRetryExpire_over, exec_tripRetryExpire_waits⟩
  case backoff => exact fun ph t s => exec_tripBackoffExpire_over
  case routes =>
    intro h p s hs l
    exact ⟨exec_plcRoutes_lists hs rfl, exec_plcRoutes_phase hs⟩

end Sys2Proof.Machine
end

section
/-! Meter images and campaigns: METER_IMAGE_LOAD, CAMPAIGN_CREATE, CAMPAIGN_CONTROL, CAMPAIGN_STATUS, rounds and the end (10
R347 to R354). -/
namespace Sys2Proof.Machine

section
variable {h : Hdr} {p data eb : List Byte} {acc : Bool} {body : State → Ans} {eff : Eff} {s t : State} {m : MeterImage}
  {c : Camp} {k n : Nat}

/-- A command accepted once its body has brought the state to `t`. -/
theorem runCmd_acceptsIn (hs : Served h p acc s) (hbody : body s = .accept data eb eff t) :
    runCmd h p acc body s = postEntry (commandEntry h p data eb { eff with data := p }) t := by
  rw [runCmd_served hs, hbody]
  rfl

/-! METER_IMAGE_LOAD (10 R347). -/

/-- The image that a block joins; none when the block begins a new one. -/
abbrev joinedImage (p : List Byte) (s : State) : Option MeterImage :=
  if (byteAt p 1).testBit 0 then none else assocGet (byteAt p 0) s.dl.images

/-- The block fits its image number and its length, and no running campaign uses the image. -/
abbrev imageBlockFits (p : List Byte) (s : State) : Prop :=
  byteAt p 0 ≤ 15 ∧ 1 ≤ leAt p 8 4 ∧ leAt p 8 4 ≤ 4194304 ∧ leAt p 4 4 % 4096 = 0 ∧ leAt p 4 4 < leAt p 8 4 ∧
    (p.drop 16).length = min 4096 (leAt p 8 4 - leAt p 4 4) ∧ imageBusy s (byteAt p 0) = false

/-- The image with the block: a new one, or the one held with the block in its place. -/
def imageWithBlock (p : List Byte) : Option MeterImage → MeterImage
  | none => { total := leAt p 8 4, crc := leAt p 12 4, blocks := [(leAt p 4 4, p.drop 16)] }
  | some m => { m with
    blocks := if m.blocks.any (fun b => b.1 == leAt p 4 4) then m.blocks else insPart (leAt p 4 4, p.drop 16) m.blocks }

theorem imageWithBlock_total {o : Option MeterImage} (ho : ∀ m, o = some m → m.total = leAt p 8 4) :
    (imageWithBlock p o).total = leAt p 8 4 := by
  cases o with
  | none => rfl
  | some m => exact ho m rfl

theorem imageWithBlock_blocks : (imageWithBlock p (some m)).blocks =
    if ∃ b ∈ m.blocks, b.1 = leAt p 4 4 then m.blocks else insPart (leAt p 4 4, p.drop 16) m.blocks := by
  simp only [imageWithBlock, List.any_eq_true, beq_iff_eq]

/-- An image is whole and its bytes have another CRC than the one given. -/
abbrev imageCorrupt (p : List Byte) (m : MeterImage) : Prop :=
  lowestMissing 0 m.blocks = leAt p 8 4 ∧ crc32c (assemble 0 m.blocks) ≠ leAt p 12 4

/-- A new image is corrupt when its one block is whole and has another CRC. -/
theorem imageCorrupt_new (htotal : 1 ≤ leAt p 8 4) : imageCorrupt p (imageWithBlock p none) ↔
    (lowestMissing 0 (imageWithBlock p none).blocks = leAt p 8 4 ∧ crc32c (p.drop 16) ≠ leAt p 12 4) := by
  refine and_congr_right fun hfull => ?_
  have hstart : leAt p 4 4 = 0 := by
    by_contra hoff
    simp only [imageWithBlock, lowestMissing, Nat.le_zero, if_neg hoff] at hfull
    omega
  simp only [imageWithBlock, hstart, assemble, Nat.sub_zero, List.drop_zero, List.append_nil]

/-- A block that fits and agrees with the image it joins: held, unless it completes an image that is corrupt. -/
theorem imageLoadBody_fits (hfits : imageBlockFits p s) (hagree : ∀ m, joinedImage p s = some m →
      m.total = leAt p 8 4 ∧ overlapDiff (leAt p 4 4) (p.drop 16) m.blocks = none) :
    imageLoadBody h p s = if imageCorrupt p (imageWithBlock p (joinedImage p s)) then
      .stays (finish h p stAuthFailed 0 [] { s with dl.images := assocDel (byteAt p 0) s.dl.images })
      else .accept (imageReply (imageWithBlock p (joinedImage p s))) [] {}
        { s with dl.images := assocSet (byteAt p 0) (imageWithBlock p (joinedImage p s)) s.dl.images } := by
  obtain ⟨hno, hsome, hmost, haligned, hin, hlen, hfree⟩ := hfits
  have hrange : ¬ (leAt p 8 4 = 0 ∨ 4194304 < leAt p 8 4) := by omega
  have hplace : ¬ (leAt p 4 4 % 4096 ≠ 0 ∨ leAt p 8 4 ≤ leAt p 4 4) := by omega
  simp only [imageLoadBody, if_neg (Nat.not_lt.mpr hno), if_neg hrange, if_neg hplace, if_neg (not_not.mpr hlen), hfree,
    bitAt_eq_testBit, beq_iff_eq]
  cases hold : joinedImage p s with
  | none =>
    simp only [hold, imageCorrupt_new hsome]
    rfl
  | some m =>
    obtain ⟨htotal, hsame⟩ := hagree m hold
    simp only [hold, if_neg (not_not.mpr htotal), hsame, Option.isSome_none, Bool.false_eq_true, if_false]
    rfl

/-! CAMPAIGN_CREATE (10 R348; 12 R414). -/

/-- The meters that a campaign selects: those of the selection with a local way. -/
abbrev campSelection (p : List Byte) (s : State) : List Nat :=
  (selected10 s ((byteAt p 1).testBit 0) (leAt p 4 4) (leAt p 8 4)).filter (hasLocalWay s)

/-- The checks of R348 on a campaign over image `m`. -/
structure CampaignAdmitted (p : List Byte) (s : State) (m : MeterImage) : Prop where
  entropy : s.keys.entropyBad = false
  image : assocGet (byteAt p 0) s.dl.images = some m
  whole : lowestMissing 0 m.blocks = m.total
  size : 128 ≤ leAt p 2 2 ∧ leAt p 2 2 ≤ 1024 ∧ leAt p 2 2 % 16 = 0
  blocks : ceilDiv m.total (leAt p 2 2) ≤ 4096
  deadline : leAt p 12 5 < leAt p 17 5 ∧ legalSec s < leAt p 17 5
  room : (s.dl.camps.filter (fun c => decide (c.st ≤ 3))).length < 4
  meters : campSelection p s ≠ [] ∧ (campSelection p s).length ≤ 65536
  slot : campSlotOk s (leAt p 28 2) = true
  rounds : 1 ≤ leAt p 30 2 ∧ leAt p 30 2 ≤ 1000

/-- The campaign that CAMPAIGN_CREATE adds. -/
def newCampaign (p : List Byte) (s : State) (m : MeterImage) : Camp :=
  { no := s.dl.nextCamp, image := byteAt p 0, unicast := (byteAt p 1).testBit 1, blockSize := leAt p 2 2,
    start := leAt p 12 5, deadline := leAt p 17 5, activateAt := leAt p 22 5, keySlot := leAt p 28 2, maxRounds := leAt p 30 2,
    meterType := leAt p 32 4, version := leAt p 36 4, length := m.total, crc := m.crc,
    count := ceilDiv m.total (leAt p 2 2), meters := (campSelection p s).map (fun x => { mix := x }) }

/-- A slot filled with a fresh campaign key. -/
def freshlyFilled (s : State) (k : KeySlot) : KeySlot :=
  { k with
    loaded := true, key := freshKey s, origin := .generated, gen := (k.gen + 1) % 65536, filledAt := legalSec s, jobs := 0 }

/-- A table of slots with one slot filled freshly. -/
def filledSlots (n : Nat) (s : State) (l : List (Nat × KeySlot)) : List (Nat × KeySlot) :=
  mapIf (fun x => x.1 == n) (fun x => (x.1, freshlyFilled s x.2)) l

/-- The state with the campaign added and its key slot filled. -/
def withCampaign (h : Hdr) (p : List Byte) (m : MeterImage) (s : State) : State :=
  keyFields { drawn s with
    dl := { s.dl with camps := s.dl.camps ++ [newCampaign p s m], nextCamp := s.dl.nextCamp + 1 },
    keys := { s.keys with
      slots := filledSlots (leAt p 28 2) s s.keys.slots, store := filledSlots (leAt p 28 2) s s.keys.store,
      replaced := s.keys.replaced ++ [(leAt p 28 2, h, assocGet (leAt p 28 2) s.keys.store)] } }

theorem campaignCreateBody_entropy (hbad : s.keys.entropyBad = true) :
    campaignCreateBody h p s = .fail stFuncFailed 0x0040 := if_pos hbad

theorem campaignCreateBody_admitted (ok : CampaignAdmitted p s m) : campaignCreateBody h p s = .stays (postGroup
    [commandEntry h p (leB 4 s.dl.nextCamp ++ leB 4 (campSelection p s).length) [] { data := p },
      stepEntry 1 0 s.dl.nextCamp 0 0 0 0 p] (withCampaign h p m s)) := by
  have himage : (assocGet (byteAt p 0) s.dl.images).filter (fun m => lowestMissing 0 m.blocks == m.total) = some m := by
    simp [ok.image, ok.whole]
  have hsize : ¬ (leAt p 2 2 < 128 ∨ 1024 < leAt p 2 2 ∨ leAt p 2 2 % 16 ≠ 0) := by
    have := ok.size
    omega
  have hdead : ¬ (leAt p 17 5 ≤ leAt p 12 5 ∨ leAt p 17 5 ≤ legalSec s) := by
    have := ok.deadline
    omega
  have hrounds : ¬ (leAt p 30 2 = 0 ∨ 1000 < leAt p 30 2) := by
    have := ok.rounds
    omega
  simp only [campaignCreateBody, ok.entropy, himage, if_neg hsize, if_neg (Nat.not_lt.mpr ok.blocks), if_neg hdead,
    if_neg (Nat.not_le.mpr ok.room), bitAt_eq_testBit, if_neg (Nat.not_lt.mpr ok.meters.2), List.isEmpty_iff,
    if_neg ok.meters.1, ok.slot, if_neg hrounds, Bool.false_eq_true, if_false, Bool.true_eq_false]
  rfl

/-- A filled slot is the slot that was there, filled. -/
theorem assocGet_filledSlots {l : List (Nat × KeySlot)} :
    assocGet n (filledSlots n s l) = (assocGet n l).map (freshlyFilled s) := by
  induction l with
  | nil => rfl
  | cons x l ih =>
    obtain ⟨j, y⟩ := x
    by_cases hj : n = j
    · simp [filledSlots, mapIf, assocGet, hj]
    · have hskip : ¬ j = n := fun e => hj e.symm
      simpa [filledSlots, mapIf, assocGet, hj, hskip] using ih

/-- A slot for campaign keys is one that stands. -/
theorem campSlotOk_stands (hok : campSlotOk s n = true) : ∃ k, assocGet n s.keys.slots = some k := by
  cases hk : assocGet n s.keys.slots with
  | none => simp [campSlotOk, hk] at hok
  | some k => exact ⟨k, rfl⟩

/-- The campaign's slot is loaded with the fresh key. -/
theorem withCampaign_slot (hok : campSlotOk s (leAt p 28 2) = true) :
    ∃ k, assocGet (leAt p 28 2) (withCampaign h p m s).keys.slots = some k ∧ k.loaded = true ∧ k.key = freshKey s := by
  obtain ⟨k, hk⟩ := campSlotOk_stands hok
  refine ⟨freshlyFilled s k, ?_, rfl, rfl⟩
  have hslots : (withCampaign h p m s).keys.slots = filledSlots (leAt p 28 2) s s.keys.slots := rfl
  rw [hslots, assocGet_filledSlots, hk, Option.map_some]

theorem newCampaign_mixes : (newCampaign p s m).meters.map CampMeter.mix = campSelection p s := by
  simp [newCampaign, Function.comp_def]

/-! CAMPAIGN_CONTROL (10 R353). -/

/-- The COMMAND entry of a command whose reply data are a state byte. -/
abbrev stateEntry (h : Hdr) (p : List Byte) (n : Nat) : Entry :=
  commandEntry h p (leB 1 n ++ zeros 7) [] { data := p }

theorem campaignControlBody_unknown (hc : fwCamp s (leAt p 0 4) = none) :
    campaignControlBody h p s = .fail stUnknownObject 0 := by
  simp only [campaignControlBody, hc]

/-- An ended campaign takes no action, one being aborted only abort. -/
theorem campaignControlBody_denied (hc : fwCamp s (leAt p 0 4) = some c)
    (hdenied : c.st = 4 ∨ c.st = 5 ∧ (byteAt p 4 ≠ 3 ∨ ∀ m ∈ c.meters, 5 ≤ m.st)) :
    campaignControlBody h p s = .fail stDeniedState 0 := by
  have hover : campEnded c = true ∨ c.st = 5 ∧ byteAt p 4 ≠ 3 := by
    simp only [campEnded, meterOver, Bool.or_eq_true, Bool.and_eq_true, beq_iff_eq, List.all_eq_true, decide_eq_true_eq]
    tauto
  simp only [campaignControlBody, hc, if_pos hover]

/-- A campaign that may be controlled: its action is in force already, or is recorded with what it cancels. -/
theorem campaignControlBody_allowed (hc : fwCamp s (leAt p 0 4) = some c)
    (hallowed : ¬ (campEnded c = true ∨ c.st = 5 ∧ byteAt p 4 ≠ 3)) (hlow : 1 ≤ byteAt p 4) (hhigh : byteAt p 4 ≤ 4) :
    (controlHeld c (byteAt p 4) = true → campaignControlBody h p s = .stays (postEntry (stateEntry h p c.st) s)) ∧
    (controlHeld c (byteAt p 4) = false →
      (byteAt p 4 ≠ 3 → campaignControlBody h p s = .stays (postGroup
        [stateEntry h p (controlState s c (byteAt p 4)), stepEntry 2 0 c.no (byteAt p 4) 0 c.round 0 []] s)) ∧
      (byteAt p 4 = 3 →
        let l := s.dl.items.filter (fun i => i.owner == .campaign c.no && i.st == 1 && i.posted == 0)
        campaignControlBody h p s = .stays (postGroup (stateEntry h p (controlState s c (byteAt p 4)) ::
          stepEntry 2 0 c.no (byteAt p 4) 0 c.round 0 [] :: l.map (fun i => cancelEntry i 3))
          (l.foldl (fun t i => markPosted i.no 4 t) s)))) := by
  have haction : ¬ (byteAt p 4 = 0 ∨ 4 < byteAt p 4) := by omega
  simp only [campaignControlBody, hc, if_neg hallowed, if_neg haction]
  refine ⟨fun hheld => by simp only [hheld, if_true], fun hnew => ?_⟩
  simp only [hnew]
  exact ⟨fun hother => by simp only [if_neg hother]; rfl, fun habort => by simp only [if_pos habort]; rfl⟩

/-- A campaign that neither has ended nor is being aborted may be controlled. -/
theorem control_allowed_open (hst : c.st < 4) : ¬ (campEnded c = true ∨ c.st = 5 ∧ k ≠ 3) := by
  have hfour : c.st ≠ 4 := by omega
  have hfive : c.st ≠ 5 := by omega
  simp [campEnded, hfour, hfive]

/-- A campaign being aborted that some meter has not left may be aborted again. -/
theorem control_allowed_aborting (hst : c.st = 5) (hk : k = 3) (hopen : ∃ m ∈ c.meters, m.st < 5) :
    ¬ (campEnded c = true ∨ c.st = 5 ∧ k ≠ 3) := by
  simpa [campEnded, meterOver, hst, hk] using hopen

/-! CAMPAIGN_STATUS, rounds and the end (10 R350, R352, R354). -/

/-- The reply of CAMPAIGN_STATUS from a meter on. -/
def campaignReply (c : Camp) (from_ : Nat) : List Byte :=
  let l := c.meters.drop from_
  let n := fun f : Nat → Bool => leB 4 (c.meters.filter (fun m => f m.st)).length
  leB 4 c.no ++ leB 1 (if c.st = 0 then 1 else c.st) ++ leB 1 (min 255 c.round) ++ [0, 0] ++ leB 4 c.meters.length
    ++ n (fun x => x == 2) ++ n (fun x => x == 3 || x == 4) ++ n (fun x => x == 5) ++ n (fun x => decide (6 ≤ x))
    ++ leB 4 (if 509 < l.length then from_ + 509 else 0xFFFFFFFF) ++ ((l.take 509).map (campMeterBytes c)).flatten

theorem exec_campaignStatus_known (hs : Served h p false s) (hc : fwCamp s (leAt p 0 4) = some c) :
    exec (.campaignStatus h p) s = answered h p (campaignReply c (leAt p 4 4)) s :=
  congrArg Host.Outcome.next (runCmd_done hs (by simp only [hc]; rfl))

theorem exec_campaignStatus_unknown (hs : Served h p false s) (hc : fwCamp s (leAt p 0 4) = none) :
    exec (.campaignStatus h p) s = ended h p stUnknownObject 0 s :=
  congrArg Host.Outcome.next (runCmd_fails hs (by simp only [hc]))

/-- CAMPAIGN_ROUND by the state of its campaign. -/
theorem exec_campaignRound (hc : fwCamp s n = some c) : exec (.campaignRound n) s = .next
    (if granted s .campaign = false then s
      else if c.st = 1 ∧ c.start ≤ legalSec s then startCampaign c (spend .campaign s)
      else if c.st ≠ 2 ∨ c.sending = true ∨ queriesOpen s c = true then s
      else beginRound c (spend .campaign s)) := by
  change execCampaignRound n s = _
  simp only [execCampaignRound, hc]

theorem exec_campaignRound_starts (hc : fwCamp s n = some c) (hgrant : granted s .campaign = true) (hst : c.st = 1)
    (hstart : c.start ≤ legalSec s) : exec (.campaignRound n) s = .next (startCampaign c (spend .campaign s)) := by
  rw [exec_campaignRound hc, if_neg (by simp [hgrant]), if_pos ⟨hst, hstart⟩]

theorem exec_campaignRound_begins (hc : fwCamp s n = some c) (hgrant : granted s .campaign = true) (hst : c.st = 2)
    (hidle : c.sending = false) (hquery : queriesOpen s c = false) :
    exec (.campaignRound n) s = .next (beginRound c (spend .campaign s)) := by
  rw [exec_campaignRound hc, if_neg (by simp [hgrant]), if_neg (by simp [hst]), if_neg (by simp [hst, hidle, hquery])]

theorem exec_campaignRound_waits (hc : fwCamp s n = some c)
    (hwait : granted s .campaign = false ∨ c.st ≠ 1 ∧ c.st ≠ 2 ∨ c.st = 1 ∧ legalSec s < c.start) :
    exec (.campaignRound n) s = .next s := by
  by_cases hgrant : granted s .campaign = false
  · rw [exec_campaignRound hc, if_pos hgrant]
  · have hstart : ¬ (c.st = 1 ∧ c.start ≤ legalSec s) := by
      rintro ⟨hone, hdue⟩
      obtain hno | ⟨hst, -⟩ | ⟨-, hearly⟩ := hwait
      · exact hgrant hno
      · exact hst hone
      · exact Nat.not_le.mpr hearly hdue
    have hround : c.st ≠ 2 := by
      obtain hno | ⟨-, hst⟩ | ⟨hone, -⟩ := hwait
      · exact absurd hno hgrant
      · exact hst
      · omega
    rw [exec_campaignRound hc, if_neg hgrant, if_neg hstart, if_pos (.inl hround)]

/-- ROUND_WAIT_EXPIRE begins the next round ROUND_WAIT after the last block. -/
theorem exec_roundWaitExpire_begins {b : Nat} (hc : fwCamp s n = some c) (hgrant : granted s .campaign = true)
    (hlast : c.lastBlock = some b) (hst : c.st = 2) (hidle : c.sending = false)
    (hdue : b + rd s P60.ROUND_WAIT * 60 * 8000 ≤ s.now) :
    exec (.roundWaitExpire n) s = .next (beginRound c (spend .campaign s)) := by
  have hpassed : passed s b (secBeats (rd s P60.ROUND_WAIT * 60)) = true := passed_iff.mpr hdue
  change execRoundWaitExpire n s = _
  simp only [execRoundWaitExpire, hc, hlast, if_pos (⟨hst, hidle, hgrant, hpassed⟩ : _ ∧ _ ∧ _ ∧ _)]

theorem exec_roundWaitExpire_waits (hc : fwCamp s n = some c)
    (hwait : granted s .campaign = false ∨ c.lastBlock = none ∨ c.st ≠ 2 ∨ c.sending = true) :
    exec (.roundWaitExpire n) s = .next s := by
  change execRoundWaitExpire n s = _
  cases hlast : c.lastBlock with
  | none => simp only [execRoundWaitExpire, hc, hlast]
  | some b =>
    have hnot : ¬ (c.st = 2 ∧ c.sending = false ∧ granted s .campaign = true ∧
        passed s b (secBeats (rd s P60.ROUND_WAIT * 60)) = true) := by
      rintro ⟨hst, hidle, hgrant, -⟩
      simp [hst, hidle, hgrant, hlast] at hwait
    simp only [execRoundWaitExpire, hc, hlast, if_neg hnot]

/-- At DEADLINE every meter that has not come to its end expires, and the campaign ends. -/
theorem exec_campaignEnded_due (hc : fwCamp s n = some c) (hlow : 1 ≤ c.st) (hhigh : c.st ≤ 3)
    (hdue : c.deadline ≤ legalSec s) : exec (.campaignEnded n) s = .next (endCampaign c 4
      ((c.meters.filter (fun m => decide (m.st < 5))).foldl (fun t m => meterStep10 c m 7 0 [] t) s)) := by
  have hopen : (fun m : CampMeter => !meterOver m) = fun m => decide (m.st < 5) := funext fun m => by
    rw [meterOver, ← decide_not, decide_eq_decide]
    exact Nat.not_le
  have hends : ¬ (c.st = 0 ∨ 3 < c.st ∨ legalSec s < c.deadline) := by omega
  change execCampaignEnded n s = _
  simp only [execCampaignEnded, hc, if_neg hends, hopen]

theorem exec_campaignEnded_waits (hc : fwCamp s n = some c) (hwait : c.st = 0 ∨ 3 < c.st ∨ legalSec s < c.deadline) :
    exec (.campaignEnded n) s = .next s := by
  change execCampaignEnded n s = _
  simp only [execCampaignEnded, hc, if_pos hwait]

theorem exec_campaignTimes_unknown (hc : fwCamp s n = none) : exec (.campaignRound n) s = .next s ∧
    exec (.roundWaitExpire n) s = .next s ∧ exec (.campaignEnded n) s = .next s := by
  refine ⟨?_, ?_, ?_⟩
  · change execCampaignRound n s = _
    simp only [execCampaignRound, hc]
  · change execRoundWaitExpire n s = _
    simp only [execRoundWaitExpire, hc]
  · change execCampaignEnded n s = _
    simp only [execCampaignEnded, hc]

end

/-- Settles O52: each command by the checks its payload passes, a held block by the image it joins, each event by the
state of its campaign. -/
theorem campaignsComplete : Obligations.CampaignsComplete := by
  refine ⟨fun h p s hs => ⟨?load, ?bad, ?create⟩, ?control, ?noControl, ?status, ?rounds,
    fun n s => exec_campaignTimes_unknown⟩
  case load =>
    intro no off total d old hno hsome hmost haligned hin hlen hfree hagree
    have hbody := imageLoadBody_fits (h := h) ⟨hno, hsome, hmost, haligned, hin, hlen, hfree⟩ hagree
    refine ⟨imageWithBlock p old, ?_, fun hnew => ?_, fun x hx => ?_, fun hfull hcrc => ?_, fun hok => ?_⟩
    · exact imageWithBlock_total fun m hm => (hagree m hm).1
    · rw [hnew]
      exact ⟨rfl, rfl⟩
    · rw [hx]
      exact ⟨rfl, imageWithBlock_blocks⟩
    · exact congrArg Host.Outcome.next (runCmd_stays hs (hbody.trans (if_pos ⟨hfull, hcrc⟩)))
    · exact congrArg Host.Outcome.next (runCmd_acceptsIn hs (hbody.trans (if_neg hok)))
  case bad => exact fun hbad => congrArg Host.Outcome.next (runCmd_fails hs (campaignCreateBody_entropy hbad))
  case create =>
    intro m hentropy himage hwhole hsmall hlarge haligned hblocks hstart hdead hroom hsel hmany hslot hlow hhigh
    have ok : CampaignAdmitted p s m := ⟨hentropy, himage, hwhole, ⟨hsmall, hlarge, haligned⟩, hblocks, ⟨hstart, hdead⟩,
      hroom, ⟨hsel, hmany⟩, hslot, ⟨hlow, hhigh⟩⟩
    obtain ⟨k, hk, hloaded, hkey⟩ := withCampaign_slot (h := h) (m := m) hslot
    exact ⟨withCampaign h p m s, newCampaign p s m, k,
      congrArg Host.Outcome.next (runCmd_stays hs (campaignCreateBody_admitted ok)), rfl, rfl, rfl, rfl, rfl, rfl,
      newCampaign_mixes, hk, hloaded, hkey⟩
  case control =>
    intro h p c s r hs hc a e
    have stays : ∀ {t}, campaignControlBody h p s = .stays t → r = .next t := fun hbody =>
      congrArg Host.Outcome.next (runCmd_stays hs hbody)
    refine ⟨fun hdenied => congrArg Host.Outcome.next (runCmd_fails hs (campaignControlBody_denied hc hdenied)),
      fun hst ha hopen => ?_, fun hst hlow hhigh => ?_⟩
    · have hthree : byteAt p 4 = 3 := ha
      obtain ⟨hheld, -⟩ := campaignControlBody_allowed (h := h) hc (control_allowed_aborting hst ha hopen) (by omega)
        (by omega)
      have hin : controlHeld c a = true := by simp [controlHeld, hst, ha]
      exact stays (hst ▸ hheld hin)
    · obtain ⟨hheld, hnew⟩ := campaignControlBody_allowed (h := h) hc (control_allowed_open hst) hlow hhigh
      exact ⟨fun hin => stays (hheld hin), fun hout ha => stays ((hnew hout).1 ha), fun hout ha => stays ((hnew hout).2 ha)⟩
  case noControl =>
    exact fun h p s hs hc => congrArg Host.Outcome.next (runCmd_fails hs (campaignControlBody_unknown hc))
  case status => exact fun h p s hs => ⟨fun c hc => exec_campaignStatus_known hs hc, exec_campaignStatus_unknown hs⟩
  case rounds =>
    intro n c s r hc
    exact ⟨fun hgrant => ⟨exec_campaignRound_starts hc hgrant, exec_campaignRound_begins hc hgrant,
        fun t hlast hst hidle => exec_roundWaitExpire_begins hc hgrant hlast hst hidle⟩,
      exec_campaignRound_waits hc, exec_roundWaitExpire_waits hc, exec_campaignEnded_due hc, exec_campaignEnded_waits hc⟩

end Sys2Proof.Machine
end

section
/-! Updates of the device's own firmware: IMAGE_BEGIN to IMAGE_STATUS, their effects, and trial boots (10 R356 to R365). -/
namespace Sys2Proof.Machine

section
variable {h : Hdr} {p data : List Byte} {sig : Bool} {s t : State} {c d k n : Nat} {x : FwComp} {f : FwComp → FwComp}

/-! Components and slots (10 R356, R357). -/

theorem compAt_congr (hdl : t.dl = s.dl) : compAt t c = compAt s c := by
  rw [compAt, compAt, hdl]

@[simp] theorem logEv_dl {b : List Byte} : (logEv k b s).dl = s.dl := by rw [logEv_logged.rest]

theorem compAt_modComp_self (hc : c < s.dl.comps.length) : compAt (modComp c f s) c = f (compAt s c) := by
  simp [compAt, modComp, hc]

theorem compAt_modComp_ne (hne : k ≠ c) : compAt (modComp c f s) k = compAt s k := by
  simp [compAt, modComp, List.getElem?_set_ne hne.symm]

/-- A component with two slots: what its idle slot is made stands in it. -/
theorem idle_modIdle {g : FwSlot → FwSlot} (hactive : x.active < 2) (hslots : x.slots.length = 2) :
    (x.modIdle g).idle = g x.idle := by
  have hplace : 1 - x.active < x.slots.length := by omega
  simp only [FwComp.modIdle, FwComp.idle, List.getD_eq_getElem?_getD, List.getElem?_set_self hplace, Option.getD_some]

/-! IMAGE_BEGIN (10 R357, R363). -/

theorem legalRule_other (hc : c ≠ 4) : legalRule s c = none := if_pos hc

theorem legalRule_open (hmode : rd s P60.LEGAL_UPD_MODE ≠ 0) (hseal : rd s P30.SEAL_STATE ≠ 0) : legalRule s c = none := by
  simp [legalRule, rdB_of_ne_zero hmode, rdB_of_ne_zero hseal]

/-- A component of Table 10-12 and a length within its largest image. -/
abbrev imageFits (p : List Byte) : Prop :=
  byteAt p 0 ≤ 4 ∧ 1 ≤ leAt p 4 4 ∧ leAt p 4 4 ≤ largestImage (byteAt p 0)

theorem imageBeginBody_component (hc : 4 < byteAt p 0) : imageBeginBody h p s = .fail stOutOfRange 0 := if_pos hc

theorem imageBeginBody_busy (hfits : imageFits p)
    (hst : (compAt s (byteAt p 0)).idle.st = 3 ∨ (compAt s (byteAt p 0)).idle.st = 4) :
    imageBeginBody h p s = .fail stDeniedState 0 := by
  obtain ⟨hc, hsome, hmost⟩ := hfits
  have hlen : ¬ (leAt p 4 4 = 0 ∨ largestImage (byteAt p 0) < leAt p 4 4) := by omega
  exact (if_neg (Nat.not_lt.mpr hc)).trans ((if_neg hlen).trans (if_pos hst))

/-- An image that fits its component, into a slot that is free for it: the rules of component 4 decide. -/
theorem imageBeginBody_free (hfits : imageFits p) (hpending : (compAt s (byteAt p 0)).idle.st ≠ 3)
    (htrial : (compAt s (byteAt p 0)).idle.st ≠ 4) :
    (∀ x d, legalRule s (byteAt p 0) = some (x, d) → imageBeginBody h p s = .fail x d) ∧
    (legalRule s (byteAt p 0) = none → ¬ (byteAt p 0 = 4 ∧ version10 p ≤ version10 (activeHead s 4)) →
      imageBeginBody h p s = .accept (leB 4 s.dl.nextUpdate ++ leB 1 (1 - (compAt s (byteAt p 0)).active) ++ zeros 3) p
        { cmd := some (.imageBegin h p), args := [s.dl.nextUpdate] } { s with dl.nextUpdate := s.dl.nextUpdate + 1 }) := by
  obtain ⟨hc, hsome, hmost⟩ := hfits
  have hlen : ¬ (leAt p 4 4 = 0 ∨ largestImage (byteAt p 0) < leAt p 4 4) := by omega
  have hfree : ¬ ((compAt s (byteAt p 0)).idle.st = 3 ∨ (compAt s (byteAt p 0)).idle.st = 4) := not_or.mpr ⟨hpending, htrial⟩
  simp only [imageBeginBody, if_neg (Nat.not_lt.mpr hc), if_neg hlen, if_neg hfree]
  exact ⟨fun x d hrule => by simp only [hrule], fun hrule hnewer => by simp only [hrule, if_neg hnewer]⟩

theorem legalRule_locked (hc : c = 4) (hmode : rd s P60.LEGAL_UPD_MODE = 0) : legalRule s c = some (stDeniedLegal, 0) := by
  simp [legalRule, hc, rdB_eq_false.mpr hmode]

theorem legalRule_sealed (hc : c = 4) (hmode : rd s P60.LEGAL_UPD_MODE ≠ 0) (hseal : rd s P30.SEAL_STATE = 0) :
    legalRule s c = some (stDeniedSeal, 0) := by
  simp [legalRule, hc, rdB_of_ne_zero hmode, rdB_eq_false.mpr hseal]

/-! IMAGE_BLOCK and IMAGE_COMMIT (10 R358, R359). -/

theorem exec_imageBlock_unknown (hs : Served h p true s) (hc : updateOf s (leAt p 0 4) = none) :
    exec (.imageBlock h p) s = ended h p stUnknownObject 0 s :=
  congrArg Host.Outcome.next (runCmd_fails hs (by simp only [imageBlockBody, hc]))

theorem exec_imageCommit_unknown (hs : Served h p true s) (hc : updateOf s (leAt p 0 4) = none) :
    exec (.imageCommit h p sig) s = ended h p stUnknownObject 0 s :=
  congrArg Host.Outcome.next (runCmd_fails hs (by simp only [imageCommitBody, hc]))

/-- The blocks of an open update with one more, unless one stands at its offset. -/
abbrev blocksWith (off : Nat) (b : List Byte) (bs : List (Nat × List Byte)) : List (Nat × List Byte) :=
  if bs.any (fun x => x.1 == off) then bs else insPart (off, b) bs

theorem imageBlockBody_outside (hc : updateOf s (leAt p 0 4) = some c)
    (hout : leAt p 4 4 % 4096 ≠ 0 ∨ updateLen s c ≤ leAt p 4 4) : imageBlockBody p s = .fail stOutOfRange 32 := by
  simp only [imageBlockBody, hc, if_pos hout]

/-- A whole block inside the image: its CRC and the bytes already held decide. -/
theorem imageBlockBody_inside (hc : updateOf s (leAt p 0 4) = some c) (haligned : leAt p 4 4 % 4096 = 0)
    (hin : leAt p 4 4 < updateLen s c) :
    let b := (p.drop 16).take (updateLen s c - leAt p 4 4)
    let bs := (compAt s c).idle.blocks
    let y := blocksWith (leAt p 4 4) b bs
    (leAt p 8 4 ≠ crc32c (p.drop 16) → imageBlockBody p s = .fail stBadPayload 8) ∧
    (leAt p 8 4 = crc32c (p.drop 16) → overlapDiff (leAt p 4 4) b bs = none → imageBlockBody p s =
      .accept (leB 4 (heldFrom 0 y) ++ leB 4 (lowestMissing 0 y)) [] {}
        (modComp c (FwComp.modIdle (fun x => { x with blocks := y })) s)) := by
  have hplace : ¬ (leAt p 4 4 % 4096 ≠ 0 ∨ updateLen s c ≤ leAt p 4 4) := by omega
  simp only [imageBlockBody, hc, if_neg hplace]
  refine ⟨fun hcrc => if_pos hcrc, fun hcrc hsame => ?_⟩
  simp only [if_neg (not_not.mpr hcrc), hsame, Option.isSome_none, Bool.false_eq_true, if_false]

/-- The P-256 steps that the verification of an image takes. -/
theorem verifySteps_eq : ceilDiv (48 + n) 98304 = (48 + n + 98303) / 98304 := by
  unfold ceilDiv
  omega

/-- IMAGE_COMMIT of an open update that the rules of component 4 let pass: the bytes held, then the signature decide. -/
theorem imageCommitBody_open (hc : updateOf s (leAt p 0 4) = some c) (hrule : legalRule s c = none) :
    let t := postP256 ((48 + updateLen s c + 98303) / 98304 + 17) s
    (lowestMissing 0 (compAt s c).idle.blocks < updateLen s c → imageCommitBody h p sig s = .fail stDeniedState 0) ∧
    (updateLen s c ≤ lowestMissing 0 (compAt s c).idle.blocks →
      imageCommitBody h p true s = .accept (leB 4 (leAt p 0 4) ++ leB 1 (1 - (compAt s c).active) ++ zeros 3) p
        { cmd := some (.imageCommit h p true), args := [c] } t ∧
      imageCommitBody h p false s = .stays (finish h p stAuthFailed 0 []
        (modComp c (fun x => { x.modIdle (fun _ => {}) with openId := 0 }) t))) := by
  simp only [imageCommitBody, hc, hrule, verifySteps_eq]
  refine ⟨fun hmissing => if_pos hmissing, fun hwhole => ?_⟩
  simp only [if_neg (Nat.not_lt.mpr hwhole), if_true, Bool.false_eq_true, if_false, and_self]

/-! IMAGE_ACTIVATE (10 R360, R361, R363). -/

theorem imageActivateBody_mask
    (hm : byteAt p 0 % 32 = 0 ∨ ((byteAt p 0 % 32).testBit 4 = true ∧ byteAt p 0 % 32 ≠ 16)) :
    imageActivateBody h p s = .fail stBadPayload 0 := by
  simp only [imageActivateBody, bitAt_eq_testBit, if_pos hm]

/-- A set of committed, consistent components is accepted while no other is pending or on trial. -/
theorem imageActivateBody_set (hsome : byteAt p 0 % 32 ≠ 0)
    (halone : (byteAt p 0 % 32).testBit 4 = true → byteAt p 0 % 32 = 16 ∧ legalRule s 4 = none)
    (hpending : s.dl.pendingMask = 0) (htrial : s.dl.trialMask = 0)
    (hcommitted : ∀ c, c < 5 → (byteAt p 0 % 32).testBit c = true → (compAt s c).idle.st = 2)
    (hpair : badPair s (byteAt p 0 % 32) = none) : imageActivateBody h p s =
      .accept (leB 1 (byteAt p 0 % 32) ++ zeros 7) p { cmd := some (.imageActivate h p) } s := by
  have hmask : ¬ (byteAt p 0 % 32 = 0 ∨ (byteAt p 0 % 32).testBit 4 = true ∧ byteAt p 0 % 32 ≠ 16) := by
    rintro (hnone | ⟨hlegal, hmore⟩)
    · exact hsome hnone
    · exact hmore (halone hlegal).1
  have hfree : ¬ (s.dl.pendingMask ≠ 0 ∨ s.dl.trialMask ≠ 0) := by simp [hpending, htrial]
  have hall : (List.range 5).find? (fun c => (byteAt p 0 % 32).testBit c && (compAt s c).idle.st != 2) = none := by
    simpa using hcommitted
  have hrule : (if (byteAt p 0 % 32).testBit 4 = true then legalRule s 4 else none) = none := by
    split
    next hlegal => exact (halone hlegal).2
    next => rfl
  simp only [imageActivateBody, bitAt_eq_testBit, if_neg hmask, if_neg hfree, hall, hpair, hrule]

/-! What the commands' effects leave of a component (10 R357, R359, R361). -/

/-- A component whose idle slot is changed and whose open update is set; the others stand. -/
theorem compAt_modIdle {g : FwSlot → FwSlot} (hc : c < s.dl.comps.length) (hactive : (compAt s c).active < 2)
    (hslots : (compAt s c).slots.length = 2) :
    let t := modComp c (fun x => { x.modIdle g with openId := n }) s
    (compAt t c).openId = n ∧ (compAt t c).idle = g (compAt s c).idle ∧ (compAt t c).active = (compAt s c).active ∧
      ∀ k, k ≠ c → compAt t k = compAt s k := by
  intro t
  have hself : compAt t c = { (compAt s c).modIdle g with openId := n } := compAt_modComp_self hc
  rw [hself]
  exact ⟨rfl, idle_modIdle hactive hslots, rfl, fun k hne => compAt_modComp_ne hne⟩

/-- IMAGE_BEGIN's effect opens its update in the idle slot; what it logs leaves the components alone. -/
theorem applyEffect_imageBegin : ∃ u, u.dl = s.dl ∧ applyEffect ⟨some (.imageBegin h p), [n], p⟩ s =
    modComp (byteAt p 0) (fun x => { x.modIdle (fun _ => { st := 1, begin_ := p }) with openId := n }) u := by
  refine ⟨if (compAt s (byteAt p 0)).openId = 0 then s else logEv evUpdateAbandoned [] s, ?_, rfl⟩
  split
  · rfl
  · exact logEv_dl

theorem markSet_pendingMask : (markSet d k s).dl.pendingMask = s.dl.pendingMask :=
  foldl_keeps (part := fun t => t.dl.pendingMask) fun u y => by split <;> rfl

theorem applyEffect_imageActivate : (applyEffect ⟨some (.imageActivate h p), [], p⟩ s).dl.pendingMask = byteAt p 0 % 32 := by
  change (effImageActivate _ s).dl.pendingMask = _
  unfold effImageActivate
  dsimp only
  split
  · exact markSet_pendingMask
  · exact markSet_pendingMask

/-! Trial boots (10 R362). -/

/-- A component confirmed: its idle slot becomes active, and the other stays as its fallback. -/
def swapSlots (x : FwComp) : FwComp :=
  let y := x.modIdle (fun z => { z with st := 0 })
  { y with active := 1 - x.active, slots := y.slots.set x.active { y.slots.getD x.active {} with st := 2 } }

/-- The state with the slots of every component of the trial set exchanged. -/
def swapTrial (s : State) : State := (maskComps s.dl.trialMask).foldl (fun t c => modComp c swapSlots t) s

/-- A change of each component of a list, once each. -/
theorem compAt_foldl_modComp {l : List Nat} (hl : l.Nodup) (hk : k < s.dl.comps.length) :
    compAt (l.foldl (fun t c => modComp c f t) s) k = if k ∈ l then f (compAt s k) else compAt s k := by
  induction l generalizing s with
  | nil => rfl
  | cons c l ih =>
    obtain ⟨hc, hl⟩ := List.nodup_cons.mp hl
    rw [List.foldl_cons, ih hl (by simpa [modComp] using hk)]
    by_cases hkc : k = c
    · subst hkc
      rw [if_neg hc, compAt_modComp_self hk, if_pos List.mem_cons_self]
    · simp only [compAt_modComp_ne hkc, List.mem_cons, hkc, false_or]

theorem mem_maskComps : c ∈ maskComps n ↔ c < 5 ∧ n.testBit c = true := by
  simp [maskComps, bitAt_eq_testBit]

theorem maskComps_nodup : (maskComps n).Nodup := List.nodup_range.filter _

theorem swapTrial_active (hc : c < 5) (hin : c < s.dl.comps.length) : (compAt (swapTrial s) c).active =
    if s.dl.trialMask.testBit c then 1 - (compAt s c).active else (compAt s c).active := by
  rw [swapTrial, compAt_foldl_modComp maskComps_nodup hin]
  simp only [mem_maskComps, hc, true_and]
  split <;> rfl

/-- The state after a confirmation, before it is logged. -/
def confirmedState (s : State) : State :=
  wr P60.BOOT_TRIES 0 { swapTrial s with dl := { (swapTrial s).dl with trialMask := 0, rolledBack := false } }

theorem exec_updateConfirmed_due {b : Nat} (htrial : s.dl.trialMask ≠ 0) (hrun : running s = true)
    (hat : s.dl.runAt = some b) (hdue : b + rd s P60.CONFIRM_S * 8000 ≤ s.now) :
    exec .updateConfirmed s = .next (logEv evUpdateConfirmed [] (confirmedState s)) := by
  have hpassed : passed s b (secBeats (rd s P60.CONFIRM_S)) = true := passed_iff.mpr hdue
  change execUpdateConfirmed s = _
  have hconfirms : ¬ (s.dl.trialMask = 0 ∨ running s = false ∨ passed s b (secBeats (rd s P60.CONFIRM_S)) = false) := by
    simp [htrial, hrun, hpassed]
  simp only [execUpdateConfirmed, hat, if_neg hconfirms]
  rfl

theorem exec_updateConfirmed_none (htrial : s.dl.trialMask = 0) : exec .updateConfirmed s = .next s :=
  congrArg Host.Outcome.next (if_pos (.inl htrial))

theorem confirmedState_bootTries (htidy : s.tidy = true) :
    rd (logEv evUpdateConfirmed [] (confirmedState s)) P60.BOOT_TRIES = 0 := by
  have hregs : (swapTrial s).regs = s.regs := foldl_keeps (part := State.regs) fun _ _ => rfl
  have hmem : (swapTrial s).mem = s.mem := foldl_keeps (part := State.mem) fun _ _ => rfl
  have hswap :
      State.tidy { swapTrial s with dl := { (swapTrial s).dl with trialMask := 0, rolledBack := false } } = true := by
    simpa only [State.tidy, hregs, hmem] using htidy
  rw [confirmedState, rd_logEv (wr_tidy P60.BOOT_TRIES_known hswap) P60.BOOT_TRIES_known (by decide), rd_wr_self hswap]
  rfl

/-- A boot on trial that its window has passed is cut off. -/
theorem exec_bootWindowExpire {b : Nat} {i : Fin 5} (hat : s.dl.bootAt = some b) : exec (.bootWindowExpire i) s = .next
    (if s.dl.trialMask.testBit i = true ∧ b + rd s P60.BOOT_WINDOW * 8000 ≤ s.now then deviceReset 4 s else s) := by
  change execBootWindowExpire i s = _
  simp only [execBootWindowExpire, hat, bitAt_eq_testBit, passed_iff, secBeats]

end

/-- Settles O53: each command by the checks its payload passes, each effect by the component it changes, a trial set by the
slots it exchanges. -/
theorem firmwareUpdateComplete : Obligations.FirmwareUpdateComplete := by
  refine ⟨?begin_, fun h p s hs hc => ⟨exec_imageBlock_unknown hs hc, fun sig => exec_imageCommit_unknown hs hc⟩, ?block,
    ?commit, ?activate, fun h p s hs => congrArg Host.Outcome.next (runCmd_done hs rfl), ?begun, ?committed,
    fun h p s => applyEffect_imageActivate, ?confirmed, fun s => exec_updateConfirmed_none, ?window⟩
  case begin_ =>
    intro h p s r hs c st
    have fails : ∀ {x d}, imageBeginBody h p s = .fail x d → r = ended h p x d s := fun hbody =>
      congrArg Host.Outcome.next (runCmd_fails hs hbody)
    refine ⟨fun hc => fails (imageBeginBody_component hc), fun hc hsome hmost hpending htrial => ?_,
      fun hc hsome hmost hbusy => fails (imageBeginBody_busy ⟨hc, hsome, hmost⟩ hbusy)⟩
    obtain ⟨hdenied, hgranted⟩ := imageBeginBody_free (h := h) ⟨hc, hsome, hmost⟩ hpending htrial
    refine ⟨fun hfour hmode => fails (hdenied _ _ (legalRule_locked hfour hmode)),
      fun hfour hmode hseal => fails (hdenied _ _ (legalRule_sealed hfour hmode hseal)), fun hlegal => ?_⟩
    have hrule : legalRule s c = none := by
      by_cases hfour : c = 4
      · obtain ⟨hmode, hseal, -⟩ := hlegal hfour
        exact legalRule_open hmode hseal
      · exact legalRule_other hfour
    exact congrArg Host.Outcome.next (runCmd_acceptsIn hs (hgranted hrule fun ⟨hfour, hold⟩ =>
      Nat.not_lt.mpr hold (hlegal hfour).2.2))
  case block =>
    intro h p c s r hs hc off d bs y
    refine ⟨fun haligned hin => ?_,
      fun hout => congrArg Host.Outcome.next (runCmd_fails hs (imageBlockBody_outside hc hout))⟩
    obtain ⟨hbad, hheld⟩ := imageBlockBody_inside hc haligned hin
    exact ⟨fun hcrc => congrArg Host.Outcome.next (runCmd_fails hs (hbad hcrc)),
      fun hcrc hsame => congrArg Host.Outcome.next (runCmd_acceptsIn hs (hheld hcrc hsame))⟩
  case commit =>
    intro h p c s hs hc hrule t
    refine ⟨fun hmissing sig => congrArg Host.Outcome.next (runCmd_fails hs ((imageCommitBody_open hc hrule).1 hmissing)),
      fun hwhole => ?_⟩
    obtain ⟨hgood, hbad⟩ := (imageCommitBody_open (h := h) (sig := true) hc hrule).2 hwhole
    exact ⟨congrArg Host.Outcome.next (runCmd_acceptsIn hs hgood), congrArg Host.Outcome.next (runCmd_stays hs hbad)⟩
  case activate =>
    intro h p s hs m
    exact ⟨fun hm => congrArg Host.Outcome.next (runCmd_fails hs (imageActivateBody_mask hm)),
      fun hsome halone hpending htrial hcommitted hpair => congrArg Host.Outcome.next (runCmd_acceptsIn hs
        (imageActivateBody_set hsome halone hpending htrial hcommitted hpair))⟩
  case begun =>
    intro h p n s c t hc hactive hslots
    obtain ⟨u, hdl, ht⟩ : ∃ u : State, u.dl = s.dl ∧ t = _ := applyEffect_imageBegin
    have hsame : ∀ k, compAt u k = compAt s k := fun k => compAt_congr hdl
    rw [ht]
    simpa only [hsame] using compAt_modIdle (s := u) (n := n) (g := fun _ => { st := 1, begin_ := p }) (hdl ▸ hc)
      (hsame c ▸ hactive) (hsame c ▸ hslots)
  case committed =>
    intro h p sig c s t hc hactive hslots
    obtain ⟨hopen, hidle, -, hother⟩ := compAt_modIdle (n := 0) (g := fun y => { y with st := 2 }) hc hactive hslots
    exact ⟨hopen, hidle, hother⟩
  case confirmed =>
    intro b s htrial hmode hat hdue
    refine ⟨_, exec_updateConfirmed_due htrial (running_of_mode hmode) hat hdue, ?_, ?_, confirmedState_bootTries,
      fun c hc hin => ?_⟩
    · rw [logEv_dl]
      rfl
    · rw [logEv_dl]
      rfl
    · rw [compAt_congr logEv_dl]
      exact swapTrial_active hc hin
  case window =>
    intro i b s hat
    refine ⟨fun htrial hdue => (exec_bootWindowExpire hat).trans (congrArg _ (if_pos ⟨htrial, hdue⟩)), fun hwait => ?_⟩
    refine (exec_bootWindowExpire hat).trans (congrArg _ (if_neg fun hcut => ?_))
    obtain ⟨htrial, hdue⟩ := hcut
    obtain hno | hearly := hwait
    · simp [hno] at htrial
    · exact Nat.not_le.mpr hearly hdue

end Sys2Proof.Machine
end

section
/-! Downlink items and tariff pushes: DL_QUEUE, DL_URGENT, DL_STATUS, DL_CANCEL, TARIFF_PUSH, dispatch, resending and expiry
(10 R328 to R345). -/
namespace Sys2Proof.Machine

section
variable {h : Hdr} {p : List Byte} {urgent : Bool} {s : State} {m w : Meter} {i : DlItem} {x : Push} {mix n k d : Nat}

/-! DL_QUEUE and DL_URGENT (10 R329, R340). -/

/-- The meter that an item is for. -/
abbrev itemMix (p : List Byte) : Nat := leAt p 0 4 % 2 ^ 20

/-- The item that DL_QUEUE or DL_URGENT adds. -/
def newItem (p : List Byte) (urgent : Bool) (s : State) : DlItem :=
  { no := s.dl.nextItem, mix := itemMix p, urgent := urgent, cmd := byteAt p 4, way := byteAt p 5 % 4,
    expiry := if leAt p 8 5 = 0 then legalSec s + rd s P60.DL_LIFE * 3600 else leAt p 8 5,
    max := if byteAt p 13 = 0 then rd s P60.DL_ATTEMPTS else byteAt p 13, hostRef := leAt p 16 8, body := p.drop 24 }

/-- The COMMAND entry of a command whose reply data are filled in when its group is sealed. -/
abbrev filledEntry (h : Hdr) (p : List Byte) : Entry := { commandEntry h p (zeros 8) [] { data := p } with fill := 1 }

/-- A command and a way that an item may have. -/
abbrev itemHeaded (p : List Byte) : Prop := byteAt p 4 < 0xF0 ∧ byteAt p 5 % 4 ≠ 3

/-- The meter and the store have a place for one more item. -/
abbrev itemRoomy (p : List Byte) (s : State) : Prop :=
  openItems s (itemMix p) < rd s P60.DL_PER_METER ∧ (s.dl.items.filter itemOpen).length < 65536

/-- An urgent item of a meter that has no other one open. -/
abbrev firstUrgent (p : List Byte) (urgent : Bool) (s : State) : Prop :=
  urgent = true ∧ ∀ x ∈ s.dl.items, x.mix = itemMix p → x.urgent = true → itemOpen x = false

theorem firstUrgent_iff : firstUrgent p urgent s ↔
    (urgent && !(s.dl.items.any (fun x => x.mix == itemMix p && x.urgent && itemOpen x))) = true := by
  simp

theorem exec_dlQueue_urgent : exec (if urgent then .dlUrgent h p else .dlQueue h p) s =
    .next (runCmd h p true (dlQueueBody urgent h p) s) := by
  cases urgent <;> rfl

theorem dlQueueBody_unknown (hm : meterAt s (itemMix p) = none) : dlQueueBody urgent h p s = .fail stUnknownObject 0 := by
  simp only [dlQueueBody, hm]

theorem dlQueueBody_command (hm : meterAt s (itemMix p) = some m) (hcmd : 0xF0 ≤ byteAt p 4) :
    dlQueueBody urgent h p s = .fail stBadPayload 4 := by
  simp only [dlQueueBody, hm, if_pos hcmd]

theorem dlQueueBody_expired (hm : meterAt s (itemMix p) = some m) (hhead : itemHeaded p) (hset : leAt p 8 5 ≠ 0)
    (hpast : leAt p 8 5 ≤ legalSec s) : dlQueueBody urgent h p s = .fail stOutOfRange 64 := by
  simp only [dlQueueBody, hm, if_neg (Nat.not_le.mpr hhead.1), if_neg hhead.2, if_pos (And.intro hset hpast)]

/-- An item that is not past its expiry: refused without a place, else added, and sealed at once when it is the meter's first
urgent one and can be sealed. -/
theorem dlQueueBody_current (hm : meterAt s (itemMix p) = some m) (hhead : itemHeaded p)
    (hexp : leAt p 8 5 = 0 ∨ legalSec s < leAt p 8 5) :
    let i := newItem p urgent s
    let q := dlEntry 1 (itemMix p) 0 0 (byteAt p 4) 0 0 0 p s.dl.nextItem false
    let u := addItem i s
    (¬ itemRoomy p s → dlQueueBody urgent h p s = .fail stNoResource 0x1201) ∧
    (itemRoomy p s →
      (¬ firstUrgent p urgent s ∨ sealFor s (itemMix p) = none →
        dlQueueBody urgent h p s = .stays (postGroup [filledEntry h p, q] u)) ∧
      (∀ w, firstUrgent p urgent s → sealFor s (itemMix p) = some w →
        let y := sealItem u w i (nextDlc s (itemMix p)) true
        dlQueueBody urgent h p s = .stays (postGroup [filledEntry h p, q, y.1]
          (modItem i.no (fun _ => y.2) (takeLane w y.2 (takeDlc (itemMix p) u)))))) := by
  have hcurrent : ¬ (leAt p 8 5 ≠ 0 ∧ leAt p 8 5 ≤ legalSec s) := by omega
  simp only [dlQueueBody, hm, if_neg (Nat.not_le.mpr hhead.1), if_neg hhead.2, if_neg hcurrent]
  refine ⟨fun hfull => if_pos ((not_and_or.mp hfull).imp Nat.not_lt.mp Nat.not_lt.mp), fun hroom => ?_⟩
  have hplace : ¬ (rd s P60.DL_PER_METER ≤ openItems s (itemMix p) ∨ 65536 ≤ (s.dl.items.filter itemOpen).length) :=
    not_or.mpr ⟨Nat.not_le.mpr hroom.1, Nat.not_le.mpr hroom.2⟩
  simp only [if_neg hplace, firstUrgent_iff]
  refine ⟨fun hlater => ?_, fun w hfirst hseal => ?_⟩
  · obtain hother | hnone := hlater
    · cases hseal : sealFor s (itemMix p) with
      | none => rfl
      | some w => exact if_neg hother
    · simp only [hnone]
      rfl
  · simp only [hseal, if_pos hfirst]
    rfl

/-! DL_STATUS and DL_CANCEL (10 R341, R342). -/

theorem exec_dlStatus_item (hs : Served h p false s) (hi : itemOf s (leAt p 0 8) = some i) :
    exec (.dlStatus h p) s = answered h p (itemBytes i) s :=
  congrArg Host.Outcome.next (runCmd_done hs (by simp only [hi]))

/-- The state bytes of a push. -/
def pushBytes (x : Push) : List Byte :=
  leB 1 (if pushRuns x then 0x10 else 0x11) ++ [0, 0, 0] ++ leB 4 x.meters.length ++ leB 4 (pushCount x 3)
    ++ leB 4 (pushCount x 4) ++ leB 4 (pushCount x 5) ++ leB 4 (pushCount x 2) ++ zeros 8

theorem exec_dlStatus_push (hs : Served h p false s) (hi : itemOf s (leAt p 0 8) = none)
    (hx : pushOf s (leAt p 0 8) = some x) : exec (.dlStatus h p) s = answered h p (pushBytes x) s :=
  congrArg Host.Outcome.next (runCmd_done hs (by simp only [hi, hx]; rfl))

theorem exec_dlStatus_unknown (hs : Served h p false s) (hi : itemOf s (leAt p 0 8) = none)
    (hx : pushOf s (leAt p 0 8) = none) : exec (.dlStatus h p) s = ended h p stUnknownObject 0 s :=
  congrArg Host.Outcome.next (runCmd_fails hs (by simp only [hi, hx]))

theorem dlCancelBody_sent (hi : itemOf s (leAt p 0 8) = some i) (hst : i.st = 2) :
    dlCancelBody h p s = .fail stDeniedState 0 := by
  simp only [dlCancelBody, hi, if_pos (Or.inl hst : i.st = 2 ∨ i.posted = 2)]

theorem dlCancelBody_queued (hi : itemOf s (leAt p 0 8) = some i) (hst : i.st = 1) (hposted : i.posted = 0) :
    dlCancelBody h p s = .stays (postGroup [stateEntry h p 4, cancelEntry i 1] (markPosted i.no 4 s)) := by
  have hsent : ¬ (i.st = 2 ∨ i.posted = 2) := by omega
  simp only [dlCancelBody, hi, if_neg hsent, if_pos (And.intro hst hposted)]

theorem dlCancelBody_final (hi : itemOf s (leAt p 0 8) = some i) (hst : 3 ≤ i.st) (hposted : i.posted = 0) :
    dlCancelBody h p s = .stays (postEntry (stateEntry h p i.st) s) := by
  have hsent : ¬ (i.st = 2 ∨ i.posted = 2) := by omega
  have hqueued : ¬ (i.st = 1 ∧ i.posted = 0) := by omega
  simp only [dlCancelBody, hi, if_neg hsent, if_neg hqueued, if_pos hposted]

theorem dlCancelBody_push (hi : itemOf s (leAt p 0 8) = none) (hx : pushOf s (leAt p 0 8) = some x) :
    let l := s.dl.items.filter (fun i => i.owner == .push x.no && i.st == 1 && i.posted == 0)
    let sent := s.dl.items.any (fun i => i.owner == .push x.no && (i.st == 2 || i.posted == 2))
    dlCancelBody h p s = .stays (postGroup
      (stateEntry h p (if sent then 0x10 else 0x11) :: l.map (fun i => cancelEntry i 3))
      (l.foldl (fun t i => markPosted i.no 4 t) { s with
        dl.pushes := mapIf (fun y => y.no == x.no) (fun y => { y with cancelled := true }) s.dl.pushes })) := by
  simp only [dlCancelBody, hi, hx]

theorem dlCancelBody_unknown (hi : itemOf s (leAt p 0 8) = none) (hx : pushOf s (leAt p 0 8) = none) :
    dlCancelBody h p s = .fail stUnknownObject 0 := by
  simp only [dlCancelBody, hi, hx]

/-! TARIFF_PUSH (10 R344, R345). -/

/-- The meters that a push selects. -/
abbrev pushSelection (p : List Byte) (s : State) : List Nat :=
  selected10 s ((byteAt p 14).testBit 0) (leAt p 0 4) (leAt p 4 4)

theorem tariffPushBody_table (hbad : tableBad p = some (k, d)) : tariffPushBody h p s = .fail k d := by
  simp only [tariffPushBody, hbad]

theorem tariffPushBody_past (hgood : tableBad p = none) (hpast : leAt p 8 5 ≤ legalSec s) :
    tariffPushBody h p s = .fail stOutOfRange 64 := by
  simp only [tariffPushBody, hgood, if_pos hpast]

/-- A good table with an activation to come: legal time and the selection decide. -/
theorem tariffPushBody_future (hgood : tableBad p = none) (hfuture : legalSec s < leAt p 8 5) :
    (rd s P03.LEGAL_INVALID ≠ 0 ∨ pushSelection p s = [] → tariffPushBody h p s = .fail stDeniedState 0) ∧
    (rd s P03.LEGAL_INVALID = 0 → pushSelection p s ≠ [] → tariffPushBody h p s =
      .stays (postGroup [filledEntry h p, dlEntry 7 0 0 0 0 0 0 0 p s.dl.nextPush false] { s with
        dl.nextPush := s.dl.nextPush + 1
        dl.pushes := s.dl.pushes ++ [⟨s.dl.nextPush, 0, leAt p 8 5, byteAt p 13, p.drop 16, false, false,
          (pushSelection p s).map (fun m => (m, 1))⟩] })) := by
  simp only [tariffPushBody, hgood, if_neg (Nat.not_le.mpr hfuture), bitAt_eq_testBit, rdB_eq_true]
  exact ⟨fun hdenied => if_pos hdenied, fun hvalid hsome => if_neg (not_or.mpr ⟨not_not.mpr hvalid, hsome⟩)⟩

/-! Dispatch (10 R330, R331, R340). -/

/-- The task whose thread dispatches items of a class. -/
abbrev dispatchTask (urgent : Bool) : Task := if urgent then .dlUrgent else .dlQueued

theorem exec_dlDispatch_seals (hi : nextItem s mix urgent = some i) (hw : sealFor s mix = some w)
    (hm : meterAt s mix ≠ none) (hgrant : granted s (dispatchTask urgent) = true) :
    let y := sealItem s w i (nextDlc s mix) false
    exec (.dlDispatch mix urgent) s = .next (postEntry y.1 (modItem i.no (fun _ => y.2)
      (takeLane w y.2 (takeDlc mix (spend (dispatchTask urgent) s))))) := by
  have hgo : ¬ ((meterAt s mix).isNone = true ∨ granted s (dispatchTask urgent) = false) := by
    simp [hgrant, Option.isNone_iff_eq_none, hm]
  change execDlDispatch mix urgent s = _
  simp only [execDlDispatch, hi, hw, if_neg hgo]

theorem exec_dlDispatch_waits (hwait : nextItem s mix urgent = none ∨ sealFor s mix = none ∨ meterAt s mix = none ∨
    granted s (dispatchTask urgent) = false) : exec (.dlDispatch mix urgent) s = .next s := by
  change execDlDispatch mix urgent s = _
  unfold execDlDispatch
  cases hi : nextItem s mix urgent with
  | none => rfl
  | some i =>
    cases hw : sealFor s mix with
    | none => rfl
    | some w =>
      have hstop : (meterAt s mix).isNone = true ∨ granted s (dispatchTask urgent) = false := by
        simpa [hi, hw, Option.isNone_iff_eq_none] using hwait
      exact congrArg Host.Outcome.next (if_pos hstop)

theorem nextDlc_takeDlc_self : nextDlc (takeDlc mix s) mix = nextDlc s mix + 1 := by
  simp only [nextDlc, takeDlc, assocGet_assocSet_self, Option.getD_some]

theorem nextDlc_takeDlc_ne (hne : n ≠ mix) : nextDlc (takeDlc mix s) n = nextDlc s n := by
  simp only [nextDlc, takeDlc, assocGet_assocSet_ne hne]

/-! Resending and expiry (10 R328, R335). -/

/-- A sent item may go again: DL_RESEND has passed since its last transmission, or its meter sleeps. -/
abbrev resendDue (i : DlItem) (s : State) : Prop :=
  (∀ t, i.lastTx = some t → t + rd s P60.DL_RESEND * 8000 ≤ s.now) ∨
    ∃ ch nb, wayFor s i.way i.mix = .direct ch ∧ neighOn s ch (titleOf s i.mix) = some nb ∧ nb.st ≠ 1

theorem exec_dlResendExpire_due (hi : itemOf s n = some i) (hst : i.st = 2) (hposted : i.posted = 0)
    (hway : wayFor s i.way i.mix ≠ .host) (hdue : resendDue i s) : exec (.dlResendExpire n) s =
      .next (if i.max ≤ i.made then expireItem i 2 s else transmitItem i s) := by
  change execDlResendExpire n s = _
  simp only [execDlResendExpire, hi, hst, hposted, hway]
  cases hlast : i.lastTx with
  | none => simp
  | some t =>
    obtain hpassed | ⟨ch, nb, hdirect, hnb, hsleepy⟩ := hdue
    · have hlate : passed s t (secBeats (rd s P60.DL_RESEND)) = true := passed_iff.mpr (hpassed t hlast)
      simp [hlate]
    · simp [hdirect, hnb, sleepy, hsleepy]

theorem exec_dlResendExpire_other (hi : itemOf s n = some i) (hst : i.st ≠ 2) : exec (.dlResendExpire n) s = .next s := by
  change execDlResendExpire n s = _
  simp only [execDlResendExpire, hi, hst, ne_eq, not_false_eq_true, true_or, if_true]

theorem exec_dlExpiry_due (hi : itemOf s n = some i) (hst : i.st = 1 ∨ i.st = 2) (hposted : i.posted = 0)
    (hdue : i.expiry ≤ legalSec s) : exec (.dlExpiry n) s = .next (expireItem i 1 s) := by
  change execDlExpiry n s = _
  simp only [execDlExpiry, hi, if_pos (And.intro hst (And.intro hposted hdue))]

theorem exec_dlExpiry_early (hi : itemOf s n = some i) (hearly : legalSec s < i.expiry) :
    exec (.dlExpiry n) s = .next s := by
  have hwait : ¬ ((i.st = 1 ∨ i.st = 2) ∧ i.posted = 0 ∧ i.expiry ≤ legalSec s) := fun ⟨_, _, hdue⟩ =>
    Nat.not_le.mpr hearly hdue
  change execDlExpiry n s = _
  simp only [execDlExpiry, hi, if_neg hwait]

theorem exec_itemTimes_unknown (hi : itemOf s n = none) :
    exec (.dlExpiry n) s = .next s ∧ exec (.dlResendExpire n) s = .next s := by
  refine ⟨?_, ?_⟩
  · change execDlExpiry n s = _
    simp only [execDlExpiry, hi]
  · change execDlResendExpire n s = _
    simp only [execDlResendExpire, hi]

end

/-- Settles O51: each command by the checks its payload passes and the item or push it names, each event by the item's
state. -/
theorem downlinkComplete : Obligations.DownlinkComplete := by
  refine ⟨?queue, ?status, ?cancel, ?push, ?dispatch, fun mix s => ⟨nextDlc_takeDlc_self, fun n => nextDlc_takeDlc_ne⟩,
    ?resend, fun n i s => exec_dlResendExpire_other, fun n i s hi => ⟨exec_dlExpiry_due hi, exec_dlExpiry_early hi⟩,
    fun n s => exec_itemTimes_unknown⟩
  case queue =>
    intro h p urgent s hs run mix exp roomy i c q u first
    have fails : ∀ {st d}, dlQueueBody urgent h p s = .fail st d → run s = ended h p st d s := fun hbody =>
      exec_dlQueue_urgent.trans (congrArg Host.Outcome.next (runCmd_fails hs hbody))
    have stays : ∀ {t}, dlQueueBody urgent h p s = .stays t → run s = .next t := fun hbody =>
      exec_dlQueue_urgent.trans (congrArg Host.Outcome.next (runCmd_stays hs hbody))
    refine ⟨fun hm => fails (dlQueueBody_unknown hm), fun m hm => ⟨fun hcmd => fails (dlQueueBody_command hm hcmd),
      fun hcmd hway => ⟨fun hset hpast => fails (dlQueueBody_expired hm ⟨hcmd, hway⟩ hset hpast), fun hexp => ?_⟩⟩⟩
    obtain ⟨hfull, hadded⟩ := dlQueueBody_current (urgent := urgent) (h := h) hm ⟨hcmd, hway⟩ hexp
    exact ⟨fun hroom => fails (hfull hroom), fun hroom hlater => stays ((hadded hroom).1 hlater),
      fun w hroom hfirst hseal => ⟨_, _, rfl, stays ((hadded hroom).2 w hfirst hseal)⟩⟩
  case status =>
    intro h p s r hs
    exact ⟨fun i => exec_dlStatus_item hs, fun x => exec_dlStatus_push hs, exec_dlStatus_unknown hs⟩
  case cancel =>
    intro h p s r hs c
    have fails : ∀ {st d}, dlCancelBody h p s = .fail st d → r = ended h p st d s := fun hbody =>
      congrArg Host.Outcome.next (runCmd_fails hs hbody)
    have stays : ∀ {t}, dlCancelBody h p s = .stays t → r = .next t := fun hbody =>
      congrArg Host.Outcome.next (runCmd_stays hs hbody)
    exact ⟨fun i hi => ⟨fun hst => fails (dlCancelBody_sent hi hst),
        fun hst hposted => stays (dlCancelBody_queued hi hst hposted),
        fun hst hposted => stays (dlCancelBody_final hi hst hposted)⟩,
      fun x hi hx => stays (dlCancelBody_push hi hx), fun hi hx => fails (dlCancelBody_unknown hi hx)⟩
  case push =>
    intro h p s r hs sel no
    have fails : ∀ {st d}, tariffPushBody h p s = .fail st d → r = ended h p st d s := fun hbody =>
      congrArg Host.Outcome.next (runCmd_fails hs hbody)
    exact ⟨fun st d hbad => fails (tariffPushBody_table hbad), fun hgood hpast => fails (tariffPushBody_past hgood hpast),
      fun hgood hfuture hdenied => fails ((tariffPushBody_future hgood hfuture).1 hdenied),
      fun hgood hfuture hvalid hsome => congrArg Host.Outcome.next
        (runCmd_stays hs ((tariffPushBody_future hgood hfuture).2 hvalid hsome))⟩
  case dispatch =>
    intro mix urgent s w
    exact ⟨fun i m hi hm henrolled hgrant =>
      ⟨_, _, rfl, rfl, rfl, exec_dlDispatch_seals hi hm henrolled hgrant⟩, exec_dlDispatch_waits⟩
  case resend =>
    intro n i s hi hst hposted hway hdue
    have hexec := exec_dlResendExpire_due hi hst hposted hway hdue
    exact ⟨fun hfew => hexec.trans (congrArg _ (if_neg (Nat.not_le.mpr hfew))),
      fun hmany => hexec.trans (congrArg _ (if_pos hmany))⟩

end Sys2Proof.Machine
end

section
/-! The step on the queue and the reset state (02, 17; assumption logs 2, 3, 13). -/
namespace Sys2Proof.Machine

/-- Settles O1: the queue's head decides. -/
theorem stepRunsFrontCommand : Obligations.StepRunsFrontCommand :=
  ⟨fun _ _ _ => rfl, fun _ => rfl⟩

theorem sessAt_reset (n : Nat) : sessAt State.reset n = {} := by
  change (List.replicate 16 ({} : Sess)).getD n {} = _
  obtain hin | hout := Nat.lt_or_ge n 16
  · exact List.getD_replicate _ hin
  · exact List.getD_eq_default _ _ (by simpa using hout)

/-- Settles O2: no register and no byte is listed at reset, and the sixteen sessions are one closed one. -/
theorem resetLeavesPowerOnState : Obligations.ResetLeavesPowerOnState :=
  ⟨fun _ _ => rfl, fun _ => rfl, rfl, rfl, rfl, rfl, fun n => by rw [sessAt_reset], rfl, rfl, rfl, rfl, rfl, rfl, rfl,
    rfl, rfl, rfl, rfl, rfl, rfl⟩

/-- Settles O3: the empty lists are canonical. -/
theorem resetTablesAreCanonical : Obligations.ResetTablesAreCanonical :=
  (rfl : State.reset.tidy = true)

/-- A step keeps what its front command keeps, and an idle step everything. -/
theorem step_kept {s t : State} (hstep : step s = .next t) :
    t.pending = s.pending.tail ∧ s.out <+: t.out ∧ (s.tidy → t.tidy) := by
  cases hpend : s.pending with
  | nil =>
    simp only [step, hpend, Host.Outcome.next.injEq] at hstep
    subst hstep
    exact ⟨hpend, List.prefix_refl _, id⟩
  | cons c l =>
    simp only [step, hpend] at hstep
    have hclock : (clockAfter c { s with pending := l }).pending = l ∧ (clockAfter c { s with pending := l }).out = s.out ∧
        (clockAfter c { s with pending := l }).tidy = s.tidy := by
      unfold clockAfter State.ticked
      split
      · split <;> exact ⟨rfl, rfl, rfl⟩
      · exact ⟨rfl, rfl, rfl⟩
    obtain ⟨hqueue, hout, htidy⟩ := hclock
    obtain ⟨hpending, hsent, hkeep, -⟩ := exec_kept c _ t hstep
    exact ⟨hpending.trans hqueue, hout ▸ hsent, fun x => hkeep (htidy.trans x)⟩

/-- Settles O4: every command keeps the stored tables canonical. -/
theorem stepKeepsTablesCanonical : Obligations.StepKeepsTablesCanonical :=
  fun _ _ htidy hstep => (step_kept hstep).2.2 htidy

/-- Settles O5: the queue loses its front and what was sent stands. -/
theorem stepTakesOneCommandAndRecallsNothing : Obligations.StepTakesOneCommandAndRecallsNothing := by
  intro s t hstep
  obtain ⟨hqueue, hsent, -⟩ := step_kept hstep
  exact ⟨hqueue, hsent⟩

end Sys2Proof.Machine
end

section
/-! Memory as its reads see it (14; assumption log 2). -/
namespace Sys2Proof.Machine

theorem wrMems_regs {a : Nat} {bs : List Byte} {s : State} : (wrMems a bs s).regs = s.regs := by
  induction bs generalizing a s with
  | nil => rfl
  | cons b bs ih => exact ih

theorem wrMems_wf {a : Nat} {bs : List Byte} {s : State} (x : Memory.wf s.mem = true) :
    Memory.wf (wrMems a bs s).mem = true := by
  induction bs generalizing a s with
  | nil => exact x
  | cons b bs ih => exact ih (wrMem_wf x)

theorem wrMems_tidy {a : Nat} {bs : List Byte} {s : State} (x : s.tidy = true) : (wrMems a bs s).tidy = true := by
  simp only [State.tidy, Bool.and_eq_true] at x ⊢
  exact ⟨by rw [wrMems_regs]; exact x.1, wrMems_wf x.2⟩

theorem tidy_wf {s : State} (x : s.tidy = true) : Memory.wf s.mem = true := by
  simp only [State.tidy, Bool.and_eq_true] at x
  exact x.2

/-- A byte outside the range written stays. -/
theorem rdMem_wrMems_ne {a c : Nat} {bs : List Byte} {s : State} (hc : c < a ∨ a + bs.length ≤ c)
    (x : Memory.wf s.mem = true) : rdMem (wrMems a bs s) c = rdMem s c := by
  induction bs generalizing a s with
  | nil => rfl
  | cons b bs ih =>
    simp only [List.length_cons] at hc
    rw [wrMems, ih (by omega) (wrMem_wf x), rdMem_wrMem_ne (by omega) x]

theorem rdMems_wrMems_self {a : Nat} {bs : List Byte} {s : State} (x : Memory.wf s.mem = true) :
    rdMems (wrMems a bs s) a bs.length = bs := by
  induction bs generalizing a s with
  | nil => rfl
  | cons b bs ih =>
    rw [List.length_cons, wrMems, rdMems, ih (wrMem_wf x), rdMem_wrMems_ne (.inl (Nat.lt_succ_self a)) (wrMem_wf x),
      rdMem_wrMem_self x]

/-- Settles O9: byte by byte from the lowest address up. -/
theorem memoryReadAfterWrite : Obligations.MemoryReadAfterWrite :=
  fun _ _ _ x => ⟨rdMems_wrMems_self (tidy_wf x), fun _ hc => rdMem_wrMems_ne hc (tidy_wf x),
    fun _ _ => rdI_congr wrMems_regs, wrMems_tidy x⟩

end Sys2Proof.Machine
end

section
/-! A logged event taken into the cache, or counted as lost (16 R508, R509). -/
namespace Sys2Proof.Machine

theorem evFields_ev {s : State} : (evFields s).ev = s.ev := rfl

theorem countIf_ev {ev k : Nat} {ok : Nat → Bool} {s : State} : (countIf ev ok k s).ev = s.ev := by
  rw [countIf_counted.rest]

theorem linkSend_ev {p : Port} {k : List Byte} {s : State} : (linkSend p k s).ev = s.ev := by
  rw [linkSend_linked.rest]

theorem postNotice_records {e : EvRec} {s : State} :
    (postNotice e s).ev.pend = s.ev.pend ∧ (postNotice e s).ev.ring = s.ev.ring := by
  unfold postNotice sendNotice
  split
  · dsimp only
    rw [linkSend_ev]
    exact ⟨rfl, rfl⟩
  · exact ⟨rfl, rfl⟩

/-- A notice posted moves no field but counters. -/
theorem rd_postNotice {e : EvRec} {f : Fld} {s : State} (hf : f.known) (hp : f.page ≠ 0x52) (x : s.tidy = true) :
    rd (postNotice e s) f = rd s f := by
  unfold postNotice sendNotice
  split
  · dsimp only
    refine (linkSend_linked.regs ?_ f 0 hf hp).trans ?_
    · exact x
    · rfl
  · rfl

theorem record_records {code : Nat} {d : List Byte} {s : State} :
    (record code d s).ev.pend = s.ev.pend ++ [mkEvent code d s] ∧ (record code d s).ev.ring = s.ev.ring := by
  unfold record
  dsimp only
  split
  · rw [postNotice_records.1, postNotice_records.2, countIf_ev, evFields_ev]
    exact ⟨rfl, rfl⟩
  · rw [countIf_ev, evFields_ev]
    exact ⟨rfl, rfl⟩

/-- A record moves NEXT_SEQ, OLDEST_SEQ and CACHE_PENDING, and no other field but counters. -/
theorem rd_evFields {f : Fld} {s : State} (hf : f.known) (holdest : f ≠ P51.OLDEST_SEQ) (hpending : f ≠ P51.CACHE_PENDING)
    (x : s.tidy = true) : rd (evFields s) f = rd s f := by
  have hoff : ∀ g : Fld, g.known → f ≠ g → ∀ {v : Nat} {u : State}, u.tidy = true → rd (wr g v u) f = rd u f :=
    fun g hg hne {v u} hu => rdI_wrI_other hg hf (places_differ (i := 0) (j := 0) hg hf (by decide) (by decide)
      (fun h => hne (Prod.mk.inj h).1)) hu
  unfold evFields
  rw [hoff _ P51.CACHE_PENDING_known hpending (wr_tidy P51.OLDEST_SEQ_known x), hoff _ P51.OLDEST_SEQ_known holdest x]

theorem rd_record {code : Nat} {d : List Byte} {f : Fld} {s : State} (hf : f.known) (hpage : f.page ≠ 0x52)
    (holdest : f ≠ P51.OLDEST_SEQ) (hpending : f ≠ P51.CACHE_PENDING) (x : s.tidy = true) :
    rd (record code d s) f = rd (wr P51.NEXT_SEQ (rd s P51.NEXT_SEQ + 1) s) f := by
  have hbase : ∀ e : EvSt, rd (countIf 0x16 (fun q => decide (q ≤ severity code)) 1
      (evFields (wr P51.NEXT_SEQ (rd s P51.NEXT_SEQ + 1) { s with ev := e }))) f =
        rd (wr P51.NEXT_SEQ (rd s P51.NEXT_SEQ + 1) s) f ∧
      (countIf 0x16 (fun q => decide (q ≤ severity code)) 1
        (evFields (wr P51.NEXT_SEQ (rd s P51.NEXT_SEQ + 1) { s with ev := e }))).tidy = true := by
    intro e
    have hwr : (wr P51.NEXT_SEQ (rd s P51.NEXT_SEQ + 1) { s with ev := e }).tidy = true := wr_tidy P51.NEXT_SEQ_known x
    have hfields := evFields_logged.tidy hwr
    exact ⟨(countIf_counted.regs hfields f 0 hf hpage).trans (rd_evFields hf holdest hpending hwr),
      countIf_counted.tidy hfields⟩
  unfold record
  dsimp only
  split
  · exact (rd_postNotice hf hpage (hbase _).2).trans (hbase _).1
  · exact (hbase _).1

/-- The state in which an event of a severity is logged: a fault's time is noted first (15 R489). -/
def faultNoted (code : Nat) (s : State) : State :=
  if 2 ≤ severity code then { s with pair := { s.pair with faultAt := some s.beat.ticks } } else s

theorem faultNoted_ev {code : Nat} {s : State} : (faultNoted code s).ev = s.ev := by
  unfold faultNoted; split <;> rfl

theorem faultNoted_regs {code : Nat} {s : State} : (faultNoted code s).regs = s.regs := by
  unfold faultNoted; split <;> rfl

theorem faultNoted_mem {code : Nat} {s : State} : (faultNoted code s).mem = s.mem := by
  unfold faultNoted; split <;> rfl

theorem faultNoted_tidy {code : Nat} {s : State} : (faultNoted code s).tidy = s.tidy := by
  rw [State.tidy, faultNoted_regs, faultNoted_mem, State.tidy]

theorem canRecord_faultNoted {code : Nat} {s : State} : canRecord code (faultNoted code s) = canRecord code s := by
  unfold canRecord reserveUsed
  rw [faultNoted_ev]

theorem logEv_recorded {code : Nat} {d : List Byte} {s : State} (hroom : canRecord code s = true) :
    logEv code d s = record code d (faultNoted code s) :=
  if_pos (canRecord_faultNoted.trans hroom)

/-- An event that found no place: it is counted, and EVENTS_DROPPED is owed. -/
def lossNoted (s : State) : State :=
  { bump P51.EVENTS_LOST s with ev := { s.ev with dropOwed := true } }

theorem logEv_lost {code : Nat} {d : List Byte} {s : State} (hfull : canRecord code s = false) :
    logEv code d s = logDropped (lossNoted (faultNoted code s)) := by
  have hno : ¬ canRecord code (faultNoted code s) = true := by
    rw [canRecord_faultNoted, hfull]
    exact Bool.false_ne_true
  exact if_neg hno

theorem rd_eventsLost_record {code : Nat} {d : List Byte} {s : State} (x : s.tidy = true) :
    rd (record code d s) P51.EVENTS_LOST = rd s P51.EVENTS_LOST :=
  (rd_record P51.EVENTS_LOST_known (by decide) (by decide) (by decide) x).trans
    (rdI_wrI_other P51.NEXT_SEQ_known P51.EVENTS_LOST_known (by decide) x)

theorem rd_eventsLost_logDropped {s : State} (x : s.tidy = true) :
    rd (logDropped s) P51.EVENTS_LOST = rd s P51.EVENTS_LOST := by
  unfold logDropped
  generalize (s.ev.dropOwed && _) = due
  dsimp only
  split
  · exact rd_eventsLost_record x
  · rfl

theorem rd_eventsLost_lossNoted {s : State} (x : s.tidy = true) :
    rd (lossNoted s) P51.EVENTS_LOST = min (rd s P51.EVENTS_LOST + 1) (2 ^ 32 - 1) := by
  refine (rdI_wrI_self (tidy_rising x)).trans ?_
  change min (rd s P51.EVENTS_LOST + 1) (2 ^ 32 - 1) % 2 ^ 32 = _
  omega

/-- Settles O17: a free place takes the record, without one the loss is counted, and the rest is `Logged`. -/
theorem loggedEventIsRecordedOnce : Obligations.LoggedEventIsRecordedOnce := by
  intro code d s x t
  have hu : (faultNoted code s).tidy = true := faultNoted_tidy.trans x
  obtain ⟨hrest, hsent, hregs, -⟩ : Logged s t := logEv_logged
  refine ⟨fun hroom => ?_, fun hfull => ?_, hsent, fun f i hf => hregs x f i (pageFields_known hf), hrest⟩
  · have ht : t = record code d (faultNoted code s) := logEv_recorded hroom
    refine ⟨⟨mkEvent code d (faultNoted code s), ?_, rfl, rd_congr faultNoted_regs, rfl⟩, ?_, ?_⟩
    · rw [ht, record_records.1, faultNoted_ev]
    · rw [ht, rd_record P51.NEXT_SEQ_known (by decide) (by decide) (by decide) hu, rd_wr_self hu,
        rd_congr faultNoted_regs]
      rfl
    · rw [ht, record_records.2, faultNoted_ev]
  · have hlost : (lossNoted (faultNoted code s)).tidy = true := wrI_tidy P51.EVENTS_LOST_known hu
    have ht : t = logDropped _ := logEv_lost hfull
    rw [ht, rd_eventsLost_logDropped hlost, rd_eventsLost_lossNoted hu, rd_congr faultNoted_regs]

end Sys2Proof.Machine
end

section
/-! Stream ports: their commands and events (14 R471 to R478; 02 R72). -/
namespace Sys2Proof.Machine

/-- A write to a field leaves another field as it reads, at every index. -/
theorem rdI_wrI_field {f g : Fld} {i j v : Nat} {s : State} (hf : f.known) (hg : g.known) (hne : f ≠ g)
    (x : s.tidy = true) : rdI (wrI f i v s) g j = rdI s g j := by
  refine rdI_wrI_other hf hg ?_ x
  by_contra hsame
  simp only [ne_eq, not_or, not_not] at hsame
  exact hne (field_ext hf hg hsame.1 hsame.2.1)

section
variable {n k : Nat} {h : Hdr} {p : List Byte} {x : Stream} {s : State}

/-! Ports by number. -/

theorem strAt_setStr_self (hn : n < s.memory.streams.length) : strAt (setStr n x s) n = x := by
  simp [strAt, setStr, List.getD_eq_getElem?_getD, List.getElem?_set_self hn]

theorem strAt_setStr_ne (hk : k ≠ n) : strAt (setStr n x s) k = strAt s k := by
  simp [strAt, setStr, List.getD_eq_getElem?_getD, List.getElem?_set_ne hk.symm]

theorem strAt_wrI {f : Fld} {i v : Nat} : strAt (wrI f i v s) k = strAt s k := rfl

/-! The fields that follow a port's state. -/

/-- Credit moves CREDIT_END alone, if anything. -/
theorem credit_cases : credit n s = s ∨ ∃ c, credit n s = wrI P44.CREDIT_END n c s := by
  unfold credit
  dsimp only
  generalize (rdI s P44.WORDS_IN n + _ + 2 ^ 32 - 128) % 2 ^ 32 = c
  split
  · exact .inl rfl
  · split
    · exact .inr ⟨c, rfl⟩
    · exact .inl rfl

theorem credit_wrote : Wrote (· = P44.CREDIT_END) s (credit n s) := by
  obtain hsame | ⟨c, hmoved⟩ := credit_cases (n := n) (s := s)
  · rw [hsame]
    exact .refl
  · rw [hmoved]
    exact .wrI (w := (· = P44.CREDIT_END)) P44.CREDIT_END_known rfl .refl

theorem credit_memory : (credit n s).memory = s.memory := by
  obtain hsame | ⟨c, hmoved⟩ := credit_cases (n := n) (s := s)
  · rw [hsame]
  · rw [hmoved]
    rfl

theorem credit_sett : (credit n s).sett = s.sett := by
  obtain hsame | ⟨c, hmoved⟩ := credit_cases (n := n) (s := s)
  · rw [hsame]
  · rw [hmoved]
    rfl

/-- DONE_THRU brought up to date, except on a closed port. -/
def strThru (n : Nat) (s : State) : State :=
  if (strAt s n).st = .closed then s else wrI P44.DONE_THRU n (doneThru s n) s

theorem strFields_eq : strFields n s =
    wrI P44.STATE n (strCode (closeDone n (strThru n s)) n) (closeDone n (strThru n s)) := rfl

theorem strThru_keeps : (strThru n s).memory = s.memory ∧ (strThru n s).sett = s.sett ∧ (strThru n s).out = s.out := by
  unfold strThru
  split <;> exact ⟨rfl, rfl, rfl⟩

theorem strAt_strThru : strAt (strThru n s) k = strAt s k := by
  rw [strAt, strThru_keeps.1]
  rfl

theorem strThru_wrote : Wrote (fun f => f = P44.DONE_THRU ∨ f = P44.STATE) s (strThru n s) := by
  unfold strThru
  split
  · exact .refl
  · exact .wrI P44.DONE_THRU_known (.inl rfl) .refl

theorem closeDone_stays (hst : (strAt s n).st ≠ .closing) : closeDone n s = s := if_neg fun hclosing => hst hclosing.1

theorem closeDone_wrote {w : Fld → Prop} : Wrote w s (closeDone n s) := by
  unfold closeDone
  split
  · exact .same rfl rfl
  · exact .refl

theorem closeDone_out : (closeDone n s).out = s.out := by
  unfold closeDone
  split <;> rfl

theorem strFields_wrote : Wrote (fun f => f = P44.DONE_THRU ∨ f = P44.STATE) s (strFields n s) :=
  .wrI P44.STATE_known (.inr rfl) (strThru_wrote.trans closeDone_wrote)

theorem strFields_out : (strFields n s).out = s.out := closeDone_out.trans strThru_keeps.2.2

/-- A port that is not closing keeps its record; its STATE follows it. -/
theorem strFields_stays (hst : (strAt s n).st ≠ .closing) : (strFields n s).memory = s.memory ∧
    strFields n s = wrI P44.STATE n (strCode (strThru n s) n) (strThru n s) := by
  have hsame : closeDone n (strThru n s) = strThru n s := closeDone_stays (by rwa [strAt_strThru])
  rw [strFields_eq, hsame]
  exact ⟨strThru_keeps.1, rfl⟩

/-- A closing port becomes closed when no packet of it waits. -/
theorem strAt_strFields_closing (hn : n < s.memory.streams.length) (hst : (strAt s n).st = .closing) :
    (strAt (strFields n s) n).st = (if (strAt s n).waiting = [] then .closed else .closing) ∧
      (strAt (strFields n s) n).waiting = (strAt s n).waiting := by
  have hlen : n < (strThru n s).memory.streams.length := by rwa [strThru_keeps.1]
  rw [strFields_eq, strAt_wrI]
  unfold closeDone
  by_cases hwait : (strAt s n).waiting = []
  · rw [strAt_strThru, if_pos ⟨hst, List.isEmpty_iff.mpr hwait⟩]
    simp only [strAt_setStr_self hlen, if_pos hwait, and_self]
  · rw [strAt_strThru, if_neg fun hdone => hwait (List.isEmpty_iff.mp hdone.2), strAt_strThru, if_neg hwait]
    exact ⟨hst, rfl⟩

/-! STREAM_OPEN. -/

/-- An opened port: its first packet is 1, no word has come in, and its state is open (14 R474). -/
theorem openPort_opened (hn : n < s.memory.streams.length) (hhold : underHold s (n + 21) = false) (x : s.tidy = true) :
    strAt (openPort n s) n = { st := .opened } ∧ rdI (openPort n s) P44.PKT_NEXT n = 1 ∧
      rdI (openPort n s) P44.STATE n = 1 ∧ rdI (openPort n s) P44.WORDS_IN n = 0 ∧
      ∀ k, k ≠ n → strAt (openPort n s) k = strAt s k := by
  obtain ⟨s1, hs1⟩ : ∃ u, u = wrI P44.PKT_NEXT n 1 (setStr n { st := .opened } s) := ⟨_, rfl⟩
  obtain ⟨s2, hs2⟩ : ∃ u, u = wrI P44.CREDIT_END n 0 (wrI P44.WORDS_IN n 0 (wrI P44.DONE_THRU n 0 s1)) := ⟨_, rfl⟩
  have hopen : openPort n s = strFields n (credit n s2) := by rw [hs2, hs1]; rfl
  have x1 : s1.tidy = true := hs1 ▸ wrI_tidy P44.PKT_NEXT_known x
  have xdone := wrI_tidy (i := n) (v := 0) P44.DONE_THRU_known x1
  have xwords := wrI_tidy (i := n) (v := 0) P44.WORDS_IN_known xdone
  have x2 : s2.tidy = true := hs2 ▸ wrI_tidy P44.CREDIT_END_known xwords
  have hmem : (credit n s2).memory = (setStr n { st := .opened } s).memory := by rw [credit_memory, hs2, hs1]; rfl
  have hself : strAt (credit n s2) n = { st := .opened } :=
    (congrArg (fun m => m.streams.getD n {}) hmem).trans (strAt_setStr_self hn)
  have hfields : (strFields n (credit n s2)).memory = (setStr n { st := .opened } s).memory :=
    (strFields_stays (by rw [hself]; decide)).1.trans hmem
  have hreads : ∀ f : Fld, f.known → f ≠ P44.CREDIT_END → f ≠ P44.DONE_THRU → f ≠ P44.STATE →
      rdI (openPort n s) f n = rdI s2 f n := by
    intro f hf hcredit hthru hstate
    rw [hopen, strFields_wrote.reads (credit_wrote.tidy x2) f n hf (not_or.mpr ⟨hthru, hstate⟩),
      credit_wrote.reads x2 f n hf hcredit]
  refine ⟨?_, ?_, ?_, ?_, fun k hk => ?_⟩
  · rw [hopen]
    exact (congrArg (fun m => m.streams.getD n {}) hfields).trans (strAt_setStr_self hn)
  · rw [hreads _ P44.PKT_NEXT_known (by decide) (by decide) (by decide), hs2,
      rdI_wrI_field P44.CREDIT_END_known P44.PKT_NEXT_known (by decide) xwords,
      rdI_wrI_field P44.WORDS_IN_known P44.PKT_NEXT_known (by decide) xdone,
      rdI_wrI_field P44.DONE_THRU_known P44.PKT_NEXT_known (by decide) x1, hs1]
    exact rdI_wrI_self (s := setStr n { st := .opened } s) (tidy_rising x)
  · have hfree : underHold (strThru n (credit n s2)) (strEf n) = false := by
      unfold underHold
      rw [strThru_keeps.2.1, credit_sett, hs2, hs1]
      exact hhold
    have hcode : strCode (strThru n (credit n s2)) n = 1 := by
      unfold strCode
      rw [strAt_strThru, hself, hfree]
      rfl
    rw [hopen, (strFields_stays (by rw [hself]; decide)).2, hcode]
    exact rdI_wrI_self (tidy_rising (strThru_wrote.tidy (credit_wrote.tidy x2)))
  · rw [hreads _ P44.WORDS_IN_known (by decide) (by decide) (by decide), hs2,
      rdI_wrI_field P44.CREDIT_END_known P44.WORDS_IN_known (by decide) xwords, rdI_wrI_self (tidy_rising xdone)]
    rfl
  · rw [hopen]
    exact (congrArg (fun m => m.streams.getD k {}) hfields).trans (strAt_setStr_ne hk)

/-- The checks of STREAM_OPEN by the port's number and state (14 R474). -/
def streamOpenBody (p : List Byte) (t : State) : Ans :=
  if 7 < byteAt p 0 then .fail stOutOfRange 0
  else match (strAt t (byteAt p 0)).st with
    | .closing => .fail stBusy 0
    | .opened => .done (openPortData (byteAt p 0) t) t
    | .closed =>
      if underHold t (strEf (byteAt p 0)) then .fail stBackpressure 0
      else .done (openPortData (byteAt p 0) (openPort (byteAt p 0) t)) (openPort (byteAt p 0) t)

theorem exec_streamOpen : exec (.streamOpen h p) s = .next (runCmd h p false (streamOpenBody p) s) := rfl

theorem streamOpenBody_outside (hn : 7 < byteAt p 0) : streamOpenBody p s = .fail stOutOfRange 0 := if_pos hn

theorem streamOpenBody_closing (hn : byteAt p 0 ≤ 7) (hst : (strAt s (byteAt p 0)).st = .closing) :
    streamOpenBody p s = .fail stBusy 0 := by
  simp only [streamOpenBody, if_neg (Nat.not_lt.mpr hn), hst]

theorem streamOpenBody_opened (hn : byteAt p 0 ≤ 7) (hst : (strAt s (byteAt p 0)).st = .opened) :
    streamOpenBody p s = .done (openPortData (byteAt p 0) s) s := by
  simp only [streamOpenBody, if_neg (Nat.not_lt.mpr hn), hst]

theorem streamOpenBody_held (hn : byteAt p 0 ≤ 7) (hst : (strAt s (byteAt p 0)).st = .closed)
    (hhold : underHold s (byteAt p 0 + 21) = true) : streamOpenBody p s = .fail stBackpressure 0 := by
  simp only [streamOpenBody, if_neg (Nat.not_lt.mpr hn), hst, strEf, hhold, if_true]

theorem streamOpenBody_opens (hn : byteAt p 0 ≤ 7) (hst : (strAt s (byteAt p 0)).st = .closed)
    (hfree : underHold s (byteAt p 0 + 21) = false) :
    streamOpenBody p s = .done (openPortData (byteAt p 0) (openPort (byteAt p 0) s)) (openPort (byteAt p 0) s) := by
  simp only [streamOpenBody, if_neg (Nat.not_lt.mpr hn), hst, strEf, hfree, if_neg Bool.false_ne_true]

/-! STREAM_CLOSE. -/

/-- An open port without a packet in progress is left closing, or closed when no packet waits (14 R474). -/
theorem closePort_idle (hn : n < s.memory.streams.length) (hst : (strAt s n).st = .opened)
    (hpart : (strAt s n).part = none) :
    (strAt (closePort n s) n).st = (if (strAt s n).waiting = [] then .closed else .closing) ∧
      (strAt (closePort n s) n).waiting = (strAt s n).waiting := by
  have hclose : closePort n s = strFields n (setStr n { strAt s n with st := .closing } s) := by
    unfold closePort
    rw [if_pos hst, hpart]
    rfl
  have hself : strAt (setStr n { strAt s n with st := .closing } s) n = { strAt s n with st := .closing } :=
    strAt_setStr_self hn
  have hlen : n < (setStr n { strAt s n with st := .closing } s).memory.streams.length := by simpa [setStr] using hn
  rw [hclose]
  obtain ⟨hstate, hwait⟩ := strAt_strFields_closing hlen (by rw [hself])
  rw [hstate, hwait, hself]
  exact ⟨rfl, rfl⟩

/-! STREAM_DATA. -/

theorem exec_streamData (hgate : stateGate s h false = .pass) : exec (.streamData h p) s = .next (
    if 7 < byteAt p 0 then discardWords 0 ((p.length - 8) / 16) s
    else if (strAt s (byteAt p 0)).st ≠ .opened then discardWords (byteAt p 0) ((p.length - 8) / 16) s
    else count 0x0E (byteAt p 0) ((p.length - 8) / 16) (fragment (byteAt p 0) h.seq p s)) := by
  change execStreamData h p s = _
  simp only [execStreamData, hgate]

/-- The state of a fragment's port once its words are counted in (14 R475). -/
abbrev wordsIn (n k : Nat) (s : State) : State := wrI P44.WORDS_IN n ((rdI s P44.WORDS_IN n + k) % 2 ^ 32) s

/-- A whole packet with the next number, within credit, starts (14 R475, Table 14-6). -/
theorem fragment_starts {b : List Byte} (x : s.tidy = true) (hpart : (strAt s n).part = none)
    (hlen : b.length % 16 = 8) (hoff : leAt b 2 2 = 0) (hwords : leAt b 4 2 = (b.length - 8) / 16)
    (hsome : 1 ≤ (b.length - 8) / 16) (hmax : (b.length - 8) / 16 ≤ 129)
    (hcredit : seqDist (rdI s P44.CREDIT_END n) ((rdI s P44.WORDS_IN n + (b.length - 8) / 16) % 2 ^ 32) = 0 ∨
      2 ^ 31 ≤ seqDist (rdI s P44.CREDIT_END n) ((rdI s P44.WORDS_IN n + (b.length - 8) / 16) % 2 ^ 32)) :
    fragment n (rdI s P44.PKT_NEXT n) b s =
      startPacket n (rdI s P44.PKT_NEXT n) ((b.length - 8) / 16) ((b.length - 8) / 16) (b.drop 8)
        (wordsIn n ((b.length - 8) / 16) s) := by
  have hend : rdI (wordsIn n ((b.length - 8) / 16) s) P44.CREDIT_END n = rdI s P44.CREDIT_END n :=
    rdI_wrI_field P44.WORDS_IN_known P44.CREDIT_END_known (by decide) x
  have hin : rdI (wordsIn n ((b.length - 8) / 16) s) P44.WORDS_IN n =
      (rdI s P44.WORDS_IN n + (b.length - 8) / 16) % 2 ^ 32 :=
    (rdI_wrI_self (tidy_rising x)).trans (Nat.mod_mod _ _)
  have hroom : ¬ (0 < seqDist (rdI (wordsIn n ((b.length - 8) / 16) s) P44.CREDIT_END n)
      (rdI (wordsIn n ((b.length - 8) / 16) s) P44.WORDS_IN n) ∧
      seqDist (rdI (wordsIn n ((b.length - 8) / 16) s) P44.CREDIT_END n)
      (rdI (wordsIn n ((b.length - 8) / 16) s) P44.WORDS_IN n) < 2 ^ 31) := by
    rw [hend, hin]
    omega
  have hgood : ¬ (b.length % 16 ≠ 8 ∨ (b.length - 8) / 16 = 0 ∨ 129 < (b.length - 8) / 16 ∨
      (false = true ∧ (b.length - 8) / 16 ≠ (strAt s n).partWords) ∨ (b.length - 8) / 16 < 0 + (b.length - 8) / 16) := by
    rintro (hbad | hbad | hbad | ⟨hbad, -⟩ | hbad)
    · exact hbad hlen
    · omega
    · omega
    · exact Bool.false_ne_true hbad
    · omega
  unfold fragment
  simp only [hpart, hwords, hoff, Option.isSome_none, Bool.false_and]
  rw [if_neg hroom, if_neg hgood, if_neg (fun hflag => Bool.false_ne_true hflag.2), if_neg (fun hnew => hnew.1 rfl),
    if_pos ⟨trivial, trivial, trivial⟩]

theorem startPacket_fits {q w : Nat} {data : List Byte} (hroom : w ≤ bankRoom (fifoAt s (strEf n))) :
    startPacket n q w w data s = storeWords n q w ⟨w, data, s.now⟩ (setFifo (strEf n) (fifoAt s (strEf n)) s) := by
  unfold startPacket
  dsimp only
  rw [if_neg (Nat.not_lt.mpr hroom), if_pos hroom]

/-- Putting a packet into a bank changes that engine FIFO alone. -/
theorem putItemW_getD_keeps {e w : Nat} {it : FifoItem} :
    ((putItemW e it w s).getD s).regs = s.regs ∧ ((putItemW e it w s).getD s).mem = s.mem ∧
      ((putItemW e it w s).getD s).out = s.out ∧ ((putItemW e it w s).getD s).memory.streams = s.memory.streams := by
  unfold putItemW
  dsimp only
  split
  · split <;> exact ⟨rfl, rfl, rfl, rfl⟩
  · exact ⟨rfl, rfl, rfl, rfl⟩

/-- A packet stored whole: PKT_NEXT passes it and it waits (14 R475). -/
theorem storeWords_whole {q w : Nat} {y : Partial} (x : s.tidy = true) (hn : n < s.memory.streams.length)
    (hst : (strAt s n).st = .opened) (hw : y.words = w) :
    rdI (storeWords n q w y s) P44.PKT_NEXT n = (q + 1) % 2 ^ 32 ∧
      rdI (storeWords n q w y s) P44.WORDS_IN n = rdI s P44.WORDS_IN n ∧ (storeWords n q w y s).out = s.out ∧
      (strAt (storeWords n q w y s) n).waiting = (strAt s n).waiting ++ [q] ∧
      (strAt (storeWords n q w y s) n).part = none ∧ (storeWords n q w y s).tidy = true := by
  obtain ⟨s1, hs1⟩ : ∃ u, u = wrI P44.PKT_NEXT n ((q + 1) % 2 ^ 32) (setStr n { strAt s n with
    part := none, partWords := 0, waiting := (strAt s n).waiting ++ [q], runOpen := false } s) := ⟨_, rfl⟩
  obtain ⟨s2, hs2⟩ : ∃ u, u = (putItemW (strEf n) (ingestItem (.stream n q) y.data) w s1).getD s1 := ⟨_, rfl⟩
  have hstore : storeWords n q w y s = strFields n s2 := by
    rw [hs2, hs1]
    exact if_neg (by omega)
  obtain ⟨hregs, hmem, hout, hstreams⟩ := putItemW_getD_keeps (s := s1) (e := strEf n)
    (it := ingestItem (.stream n q) y.data) (w := w)
  rw [← hs2] at hregs hmem hout hstreams
  have x1 : s1.tidy = true := hs1 ▸ wrI_tidy P44.PKT_NEXT_known x
  have x2 : s2.tidy = true := by simpa only [State.tidy, hregs, hmem] using x1
  have hself : strAt s2 n = { strAt s n with
      part := none, partWords := 0, waiting := (strAt s n).waiting ++ [q], runOpen := false } := by
    rw [strAt, hstreams, hs1]
    exact strAt_setStr_self hn
  have hmemory : (strFields n s2).memory = s2.memory := (strFields_stays (by rw [hself]; simp [hst])).1
  have hport : strAt (strFields n s2) n = strAt s2 n := by rw [strAt, hmemory]; rfl
  have hreads : ∀ f : Fld, f.known → f ≠ P44.DONE_THRU → f ≠ P44.STATE → rdI (strFields n s2) f n = rdI s1 f n :=
    fun f hf hthru hstate => (strFields_wrote.reads x2 f n hf (not_or.mpr ⟨hthru, hstate⟩)).trans (rdI_congr hregs)
  rw [hstore, hport, hself, strFields_out, hout, hreads _ P44.PKT_NEXT_known (by decide) (by decide),
    hreads _ P44.WORDS_IN_known (by decide) (by decide), hs1]
  refine ⟨(rdI_wrI_self (s := setStr n _ s) (tidy_rising x)).trans (Nat.mod_mod _ _), ?_, rfl, rfl, rfl,
    strFields_wrote.tidy x2⟩
  exact rdI_wrI_field (s := setStr n _ s) P44.PKT_NEXT_known P44.WORDS_IN_known (by decide) x

theorem strAt_count {ev q j : Nat} : strAt (count ev q j s) n = strAt s n := by
  have hmemory : (count ev q j s).memory = s.memory := by rw [count_counted.rest]
  rw [strAt, hmemory]
  rfl

/-! Banks that close. -/

theorem closeBank_opened {f : Fifo} {b : Bank} (hopen : f.opened = some b) (hitems : b.items ≠ []) :
    closeBank f = { opened := if f.closedB = [] then some {} else none, closedB := f.closedB ++ [{ b with closed := true }] } := by
  have hsome : b.items.isEmpty = false := by simpa using hitems
  simp only [closeBank, hopen, hsome, List.isEmpty_iff, if_neg Bool.false_ne_true]

end

/-- Settles O42: the commands by the port's state, a whole packet by the row of Table 14-6 that takes it, the events by what
they wait for. -/
theorem streamCommandsComplete : Obligations.StreamCommandsComplete := by
  refine ⟨?opens, ?closes, ?closed, ?data, ?drops, ?idle, ?progress, ?bank, ?busyBank⟩
  case opens =>
    intro h p s r hs n
    have fails : ∀ {st d}, streamOpenBody p s = .fail st d → r = ended h p st d s := fun hbody =>
      congrArg Host.Outcome.next (runCmd_fails hs hbody)
    have done : ∀ {data t}, streamOpenBody p s = .done data t → r = .next (finish h p stDone 0 data t) := fun hbody =>
      congrArg Host.Outcome.next (runCmd_done hs hbody)
    refine ⟨fun hn => fails (streamOpenBody_outside hn), fun hn => ⟨fun hst => fails (streamOpenBody_closing hn hst),
      fun hst => done (streamOpenBody_opened hn hst), fun hst hhold => fails (streamOpenBody_held hn hst hhold),
      fun hst hfree x hlen => ?_⟩⟩
    obtain ⟨hport, hnext, hstate, hwords, hothers⟩ := openPort_opened hlen hfree x
    refine ⟨openPort n s, ?_, hport, hnext, hstate, hwords, hothers⟩
    rw [done (streamOpenBody_opens hn hst hfree), openPortData, hnext]
  case closes =>
    intro h p s hs
    exact ⟨fun hn => congrArg Host.Outcome.next (runCmd_fails hs (if_pos hn)),
      fun hn => congrArg Host.Outcome.next (runCmd_atBoundary hs (if_neg (Nat.not_lt.mpr hn)))⟩
  case closed =>
    intro h p n d s hst hn hpart
    exact closePort_idle hn hst hpart
  case data =>
    intro h p s r hgate n k
    have hr : r = _ := exec_streamData hgate
    refine ⟨fun hn => hr.trans (congrArg _ (if_pos hn)),
      fun hn hst => hr.trans (congrArg _ ((if_neg (Nat.not_lt.mpr hn)).trans (if_pos hst))), ?_⟩
    intro hn x hst hpart hseq hlen hmod hoff hwords hsome hmax hroom hcredit
    have hstarts : fragment n h.seq p s = startPacket n h.seq k k (p.drop 8) (wordsIn n k s) :=
      hseq ▸ fragment_starts x hpart hmod hoff hwords hsome hmax hcredit
    have x1 : (wordsIn n k s).tidy = true := wrI_tidy P44.WORDS_IN_known x
    obtain ⟨hnext, hin, hout, hwaiting, hdone, x2⟩ := storeWords_whole (n := n) (q := h.seq) (w := k)
      (y := ⟨k, p.drop 8, (wordsIn n k s).now⟩) (s := setFifo (strEf n) (fifoAt (wordsIn n k s) (strEf n)) (wordsIn n k s))
      x1 hlen hst rfl
    rw [← startPacket_fits (s := wordsIn n k s) hroom, ← hstarts] at hnext hin hout hwaiting hdone x2
    refine ⟨count 0x0E n k (fragment n h.seq p s),
      hr.trans (congrArg _ ((if_neg (Nat.not_lt.mpr hn)).trans (if_neg (not_not.mpr hst)))), ?_, ?_, ?_, ?_, ?_⟩
    · rw [count_counted.regs x2 _ _ P44.PKT_NEXT_known (by decide), hnext]
    · rw [count_counted.regs x2 _ _ P44.WORDS_IN_known (by decide), hin]
      exact (rdI_wrI_self (tidy_rising x)).trans (Nat.mod_mod _ _)
    · rw [count_out, hout]
      rfl
    · rw [strAt_count, hwaiting]
      rfl
    · rw [strAt_count, hdone]
  case drops =>
    intro n x s hpart
    have hexec : exec (.streamDrop n) s = .next (if passed s x.lastAt (rdI s P44.STALL_BEATS n) then
        dropPacket n (rdI s P44.PKT_NEXT n) s else s) := by
      change execStreamDrop n s = _
      simp only [execStreamDrop, hpart]
    exact ⟨fun hdue => hexec.trans (congrArg _ (if_pos (passed_iff.mpr hdue))),
      fun hearly => hexec.trans (congrArg _ (if_neg fun hdue => Nat.not_le.mpr hearly (passed_iff.mp hdue)))⟩
  case idle =>
    intro n s hpart
    change execStreamDrop n s = _
    simp only [execStreamDrop, hpart]
  case progress =>
    intro n s
    exact ⟨fun hdue => congrArg Host.Outcome.next (if_pos hdue),
      fun hnot => congrArg Host.Outcome.next (if_neg (by rw [hnot]; exact Bool.false_ne_true))⟩
  case bank =>
    intro e b s hopen hitems hstream hradio hplc
    change execFifoBankClose e s = _
    unfold execFifoBankClose
    rw [← closeBank_opened hopen hitems]
    refine congrArg Host.Outcome.next (if_neg ?_)
    simp only [Bool.or_eq_true, Bool.and_eq_true, decide_eq_true_eq, not_or]
    refine ⟨⟨fun hin => ?_, fun hin => ?_⟩, fun hin => ?_⟩
    · have hnone := hstream hin.1.1 hin.1.2
      rw [strAt] at hnone
      rw [hnone] at hin
      exact absurd hin.2 Bool.false_ne_true
    · exact absurd hin.2 (by rw [hradio hin.1.1 hin.1.2]; exact Bool.false_ne_true)
    · exact absurd hin.2 (by rw [hplc hin.1.1 hin.1.2]; exact Bool.false_ne_true)
  case busyBank =>
    intro e x s hlo hhi hpart
    change execFifoBankClose e s = _
    rw [strAt] at hpart
    simp only [execFifoBankClose, hpart, hlo, hhi, decide_true, Option.isSome_some, Bool.and_self, Bool.true_or, if_true]

end Sys2Proof.Machine
end

section
/-! The event recorder's and the counters' commands and events (16 R505, R508 to R518). -/
namespace Sys2Proof.Machine

/-! Counters whose windows end (16 R513, R515). -/

theorem pcFld_injective : ∀ n < 8, ∀ k < 8, k ≠ n → pcFld n ≠ pcFld k := by decide

theorem pcFld_ne_cfgFld : ∀ n < 8, ∀ k < 8, pcFld n ≠ cfgFld k := by decide

theorem pcFld_width : ∀ n < 8, (pcFld n).width = 48 := by decide

/-- The value of counter `n` once its window has ended: the window's count in mode 1, the greater one in mode 2. -/
abbrev windowLatched (s : State) (n : Nat) : Nat :=
  let w := s.ctr.win.getD n 0
  let mode := rd s (cfgFld n) / 2 ^ 16 % 4
  if mode = 1 then w % 2 ^ 48 else if mode = 2 then max (rd s (pcFld n)) w % 2 ^ 48 else rd s (pcFld n)

section
variable {n k : Nat} {h : Hdr} {p : List Byte} {s : State}

/-- The window of counter `n` emptied. -/
abbrev windowEmptied (n : Nat) (s : State) : State := { s with ctr := { s.ctr with win := s.ctr.win.set n 0 } }

/-- A window that ends writes its own counter and window alone. -/
theorem latchPc_cases : latchPc s n = s ∨ ∃ v, latchPc s n = wr (pcFld n) v (windowEmptied n s) := by
  unfold latchPc
  dsimp only
  split
  · exact .inr ⟨_, rfl⟩
  · split
    · exact .inr ⟨_, rfl⟩
    · exact .inl rfl

theorem latchPc_self (hn : n < 8) (x : s.tidy = true) : rd (latchPc s n) (pcFld n) = windowLatched s n := by
  have hself : ∀ v, rd (wr (pcFld n) v (windowEmptied n s)) (pcFld n) = v % 2 ^ 48 := fun v =>
    pcFld_width n hn ▸ rd_wr_self (s := windowEmptied n s) x
  have hmode : bitsAt (rd s (cfgFld n)) 16 2 = rd s (cfgFld n) / 2 ^ 16 % 4 := rfl
  unfold latchPc
  dsimp only [windowLatched]
  rw [hmode]
  by_cases hfirst : rd s (cfgFld n) / 2 ^ 16 % 4 = 1
  · rw [if_pos hfirst, if_pos hfirst]
    exact hself _
  · rw [if_neg hfirst, if_neg hfirst]
    by_cases hsecond : rd s (cfgFld n) / 2 ^ 16 % 4 = 2
    · rw [if_pos hsecond, if_pos hsecond]
      exact hself _
    · rw [if_neg hsecond, if_neg hsecond]

theorem latchPc_keeps (hn : n < 8) (x : s.tidy = true) : (latchPc s n).tidy = true ∧
    (∀ k < 8, rd (latchPc s n) (cfgFld k) = rd s (cfgFld k)) ∧
    (∀ k < 8, k ≠ n → rd (latchPc s n) (pcFld k) = rd s (pcFld k) ∧
      (latchPc s n).ctr.win.getD k 0 = s.ctr.win.getD k 0) ∧
    (latchPc s n).ctr.lastWin = s.ctr.lastWin := by
  obtain hsame | ⟨v, hmoved⟩ := latchPc_cases (n := n) (s := s)
  · rw [hsame]
    exact ⟨x, fun _ _ => rfl, fun _ _ _ => ⟨rfl, rfl⟩, rfl⟩
  · rw [hmoved]
    refine ⟨wr_tidy (pcFld_on_page n).1 x, fun k hk => ?_, fun k hk hne => ⟨?_, ?_⟩, rfl⟩
    · exact rdI_wrI_field (s := windowEmptied n s) (pcFld_on_page n).1 (cfgFld_known k) (pcFld_ne_cfgFld n hn k hk) x
    · exact rdI_wrI_field (s := windowEmptied n s) (pcFld_on_page n).1 (pcFld_on_page k).1 (pcFld_injective n hn k hk hne) x
    · simp [List.getD_eq_getElem?_getD, List.getElem?_set_ne hne.symm]

theorem windowLatched_latchPc (hn : n < 8) (hk : k < 8) (hne : k ≠ n) (x : s.tidy = true) :
    windowLatched (latchPc s n) k = windowLatched s k := by
  obtain ⟨-, hcfg, hothers, -⟩ := latchPc_keeps hn x
  simp only [windowLatched, hcfg k hk, hothers k hk hne]

/-- Windows of distinct counters end independently. -/
theorem foldl_latchPc {l : List Nat} (hl : ∀ n ∈ l, n < 8) (hnodup : l.Nodup) (x : s.tidy = true) (hk : k < 8) :
    rd (l.foldl latchPc s) (pcFld k) = if k ∈ l then windowLatched s k else rd s (pcFld k) := by
  induction l generalizing s with
  | nil => rfl
  | cons n l ih =>
    obtain ⟨hn, hl⟩ := List.forall_mem_cons.mp hl
    obtain ⟨hout, hnodup⟩ := List.nodup_cons.mp hnodup
    obtain ⟨x1, -, hothers, -⟩ := latchPc_keeps hn x
    rw [List.foldl_cons, ih hl hnodup x1]
    by_cases hne : k = n
    · subst hne
      rw [if_neg hout, if_pos List.mem_cons_self, latchPc_self hn x]
    · simp only [List.mem_cons, hne, false_or, windowLatched_latchPc hn hk hne x, (hothers k hk hne).1]

theorem foldl_latchPc_lastWin {l : List Nat} (s : State) : (l.foldl latchPc s).ctr.lastWin = s.ctr.lastWin := by
  induction l generalizing s with
  | nil => rfl
  | cons n l ih =>
    rw [List.foldl_cons, ih]
    obtain hsame | ⟨v, hmoved⟩ := latchPc_cases (n := n) (s := s)
    · rw [hsame]
    · rw [hmoved]
      rfl

/-- Every counter's window ends once at the boundary (16 R515). -/
theorem exec_counterWindowEnd_due (hload : s.beat.loaded = true) (hmult : s.beat.number % rd s P52.BW_WINDOW = 0)
    (hnew : s.ctr.lastWin ≠ s.beat.number) : exec .counterWindowEnd s =
      .next ((List.range 8).foldl latchPc { s with ctr := { s.ctr with lastWin := s.beat.number } }) := by
  refine congrArg Host.Outcome.next (if_neg ?_)
  rintro (hno | hoff | hdone)
  · exact absurd (hload.symm.trans hno) (by decide)
  · exact hoff hmult
  · exact hnew hdone

/-! Records read (16 R510). -/

/-- What a read picks: records in their order, no more than asked, each of the least severity or above. -/
theorem pickEvents_picks (sev m : Nat) (l : List EvRec) : (pickEvents sev m l).1.Sublist l ∧
    (pickEvents sev m l).1.length ≤ m ∧ ∀ e ∈ (pickEvents sev m l).1, sev ≤ e.flags % 4 := by
  fun_induction pickEvents sev m l with
  | case1 m => exact ⟨List.Sublist.refl _, Nat.zero_le _, nofun⟩
  | case2 l hl => exact ⟨List.nil_sublist _, Nat.le_refl _, nofun⟩
  | case3 m e l hsev r ih =>
    obtain ⟨hsub, hlen, hall⟩ := ih
    exact ⟨hsub.cons_cons e, Nat.succ_le_succ hlen, List.forall_mem_cons.mpr ⟨hsev, hall⟩⟩
  | case4 m e l hsev r ih =>
    obtain ⟨hsub, hlen, hall⟩ := ih
    exact ⟨hsub.cons e, hlen, hall⟩

/-! Snapshots (16 Table 16-4). -/

theorem snapWith_length (m : Nat) : (snapWith s (pcsNow s) m).length = 128 := by
  have hcounters : (List.map (List.length ∘ leB 6 ∘ fun n => rd s (pcFld n)) (List.range 8)).sum = 48 := by
    simp only [Function.comp_def, leB_length]
    rfl
  simp [snapWith, pcsNow, hcounters, zeros]

/-- Memory written moves memory alone. -/
theorem wrMems_eq {a : Nat} {bs : List Byte} : wrMems a bs s = { s with mem := (wrMems a bs s).mem } := by
  induction bs generalizing a s with
  | nil => rfl
  | cons b bs ih =>
    rw [wrMems, ih]
    rfl

/-! The checks of EVENT_READ and SELF_TEST. -/

theorem eventReadBody_bad : (byteAt p 4 = 0 → eventReadBody h p s = .fail stOutOfRange 32) ∧
    (byteAt p 4 ≠ 0 → 3 < byteAt p 5 → eventReadBody h p s = .fail stOutOfRange 40) ∧
    (byteAt p 4 ≠ 0 → byteAt p 5 ≤ 3 → seqAbove (leAt p 0 4) (rd s P51.NEXT_SEQ) = true →
      eventReadBody h p s = .fail stOutOfRange 0) :=
  ⟨fun hnone => if_pos hnone, fun hsome hsev => (if_neg hsome).trans (if_pos hsev),
    fun hsome hsev habove => (if_neg hsome).trans ((if_neg (Nat.not_lt.mpr hsev)).trans (if_pos habove))⟩

theorem eventReadBody_good (hsome : byteAt p 4 ≠ 0) (hsev : byteAt p 5 ≤ 3)
    (hstart : seqAbove (leAt p 0 4) (rd s P51.NEXT_SEQ) = false) :
    eventReadBody h p s = .doneAtBeat { cmd := some (.eventRead h p) } s := by
  simp only [eventReadBody, if_neg hsome, if_neg (Nat.not_lt.mpr hsev), hstart, if_neg Bool.false_ne_true]

theorem selfTestBody_other (htest : byteAt p 0 ≠ 1) : selfTestBody h p s = .fail stOutOfRange 0 := if_pos htest

theorem selfTestBody_busy (htest : byteAt p 0 = 1) (hrun : s.ctr.selfTest ≠ none) :
    selfTestBody h p s = .fail stBusy 0 :=
  (if_neg (not_not.mpr htest)).trans (if_pos (Option.isSome_iff_ne_none.mpr hrun))

/-- A test that may start: a function without tests is answered, another's is posted (16 R518). -/
theorem selfTestBody_free (htest : byteAt p 0 = 1) (hfree : s.ctr.selfTest = none) :
    (fnOf h ∉ [0x30, 0x40, 0x41, 0x42, 0x50, 0x52] → selfTestBody h p s = .done (leB 1 2 ++ zeros 15) s) ∧
    (fnOf h ∈ [0x30, 0x40, 0x41, 0x42, 0x50, 0x52] → selfTestBody h p s =
      .stays (postItem ⟨56, some (flowOf h), false, 8, .selfTest h, 0, false, false⟩
        { s with ctr := { s.ctr with selfTest := some h } })) := by
  have hstart : selfTestBody h p s = if hasTests (fnOf h) = false then .done (leB 1 2 ++ zeros 15) s else _ :=
    (if_neg (not_not.mpr htest)).trans (if_neg (by rw [hfree]; exact Bool.false_ne_true))
  have htests : hasTests (fnOf h) = true ↔ fnOf h ∈ [0x30, 0x40, 0x41, 0x42, 0x50, 0x52] := List.contains_iff_mem
  exact ⟨fun hno => hstart.trans (if_pos (Bool.eq_false_iff.mpr fun hyes => hno (htests.mp hyes))),
    fun hyes => hstart.trans (if_neg (by rw [htests.mpr hyes]; decide))⟩

end

/-- Settles O55: the commands by their checks, each event by what makes it due; the windows counter by counter. -/
theorem recorderComplete : Obligations.RecorderComplete := by
  refine ⟨?read, ?records, ?counters, ?test, ?flush, ?hours, ?window, ?snapshot⟩
  case read =>
    intro h p s r hs q next oldest
    obtain ⟨hcount, hsev, hstart⟩ := eventReadBody_bad (h := h) (p := p) (s := s)
    have fails : ∀ {st d}, eventReadBody h p s = .fail st d → r = ended h p st d s := fun hbody =>
      congrArg Host.Outcome.next (runCmd_fails hs hbody)
    exact ⟨fun h0 => fails (hcount h0), fun h1 h2 => fails (hsev h1 h2), fun h1 h2 h3 => fails (hstart h1 h2 h3),
      fun h1 h2 h3 => congrArg Host.Outcome.next (runCmd_atBoundary hs (eventReadBody_good h1 h2 h3))⟩
  case records =>
    intro p s oldest
    obtain ⟨hsub, hlen, hall⟩ := pickEvents_picks (byteAt p 5) (byteAt p 4) ((heldEvents s).filter (fun e =>
      e.seq == (if seqAbove oldest (leAt p 0 4) then oldest else leAt p 0 4) ||
        seqAbove e.seq (if seqAbove oldest (leAt p 0 4) then oldest else leAt p 0 4)))
    exact ⟨_, _, hlen, hsub.trans List.filter_sublist, hall, rfl⟩
  case counters =>
    intro h p s hs
    refine ⟨⟨congrArg Host.Outcome.next (runCmd_atBoundary hs rfl), snapWith_length 0⟩, fun hgood => ?_, fun b hbad => ?_⟩
    · exact congrArg Host.Outcome.next (runCmd_atBoundary hs (by rw [hgood]))
    · exact congrArg Host.Outcome.next (runCmd_fails hs (by rw [hbad]))
  case test =>
    intro h p s r hs
    refine ⟨fun htest => congrArg Host.Outcome.next (runCmd_fails hs (selfTestBody_other htest)),
      fun htest hrun => congrArg Host.Outcome.next (runCmd_fails hs (selfTestBody_busy htest hrun)), fun htest hfree => ?_⟩
    obtain ⟨hnone, hposts⟩ := selfTestBody_free (h := h) htest hfree
    exact ⟨fun hno => congrArg Host.Outcome.next (runCmd_done hs (hnone hno)),
      fun hyes => congrArg Host.Outcome.next (runCmd_stays hs (hposts hyes))⟩
  case flush =>
    intro s
    have hdue : (s.ev.pendAt + rd s P51.EVENT_FLUSH_MS * 8 ≤ s.now) ↔
        passed s s.ev.pendAt (msBeats (rd s P51.EVENT_FLUSH_MS)) = true := passed_iff.symm
    refine ⟨fun hidle hsome hwhen => congrArg Host.Outcome.next ((if_neg ?_).trans (if_pos (hwhen.imp_right hdue.mp))),
      fun hwait => congrArg Host.Outcome.next (if_pos hwait)⟩
    exact not_or.mpr ⟨by rw [hidle]; decide, hsome⟩
  case hours =>
    intro s
    exact ⟨fun hdue => congrArg Host.Outcome.next (if_neg (Nat.not_lt.mpr hdue)),
      fun hearly => congrArg Host.Outcome.next (if_pos hearly)⟩
  case window =>
    intro s
    refine ⟨fun hload hmult hnew => ⟨_, exec_counterWindowEnd_due hload hmult hnew, ?_, fun x n hn => ?_⟩,
      fun hnot => congrArg Host.Outcome.next (if_pos hnot)⟩
    · exact foldl_latchPc_lastWin _
    · exact (foldl_latchPc (s := { s with ctr := { s.ctr with lastWin := s.beat.number } })
        (fun m hm => List.mem_range.mp hm) List.nodup_range x hn).trans (if_pos (List.mem_range.mpr hn))
  case snapshot =>
    intro s n
    refine ⟨fun hper hload hmult hsound hnew => congrArg Host.Outcome.next ((if_neg ?_).trans ?_), fun hnot =>
      congrArg Host.Outcome.next (if_pos ?_)⟩
    · rintro (hno | hno | hno | hno | hno)
      · exact hper hno
      · exact absurd (hload.symm.trans hno) (by decide)
      · exact hno hmult
      · exact absurd (hsound.symm.trans hno) (by decide)
      · exact hnew hno
    · have hctr : (wrMems (snapBase s + (n - 1) % 4096 * 128) (snapWith s (snapPcs s) n) s).ctr = s.ctr := by
        rw [wrMems_eq]
      dsimp only
      rw [hctr]
    · exact hnot.imp_right (Or.imp_right .inr)

end Sys2Proof.Machine
end

section
/-! The flash store's events, addressed memory and its errors (13 R439 to R455; 14 R461 to R480). -/
namespace Sys2Proof.Machine

/-! What a commit changes in the store (13 R439). -/

/-- From `s` to `t` the flash store moved its blocks alone. -/
def BlksMoved (s t : State) : Prop := t.ftl = { s.ftl with blks := t.ftl.blks }

section
variable {s t u : State} {c : Chan} {part : Nat}

theorem BlksMoved.refl : BlksMoved s s := rfl

theorem BlksMoved.trans (h : BlksMoved s t) (g : BlksMoved t u) : BlksMoved s u := by
  unfold BlksMoved at h g ⊢
  rw [g, h]

theorem BlksMoved.same (h : t.ftl = s.ftl) : BlksMoved s t := by
  unfold BlksMoved
  rw [h]

theorem BlksMoved.foldl {α : Type} {f : State → α → State} {l : List α} (hf : ∀ x t, BlksMoved t (f t x)) :
    BlksMoved s (l.foldl f s) := by
  induction l generalizing s with
  | nil => exact .refl
  | cons x l ih => exact (hf x s).trans ih

theorem openBlk_blksMoved : BlksMoved s (openBlk c part s) := by
  unfold openBlk
  split
  · exact rfl
  · split
    · exact rfl
    · exact .refl

theorem takePage_blksMoved : BlksMoved s (takePage c part s).1 := by
  have hopen : BlksMoved s (if (openOf s c part).isSome then s else openBlk c part s) := by
    split
    · exact .refl
    · exact openBlk_blksMoved
  unfold takePage
  dsimp only
  split
  · exact hopen
  · exact hopen.trans rfl

theorem journalCopy_blksMoved {k w : Nat} {owner data : List Byte} : BlksMoved s (journalCopy c k w owner data s) := by
  have htake := takePage_blksMoved (s := s) (c := c) (part := ptSystem)
  unfold journalCopy
  split
  next ht =>
    rw [ht] at htake
    exact htake.trans (.same rfl)
  next ht =>
    rw [ht] at htake
    exact htake

theorem writeCommit_blksMoved {l : List (Nat × (Nat × (List Byte × List Byte)))} : BlksMoved s (writeCommit l s) :=
  .foldl fun _ _ => journalCopy_blksMoved.trans journalCopy_blksMoved

theorem takeSystem_blksMoved {n : Nat} : BlksMoved s (takeSystem n s) :=
  .foldl fun _ _ => takePage_blksMoved.trans takePage_blksMoved

theorem applyRec_blksMoved {r : JRec} : BlksMoved s (applyRec r s) := by
  unfold applyRec
  split
  · exact rfl
  · exact .refl

theorem count_ftl {ev q k : Nat} : (count ev q k s).ftl = s.ftl := by rw [count_counted.rest]

theorem ftlFields_ftl : (ftlFields s).ftl = s.ftl := rfl

theorem commitPending_idle (hnone : s.ftl.pendRecs = []) :
    commitPending s = { s with ftl := { s.ftl with lastCommitAt := s.now } } :=
  if_pos (List.isEmpty_iff.mpr hnone)

/-- A commit of pending records raises the commit number, and beside the tables of blocks and commits moves the counts of
pages and the time alone. -/
theorem commitPending_ftl (hsome : s.ftl.pendRecs ≠ []) : ∃ cs n w blks, (commitPending s).ftl =
    { s.ftl with commits := cs, commitNo := s.ftl.commitNo + 1, pendRecs := [], sinceSnap := n, wseq := w,
                 lastCommitAt := s.now, blks := blks } := by
  have hno : ¬ s.ftl.pendRecs.isEmpty = true := fun h => hsome (List.isEmpty_iff.mp h)
  unfold commitPending
  rw [if_neg hno]
  extract_lets rs n l pages ftl s1
  have hmoved : BlksMoved s1 (rs.foldl (fun t r => applyRec r t) (count 0x07 1 pages (count 0x07 0 pages
      (writeCommit (((List.range pages).map (fun i => s.ftl.wseq + 1 + i)).zip l) s1)))) :=
    writeCommit_blksMoved.trans ((BlksMoved.same count_ftl).trans ((BlksMoved.same count_ftl).trans
      (.foldl fun _ _ => applyRec_blksMoved)))
  exact ⟨_, _, _, _, ftlFields_ftl.trans hmoved⟩

theorem commitPending_commits : (commitPending s).ftl.pendRecs = [] ∧ (commitPending s).ftl.lastCommitAt = s.now ∧
    (commitPending s).ftl.commitNo = s.ftl.commitNo + (if s.ftl.pendRecs = [] then 0 else 1) := by
  by_cases hnone : s.ftl.pendRecs = []
  · rw [commitPending_idle hnone, if_pos hnone]
    exact ⟨hnone, rfl, rfl⟩
  · obtain ⟨cs, n, w, blks, hftl⟩ := commitPending_ftl hnone
    rw [hftl, if_neg hnone]
    exact ⟨rfl, rfl, rfl⟩

/-- A commit leaves the anchor, the lost dies and what garbage collection has posted. -/
theorem commitPending_leaves : (commitPending s).ftl.anchorSeq = s.ftl.anchorSeq ∧
    (commitPending s).ftl.dieLost = s.ftl.dieLost := by
  by_cases hnone : s.ftl.pendRecs = []
  · rw [commitPending_idle hnone]
    exact ⟨rfl, rfl⟩
  · obtain ⟨cs, n, w, blks, hftl⟩ := commitPending_ftl hnone
    rw [hftl]
    exact ⟨rfl, rfl⟩

theorem postRec_leaves {r : JRec} : (postRec r s).ftl.anchorSeq = s.ftl.anchorSeq ∧
    (postRec r s).ftl.dieLost = s.ftl.dieLost := by
  unfold postRec
  dsimp only
  rw [ftlFields_ftl]
  split
  · exact commitPending_leaves
  · exact ⟨rfl, rfl⟩

/-! The store's events. -/

theorem exec_journalCommit : exec .journalCommit s =
    .next (if granted s .journal then commitPending (spend .journal s) else s) := rfl

theorem exec_journalMsExpire : exec .journalMsExpire s = .next (if granted s .journal = true ∧
    passed s s.ftl.lastCommitAt (msBeats (rd s P41.JOURNAL_MS)) = true then commitPending (spend .journal s) else s) := rfl

/-- A snapshot that is due and granted: its record is committed and the anchor moves on (13 R441). -/
theorem exec_ftlSnapshot_due (hdue : rd s P41.SNAP_PAGES ≤ s.ftl.sinceSnap) (hgrant : granted s .ftlSnap = true) :
    ∃ u, exec .ftlSnapshot s = .next (releaseSystem
        (s.ftl.blks.filter (fun b => b.part == ptSystem && b.st == .closed)) u) ∧
      u.ftl.snapNo = s.ftl.snapNo + 1 ∧ u.ftl.sinceSnap = 0 ∧ u.ftl.commits = [] ∧
      u.ftl.anchorSeq = s.ftl.anchorSeq + 1 ∧ u.ftl.pendRecs = [] := by
  have hgo : ¬ (s.ftl.sinceSnap < rd s P41.SNAP_PAGES ∨ granted s .ftlSnap = false) :=
    not_or.mpr ⟨Nat.not_lt.mpr hdue, by rw [hgrant]; exact Bool.true_eq_false_eq_False⟩
  obtain ⟨t, ht⟩ : ∃ t, t = commitPending (postRec ⟨10, ptSystem, .c0, s.ftl.snapNo + 1, systemBlk s, snapPages s⟩
    (takeSystem (snapPages s) (spend .ftlSnap s))) := ⟨_, rfl⟩
  have hanchor : t.ftl.anchorSeq = s.ftl.anchorSeq := by
    rw [ht, commitPending_leaves.1, postRec_leaves.1, takeSystem_blksMoved]
    rfl
  have hpend : t.ftl.pendRecs = [] := ht ▸ commitPending_commits.1
  refine ⟨{ t with ftl := { t.ftl with snapNo := s.ftl.snapNo + 1, snapCommit := t.ftl.commitNo, sinceSnap := 0,
                                       commits := [], anchorSeq := t.ftl.anchorSeq + 1 } },
    ?_, rfl, rfl, rfl, congrArg (· + 1) hanchor, hpend⟩
  rw [ht]
  exact if_neg hgo

theorem exec_ftlSnapshot_waits (hwait : s.ftl.sinceSnap < rd s P41.SNAP_PAGES ∨ granted s .ftlSnap = false) :
    exec .ftlSnapshot s = .next s := if_pos hwait

theorem exec_eraseDone_waits {d b : Nat} {x : Blk} (hwait : waitsErase s c d b = true)
    (hx : s.ftl.blks.find? (isBlk c d b) = some x) : exec (.eraseDone c d b) s =
      .next (postRec ⟨4, x.part, c, dieBlk d b, x.erases + 1, 0⟩ { s with ftl := { s.ftl with
        blks := s.ftl.blks.map (fun y => if isBlk c d b y then { y with erases := y.erases + 1 } else y) } }) := by
  change execEraseDone c d b s = _
  simp only [execEraseDone, hx, hwait, if_true]
  rfl

theorem exec_eraseDone_other {d b : Nat} (hno : waitsErase s c d b = false) : exec (.eraseDone c d b) s = .next s := by
  change execEraseDone c d b s = _
  unfold execEraseDone
  split
  · exact if_neg (by rw [hno]; exact Bool.false_ne_true)
  · rfl

theorem afterRead_corrected {r : PageRead} {n : Nat} (hbits : r.bits = some n) : afterRead r s =
    if rd s P41.REFRESH_BITS < n then bump P41.REFRESHES (rewriteRead r s) else s := by
  simp only [afterRead, hbits]

/-- What is posted waits in the queue with its level and work, and what waited stays. -/
theorem mem_postItem {i j : SettItem} : j ∈ (postItem i s).sett.queue ↔ j = i ∨ j ∈ s.sett.queue := by
  have hside : (j ∈ s.sett.queue ∧ j.level ≤ i.level) ∨ (j ∈ s.sett.queue ∧ i.level < j.level) ↔ j ∈ s.sett.queue := by
    rw [← and_or_left]
    exact and_iff_left (Nat.lt_or_ge i.level j.level).symm
  simp only [postItem, List.mem_append, List.mem_filter, List.mem_singleton, decide_eq_true_eq]
  rw [← hside]
  tauto

/-- A die's loss is committed, logged and posted for rewriting once (13 R445). -/
theorem exec_flashDieLost_new {d : Fin 16} {busy : Bool} (hfails : (busy || dieFails s c d) = true)
    (hnew : (c, d.val) ∉ s.ftl.dieLost) : ∃ t, exec (.flashDieLost c d busy) s = .next t ∧ (c, d.val) ∈ t.ftl.dieLost ∧
      (s.tidy → rd t P41.MAP_SINGLE = 1) ∧ ∃ i ∈ t.sett.queue, i.level = 7 ∧ i.work = .rereplicate ∧ i.thread := by
  obtain ⟨s1, hs1⟩ : ∃ u, u = { s with ftl := { s.ftl with dieLost := s.ftl.dieLost ++ [(c, d.val)] } } := ⟨_, rfl⟩
  obtain ⟨s2, hs2⟩ : ∃ u, u = logEv evFlashDieLost [] (commitPending (postRec ⟨9, 0, c, d.val, 0, 0⟩ s1)) := ⟨_, rfl⟩
  have hlost : s2.ftl.dieLost = s.ftl.dieLost ++ [(c, d.val)] := by
    rw [hs2, logEv_ftl, commitPending_leaves.2, postRec_leaves.2, hs1]
  have htidy : s.tidy = true → s2.tidy = true := fun x => by
    rw [hs2]
    exact logEv_logged.tidy (commitPending_journal.wrote.tidy (postRec_journal.wrote.tidy (hs1 ▸ x)))
  refine ⟨postItem (threadItem 7 none 0 .rereplicate) (wr P41.MAP_SINGLE 1 s2), ?_, ?_, fun x => ?_,
    _, mem_postItem.mpr (.inl rfl), rfl, rfl, rfl⟩
  · rw [hs2, hs1]
    exact if_pos ⟨hfails, by simpa using hnew⟩
  · rw [show (postItem _ (wr P41.MAP_SINGLE 1 s2)).ftl.dieLost = _ from hlost]
    exact List.mem_append_right _ (List.mem_singleton_self _)
  · exact rd_wr_self (htidy x)

theorem exec_flashDieLost_other {d : Fin 16} {busy : Bool}
    (hno : (busy || dieFails s c d) = false ∨ (c, d.val) ∈ s.ftl.dieLost) :
    exec (.flashDieLost c d busy) s = .next s := by
  refine if_neg fun hgo => ?_
  obtain hfine | hknown := hno
  · exact Bool.false_ne_true (hfine.symm.trans hgo.1)
  · exact absurd hgo.2 (by simpa using hknown)

theorem exec_gcPost_posts {l : Nat} (hlevel : gcLevel s part c = some l) (hnew : gcQueued s part c l = false) :
    exec (.gcPost part c) s = .next (postItem { level := l, flow := none, thread := true, charge := 48, work := .gc part c }
      { s with ftl := { s.ftl with gcPosted := (part, c) :: s.ftl.gcPosted.filter (fun x => x != (part, c)) } }) := by
  change execGcPost part c s = _
  simp only [execGcPost, hlevel, postGc, hnew, if_neg Bool.false_ne_true]

theorem exec_gcPost_queued {l : Nat} (hlevel : gcLevel s part c = some l) (hqueued : gcQueued s part c l = true) :
    exec (.gcPost part c) s = .next s := by
  change execGcPost part c s = _
  simp only [execGcPost, hlevel, postGc, hqueued, if_true]

theorem exec_gcPost_none (hlevel : gcLevel s part c = none) : exec (.gcPost part c) s = .next s := by
  change execGcPost part c s = _
  simp only [execGcPost, hlevel]

theorem exec_wearLevelMove_moves {b : Blk} (hdue : levelDue s c = true) (hgrant : granted s .wear = true)
    (hcold : lowestErased (s.ftl.blks.filter (fun b => b.chan == c && b.st == .closed)) = some b) :
    exec (.wearLevelMove c) s = .next (levelBlk b (spend .wear { s with ftl := { s.ftl with
      levelling := c :: s.ftl.levelling.filter (fun x => x != c) } })) := by
  change execWearLevelMove c s = _
  simp only [execWearLevelMove, hdue, hgrant, hcold, Bool.true_eq_false, if_false]

theorem exec_wearLevelMove_waits (hdue : levelDue s c = true) (hno : granted s .wear = false) :
    exec (.wearLevelMove c) s = .next s := by
  change execWearLevelMove c s = _
  simp only [execWearLevelMove, hdue, hno, Bool.true_eq_false, if_false, if_true]

/-! MEM_READ and DMA_START (14 R468, R469). -/

variable {h : Hdr} {p : List Byte}

/-- A range that MEM_READ accepts (14 R468). -/
abbrev memReadable (s : State) (a n : Nat) : Prop :=
  a % 16 = 0 ∧ 16 ≤ n ∧ n ≤ 4096 ∧ n % 16 = 0 ∧ addressable s a n = true

theorem memReadBody_good (hgood : memReadable s (leAt p 0 8) (leAt p 8 4)) : memReadBody p s =
    .done (leB 8 (leAt p 0 8) ++ leB 2 (leAt p 8 4)
      ++ leB 1 (b2n ((List.range (leAt p 8 4)).any (fun i => poisonedAt s (leAt p 0 8 + i)))
        + 2 * b2n (showsKey (leAt p 0 8) (leAt p 8 4))) ++ zeros 5
      ++ (List.range (leAt p 8 4)).map (fun i => if poisonedAt s (leAt p 0 8 + i) then 0 else memAt s (leAt p 0 8 + i)))
      (drawn s) := by
  obtain ⟨halign, hmin, hmax, hsize, hrange⟩ := hgood
  have hgo : ¬ (leAt p 0 8 % 16 ≠ 0 ∨ leAt p 8 4 < 16 ∨ 4096 < leAt p 8 4 ∨ leAt p 8 4 % 16 ≠ 0 ∨
      addressable s (leAt p 0 8) (leAt p 8 4) = false) := by
    rintro (hodd | hfew | hmany | hodd | hout)
    · exact hodd halign
    · exact Nat.not_le.mpr hfew hmin
    · exact Nat.not_le.mpr hmany hmax
    · exact hodd hsize
    · exact Bool.false_ne_true (hout.symm.trans hrange)
  have hzeros : ∀ l : List Byte, l ++ zeros 1 ++ zeros 4 = l ++ zeros 5 := fun l => List.append_assoc l _ _
  unfold memReadBody
  dsimp only
  rw [if_neg hgo, hzeros]
  rfl

theorem memReadBody_bad (hbad : ¬ memReadable s (leAt p 0 8) (leAt p 8 4)) : memReadBody p s = .fail stOutOfRange 0 := by
  refine if_pos ?_
  by_contra hgo
  simp only [not_or, not_not, Nat.not_lt, Bool.not_eq_false] at hgo
  exact hbad hgo

/-- The descriptor that DMA_START takes. -/
abbrev startDesc (p : List Byte) (s : State) : List Byte := leB 32 (rd s (descFld (byteAt p 0)))

theorem dmaStartBody_channel (hn : byteAt p 0 < 12 ∨ 15 < byteAt p 0) : dmaStartBody p s = .fail stOutOfRange 0 := if_pos hn

theorem dmaStartBody_busy (hlo : 12 ≤ byteAt p 0) (hhi : byteAt p 0 ≤ 15)
    (hrun : ∃ r ∈ s.memory.runs, r.chan = byteAt p 0) : dmaStartBody p s = .fail stBusy 0 :=
  (if_neg (by omega)).trans (if_pos (by simpa using hrun))

/-- A good descriptor of a channel that is not queued: its destination decides (14 R469). -/
theorem dmaStartBody_good (hlo : 12 ≤ byteAt p 0) (hhi : byteAt p 0 ≤ 15)
    (hfree : ∀ r ∈ s.memory.runs, r.chan ≠ byteAt p 0) (hdesc : descBad s (startDesc p s) = none) : dmaStartBody p s =
      if usesDst (startDesc p s) = true ∧ inScratch s (dDst (startDesc p s)) (dLen (startDesc p s)) = false then
        .fail stDeniedState 0
      else .done (sliceB (startDesc p s) 4 4 ++ leB 1 s.memory.runs.length ++ zeros 3) (dmaFields
        { s with memory := { s.memory with runs := s.memory.runs ++ [{ chan := byteAt p 0, desc := startDesc p s }] } }) := by
  have hidle : ¬ s.memory.runs.any (fun r => r.chan == byteAt p 0) = true := by simpa using hfree
  unfold dmaStartBody
  dsimp only
  rw [if_neg (by omega), if_neg hidle, hdesc]

/-! DMA runs (14 R470). -/

variable {r : DmaRun} {l : List DmaRun}

theorem exec_dmaRunComplete (hon : s.memory.dmaOn = true) (hruns : s.memory.runs = r :: l) : exec .dmaRunComplete s =
    .next (if dmaBytes r < dLen r.desc then s else dmaFields (endRun r (b2n r.poison)
      (if dOp r.desc = 3 then (if r.poison then 0 else Nat.xor r.crc 0xFFFFFFFF) else dLen r.desc)
      { s with memory := { s.memory with runs := l, dmaOn := false } })) := by
  change execDmaRunComplete s = _
  simp only [execDmaRunComplete, hon, hruns]

theorem exec_dmaRunComplete_idle (hidle : s.memory.dmaOn = false ∨ s.memory.runs = []) :
    exec .dmaRunComplete s = .next s := by
  change execDmaRunComplete s = _
  unfold execDmaRunComplete
  split
  next hon hruns =>
    obtain hoff | hnone := hidle
    · exact absurd (hon.symm.trans hoff) (by decide)
    · exact absurd (hruns.symm.trans hnone) (by simp)
  · rfl

theorem endRun_memory {a b : Nat} : (endRun r a b s).memory = s.memory := by
  unfold endRun
  dsimp only
  rw [wrMems_eq]
  rfl

/-- An ended run's record takes the next sequence (14 R470). -/
theorem rd_cqSeq_endRun {a b : Nat} (x : s.tidy = true) : rd (endRun r a b s) P43.CQ_SEQ = (rd s P43.CQ_SEQ + 1) % 2 ^ 32 ∧
    (endRun r a b s).tidy = true := by
  have x1 := wrMems_tidy (a := cqBase + rd s P43.CQ_SEQ % 4096 * 16) (bs := cqRecord r a b (rd s P43.CQ_SEQ)) x
  have x2 := wr_tidy (v := rd s P43.CQ_SEQ + 1) P43.CQ_SEQ_known x1
  exact ⟨(rdI_wrI_field P43.RUNS_DONE_known P43.CQ_SEQ_known (by decide) x2).trans (rd_wr_self x1),
    wrI_tidy P43.RUNS_DONE_known x2⟩

theorem dmaFields_memory : (dmaFields s).memory = s.memory := rfl

theorem rd_cqSeq_dmaFields (x : s.tidy = true) : rd (dmaFields s) P43.CQ_SEQ = rd s P43.CQ_SEQ :=
  (rdI_wrI_field P43.CHAN_BUSY_known P43.CQ_SEQ_known (by decide) (wr_tidy P43.RUNNING_known x)).trans
    (rdI_wrI_field P43.RUNNING_known P43.CQ_SEQ_known (by decide) x)

theorem rd_running_dmaFields (hoff : s.memory.dmaOn = false) (x : s.tidy = true) : rd (dmaFields s) P43.RUNNING = 0xFF := by
  unfold dmaFields
  rw [hoff]
  exact (rdI_wrI_field P43.CHAN_BUSY_known P43.RUNNING_known (by decide) (wr_tidy P43.RUNNING_known x)).trans (rd_wr_self x)

/-! Errors (14 R464 to R467). -/

theorem poisonedAt_markPoison {a : Nat} : poisonedAt (markPoison a s) a = true := by
  unfold markPoison
  split
  next hold => exact hold
  · simp [poisonedAt]

theorem uncorrectable_poisons {a : Nat} (x : s.tidy = true) :
    poisonedAt (uncorrectable a s) a = true ∧ rd (uncorrectable a s) P42.LAST_UE_ADDR = a % 2 ^ 64 := by
  have hmark : (markPoison a s).tidy = true := by
    unfold markPoison
    split <;> exact x
  have x1 : (bump P42.UE_COUNT (markPoison a s)).tidy = true := wrI_tidy P42.UE_COUNT_known hmark
  have x2 := wr_tidy (v := a) P42.LAST_UE_ADDR_known x1
  refine ⟨?_, ?_⟩
  · have hmemory : (uncorrectable a s).memory = (markPoison a s).memory := by
      unfold uncorrectable
      rw [logEv_logged.rest]
      rfl
    unfold poisonedAt
    rw [hmemory]
    exact poisonedAt_markPoison
  · exact (logEv_logged.regs x2 _ 0 P42.LAST_UE_ADDR_known (by decide) (by decide)).trans (rd_wr_self x1)

theorem exec_dramPatrolScrub_poison {a : Nat} {corr live : Bool} : exec (.dramPatrolScrub a corr true live) s =
    .next (if s.memory.retired.contains (a / 4096) then uncorrectable a s
      else if live then memReset a (uncorrectable a s) else retirePage a (uncorrectable a s)) := rfl

end

/-- Settles O56: each event of the store and of memory by its condition, each command by its checks. -/
theorem storeAndMemoryComplete : Obligations.StoreAndMemoryComplete := by
  refine ⟨?journal, fun s => commitPending_commits, fun s => ⟨exec_ftlSnapshot_due, exec_ftlSnapshot_waits⟩, ?erase, ?reads,
    fun c d busy s => ⟨exec_flashDieLost_new, exec_flashDieLost_other⟩, ?collect, ?wear, ?commands,
    ?starts, ?ends, fun s => exec_dmaRunComplete_idle, fun a s => rfl, fun a s x => ⟨_, rfl, uncorrectable_poisons x⟩, ?patrol,
    ?scrub, ?core, ?lane, ?dma, fun a s => rfl, ?fifo⟩
  case journal =>
    intro s
    have hdue : s.ftl.lastCommitAt + rd s P41.JOURNAL_MS * 8 ≤ s.now ↔
        passed s s.ftl.lastCommitAt (msBeats (rd s P41.JOURNAL_MS)) = true := passed_iff.symm
    refine ⟨fun hgrant => ⟨exec_journalCommit.trans (congrArg _ (if_pos hgrant)), fun hlate =>
      exec_journalMsExpire.trans (congrArg _ (if_pos ⟨hgrant, hdue.mp hlate⟩))⟩,
      fun hno => exec_journalCommit.trans (congrArg _ (if_neg (by rw [hno]; exact Bool.false_ne_true))),
      fun hwait => exec_journalMsExpire.trans (congrArg _ (if_neg fun hgo => ?_))⟩
    obtain hno | hearly := hwait
    · exact Bool.false_ne_true (hno.symm.trans hgo.1)
    · exact Nat.not_le.mpr hearly (hdue.mpr hgo.2)
  case erase =>
    intro c d b s
    exact ⟨fun hwait => congrArg Host.Outcome.next (if_pos hwait), fun hno =>
      ⟨congrArg Host.Outcome.next (if_neg (by rw [hno]; exact Bool.false_ne_true)), exec_eraseDone_other hno⟩,
      fun x hwait hx => exec_eraseDone_waits hwait hx⟩
  case reads =>
    intro r s
    exact ⟨rfl, fun hgrant => congrArg Host.Outcome.next (if_pos hgrant),
      fun hno => congrArg Host.Outcome.next (if_neg (by rw [hno]; exact Bool.false_ne_true)),
      fun n hbits hfew => (afterRead_corrected hbits).trans (if_neg (Nat.not_lt.mpr hfew)),
      fun n hbits hmany => (afterRead_corrected hbits).trans (if_pos hmany)⟩
  case collect =>
    intro part c s
    refine ⟨fun l hlevel => ⟨fun hnew => ⟨_, exec_gcPost_posts hlevel hnew, List.mem_cons_self, ?_, ?_⟩,
      exec_gcPost_queued hlevel⟩, exec_gcPost_none⟩
    · exact ⟨_, mem_postItem.mpr (.inl rfl), rfl, rfl⟩
    · exact fun i hi => mem_postItem.mpr (.inr hi)
  case wear =>
    intro c s r
    exact ⟨fun b => exec_wearLevelMove_moves, exec_wearLevelMove_waits, fun hno => congrArg Host.Outcome.next (if_pos hno)⟩
  case commands =>
    intro h p s hs
    refine ⟨congrArg Host.Outcome.next (runCmd_done hs rfl), ?_, ?_⟩
    · exact ⟨fun hgood => congrArg Host.Outcome.next (runCmd_done hs (memReadBody_good hgood)),
        fun hbad => congrArg Host.Outcome.next (runCmd_fails hs (memReadBody_bad hbad))⟩
    · refine ⟨fun hn => congrArg Host.Outcome.next (runCmd_fails hs (dmaStartBody_channel hn)), fun hlo hhi =>
        ⟨fun hrun => congrArg Host.Outcome.next (runCmd_fails hs (dmaStartBody_busy hlo hhi hrun)), fun hfree hdesc => ?_⟩⟩
      have hbody := dmaStartBody_good hlo hhi hfree hdesc
      refine ⟨fun hdst hout => congrArg Host.Outcome.next (runCmd_fails hs (hbody.trans (if_pos ⟨hdst, hout⟩))),
        fun hin => congrArg Host.Outcome.next (runCmd_done hs (hbody.trans (if_neg fun hno => ?_)))⟩
      exact Bool.false_ne_true (hno.2.symm.trans (hin hno.1))
  case starts =>
    intro s
    refine ⟨fun hoff hsome => congrArg Host.Outcome.next (if_neg ?_), fun hno => congrArg Host.Outcome.next (if_pos hno)⟩
    exact not_or.mpr ⟨by rw [hoff]; exact Bool.false_ne_true, hsome⟩
  case ends =>
    intro r l s hon hruns
    have hexec := exec_dmaRunComplete hon hruns
    refine ⟨fun hdone => ⟨_, hexec.trans (congrArg _ (if_neg (Nat.not_lt.mpr hdone))), ?_, ?_, fun x => ?_⟩,
      fun hmore => hexec.trans (congrArg _ (if_pos hmore))⟩
    · rw [dmaFields_memory, endRun_memory]
    · rw [dmaFields_memory, endRun_memory]
    · obtain ⟨hseq, x1⟩ := rd_cqSeq_endRun (r := r) (a := b2n r.poison)
        (b := if dOp r.desc = 3 then (if r.poison then 0 else Nat.xor r.crc 0xFFFFFFFF) else dLen r.desc)
        (s := { s with memory := { s.memory with runs := l, dmaOn := false } }) x
      exact ⟨(rd_cqSeq_dmaFields x1).trans hseq, rd_running_dmaFields (by rw [endRun_memory]) x1⟩
  case patrol =>
    intro a c live s
    have hretired : s.memory.retired.contains (a / 4096) = true ↔ a / 4096 ∈ s.memory.retired := List.contains_iff_mem
    refine ⟨fun hold => exec_dramPatrolScrub_poison.trans (congrArg _ (if_pos (hretired.mpr hold))), fun hnew => ?_, rfl, rfl⟩
    exact ⟨exec_dramPatrolScrub_poison.trans (congrArg _ (if_neg (hretired.not.mpr hnew))),
      exec_dramPatrolScrub_poison.trans (congrArg _ (if_neg (hretired.not.mpr hnew)))⟩
  case scrub =>
    intro n s
    exact ⟨fun hdue => congrArg Host.Outcome.next (if_pos (passed_iff.mpr hdue)),
      fun hearly => congrArg Host.Outcome.next (if_neg fun hdue => Nat.not_le.mpr hearly (passed_iff.mp hdue))⟩
  case core =>
    intro k fn s
    refine ⟨_, rfl, ?_, rfl⟩
    change (assocGet fn (assocSet fn _ s.cmd.funcFailed)).isSome = true
    rw [assocGet_assocSet_self]
    rfl
  case lane =>
    intro n s
    refine ⟨fun j hj => ?_, fun hnone => ?_⟩
    · change execPoisonConsumed (.lane n) s = _
      simp only [execPoisonConsumed, hj]
    · change execPoisonConsumed (.lane n) s = _
      simp only [execPoisonConsumed, hnone]
  case dma =>
    intro r l s hon hruns
    change execPoisonConsumed .dma s = _
    simp only [execPoisonConsumed, hon, hruns]
  case fifo =>
    intro n s
    refine ⟨fun hlo hhi => congrArg Host.Outcome.next (if_pos ⟨hlo, hhi⟩), fun hout => congrArg Host.Outcome.next (if_neg ?_)⟩
    omega

end Sys2Proof.Machine
end

section
/-! Key slots, lane jobs, tamper (12 R409 to R424). -/
namespace Sys2Proof.Machine

section
variable {s t : State} {h : Hdr} {p key : List Byte} {n k attr type modes : Nat} {persist : Bool} {o : Origin}

/-! Slots as their commands change them (12 R415, R419). -/

/-- Operations that leave the key store alone leave it alone one after another. -/
theorem foldl_keys {α : Type} {f : State → α → State} {l : List α} (hf : ∀ t x, (f t x).keys = t.keys) :
    (l.foldl f s).keys = s.keys := by
  induction l generalizing s with
  | nil => rfl
  | cons x l ih => rw [List.foldl_cons, ih, hf]

theorem keySlotAt_congr (hslots : t.keys.slots = s.keys.slots) : keySlotAt t n = keySlotAt s n := by
  unfold keySlotAt
  rw [hslots]

theorem keySlotAt_of_set {x : KeySlot} (hslots : t.keys.slots = assocSet n x s.keys.slots) :
    keySlotAt t n = x ∧ ∀ k, k ≠ n → keySlotAt t k = keySlotAt s k := by
  unfold keySlotAt
  rw [hslots]
  exact ⟨by rw [assocGet_assocSet_self]; rfl, fun k hne => by rw [assocGet_assocSet_ne hne]⟩

theorem assocGet_assocDel_ne {α β : Type} [DecidableEq α] {j i : α} {l : List (α × β)} (hne : j ≠ i) :
    assocGet j (assocDel i l) = assocGet j l := by
  induction l with
  | nil => rfl
  | cons x l ih =>
    obtain ⟨m, v⟩ := x
    by_cases hm : m = i
    · have hj : ¬ j = m := fun e => hne (e.trans hm)
      have hdel : assocDel i ((m, v) :: l) = assocDel i l := by simp [assocDel, hm]
      rw [hdel, ih, assocGet, if_neg hj]
    · have hdel : assocDel i ((m, v) :: l) = (m, v) :: assocDel i l := by simp [assocDel, hm]
      rw [hdel, assocGet, assocGet, ih]

theorem keySlotAt_freeSlot : keySlotAt (freeSlot n s) n = {} ∧ ∀ k, k ≠ n → keySlotAt (freeSlot n s) k = keySlotAt s k := by
  have hslots : (freeSlot n s).keys.slots = assocDel n s.keys.slots := rfl
  unfold keySlotAt
  rw [hslots]
  exact ⟨by rw [assocGet_assocDel_self]; rfl, fun k hne => by rw [assocGet_assocDel_ne hne]⟩

theorem freshCounters_keys : (freshCounters n s).keys = s.keys := by
  unfold freshCounters
  refine (foldl_keys ?_).trans (foldl_keys ?_) <;> exact fun _ _ => rfl

/-- The content of a slot that a fill leaves (12 R419). -/
abbrev filledKey (n attr type modes : Nat) (persist : Bool) (key : List Byte) (o : Origin) (s : State) : KeySlot :=
  { attr := attr, type := type, modes := modes, persist := persist, loaded := true, key := key, origin := o,
    gen := ((keySlotAt s n).gen + 1) % 65536, filledAt := legalSec s }

theorem fillSlot_slots : (fillSlot h n attr type modes persist key o s).keys.slots =
    assocSet n (filledKey n attr type modes persist key o s) s.keys.slots := by
  unfold fillSlot
  dsimp only
  split
  · rw [wr_keys, freshCounters_keys]
    rfl
  · rw [freshCounters_keys]
    rfl

theorem keySlotAt_fillSlot : keySlotAt (fillSlot h n attr type modes persist key o s) n =
      filledKey n attr type modes persist key o s ∧
    ∀ k, k ≠ n → keySlotAt (fillSlot h n attr type modes persist key o s) k = keySlotAt s k :=
  keySlotAt_of_set fillSlot_slots

/-! What a fill needs of its slot and of debug (12 R422, R425). -/

theorem targetBad_free (hn : n ≠ 0) (hfree : (keySlotAt s n).loaded = false)
    (hattr : (keySlotAt s n).attr = 0 ∨ (keySlotAt s n).attr = attr) : targetBad s n attr = false := by
  unfold targetBad
  obtain hzero | hsame := hattr
  · simp [hn, hfree, hzero]
  · simp [hn, hfree, hsame]

theorem persistDenied_free {v i : Nat} (hdebug : v.testBit i = true → rd s P40.DEBUG_ACTIVE = 0) :
    persistDenied s (bitAt v i) = false := by
  unfold persistDenied
  rw [bitAt_eq_testBit]
  cases hbit : v.testBit i with
  | false => rfl
  | true => rw [rdB_eq_false.mpr (hdebug hbit)]; rfl

/-- A fill is accepted with the slot and its raised SLOT_GEN (12 R421, R422). -/
theorem runCmd_fills {body : State → Ans} {c : Instr} (hs : Served h p true s) (hbody : body s = fillAnswer c n t) :
    runCmd h p true body s =
      accepted h p (leB 2 n ++ leB 2 (keySlotAt t n).gen) (keyInfo t n) c [n] t :=
  runCmd_acceptsIn hs hbody

/-! KEY_GENERATE and KEY_AGREE (12 R414, R423). -/

theorem keyGenerateBody_dead (hbad : s.keys.entropyBad = true) : keyGenerateBody h p s = .fail stFuncFailed 0x0040 :=
  if_pos hbad

/-- The state of a slot filled by KEY_GENERATE. -/
abbrev generatedSlot (h : Hdr) (p : List Byte) (s : State) : State :=
  drawn (fillSlot h (leAt p 0 2 % 512) (byteAt p 4) (byteAt p 5) (byteAt p 6) (bitAt (leAt p 0 2) 15)
    (randomKey s (byteAt p 5)) .generated (if byteAt p 5 = 3 then postP256 17 s else s))

theorem keyGenerateBody_fills (hlive : s.keys.entropyBad = false)
    (hhead : headOk (byteAt p 4) (byteAt p 5) (byteAt p 6) = true)
    (htarget : targetBad s (leAt p 0 2 % 512) (byteAt p 4) = false)
    (hdebug : persistDenied s (bitAt (leAt p 0 2) 15) = false) :
    keyGenerateBody h p s = fillAnswer (.keyGenerate h p) (leAt p 0 2 % 512) (generatedSlot h p s) := by
  unfold keyGenerateBody
  dsimp only
  rw [hlive, hhead, htarget, hdebug]
  rfl

theorem randomKey_length : (randomKey s type).length = if type = 1 then 16 else 32 := by
  unfold randomKey
  dsimp only
  by_cases hprivate : type = 3
  · rw [if_pos hprivate, hprivate, beB, List.length_reverse, leB_length]
    rfl
  · rw [if_neg hprivate, List.length_map, List.length_range]
    rfl

/-- The posted P-256 job leaves the slots. -/
theorem keySlotAt_generatedSlot : ∃ x, keySlotAt (generatedSlot h p s) (leAt p 0 2 % 512) = x ∧ x.loaded = true ∧
    x.origin = .generated ∧ x.attr = byteAt p 4 ∧ x.gen = ((keySlotAt s (leAt p 0 2 % 512)).gen + 1) % 65536 ∧
    x.key = randomKey s (byteAt p 5) ∧
    ∀ k, k ≠ leAt p 0 2 % 512 → keySlotAt (generatedSlot h p s) k = keySlotAt s k := by
  obtain ⟨u, hu⟩ : ∃ u, u = (if byteAt p 5 = 3 then postP256 17 s else s) := ⟨_, rfl⟩
  have hslots : u.keys.slots = s.keys.slots := by
    rw [hu]
    split <;> rfl
  obtain ⟨hself, hothers⟩ := keySlotAt_fillSlot (h := h) (n := leAt p 0 2 % 512) (attr := byteAt p 4) (type := byteAt p 5)
    (modes := byteAt p 6) (persist := bitAt (leAt p 0 2) 15) (key := randomKey s (byteAt p 5)) (o := .generated) (s := u)
  unfold generatedSlot
  rw [← hu]
  refine ⟨_, hself, rfl, rfl, rfl, ?_, rfl, fun k hne => (hothers k hne).trans (keySlotAt_congr hslots)⟩
  simp only [keySlotAt_congr hslots]

/-- What KEY_AGREE needs of the chip, of its own key and of the header it is given. -/
abbrev MayAgree (p : List Byte) (s : State) : Prop :=
  s.keys.entropyBad = false ∧ (anySlot s (leAt p 0 2 % 512)).attr = 4 ∧ (anySlot s (leAt p 0 2 % 512)).loaded = true ∧
    byteAt p 4 ≠ 4 ∧ headOk (byteAt p 4) (byteAt p 5) (byteAt p 6) = true

theorem keyAgreeBody_may (hmay : MayAgree p s) (onCurve : Bool) : keyAgreeBody h p onCurve s =
    if onCurve = false then .fail stBadPayload 8
    else if targetBad s (leAt p 2 2 % 512) (byteAt p 4) || persistDenied s (bitAt (leAt p 2 2) 15) then .fail stDeniedState 0
    else fillAnswer (.keyAgree h p onCurve) (leAt p 2 2 % 512) (fillSlot h (leAt p 2 2 % 512) (byteAt p 4) (byteAt p 5)
      (byteAt p 6) (bitAt (leAt p 2 2) 15) (agreedKey (anySlot s (leAt p 0 2 % 512)).key p (byteAt p 5)) .agreed
      (postP256 17 s)) := by
  obtain ⟨hlive, hattr, hloaded, hother, hhead⟩ := hmay
  simp only [keyAgreeBody, hlive, hattr, hloaded, hhead, hother, Bool.false_eq_true, Bool.true_eq_false, if_false, ne_eq,
    not_true_eq_false, or_self, OfNat.ofNat_ne_zero]

/-! KEY_IMPORT (12 R422). -/

theorem exec_keyImport : exec (.keyImport h (p.take 24) (p.drop 24)) s = .next (runCmd h p true (keyImportBody h p) s) := by
  change Host.Outcome.next (runCmd h (p.take 24 ++ p.drop 24) true (keyImportBody h (p.take 24 ++ p.drop 24)) s) = _
  rw [List.take_append_drop]

/-- The checks of the form and of the data's length that come first. -/
theorem keyImportBody_formed (hform : byteAt p 0 = 1 ∨ byteAt p 0 = 2 ∨ byteAt p 0 = 3)
    (hlen : dataLenOk (byteAt p 0) (byteAt p 9) (p.length - 24) = true) : keyImportBody h p s =
      if byteAt p 0 = 1 ∧ rdB s P40.PLAIN_IMPORT = false then .fail stDeniedState 0
      else if byteAt p 0 = 3 then importMeter h p s else importSlot h p s := by
  unfold keyImportBody
  dsimp only
  rw [if_neg (by omega), if_neg (by rw [hlen]; decide)]

/-- What forms 1 and 2 need of their header and of the slot they fill. -/
abbrev MayImport (p : List Byte) (s : State) : Prop :=
  headOk (byteAt p 8) (byteAt p 9) (byteAt p 10) = true ∧ targetBad s (leAt p 2 2 % 512) (byteAt p 8) = false ∧
    persistDenied s (bitAt (byteAt p 12) 0) = false

/-- The instruction that a KEY_IMPORT is. -/
abbrev importInstr (h : Hdr) (p : List Byte) : Instr := .keyImport h (p.take 24) (p.drop 24)

/-- The state of a slot filled by KEY_IMPORT. -/
abbrev importedSlot (h : Hdr) (p key : List Byte) (o : Origin) (s : State) : State :=
  fillSlot h (leAt p 2 2 % 512) (byteAt p 8) (byteAt p 9) (byteAt p 10) (bitAt (byteAt p 12) 0) key o s

theorem importSlot_may (hmay : MayImport p s) : importSlot h p s =
    if byteAt p 0 = 1 then importKey h p (importInstr h p) (p.drop 24) .plain s
    else if (keySlotAt s (leAt p 16 2 % 512)).attr ≠ 2 ∨ (keySlotAt s (leAt p 16 2 % 512)).loaded = false then
      .fail stBadPayload 16
    else match keyUnwrap (keySlotAt s (leAt p 16 2 % 512)).key (p.drop 24) with
      | none => .fail stAuthFailed 0
      | some d => if d.take 8 ≠ sliceB p 8 8 then .fail stAuthFailed 0
                  else importKey h p (importInstr h p) (d.drop 8) .wrapped s := by
  obtain ⟨hhead, htarget, hdebug⟩ := hmay
  unfold importSlot
  dsimp only
  rw [hhead, htarget, hdebug]
  rfl

theorem importKey_fits {c : Instr} (hkey : privateOk (byteAt p 9) key = true) : importKey h p c key o s =
    fillAnswer c (leAt p 2 2 % 512) (importedSlot h p key o s) := by
  unfold importKey
  dsimp only
  rw [hkey]
  rfl

/-- A slot filled by KEY_IMPORT, and the answer to it. -/
theorem exec_keyImport_fills (hs : Served h p true s)
    (hbody : keyImportBody h p s = fillAnswer (importInstr h p) (leAt p 2 2 % 512) (importedSlot h p key o s)) :
    ∃ t, exec (importInstr h p) s = .next (accepted h p (leB 2 (leAt p 2 2 % 512) ++ leB 2 (keySlotAt t (leAt p 2 2 % 512)).gen)
        (keyInfo t (leAt p 2 2 % 512)) (importInstr h p) [leAt p 2 2 % 512] t) ∧
      (keySlotAt t (leAt p 2 2 % 512)).loaded = true ∧ (keySlotAt t (leAt p 2 2 % 512)).origin = o ∧
      (keySlotAt t (leAt p 2 2 % 512)).key = key ∧ (keySlotAt t (leAt p 2 2 % 512)).attr = byteAt p 8 ∧
      ∀ k, k ≠ leAt p 2 2 % 512 → keySlotAt t k = keySlotAt s k := by
  obtain ⟨hself, hothers⟩ := keySlotAt_fillSlot (h := h) (n := leAt p 2 2 % 512) (attr := byteAt p 8) (type := byteAt p 9)
    (modes := byteAt p 10) (persist := bitAt (byteAt p 12) 0) (key := key) (o := o) (s := s)
  refine ⟨importedSlot h p key o s, exec_keyImport.trans (congrArg _ (runCmd_fills hs hbody)), ?_, ?_, ?_, ?_, hothers⟩ <;>
    rw [hself]

theorem importMeter_enrolled {m : Meter} (hm : meterAt s (leAt p 4 4 % 2 ^ 20) = some m) (hmode : derivedMode m = false) :
    let x := keySlotAt s (m.key % 512)
    let good := x.attr = 2 ∧ x.loaded = true ∧ keyUnwrap x.key (p.drop 24) ≠ none
    (¬ good → importMeter h p s = .fail stAuthFailed 0) ∧
    (good → importMeter h p s = .accept (leB 4 (leAt p 4 4 % 2 ^ 20)) p { cmd := some (importInstr h p) } s) := by
  intro x good
  have hbody : importMeter h p s = if x.attr ≠ 2 ∨ x.loaded = false ∨ (keyUnwrap x.key (p.drop 24)).isNone = true then
      .fail stAuthFailed 0 else .accept (leB 4 (leAt p 4 4 % 2 ^ 20)) p { cmd := some (importInstr h p) } s := by
    unfold importMeter
    simp only [hm, hmode, Bool.false_eq_true, if_false]
    rfl
  have hbad : (x.attr ≠ 2 ∨ x.loaded = false ∨ (keyUnwrap x.key (p.drop 24)).isNone = true) ↔ ¬ good := by
    simp only [good, not_and_or, Bool.not_eq_true, not_not, ne_eq, Option.isNone_iff_eq_none]
  exact ⟨fun hno => hbody.trans (if_pos (hbad.mpr hno)), fun hyes => hbody.trans (if_neg (hbad.not.mpr (not_not.mpr hyes)))⟩

/-- A wrapped key enters the record of its enrolled meter. -/
theorem meterAt_effKeyImport {m : Meter} {e : Eff} (hform : byteAt e.data 0 = 3)
    (hm : meterAt s (leAt e.data 4 4 % 2 ^ 20) = some m) :
    meterAt (effKeyImport e s) (leAt e.data 4 4 % 2 ^ 20) = some { m with wrapped := e.data.drop 24 } := by
  have hfind : ∀ l : List Meter, ∀ q : Meter → Bool, (∀ x, q { x with wrapped := e.data.drop 24 } = q x) →
      l.find? q = some m → (mapIf q (fun x => { x with wrapped := e.data.drop 24 }) l).find? q =
        some { m with wrapped := e.data.drop 24 } := by
    intro l q hq hl
    induction l with
    | nil => simp at hl
    | cons x l ih =>
      by_cases hx : q x = true
      · rw [List.find?_cons_of_pos hx] at hl
        obtain rfl := Option.some.inj hl
        rw [mapIf, List.map_cons, if_pos hx, List.find?_cons_of_pos ((hq x).trans hx)]
      · rw [List.find?_cons_of_neg hx] at hl
        rw [mapIf, List.map_cons, if_neg hx, List.find?_cons_of_neg hx]
        exact ih hl
  unfold effKeyImport
  rw [if_pos hform]
  exact hfind _ (fun m => m.mix == leAt e.data 4 4 % 2 ^ 20 && m.rstate == 1) (fun _ => rfl) hm

/-! KEY_ZEROISE and PUBKEY_EXPORT (12 R423). -/

theorem keySlotAt_zeroiseSlot (hloaded : (keySlotAt s n).loaded = true) :
    keySlotAt (zeroiseSlot n s) n = { keySlotAt s n with loaded := false, key := [], origin := .none } ∧
      ∀ k, k ≠ n → keySlotAt (zeroiseSlot n s) k = keySlotAt s k := by
  have hzero : zeroiseSlot n s = putSlot n { keySlotAt s n with loaded := false, key := [], origin := .none } s :=
    if_pos hloaded
  rw [hzero]
  exact keySlotAt_of_set rfl

/-- The reply of PUBKEY_EXPORT by the slot it names. -/
theorem exec_pubkeyExport (hs : Served h p false s) :
    let x := anySlot s (leAt p 0 2 % 512)
    (x.attr = 4 → x.loaded = true → exec (.pubkeyExport h p) s = answered h p (pubKey x.key) s) ∧
    (x.attr ≠ 0 → x.attr ≠ 4 → exec (.pubkeyExport h p) s = ended h p stDeniedState 0 s) ∧
    ((x.attr = 0 ∨ x.attr = 4) → x.loaded = false → exec (.pubkeyExport h p) s = ended h p stUnknownObject 0 s) := by
  intro x
  refine ⟨fun hattr hloaded => congrArg Host.Outcome.next (runCmd_done hs ((if_neg ?_).trans (if_neg ?_))),
    fun hsome hother => congrArg Host.Outcome.next (runCmd_fails hs (if_pos ⟨hsome, hother⟩)),
    fun hattr hempty => congrArg Host.Outcome.next (runCmd_fails hs ((if_neg ?_).trans (if_pos hempty)))⟩
  · exact fun hno => hno.2 hattr
  · exact fun hno => Bool.false_ne_true (hno.symm.trans hloaded)
  · exact fun hno => hattr.elim hno.1 hno.2

/-! Lane jobs (12 R409 to R412). -/

variable {j : LaneJob} {r : RunJob}

theorem infeedTold_keys {st : JobStatus} {plain : List Byte} : (infeedTold j st plain s).keys = s.keys := by
  unfold infeedTold
  dsimp only
  split <;> rfl

theorem failJob_keys {st : JobStatus} : (failJob j st s).keys = s.keys := infeedTold_keys

theorem beginJob_loaded (hload : loadJob s j = .inl r) :
    beginJob n j s = countUse j (setLane n { laneAt s n with job := some r } s) := by
  unfold beginJob
  rw [hload]

theorem beginJob_refused {st : JobStatus} (hload : loadJob s j = .inr st) : beginJob n j s = failJob j st s := by
  unfold beginJob
  rw [hload]

/-- A job that may use its key and obtains none fails its check. -/
theorem loadJob_refused {st : JobStatus} (hload : loadJob s j = .inr st) (hkey : jobKeyBad s j = none) : st = .authFail := by
  unfold loadJob at hload
  rw [hkey] at hload
  cases hkeys : jobKeys s j with
  | none =>
    rw [hkeys] at hload
    exact (Sum.inr.inj hload).symm
  | some x =>
    rw [hkeys] at hload
    cases hload

theorem loadJob_denied {st : JobStatus} (hkey : jobKeyBad s j = some st) : loadJob s j = .inr st := by
  unfold loadJob
  rw [hkey]

/-- A job begun leaves the queue and the key store; slots that hold no key stay so. -/
theorem beginJob_keys : (beginJob n j s).keys.queue = s.keys.queue ∧ (beginJob n j s).keys.store = s.keys.store ∧
    (s.keys.slots = [] → (beginJob n j s).keys.slots = []) := by
  cases hload : loadJob s j with
  | inr st =>
    rw [beginJob_refused hload, failJob_keys]
    exact ⟨rfl, rfl, id⟩
  | inl r =>
    rw [beginJob_loaded hload]
    unfold countUse
    dsimp only
    split
    · exact ⟨rfl, rfl, id⟩
    · exact ⟨rfl, rfl, fun hnone => by
        change mapIf _ _ s.keys.slots = []
        rw [hnone]
        rfl⟩

theorem startJobs_idle {m : Nat} (hnone : s.keys.queue = []) : startJobs m s = s := by
  cases m with
  | zero => rfl
  | succ m =>
    have hnext : nextJob s = none := by
      unfold nextJob
      rw [hnone]
      rfl
    unfold startJobs
    rw [hnext]

/-- Starting jobs leaves an erased key store erased. -/
theorem startJobs_erased {m : Nat} (hslots : s.keys.slots = []) (hstore : s.keys.store = []) :
    (startJobs m s).keys.slots = [] ∧ (startJobs m s).keys.store = [] := by
  induction m generalizing s with
  | zero => exact ⟨hslots, hstore⟩
  | succ m ih =>
    unfold startJobs
    split
    next x l i hnext hlane =>
      obtain ⟨-, hkeep, hempty⟩ := beginJob_keys (n := i) (j := x) (s := { s with keys := { s.keys with queue := l } })
      exact ih (hempty hslots) (hkeep.trans hstore)
    · exact ⟨hslots, hstore⟩

/-- The only job of the queue begins at once on a free lane (12 R411). -/
theorem queueJob_alone (hnone : s.keys.queue = []) (hlane : freeLane s = some n) (hflow : flowBusy s j = false) :
    queueJob j s = beginJob n j s := by
  have hback : ({ s with keys := { s.keys with queue := [] } } : State) = s := by rw [← hnone]
  obtain ⟨u, hu⟩ : ∃ u : State, u = { s with keys := { s.keys with queue := [j] } } := ⟨_, rfl⟩
  have hqueue : queueJob j s = startJobs 9 u := by
    unfold queueJob
    rw [hnone, hu]
    rfl
  have hnext : nextJob u = some (j, []) := by
    have hfree : flowBusy u j = false := by rw [hu]; exact hflow
    unfold nextJob
    rw [show u.keys.queue = [j] by rw [hu], List.find?_cons_of_pos (by rw [hfree]; rfl)]
    simp
  have hfree : freeLane u = some n := by rw [hu]; exact hlane
  rw [hqueue, startJobs, hnext, hfree]
  dsimp only
  rw [show ({ u with keys := { u.keys with queue := [] } } : State) = s by rw [hu]; exact hback]
  exact startJobs_idle (beginJob_keys.1.trans hnone)

theorem exec_laneJobPost (hok : jobLimitsOk j = true) : exec (.laneJobPost j) s = .next (postJob j s) :=
  congrArg Host.Outcome.next (if_neg (by rw [hok]; decide))

theorem postJob_queues (hwhere : (freeLane s).isSome = true ∨ j.level < 8 ∨ 15 < j.level) : postJob j s = queueJob j s :=
  if_pos hwhere

theorem postJob_urgent (hnone : freeLane s = none) (hlo : 8 ≤ j.level) (hhi : j.level ≤ 15) : postJob j s =
    match victimLane s j.level with
    | some n => preempt n j s
    | none => { s with keys := { s.keys with queue := insJob j s.keys.queue } } := by
  have hfull : ¬ ((freeLane s).isSome = true ∨ j.level < 8 ∨ 15 < j.level) := by
    rintro (hfree | hlow | hhigh)
    · rw [hnone] at hfree
      exact Bool.false_ne_true hfree
    · omega
    · omega
  exact if_neg hfull

theorem exec_laneJobComplete {lane : Fin 8} {st : JobStatus} {cycles : Nat} (hr : (laneAt s lane).job = some r) :
    exec (.laneJobComplete lane st cycles) s =
      .next (if (laneAt s lane).budget < r.left ∨ st ≠ (jobResult r s).1 ∨ cycles ≠ jobCycles r.job then s
        else nextOnLane lane (count 0x08 lane (jobOps r.job)
          (finishJob r (setLane lane { laneAt s lane with budget := (laneAt s lane).budget - r.left } s)))) := by
  change execLaneJobComplete lane st cycles s = _
  simp only [execLaneJobComplete, hr]

/-! Tamper (12 R424). -/

theorem abortJob_keys : (abortJob j s).keys = s.keys := by
  have hzero : (zeroOut j (drawn s)).keys = s.keys := by
    unfold zeroOut
    split
    · rfl
    · rw [wrMems_eq]
      rfl
  exact infeedTold_keys.trans hzero

/-- Every key erased: the slots are empty, and an empty store stays so. -/
theorem wipeAll_erased (hstore : s.keys.store = []) : (wipeAll s).keys.slots = [] ∧ (wipeAll s).keys.store = [] := by
  have hwipe : (wipeKeys s).keys = { s.keys with slots := [], lanes := List.replicate 8 {} } :=
    foldl_keys fun _ _ => abortJob_keys
  exact startJobs_erased (by rw [hwipe]) (by rw [hwipe]; exact hstore)

/-- ZEROISED_TAMPER on main power (12 R424). -/
theorem exec_zeroisedTamper_powered (x : s.tidy = true) (hon : s.pwr.mode ≠ .dormant) (hoff : s.pwr.mode ≠ .off) :
    ∃ t, exec .zeroisedTamper s = .next t ∧ t.keys.slots = [] ∧ t.keys.store = [] ∧ rd t P40.TAMPER_SEEN = 1 ∧
      rd t P40.STORE_LOST = 1 := by
  obtain ⟨u, hu⟩ : ∃ u, u = keyFields (wipeAll { s with keys := { s.keys with
    store := [], storeWritten := false, replaced := [] } }) := ⟨_, rfl⟩
  have hkeys : u.keys.slots = [] ∧ u.keys.store = [] := hu ▸ wipeAll_erased rfl
  have xu : u.tidy = true := hu ▸ (keyFields_kept (wipeAll_kept (.refl _))).tidy x
  have x1 := wr_tidy (v := 1) P40.TAMPER_SEEN_known xu
  have x2 := wr_tidy (v := 1) P40.STORE_LOST_known x1
  have x3 : (bump P40.ZEROISATIONS (wr P40.STORE_LOST 1 (wr P40.TAMPER_SEEN 1 u))).tidy = true :=
    wrI_tidy P40.ZEROISATIONS_known x2
  have hreads : ∀ f : Fld, f.known → f.page = 0x40 → f ≠ P40.ZEROISATIONS →
      rd (logEv evZeroisedTamper [] (bump P40.ZEROISATIONS (wr P40.STORE_LOST 1 (wr P40.TAMPER_SEEN 1 u)))) f =
        rd (wr P40.STORE_LOST 1 (wr P40.TAMPER_SEEN 1 u)) f := fun f hf hp hne =>
    (logEv_logged.regs x3 f 0 hf (by rw [hp]; decide) (by rw [hp]; decide)).trans
      (rdI_wrI_field P40.ZEROISATIONS_known hf (fun e => hne e.symm) x2)
  have hlogged : ∀ v : State, (logEv evZeroisedTamper [] v).keys = v.keys := fun v => by rw [logEv_logged.rest]
  refine ⟨logEv evZeroisedTamper [] (bump P40.ZEROISATIONS (wr P40.STORE_LOST 1 (wr P40.TAMPER_SEEN 1 u))), ?_, ?_, ?_, ?_, ?_⟩
  · rw [hu]
    exact congrArg Host.Outcome.next (if_neg (not_or.mpr ⟨hon, hoff⟩))
  · rw [hlogged]
    exact hkeys.1
  · rw [hlogged]
    exact hkeys.2
  · rw [hreads _ P40.TAMPER_SEEN_known rfl (by decide)]
    exact (rdI_wrI_field P40.STORE_LOST_known P40.TAMPER_SEEN_known (by decide) x1).trans (rd_wr_self xu)
  · rw [hreads _ P40.STORE_LOST_known rfl (by decide)]
    exact rd_wr_self x1

end

/-- Settles O54: the key commands by their checks and the slot they fill or free, lane jobs by where they may run. -/
theorem keysAndLanesComplete : Obligations.KeysAndLanesComplete := by
  refine ⟨?fills, ?meterKey, ?zeroise, ?zeroised, ?reads, ?posts, ?begins, ?completes, ?resumes, ?idleLane, fun s => rfl,
    fun s hmode => congrArg Host.Outcome.next (if_pos hmode), fun s hmode => congrArg Host.Outcome.next (if_neg hmode),
    fun s => exec_zeroisedTamper_powered, fun s hmode => congrArg Host.Outcome.next (if_pos hmode)⟩
  case fills =>
    intro h p s hs
    refine ⟨?generate, ?agree, ?import_⟩
    case generate =>
      intro n ty persist
      refine ⟨fun hbad => congrArg Host.Outcome.next (runCmd_fails hs (keyGenerateBody_dead hbad)), ?_⟩
      intro hlive hhead hn hfree hattr hdebug
      obtain ⟨x, hx, hloaded, horigin, hxattr, hgen, hkey, hothers⟩ := keySlotAt_generatedSlot (h := h) (p := p) (s := s)
      refine ⟨generatedSlot h p s, congrArg Host.Outcome.next (runCmd_fills hs (keyGenerateBody_fills hlive hhead
        (targetBad_free hn hfree hattr) (persistDenied_free hdebug))), ?_, ?_, ?_, ?_, ?_, hothers⟩ <;> rw [hx]
      · exact hloaded
      · exact horigin
      · exact hxattr
      · exact hgen
      · rw [hkey]
        exact randomKey_length
    case agree =>
      intro own n persist hlive hattr hloaded hother hhead
      have hbody := keyAgreeBody_may (h := h) ⟨hlive, hattr, hloaded, hother, hhead⟩
      refine ⟨congrArg Host.Outcome.next (runCmd_fails hs (hbody false)), fun hn hfree hslot hdebug => ?_⟩
      obtain ⟨hself, hothers⟩ := keySlotAt_fillSlot (h := h) (n := n) (attr := byteAt p 4) (type := byteAt p 5)
        (modes := byteAt p 6) (persist := bitAt (leAt p 2 2) 15) (key := agreedKey own.key p (byteAt p 5)) (o := .agreed)
        (s := postP256 17 s)
      have hfill := hbody true
      rw [if_neg (by decide), targetBad_free hn hfree hslot, persistDenied_free hdebug, if_neg (by decide)] at hfill
      exact ⟨_, congrArg Host.Outcome.next (runCmd_fills hs hfill), by rw [hself], by rw [hself], hothers⟩
    case import_ =>
      intro form n open_ kek u c filled hlen
      have fails : ∀ {st d}, keyImportBody h p s = .fail st d → exec c s = ended h p st d s := fun hbody =>
        exec_keyImport.trans (congrArg _ (runCmd_fails hs hbody))
      have may : headOk (byteAt p 8) (byteAt p 9) (byteAt p 10) = true → open_ → MayImport p s := fun hhead hopen => by
        obtain ⟨hn, hfree, hattr, hdebug⟩ := hopen
        exact ⟨hhead, targetBad_free hn hfree hattr, persistDenied_free hdebug⟩
      refine ⟨fun hform hno => ?_, fun hform hplain hhead hopen hkey => ?_, fun hform hhead hopen hattr hloaded => ?_,
        fun m hform hm hmode => ?_⟩
      · exact fails ((keyImportBody_formed (.inl hform) hlen).trans (if_pos ⟨hform, rdB_eq_false.mpr hno⟩))
      · have hbody := keyImportBody_formed (h := h) (s := s) (.inl hform) hlen
        rw [if_neg (fun hno => hplain (rdB_eq_false.mp hno.2)), if_neg (by rw [show byteAt p 0 = 1 from hform]; decide),
          importSlot_may (may hhead hopen), if_pos hform, importKey_fits hkey] at hbody
        exact exec_keyImport_fills hs hbody
      · have hbody := keyImportBody_formed (h := h) (s := s) (.inr (.inl hform)) hlen
        have htwo : byteAt p 0 = 2 := hform
        rw [if_neg (fun hno => absurd (htwo.symm.trans hno.1) (by decide)), if_neg (by rw [htwo]; decide),
          importSlot_may (may hhead hopen), if_neg (by rw [htwo]; decide),
          if_neg (not_or.mpr ⟨not_not.mpr hattr, fun hno => Bool.false_ne_true (hno.symm.trans hloaded)⟩)] at hbody
        refine ⟨fun hnone => fails (hbody.trans (by rw [show keyUnwrap _ _ = none from hnone])), fun d hd hfield hkey => ?_⟩
        rw [show keyUnwrap _ _ = some d from hd] at hbody
        dsimp only at hbody
        rw [if_neg (not_not.mpr hfield), importKey_fits hkey] at hbody
        exact exec_keyImport_fills hs hbody
      · have hthree : byteAt p 0 = 3 := hform
        have hbody := keyImportBody_formed (h := h) (s := s) (.inr (.inr hform)) hlen
        rw [if_neg (fun hno => absurd (hthree.symm.trans hno.1) (by decide)), if_pos hthree] at hbody
        obtain ⟨hbad, hgood⟩ := importMeter_enrolled (h := h) hm hmode
        exact ⟨fun hno => fails (hbody.trans (hbad hno)), fun hyes =>
          exec_keyImport.trans (congrArg _ (runCmd_accepts hs (hbody.trans (hgood hyes))))⟩
  case meterKey =>
    intro h p s hform m hm
    exact meterAt_effKeyImport (e := ⟨some (.keyImport h (p.take 24) (p.drop 24)), [], p⟩) hform hm
  case zeroise =>
    intro h p s hs n
    exact ⟨fun hzero => congrArg Host.Outcome.next (runCmd_fails hs (if_pos hzero)),
      fun hn => congrArg Host.Outcome.next (runCmd_accepts hs (if_neg hn))⟩
  case zeroised =>
    intro h p s n t hloaded
    have ht : t = bump P40.ZEROISATIONS (if bitAt (byteAt p 2) 0 then freeSlot n s else zeroiseSlot n s) := rfl
    have hslot : ∀ k, keySlotAt t k = keySlotAt (if bitAt (byteAt p 2) 0 then freeSlot n s else zeroiseSlot n s) k :=
      fun k => by rw [ht]; rfl
    rw [bitAt_eq_testBit] at hslot
    obtain ⟨hfreed, hfree⟩ := keySlotAt_freeSlot (n := n) (s := s)
    obtain ⟨hzeroed, hzero⟩ := keySlotAt_zeroiseSlot hloaded
    refine ⟨fun hbit => ?_, fun hbit => ?_, fun k hne => ?_⟩
    · rw [hslot, if_pos hbit, hfreed]
    · rw [hslot, hbit, if_neg Bool.false_ne_true, hzeroed]
    · rw [hslot]
      split
      · exact hfree k hne
      · exact hzero k hne
  case reads =>
    intro h p s r hs
    exact ⟨congrArg Host.Outcome.next (runCmd_done hs rfl), exec_pubkeyExport hs⟩
  case posts =>
    intro j s r
    refine ⟨fun hbad => congrArg Host.Outcome.next (if_pos hbad), fun n hok hnone hlane hflow => ?_, fun hok hwhere => ?_,
      fun hok hnone hlo hhi => ⟨fun n hn => ?_, fun hn => ?_⟩⟩
    · refine (exec_laneJobPost hok).trans (congrArg _ ((postJob_queues (.inl ?_)).trans (queueJob_alone hnone hlane hflow)))
      rw [hlane]
      rfl
    · exact (exec_laneJobPost hok).trans (congrArg _ (postJob_queues (hwhere.imp_left Option.isSome_iff_ne_none.mpr)))
    · exact (exec_laneJobPost hok).trans (congrArg _ ((postJob_urgent hnone hlo hhi).trans (by rw [hn])))
    · exact (exec_laneJobPost hok).trans (congrArg _ ((postJob_urgent hnone hlo hhi).trans (by rw [hn])))
  case begins =>
    intro n j s
    exact ⟨fun r => beginJob_loaded, fun st hload => ⟨beginJob_refused hload, loadJob_refused hload⟩,
      fun st => loadJob_denied⟩
  case completes =>
    intro n r s hr b st
    refine ⟨fun hfits => (exec_laneJobComplete hr).trans (congrArg _ (if_neg ?_)),
      fun x k hno => (exec_laneJobComplete hr).trans (congrArg _ (if_pos hno))⟩
    exact not_or.mpr ⟨Nat.not_lt.mpr hfits, not_or.mpr ⟨not_not.mpr rfl, not_not.mpr rfl⟩⟩
  case resumes =>
    intro n s l
    refine ⟨fun x r hsusp => ?_, fun hnone => ?_⟩
    · unfold nextOnLane
      dsimp only
      rw [show (laneAt s n).suspended = x :: r from hsusp]
    · unfold nextOnLane
      dsimp only
      rw [show (laneAt s n).suspended = [] from hnone]
      rfl
  case idleLane =>
    intro n st k s hnone
    change execLaneJobComplete n st k s = _
    simp only [execLaneJobComplete, hnone]

end Sys2Proof.Machine
end

section
/-! Joining, comparing and leaving a pair (12 R424, R425; 15 R487 to R502). -/
namespace Sys2Proof.Machine

section
variable {s t u : State} {h : Hdr} {p : List Byte} {o : OwnBeat} {f : BeatFrame} {j : Joining} {n : Nat}

theorem paired_iff : paired s = true ↔ pairState s = 2 ∨ pairState s = 3 := by
  simp [paired]

/-! What is released (15 R493). -/

/-- From `s` to `t` held outputs were released: the pair's record is the same, and beside LAST_RELEASED and the counters
no field moved. -/
structure Released (s t : State) : Prop where
  pair : t.pair = s.pair
  wrote : Wrote (fun g => g = P50.LAST_RELEASED ∨ g.page = 0x52) s t

theorem Released.refl : Released s s := ⟨rfl, .refl⟩

theorem Released.trans (a : Released s t) (b : Released t u) : Released s u :=
  ⟨b.pair.trans a.pair, a.wrote.trans b.wrote⟩

theorem Released.same (hp : t.pair = s.pair) (hr : t.regs = s.regs) (hm : t.mem = s.mem) : Released s t :=
  ⟨hp, .same hr hm⟩

theorem Released.foldl {α : Type} {g : State → α → State} {l : List α} (hg : ∀ x v, Released v (g v x)) :
    Released s (l.foldl g s) := by
  induction l generalizing s with
  | nil => exact .refl
  | cons x l ih => exact (hg x s).trans ih

theorem Released.linked {q : Port} (a : Linked q s t) : Released s t := by
  refine ⟨by rw [a.rest], fun x g i hg hw => a.regs x g i hg fun hp => hw (.inr hp), a.tidy⟩

theorem drivePins_released {v : Nat} : Released s (drivePins v s) := by
  unfold drivePins
  split
  · exact .refl
  · exact .same rfl rfl rfl

theorem driveReq_released : Released s (driveReq n s) := by
  unfold driveReq
  split
  · exact .refl
  · exact .same rfl rfl rfl

theorem releasePins_released {pins : Nat} {req : Option Nat} : Released s (releasePins pins req s) := by
  unfold releasePins
  dsimp only
  split
  · exact drivePins_released.trans driveReq_released
  · exact drivePins_released

theorem releaseOut_released {x : HeldOut} : Released s (releaseOut x s) := by
  unfold releaseOut
  split
  · exact .refl
  · exact Released.trans (t := emit (.reply (replyHdr s x.hdr (4 + x.data.length)) x.status x.detail x.data) s)
      (.same rfl rfl rfl) (.linked sendReplyNow_linked)

theorem releaseBeat_released : Released s (releaseBeat o s) := by
  have hwr : Released s (wr P50.LAST_RELEASED o.frame.beat s) :=
    ⟨rfl, .wrI (w := fun g => g = P50.LAST_RELEASED ∨ g.page = 0x52) P50.LAST_RELEASED_known (.inl rfl) .refl⟩
  unfold releaseBeat
  dsimp only
  split
  · exact hwr.trans releasePins_released
  · exact (hwr.trans releasePins_released).trans (.foldl fun _ _ => releaseOut_released)

/-- A chip that stands alone has released what it held. -/
theorem standAlone_released : ∃ v, Released (wr P50.PAIR_STATE n s) v ∧ standAlone n s = clearPair v :=
  ⟨_, (Released.foldl fun _ _ => releaseBeat_released).trans
    ((Released.foldl fun _ _ => releaseOut_released).trans releasePins_released), rfl⟩

/-- Beside the pair's state and LAST_RELEASED no field of page 0x50 moves when a chip stands alone. -/
theorem standAlone_wrote :
    Wrote (fun g => g = P50.PAIR_STATE ∨ g = P50.LAST_RELEASED ∨ g.page = 0x52) s (standAlone n s) := by
  obtain ⟨v, hv, halone⟩ := standAlone_released (n := n) (s := s)
  rw [halone]
  refine Wrote.trans (t := v) ?_ (.same rfl rfl)
  have hwr : Wrote (fun g => g = P50.PAIR_STATE ∨ g = P50.LAST_RELEASED ∨ g.page = 0x52) s (wr P50.PAIR_STATE n s) :=
    .wrI (w := fun g => g = P50.PAIR_STATE ∨ g = P50.LAST_RELEASED ∨ g.page = 0x52) P50.PAIR_STATE_known (.inl rfl) .refl
  exact hwr.trans ⟨fun x g i hg hno => hv.wrote.reads x g i hg fun hw => hno (.inr hw), hv.wrote.tidy⟩

theorem pairState_wr (hn : n < 16) (x : s.tidy = true) : pairState (wr P50.PAIR_STATE n s) = n :=
  (rd_wr_self x).trans (Nat.mod_eq_of_lt hn)

theorem pairState_standMute (hn : n < 16) (x : s.tidy = true) : pairState (standMute n s) = n := pairState_wr hn x

theorem pairState_standAlone (hn : n < 16) (x : s.tidy = true) : pairState (standAlone n s) = n := by
  obtain ⟨v, hv, halone⟩ := standAlone_released (n := n) (s := s)
  have hstate : rd v P50.PAIR_STATE = pairState (wr P50.PAIR_STATE n s) :=
    hv.wrote.rd (wr_tidy P50.PAIR_STATE_known x) P50.PAIR_STATE_known (by decide)
  rw [halone]
  exact hstate.trans (pairState_wr hn x)

theorem standAlone_own : (standAlone n s).pair.own = [] := by
  obtain ⟨v, -, halone⟩ := standAlone_released (n := n) (s := s)
  rw [halone]
  rfl

/-! PAIR (15 R487). -/

/-- A partner's address lies next to the own one. -/
abbrev nearPartner (p : List Byte) (s : State) : Prop :=
  byteAt p 0 + 1 = rd s P02.CHAIN_ADDR ∨ byteAt p 0 = rd s P02.CHAIN_ADDR + 1

theorem pairBody_far {x : Option PartnerIn} (hfar : ¬ nearPartner p s) : pairBody h p x s = .fail stOutOfRange 0 :=
  if_pos (not_or.mp hfar)

theorem pairBody_near (hnear : nearPartner p s) (hstate : pairState s = 0 ∨ pairState s = 4) :
    pairBody h p none s = .fail stDeniedState 6 ∧ ∀ y, pairBody h p (some y) s =
      if leAt p 4 4 ≠ y.check then .fail stAuthFailed 0
      else if pairPlaced s = false ∨ partnerPlaced y = false then .fail stDeniedState 1
      else if y.versions ≠ ownVersions s then .fail stDeniedState 2
      else if partnerEligible (bitAt (byteAt p 1) 0) s y = false then .fail stDeniedState 3
      else if y.beat ≠ s.beat.number ∨ y.locked = false ∨ locked s = false then .fail stDeniedState 4
      else .stays (wr P50.PAIR_STATE 1 { s with pair := { s.pair with
        join := some { hdr := h, data := p, began := s.now, prev := pairState s,
                       id := if bitAt (byteAt p 1) 0 then rd s P50.PAIR_ID else pairIdOf Config.dieSerial y.serial } } }) := by
  have hplace : ¬ (byteAt p 0 + 1 ≠ rd s P02.CHAIN_ADDR ∧ byteAt p 0 ≠ rd s P02.CHAIN_ADDR + 1) :=
    fun hfar => hnear.elim hfar.1 hfar.2
  have hfree : ¬ (pairState s ≠ 0 ∧ pairState s ≠ 4) := fun hbusy => hstate.elim hbusy.1 hbusy.2
  exact ⟨(if_neg hplace).trans (if_neg hfree), fun y => (if_neg hplace).trans (if_neg hfree)⟩

theorem pairBody_busy {x : Option PartnerIn} (hnear : nearPartner p s) (hidle : pairState s ≠ 0) (hsolo : pairState s ≠ 4) :
    pairBody h p x s = .fail stDeniedState 0 :=
  (if_neg fun hfar => hnear.elim hfar.1 hfar.2).trans (if_pos ⟨hidle, hsolo⟩)

/-- What R487 asks of the places, the firmware and the partner before the beat and the time. -/
abbrev MayJoin (p : List Byte) (s : State) (y : PartnerIn) : Prop :=
  y.check = leAt p 4 4 ∧ pairPlaced s = true ∧ partnerPlaced y = true ∧ y.versions = ownVersions s ∧
    partnerEligible ((byteAt p 1).testBit 0) s y = true

theorem pairBody_may {y : PartnerIn} (hnear : nearPartner p s) (hstate : pairState s = 0 ∨ pairState s = 4)
    (hmay : MayJoin p s y) : pairBody h p (some y) s =
      if y.beat ≠ s.beat.number ∨ y.locked = false ∨ locked s = false then .fail stDeniedState 4
      else .stays (wr P50.PAIR_STATE 1 { s with pair := { s.pair with
        join := some { hdr := h, data := p, began := s.now, prev := pairState s,
                       id := if bitAt (byteAt p 1) 0 then rd s P50.PAIR_ID else pairIdOf Config.dieSerial y.serial } } }) := by
  obtain ⟨hcheck, hown, hpartner, hversions, heligible⟩ := hmay
  rw [← bitAt_eq_testBit] at heligible
  rw [(pairBody_near hnear hstate).2 y, if_neg (not_not.mpr hcheck.symm), hown, hpartner,
    if_neg (by decide), if_neg (not_not.mpr hversions), heligible, if_neg (by decide)]

/-! UNPAIR, PROMOTE, RESOLVE_DIVERGENCE (15 R495, R497). -/

theorem exec_promote (hs : Served h p true s) :
    (byteAt p 0 = 1 → paired s = true → exec (.promote h p) s = .next (accepted h p (zeros 8) [] (.promote h p) [] s)) ∧
    (byteAt p 0 = 1 → paired s = false → exec (.promote h p) s = ended h p stDeniedState 0 s) ∧
    (byteAt p 0 ≠ 1 → exec (.promote h p) s = ended h p stBadPayload 0 s) := by
  refine ⟨fun hform hpair => congrArg Host.Outcome.next (runCmd_accepts hs ((if_neg (not_not.mpr hform)).trans (if_neg ?_))),
    fun hform hpair => congrArg Host.Outcome.next (runCmd_fails hs ((if_neg (not_not.mpr hform)).trans (if_pos hpair))),
    fun hform => congrArg Host.Outcome.next (runCmd_fails hs (if_pos hform))⟩
  rw [hpair]
  decide

theorem exec_resolveDivergence (hs : Served h p true s) :
    (pairState s = 5 → leAt p 4 4 = rd s P50.DIVERGED_BEAT % 2 ^ 32 → (byteAt p 0 = 1 ∨ byteAt p 0 = 2) →
      exec (.resolveDivergence h p) s =
        .next (accepted h p (leB 8 (rd s P50.DIVERGED_BEAT)) [] (.resolveDivergence h p) [] s)) ∧
    (pairState s = 5 → leAt p 4 4 ≠ rd s P50.DIVERGED_BEAT % 2 ^ 32 →
      exec (.resolveDivergence h p) s = ended h p stDeniedState 4 s) ∧
    (pairState s ≠ 5 → exec (.resolveDivergence h p) s = ended h p stDeniedState 0 s) := by
  refine ⟨fun hhalt hbeat hway => congrArg Host.Outcome.next (runCmd_accepts hs ?_),
    fun hhalt hbeat => congrArg Host.Outcome.next (runCmd_fails hs ((if_neg (not_not.mpr hhalt)).trans (if_pos hbeat))),
    fun hhalt => congrArg Host.Outcome.next (runCmd_fails hs (if_pos hhalt))⟩
  exact (if_neg (not_not.mpr hhalt)).trans ((if_neg (not_not.mpr hbeat)).trans
    (if_neg fun hno => hway.elim hno.1 hno.2))

/-! JOIN_LIMIT_EXPIRE (15 R488). -/

theorem exec_joinLimitExpire (hjoin : s.pair.join = some j) : exec .joinLimitExpire s =
    .next (if pairState s = 1 ∧ joinDrained s = false ∧
        passed s j.began (secBeats (10 * rd s P50.JOIN_LIMIT)) = true then failJoin 5 s else s) := by
  change execJoinLimitExpire s = _
  simp only [execJoinLimitExpire, hjoin]

theorem failJoin_joining (hjoin : s.pair.join = some j) : failJoin n s = finish j.hdr j.data stDeniedState n []
    (wr P50.PAIR_STATE j.prev { s with pair := { s.pair with join := none } }) := by
  unfold failJoin
  rw [hjoin]

theorem exec_joinLimitExpire_other (hno : s.pair.join = none ∨ pairState s ≠ 1 ∨ joinDrained s = true) :
    exec .joinLimitExpire s = .next s := by
  cases hjoin : s.pair.join with
  | none =>
    change execJoinLimitExpire s = _
    simp only [execJoinLimitExpire, hjoin]
  | some j =>
    refine (exec_joinLimitExpire hjoin).trans (congrArg _ (if_neg fun hgo => ?_))
    obtain hnone | hother | hdrained := hno
    · rw [hjoin] at hnone
      cases hnone
    · exact hother hgo.1
    · exact Bool.false_ne_true (hgo.2.1.symm.trans hdrained)

/-! The start of a pair (15 R488). -/

/-- A chip's place in the pair: its state, its partner's address and the pair's number; what else it writes is PAIR_PORT_D. -/
theorem takePlace_reads {partner id code : Nat} (x : s.tidy = true) :
    rd (takePlace partner id code s) P50.PAIR_STATE = code % 2 ^ 4 ∧
      rd (takePlace partner id code s) P50.PARTNER_ADDR = partner % 2 ^ 8 ∧
      rd (takePlace partner id code s) P50.PAIR_ID = id % 2 ^ 32 ∧
      rd (takePlace partner id code s) P12.NEXT_LSEQ = rd s P12.NEXT_LSEQ := by
  unfold takePlace
  generalize hb : decide (rd s P02.CHAIN_ADDR < partner) = b
  have x1 := wr_tidy (v := partner) P50.PARTNER_ADDR_known x
  have x2 : (wrB P50.PAIR_PORT_D b (wr P50.PARTNER_ADDR partner s)).tidy = true := wr_tidy P50.PAIR_PORT_D_known x1
  have x3 := wr_tidy (v := id) P50.PAIR_ID_known x2
  have hcode : ∀ g : Fld, g.known → P50.PAIR_STATE ≠ g → rd (wr P50.PAIR_STATE code (wr P50.PAIR_ID id
      (wrB P50.PAIR_PORT_D b (wr P50.PARTNER_ADDR partner s)))) g =
        rd (wr P50.PAIR_ID id (wrB P50.PAIR_PORT_D b (wr P50.PARTNER_ADDR partner s))) g :=
    fun g hg hne => rdI_wrI_field P50.PAIR_STATE_known hg hne x3
  have hid : ∀ g : Fld, g.known → P50.PAIR_ID ≠ g → P50.PAIR_PORT_D ≠ g →
      rd (wr P50.PAIR_ID id (wrB P50.PAIR_PORT_D b (wr P50.PARTNER_ADDR partner s))) g = rd (wr P50.PARTNER_ADDR partner s) g :=
    fun g hg hne hport => (rdI_wrI_field P50.PAIR_ID_known hg hne x2).trans (rdI_wrI_field P50.PAIR_PORT_D_known hg hport x1)
  refine ⟨rd_wr_self x3, ?_, ?_, ?_⟩
  · rw [hcode _ P50.PARTNER_ADDR_known (by decide), hid _ P50.PARTNER_ADDR_known (by decide) (by decide)]
    exact rd_wr_self x
  · rw [hcode _ P50.PAIR_ID_known (by decide)]
    exact rd_wr_self x2
  · rw [hcode _ P12.NEXT_LSEQ_known (by decide), hid _ P12.NEXT_LSEQ_known (by decide) (by decide)]
    exact rdI_wrI_field P50.PARTNER_ADDR_known P12.NEXT_LSEQ_known (by decide) x

theorem byteAt_lt {i : Nat} : byteAt p i < 2 ^ 8 := (p.getD i 0).isLt

/-- A drained join starts as PRIMARY from the higher of the next numbers (15 R488 step 6). -/
theorem exec_pairJoinStart_primary {g l : Nat} (hjoin : s.pair.join = some j) (hstate : pairState s = 1)
    (hdrained : joinDrained s = true) : ∃ t, exec (.pairJoinStart (.primary g l)) s =
      .next (postEntry (commandEntry j.hdr j.data (leB 4 j.id ++ leB 4 ((s.now - j.began) / 8)) []
        { cmd := some (.pair j.hdr j.data none), data := j.data }) t) ∧
      t.ledger.nextGroup = max s.ledger.nextGroup g ∧ (s.tidy → rd t P50.PAIR_STATE = 2 ∧
        rd t P50.PARTNER_ADDR = byteAt j.data 0 ∧ rd t P50.PAIR_ID = j.id % 2 ^ 32 ∧
        rd t P12.NEXT_LSEQ = max (rd s P12.NEXT_LSEQ) l % 2 ^ 64) := by
  obtain ⟨v, hv⟩ : ∃ v, v = alignNumbers g l s := ⟨_, rfl⟩
  obtain ⟨w, hw⟩ : ∃ w, w = takePlace (byteAt j.data 0) j.id 2 v := ⟨_, rfl⟩
  refine ⟨{ clearPair w with pair := { (clearPair w).pair with join := some { j with started := true } } }, ?_, ?_,
    fun x => ?_⟩
  · rw [hw, hv]
    change execPairJoinStart (.primary g l) s = _
    simp only [execPairJoinStart, hjoin, hstate, hdrained, and_self, if_true]
  · rw [hw, hv]
    rfl
  · have xv : v.tidy = true := hv ▸ wr_tidy (s := { s with ledger := _ }) P12.NEXT_LSEQ_known x
    obtain ⟨hcode, haddr, hid, hlseq⟩ := takePlace_reads (partner := byteAt j.data 0) (id := j.id) (code := 2) xv
    rw [← hw] at hcode haddr hid hlseq
    refine ⟨hcode, haddr.trans (Nat.mod_eq_of_lt byteAt_lt), hid, hlseq.trans ?_⟩
    rw [hv]
    exact rd_wr_self (s := { s with ledger := _ }) x

/-! What a joining partner takes over (15 R488). -/

theorem postRec_cmd {r : JRec} : (postRec r s).cmd = s.cmd := by
  unfold postRec
  dsimp only
  split
  · change (commitPending s).cmd = s.cmd
    rw [commitPending_done.2]
  · rfl

theorem blkOn_cmd {c : Chan} {part die : Nat} : (blkOn c part die s).1.cmd = s.cmd := by
  unfold blkOn
  split
  · rfl
  · split <;> rfl

theorem closeSeg_cmd {pr : Nat × Nat} : (closeSeg pr s).cmd = s.cmd := by
  unfold closeSeg
  split <;> rfl

theorem openSeg_cmd {pr : Nat × Nat} : (openSeg pr n s).1.cmd = s.cmd := by
  have h0 := blkOn_cmd (s := s) (c := .c0) (part := ptLedger) (die := pr.1)
  unfold openSeg
  split
  next s1 b0 ht0 =>
    have h1 := blkOn_cmd (s := s1) (c := .c1) (part := ptLedger) (die := pr.2)
    rw [ht0] at h0
    split
    next s2 b1 ht1 =>
      rw [ht1] at h1
      exact postRec_cmd.trans (h1.trans h0)
    next => rfl
  next => rfl

theorem segFor_cmd {pr : Nat × Nat} : (segFor pr s).1.cmd = s.cmd := by
  unfold segFor
  split
  · split
    · rfl
    · dsimp only
      split
      · exact openSeg_cmd.trans closeSeg_cmd
      · exact closeSeg_cmd
  · split
    · exact openSeg_cmd
    · rfl

theorem placePages_cmd {l : List Nat} : (placePages l s).1.cmd = s.cmd := by
  induction l generalizing s with
  | nil => rfl
  | cons m l ih =>
    unfold placePages
    split
    · rfl
    · exact ih.trans segFor_cmd

theorem programGroup_cmd {g : Group} : (programGroup g s).cmd = s.cmd := by
  have hcopy : ∀ (c : Chan) (q : PageRec) (v : State), (programCopy c q v).cmd = v.cmd := fun c q v => by
    unfold programCopy
    split <;> rfl
  unfold programGroup
  induction g.pages generalizing s with
  | nil => rfl
  | cons q ps ih => rw [List.foldl_cons, ih, hcopy, hcopy]

theorem carryGroup_cmd {l : List Entry} : (carryGroup l s).1.cmd = s.cmd := by
  unfold carryGroup
  exact programGroup_cmd.trans placePages_cmd

theorem count_cmd {ev q k : Nat} : (count ev q k s).cmd = s.cmd := by rw [count_counted.rest]

theorem carryPages_cmd {kept fresh : List Entry} : (carryPages kept fresh s).cmd = s.cmd := by
  unfold carryPages
  dsimp only
  split
  · rfl
  · exact count_cmd.trans (count_cmd.trans carryGroup_cmd)

theorem takeSettings_cmd {l : List (Nat × Nat)} : (takeSettings l s).cmd = s.cmd := by
  unfold takeSettings
  dsimp only
  generalize hv : ({ s with regs := _ } : State) = v
  have hcmd : v.cmd = s.cmd := hv ▸ rfl
  clear hv
  induction l generalizing v with
  | nil => exact hcmd
  | cons x l ih =>
    refine ih _ ?_
    dsimp only
    split
    · split <;> exact hcmd
    · exact hcmd

theorem takeXfer_sess {x : PairXfer} : (takeXfer x s).cmd.sess = x.sess := by
  unfold takeXfer
  dsimp only
  rw [carryPages_cmd]
  exact congrArg CmdSt.sess takeSettings_cmd

/-- A chip that is in no pair takes over what the primary transfers and starts as SHADOW. -/
theorem exec_pairJoinStart_shadow {y : PairXfer} (hstate : pairState s = 0 ∨ pairState s = 6 ∨ pairState s = 7) :
    ∃ t, exec (.pairJoinStart (.shadow y)) s =
      .next (postEntry (commandEntry y.hdr y.data y.reply [] { data := y.data }) t) ∧
      t.cmd.sess = y.sess ∧ (s.tidy → rd t P50.PAIR_STATE = 3 ∧ rd t P50.PAIR_ID = y.id % 2 ^ 32) := by
  refine ⟨clearPair (takePlace y.primary y.id 3 (takeXfer y s)), congrArg Host.Outcome.next (if_pos ?_), ?_, fun x => ?_⟩
  · simpa using hstate
  · exact takeXfer_sess
  · have hkept : (takeXfer y s).tidy = true := (takeXfer_kept (.refl s)).tidy x
    obtain ⟨hcode, -, hid, -⟩ := takePlace_reads (partner := y.primary) (id := y.id) (code := 3) hkept
    exact ⟨hcode, hid⟩

/-! Beat frames (15 R489 to R496). -/

/-- A halted chip takes the state its partner's frame leaves it (15 R495). -/
theorem exec_beatFrameReceived_halted {port : Port} {s0 : State} (hs : s = heardOn port 74 s0) (hport : port = pairPort s)
    (hhalt : pairState s = 5) :
    (f.flags.testBit 6 = true → exec (.beatFrameReceived port f) s0 =
      .next { s with pair := { s.pair with next := some (6, s.beat.number + 1) } }) ∧
    (f.flags.testBit 6 = false → f.flags.testBit 7 = true → exec (.beatFrameReceived port f) s0 =
      .next { s with pair := { s.pair with next := some (4, s.beat.number + 1) } }) := by
  have hrun : ¬ paired s = true := by simp [paired_iff, hhalt]
  have hexec : exec (.beatFrameReceived port f) s0 = .next (
      if f.flags.testBit 6 = true then { s with pair := { s.pair with next := some (6, s.beat.number + 1) } }
      else if f.flags.testBit 7 = true then { s with pair := { s.pair with next := some (4, s.beat.number + 1) } } else s) := by
    rw [← bitAt_eq_testBit, ← bitAt_eq_testBit]
    subst hs
    exact congrArg Host.Outcome.next ((if_neg (not_not.mpr hport)).trans ((if_neg hrun).trans (if_pos hhalt)))
  exact ⟨fun hbit => hexec.trans (congrArg _ (if_pos hbit)),
    fun hno hbit => hexec.trans (congrArg _ ((if_neg (by rw [hno]; decide)).trans (if_pos hbit)))⟩

theorem compareAll_empty {m : Nat} (hown : s.pair.own = []) : compareAll m s = s := by
  cases m with
  | zero => rfl
  | succ m => simp only [compareAll, hown]

/-- The only own beat against the only frame: an equal digest releases it, another diverges (15 R493, R494). -/
theorem compareAll_one (hown : s.pair.own = [o]) (htheirs : s.pair.theirs = [f]) (hbeat : f.beat = o.frame.beat) :
    (f.digest = o.frame.digest → compareAll 2 s = releaseBeat o { s with pair := { s.pair with
      own := [], theirs := [], compared := s.pair.compared ++ [(o.frame, f)] } }) ∧
    (f.digest ≠ o.frame.digest → compareAll 2 s = diverge o f s) := by
  have hfind : s.pair.theirs.find? (fun g => g.beat == o.frame.beat) = some f := by
    rw [htheirs, List.find?_cons_of_pos (by simp [hbeat])]
  have hrest : s.pair.theirs.filter (fun g => g.beat != f.beat) = [] := by simp [htheirs]
  refine ⟨fun hsame => ?_, fun hdiffer => ?_⟩
  · rw [compareAll, hown]
    dsimp only
    rw [hfind]
    dsimp only
    rw [if_pos hsame, hrest]
    exact compareAll_empty (by rw [releaseBeat_released.pair])
  · rw [compareAll, hown]
    dsimp only
    rw [hfind]
    exact if_neg hdiffer

/-- The state of a paired chip once a frame has come in. -/
abbrev frameTaken (f : BeatFrame) (s : State) : State :=
  let timely := f.beat + 1 == s.beat.number && s.pair.waited != some s.beat.number
  { s with pair := { s.pair with
    theirs := s.pair.theirs ++ [f], absent := if timely then 0 else s.pair.absent, present := timely || s.pair.present,
    admits := if pairState s = 3 then s.pair.admits ++ [(f.beat, f.admitCount)] else s.pair.admits } }

theorem exec_beatFrameReceived_paired {port : Port} {s0 : State} (hs : s = heardOn port 74 s0) (hport : port = pairPort s)
    (hpair : paired s = true) :
    exec (.beatFrameReceived port f) s0 = .next (compareAll (s.pair.own.length + 1) (frameTaken f s)) := by
  subst hs
  exact congrArg Host.Outcome.next ((if_neg (not_not.mpr hport)).trans (if_pos hpair))

/-! Divergence (15 R494). -/

/-- The state in which a divergence is decided: it is counted, its beat is noted and it is logged. -/
def divergenceNoted (f : BeatFrame) (s : State) : State :=
  logEv evDovetailDiverged (leB 8 f.beat) (wr P50.DIVERGED_BEAT f.beat (bump P50.MISMATCHES s))

theorem divergenceNoted_reads (x : s.tidy = true) : (divergenceNoted f s).tidy = true ∧
    rd (divergenceNoted f s) P50.DIVERGED_BEAT = f.beat % 2 ^ 64 := by
  have x1 : (bump P50.MISMATCHES s).tidy = true := wrI_tidy P50.MISMATCHES_known x
  have x2 := wr_tidy (v := f.beat) P50.DIVERGED_BEAT_known x1
  exact ⟨logEv_logged.tidy x2,
    (logEv_logged.regs x2 _ 0 P50.DIVERGED_BEAT_known (by decide) (by decide)).trans (rd_wr_self x1)⟩

/-- The state that a chip takes at a divergence: by which of the two alone carries FAULT. -/
theorem diverge_takes (hjoin : s.pair.join = none) (x : s.tidy = true) :
    rd (diverge o f s) P50.DIVERGED_BEAT = f.beat % 2 ^ 64 ∧ pairState (diverge o f s) =
      if bitAt o.frame.flags 1 = true ∧ bitAt f.flags 1 = false then 6
      else if bitAt f.flags 1 = true ∧ bitAt o.frame.flags 1 = false then 4 else 5 := by
  obtain ⟨x1, hbeat⟩ := divergenceNoted_reads (f := f) x
  have hmute : ∀ {v : State} {c : Nat}, v.regs = (wr P50.PAIR_STATE c (divergenceNoted f s)).regs → c < 16 →
      rd v P50.DIVERGED_BEAT = f.beat % 2 ^ 64 ∧ pairState v = c := fun {v c} hregs hc =>
    ⟨(rd_congr hregs).trans ((rdI_wrI_field P50.PAIR_STATE_known P50.DIVERGED_BEAT_known (by decide) x1).trans hbeat),
      (rd_congr hregs).trans (pairState_wr hc x1)⟩
  have hdecide : diverge o f s =
      if (bitAt o.frame.flags 1 && !bitAt f.flags 1) = true then standMute 6 (divergenceNoted f s)
      else if (bitAt f.flags 1 && !bitAt o.frame.flags 1) = true then standAlone 4 (divergenceNoted f s)
      else wr P50.PAIR_STATE 5 { divergenceNoted f s with pair := { (divergenceNoted f s).pair with
        theirs := [], compared := [], used := none, inputs := [], copies := [], admits := [], next := none } } :=
    if_neg (by rw [hjoin]; exact Bool.false_ne_true)
  simp only [Bool.and_eq_true, Bool.not_eq_true'] at hdecide
  rw [hdecide]
  by_cases hyield : bitAt o.frame.flags 1 = true ∧ bitAt f.flags 1 = false
  · rw [if_pos hyield, if_pos hyield]
    exact hmute rfl (by decide)
  · rw [if_neg hyield, if_neg hyield]
    by_cases hsolo : bitAt f.flags 1 = true ∧ bitAt o.frame.flags 1 = false
    · rw [if_pos hsolo, if_pos hsolo]
      exact ⟨(standAlone_wrote.rd x1 P50.DIVERGED_BEAT_known (by decide)).trans hbeat,
        pairState_standAlone (by decide) x1⟩
    · rw [if_neg hsolo, if_neg hsolo]
      exact hmute rfl (by decide)

/-! Debug (12 R424, R425; 15 R502). -/

/-- Starting jobs leaves the key store. -/
theorem startJobs_store {m : Nat} : (startJobs m s).keys.store = s.keys.store := by
  induction m generalizing s with
  | zero => rfl
  | succ m ih =>
    unfold startJobs
    split
    next x l i hnext hlane =>
      exact ih.trans (beginJob_keys (n := i) (j := x) (s := { s with keys := { s.keys with queue := l } })).2.1
    · rfl

/-- Slots that a wipe has erased hold no key; the store is left alone. -/
theorem wipeAll_keys : (wipeAll s).keys.slots = [] ∧ (wipeAll s).keys.store = s.keys.store := by
  have hwipe : (wipeKeys s).keys = { s.keys with slots := [], lanes := List.replicate 8 {} } :=
    foldl_keys fun _ _ => abortJob_keys
  have hslots : ∀ {m : Nat} {v : State}, v.keys.slots = [] → (startJobs m v).keys.slots = [] := by
    intro m
    induction m with
    | zero => exact id
    | succ m ih =>
      intro v hv
      unfold startJobs
      split
      next x l i hnext hlane =>
        exact ih ((beginJob_keys (n := i) (j := x) (s := { v with keys := { v.keys with queue := l } })).2.2 hv)
      · exact hv
  exact ⟨hslots (by rw [hwipe]), startJobs_store.trans (by rw [hwipe])⟩

theorem exec_debugEnabled (hoff : rd s P40.DEBUG_ACTIVE = 0) : ∃ t, exec .debugEnabled s = .next t ∧ t.keys.slots = [] ∧
    t.keys.store = s.keys.store ∧ (s.tidy → rd t P40.DEBUG_ACTIVE = 1 ∧ (paired s → pairState t = 6)) := by
  obtain ⟨v, hv⟩ : ∃ v, v = logEv evDebugEnabled [] (wr P40.DEBUG_ACTIVE 1 (wipeAll s)) := ⟨_, rfl⟩
  have hexec : exec .debugEnabled s = .next (if paired s then standMute 6 v else v) := by
    rw [hv]
    exact congrArg Host.Outcome.next (if_neg (by rw [rdB_eq_false.mpr hoff]; decide))
  have hkeys : v.keys = (wipeAll s).keys := by
    rw [hv, logEv_logged.rest]
    rfl
  have hreads : s.tidy = true → v.tidy = true ∧ rd v P40.DEBUG_ACTIVE = 1 := fun x => by
    have xw : (wipeAll s).tidy = true := (wipeAll_kept (.refl s)).tidy x
    have x1 := wr_tidy (v := 1) P40.DEBUG_ACTIVE_known xw
    rw [hv]
    exact ⟨logEv_logged.tidy x1,
      (logEv_logged.regs x1 _ 0 P40.DEBUG_ACTIVE_known (by decide) (by decide)).trans (rd_wr_self xw)⟩
  by_cases hpair : paired s = true
  · refine ⟨standMute 6 v, hexec.trans (congrArg _ (if_pos hpair)), ?_, ?_, fun x => ⟨?_, fun _ => ?_⟩⟩
    · exact (congrArg KeySt.slots hkeys).trans wipeAll_keys.1
    · exact (congrArg KeySt.store hkeys).trans wipeAll_keys.2
    · exact (rdI_wrI_field P50.PAIR_STATE_known P40.DEBUG_ACTIVE_known (by decide) (hreads x).1).trans (hreads x).2
    · exact pairState_standMute (by decide) (hreads x).1
  · exact ⟨v, hexec.trans (congrArg _ (if_neg hpair)), by rw [hkeys, wipeAll_keys.1], by rw [hkeys, wipeAll_keys.2],
      fun x => ⟨(hreads x).2, fun hyes => absurd hyes hpair⟩⟩

end

/-- Settles O57: the commands by R487's and R495's checks, a frame by the port and the state it finds, a divergence by which
chip alone carries FAULT. -/
theorem pairingCompletes : Obligations.PairingCompletes := by
  refine ⟨?pair, ?unpaired, fun h p s hs => exec_promote hs, ?promoted, ?status, fun h p s hs => exec_resolveDivergence hs,
    ?resolved, ?stands, ?expires, fun s => exec_joinLimitExpire_other, fun g l j s => exec_pairJoinStart_primary,
    fun y s => exec_pairJoinStart_shadow, ?frame, fun o f s x hjoin => diverge_takes hjoin x, ?waits, ?absent, ?debug⟩
  case pair =>
    intro h p s hs
    refine ⟨?_, congrArg Host.Outcome.next (runCmd_accepts hs rfl)⟩
    intro a near
    have fails : ∀ {x st d}, pairBody h p x s = .fail st d → exec (.pair h p x) s = ended h p st d s := fun hbody =>
      congrArg Host.Outcome.next (runCmd_fails hs hbody)
    refine ⟨fun hfar x => fails (pairBody_far hfar), fun hnear hidle hsolo x => fails (pairBody_busy hnear hidle hsolo),
      fun hnear hstate => ⟨fails (pairBody_near hnear hstate).1, fun y => ⟨fun hcheck => ?_, ?_⟩⟩⟩
    · exact fails (((pairBody_near hnear hstate).2 y).trans (if_pos fun hsame => hcheck hsame.symm))
    · intro hcheck hown hpartner hversions heligible
      have hbody := pairBody_may (h := h) hnear hstate ⟨hcheck, hown, hpartner, hversions, heligible⟩
      refine ⟨fun hready => ⟨_, congrArg Host.Outcome.next (runCmd_stays hs (hbody.trans (if_neg ?_))), rfl, rfl, rfl, rfl⟩,
        fun hnot => fails (hbody.trans (if_pos hnot))⟩
      obtain ⟨hbeat, hlocked, hself⟩ := hready
      rw [hlocked, hself]
      simp [hbeat]
  case unpaired =>
    intro h p s
    exact ⟨fun hpair => if_pos hpair, fun hno => if_neg (by rw [hno]; exact Bool.false_ne_true)⟩
  case promoted =>
    intro h p s hpair
    exact if_pos hpair
  case status =>
    intro h p s hs
    exact congrArg Host.Outcome.next (runCmd_done hs rfl)
  case resolved =>
    intro h p s hhalt
    exact if_neg (not_not.mpr hhalt)
  case stands =>
    intro n s hn x
    exact ⟨pairState_standMute hn x, rfl, rfl, pairState_standAlone hn x, standAlone_own⟩
  case expires =>
    intro j s hjoin hstate hopen hlate
    refine (exec_joinLimitExpire hjoin).trans (congrArg _ ((if_pos ⟨hstate, hopen, ?_⟩).trans (failJoin_joining hjoin)))
    exact passed_iff.mpr hlate
  case frame =>
    intro port f s0 r s
    refine ⟨fun hport => congrArg Host.Outcome.next (if_pos hport), ?_,
      fun hport hhalt => exec_beatFrameReceived_halted rfl hport hhalt⟩
    intro hport hpair timely t
    have hexec : r = .next (compareAll (s.pair.own.length + 1) t) := exec_beatFrameReceived_paired rfl hport hpair
    refine ⟨fun hown => hexec.trans (congrArg _ (compareAll_empty hown)), fun o hown htheirs hbeat => ?_⟩
    have hone : t.pair.theirs = [f] := by
      change s.pair.theirs ++ [f] = [f]
      rw [htheirs]
      rfl
    obtain ⟨hsame, hdiffer⟩ := compareAll_one (s := t) hown hone hbeat
    rw [hown] at hexec
    exact ⟨fun heq => hexec.trans (congrArg _ (hsame heq)), fun hne => hexec.trans (congrArg _ (hdiffer hne))⟩
  case waits =>
    intro s late
    have hlate : late ↔ paired s = true ∧ s.pair.own.any (fun o => o.frame.beat + 1 == s.beat.number) = true ∧
        s.pair.theirs.any (fun f => f.beat + 1 == s.beat.number) = false ∧ s.pair.waited ≠ some s.beat.number := by
      simp [late, List.any_eq_true, List.any_eq_false]
    exact ⟨fun hdue => congrArg Host.Outcome.next (if_pos (hlate.mp hdue)),
      fun hno => congrArg Host.Outcome.next (if_neg (hlate.not.mp hno))⟩
  case absent =>
    intro s
    refine ⟨fun hpair hmany => congrArg Host.Outcome.next (if_pos ⟨hpair, hmany⟩), fun hno =>
      congrArg Host.Outcome.next (if_neg fun hgo => ?_)⟩
    obtain halone | hfew := hno
    · exact Bool.false_ne_true (halone.symm.trans hgo.1)
    · exact Nat.not_le.mpr hfew hgo.2
  case debug =>
    intro s
    exact ⟨exec_debugEnabled, fun hon => congrArg Host.Outcome.next (if_pos (rdB_of_ne_zero hon))⟩

end Sys2Proof.Machine
end

section
/-! What the legal pair records, and the host commands of the totalizer (11 R375 to R401). -/
namespace Sys2Proof.Machine

section
variable {s t u : State}

/-! LEGAL entries (11 R396). -/

/-- From `s` to `t` LEGAL entries were recorded and posted: the pair's queue, its next number and whether a full queue is
logged moved, the ledger, and what logging an event may change. -/
structure Entered (s t : State) : Prop where
  rest : t = { s with
    legal := { s.legal with
      core := { s.legal.core with queue := t.legal.core.queue, nextNo := t.legal.core.nextNo },
      fullLogged := t.legal.fullLogged }
    ledger := t.ledger, ev := t.ev, cmd := { s.cmd with noticeCounter := t.cmd.noticeCounter },
    pair := { s.pair with faultAt := t.pair.faultAt }, chain := { s.chain with u := t.chain.u },
    regs := t.regs, ctr := t.ctr, out := t.out }
  wrote : Wrote logPages s t

theorem Entered.refl : Entered s s := ⟨rfl, .refl⟩

theorem Entered.trans (h : Entered s t) (g : Entered t u) : Entered s u :=
  ⟨by rw [g.rest, h.rest], h.wrote.trans g.wrote⟩

theorem Entered.ledgerOnly {l : LedgerSt} (h : Entered s t) : Entered s { t with ledger := l } :=
  h.trans ⟨rfl, .same rfl rfl⟩

theorem Entered.queued {q : List LegalEnt} {n : Nat} {b : Bool} (h : Entered s t) : Entered s { t with
    legal := { t.legal with core := { t.legal.core with queue := q, nextNo := n }, fullLogged := b } } :=
  h.trans ⟨rfl, .same rfl rfl⟩

theorem Entered.logEv {c : Nat} {d : List Byte} (h : Entered s t) : Entered s (logEv c d t) := by
  have hlog := logEv_logged (c := c) (d := d) (s := t)
  exact h.trans ⟨by rw [hlog.rest], .logEv (fun _ hf => hf) .refl⟩

theorem Entered.legal (h : Entered s t) : t.legal = { s.legal with
    core := { s.legal.core with queue := t.legal.core.queue, nextNo := t.legal.core.nextNo },
    fullLogged := t.legal.fullLogged } := congrArg State.legal h.rest

theorem postOne_entered {x : LegalEnt} : Entered s (postOne x s) := by
  unfold postOne
  dsimp only
  have hmark := (Entered.refl (s := s)).queued (n := s.legal.core.nextNo) (b := s.legal.fullLogged)
    (q := mapIf (fun y => y.no == x.no) (fun y => { y with posted := true }) s.legal.core.queue)
  split
  · exact hmark
  · obtain ⟨l, hl⟩ := postEntry_eq (e := legalEntry x) (s := modCore (fun c => { c with
      queue := mapIf (fun y => y.no == x.no) (fun y => { y with posted := true }) c.queue }) s)
    rw [hl]
    exact hmark.ledgerOnly

theorem foldl_postOne_entered {l : List LegalEnt} : Entered s (l.foldl (fun t x => postOne x t) s) := by
  induction l generalizing s with
  | nil => exact .refl
  | cons x l ih => exact postOne_entered.trans ih

theorem legalPost_entered : Entered s (legalPost s) := by
  unfold legalPost
  split
  · exact (Entered.queued (n := s.legal.core.nextNo) (q := s.legal.core.queue) .refl).trans foldl_postOne_entered
  · exact .refl

theorem newEnt_entered {sub : Nat} {mid body : List Byte} : Entered s (newEnt sub mid body s) := by
  unfold newEnt
  split
  · split
    · exact .refl
    · exact .logEv (.queued (n := s.legal.core.nextNo) (q := s.legal.core.queue) .refl)
  · exact (Entered.queued (b := s.legal.fullLogged) .refl).trans legalPost_entered

/-! The legal log (11 R378) and a closure (11 R389). -/

/-- A record raises the log's next number; one that leaves the full ring is counted. -/
theorem logRing_rings {code detail old new : Nat} : ∃ l, ∀ v,
    v = wr P30.LOG_NEXT (rd s P30.LOG_NEXT + 1) { s with legal := { s.legal with log := l } } →
      logRing code detail old new s = v ∨ logRing code detail old new s = bump P30.LOG_OVERWRITTEN v := by
  obtain ⟨l, hl⟩ : ∃ l, l = s.legal.log ++ [(rd s P30.LOG_NEXT, logBytes s code detail old new)] := ⟨_, rfl⟩
  refine ⟨l.drop (l.length - 4096), fun v hv => ?_⟩
  subst hv hl
  exact (ite_eq_or_eq _ _ _).symm

theorem logRing_legal {code detail old new : Nat} : ∃ l, (logRing code detail old new s).legal = { s.legal with log := l } := by
  obtain ⟨l, hrings⟩ := logRing_rings (code := code) (detail := detail) (old := old) (new := new) (s := s)
  obtain hring | hring := hrings _ rfl <;> exact ⟨l, congrArg State.legal hring⟩

/-- The fields that a record of the legal log writes. -/
abbrev ringFields (g : Fld) : Prop := g = P30.LOG_NEXT ∨ g = P30.LOG_OVERWRITTEN

theorem logRing_wrote {code detail old new : Nat} : Wrote ringFields s (logRing code detail old new s) := by
  obtain ⟨l, hrings⟩ := logRing_rings (code := code) (detail := detail) (old := old) (new := new) (s := s)
  obtain ⟨v, hv⟩ : ∃ v, v = wr P30.LOG_NEXT (rd s P30.LOG_NEXT + 1) { s with legal := { s.legal with log := l } } := ⟨_, rfl⟩
  have hnext : Wrote ringFields s v := hv ▸ .wrI (w := ringFields) P30.LOG_NEXT_known (.inl rfl) (.same rfl rfl)
  obtain hring | hring := hrings v hv <;> rw [hring]
  · exact hnext
  · exact .wrI (w := ringFields) P30.LOG_OVERWRITTEN_known (.inr rfl) hnext

theorem logRing_next {code detail old new : Nat} (x : s.tidy = true) :
    rd (logRing code detail old new s) P30.LOG_NEXT = (rd s P30.LOG_NEXT + 1) % 2 ^ 32 := by
  obtain ⟨l, hrings⟩ := logRing_rings (code := code) (detail := detail) (old := old) (new := new) (s := s)
  obtain ⟨u, hu⟩ : ∃ u, u = { s with legal := { s.legal with log := l } } := ⟨_, rfl⟩
  have xu : u.tidy = true := hu ▸ x
  obtain ⟨v, hv⟩ : ∃ v, v = wr P30.LOG_NEXT (rd s P30.LOG_NEXT + 1) u := ⟨_, rfl⟩
  have hnext : rd v P30.LOG_NEXT = (rd s P30.LOG_NEXT + 1) % 2 ^ 32 := hv ▸ rd_wr_self xu
  obtain hring | hring := hrings v (by rw [hv, hu]) <;> rw [hring]
  · exact hnext
  · exact (rdI_wrI_field P30.LOG_OVERWRITTEN_known P30.LOG_NEXT_known (by decide)
      (hv ▸ wr_tidy P30.LOG_NEXT_known xu)).trans hnext

theorem legalLog_wrote {code detail old new : Nat} :
    Wrote (fun g => ringFields g ∨ logPages g) s (legalLog code detail old new s) :=
  have hring := logRing_wrote (code := code) (detail := detail) (old := old) (new := new) (s := s)
  have hent := newEnt_entered (sub := 5) (mid := []) (body := logBytes s code detail old new)
    (s := logRing code detail old new s)
  ⟨fun x f i hf hno => (hent.wrote.reads (hring.tidy x) f i hf (hno ∘ .inr)).trans (hring.reads x f i hf (hno ∘ .inl)),
    fun x => hent.wrote.tidy (hring.tidy x)⟩

theorem legalLog_next {code detail old new : Nat} (x : s.tidy = true) :
    rd (legalLog code detail old new s) P30.LOG_NEXT = (rd s P30.LOG_NEXT + 1) % 2 ^ 32 :=
  (newEnt_entered.wrote.rd (logRing_wrote.tidy x) P30.LOG_NEXT_known (by decide)).trans (logRing_next x)

/-- Beside its queue, its ring and its full mark the pair's state stands when a record is logged with its entry. -/
theorem legalLog_legal {code detail old new : Nat} : ∃ l q n b, (legalLog code detail old new s).legal = { s.legal with
    log := l, core := { s.legal.core with queue := q, nextNo := n }, fullLogged := b } := by
  have hent := (newEnt_entered (sub := 5) (mid := []) (body := logBytes s code detail old new)
    (s := logRing code detail old new s)).legal
  obtain ⟨l, hring⟩ := logRing_legal (code := code) (detail := detail) (old := old) (new := new) (s := s)
  rw [hring] at hent
  exact ⟨l, _, _, _, hent⟩

theorem closePeriod_legal {b : BillSet} : ∃ l, (closePeriod b s).legal = { s.legal with
    core := { s.legal.core with maxD := List.replicate 9 (0, 0) },
    bills := (b :: s.legal.bills).take 15, log := l } := logRing_legal

/-- The fields that a closure writes. -/
abbrev closureFields (g : Fld) : Prop := g = P31.CLOSURES ∨ ringFields g

theorem closePeriod_wrote {b : BillSet} : Wrote closureFields s (closePeriod b s) := by
  obtain ⟨v, hv⟩ : ∃ v, v = wr P31.CLOSURES b.no (modCore (fun c => { c with maxD := List.replicate 9 (0, 0) })
    { s with legal := { s.legal with bills := (b :: s.legal.bills).take 15 } }) := ⟨_, rfl⟩
  have h1 : Wrote closureFields s v := hv ▸ .wrI (w := closureFields) P31.CLOSURES_known (.inl rfl) (.same rfl rfl)
  have h2 := logRing_wrote (code := 0x05) (detail := b.no % 65536) (old := 0) (new := 0) (s := v)
  have h3 : closePeriod b s = logRing 0x05 (b.no % 65536) 0 0 v := by rw [hv]; rfl
  rw [h3]
  exact h1.trans ⟨fun x f i hf hno => h2.reads x f i hf (hno ∘ .inr), h2.tidy⟩

theorem closePeriod_closures {b : BillSet} (x : s.tidy = true) :
    rd (closePeriod b s) P31.CLOSURES = b.no % 2 ^ 32 := by
  obtain ⟨v, hv⟩ : ∃ v, v = modCore (fun c => { c with maxD := List.replicate 9 (0, 0) })
    { s with legal := { s.legal with bills := (b :: s.legal.bills).take 15 } } := ⟨_, rfl⟩
  have xv : v.tidy = true := hv ▸ x
  have hclose : closePeriod b s = logRing 0x05 (b.no % 65536) 0 0 (wr P31.CLOSURES b.no v) := by rw [hv]; rfl
  rw [hclose]
  exact (logRing_wrote.rd (wr_tidy P31.CLOSURES_known xv) P31.CLOSURES_known (by decide)).trans (rd_wr_self xv)

end
end Sys2Proof.Machine
end

section
/-! The host commands of the totalizer (11 R375 to R401). -/
namespace Sys2Proof.Machine

section
variable {s : State} {h : Hdr} {p : List Byte} {ok : Bool} {n : Nat}

/-! Reads (11 R375, R379, R390). -/

theorem exec_readRegisters (hs : Served h p false s) (hlow : 1 ≤ byteAt p 2) (hhigh : byteAt p 2 ≤ 63) :
    let l := legalIds.filter (fun i => decide (leAt p 0 2 ≤ i))
    exec (.readRegisters h p) s = answered h p (leB 2 (min (byteAt p 2) l.length) ++ leB 2 ((l.drop (byteAt p 2)).headD 0xFFFF)
      ++ leB 5 (legalSec s) ++ zeros 7 ++ ((l.take (byteAt p 2)).map (regRecord s)).flatten) s := by
  intro l
  rw [← List.length_take, List.headD_eq_head?_getD]
  exact congrArg Host.Outcome.next (runCmd_done hs (if_neg (by omega)))

theorem exec_readBillingSet (hs : Served h p false s) :
    (∀ b, s.legal.bills[byteAt p 0]? = some b → exec (.readBillingSet h p) s = answered h p (billData b) s) ∧
    (s.legal.bills.length ≤ byteAt p 0 → exec (.readBillingSet h p) s = ended h p stUnknownObject 0 s) := by
  refine ⟨fun b hb => congrArg Host.Outcome.next (runCmd_done hs ?_),
    fun hout => congrArg Host.Outcome.next (runCmd_fails hs ?_)⟩
  · simp only [hb]
  · simp only [List.getElem?_eq_none hout]

theorem exec_legalLogRead (hs : Served h p false s) (hold : oldestLog s ≤ leAt p 0 4)
    (hnext : leAt p 0 4 ≤ rd s P30.LOG_NEXT) : exec (.legalLogRead h p) s =
      if byteAt p 4 = 0 then ended h p stOutOfRange 32 s
      else
        let l := (s.legal.log.filter (fun x => decide (leAt p 0 4 ≤ x.1))).take (byteAt p 4)
        answered h p (leB 2 l.length ++ [0, 0] ++ leB 4 (oldestLog s) ++ leB 4 (rd s P30.LOG_NEXT) ++ [0, 0, 0, 0]
          ++ (l.map (fun x => x.2 ++ leB 4 (crc32c x.2))).flatten) s := by
  have hin : ¬ (leAt p 0 4 < oldestLog s ∨ rd s P30.LOG_NEXT < leAt p 0 4) := by omega
  split
  next hzero => exact congrArg Host.Outcome.next (runCmd_fails hs ((if_neg hin).trans (if_pos hzero)))
  next hsome => exact congrArg Host.Outcome.next (runCmd_done hs ((if_neg hin).trans (if_neg hsome)))

/-! Authority (02 R69) and the calendar (11 R384, R386). -/

theorem not_denied (hauth : authOk s (authCount p) ok = true) : ¬ authOk s (authCount p) ok = false := by
  rw [hauth]
  decide

theorem calendarLoadBody_checked (hauth : authOk s (authCount p) ok = true) (hform : byteAt p 0 = 1)
    (hlen : leAt p 4 4 = (calData p).length) (hcrc : leAt p 8 4 = crc32c (calData p)) : calendarLoadBody h p ok s =
      match calBad (calData p) with
      | some o => .fail stBadPayload (16 + o)
      | none => .accept (leB 4 (calId (calData p)) ++ leB 4 (crc32c (calData p))) p
          { cmd := some (.calendarLoad h p ok), args := [authCount p] } s :=
  (if_neg (not_denied hauth)).trans ((if_neg (not_not.mpr hform)).trans ((if_neg (not_not.mpr hlen)).trans
    (if_neg (not_not.mpr hcrc))))

theorem exec_calendarLoad (hs : Served h p true s) (hauth : authOk s (authCount p) ok = true) (hform : byteAt p 0 = 1)
    (hlen : leAt p 4 4 = (calData p).length) (hcrc : leAt p 8 4 = crc32c (calData p)) :
    (calBad (calData p) = none → exec (.calendarLoad h p ok) s = .next (accepted h p
      (leB 4 (calId (calData p)) ++ leB 4 (crc32c (calData p))) p (.calendarLoad h p ok) [authCount p] s)) ∧
    (∀ o, calBad (calData p) = some o → exec (.calendarLoad h p ok) s = ended h p stBadPayload (16 + o) s) := by
  have hbody := calendarLoadBody_checked (h := h) hauth hform hlen hcrc
  refine ⟨fun hgood => congrArg Host.Outcome.next (runCmd_accepts hs ?_),
    fun o hbad => congrArg Host.Outcome.next (runCmd_fails hs ?_)⟩
  · rw [hbody, hgood]
  · rw [hbody, hbad]

theorem effCalendarLoad_sets {e : Eff} : ∃ v, effCalendarLoad e s =
      legalLog 0x03 0 (rd s P31.PASSIVE_CAL_ID) (calId (calData e.data)) v ∧
    v.legal = { s.legal with passive := calData e.data } ∧ (s.tidy = true → v.tidy = true ∧
      rd v P31.PASSIVE_CAL_ID = calId (calData e.data) % 2 ^ 32 ∧ rd v P30.AUTH_COUNT = e.args.getD 0 0 % 2 ^ 64 ∧
      rd v P30.LOG_NEXT = rd s P30.LOG_NEXT) := by
  obtain ⟨w, hw⟩ : ∃ w, w = { s with legal := { s.legal with passive := calData e.data } } := ⟨_, rfl⟩
  refine ⟨wr P30.AUTH_COUNT (e.args.getD 0 0) (wr P31.PASSIVE_CAL_ID (calId (calData e.data)) w), by rw [hw]; rfl,
    by rw [hw]; rfl, fun x => ?_⟩
  have xw : w.tidy = true := hw ▸ x
  have xv := wr_tidy (v := calId (calData e.data)) P31.PASSIVE_CAL_ID_known xw
  have hnext : rd w P30.LOG_NEXT = rd s P30.LOG_NEXT := by rw [hw]; rfl
  refine ⟨wr_tidy P30.AUTH_COUNT_known xv, ?_, rd_wr_self xv, ?_⟩
  · exact (rdI_wrI_field P30.AUTH_COUNT_known P31.PASSIVE_CAL_ID_known (by decide) xv).trans (rd_wr_self xw)
  · exact (rdI_wrI_field P30.AUTH_COUNT_known P30.LOG_NEXT_known (by decide) xv).trans
      ((rdI_wrI_field P31.PASSIVE_CAL_ID_known P30.LOG_NEXT_known (by decide) xw).trans hnext)

theorem calendarActivateBody_named (hauth : authOk s (authCount p) ok = true) (hready : legalWaits s = false)
    (hheld : rd s P31.PASSIVE_CAL_ID ≠ 0) (hid : leAt p 0 4 = rd s P31.PASSIVE_CAL_ID) : calendarActivateBody h p ok s =
      if leAt p 4 5 ≠ 0 ∧ leAt p 4 5 ≤ legalSec s then .fail stOutOfRange 32
      else .accept (leB 4 (leAt p 0 4) ++ leB 4 ((if leAt p 4 5 = 0 then legalSec s else leAt p 4 5) % 2 ^ 32)) p
        { cmd := some (.calendarActivate h p ok), args := [authCount p] } s := by
  refine (if_neg (not_denied hauth)).trans (if_neg ?_)
  rintro (hwaits | hnone | hother)
  · exact Bool.false_ne_true (hready.symm.trans hwaits)
  · exact hheld hnone
  · exact hother hid

/-! Calibration (11 R380). -/

theorem exec_calibrate_sealed (hs : Served h p true s) (hauth : authOk s (authCount p) ok = true)
    (hguard : rd s P30.SEAL_CAL ≠ 0) (hseal : rd s P30.SEAL_STATE = 0) :
    exec (.calibrate h p ok) s = ended h p stDeniedSeal 0 s :=
  congrArg Host.Outcome.next (runCmd_fails hs ((if_neg (not_denied hauth)).trans
    (if_pos ⟨rdB_of_ne_zero hguard, rdB_eq_false.mpr hseal⟩)))

theorem calibrateBody_open (hauth : authOk s (authCount p) ok = true)
    (hopen : rd s P30.SEAL_CAL = 0 ∨ rd s P30.SEAL_STATE ≠ 0) (hsome : byteAt p 0 ≠ 0) : calibrateBody h p ok s =
      match calRange p with
      | some b => .fail stOutOfRange b
      | none =>
        let m := mergeCal p (newestCal s)
        let n := rd s P30.CAL_COUNT + 1
        let x := ownLog 0x02 0 (rd s P30.CAL_CRC) (crc32c m) s
        .stays (postGroup
          [commandEntry h p (leB 4 (rd s P30.LOG_NEXT) ++ leB 4 n ++ leB 4 (crc32c m) ++ zeros 4) p
            { cmd := some (.calibrate h p ok), args := [authCount p, n], data := p }, x.1] (putCal m none n x.2)) := by
  refine (if_neg (not_denied hauth)).trans ((if_neg ?_).trans (if_neg hsome))
  rintro ⟨hguard, hseal⟩
  obtain hfree | hheld := hopen
  · exact Bool.false_ne_true ((rdB_eq_false.mpr hfree).symm.trans hguard)
  · exact hheld (rdB_eq_false.mp hseal)

/-! BILLING_CLOSE (11 R389). -/

/-- The state that a closure by command leaves: the period closed, its two entries kept, the snapshot taken. -/
def closedByCommand (b : BillSet) (s : State) : State :=
  takeSnapshot (keepEnt 3 (closureMid b) (closureBody b) true
    (keepEnt 5 [] (logBytes s 0x05 (b.no % 65536) 0 0) true (closePeriod b s)))

theorem exec_billingClose (hs : Served h p true s) (hauth : authOk s (authCount p) ok = true)
    (hready : legalWaits s = false) (hno : leAt p 0 4 = rd s P31.CLOSURES) :
    ∃ e1 e2, exec (.billingClose h p ok) s = .next (postGroup [commandEntry h p
      (leB 4 (rd s P31.CLOSURES + 1) ++ leB 4 (rd s P30.LOG_NEXT)) []
      { cmd := some (.billingClose h p ok), args := [authCount p], data := p }, e1, e2]
        (closedByCommand (billSet s 2 0 0) s)) := by
  refine ⟨_, _, congrArg Host.Outcome.next (runCmd_stays hs ((if_neg (not_denied hauth)).trans (if_neg ?_)))⟩
  rintro (hwaits | hother)
  · exact Bool.false_ne_true (hready.symm.trans hwaits)
  · exact hother hno

theorem closedByCommand_closes {b : BillSet} : let t := closedByCommand b s
    t.legal.bills = (b :: s.legal.bills).take 15 ∧ t.legal.core.maxD = List.replicate 9 (0, 0) ∧
    t.legal.core.acc = s.legal.core.acc ∧ t.legal.core.nextNo = s.legal.core.nextNo + 2 ∧ t.legal.snap = t.legal.core ∧
    (s.tidy → rd t P31.CLOSURES = b.no % 2 ^ 32 ∧ rd t P31.LAST_SCHED_AT = rd s P31.LAST_SCHED_AT) := by
  obtain ⟨l, hlegal⟩ := closePeriod_legal (b := b) (s := s)
  have hreads : s.tidy = true → _ ∧ _ := fun x =>
    ⟨closePeriod_closures (b := b) x, (closePeriod_wrote (b := b)).rd x P31.LAST_SCHED_AT_known (by decide)⟩
  unfold closedByCommand
  generalize closePeriod b s = v at hlegal hreads
  refine ⟨congrArg LegalSt.bills hlegal, congrArg (fun l => l.core.maxD) hlegal, congrArg (fun l => l.core.acc) hlegal,
    ?_, rfl, hreads⟩
  change v.legal.core.nextNo + 2 = _
  rw [hlegal]

/-! DISPLAY_LIST and OUTPUT_CONTROL (11 R399, R401). -/

theorem displayListBody_formed (hlist : byteAt p 0 = 1 ∨ byteAt p 0 = 2) (hlow : 1 ≤ byteAt p 1) (hhigh : byteAt p 1 ≤ 124)
    (hlen : p.length = 16 + 4 * byteAt p 1) : displayListBody h p s =
      if (dispItems p).any (fun i => !legalIds.contains i.id) then .fail stUnknownObject 0
      else .accept (leB 4 (byteAt p 1)) p { cmd := some (.displayList h p) } s :=
  (if_neg (by omega)).trans ((if_neg (by omega)).trans (if_neg (not_not.mpr hlen)))

theorem any_unknown_iff {l : List DispItem} :
    l.any (fun i => !legalIds.contains i.id) = true ↔ ¬ ∀ i ∈ l, i.id ∈ legalIds := by
  simp

theorem any_otherMode_iff : (List.range 8).any (fun n => bitAt (byteAt p 0) n && outMode s n != 2) = true ↔
    ∃ n, n < 8 ∧ (byteAt p 0).testBit n = true ∧ outMode s n ≠ 2 := by
  simp [bitAt_eq_testBit]

theorem newOutCmd_testBit (hn : n < 8) : (newOutCmd s p).testBit n =
    if (byteAt p 0).testBit n then (byteAt p 1).testBit n else (rd s P32.OUT_CMD).testBit n := by
  have hmask : (255 - byteAt p 0).testBit n = !(byteAt p 0).testBit n := by
    have hbyte := Nat.testBit_two_pow_sub_succ (byteAt_lt (p := p) (i := 0)) n
    rw [show 255 - byteAt p 0 = 2 ^ 8 - (byteAt p 0 + 1) by omega, hbyte]
    simp [hn]
  change ((rd s P32.OUT_CMD &&& (255 - byteAt p 0)) ||| (byteAt p 1 &&& byteAt p 0)).testBit n = _
  rw [Nat.testBit_or, Nat.testBit_and, Nat.testBit_and, hmask]
  cases (byteAt p 0).testBit n <;> simp

end

/-- Settles O58: each command by its checks in order, a closure by what `closePeriod` and the entries kept with it leave. -/
theorem legalCommandsComplete : Obligations.LegalCommandsComplete := by
  refine ⟨?reads, ?log, ?denied, fun h p ok s hs hauth => exec_calendarLoad hs hauth, ?loaded, ?activate,
    fun h p ok s => rfl, ?calibrate, fun h p ok n s => rfl, ?close, fun h p ok s => rfl, ?list, ?listed, ?output,
    fun h p s => rfl, fun p s _ n hn => newOutCmd_testBit hn⟩
  case reads =>
    intro h p s hs
    exact ⟨⟨fun hout => congrArg Host.Outcome.next (runCmd_fails hs (if_pos hout)), exec_readRegisters hs⟩,
      exec_readBillingSet hs⟩
  case log =>
    intro h p s r hs q l
    exact ⟨fun hout => congrArg Host.Outcome.next (runCmd_fails hs (if_pos hout)),
      fun hold hnext hzero => (exec_legalLogRead hs hold hnext).trans (if_pos hzero),
      fun hold hnext hsome => (exec_legalLogRead hs hold hnext).trans (if_neg hsome)⟩
  case denied =>
    intro h p ok s hs hdenied
    exact ⟨congrArg Host.Outcome.next (runCmd_fails hs (if_pos hdenied)),
      congrArg Host.Outcome.next (runCmd_fails hs (if_pos hdenied)),
      congrArg Host.Outcome.next (runCmd_fails hs (if_pos hdenied)),
      congrArg Host.Outcome.next (runCmd_fails hs (if_pos hdenied))⟩
  case loaded =>
    intro h p ok s t
    obtain ⟨v, hload, hlegal, hreads⟩ := effCalendarLoad_sets (s := s) (e := ⟨some (.calendarLoad h p ok), [authCount p], p⟩)
    have ht : t = legalLog 0x03 0 (rd s P31.PASSIVE_CAL_ID) (calId (calData p)) v := hload
    obtain ⟨l, q, n, b, hlog⟩ := legalLog_legal (code := 0x03) (detail := 0) (old := rd s P31.PASSIVE_CAL_ID)
      (new := calId (calData p)) (s := v)
    rw [hlegal] at hlog
    refine ⟨by rw [ht, hlog], by rw [ht, hlog], fun x => ?_⟩
    obtain ⟨xv, hid, hauth, hnext⟩ := hreads x
    rw [ht]
    exact ⟨(legalLog_wrote.rd xv P31.PASSIVE_CAL_ID_known (by decide)).trans hid,
      (legalLog_wrote.rd xv P30.AUTH_COUNT_known (by decide)).trans hauth, (legalLog_next xv).trans (by rw [hnext])⟩
  case activate =>
    intro h p ok s hs hauth hready hheld hid at_
    have hbody := calendarActivateBody_named (h := h) hauth hready hheld hid
    exact ⟨fun hlater => congrArg Host.Outcome.next (runCmd_accepts hs (hbody.trans (if_neg (by omega)))),
      fun hset hpast => congrArg Host.Outcome.next (runCmd_fails hs (hbody.trans (if_pos ⟨hset, hpast⟩)))⟩
  case calibrate =>
    intro h p ok s r hs hauth
    refine ⟨exec_calibrate_sealed hs hauth, fun hopen hsome => ?_⟩
    have hbody := calibrateBody_open (h := h) hauth hopen hsome
    refine ⟨fun b hb => congrArg Host.Outcome.next (runCmd_fails hs ?_),
      fun hnone => congrArg Host.Outcome.next (runCmd_stays hs ?_)⟩
    · rw [hbody, hb]
    · rw [hbody, hnone]
      rfl
  case close =>
    intro h p ok s hs hauth
    refine ⟨fun hnot => congrArg Host.Outcome.next (runCmd_fails hs ((if_neg (not_denied hauth)).trans (if_pos hnot))),
      fun hready hno => ?_⟩
    obtain ⟨e1, e2, hexec⟩ := exec_billingClose hs hauth hready hno
    exact ⟨e1, e2, _, hexec, closedByCommand_closes⟩
  case list =>
    intro h p s hs n l hlist hlow hhigh hlen
    have hbody := displayListBody_formed (h := h) (s := s) hlist hlow hhigh hlen
    exact ⟨fun hall => congrArg Host.Outcome.next (runCmd_accepts hs (hbody.trans
        (if_neg fun hany => any_unknown_iff.mp hany hall))),
      fun hsome => congrArg Host.Outcome.next (runCmd_fails hs (hbody.trans (if_pos (any_unknown_iff.mpr hsome))))⟩
  case listed =>
    intro h p s t
    refine ⟨fun hauto => ?_, fun hbutton => ?_⟩
    · have ht : t = _ := if_pos hauto
      rw [ht]
      exact ⟨rfl, rfl, rfl⟩
    · have ht : t = _ := if_neg hbutton
      rw [ht]
      exact ⟨rfl, rfl⟩
  case output =>
    intro h p s hs v
    refine ⟨fun hall => congrArg Host.Outcome.next (runCmd_accepts hs (if_neg fun hany => ?_)), fun n hn hbit hmode =>
      congrArg Host.Outcome.next (runCmd_fails hs (if_pos (any_otherMode_iff.mpr ⟨n, hn, hbit, hmode⟩)))⟩
    obtain ⟨n, hn, hbit, hmode⟩ := any_otherMode_iff.mp hany
    exact hmode (hall n hn hbit)

end Sys2Proof.Machine
end

section
/-! Which parts of the pair the work due at an instant moves, and what each piece of it leaves (11 R385 to R395). -/
namespace Sys2Proof.Machine

section
variable {s t u : State} {at_ : Nat}

/-! Driving the outputs (11 R400). -/

theorem drivePins_legal {v : Nat} : (drivePins v s).legal = s.legal := by
  unfold drivePins
  split <;> rfl

theorem drivePins_regs {v : Nat} : (drivePins v s).regs = s.regs := by
  unfold drivePins
  split <;> rfl

theorem drivePins_mem {v : Nat} : (drivePins v s).mem = s.mem := by
  unfold drivePins
  split <;> rfl

/-- Driving the outputs writes OUT_STATE, on a state in which RUN may have ended their release; the pins may follow. -/
theorem driveOutputs_steps : ∃ v n, v.legal = s.legal ∧ v.regs = s.regs ∧ v.mem = s.mem ∧
    (driveOutputs s = wr P32.OUT_STATE n v ∨ ∃ m, driveOutputs s = drivePins m (wr P32.OUT_STATE n v)) := by
  obtain ⟨v, hv⟩ : ∃ v, v = if running s then { s with disp := { s.disp with released := false } } else s := ⟨_, rfl⟩
  have hdrive : driveOutputs s = if pinsHeld (wr P32.OUT_STATE (outBits v) v) then wr P32.OUT_STATE (outBits v) v
      else drivePins (outBits (wr P32.OUT_STATE (outBits v) v)) (wr P32.OUT_STATE (outBits v) v) := hv ▸ rfl
  refine ⟨v, outBits v, ?_, ?_, ?_, ?_⟩
  · rw [hv]; split <;> rfl
  · rw [hv]; split <;> rfl
  · rw [hv]; split <;> rfl
  · rw [hdrive]
    exact (ite_eq_or_eq _ _ _).imp_right fun hpins => ⟨_, hpins⟩

theorem driveOutputs_legal : (driveOutputs s).legal = s.legal := by
  obtain ⟨v, n, hlegal, -, -, hdrive | ⟨m, hdrive⟩⟩ := driveOutputs_steps (s := s) <;> rw [hdrive]
  · exact hlegal
  · exact drivePins_legal.trans hlegal

theorem driveOutputs_wrote : Wrote (fun g => g = P32.OUT_STATE) s (driveOutputs s) := by
  obtain ⟨v, n, -, hregs, hmem, hdrive⟩ := driveOutputs_steps (s := s)
  have hwr := (Wrote.same hregs hmem).wrI (i := 0) (v := n) (w := fun g => g = P32.OUT_STATE) P32.OUT_STATE_known rfl
  obtain hdrive | ⟨m, hdrive⟩ := hdrive <;> rw [hdrive]
  · exact hwr
  · exact hwr.trans (.same drivePins_regs drivePins_mem)

/-! Which fields the pair's work writes. -/

theorem Wrote.mono {w w' : Fld → Prop} (hw : ∀ g, w g → w' g) (h : Wrote w s t) : Wrote w' s t :=
  ⟨fun x f i hf hno => h.reads x f i hf (hno ∘ hw f), h.tidy⟩

theorem Wrote.except {w : Fld → Prop} {f : Fld} (hf : ¬ w f) (h : Wrote w s t) : Wrote (fun g => g ≠ f) s t :=
  h.mono fun _ hg he => hf (he ▸ hg)

/-- From `s` to `t` the pair's working state and its full mark moved, and no field but the recorder's. -/
structure CoreMoved (s t : State) : Prop where
  legal : ∃ c b, t.legal = { s.legal with core := c, fullLogged := b }
  wrote : Wrote logPages s t

theorem CoreMoved.refl : CoreMoved s s := ⟨⟨_, _, rfl⟩, .refl⟩

theorem CoreMoved.trans (h : CoreMoved s t) (g : CoreMoved t u) : CoreMoved s u := by
  obtain ⟨c, b, hlegal⟩ := h.legal
  obtain ⟨c', b', hlegal'⟩ := g.legal
  exact ⟨⟨c', b', by rw [hlegal', hlegal]⟩, h.wrote.trans g.wrote⟩

theorem CoreMoved.modCore {f : LegalCore → LegalCore} (h : CoreMoved s t) : CoreMoved s (modCore f t) :=
  h.trans ⟨⟨_, _, rfl⟩, .same rfl rfl⟩

theorem CoreMoved.newEnt {sub : Nat} {mid body : List Byte} (h : CoreMoved s t) : CoreMoved s (newEnt sub mid body t) :=
  h.trans ⟨⟨_, _, newEnt_entered.legal⟩, newEnt_entered.wrote⟩

theorem demandClose_coreMoved {split outage : Bool} : CoreMoved s (demandClose at_ split outage s) := by
  unfold demandClose
  dsimp only
  split
  · split
    · exact .modCore .refl
    · exact .refl
  split
  · exact .modCore (.newEnt (.modCore .refl))
  split
  · exact .modCore .refl
  · exact .modCore (.newEnt (.modCore .refl))

/-- The fields that a scheduled closure writes. -/
abbrev scheduleFields (g : Fld) : Prop := closureFields g ∨ g = P31.LAST_SCHED_AT ∨ logPages g

theorem runClosure_steps {pd shifted : Bool} : ∃ v, Entered (closePeriod (billSet s 1 at_ (b2n pd + 2 * b2n shifted)) s) v ∧
    runClosure at_ pd shifted s =
      takeSnapshot (modCore (fun c => { c with schedFrom := max c.schedFrom at_ }) (wr P31.LAST_SCHED_AT at_ v)) :=
  ⟨_, newEnt_entered.trans newEnt_entered, rfl⟩

theorem runClosure_wrote {pd shifted : Bool} : Wrote scheduleFields s (runClosure at_ pd shifted s) := by
  obtain ⟨v, hent, hrun⟩ := runClosure_steps (s := s) (at_ := at_) (pd := pd) (shifted := shifted)
  have h1 := (closePeriod_wrote.mono (w' := scheduleFields) fun _ => .inl).trans
    (hent.wrote.mono (w' := scheduleFields) fun _ hg => .inr (.inr hg))
  rw [hrun]
  exact (h1.wrI (w := scheduleFields) P31.LAST_SCHED_AT_known (.inr (.inl rfl))).trans (.same rfl rfl)

theorem instantEnt_entered {kind sched r0 r1 p0 p1 : Nat} {pd shifted : Bool} :
    Entered s (instantEnt kind sched pd shifted r0 r1 p0 p1 s) := newEnt_entered

/-! Each piece of due work (11 R386 to R389). -/

/-- A profile interval that ends at its multiple: the next begins there, and the snapshot holds it (11 R376, R387). -/
theorem profileClose_closes {outage : Bool} (hlate : s.legal.core.prof.start < at_) :
    let u := profileClose at_ false outage s
    u.legal.core.prof.start = at_ ∧ u.legal.core.covered = max s.legal.core.covered at_ ∧ u.legal.snap = u.legal.core ∧
      u.legal.core.acc = s.legal.core.acc := by
  intro u
  obtain ⟨v, add, hent, hu⟩ : ∃ v add, Entered s v ∧ u = takeSnapshot (profileMultiple at_ (startProfile at_ false
      (modCore (fun d => { d with net := (List.range 3).map add, covered := max d.covered at_ }) v))) :=
    ⟨_, _, newEnt_entered, if_neg (not_le.mpr hlate)⟩
  have hacc : v.legal.core.acc = s.legal.core.acc := by rw [hent.legal]
  have hcovered : v.legal.core.covered = s.legal.core.covered := by rw [hent.legal]
  rw [hu, ← hcovered]
  exact ⟨rfl, rfl, rfl, hacc⟩

/-- A demand interval that ends on the grid of the block method (11 R388). -/
theorem demandClose_closes {outage : Bool} (hlate : s.legal.core.dem.start < at_) (hblock : rd s P30.DEMAND_METHOD = 0) :
    let u := demandClose at_ false outage s
    u.legal.core.dem.start = at_ ∧ u.legal.core.dem.base = s.legal.core.acc.getD 3 0 ∧
      u.legal.core.lastDemand = demandW s (s.legal.core.acc.getD 3 0 - s.legal.core.dem.base) := by
  intro u
  let w := demandW s (s.legal.core.acc.getD 3 0 - s.legal.core.dem.base)
  obtain ⟨v, m, hent, hu⟩ : ∃ v m, Entered (modCore (fun d => { d with maxD := m, lastDemand := w }) s) v ∧
      u = startDemand at_ [] false v :=
    ⟨_, _, newEnt_entered, (if_neg (not_le.mpr hlate)).trans (if_pos (.inr (rdB_eq_false.mpr hblock)))⟩
  have hacc : v.legal.core.acc = s.legal.core.acc := by rw [hent.legal]; rfl
  have hlast : v.legal.core.lastDemand = w := by rw [hent.legal]; rfl
  rw [hu]
  exact ⟨rfl, congrArg (List.getD · 3 0) hacc, hlast⟩

theorem runClosure_closes {shifted : Bool} : let u := runClosure at_ false shifted s
    u.legal.bills = (billSet s 1 at_ (2 * b2n shifted) :: s.legal.bills).take 15 ∧
      u.legal.core.maxD = List.replicate 9 (0, 0) ∧ u.legal.snap = u.legal.core ∧ u.legal.core.acc = s.legal.core.acc ∧
      (s.tidy → rd u P31.CLOSURES = (rd s P31.CLOSURES + 1) % 2 ^ 32 ∧ rd u P31.LAST_SCHED_AT = at_ % 2 ^ 40) := by
  intro u
  have hflags : b2n false + 2 * b2n shifted = 2 * b2n shifted := Nat.zero_add _
  obtain ⟨v, hent, hrun⟩ := runClosure_steps (s := s) (at_ := at_) (pd := false) (shifted := shifted)
  rw [hflags] at hent
  have hu : u = _ := hrun
  obtain ⟨l, hclose⟩ := closePeriod_legal (b := billSet s 1 at_ (2 * b2n shifted)) (s := s)
  have hbills : v.legal.bills = (billSet s 1 at_ (2 * b2n shifted) :: s.legal.bills).take 15 := by rw [hent.legal, hclose]
  have hmax : v.legal.core.maxD = List.replicate 9 (0, 0) := by rw [hent.legal, hclose]
  have hacc : v.legal.core.acc = s.legal.core.acc := by rw [hent.legal, hclose]
  rw [hu]
  refine ⟨hbills, hmax, rfl, hacc, fun x => ?_⟩
  have xc := (closePeriod_wrote (b := billSet s 1 at_ (2 * b2n shifted))).tidy x
  have xv := hent.wrote.tidy xc
  refine ⟨?_, rd_wr_self xv⟩
  exact (rdI_wrI_field P31.LAST_SCHED_AT_known P31.CLOSURES_known (by decide) xv).trans
    ((hent.wrote.rd xc P31.CLOSURES_known (by decide)).trans (closePeriod_closures x))

theorem activateCal_activates {pd : Bool} : let u := activateCal at_ pd s
    u.legal.active = s.legal.passive ∧ u.legal.passive = s.legal.passive ∧
      (s.tidy → rd u P31.PENDING_AT = 0 ∧ rd u P31.ACTIVE_CAL_ID = calId s.legal.passive % 2 ^ 32) := by
  intro u
  obtain ⟨w, hw⟩ : ∃ w, w = { s with legal := { s.legal with active := s.legal.passive } } := ⟨_, rfl⟩
  obtain ⟨v, hv⟩ : ∃ v, v = wr P31.ACTIVE_CAL_ID (calId s.legal.passive) (wr P31.PENDING_AT 0 w) := ⟨_, rfl⟩
  obtain ⟨y, hy⟩ : ∃ y, y = legalLog 0x04 0 (calId s.legal.active) (calId s.legal.passive) v := ⟨_, rfl⟩
  have hent : Entered y u := by
    rw [hy, hv, hw]
    exact instantEnt_entered
  have hvlegal : v.legal = { s.legal with active := s.legal.passive } := by rw [hv, hw]; rfl
  obtain ⟨l, q, n, b, hlog⟩ := legalLog_legal (code := 0x04) (detail := 0) (old := calId s.legal.active)
    (new := calId s.legal.passive) (s := v)
  rw [← hy, hvlegal] at hlog
  have hlegal := hent.legal
  rw [hlog] at hlegal
  refine ⟨by rw [hlegal], by rw [hlegal], fun x => ?_⟩
  have xw : w.tidy = true := hw ▸ x
  have x1 := wr_tidy (v := 0) P31.PENDING_AT_known xw
  have xv : v.tidy = true := hv ▸ wr_tidy P31.ACTIVE_CAL_ID_known x1
  have hlater : ∀ g : Fld, g.known → ¬ logPages g → ¬ ringFields g → rd u g = rd v g := fun g hg hpage hring =>
    (hent.wrote.rd (hy ▸ legalLog_wrote.tidy xv) hg hpage).trans (hy ▸ legalLog_wrote.rd xv hg (not_or.mpr ⟨hring, hpage⟩))
  constructor
  · refine (hlater _ P31.PENDING_AT_known (by decide) (by decide)).trans ?_
    rw [hv]
    exact (rdI_wrI_field P31.ACTIVE_CAL_ID_known P31.PENDING_AT_known (by decide) x1).trans (rd_wr_self xw)
  · refine (hlater _ P31.ACTIVE_CAL_ID_known (by decide) (by decide)).trans ?_
    rw [hv]
    exact rd_wr_self x1

/-! Rate and pattern (11 R385). -/

/-- An evaluation sets rate and pattern on a state where the demand interval may have been split; an INSTANT entry may
follow. -/
theorem evalRate_steps {pd shifted always : Bool} : ∃ v, CoreMoved { s with legal := { s.legal with evalAt := at_ } } v ∧
    Entered (setRate (rateAt s at_).1 (rateAt s at_).2 v) (evalRate at_ pd shifted always s) := by
  obtain ⟨v, hv⟩ : ∃ v, v = if (rateAt s at_).1 = rd s P31.RATE_NOW then { s with legal := { s.legal with evalAt := at_ } }
    else demandClose at_ true pd { s with legal := { s.legal with evalAt := at_ } } := ⟨_, rfl⟩
  refine ⟨v, ?_, ?_⟩
  · rw [hv]
    split
    · exact .refl
    · exact demandClose_coreMoved
  · unfold evalRate
    dsimp only
    rw [← hv]
    split
    · exact .refl
    · exact instantEnt_entered

theorem setRate_reads {r p : Nat} (x : s.tidy = true) :
    rd (setRate r p s) P31.RATE_NOW = r % 16 ∧ rd (setRate r p s) P31.PATTERN_NOW = p % 256 := by
  have x1 := wr_tidy (v := r) P31.RATE_NOW_known x
  exact ⟨(rdI_wrI_field P31.PATTERN_NOW_known P31.RATE_NOW_known (by decide) x1).trans (rd_wr_self x), rd_wr_self x1⟩

/-- The fields that an evaluation writes. -/
abbrev rateFields (g : Fld) : Prop := g = P31.RATE_NOW ∨ g = P31.PATTERN_NOW ∨ logPages g

theorem evalRate_wrote {pd shifted always : Bool} : Wrote rateFields s (evalRate at_ pd shifted always s) := by
  obtain ⟨v, hmoved, hent⟩ := evalRate_steps (s := s) (at_ := at_) (pd := pd) (shifted := shifted) (always := always)
  have h0 : Wrote rateFields s { s with legal := { s.legal with evalAt := at_ } } := .same rfl rfl
  have h1 : Wrote rateFields s v :=
    h0.trans (hmoved.wrote.mono (w' := rateFields) fun _ hg => .inr (.inr hg))
  have h2 := (h1.wrI (v := (rateAt s at_).1) (i := 0) (w := rateFields) P31.RATE_NOW_known (.inl rfl)).wrI
    (v := (rateAt s at_).2) (i := 0) (w := rateFields) P31.PATTERN_NOW_known (.inr (.inl rfl))
  exact h2.trans (hent.wrote.mono fun _ hg => .inr (.inr hg))

theorem evalRate_sets {pd shifted always : Bool} : let u := evalRate at_ pd shifted always s
    u.legal.evalAt = at_ ∧ (s.tidy → rd u P31.RATE_NOW = (rateAt s at_).1 % 16 ∧
      rd u P31.PATTERN_NOW = (rateAt s at_).2 % 256) := by
  intro u
  obtain ⟨v, hmoved, hent⟩ := evalRate_steps (s := s) (at_ := at_) (pd := pd) (shifted := shifted) (always := always)
  obtain ⟨c, b, hv⟩ := hmoved.legal
  have hat : v.legal.evalAt = at_ := by rw [hv]
  refine ⟨(congrArg LegalSt.evalAt hent.legal).trans hat, fun x => ?_⟩
  have xv : v.tidy = true := hmoved.wrote.tidy x
  have xr : (setRate (rateAt s at_).1 (rateAt s at_).2 v).tidy = true :=
    wr_tidy P31.PATTERN_NOW_known (wr_tidy P31.RATE_NOW_known xv)
  obtain ⟨hrate, hpattern⟩ := setRate_reads (r := (rateAt s at_).1) (p := (rateAt s at_).2) xv
  exact ⟨(hent.wrote.rd xr P31.RATE_NOW_known (by decide)).trans hrate,
    (hent.wrote.rd xr P31.PATTERN_NOW_known (by decide)).trans hpattern⟩

/-! A change of local time (11 R395). -/

theorem runSkipped_wrote : Wrote scheduleFields s (runSkipped at_ s) := by
  unfold runSkipped
  split
  · exact .refl
  next hready =>
    clear hready
    generalize closuresIn s _ at_ = l
    induction l generalizing s with
    | nil => exact .refl
    | cons x l ih => exact runClosure_wrote.trans ih

/-- DST_ON is set once the demand interval has closed; what follows at the change leaves it. -/
theorem localChange_sets {lo : Int} : let u := localChange at_ lo s
    u.legal.evalAt = at_ ∧ (s.tidy → rd u P31.DST_ON = b2n (dstAt s at_)) := by
  intro u
  obtain ⟨v, hv⟩ : ∃ v, v = if metroOn s then demandClose at_ true false s else s := ⟨_, rfl⟩
  have hmoved : CoreMoved s v := by
    rw [hv]
    split
    · exact demandClose_coreMoved
    · exact .refl
  obtain ⟨w, hw⟩ : ∃ w, w = wrB P31.DST_ON (dstAt s at_) v := ⟨_, rfl⟩
  obtain ⟨o, b, hu⟩ : ∃ o b, u = evalRate at_ false b false (runSkipped at_ (instantEnt 4 at_ false false
      (rd w P31.RATE_NOW) (rd w P31.RATE_NOW) (rd w P31.PATTERN_NOW) (rd w P31.PATTERN_NOW)
      { w with legal := { w.legal with again := o } })) :=
    ⟨if (at_ : Int) + localOff w (dstAt s at_) < lo then some (at_, lo) else none,
      decide (lo < (at_ : Int) + localOff w (dstAt s at_)), by rw [hw, hv]; rfl⟩
  obtain ⟨y, hy⟩ : ∃ y, y = instantEnt 4 at_ false false (rd w P31.RATE_NOW) (rd w P31.RATE_NOW) (rd w P31.PATTERN_NOW)
      (rd w P31.PATTERN_NOW) { w with legal := { w.legal with again := o } } := ⟨_, rfl⟩
  rw [← hy] at hu
  have hent : Entered { w with legal := { w.legal with again := o } } y := hy ▸ instantEnt_entered
  have h1 : Wrote (fun g => g ≠ P31.DST_ON) w { w with legal := { w.legal with again := o } } := .same rfl rfl
  have h2 := (h1.trans (hent.wrote.except (by decide))).trans
    ((runSkipped_wrote (at_ := at_)).except (f := P31.DST_ON) (by decide))
  have h3 := h2.trans ((evalRate_wrote (at_ := at_) (pd := false) (shifted := b) (always := false)).except
    (f := P31.DST_ON) (by decide))
  rw [hu]
  refine ⟨evalRate_sets.1, fun x => (h3.rd ?_ P31.DST_ON_known (not_not.mpr rfl)).trans ?_⟩
  · exact hw ▸ wr_tidy P31.DST_ON_known (hmoved.wrote.tidy x)
  · rw [hw]
    exact (rd_wr_self (hmoved.wrote.tidy x)).trans (by cases dstAt s at_ <;> rfl)

end
end Sys2Proof.Machine
end

section
/-! Legal seconds, instants, steps, lockstep, the seal, the display and the pulses (11 R372 to R400; 15 R500, R501). -/
namespace Sys2Proof.Machine

section
variable {s t u : State} {at_ place : Nat}

/-! Measurement (11 R372). -/

@[simp] theorem length_addAcc {i n : Nat} {l : List Nat} : (addAcc i n l).length = l.length := List.length_set

theorem getD_addAcc_self {i n : Nat} {l : List Nat} (hi : i < l.length) : (addAcc i n l).getD i 0 = l.getD i 0 + n := by
  simp [addAcc, List.getD_eq_getElem?_getD, hi]

theorem getD_addAcc_ne {i j n : Nat} {l : List Nat} (hne : i ≠ j) : (addAcc i n l).getD j 0 = l.getD j 0 := by
  simp [addAcc, List.getD_eq_getElem?_getD, List.getElem?_set_ne hne]

theorem quadrant_ge {e q : Int} : 8 ≤ quadrant e q := by
  unfold quadrant
  split <;> split <;> decide

theorem creeps_congr {e : Int} (hr : t.regs = s.regs) : creeps t e = creeps s e := by
  rw [creeps, creeps, rd_congr hr]

/-- From `s` to `t` seconds were measured: the accumulators, the running profile interval, the instantaneous values and the
pulses that are due moved alone. -/
def Measured (s t : State) : Prop :=
  ∃ acc prof inst d, t = { s with
    legal := { s.legal with core := { s.legal.core with acc := acc, prof := prof }, inst := inst }, disp := d }

theorem Measured.refl : Measured s s := ⟨_, _, _, _, rfl⟩

theorem Measured.trans (h : Measured s t) (g : Measured t u) : Measured s u := by
  obtain ⟨_, _, _, _, rfl⟩ := h
  obtain ⟨_, _, _, _, rfl⟩ := g
  exact ⟨_, _, _, _, rfl⟩

theorem feedPulses_disp {e : Nat} : ∃ d, feedPulses e s = { s with disp := d } := by
  unfold feedPulses
  generalize List.range 8 = l
  induction l generalizing s with
  | nil => exact ⟨s.disp, rfl⟩
  | cons n l ih =>
    have hone : ∃ d, feedPulse e s n = { s with disp := d } := by
      unfold feedPulse
      split
      · exact ⟨s.disp, rfl⟩
      · exact ⟨_, rfl⟩
    obtain ⟨d, hd⟩ := hone
    obtain ⟨d', hd'⟩ := ih (s := feedPulse e s n)
    exact ⟨d', by rw [List.foldl_cons, hd', hd]⟩

theorem measure_measured {m : LegalSecIn} : Measured s (measure m s) := by
  unfold measure
  obtain ⟨d, hd⟩ := feedPulses_disp
  rw [hd]
  exact ⟨_, _, _, d, rfl⟩

theorem applySums_measured : Measured s (applySums s) := by
  unfold applySums
  generalize s.legal.sums.filter _ = l
  induction l generalizing s with
  | nil => exact .refl
  | cons x l ih => exact measure_measured.trans ih

theorem applySums_none (hnone : s.legal.sums.filter (fun x => !x.1) = []) : applySums s = s := by
  rw [applySums, hnone]
  rfl

/-- The total positive energy of a second joins A+ (11 R372). -/
theorem measure_import {m : LegalSecIn} (hlen : 3 < s.legal.core.acc.length) :
    let e := fun (k : Nat) => if creeps s (m.e.getD k 0) then 0 else m.e.getD k 0
    (measure m s).legal.core.acc.getD 3 0 = s.legal.core.acc.getD 3 0 + (e 0 + e 1 + e 2).toNat := by
  intro e
  unfold measure
  obtain ⟨d, hd⟩ := feedPulses_disp
  rw [hd]
  change (addAcc 12 _ (addAcc (quadrant _ _) _ (addAcc (21 + _) _ (addAcc (13 + _) _ (addAcc 7 _ (addAcc 3 _
    (addAcc (4 + 2) _ (addAcc 2 _ (addAcc (4 + 1) _ (addAcc 1 _ (addAcc (4 + 0) _ (addAcc 0 _ _)))))))))))).getD 3 0 = _
  rw [getD_addAcc_ne (by decide), getD_addAcc_ne (Nat.ne_of_gt (Nat.lt_of_lt_of_le (by decide) quadrant_ge)),
    getD_addAcc_ne (by omega), getD_addAcc_ne (by omega), getD_addAcc_ne (by decide), getD_addAcc_self (by simpa using hlen),
    getD_addAcc_ne (by decide), getD_addAcc_ne (by decide), getD_addAcc_ne (by decide), getD_addAcc_ne (by decide),
    getD_addAcc_ne (by decide), getD_addAcc_ne (by decide)]
  rfl

/-! The end of a legal second (11 R370, R372; 15 R500). -/

/-- The state of a legal second that has just ended, its sample sets summed. -/
abbrev secondEnded (s : State) : State :=
  endSets (legalSec s) (realign { s with legal := { s.legal with lastSec := legalSec s } })

theorem realign_legal : (realign s).legal = s.legal ∧ (realign s).regs = s.regs ∧ (realign s).cmd = s.cmd := by
  unfold realign
  split <;> exact ⟨rfl, rfl, rfl⟩

theorem endSets_legal : ∃ now sums, (endSets at_ s).legal = { s.legal with sets := now, sums := sums } ∧
    (endSets at_ s).regs = s.regs ∧ (metroRuns s = false → sums = s.legal.sums.drop (s.legal.sums.length - 64)) := by
  refine ⟨_, _, rfl, rfl, fun hoff => ?_⟩
  simp [hoff]

theorem secondEnded_legal : ∃ now sums,
    (secondEnded s).legal = { s.legal with lastSec := legalSec s, sets := now, sums := sums } ∧
    (secondEnded s).regs = s.regs ∧ (metroRuns s = false → sums = s.legal.sums.drop (s.legal.sums.length - 64)) := by
  obtain ⟨v, hv⟩ : ∃ v, v = realign { s with legal := { s.legal with lastSec := legalSec s } } := ⟨_, rfl⟩
  obtain ⟨hlegal, hregs, hcmd⟩ := realign_legal (s := { s with legal := { s.legal with lastSec := legalSec s } })
  rw [← hv] at hlegal hregs hcmd
  obtain ⟨now, sums, hend, hendRegs, hkept⟩ := endSets_legal (at_ := legalSec s) (s := v)
  have hsums : v.legal.sums = s.legal.sums := by rw [hlegal]
  have hruns : metroRuns v = metroRuns s := by
    simp only [metroRuns, metroOn, hubRole, legalStopped, rdB, rd_congr hregs, hcmd]
    rfl
  rw [hlegal] at hend
  rw [hsums, hruns] at hkept
  unfold secondEnded
  rw [← hv]
  exact ⟨now, sums, hend, hendRegs.trans hregs, hkept⟩

theorem applyCal_keeps : (applyCal at_ s).legal.core.acc = s.legal.core.acc ∧
    (applyCal at_ s).legal.lastSec = s.legal.lastSec := by
  unfold applyCal
  split
  · dsimp only
    split <;> exact ⟨rfl, rfl⟩
  · exact ⟨rfl, rfl⟩

theorem exec_legalSecondEnd (hnew : legalSec s ≠ s.legal.lastSec) : exec (.legalSecondEnd (legalSec s)) s =
    .next (if legalIdle s then secondEnded s
      else checkpointPair (applyCal (legalSec s) (applySums (secondEnded s)))) :=
  congrArg Host.Outcome.next (if_neg (not_or.mpr ⟨not_not.mpr rfl, hnew⟩))

/-- What the second's sums leave: a checkpoint that holds them all. -/
theorem secondEnded_applied : let t := checkpointPair (applyCal (legalSec s) (applySums (secondEnded s)))
    let fresh := (secondEnded s).legal.sums.filter (fun x => !x.1)
    t.legal.lastSec = legalSec s ∧ t.legal.check = t.legal.core.acc ∧ (∀ x ∈ t.legal.sums, x.1) ∧
    (fresh = [] → t.legal.core.acc = s.legal.core.acc) ∧
    (∀ m, fresh = [(false, m)] → 3 < s.legal.core.acc.length →
     let e := fun (k : Nat) => if creeps s (m.e.getD k 0) then 0 else m.e.getD k 0
     t.legal.core.acc.getD 3 0 = s.legal.core.acc.getD 3 0 + (e 0 + e 1 + e 2).toNat) := by
  intro t fresh
  obtain ⟨now, sums, hlegal, hregs, -⟩ := secondEnded_legal (s := s)
  have hacc : (secondEnded s).legal.core.acc = s.legal.core.acc := by rw [hlegal]
  have hlast : (secondEnded s).legal.lastSec = legalSec s := by rw [hlegal]
  have hsame : (applySums (secondEnded s)).legal.lastSec = (secondEnded s).legal.lastSec := by
    obtain ⟨a, p, i, d, hmeasured⟩ := applySums_measured (s := secondEnded s)
    rw [hmeasured]
  obtain ⟨hcalAcc, hcalLast⟩ := applyCal_keeps (at_ := legalSec s) (s := applySums (secondEnded s))
  refine ⟨hcalLast.trans (hsame.trans hlast), rfl, ?_, fun hnone => ?_, fun m hone hlen => ?_⟩
  · intro x hx
    obtain ⟨y, -, rfl⟩ := List.mem_map.mp hx
    rfl
  · exact hcalAcc.trans (by rw [applySums_none hnone, hacc])
  · have happly : applySums (secondEnded s) = measure m (secondEnded s) := by
      have hfresh : (secondEnded s).legal.sums.filter (fun x => !x.1) = [(false, m)] := hone
      rw [applySums, hfresh]
      rfl
    refine (congrArg (List.getD · 3 0) (hcalAcc.trans (congrArg (fun v => v.legal.core.acc) happly))).trans ?_
    have himport := measure_import (s := secondEnded s) (m := m) (hacc ▸ hlen)
    simp only [creeps_congr hregs, hacc] at himport
    exact himport

/-! Work due at an instant (11 R391). -/

theorem dueOf_due {x : Nat × Nat} (hbusy : legalIdle s = false) (hfirst : firstDue s (legalSec s) = some x)
    (hplace : x.2 = place) : dueOf place s = doDue x false s := by
  have hfirst' : firstDue s (nowL s) = some x := hfirst
  unfold dueOf
  rw [if_neg (by rw [hbusy]; decide), hfirst']
  exact if_pos hplace

theorem dueOf_other (hother : legalIdle s = true ∨ (firstDue s (legalSec s)).map Prod.snd ≠ some place) :
    dueOf place s = s := by
  unfold dueOf
  split
  · rfl
  next hbusy =>
    have hplace := hother.resolve_left hbusy
    split
    next x hfirst =>
      refine if_neg fun heq => hplace ?_
      rw [show firstDue s (legalSec s) = some x from hfirst, Option.map_some, heq]
    · rfl

/-- CALENDAR_MINUTE leaves the evaluation's instant, rate and pattern. -/
theorem driven_evalRate {pd shifted always : Bool} : (driveOutputs (evalRate at_ pd shifted always s)).legal.evalAt = at_ ∧
    (s.tidy = true → rd (driveOutputs (evalRate at_ pd shifted always s)) P31.RATE_NOW = (rateAt s at_).1 % 16 ∧
      rd (driveOutputs (evalRate at_ pd shifted always s)) P31.PATTERN_NOW = (rateAt s at_).2 % 256) := by
  obtain ⟨hat, hreads⟩ := evalRate_sets (s := s) (at_ := at_) (pd := pd) (shifted := shifted) (always := always)
  have hwrote := evalRate_wrote (s := s) (at_ := at_) (pd := pd) (shifted := shifted) (always := always)
  generalize evalRate at_ pd shifted always s = v at hat hreads hwrote
  refine ⟨by rw [driveOutputs_legal, hat], fun x => ?_⟩
  obtain ⟨hrate, hpattern⟩ := hreads x
  exact ⟨(driveOutputs_wrote.rd (hwrote.tidy x) P31.RATE_NOW_known (by decide)).trans hrate,
    (driveOutputs_wrote.rd (hwrote.tidy x) P31.PATTERN_NOW_known (by decide)).trans hpattern⟩

/-- A change of local time leaves its instant evaluated and DST_ON as the rule gives it. -/
theorem driven_localChange {lo : Int} : (driveOutputs (localChange at_ lo s)).legal.evalAt = at_ ∧
    (s.tidy = true → rd (driveOutputs (localChange at_ lo s)) P31.DST_ON = b2n (dstAt s at_)) := by
  obtain ⟨hat, hreads⟩ := localChange_sets (s := s) (at_ := at_) (lo := lo)
  have hkept := (localChange_kept (x0 := at_) (x1 := lo) (.refl s)).tidy
  generalize localChange at_ lo s = v at hat hreads hkept
  exact ⟨by rw [driveOutputs_legal, hat],
    fun x => (driveOutputs_wrote.rd (hkept x) P31.DST_ON_known (by decide)).trans (hreads x)⟩

theorem exec_calendarMinute (hbusy : legalIdle s = false) (hlate : s.legal.evalAt < thisMinute s)
    (hnone : firstDue s (thisMinute s) = none) :
    exec .calendarMinute s = .next (driveOutputs (evalRate (thisMinute s) false false false s)) := by
  refine congrArg Host.Outcome.next (if_neg ?_)
  rintro (hidle | hearly | hsome)
  · exact Bool.false_ne_true (hbusy.symm.trans hidle)
  · exact absurd hearly (not_le.mpr hlate)
  · rw [hnone] at hsome
    cases hsome

theorem exec_dstChange (hbusy : legalIdle s = false) (hnew : dstAt s (legalSec s) ≠ (rd s P31.DST_ON != 0)) :
    let at_ := ((lastDst s (legalSec s)).map (fun x => x.1.toNat)).getD (legalSec s)
    let u := catchUp false at_
      (4 * (legalSec s - min s.legal.evalAt (min s.legal.core.prof.start s.legal.core.dem.start)) + 16) s
    exec .dstChange s = .next (driveOutputs (localChange at_ ((at_ : Int) + localOff u (rd s P31.DST_ON != 0)) u)) := by
  refine congrArg Host.Outcome.next (if_neg ?_)
  rintro (hidle | hsame)
  · exact Bool.false_ne_true (hbusy.symm.trans hidle)
  · exact hnew hsame

/-! A step of legal time (03 R116; 11 R393, R394). -/

theorem establish_keeps : (establish s).tally = s.tally ∧ (establish s).regs = s.regs ∧ (establish s).mem = s.mem ∧
    (establish s).plumb.legalReplayed = s.plumb.legalReplayed := by
  unfold establish
  split <;> exact ⟨rfl, rfl, rfl, rfl⟩

/-- Legal time under its new offset, before the step is logged. -/
abbrev offsetSet (off : Int) (s : State) : State :=
  { establish s with plumb := { (establish s).plumb with deltaL := off, legalDue := none, slewL := 0 } }

theorem stepLegal_steps {off : Int} : ∃ d, stepLegal off s = checkDiverged (logEv evLegalTimeStepped d
    (wr P03.LEGAL_COMMISSIONED 1 (wr P03.LEGAL_INVALID 0 (wr P03.LEGAL_DIVERGED 0 (offsetSet off s))))) := ⟨_, rfl⟩

theorem stepLegal_keeps {off : Int} : (stepLegal off s).tally = s.tally ∧
    (stepLegal off s).plumb.legalReplayed = s.plumb.legalReplayed ∧ (stepLegal off s).plumb.legalDue = none ∧
    (stepLegal off s).plumb.deltaL = off := by
  obtain ⟨htally, -, -, hreplayed⟩ := establish_keeps (s := s)
  obtain ⟨d, hstep⟩ := stepLegal_steps (off := off) (s := s)
  obtain ⟨v, hv⟩ : ∃ v, v = wr P03.LEGAL_COMMISSIONED 1 (wr P03.LEGAL_INVALID 0 (wr P03.LEGAL_DIVERGED 0
    (offsetSet off s))) := ⟨_, rfl⟩
  have htallyV : v.tally = s.tally := by rw [hv]; exact htally
  have hplumbV : v.plumb = { (establish s).plumb with deltaL := off, legalDue := none, slewL := 0 } := by rw [hv]; rfl
  have hlogged : (logEv evLegalTimeStepped d v).tally = v.tally := by rw [logEv_logged.rest]
  have hplumb : (stepLegal off s).plumb = v.plumb := by rw [hstep, ← hv, checkDiverged_plumb, logEv_plumb]
  refine ⟨?_, ?_, ?_, ?_⟩
  · rw [hstep, ← hv]
    exact (checkDiverged_keeps (part := State.tally) (fun _ _ _ => by rw [logEv_logged.rest]) (fun _ _ _ => rfl)).trans
      (hlogged.trans htallyV)
  · rw [hplumb, hplumbV]
    exact hreplayed
  · rw [hplumb, hplumbV]
  · rw [hplumb, hplumbV]

theorem stepLegal_reads {off : Int} (x : s.tidy = true) : rd (stepLegal off s) P03.LEGAL_COMMISSIONED = 1 ∧
    rd (stepLegal off s) P03.LEGAL_INVALID = 0 := by
  obtain ⟨d, hstep⟩ := stepLegal_steps (off := off) (s := s)
  obtain ⟨v, hv⟩ : ∃ v, v = offsetSet off s := ⟨_, rfl⟩
  rw [← hv] at hstep
  have xv : v.tidy = true := by
    rw [hv]
    exact (establish_kept (.refl s)).tidy x
  have x1 := wr_tidy (v := 0) P03.LEGAL_DIVERGED_known xv
  have x2 := wr_tidy (v := 0) P03.LEGAL_INVALID_known x1
  have x3 := wr_tidy (v := 1) P03.LEGAL_COMMISSIONED_known x2
  have hafter : Wrote divergedFields _ (stepLegal off s) :=
    hstep ▸ (Wrote.logEv (w := divergedFields) (fun _ => .inl) .refl).trans checkDiverged_wrote
  exact ⟨(hafter.rd x3 P03.LEGAL_COMMISSIONED_known (by decide)).trans (rd_wr_self x2),
    (hafter.rd x3 P03.LEGAL_INVALID_known (by decide)).trans
      ((rdI_wrI_field P03.LEGAL_COMMISSIONED_known P03.LEGAL_INVALID_known (by decide) x2).trans (rd_wr_self x1))⟩

theorem legalNs_congr (hp : t.plumb = s.plumb) (hb : t.batt = s.batt) : legalNs t = legalNs s := by
  rw [legalNs, legalNs, chainNs, chainNs, hp, hb]

/-- Beside legal time, a step takes the replayed offset and notes both times for Tally. -/
theorem stepAndNote_steps {d : Int} : ∃ v w l, v.tally = s.tally ∧ v.tidy = s.tidy ∧ v.plumb.legalReplayed = none ∧
    w = stepLegal d v ∧ l = w.tally.stepped ++ [legalNs s, legalNs w] ∧
    stepAndNote d s = { w with tally := { w.tally with stepped := l } } :=
  ⟨{ s with plumb := { s.plumb with legalReplayed := none } }, _, _, rfl, rfl, rfl, rfl, rfl, rfl⟩

theorem stepAndNote_notes {d : Int} (x : s.tidy = true) : let t := stepAndNote d s
    rd t P03.LEGAL_COMMISSIONED = 1 ∧ rd t P03.LEGAL_INVALID = 0 ∧ t.plumb.legalDue = none ∧
      t.plumb.legalReplayed = none ∧ t.plumb.deltaL = d ∧ t.tally.stepped = s.tally.stepped ++ [legalNs s, legalNs t] := by
  obtain ⟨v, w, l, hvtally, htidy, hnone, hw, hl, hnote⟩ := stepAndNote_steps (d := d) (s := s)
  obtain ⟨htally, hreplayed, hdue, hoff⟩ := stepLegal_keeps (off := d) (s := v)
  obtain ⟨hcommissioned, hinvalid⟩ := stepLegal_reads (off := d) (htidy.trans x)
  rw [← hw] at htally hreplayed hdue hoff hcommissioned hinvalid
  have hplumb : (stepAndNote d s).plumb = w.plumb := by rw [hnote]
  have htimes : legalNs (stepAndNote d s) = legalNs w := legalNs_congr hplumb (by rw [hnote])
  have hstepped : (stepAndNote d s).tally.stepped = l := by rw [hnote]
  have hregs : (stepAndNote d s).regs = w.regs := by rw [hnote]
  dsimp only
  rw [rd_congr hregs, rd_congr hregs, hplumb, htimes, hstepped, hl, htally, hvtally]
  exact ⟨hcommissioned, hinvalid, hdue, hreplayed.trans hnone, hoff, rfl⟩

theorem exec_legalTimeStepped {d : Int} (hstep : stepWaits s = some d) (hsettled : s.legal.restore = false) :
    exec .legalTimeStepped s = .next (
      if legalIdle s then stepAndNote d s
      else
        let s1 := splitBoth (legalSec s) (catchUpNow false s)
        let s2 := stepAndNote d s1
        driveOutputs (legalFields (afterStep (legalSec s) (!rdB s1 P03.LEGAL_COMMISSIONED) (stepDetail s1)
          { s2 with legal := { s2.legal with lastSec := legalSec s2 } }))) := by
  have hready : ¬ (s.legal.restore = true ∧ running s = true ∧ legalStopped s = false) := by
    rw [hsettled]
    exact fun hgo => Bool.false_ne_true hgo.1
  change execLegalTimeStepped s = _
  simp only [execLegalTimeStepped, hstep, if_neg hready, nowL]

/-! Lockstep (15 R501). -/

theorem postEntry_legal {e : Entry} : (postEntry e s).legal = s.legal := by
  obtain ⟨l, hl⟩ := postEntry_eq (e := e) (s := s)
  rw [hl]

theorem postOne_nextNo {x : LegalEnt} : (postOne x s).legal.core.nextNo = s.legal.core.nextNo := by
  unfold postOne
  dsimp only
  split
  · rfl
  · rw [postEntry_legal]
    rfl

theorem legalPost_nextNo : (legalPost s).legal.core.nextNo = s.legal.core.nextNo := by
  have hposts : ∀ {l : List LegalEnt} {v : State}, (l.foldl (fun t x => postOne x t) v).legal.core.nextNo =
      v.legal.core.nextNo := by
    intro l
    induction l with
    | nil => exact rfl
    | cons x l ih => exact ih.trans postOne_nextNo
  unfold legalPost
  split
  · exact hposts
  · rfl

theorem legalRepost_entered : Entered s (legalRepost s) :=
  (Entered.queued (n := s.legal.core.nextNo) (b := s.legal.fullLogged) .refl).trans legalPost_entered

/-- The mismatches of the last 24 hours. -/
abbrev recentMismatches (s : State) : List Nat := s.legal.mismatches.filter (fun t => decide (s.now < t + 86400 * 8000))

/-- The state in which a mismatch is counted and logged. -/
abbrev mismatchNoted (s : State) : State := logEv evLegalLockstep [] (bump P50.LOCKSTEP_MISMATCHES
  { s with legal := { s.legal with mismatches := recentMismatches s ++ [s.now] } })

theorem exec_legalLockstep : exec .legalLockstep s = .next (
    if legalStopped s then s
    else if 3 ≤ (recentMismatches s ++ [s.now]).length then
      logEv evLegalFrozen [] { mismatchNoted s with cmd := { (mismatchNoted s).cmd with
        funcFailed := assocSet 0x31 3 (assocSet 0x30 3 (mismatchNoted s).cmd.funcFailed) } }
    else legalRepost (applySums (modCore (fun c => { c with acc := s.legal.check }) (mismatchNoted s)))) := by
  have hrecent : s.legal.mismatches.filter (fun t => !passed s t (secBeats 86400)) = recentMismatches s := by
    refine List.filter_congr fun t _ => ?_
    rw [passed, ← decide_not]
    exact decide_eq_decide.mpr not_le
  change execLegalLockstep s = _
  simp only [execLegalLockstep, hrecent]

theorem mismatchNoted_keeps : (mismatchNoted s).legal = { s.legal with mismatches := recentMismatches s ++ [s.now] } ∧
    (mismatchNoted s).cmd.funcFailed = s.cmd.funcFailed :=
  ⟨logEv_legal, by rw [mismatchNoted, logEv_logged.rest]; rfl⟩

theorem mismatch_restored : let t := legalRepost (applySums (modCore (fun c => { c with acc := s.legal.check }) (mismatchNoted s)))
    (s.legal.sums.filter (fun x => !x.1) = [] → t.legal.core.acc = s.legal.check) ∧
      t.legal.mismatches = recentMismatches s ++ [s.now] ∧ legalStopped t = legalStopped s ∧
      t.legal.core.nextNo = s.legal.core.nextNo := by
  intro t
  obtain ⟨hlegal, hfailed⟩ := mismatchNoted_keeps (s := s)
  obtain ⟨v, hv⟩ : ∃ v, v = modCore (fun c => { c with acc := s.legal.check }) (mismatchNoted s) := ⟨_, rfl⟩
  have hlegalV : v.legal = { s.legal with
      core := { s.legal.core with acc := s.legal.check },
      mismatches := recentMismatches s ++ [s.now] } := by rw [hv]; simp only [modCore, hlegal]
  have hfailedV : v.cmd.funcFailed = s.cmd.funcFailed := by rw [hv]; exact hfailed
  have hent : Entered (applySums v) t := hv ▸ legalRepost_entered
  have hnextNo : t.legal.core.nextNo = (applySums v).legal.core.nextNo := hv ▸ legalPost_nextNo
  obtain ⟨a, p, i, d, hmeasured⟩ := applySums_measured (s := v)
  refine ⟨fun hnone => ?_, ?_, ?_, ?_⟩
  · have hsame : applySums v = v := applySums_none (by rw [hlegalV]; exact hnone)
    rw [hent.legal, hsame, hlegalV]
  · rw [hent.legal, hmeasured, hlegalV]
  · have hcmd : t.cmd.funcFailed = (applySums v).cmd.funcFailed := by rw [hent.rest]
    rw [legalStopped, legalStopped, hcmd, hmeasured, ← hfailedV]
  · rw [hnextNo, hmeasured, hlegalV]

theorem mismatch_frozen {l : List (Nat × Nat)} {c : Nat} (v : State) (hv : v.cmd.funcFailed = assocSet 0x31 3 (assocSet 0x30 3 l)) :
    assocGet 0x30 (logEv c [] v).cmd.funcFailed = some 3 ∧ assocGet 0x31 (logEv c [] v).cmd.funcFailed = some 3 := by
  have hfailed : (logEv c [] v).cmd.funcFailed = v.cmd.funcFailed := by rw [logEv_logged.rest]
  rw [hfailed, hv]
  exact ⟨(assocGet_assocSet_ne (by decide)).trans assocGet_assocSet_self, assocGet_assocSet_self⟩

/-! Display and pulses (11 R398 to R400). -/

theorem frameDue_iff : frameDue s = true ↔
    ∀ i a, s.disp.shown = some (i, a) → i ≠ shownItem s ∨ a + 8000 ≤ s.now := by
  cases hshown : s.disp.shown with
  | none => simp [frameDue, hshown]
  | some x =>
    obtain ⟨j, b⟩ := x
    simp [frameDue, hshown, passed_iff, secBeats]

theorem displayFrame_length : (displayFrame s).length = 17 := by
  have hbytes : ∀ l : List Nat, ((l.map (leB 1)).flatten).length = l.length := fun l => by
    induction l with
    | nil => rfl
    | cons x l ih => rw [List.map_cons, List.flatten_cons, List.length_append, ih, leB_length, List.length_cons, Nat.add_comm]
  unfold displayFrame
  dsimp only
  simp only [List.length_append, leB_length, hbytes, zeros, List.length_replicate]
  cases shownItem s with
  | none => rfl
  | some i => rfl

/-- The time since the pulse before allows another (11 R400). -/
def pulseFree (q : PulseSt) (s : State) : Bool :=
  match q.from_ with
  | some t => passed s t (msBeats (2 * rd s P32.PULSE_MS))
  | none => true

theorem pulseFree_iff {q : PulseSt} :
    pulseFree q s = true ↔ ∀ t, q.from_ = some t → t + 2 * rd s P32.PULSE_MS * 8 ≤ s.now := by
  cases hfrom : q.from_ with
  | none => simp [pulseFree, hfrom]
  | some t => simp [pulseFree, hfrom, passed_iff, msBeats]

theorem exec_outputPulse {n : Fin 8} : let q := s.disp.pulses.getD n.val {}
    exec (.outputPulse n) s = .next (
      if outReleased s = true ∨ outMode s n.val ≠ 3 ∨ q.backlog = 0 ∨ pulseFree q s = false then s
      else driveOutputs (emit (.pulse n.val (rd s P32.PULSE_MS)) (modPulse n.val (fun x => { x with
        backlog := x.backlog - 1, from_ := some s.now, until_ := s.now + rd s P32.PULSE_MS * 8 }) s))) := rfl

end

/-- Settles O59: a second by its sums, an instant by the piece of work first due, the other events by their conditions. -/
theorem legalEventsComplete : Obligations.LegalEventsComplete := by
  refine ⟨?second, ?due, ?other, ?minute, ?dst, ?stepped, ?noted, ?lockstep, ?sealed, ?button, ?scroll, ?timeout, ?refresh,
    ?pulse⟩
  case second =>
    intro s
    constructor
    · refine fun k hk => congrArg Host.Outcome.next (if_pos ?_)
      obtain hother | hlast := hk
      · exact .inl (Ne.symm hother)
      · exact or_iff_not_imp_left.mpr fun heq => (not_not.mp heq).trans hlast
    · intro hnew u fresh
      refine ⟨fun hidle => (exec_legalSecondEnd hnew).trans (congrArg _ (if_pos hidle)), fun hbusy =>
        ⟨_, (exec_legalSecondEnd hnew).trans (congrArg _ (if_neg (by rw [hbusy]; decide))), secondEnded_applied⟩,
        fun hoff => ?_⟩
      obtain ⟨now, sums, hlegal, -, hkept⟩ := secondEnded_legal (s := s)
      exact (congrArg LegalSt.sums hlegal).trans (hkept hoff)
  case due =>
    intro t s hbusy c
    have hdue : ∀ {k place : Nat}, firstDue s (legalSec s) = some (t, k) → k = place → dueOf place s = doDue (t, k) false s :=
      fun hfirst hplace => dueOf_due hbusy hfirst hplace
    refine ⟨fun hfirst hlate => ⟨_, congrArg Host.Outcome.next (hdue hfirst rfl), profileClose_closes hlate⟩,
      fun hfirst hlate hblock => ⟨_, congrArg Host.Outcome.next (hdue hfirst rfl), demandClose_closes hlate hblock⟩,
      fun hfirst => ⟨_, congrArg Host.Outcome.next (hdue hfirst rfl), runClosure_closes⟩,
      fun hfirst => ⟨_, congrArg Host.Outcome.next (hdue hfirst rfl), activateCal_activates⟩⟩
  case other =>
    intro s first
    exact ⟨fun hno => congrArg Host.Outcome.next (dueOf_other hno), fun hno => congrArg Host.Outcome.next (dueOf_other hno),
      fun hno => congrArg Host.Outcome.next (dueOf_other hno), fun hno => congrArg Host.Outcome.next (dueOf_other hno)⟩
  case minute =>
    intro s m
    exact ⟨fun hbusy hlate hnone => ⟨_, exec_calendarMinute hbusy hlate hnone, driven_evalRate⟩, fun hno =>
      congrArg Host.Outcome.next (if_pos (hno.imp_right (Or.imp_right Option.isSome_iff_ne_none.mpr)))⟩
  case dst =>
    intro s old
    refine ⟨fun hno => congrArg Host.Outcome.next (if_pos hno), ?_⟩
    intro hbusy hnew at_ u
    have hexec : exec .dstChange s = .next (driveOutputs (localChange at_ ((at_ : Int) + localOff u old) u)) :=
      exec_dstChange hbusy hnew
    have xu : s.tidy = true → u.tidy = true := (catchUp_legalWork .refl).wrote.tidy
    clear_value u at_
    obtain ⟨hat, hreads⟩ := driven_localChange (s := u) (at_ := at_) (lo := (at_ : Int) + localOff u old)
    exact ⟨_, hexec, rfl, hat, fun x => hreads (xu x)⟩
  case stepped =>
    intro s r
    refine ⟨fun hnone => ?_, fun d hstep hsettled => ⟨fun hidle => (exec_legalTimeStepped hstep hsettled).trans
      (congrArg _ (if_pos hidle)), fun hbusy => (exec_legalTimeStepped hstep hsettled).trans (congrArg _ (if_neg ?_))⟩⟩
    · change execLegalTimeStepped s = _
      simp only [execLegalTimeStepped, hnone]
    · rw [hbusy]
      decide
  case noted =>
    intro d s x
    exact stepAndNote_notes x
  case lockstep =>
    intro s r recent
    have hlen : (recentMismatches s ++ [s.now]).length = recent.length + 1 := List.length_append
    refine ⟨fun hstopped => exec_legalLockstep.trans (congrArg _ (if_pos hstopped)), fun hruns hfew => ?_, fun hruns hmany => ?_⟩
    · have hexec := exec_legalLockstep.trans (congrArg Host.Outcome.next ((if_neg (by rw [hruns]; decide)).trans
        (if_neg (by omega : ¬ 3 ≤ (recentMismatches s ++ [s.now]).length))))
      obtain ⟨hacc, hmismatches, hstopped, hnext⟩ := mismatch_restored (s := s)
      exact ⟨_, hexec, hacc, hmismatches, hstopped.trans hruns, hnext⟩
    · exact ⟨_, exec_legalLockstep.trans (congrArg Host.Outcome.next ((if_neg (by rw [hruns]; decide)).trans
        (if_pos (by omega)))), mismatch_frozen _ rfl⟩
  case sealed =>
    intro b s
    exact ⟨fun hsame => congrArg Host.Outcome.next (if_pos hsame), fun hnew => congrArg Host.Outcome.next (if_neg hnew)⟩
  case button =>
    intro s
    exact ⟨fun hsome => congrArg Host.Outcome.next (if_neg (by simpa using hsome)),
      fun hnone => congrArg Host.Outcome.next (if_pos (by simp [hnone]))⟩
  case scroll =>
    intro s due
    have hcond : (s.disp.onButton = true ∨ s.disp.auto.isEmpty = true ∨
        passed s s.disp.autoTick (secBeats (rd s P32.SCROLL_S)) = false) ↔ ¬ due := by
      rw [← Bool.not_eq_true, passed_iff, List.isEmpty_iff, ← Bool.not_eq_false]
      simp only [due, not_and_or, not_not, ne_eq]
      rfl
    exact ⟨fun hdue => congrArg Host.Outcome.next (if_neg fun hno => hcond.mp hno hdue),
      fun hno => congrArg Host.Outcome.next (if_pos (hcond.mpr hno))⟩
  case timeout =>
    intro s due
    have hcond : (s.disp.onButton = true ∧ passed s s.disp.pressTick (secBeats (rd s P32.DISP_TIMEOUT)) = true) ↔ due := by
      rw [passed_iff]
      rfl
    exact ⟨fun hdue => congrArg Host.Outcome.next (if_pos (hcond.mpr hdue)),
      fun hno => congrArg Host.Outcome.next (if_neg (hcond.not.mpr hno))⟩
  case refresh =>
    intro s u due
    have hcond : (rdB s P32.DISP_EN = false ∨ frameDue s = false) ↔ ¬ due := by
      rw [← Bool.not_eq_true, ← Bool.not_eq_true, rdB_eq_true, frameDue_iff, ← not_and_or]
    exact ⟨fun hdue => ⟨congrArg Host.Outcome.next (if_neg fun hno => hcond.mp hno hdue),
        congrArg Host.Outcome.next (if_neg fun hno => hcond.mp hno hdue)⟩,
      fun hno a => congrArg Host.Outcome.next (if_pos (hcond.mpr hno)), displayFrame_length⟩
  case pulse =>
    intro n s q ms due
    have hcond : (outReleased s = true ∨ outMode s n.val ≠ 3 ∨ q.backlog = 0 ∨ pulseFree q s = false) ↔ ¬ due := by
      rw [← Bool.not_eq_true (pulseFree q s), pulseFree_iff, ← Bool.not_eq_false]
      simp only [due, not_and_or, not_not, ne_eq]
      rfl
    exact ⟨fun hdue => exec_outputPulse.trans (congrArg _ (if_neg fun hno => hcond.mp hno hdue)),
      fun hno => exec_outputPulse.trans (congrArg _ (if_pos (hcond.mpr hno)))⟩

end Sys2Proof.Machine
end
